-- ==== Sys2Proof/Word.lean ====
section
/-!
DEFINITION. The words of the hardware: bytes, the 32-bit words of the control space (R3), the 64-bit scalar words.
-/

-- Proofs are elaborated one after another: as one text, the package would wait in too many threads at once.
set_option Elab.async false

namespace Sys2Proof

/-- One byte. -/
abbrev Byte := BitVec 8

/-- A word of the module control space (R3). -/
abbrev Word := BitVec 32

/-- A 64-bit scalar register or 64-bit quantity (R9, R57). -/
abbrev DWord := BitVec 64

end Sys2Proof
end

