-- ==== Sys2Proof/Syntax.lean ====
section
/-!
DEFINITION. The commands of the block: every row of the table of operations and events is a constructor of Instr, with
the operands that the row's rule needs from outside: who acts, on what, and what the environment shows or measures at
that moment (log entry 2).
-/

namespace Sys2Proof

/-- The two Kilns. -/
inductive Kiln where
  | ka | kb
deriving DecidableEq, Repr

/-- The power domains of R20 that a fault can remove. -/
inductive Domain where
  | aux | iod | core (d : Nat) | mem (d : Nat) | opt (k : Nat)
deriving DecidableEq, Repr

/-- The straps as the ROMs read them at AUX power-up (R460, R461): none where the eight readings differ or, for the rack,
lie out of band. -/
structure Straps where
  slot : Option Nat
  rack : Option Nat
  tripSel : Option Nat
  pwrClass : Option Nat
deriving DecidableEq, Repr

/-- Why a transmission on a row-bus port did not complete (R373, R375): arbitration lost, or an error; own: a bit error
in the control, data or CRC field of a frame whose arbitration the port had won. -/
inductive TxFail where
  | arbitration
  | error (own : Bool)
deriving DecidableEq, Repr

/-- A frame on a row-bus port (R362): its identifier, whether that has 29 bits, whether it is a remote frame, its payload, the
nominal rate at which it came (as NOM_RATE), whether it switches the bit rate, and whether its data phase shows no error at the
rate that the port uses or tries. -/
structure RowFrame where
  ident : Nat
  extended : Bool
  remote : Bool
  data : List Byte
  nom : Nat
  brs : Bool
  dataOk : Bool
deriving DecidableEq, Repr

/-- What the code of a cluster store shows when a command reads it (R34): nothing, corrected errors at line addresses, or an
uncorrectable error. -/
inductive StoreEcc where
  | clean
  | corrected (addrs : List Nat)
  | ue
deriving DecidableEq, Repr

/-- What the code of a memory pair shows when a command reads it (R109 to R111): nothing, a corrected error, more errors than
the code corrects taken for a corrected error, or an uncorrectable error on both reads. A command that reads several pairs
gives a list, one for each pair in order; a pair beyond its end shows nothing. -/
inductive MemEcc where
  | clean | corrected | miscorrected | ue
deriving DecidableEq, Repr

/-- A packet as it stands on a link (R198, R236): the fields of its header, and its payload. dst and src are the 16-bit words of
bytes 2 to 5, rsv6 the bits [7:6] of byte 6, rsv15 byte 15, addr the 64 bits of bytes 16 to 23. -/
structure Pkt where
  ver : Nat
  typ : Nat
  dst : Nat
  src : Nat
  len : Nat
  vc : Nat
  spray : Bool
  rsv6 : Nat
  status : Nat
  tag : Nat
  gate : Nat
  inc : Nat
  rsv15 : Nat
  addr : Nat
  aux : Nat
  pcrc : Nat
  payload : List Byte
deriving DecidableEq, Repr

/-- A flit as it stands on a link after the Reed-Solomon code has done its work (R191): the fields of bytes 0 to 7, rsv the bits
[63:36], then DATA and CRC. -/
structure Flit where
  fver : Nat
  fseq : Nat
  ackseq : Nat
  nak : Bool
  idle : Bool
  crVc : Nat
  crCount : Nat
  rsv : Nat
  data : List Byte
  crc : Nat
deriving DecidableEq, Repr

/-- The scalar functions of opcodes 0x01 to 0x1F (R57); the spec gives their kinds and no encodings (log entry 10). The
compares give the word of log entry 9; other is any further function of those kinds. -/
inductive ScalarFn where
  | add | sub | mul | and | or | xor | not | shl | shr | sar | eq | ne | lt | le | ltu | leu | other
deriving DecidableEq, Repr

/-- The branches of opcodes 0x20 to 0x27 (R57): a jump, conditions on SRCA and SRCB, and any further condition
(log entry 10). -/
inductive BranchCond where
  | always | eq | ne | lt | ge | ltu | geu | other
deriving DecidableEq, Repr

/-- The rounding modes of the vector unit (R55). -/
inductive VecRound where
  | rne | rtz | up | down
deriving DecidableEq, Repr

/-- The narrow formats of the vector conversions (R55, R51). -/
inductive VecFmt where
  | bf16 | e4m3 | e5m2 | e2m1 | int32
deriving DecidableEq, Repr

/-- The compares of the vector unit. -/
inductive VecCmp where
  | eq | lt | le
deriving DecidableEq, Repr

/-- The approximations of the vector unit. -/
inductive VecApprox where
  | recip | rsqrt | exp2 | log2
deriving DecidableEq, Repr

/-- A vector operation with its registers, addresses and modes (R55, R57): the spec gives the operations of opcodes 0x40
to 0x7F and no encodings (log entry 10). Registers are v0 to v15; d is the destination. -/
inductive VecOp where
  | load (d addr : Nat)
  | store (a addr : Nat)
  | fma (rm : VecRound) (d a b c : Nat)
  | add (rm : VecRound) (d a b : Nat)
  | sub (rm : VecRound) (d a b : Nat)
  | mul (rm : VecRound) (d a b : Nat)
  | min (d a b : Nat)
  | max (d a b : Nat)
  | abs (d a : Nat)
  | neg (d a : Nat)
  | compare (fn : VecCmp) (d a b : Nat)
  | select (d m a b : Nat)
  | approx (fn : VecApprox) (d a : Nat)
  | convertTo (fmt : VecFmt) (rm : VecRound) (sat : Bool) (d a : Nat)
  | convertFrom (fmt : VecFmt) (rm : VecRound) (d a : Nat)
  | laneSum (rm : VecRound) (a : Nat)
  | laneMax (a : Nat)
  | permute (d a : Nat) (lanes : List Nat)
  | broadcast (d a lane : Nat)
deriving DecidableEq, Repr

/-- What the training of a port or link finds (R194, R195, R235): received light, a laser bias out of range, the lanes that lock,
the far capability word, a clash or the far module ID, whether a step exceeded its limit, and the milliseconds since the link
left UP (R192). -/
structure Train where
  light : Bool
  laserFault : Bool
  lanes : Nat
  far : Nat
  clash : Bool
  farId : Nat
  late : Bool
  ms : Nat
deriving DecidableEq, Repr

/-- What the Kilns and the dies measure for a control cycle (R21, R282 to R286): sensor readings by sensor ID in the units
of R310 (temperatures 1/16 °C, pressure kPa, flow 0.01 L/min), the power of a sensor's heat source, of the zones, of the
dies and of the module input in mW, the non-die draw in µW, and what DRV and MOD_PWR_INPUT show (R359 to R361, R471): coil
currents in 10 mA, resistances in 10 mΩ and window energies in mJ, switch currents in 10 mA, pump speeds in rpm and phase
currents in mA, and the input voltage in 10 mV. -/
structure Meas where
  readings : List (Nat × Int)
  /-- Readings of the standby's own converters where they differ. -/
  shadow : List (Nat × Int)
  sourceMw : List (Nat × Nat)
  zoneMw : List Nat
  dieMw : List Nat
  inputMw : Nat
  nonDieUw : Nat
  coil : List Nat
  coilRes : List Nat
  coilMj : List Nat
  switchCur : List Nat
  pumpRpm : List Nat
  pumpMa : List Nat
  volt : Nat
  /-- Dies whose heartbeat has moved, as a mask (R273). -/
  moved : Nat
  /-- Stacks that copy a channel, with the pair up to which they have copied it (R118). -/
  copied : List (Nat × Nat)
deriving DecidableEq, Repr

/-- What the self-checks of R262 find in a control cycle: true where a check fails. -/
structure Checks where
  memUe : Bool
  codeCrc : Bool
  unfinished : Bool
  acq : Bool
deriving DecidableEq, Repr

/-- A row that fails the start-up memory test (R431): its stack, physical channel, bank and row, whether a pair of it is
UNCORRECTABLE, and whether a post-package repair of it would pass its check read. -/
structure RowBad where
  stack : Nat
  pch : Nat
  bank : Nat
  row : Nat
  unc : Bool
  fixed : Bool
deriving DecidableEq, Repr

/-- What the tests of a power-up find (R104, R426, R431): physical clusters that fail, channels that fail training as stack
and physical channel, and failing rows. -/
structure PowerTests where
  clusters : List Nat
  channels : List (Nat × Nat)
  rows : List RowBad
deriving DecidableEq, Repr

/-- A failing pair that MEM_TEST finds (R435): its place, the symbols in error, the failing reads, the pins, the beats of
its two bursts, the lowest failing bit and the march element of its first failure. -/
structure PairBad where
  stack : Nat
  pch : Nat
  bank : Nat
  row : Nat
  pair : Nat
  symbols : Nat
  reads : Nat
  dq : Nat
  beat0 : Nat
  beat1 : Nat
  firstBit : Nat
  element : Nat
deriving DecidableEq, Repr

/-- A drive-stage command frame, or its echo (R342): valves holds the codes of V0 to V7 as 16-bit two's complement, rsv the
reserved bits of bytes 1 and 22 to 27, lowest first. -/
structure DriveFrame where
  ver : Nat
  pumpEn : Nat
  retry : Nat
  seq : Nat
  valves : List Nat
  rpm : Nat
  rsv : Nat
  crc : Nat
deriving DecidableEq, Repr

/-- The commands: one constructor for each row of the table of operations and events. -/
inductive Instr where
  /-- CFG_RD (R237): A host register read packet over the Tornath link is checked for alignment and range and answered with CFG_RSP. -/
  | cfgRd (p : Pkt)
  /-- CFG_WR (R237): A host register write packet over the Tornath link is checked and applied to the control space. -/
  | cfgWr (p : Pkt)
  /-- REGISTER_WRITE (R5): A write to a register that has no behaviour of its own acts on its fields according to their access codes. -/
  | registerWrite (addr : Word) (data : Word)
  /-- LO_WORD_READ (R9): A read of the low word of a 64-bit pair latches the high word for the next read. -/
  | loWordRead (addr : Word)
  /-- HELD_RWC_WRITE (R7): An RWC write that was held during a commit of its block is applied when that commit completes. -/
  | heldRwcWrite
  /-- HELD_COMMIT (R475): A commit write that was held while BUSY was set commits the shadow set as it then stands, once the running commit ends. -/
  | heldCommit
  /-- MEM_RD (R238): A host read of module memory returns data, RANGE or MEM_ERROR, without Mill expansion. -/
  | memRd (p : Pkt) (mecc : List MemEcc)
  /-- MEM_WR (R238): A host write to module memory is applied, mirrored where the region is mirrored, and merged for partial pairs. -/
  | memWr (p : Pkt) (mecc : List MemEcc)
  /-- HMEM_ACK (R240): The adapter acknowledges or refuses a module write into host memory; a refusal makes the link retrain and the write count as lost. -/
  | hmemAck (p : Pkt)
  /-- HMEM_WR_TIMEOUT (R240): A module write into host memory unacknowledged for 5 ms makes the link retrain and counts as lost, setting CQ_LOST for a completion record. -/
  | hmemWrTimeout (tag : Nat)
  /-- KILN_ACCESS_RELEASE (R237): A host access to a Kiln block that was held during a handover is served once a Kiln holds ACT_OWN. -/
  | kilnAccessRelease
  /-- KILN_ACCESS_TIMEOUT (R237): A held Kiln-block access with no owner after 5 ms is answered NOT_READY, and a write has no effect. -/
  | kilnAccessTimeout
  /-- AUX_POWER_UP (R451): With PWR_IN present for 100 ms and SEATED_N low for 50 ms, the AUX converter starts and the boot sequence begins. -/
  | auxPowerUp (straps : Straps) (first : Kiln) (loops : List Nat)
  /-- PRESSURE_REACHED (R464): PRS_IN reaches 50 kPa with the valves closed, and the 3 s pressure hold starts. -/
  | pressureReached
  /-- PRESSURE_WAIT_TIMEOUT (R464): PRS_IN has not reached 50 kPa after 60 s, so the test starts regardless and fails. -/
  | pressureWaitTimeout
  /-- PRESSURE_HOLD_END (R304): At the end of the 3 s hold the pressure-hold test is judged, and on a pass the valves open and precharge begins. -/
  | pressureHoldEnd (fall : Nat) (loops zeroBad : List Nat) (carrier : Bool)
  /-- PRESSURE_TEST_RETRY (R465): 60 s after a failed pressure test, step 5 runs once more. -/
  | pressureTestRetry (loops : List Nat)
  /-- PRECHARGE_DONE (R464): The main stage reaches PWR_IN, the main switch closes, and the Kiln powers IOD and trains the Tornath link. -/
  | prechargeDone
  /-- PRECHARGE_TIMEOUT (R465): Precharge exceeds 200 ms, so PRECHARGE_FAIL is written, the main stage opens and a retry is scheduled or the module fails. -/
  | prechargeTimeout
  /-- PRECHARGE_RETRY (R465): 5 s after a failed precharge, precharge runs once more. -/
  | prechargeRetry
  /-- BOOT_FLOW_READY (R385): The flow holds at FLOW_RETURN for 500 ms, and the Kiln powers CORE, MEM and OPT, tests, trains and applies the second configuration part. -/
  | bootFlowReady (tests : PowerTests)
  /-- BOOT_FLOW_TIMEOUT (R390): The 30 s limit of boot step 7 passes without flow, so CORE stays off and STATE is FAILED. -/
  | bootFlowTimeout
  /-- BOOT_STEP_TIMEOUT (R390): A boot step exceeds its limit and the failure handling of R390 applies. -/
  | bootStepTimeout
  /-- REFCLK_LOSS (R28): A missing or off-frequency REFCLK switches the Kilns to the ring oscillator, holds the drive, powers down IOD and the domains below it, and restarts the clock tree. -/
  | refclkLoss
  /-- CLOCK_TREE_RESTORED (R28): Once the clock tree is restored, the Kiln powers up again from IOD as for a cold start. -/
  | clockTreeRestored
  /-- DOMAIN_FAULT (R20): A fault removes a power domain together with every domain that depends on it, and the loss is recorded in the Cask. -/
  | domainFault (d : Domain)
  /-- SCALAR_OP (R57): A scalar instruction computes on the 64-bit registers. -/
  | scalarOp (c : Nat) (fn : ScalarFn) (useImm : Bool)
  /-- BRANCH (R57): A jump or conditional branch changes the program counter. -/
  | branch (c : Nat) (cond : BranchCond)
  /-- LDS_STS (R34): A scalar load or store accesses the cluster store. -/
  | ldsSts (c : Nat) (store : Bool) (ecc : StoreEcc)
  /-- ILLEGAL_INSTRUCTION (R57): An unknown opcode, a non-zero reserved bit or a misaligned DMA descriptor address stops the program with OP_INVALID. -/
  | illegalInstruction (c : Nat) (reservedEnc : Bool)
  /-- FETCH_FAULT (R57): A fetch outside the store or an uncorrectable error on fetch stops the program. -/
  | fetchFault (c : Nat) (ecc : StoreEcc)
  /-- TB (R50): The TB instruction checks a tensor block descriptor and issues the block. -/
  | tb (c : Nat) (ecc : StoreEcc)
  /-- TENSOR_BLOCK_START (R48): An issued block starts once its operand ranges are free, its bank spill is done, and the reserve covers its estimate. -/
  | tensorBlockStart (c : Nat) (ecc : StoreEcc)
  /-- TENSOR_BLOCK_END (R42): A tensor block finishes its K-steps, is charged its metered energy, and starts its spill if SPILL is set. -/
  | tensorBlockEnd (c : Nat) (units : Nat)
  /-- SPILL_DONE (R51): An accumulator spill finishes converting and writing the bank, taking stochastic-rounding draws where the mode asks. -/
  | spillDone (c n : Nat)
  /-- TBWAIT (R84): TBWAIT steeps until every issued block and spill has completed. -/
  | tbwait (c : Nat)
  /-- VOP (R55): A vector operation computes on the 256 FP32 lanes. -/
  | vop (c : Nat) (op : VecOp) (ecc : StoreEcc)
  /-- COPY (R87): The DMA instruction posts a COPY descriptor, which the engine checks and accepts. -/
  | copy (c : Nat) (ecc : StoreEcc)
  /-- FILL (R87): The DMA instruction posts a FILL descriptor, which the engine checks and accepts. -/
  | fill (c : Nat) (ecc : StoreEcc)
  /-- ADD_F32 (R89): The DMA instruction posts an ADD_F32 reduction descriptor, which the engine checks and accepts. -/
  | addF32 (c : Nat) (ecc : StoreEcc)
  /-- POST (R90): The DMA instruction posts a work descriptor into a cluster-produced ring. -/
  | post (c : Nat) (ecc : StoreEcc)
  /-- DMA_DEFERRED_ACCEPT (R85): A DMA instruction that steeped with 16 descriptors held is accepted once one of them retires. -/
  | dmaDeferredAccept (c : Nat) (ecc : StoreEcc)
  /-- DMA_BURST_ISSUE (R82): The engine issues a burst or packet once it holds a credit for the channel or port. -/
  | dmaBurstIssue (c j : Nat) (ecc : StoreEcc) (mecc : List MemEcc)
  /-- BURST_COMPLETE (R82): A burst completes with read data or a write acknowledgement, and its credit is returned. -/
  | burstComplete (c j i : Nat) (ecc : StoreEcc)
  /-- DMA_RETIRE (R88): A finished DMA descriptor retires in posting order, writes its STATUS and signals its gate. -/
  | dmaRetire (c : Nat)
  /-- CREDIT_IDLE_RETURN (R82): A credit held unused for 1 µs is returned. -/
  | creditIdleReturn (c : Nat) (link : Bool) (key : Nat)
  /-- MEM_BURST_TIMEOUT (R91): A memory burst unanswered for 100 µs is retried once and then ends with MEM_ERROR. -/
  | memBurstTimeout (c j i : Nat)
  /-- LINK_CREDIT_TIMEOUT (R91): A wait of 2 ms for a link credit ends the transfer with LINK_FAIL. -/
  | linkCreditTimeout (c j : Nat)
  /-- REMOTE_ACK_TIMEOUT (R91): A remote write or signal unacknowledged for 5 ms ends with LINK_FAIL or counts as a lost signal. -/
  | remoteAckTimeout (tag : Nat)
  /-- DMAWAIT (R88): DMAWAIT steeps until the DMA completion count reaches SRCB. -/
  | dmawait (c : Nat)
  /-- FENCE (R84): FENCE waits until every earlier operation of every unit has completed. -/
  | fence (c : Nat)
  /-- CLAIM (R71): A cluster claims a token on a ring and receives a descriptor, EMPTY, LIMIT or DENIED, or steeps. -/
  | claim (c : Nat) (mecc : List MemEcc)
  /-- CLAIM_SERVED (R73): A steeping blocking claim is served when a descriptor becomes claimable, or is returned DENIED when the ring stops serving. -/
  | claimServed (ring : Nat) (mecc : List MemEcc)
  /-- DONE (R75): DONE completes the current token with a status, and the prefetched token becomes current. -/
  | done (c : Nat)
  /-- STEP (R58): A step marker is forwarded to Copper, or dropped if it comes sooner than 10 µs after the last forwarded marker. -/
  | step (c : Nat) (spaced : Bool)
  /-- CLU_SR_SEED_WRITE (R54): A write of CLU_SR_SEED_HI loads the stochastic-rounding generator. -/
  | cluSrSeedWrite (c : Nat) (value : Word)
  /-- HELD_SEED_LOAD (R63): A seed write held during an SR spill loads the generator once the spill completes. -/
  | heldSeedLoad (c : Nat)
  /-- CLU_HALT_WRITE (R62): A write of CLU_CTRL.HALT stops or resumes instruction fetch. -/
  | cluHaltWrite (c : Nat) (value : Word)
  /-- STEEP_LEND_TIMER (R151): After 20 µs steeping on a token, credit, gate or DMA completion, a cluster returns its reserve to its die pool. -/
  | steepLendTimer (c : Nat)
  /-- RING_PROD_WRITE (R80): A host write to WIQ_RING_PROD publishes descriptors, or is discarded with PROD_ERR. -/
  | ringProdWrite (ring : Nat) (value : Word) (mecc : List MemEcc)
  /-- RING_CONS_WRITE (R99): A host write to WIQ_RING_CONS frees completion slots, or is discarded with CONS_ERR. -/
  | ringConsWrite (ring : Nat) (value : Word)
  /-- RING_ENABLE_WRITE (R95): A write of ring ENABLE enables claims, or disables them and releases steeping claims with DENIED. -/
  | ringEnableWrite (ring : Nat) (value : Word)
  /-- RING_CANCEL (R95): A write of CANCEL stops claims on the ring and ends its unclaimed descriptors with ABORTED_HOST. -/
  | ringCancel (ring : Nat)
  /-- CANCEL_RECORD (R66): An ABORTED_HOST record waiting for its completion slot is written once WIQ_RING_CONS frees the slot, and the last one clears CANCEL. -/
  | cancelRecord (ring : Nat)
  /-- CLAIM_STOP_WRITE (R98): A write of WIQ_CTRL.CLAIM_STOP stops or resumes all claims. -/
  | claimStopWrite (value : Word)
  /-- RING_COMMIT (R100): A ring commit checks the RWC set and starts the ring's sequence counters. -/
  | ringCommit (ring : Nat)
  /-- POST_NUMBER_CLAIMABLE (R81): A committed POST number becomes claimable once every earlier reserved number is committed, and a failed slot completes with MEM_ERROR. -/
  | postNumberClaimable (ring : Nat)
  /-- DESCRIPTOR_TIMEOUT (R92): A current token's descriptor timeout expires, and the abort sequence ends it with TIMEOUT and restarts the cluster. -/
  | descriptorTimeout (c : Nat)
  /-- COMPLETION_RECORD (R78): Once every write made for a descriptor is visible, its completion record is written, then its interrupt and gate follow. -/
  | completionRecord (n : Nat)
  /-- RING_STALL (R94): The oldest claimable descriptor stays unclaimed for STALL_MS, so STALLED is set, with a flush if STALL_FLUSH is set. -/
  | ringStall (ring : Nat)
  /-- DRAIN_COMPLETE (R95): With CLAIM_STOP set, the last held token ends, DRAINED becomes 1, and the DRAINED event is written. -/
  | drainComplete
  /-- DRAIN_LIMIT_EXPIRY (R95): At the drain limit, held tokens end with ABORTED_QUIESCE. -/
  | drainLimitExpiry
  /-- PARK_COMPLETE (R22): After the drain the module parks, gating idle clusters, parking optics and putting memory into self-refresh, and clears CLAIM_STOP for a planned park. -/
  | parkComplete
  /-- PATROL_SCRUB (R113): The scrubber reads a burst pair, which is handled as a corrected, uncorrectable or poisoned read. -/
  | patrolScrub (k lch q : Nat) (mecc : MemEcc) (passEnd : Bool)
  /-- OPERATING_HOUR_TICK (R110): At each whole operating hour the leaky counters are halved and the hourly counts reset. -/
  | operatingHourTick
  /-- REFRESH_RATE_RISE (R114): A stack temperature crossing a threshold raises its refresh rate within 1 ms. -/
  | refreshRateRise (k : Nat)
  /-- REFRESH_RATE_FALL (R114): A stack temperature 3 K below a threshold for 1 s lowers its refresh rate. -/
  | refreshRateFall (k : Nat)
  /-- SELF_REFRESH_ENTRY (R115): A parked channel idle for SR_IDLE_US enters self-refresh. -/
  | selfRefreshEntry (k lch : Nat)
  /-- SELF_REFRESH_EXIT (R115): A request to a channel in self-refresh makes it exit, and the request is then served. -/
  | selfRefreshExit (k lch : Nat)
  /-- DQS_TRACK (R103): The DQS oscillator of a channel is checked every 1 ms, and a failure triggers sparing. -/
  | dqsTrack (k lch : Nat) (ok : Bool)
  /-- SPARE_START_WRITE (R116): A write of MEM_SPARE_CTRL.START requests sparing of a logical channel. -/
  | spareStartWrite (k lch : Nat)
  /-- SPARING_START (R117): A pending sparing trigger starts a copy to the lowest free spare once no copy runs on the stack, or reports NO_SPARE. -/
  | sparingStart (k : Nat)
  /-- SPARING_COPY_DONE (R117): The copy ends, the channel map is switched, and the repair record, Cask record and host event are stored. -/
  | sparingCopyDone (k : Nat) (bad : List Nat)
  /-- CHANNEL_UNRESPONSIVE (R118): A channel that stops answering has its uncopied pairs poisoned on the spare, or fails the stack. -/
  | channelUnresponsive (k lch copied : Nat)
  /-- MEM_COMMIT (R132): A MEM commit checks and applies the interleave, stack mask and mirrored regions. -/
  | memCommit
  /-- MIL_COMMIT (R134): A Mill commit checks and installs a new region set at descriptor boundaries. -/
  | milCommit
  /-- MIL_OLD_SET_RETIRED (R129): The last descriptor under the old Mill set retires, and MIL_COMMIT_STATUS.BUSY clears. -/
  | milOldSetRetired
  /-- GWAIT (R140): GWAIT consumes n from a counting gate, or queues and steeps until it can. -/
  | gwait (c : Nat)
  /-- GSIGNAL (R139): GSIGNAL adds to a counting gate, here or on another module. -/
  | gsignal (c : Nat)
  /-- GBAR (R143): A cluster arrives at a barrier, optionally waiting for its round. -/
  | gbar (c : Nat)
  /-- BARRIER_FLIP_CASCADE (R144): A barrier whose carried arrivals already equal P flips again on the next NCLK cycle. -/
  | barrierFlipCascade (g : Nat)
  /-- GBAR_WAIT_ONLY (R145): GBAR with WAIT_ONLY steeps until the cluster's oldest outstanding round completes. -/
  | gbarWaitOnly (c : Nat)
  /-- GTEST (R140): GTEST reads a gate, and with TRY consumes n when allowed. -/
  | gtest (c : Nat)
  /-- STG_SIGNAL (R158): A host write to STG_SIGNAL signals a gate. -/
  | stgSignal (value : Word)
  /-- GATE_COMMIT (R160): A gate commit checks and applies the gate configuration, and disables the gate where it asks. -/
  | gateCommit (g : Nat)
  /-- GATE_RESET (R156): A write of RESET clears the gate state and wakes its waiters with RESET. -/
  | gateReset (g : Nat)
  /-- REMOTE_SIGNAL_SEND (R146): A remote signal held in the port leaves once the earlier remote writes of the same cluster to the same module are acknowledged. -/
  | remoteSignalSend (n : Nat)
  /-- MINT (R161): Every 10 µs each die mints grains into its pool, settles deficits, and updates debt and the brake. -/
  | mint (n : Nat) (meters : List (Nat × Nat)) (rail : Nat)
  /-- GRAIN_GRANT (R164): The pool grants a waiting cluster's reserve up to its ceiling, in round-robin order, when it holds grains. -/
  | grainGrant (n : Nat)
  /-- BRAKE_HOLD (R167): A die's spend reaches its period limit, so grants stop and HOLD steeps every cluster until the next mint. -/
  | brakeHold (n : Nat) (meters : List (Nat × Nat))
  /-- HOT_SPOT_LIMITER (R180): Every 100 µs each die lowers the ceiling of its hottest hot cluster and raises the ceilings of cool ones. -/
  | hotSpotLimiter (n : Nat) (readings : List (Nat × Int)) (sourceMw : List (Nat × Nat))
  /-- DIE_HOT_TIMEOUT (R181): A cluster hot for 2 ms with its ceiling at CEIL_MIN makes Copper lower its die's thermal cap. -/
  | dieHotTimeout (n : Nat)
  /-- CONTROL_CYCLE (R175): Every 1 ms the active Kiln computes the caps, ramps and divides the applied cap, runs the slow loops and checks itself. -/
  | controlCycle (m : Meas) (checks : Checks)
  /-- STACK_HOT_ESCALATE (R182): A stack still above 95 °C 100 ms after its first reduction extends the reduction to all four dies. -/
  | stackHotEscalate (k : Nat)
  /-- CAP_HOST_WRITE (R171): A write of GRB_CAP_HOST sets the host cap, clamped to the floor and the ceiling. -/
  | capHostWrite (value : Word)
  /-- RACK_CAP (R172): A rack-cap message sets the rack cap, restarts the lease and is answered with CAP_STATUS. -/
  | rackCap (p : Nat) (frame : RowFrame)
  /-- RACK_CFG_WRITE (R172): A write of GRB_RACK_CFG sets the lease, and a non-zero LEASE_S starts it. -/
  | rackCfgWrite (value : Word)
  /-- RACK_LEASE_EXPIRY (R172): LEASE_S seconds without a rack-cap message make FALLBACK_W the rack cap. -/
  | rackLeaseExpiry
  /-- PROTECTION_FALL (R178): A protective thermal cap is written, divided, clipped into reserves and pools, and minted within 200 µs. -/
  | protectionFall (k : Kiln) (capW : Nat) (dieW : List Nat)
  /-- DIE_CAP_STALE (R184): 10 s without a cap update lower each die's cap to at most 175 W. -/
  | dieCapStale (n : Nat)
  /-- CAP_STATUS_PERIODIC (R183): CAP_STATUS is sent once per second, or when the applied cap moves by more than 1 %. -/
  | capStatusPeriodic
  /-- GRB_COMMIT (R188): A GRB commit checks and applies the excursion, reserve, hot, estimate and weight settings. -/
  | grbCommit
  /-- PORT_TRAIN (R194): An enabled port trains, exchanges capabilities and IDs, and comes UP or is refused. -/
  | portTrain (k : Nat) (t : Train)
  /-- TRAIN_RETRY_TIMER (R195): The back-off interval after a refusal expires and training starts again. -/
  | trainRetryTimer (k : Nat)
  /-- FLIT_RECEIVE (R192): A received flit is corrected and CRC-checked, with replay requested on failure and its credits taken. -/
  | flitReceive (k : Nat) (f : Flit) (corrected : Bool)
  /-- PORT_RETRAIN (R192): A port that has replayed 16 times within 1 ms retrains, and leaves routing until it is UP again. -/
  | portRetrain (k : Nat)
  /-- LANE_LOSS (R196): A port that loses a lane while UP retrains with the lane excluded. -/
  | laneLoss (k lane : Nat)
  /-- PORT_RETRAIN_WRITE (R228): A write of IXF_PORT_CTRL.RETRAIN restarts training at once. -/
  | portRetrainWrite (k : Nat)
  /-- PORT_ENABLE_WRITE (R228): A write of IXF_PORT_CTRL.ENABLE starts training or takes the port down. -/
  | portEnableWrite (k : Nat) (value : Word)
  /-- PORT_PARK_WRITE (R228): A write of IXF_PORT_CTRL.PARK parks or unparks the optical engine. -/
  | portParkWrite (k : Nat) (value : Word)
  /-- WR_MEM (R202): A remote write to module memory is applied inside a permitting window, or refused. -/
  | wrMem (k : Nat) (p : Pkt) (mecc : List MemEcc)
  /-- WR_CLU (R202): A remote write to a cluster store is applied when CLUSTER_RX allows. -/
  | wrClu (k : Nat) (p : Pkt)
  /-- ADD_CLU (R202): A remote ADD_F32 into a cluster store is applied when CLUSTER_RX allows. -/
  | addClu (k : Nat) (p : Pkt) (ecc : StoreEcc)
  /-- RD_MEM (R202): A remote read of module memory is answered through a permitting window. -/
  | rdMem (k : Nat) (p : Pkt) (mecc : List MemEcc)
  /-- RD_CLU (R202): A remote read of a cluster store is answered when CLUSTER_RX allows. -/
  | rdClu (k : Nat) (p : Pkt) (ecc : StoreEcc)
  /-- RD_RSP (R200): A read response delivers data or an error status to the requesting transfer. -/
  | rdRsp (k : Nat) (p : Pkt) (ecc : StoreEcc)
  /-- WR_ACK (R200): A write acknowledgement completes a remote write with its status. -/
  | wrAck (k : Nat) (p : Pkt)
  /-- SIG (R153): A remote signal is applied to a gate with REMOTE_OK, or refused. -/
  | sig (k : Nat) (p : Pkt)
  /-- SIG_ACK (R153): A signal acknowledgement ends the wait, and a refusal sets REMOTE_REJ. -/
  | sigAck (k : Nat) (p : Pkt)
  /-- COLL_READY (R216): A member's READY is latched, and one that disagrees ends the collective with MISMATCH. -/
  | collReady (k : Nat) (p : Pkt) (mecc : List MemEcc)
  /-- COLL_DATA (R217): Collective data is added or written into DST and acknowledged. -/
  | collData (k : Nat) (p : Pkt) (mecc : List MemEcc)
  /-- COLL_ACK (R217): An acknowledgement of collective data is recorded toward completion. -/
  | collAck (k : Nat) (p : Pkt)
  /-- NOTICE_DOWN (R208): A DOWN notice clears the plane's reach bit for a module and may declare that module down. -/
  | noticeDown (k : Nat) (p : Pkt)
  /-- NOTICE_UP (R208): An UP notice sets the plane's reach bit for a module. -/
  | noticeUp (k : Nat) (p : Pkt)
  /-- NOTICE_UNREACH (R208): An UNREACH notice clears the reach bit and fails the packet it names. -/
  | noticeUnreach (k : Nat) (p : Pkt)
  /-- NOTICE_PARKED (R208): A PARKED notice clears the plane's reach bit for a module. -/
  | noticeParked (k : Nat) (p : Pkt)
  /-- HASH_SET_RESUME (R207): Once every outstanding hashed request to the destination is settled, hashed traffic resumes on the new planes. -/
  | hashSetResume (x : Nat)
  /-- FENCE_CLR (R209): A write of IXF_FENCE_CLR lifts the fence of a module. -/
  | fenceClr (x : Nat)
  /-- REACH_QUERY (R226): A write of IXF_REACH_QUERY looks up a module's reach bits and fence. -/
  | reachQuery (x : Nat)
  /-- IXF_COMMIT (R230): An IXF commit checks and applies the ID, windows, channels and groups. -/
  | ixfCommit
  /-- COLL_START (R213): An idle channel whose start gate allows takes its next descriptor and sends READY. -/
  | collStart (ch : Nat) (mecc : List MemEcc)
  /-- COLL_COMPLETE (R217): A collective completes, writes STATUS and signals DONE_GATE. -/
  | collComplete (ch : Nat)
  /-- COLL_TIMEOUT (R218): A collective running for IXF_COLL_TIMEOUT.MS ends with TIMEOUT and breaks its group. -/
  | collTimeout (ch : Nat)
  /-- MIR_WR (R221): A mirror write from the partner is applied inside a receive window, or refused. -/
  | mirWr (p : Pkt) (mecc : List MemEcc)
  /-- MIR_ACK (R222): A mirror acknowledgement completes a SYNC write, and any status other than OK marks its block dirty. -/
  | mirAck (p : Pkt)
  /-- SUMMARY (R224): A partner summary is stored in PTN_SUM. -/
  | summary (p : Pkt)
  /-- SUMMARY_TIMEOUT (R224): 10 s without a summary on an UP partner link declare the partner lost. -/
  | summaryTimeout
  /-- PTN_TRAIN (R219): The partner link trains and exchanges module IDs once IOD is on and the ID is valid. -/
  | ptnTrain (t : Train)
  /-- PTN_LINK_DOWN (R222): The partner link leaves UP, so mirrored writes go local and dirty, and the partner may be declared lost. -/
  | ptnLinkDown (retrain : Bool)
  /-- PTN_RETRAIN_WRITE (R231): A write of PTN_CTRL.RETRAIN retrains the partner link. -/
  | ptnRetrainWrite
  /-- PTN_FENCE_CLR (R231): A write of PTN_CTRL.FENCE_CLR lifts the fence of a lost partner and clears LOST. -/
  | ptnFenceClr
  /-- PTN_COMMIT (R232): A PTN commit checks and applies the mirror destinations and receive windows. -/
  | ptnCommit
  /-- PARTNER_RESYNC (R223): With the link UP and MIRROR agreed, the lowest dirty block of an unsynchronised region is copied to the partner. -/
  | partnerResync
  /-- RESYNC_BLOCK_DONE (R223): All copy packets of a block are answered, so the block is marked clean or dirty again, and a clean region clears UNSYNCED. -/
  | resyncBlockDone
  /-- THL_TRAIN (R235): The Tornath link trains, exchanges capability words and comes UP or is refused. -/
  | thlTrain (t : Train)
  /-- THL_RETRAIN_WRITE (R252): A write of THL_CTRL.RETRAIN retrains the host link. -/
  | thlRetrainWrite
  /-- HOST_LINK_LOSS (R251): The host link out of UP for 20 ms disables the host-completion rings and stops their tokens without records. -/
  | hostLinkLoss
  /-- THL_COMMIT (R253): A THL commit checks and applies the event ring settings. -/
  | thlCommit
  /-- GET_INFO (R244): The GET_INFO command returns the ordering code, Kiln, versions, identity key and counters. -/
  | getInfo
  /-- GET_STATUS (R244): The GET_STATUS command returns state, alarms, applied cap, flow and supply temperature. -/
  | getStatus
  /-- CONFIGURE (R396): The CONFIGURE command verifies a configuration image, pre-checks it and commits it at one point. -/
  | configure (readOk : Bool) (mecc : List MemEcc)
  /-- IMAGE_UPDATE (R401): The IMAGE_UPDATE command verifies a staged image and writes it to its target partition. -/
  | imageUpdate (readOk writeOk : Bool) (mecc : List MemEcc)
  /-- MEM_TEST (R434): The MEM_TEST command runs a destructive march on the masked stacks and writes a report. -/
  | memTest (found : List PairBad)
  /-- DRAIN (R244): The DRAIN command sets CLAIM_STOP and starts the drain. -/
  | drain
  /-- RESUME (R244): The RESUME command clears CLAIM_STOP unless a quiesce or leak is in force. -/
  | resume
  /-- PARK (R244): The PARK command sets CLAIM_STOP and drains the module toward parking. -/
  | park
  /-- UNPARK (R244): The UNPARK command brings memory, optics and gated clusters back into service. -/
  | unpark
  /-- REMOVE (R466): The REMOVE command starts the removal sequence. -/
  | remove
  /-- MEM_ALLOC (R244): The MEM_ALLOC command hands out a free extent of memory, journals it, or returns NO_CAPACITY. -/
  | memAlloc
  /-- MEM_FREE (R244): The MEM_FREE command releases an extent by handle. -/
  | memFree
  /-- ATTEST (R400): The ATTEST command writes a signed attestation report to host memory. -/
  | attest
  /-- CASK_READ (R421): The CASK_READ command writes Cask records, in ascending SEQ from a given sequence, to host memory. -/
  | caskRead
  /-- KILN_HANDOVER (R264): The KILN_HANDOVER command answers and then hands control to a healthy standby. -/
  | kilnHandover
  /-- PARTNER_QUERY (R244): The PARTNER_QUERY command returns PTN_STATUS and the partner's last summary. -/
  | partnerQuery
  /-- MBX_LONG_COMPLETE (R242): A long mailbox command finishes, writes its response, sets DONE and raises MBX. -/
  | mbxLongComplete
  /-- MBX_COMMAND_TIMEOUT (R242): A mailbox command that reaches its limit ends with TIMEOUT and its undo. -/
  | mbxCommandTimeout
  /-- HOST_WATCHDOG_EXPIRY (R250): No heartbeat within TIMEOUT_S sets HOST_SILENT, reports it, and with ACTION = 1 drains and parks the module. -/
  | hostWatchdogExpiry
  /-- HOST_HEARTBEAT (R250): A write to THL_HOST_HB restarts the watchdog and clears HOST_SILENT. -/
  | hostHeartbeat
  /-- EVQ_CONS_WRITE (R252): A write of THL_EVQ_CONS frees event slots, or is discarded with CONS_ERR. -/
  | evqConsWrite (value : Word)
  /-- HELD_EVENT_WRITE (R248): A held event record is written once its slot is free, followed by the OVERFLOW record if events were dropped. -/
  | heldEventWrite
  /-- IRQ_HOLDOFF_EXPIRY (R247): The holdoff interval ends, and a pending vector may send INT again. -/
  | irqHoldoffExpiry (v : Nat)
  /-- ACT_OWN_CLAIM (R254): A Kiln's CLAIM moves the interlock from NONE to that Kiln, which then takes control. -/
  | actOwnClaim (ka kb : Bool)
  /-- ACT_OWN_RELEASE (R254): The holder's RELEASE moves the interlock to NONE. -/
  | actOwnRelease (k : Kiln)
  /-- STROBE_TIMEOUT (R254): No STROBE from the holder for 1.2 ms moves the interlock to NONE. -/
  | strobeTimeout
  /-- HOLDER_RESET (R254): Assertion of the holder's reset moves the interlock to NONE. -/
  | holderReset
  /-- STANDBY_CLAIM (R265): A healthy standby that sees NONE claims and continues from its last good state frame. -/
  | standbyClaim (k : Kiln)
  /-- STALE_CLAIM (R266): After 100 ms in NONE, a stale or unhealthy Kiln claims in stale mode. -/
  | staleClaim (k : Kiln)
  /-- STATE_FRAME (R259): The standby accepts or discards a state frame from the active Kiln. -/
  | stateFrame (verOk crcOk : Bool)
  /-- HEALTH_WORD (R261): The active Kiln receives the standby's health word and publishes it. -/
  | healthWord (bits : Nat)
  /-- KILN_WATCHDOG (R262): A Kiln core that does not kick its watchdog for 500 µs is reset. -/
  | kilnWatchdog (k : Kiln)
  /-- KLN_HANDOVER_WRITE (R264): A write of KLN_CTRL.HANDOVER starts a planned handover, or is refused. -/
  | klnHandoverWrite (k : Kiln)
  /-- HANDOVER_CLAIM_TIMEOUT (R264): No claim within 2 ms of a planned release makes the old Kiln claim again, or leaves NONE after an R262 release. -/
  | handoverClaimTimeout
  /-- KLN_RESTART_WRITE (R271): A write of KLN_CTRL.RESTART restarts a Kiln, handing over first if it is the holder, or is refused. -/
  | klnRestartWrite (k : Kiln)
  /-- KILN_RESTART (R271): A reset Kiln runs its ROM, loads its image, tests itself and becomes standby. -/
  | kilnRestart (k : Kiln)
  /-- STANDBY_LOST_TIMER (R269): 1 s without a healthy standby sets ALARMS bit 4 and writes STANDBY_LOST. -/
  | standbyLostTimer
  /-- DIVERGENCE (R270): A shadow output differing for 100 consecutive cycles makes the standby unhealthy and writes DIVERGE. -/
  | divergence (loop : Nat)
  /-- PROTECT_CONFIRM_TIMEOUT (R256): A standby protection fall unconfirmed for 10 ms is withdrawn and the standby is marked DIVERGE. -/
  | protectConfirmTimeout
  /-- NO_OWNER_TIMEOUT (R272): 10 s in NONE put the drive in its safe table, cap each die at 175 W and quiesce the module. -/
  | noOwnerTimeout
  /-- DIE_HB_STALL (R273): A die heartbeat unmoved for 10 ms restarts that die's management unit. -/
  | dieHbStall (d : Nat) (mesh : Bool)
  /-- DIE_HB_FAIL (R273): A heartbeat that does not return within 100 ms, or a third restart in an hour, fails the die. -/
  | dieHbFail (d : Nat) (mesh : Bool)
  /-- DIE_FATAL (R274): DIE_FATAL_N fails a compute die, or restarts IOD as a clock fault for the I/O die. -/
  | dieFatal (d : Nat) (mesh : Bool)
  /-- DIE_CE (R274): An assertion of DIE_CE_N is counted. -/
  | dieCe (d : Nat)
  /-- KLN_INV_DATA_READ (R280): A read of KLN_INV_DATA returns an inventory word and advances INDEX. -/
  | klnInvDataRead
  /-- SENSOR_SUBSTITUTE (R290): An implausible, frozen or lost sensor is replaced by its estimate, its zone is derated and the event is written. -/
  | sensorSubstitute (ids : List Nat) (why change : Nat) (silent : Bool)
  /-- SENSOR_RESTORE (R291): A sensor good for 60 s is restored and its zone's derating withdrawn. -/
  | sensorRestore (id : Nat)
  /-- SENSOR_DISAGREE (R292): A pair differing by more than 4 K for 1 s is flagged. -/
  | sensorDisagree (id diff : Nat)
  /-- DISAGREE_CLEAR (R292): A flagged pair below 3 K for 10 s is cleared. -/
  | disagreeClear (id : Nat)
  /-- MODEL_SUSPECT_END (R293): Fewer than 4 departing sensors for 60 s end MODEL_SUSPECT. -/
  | modelSuspectEnd (z : Nat)
  /-- LEAK_SUSPECTED (R297): A loop at fault for 2 s is a suspected leak, so its zones are derated and the alarm is raised. -/
  | leakSuspected (n st : Nat)
  /-- LEAK_SUSPECT_END (R297): A loop DRY for 60 s ends the suspicion. -/
  | leakSuspectEnd (n : Nat)
  /-- LEAK (R298): A loop WET for 200 ms drops the cap to the floor, quiesces and parks the module, and lowers the pumps. -/
  | leak (n rpm : Nat)
  /-- LEAK_CLEAR_WRITE (R298): A clear of CLE_COOL_STATUS.LEAK is accepted only when every loop has been DRY for 60 s. -/
  | leakClearWrite (dry : Bool)
  /-- CONDENSATION (R299): A supply within 2 K of the dew point for 60 s sets the CONDENSATION warning. -/
  | condensation
  /-- CONDENSATION_CLEAR (R299): 60 s above the dew point plus 3 K clear CONDENSATION. -/
  | condensationClear
  /-- FLOW_LOSS (R301): Sudden flow loss drops the cap to the floor, opens every valve, runs both pumps at 100 % and raises the alarm. -/
  | flowLoss (readings : List (Nat × Int))
  /-- FLOW_LOSS_QUIESCE (R301): Flow not returned 5 s after detection quiesces and parks the module. -/
  | flowLossQuiesce
  /-- FLOW_LOSS_POWER_DOWN (R301): Flow not returned 35 s after detection powers down OPT, MEM and CORE. -/
  | flowLossPowerDown
  /-- FLOW_RETURNED (R302): Flow above FLOW_RETURN for 500 ms withdraws PROTECT and writes FLOW_RETURNED. -/
  | flowReturned (tests : PowerTests)
  /-- QUIESCE_LIFTED (R302): Flow returned for 10 s after a quiesce sets STATE to NORMAL and writes QUIESCE_LIFTED. -/
  | quiesceLifted
  /-- COOLANT_WARN (R303): A warning condition holding for its time sets the warning and sends COOLANT_WARN. -/
  | coolantWarn (bit : Nat)
  /-- COOLANT_WARN_CLEAR (R303): A warning whose condition has been absent for 60 s is cleared. -/
  | coolantWarnClear (bit : Nat)
  /-- COOLANT_WARN_REPEAT (R303): COOLANT_WARN is repeated every 10 s while any warning is set. -/
  | coolantWarnRepeat
  /-- OVERPRESSURE (R303): PRS_IN above 600 kPa stops both pumps and writes OVERPRESSURE. -/
  | overpressure (kpa : Nat)
  /-- HOT_N (R307): A comparator trip latches HOT_N, stops issue, forces full cooling, and quiesces and parks the module. -/
  | hotN (d : Nat) (stack : Bool)
  /-- HOT_N_CLEAR (R308): Values 10 K below trip for 10 s let the active Kiln release the HOT_N latch and withdraw PROTECT. -/
  | hotNClear
  /-- SENS_QUERY (R310): A write of CLE_SENS_QUERY looks up a sensor's reading and state. -/
  | sensQuery (id : Nat)
  /-- COPPER_FAST_PERIOD (R311): Every 100 µs the fast loops latch their inputs and the repetitive controllers sample power. -/
  | copperFastPeriod (readings : List (Nat × Int)) (zoneMw : List Nat) (shadow : List (Nat × Int))
  /-- LOOP_PROGRAM_RUN (R312): A loop program runs once its inputs are complete and stages its output. -/
  | loopProgramRun (l : Nat)
  /-- COPPER_OUTPUT_PHASE (R312): At the output phase the staged or held outputs are selected and written to the drive stage or the GRB. -/
  | copperOutputPhase (fast : Bool)
  /-- LOOP_TABLE_EXIT (R330): After 1,000 good periods a loop returns from TABLE to CLOSED. -/
  | loopTableExit (l : Nat)
  /-- STEP_MARKER (R324): A step marker reaching Copper is accepted by matching tables, updating the period, lock and cells. -/
  | stepMarker (next : Nat)
  /-- RC_MARKER_TIMEOUT (R325): No marker for 2 × P unlocks a repetitive-controller table. -/
  | rcMarkerTimeout (z : Nat)
  /-- CLE_COMMIT (R333): A Copper commit checks the shadow set and sends it to the standby. -/
  | cleCommit
  /-- CLE_COMMIT_APPLY (R333): Both Kilns apply the committed Copper set at the start of the same slow period. -/
  | cleCommitApply
  /-- DRIVE_COMMAND_FRAME (R342): The drive stage latches an accepted command frame, restarts its hold timer and requests pull-ins and pump starts. -/
  | driveCommandFrame (k : Kiln) (f : DriveFrame)
  /-- DRIVE_ECHO (R342): The Kiln compares the drive stage's echo with the frame it sent. -/
  | driveEcho (f : DriveFrame)
  /-- DRIVE_SAFE_TABLE (R344): 10 s without an accepted frame put the drive stage in its safe table. -/
  | driveSafeTable (ms : Nat)
  /-- DRIVE_HOLD_TIMER (R358): 10 ms without an accepted frame while a Kiln holds ACT_OWN writes DRIVE_HOLD. -/
  | driveHoldTimer (ms : Nat)
  /-- PULLIN_START (R346): A queued pull-in starts when its switch, off-time and duty window allow. -/
  | pullinStart (v waitUs : Nat)
  /-- PULLIN_END (R346): A pull-in pulse ends and the coil falls to its hold current. -/
  | pullinEnd (v : Nat)
  /-- DUTY_CAP (R349): A coil's window energy reaching 44 J caps its hold current. -/
  | dutyCap (v mj : Nat)
  /-- DUTY_CAP_LIFT (R349): Window energy below 42 J lifts the hold-current cap. -/
  | dutyCapLift (v mj : Nat)
  /-- VALVE_FAULT (R350): A coil fault for its time switches the coil off, and a repeat fails the valve. -/
  | valveFault (v code res ma : Nat)
  /-- VALVE_RETRY (R350): 1 s after a valve fault the valve is tried again with a new pull-in. -/
  | valveRetry (v : Nat)
  /-- SWITCH_TRIP (R348): A high-side switch in current limit for 1 ms trips off, opening both of its valves. -/
  | switchTrip (k : Nat)
  /-- SWITCH_RESTART (R350): 1 s after a trip the switch is turned back on and its coils are pulled in one at a time. -/
  | switchRestart (k : Nat)
  /-- PUMP_KICK_SUCCESS (R354): A kicked pump reaching 300 rpm slews to its command and becomes RUNNING. -/
  | pumpKickSuccess (p : Nat)
  /-- PUMP_KICK_TIMEOUT (R354): A kick that does not reach 300 rpm in 1.5 s fails, and the pump waits to retry or becomes FAILED. -/
  | pumpKickTimeout (p : Nat)
  /-- PUMP_RETRY_WAIT_END (R354): The 5 s retry wait ends and the pump starts again. -/
  | pumpRetryWaitEnd (p : Nat)
  /-- PUMP_STALL (R355): A running pump that stalls stops and enters its retry wait. -/
  | pumpStall (p : Nat)
  /-- HALL_FAULT (R357): Lost commutation feedback switches the pump to back-EMF commutation. -/
  | hallFault (p : Nat)
  /-- HALL_RESTORE (R357): Valid sensor codes for 10 s return the pump to its commutation sensors. -/
  | hallRestore (p : Nat)
  /-- PUMP_ENABLE_WRITE (R356): A write of DRV_PUMP_CTRL.ENABLE takes a pump in or out of service, or is refused. -/
  | pumpEnableWrite (p : Nat) (value : Word)
  /-- PUMP_RETRY_WRITE (R361): A write of DRV_PUMP_CTRL.RETRY clears FAILED and restarts the pump at the next frame. -/
  | pumpRetryWrite (p : Nat)
  /-- RATE_SWEEP_TIMEOUT (R364): A rate-detection sweep ends, taking the configured rates on a silent bus or sweeping again with RATE_FAIL. -/
  | rateSweepTimeout (p : Nat) (edges : Bool)
  /-- BRS_WAIT_TIMEOUT (R364): No BRS frame within 2 s of the nominal lock makes the port ACTIVE without BRS. -/
  | brsWaitTimeout (p : Nat)
  /-- ROW_FRAME_OTHER (R366): A received frame not addressed to the module is used for rate locking and the clash check, then ignored. -/
  | rowFrameOther (p : Nat) (frame : RowFrame)
  /-- STATUS_REQ (R370): A status request is answered on its port with the message named by WANT. -/
  | statusReq (p : Nat) (frame : RowFrame)
  /-- ROW_COMMIT (R378): A ROW commit checks and applies the port configurations. -/
  | rowCommit
  /-- FRAME_TX_DONE (R374): A transmitted frame completes and the next queued message moves into its buffer. -/
  | frameTxDone (p : Nat) (b : Nat)
  /-- FRAME_TX_ERROR (R375): An arbitration loss or error updates the error counters, and the frame is retransmitted. -/
  | frameTxError (p : Nat) (b : Nat) (why : TxFail)
  /-- BUS_OFF_RECOVERY (R375): A bus-off port recovers after 128 occurrences of 11 recessive bits. -/
  | busOffRecovery (p : Nat)
  /-- URGENT_WAIT_TIMEOUT (R375): A PRIO 0 or 1 message waiting more than 100 ms asserts ALERT_N. -/
  | urgentWaitTimeout (p : Nat)
  /-- ROW_STATUS_PERIODIC (R367): STATUS is sent on both ports once per second. -/
  | rowStatusPeriodic
  /-- COOLANT_ALARM_REPEAT (R371): COOLANT_ALARM is repeated every 2 s while an alarm is in force. -/
  | coolantAlarmRepeat
  /-- CLASH_CLR (R373): A write of ROW_PORT_CTRL.CLASH_CLR takes the port out of bus monitoring mode. -/
  | clashClr (p : Nat)
  /-- TXB_CANCEL (R376): A write of CANCEL removes the frame in a transmit buffer unless its transmission has begun. -/
  | txbCancel (p : Nat) (b : Nat) (onBus : Bool)
  /-- IMAGE_CONFIRM_TIMER (R387): An image running healthy for 10 min becomes CONFIRMED. -/
  | imageConfirmTimer (k : Kiln)
  /-- CSK_MARK (R407): A write of CSK_MARK creates a MARK record. -/
  | cskMark (value : Word)
  /-- CSK_RD_SEQ (R422): A write of CSK_RD_SEQ copies the record with that SEQ into the read registers. -/
  | cskRdSeq (seq : Word)
  /-- RECORD_SEAL (R408): A record is sealed 10 s after its creation. -/
  | recordSeal (seq : Nat)
  /-- CASK_FLUSH (R411): The scheduler writes sealed records to the circulating and permanent areas of the NOR. -/
  | caskFlush
  /-- NOR_WRITE_FAIL (R419): A failed program or erase is retried, and the sector is then retired to a spare. -/
  | norWriteFail (sector : Nat) (retryOk : Bool) (bad : List Nat)
  /-- NOR_TIMEOUT (R420): A NOR silent for 10 ms, or an unrecoverable sector, declares the NOR failed. -/
  | norTimeout
  /-- CSK_COMMIT (R425): A CSK commit checks and applies CIRC_SECTORS, triggers and profiles. -/
  | cskCommit
  /-- CASK_RING_ERASE (R417): The background erase of the circulating ring completes and AREA_RESET is written. -/
  | caskRingErase
  /-- PWR_LOSS (R418): Input below 38 V for 50 µs opens the main stage and flushes the Cask to the NOR. -/
  | pwrLoss
  /-- POWER_RETURN (R418): Input back above 40 V for 100 ms resumes normal recording. -/
  | powerReturn
  /-- INPUT_LOW (R454): Input between 38 V and 40 V for 10 ms sets INPUT_LOW. -/
  | inputLow (volt : Nat)
  /-- INPUT_HIGH (R454): Input above 60 V for 10 ms sets INPUT_HIGH. -/
  | inputHigh (volt : Nat)
  /-- INPUT_TRIP (R454): Input above 63 V for 100 µs opens the main stage. -/
  | inputTrip
  /-- INPUT_RESTORED (R454): Input within 40–60 V for 1 s after a loss or trip precharges again and resumes from boot step 6. -/
  | inputRestored
  /-- REMOVE_REQ_PIN (R466): REMOVE_REQ_N low for 100 ms starts removal. -/
  | removeReqPin
  /-- MOD_REMOVE_WRITE (R466): A write of MOD_REMOVE.REQUEST starts removal. -/
  | modRemoveWrite
  /-- REMOVAL_SYNC_END (R467): Mirrored regions synchronised, or 10 s passed, let removal park the ports, power down the domains and open the main stage. -/
  | removalSyncEnd
  /-- REMOVE_READY (R467): With HOT_N released, the pumps stop, the coils go off and the module reports READY. -/
  | removeReady
  /-- SURPRISE_REMOVAL (R468): SEATED_N high for 1 ms with power present runs the power-loss flush. -/
  | surpriseRemoval
  /-- SEATED_RETURN (R468): SEATED_N low again within 1 s resumes normal recording. -/
  | seatedReturn
  /-- SLICE_START (R428): The scheduler starts a background test slice on an eligible unit. -/
  | sliceStart (kind unit : Nat)
  /-- SLICE_END (R429): A slice ends, returns its unit to service, and a repeated failure fails or derates the unit. -/
  | sliceEnd (kind unit : Nat) (pass : Bool) (bad : List Nat)
  /-- SCHED_AGING (R430): An activity unserved for 10 minutes rises one scheduler level. -/
  | schedAging (a : Nat)
  /-- CLUSTER_ABSENT (R439): A failed cluster is gated once its current token completes, and its logical number becomes absent. -/
  | clusterAbsent (c : Nat)
  /-- CLUSTER_REMAP (R440): At the next job boundary an absent logical cluster is remapped to a free passed spare. -/
  | clusterRemap (l : Nat)
  /-- BUS_INTEGRATION (R364): A row-bus port in bus monitoring mode with AUTO = 0 sees 11 recessive bits at the configured nominal rate and becomes ACTIVE, sending BUS_UP. -/
  | busIntegration (p : Nat)
  /-- AUX_POWER_LOSS (R418): The AUX supply fails some time after PWR_LOSS or when PWR_IN breaks, and every AUX-held state, the Kilns, the interlock and the drive stage are lost until the next AUX power-up. -/
  | auxPowerLoss (torn : Bool)
  /-- KILN_ELIGIBLE (R263): 10 s after an R262 release, a restarted and healthy Kiln becomes eligible again, setting KLN_ROLE.ELIGIBLE and claiming ACT_OWN if the interlock is in NONE. -/
  | kilnEligible (k : Kiln)
deriving DecidableEq, Repr

end Sys2Proof
end

