-- ==== Sys2Proof/Decode.lean ====
section
/-!
DEFINITION. The commands that a word spells by the bits of the operation table. The table gives no row any bits: commands
are operations of the links, the units and the environment, not words.
-/

namespace Sys2Proof

/-- The command that a word of nbits bits spells: none, since no row of the operation table gives bits. -/
def decodeTableWord (nbits w : Nat) : Option Instr :=
  match nbits, w with
  | _, _ => none

end Sys2Proof
end

