-- ==== Sys2Proof/Machine/Fields.lean ====
section
/-!
DEFINITION. The register fields of the module control space, one constructor for every field of the spec's field maps
whose access code is not RSV, block by block (R472). A field that stands in several registers or instances is one
constructor read with an instance number. The widths and reset values are those of the field maps; the values of the
fields whose reset the spec states as "per OTP", "strap" and the like are named in log entry 6 (DESIGN CHOICE).
-/

namespace Sys2Proof.Machine

/-- The fields of the block MOD (R471). -/
inductive ModFld where
  | pwrStatusMain | pwrStatusSeated | pwrStatusInputLow | pwrStatusInputHigh | pwrStatusPwrLoss
  | pwrStatusOvTrip | pwrInputVolt | pwrInputPowerW | strapsSlot | strapsRack | strapsTripSel
  | strapsPwrClass | strapsFault | removeRequest | removePhase | removeSource | version
deriving DecidableEq, Repr

/-- The fields of the block GRB (R185 to R187). -/
inductive GrbFld where
  | version | capHostCapW | capRackCapW | capRackReceived | capRackLeaseExpired | capThermalCapW
  | capCeilingCapW | capCeilingPwrClass | capTargetCapW | capAppliedCapW | capStatusBinding
  | capStatusRamping | capStatusHostClamped | capStatusProtect | capStatusCapUnmet | capStatusDieThermal
  | nondieUW | rackCfgLeaseS | rackCfgFallbackW | excCfgHeadroomW | excCfgDebtMax | resCfgCeilDefault
  | resCfgCeilMin | hotCfgMarginK | hotCfgDieTargetC | estFp4Pj | estFp8Pj | estBf16Pj | bankMaxGrains
  | commitCommit | commitStatusErr | commitStatusBusy | evtBinding | evtProtect | evtRepay
    | evtCapUnmet
  | evtRackLease | evtRackClash | evtHostClamped | evtEnEn | dieCapAppliedW | dieCapThermW
    | dieWeightWeight
  | diePoolBalance | dieDebtDebt | dieDebtRepay | dieSteepLoCountLo | dieSteepHiCountHi | dieLapsedCount
  | dieHotHottest | dieHotTemp | dieHotHotCount | dieTsetTset | dieHoldsCount | cluResReserve
    | cluCeilCeil
  | cluCeilThrottled
deriving DecidableEq, Repr

/-- The fields of the block STG (R158, R159). -/
inductive StgFld where
  | version | signalGateId | signalInc | errBadId | errKind | errRemoteRej | errRsigLost | errIdGateId
  | errIdModule | rsigLostCount | gateCfgEnable | gateCfgKind | gateCfgRemoteOk | gateCfgParticipants
  | gateCtrlCommit | gateCtrlReset | gateCtrlCommitErr | gateCtrlBusy | gateStateCount | gateStateOvf
  | gateStateEpoch | gateStateNext | gateWaitWaiters | gateWaitRemoteRej
deriving DecidableEq, Repr

/-- The fields of the block WIQ (R98, R99). -/
inductive WiqFld where
  | version | ctrlClaimStop | statusHeld | statusDrained | timeoutCountCount | ringEvtEvt | ringBaseLoBaseLo
  | ringBaseHiBaseHi | ringCqLoCqLo | ringCqHiCqHi | ringCfgSizeLog2 | ringCfgCqSpace | ringCfgProducer
  | ringCfgStallFlush | ringCfgDieMask | ringTimeoutDescMs | ringTimeoutStallMs | ringCommitCommit
  | ringCtrlEnable | ringCtrlCancel | ringProdProd | ringClaimClaim | ringDoneDone | ringOldestOldest
  | ringConsCons | ringStatusCommitErr | ringStatusStalled | ringStatusCqFull | ringStatusCancelled
  | ringStatusCommitBusy | ringStatusProdErr | ringStatusCqLost | ringStatusConsErr | ringStatusHeld
  | ringTimeoutsCount
deriving DecidableEq, Repr

/-- The fields of the block MEM (R130, R131). -/
inductive MemFld where
  | version | statusState | statusSparing | statusSparesLeft | statusRefreshRate | statusTemp
  | failCauseCause | eccCeCount | eccUeCount | eccUePoisonReads | ueAddrLoAddrLo | ueAddrHiAddrHi
  | ueAddrHiPhysCh | ueAddrHiPoisoned | spareCtrlLch | spareCtrlStart | spareStatusSpareCh
  | spareStatusProgress | spareStatusResult | scrubCfgPeriodH | scrubStatusPasses | creditStallLoCountLo
  | creditStallHiCountHi | chMapPch | chCeLeaky | chCeHardFail | chCeSparedOut | gVersion | ilCfgMode
  | ilCfgHash | stackMaskMask | commitCommit | commitStatusErr | commitStatusBusy | topLoTopLo
    | topHiTopHi
  | spareThreshThresh | srCfgSrIdleUs | failedFailed | mirCfgBaseGib | mirCfgSizeGib | mirCfgEnable
  | mirCfgSync | mirCfgUnsynced
deriving DecidableEq, Repr

/-- The fields of the block MIL (R133). -/
inductive MilFld where
  | version | commitCommit | commitStatusErr | commitStatusBusy | statusActive | statusRangeOff
  | rgnBaseLoBaseLo | rgnBaseHiBaseHi | rgnSizeSize64k | rgnCfgEnable | rgnCfgOutFmt | rgnCfgCbFmt
  | rgnCfgScaleOfs | groupsLoCountLo | groupsHiCountHi | nanCount | satCount
deriving DecidableEq, Repr

/-- The fields of the block IXF (R226 to R229). -/
inductive IxfFld where
  | version | moduleIdId | moduleIdValid | ctrlClusterRx | ctrlSprayDma | commitCommit | commitStatusErr
  | commitStatusBusy | evtPortDown | evtPortUp | evtDestDown | evtIsolated | evtRefused | evtDiscard
  | evtCollErr | evtEnEn | destDownLastId | destDownCount | fenceClrId | reachQueryId | reachResultPlanes
  | reachResultFenced | reachResultReady | portsUpUp | discardBad | discardFenced | winBaseLoBaseLo
  | winBaseHiBaseHi | winSizeSize64k | winCfgEnable | winCfgRd | winCfgWr | winCfgSrcMin | winCfgSrcMax
  | portCtrlEnable | portCtrlRetrain | portCtrlPark | portStatusState | portStatusWidth | portStatusLanesOk
  | portStatusTrainErr | portStatusFarPlane | portCapLoLocalLo | portCapHiLocalHi | portFarLoFarLo
  | portFarHiFarHi | portStallLoCountLo | portStallHiCountHi | portReplayReplays | portReplayRetrains
  | portFecCorrected | portNoticeUnreach | portNoticeDown | portOeTemp | portOeLaserFault | collQLoQLo
  | collQHiQHi | collCfgQsizeLog2 | collCfgEnable | collCfgStartGate | collTimeoutMs | collStatusRunning
  | collStatusLast | collStatusDone | collNextIndex | grpCfgMembers | grpCfgRank | grpCfgChannel
  | grpCfgEnable | grpCfgBroken | grpListLoListLo | grpListHiListHi | grpSeqSeq
deriving DecidableEq, Repr

/-- The fields of the block PTN (R231). -/
inductive PtnFld where
  | version | capLoLocalLo | capHiLocalHi | ctrlEnable | ctrlRetrain | ctrlFenceClr | statusState
  | statusWidth | statusLost | statusTrainErr | statusPartnerId | statusIdValid | evtLinkDown
    | evtLinkUp
  | evtLost | evtRefused | evtResyncDone | evtEnEn | commitCommit | commitStatusErr | commitStatusBusy
  | resyncRatePct | resyncProgress | resyncRegion | resyncActive | farLoFarLo | farHiFarHi
    | sumAgeMs
  | sumAgeDiscard | mirDstDstGib | rxWinBaseGib | rxWinSizeGib | rxWinEnable | sumBytes
deriving DecidableEq, Repr

/-- The fields of the block THL (R252). -/
inductive ThlFld where
  | version | statusState | statusWidth | statusLanesOk | statusTrainErr | statusHostSilent
    | ctrlRetrain
  | capLoLocalLo | capHiLocalHi | farLoFarLo | farHiFarHi | irqStatusPending | irqEnEn | irqModHoldoffUs
  | evqBaseLoBaseLo | evqBaseHiBaseHi | evqCfgSizeLog2 | evqCfgEnable | commitCommit | commitStatusErr
  | commitStatusBusy | evqProdProd | evqConsCons | evqLostCount | evqLostHeld | evqLostConsErr
  | hostWdTimeoutS | hostWdAction | hostHbBeat | drainLimitMs | mbxStateState | mbxStateOpcode
  | mbxStateProgress | mbxStateRefused | mbxDoorbellRing | mbxCmdBytes | mbxRspBytes | wiqPendPend
deriving DecidableEq, Repr

/-- The fields of the block KLN (R279, R280, R449). -/
inductive KlnFld where
  | version | roleRole | roleHealthy | roleEligible | roleFwVer | healthMemUe | healthCycle
    | healthAcq
  | healthDriveRb | healthWatchdog | healthCodeCrc | healthCopyStale | healthDiverge | healthClock
  | healthRowbusRx | healthNorRead | cycleLoCountLo | cycleHiCountHi | copyAge | copyBad | ctrlHandover
  | ctrlRestart | ctrlRefused | handoversCount | handoversLastCause | restartsCount | restartsLastCause
  | overrunCount | divergeLoop | divergeCount | ownerOwner | ownerQuiesce | ownerRejected | dieHbAlive
  | dieHbFailed | dieHbFatal | dieErrCeCount | dieErrHbRestarts | dieErrFailCause | invSelIndex
    | invDataWord
  | reflashCount | reflashLast | absentAbsent
deriving DecidableEq, Repr

/-- The fields of the block CLE (R310, R336 to R340). -/
inductive CleFld where
  | coolStatusState | coolStatusProtectFlow | coolStatusLeakSuspected | coolStatusLeak | coolStatusHotN
  | coolStatusWarn | flowProt | flowCtrl | flowRawFlwA | flowRawFlwB | flowEstQEst | tInProt
    | tInCtrl
  | tOutProt | tOutCtrl | pressPrsIn | pressPrsOut | humRh | humDew | leakState | leakSuspect
    | leakWet
  | leakROhm10 | zoneFF | sensCountSubst | sensCountDisagree | sensQueryId | sensResultValue
  | sensResultState | sensResultSubst | sensResultDisagree | sensResultMasked | sensResultReady
    | hotnTripSel
  | hotnTripC | hotnDie | hotnStack | hotnMasks | coolCfgFlowLoss | coolCfgFlowReturn | coolCfgTRetMax
  | flowLossesCount | flowLossesQuiesces | version | commitCommit | commitStatusErr | commitStatusBusy
  | commitStatusErrLoop | loadFastF | loadSlowS | satSat | tableTable | safeSafe | grpSelected
    | grpOutput
  | progInstr | dataValue | dinitValue | loopCfgEnable | loopCfgFast | loopCfgGroup | loopCfgGsEn
  | loopCfgGsTable | loopCfgRcEn | loopCfgRcTable | loopCfgFrame | loopCfgFbSrc | loopCfgOutDst
  | loopProgBase | loopProgLen | loopLimitsOutMin | loopLimitsOutMax | loopSpSpConst | loopSpSpSrc
  | loopSpSpLoop | loopSafeSafe | loopSafeSafeHold | loopStatusState | loopStatusSelected
  | loopStatusTableHour | loopStatusConsecOvr | loopStatusOutput | loopOvrOverruns | loopOvrTableEntries
  | gsFbp01Fbp0 | gsFbp01Fbp1 | gsFbp23Fbp2 | gsFbp23Fbp3 | gsPbp01Pbp0 | gsPbp01Pbp1 | gsPbp23Pbp2
  | gsPbp23Pbp3 | gsKKp | gsKKi | gsToutTout | rcCfgEnable | rcCfgDecode | rcCfgPrefill | rcCfgDieMask
  | rcCfgStream | rcCfgLeadUs | rcGainL | rcGainKFf | rcStatusPeriod | rcStatusLocked | rcStatusFade
  | rcMarksAccepted | rcMarksDuplicate | rcCellCell
deriving DecidableEq, Repr

/-- The fields of the block DRV (R359 to R361). -/
inductive DrvFld where
  | version | statusMode | statusHotN | statusBadFrames | statusCmdAgeMs | swStatusTrip | swCurrentI
  | chFaultFault | pullinWaitsCount | pullinWaitsLastWaitUs | cfgPullinMs | cfgHeadKpa | cfgMinRpm
  | valveStatusState | valveStatusDutyLimited | valveStatusOfftime | valveStatusReduced | valveStatusCurrent
  | valveStatusCode | valveDutyEnergyMj | valveCountPullins | valveCountRefused | valveCountDelayed
  | valveResRes | valveResFault | pumpCtrlEnable | pumpCtrlRetry | pumpCtrlRefused | pumpStatusState
  | pumpStatusBemf | pumpStatusHallFault | pumpStatusKicksFailed | pumpStatusSpeed | pumpCmdRpm
  | pumpCurrentMa | pumpCountStarts | pumpCountFails
deriving DecidableEq, Repr

/-- The fields of the block ROW (R378, R379). -/
inductive RowFld where
  | version | idSlot | idRack | idStrapFault | alertCause | alertAsserted | commitCommit | commitStatusErr
  | commitStatusBusy | portCfgEnable | portCfgAuto | portCfgNomRate | portCfgDataRate | portStatusState
  | portStatusBrs | portStatusNomDet | portStatusDataDet | portStatusRateFail | portStatusTec
    | portStatusRec
  | portCtrlCancel | portCtrlClashClr | portTxbType | portTxbPending | portTxbBegun | portTxbCancelResult
  | portTxbQueued | portTxSent | portTxDropped | portRxAccepted | portRxRepeats | portRxerrBad
  | portRxerrEmpty | portClashRecent | portClashTotal | portClashBusOffs
deriving DecidableEq, Repr

/-- The fields of the block CSK (R424). -/
inductive CskFld where
  | version | statusNorFailed | statusCircOff | statusPermFull | statusLosing | statusSparesLeft
  | statusUnwritten | nextSeqSeq | oldestSeq | flushedSeq | permPermCount | permFirstSeq | lostCount
  | lostBad | cfgCircSectors | commitCommit | commitStatusErr | commitStatusBusy | markValue
    | rdSeqSeq
  | rdStatusReady | rdStatusFound | rdDataBytes | trigSource | trigCode | trigProfile | trigEnable
  | trigAnyCode | profAddr
deriving DecidableEq, Repr

/-- The fields of the block BST (R437). -/
inductive BstFld where
  | version | ctrlBgEn | statusStartupOk | statusRecDropped | statusRecords | slicesDone | slicesFailed
  | lastFailKind | lastFailUnit | ageLevel | memRepaired | memLeft | memRowsFree
deriving DecidableEq, Repr

/-- The fields of the block SEC (R403). -/
inductive SecFld where
  | version | otpStatusGenTop | otpStatusWritten | otpStatusBad | otpStatusFull | otpSettingsKeyRevoke
  | otpSettingsRefclkExtOk | otpSettingsDebugLock | otpSettingsOwnerRequired | otpSettingsOwnerSet
  | otpSettingsCapCeil | svnKilnSvn | svnDieSvn | svnConfigSvn | bootKaImage | bootKbImage
    | bootConfigSrc
  | bootRefclkCarrier | bootAState | bootBState | bootRetKaA | bootRetKaB | bootRetKbA | bootRetKbB
  | fwVerDieFw | fwVerConfig | lastVerifyPartition | lastVerifyCheck | lastVerifySection | lastVerifyBlockErr
  | verifyFailsCount | identBytes
deriving DecidableEq, Repr

/-- The fields of the block CLU (R62). -/
inductive CluFld where
  | version | ctrlHalt | statusRunning | statusSteeping | statusGated | statusFaulted | statusSteepCause
  | statusLogical | faultTbInvalid | faultOpInvalid | faultFetchRange | faultStoreUe | fpflagsInvalid
  | fpflagsOverflow | fpflagsUnderflow | fpflagsInexact | fpflagsSat | eccCeCount | eccAddrAddr
  | srSeedLoSeedLo | srSeedHiSeedHi | tbCountLoCountLo | tbCountHiCountHi | stepCountForwarded
  | stepCountDropped | pcPc
deriving DecidableEq, Repr

/-- A register field: its block and its name there. -/
inductive Fld where
  | mod (f : ModFld)
  | grb (f : GrbFld)
  | stg (f : StgFld)
  | wiq (f : WiqFld)
  | mem (f : MemFld)
  | mil (f : MilFld)
  | ixf (f : IxfFld)
  | ptn (f : PtnFld)
  | thl (f : ThlFld)
  | kln (f : KlnFld)
  | cle (f : CleFld)
  | drv (f : DrvFld)
  | row (f : RowFld)
  | csk (f : CskFld)
  | bst (f : BstFld)
  | sec (f : SecFld)
  | clu (f : CluFld)
deriving DecidableEq, Repr

/-- Width in bits of each field of MOD (R471). -/
def ModFld.width : ModFld → Nat
  | .pwrStatusMain | .strapsTripSel | .strapsPwrClass => 2
  | .pwrStatusSeated | .pwrStatusInputLow | .pwrStatusInputHigh | .pwrStatusPwrLoss | .pwrStatusOvTrip
    | .strapsFault | .removeRequest | .removeSource => 1
  | .pwrInputVolt | .pwrInputPowerW => 16
  | .strapsSlot | .strapsRack => 6
  | .removePhase => 3
  | .version => 32

/-- Width in bits of each field of GRB (R185 to R187). -/
def GrbFld.width : GrbFld → Nat
  | .version | .dieSteepLoCountLo | .dieSteepHiCountHi | .dieLapsedCount | .dieHoldsCount => 32
  | .capHostCapW | .capRackCapW | .capThermalCapW | .capCeilingCapW | .capTargetCapW | .capAppliedCapW
    | .nondieUW | .rackCfgFallbackW | .estFp4Pj | .estFp8Pj | .estBf16Pj | .bankMaxGrains | .dieCapAppliedW
    | .dieCapThermW => 16
  | .capRackReceived | .capRackLeaseExpired | .capStatusRamping | .capStatusHostClamped | .capStatusProtect
    | .capStatusCapUnmet | .commitCommit | .commitStatusBusy | .evtBinding | .evtProtect | .evtRepay
    | .evtCapUnmet | .evtRackLease | .evtRackClash | .evtHostClamped | .dieDebtRepay | .cluCeilThrottled => 1
  | .capCeilingPwrClass => 2
  | .capStatusBinding => 3
  | .capStatusDieThermal | .hotCfgMarginK | .commitStatusErr => 4
  | .rackCfgLeaseS | .excCfgHeadroomW | .hotCfgDieTargetC | .dieWeightWeight | .dieHotTemp
    | .dieHotHotCount => 8
  | .excCfgDebtMax | .dieTsetTset => 12
  | .resCfgCeilDefault | .resCfgCeilMin | .cluCeilCeil => 15
  | .evtEnEn => 7
  | .diePoolBalance | .dieDebtDebt | .cluResReserve => 24
  | .dieHotHottest => 10

/-- Width in bits of each field of STG (R158, R159). -/
def StgFld.width : StgFld → Nat
  | .version | .rsigLostCount => 32
  | .signalGateId | .errIdGateId => 16
  | .signalInc => 8
  | .errBadId | .errKind | .errRemoteRej | .errRsigLost | .gateCfgEnable | .gateCfgKind | .gateCfgRemoteOk
    | .gateCtrlCommit | .gateCtrlReset | .gateCtrlBusy | .gateStateOvf | .gateStateEpoch | .gateWaitRemoteRej => 1
  | .errIdModule => 14
  | .gateCfgParticipants | .gateStateCount | .gateStateNext | .gateWaitWaiters => 10
  | .gateCtrlCommitErr => 4

/-- Width in bits of each field of WIQ (R98, R99). -/
def WiqFld.width : WiqFld → Nat
  | .version | .timeoutCountCount | .ringEvtEvt | .ringCqHiCqHi | .ringProdProd | .ringClaimClaim
    | .ringDoneDone | .ringOldestOldest | .ringConsCons => 32
  | .ctrlClaimStop | .statusDrained | .ringCfgCqSpace | .ringCfgProducer | .ringCfgStallFlush
    | .ringCommitCommit | .ringCtrlEnable | .ringCtrlCancel | .ringStatusStalled | .ringStatusCqFull
    | .ringStatusCancelled | .ringStatusCommitBusy | .ringStatusProdErr | .ringStatusCqLost | .ringStatusConsErr => 1
  | .statusHeld | .ringStatusHeld => 11
  | .ringBaseLoBaseLo | .ringCqLoCqLo => 20
  | .ringBaseHiBaseHi => 8
  | .ringCfgSizeLog2 => 5
  | .ringCfgDieMask | .ringStatusCommitErr => 4
  | .ringTimeoutDescMs | .ringTimeoutStallMs | .ringTimeoutsCount => 16

/-- Width in bits of each field of MEM (R130, R131). -/
def MemFld.width : MemFld → Nat
  | .version | .eccCeCount | .creditStallLoCountLo | .creditStallHiCountHi | .gVersion | .topLoTopLo => 32
  | .statusState | .statusSparesLeft => 3
  | .statusSparing | .ueAddrHiPoisoned | .spareCtrlStart | .chCeHardFail | .chCeSparedOut | .ilCfgHash
    | .commitCommit | .commitStatusBusy | .mirCfgEnable | .mirCfgSync | .mirCfgUnsynced => 1
  | .statusRefreshRate | .ilCfgMode => 2
  | .statusTemp | .ueAddrHiAddrHi | .ueAddrHiPhysCh | .spareStatusSpareCh | .spareStatusProgress
    | .chMapPch | .topHiTopHi => 8
  | .failCauseCause | .spareStatusResult | .commitStatusErr => 4
  | .eccUeCount | .eccUePoisonReads | .scrubStatusPasses | .chCeLeaky | .spareThreshThresh
    | .srCfgSrIdleUs => 16
  | .ueAddrLoAddrLo => 25
  | .spareCtrlLch | .scrubCfgPeriodH | .mirCfgSizeGib => 7
  | .stackMaskMask | .failedFailed => 20
  | .mirCfgBaseGib => 10

/-- Width in bits of each field of MIL (R133). -/
def MilFld.width : MilFld → Nat
  | .version | .groupsLoCountLo | .groupsHiCountHi | .nanCount | .satCount => 32
  | .commitCommit | .commitStatusBusy | .rgnCfgEnable | .rgnCfgOutFmt | .rgnCfgCbFmt => 1
  | .commitStatusErr => 4
  | .statusActive | .statusRangeOff | .rgnBaseLoBaseLo => 16
  | .rgnBaseHiBaseHi => 8
  | .rgnSizeSize64k => 24
  | .rgnCfgScaleOfs => 18

/-- Width in bits of each field of IXF (R226 to R229). -/
def IxfFld.width : IxfFld → Nat
  | .version | .portCapLoLocalLo | .portCapHiLocalHi | .portFarLoFarLo | .portFarHiFarHi | .portStallLoCountLo
    | .portStallHiCountHi | .portFecCorrected | .collNextIndex => 32
  | .moduleIdId | .destDownLastId | .fenceClrId | .reachQueryId | .winCfgSrcMin | .winCfgSrcMax => 14
  | .moduleIdValid | .ctrlClusterRx | .ctrlSprayDma | .commitCommit | .commitStatusBusy | .evtPortDown
    | .evtPortUp | .evtDestDown | .evtIsolated | .evtRefused | .evtDiscard | .evtCollErr | .reachResultFenced
    | .reachResultReady | .winCfgEnable | .winCfgRd | .winCfgWr | .portCtrlEnable | .portCtrlRetrain
    | .portCtrlPark | .portOeLaserFault | .collCfgEnable | .collStatusRunning | .grpCfgEnable | .grpCfgBroken => 1
  | .commitStatusErr | .portStatusTrainErr | .portStatusFarPlane | .collCfgQsizeLog2 | .grpCfgChannel => 4
  | .evtEnEn => 7
  | .destDownCount | .discardBad | .discardFenced | .winBaseLoBaseLo | .portReplayReplays | .portReplayRetrains
    | .portNoticeUnreach | .portNoticeDown | .collCfgStartGate | .collTimeoutMs | .collStatusDone
    | .grpSeqSeq => 16
  | .reachResultPlanes | .portsUpUp => 12
  | .winBaseHiBaseHi | .portStatusLanesOk | .portOeTemp | .collQHiQHi | .collStatusLast | .grpCfgRank
    | .grpListHiListHi => 8
  | .winSizeSize64k => 24
  | .portStatusState => 3
  | .portStatusWidth => 2
  | .collQLoQLo => 20
  | .grpCfgMembers => 9
  | .grpListLoListLo => 26

/-- Width in bits of each field of PTN (R231). -/
def PtnFld.width : PtnFld → Nat
  | .version | .capLoLocalLo | .capHiLocalHi | .farLoFarLo | .farHiFarHi | .sumBytes => 32
  | .ctrlEnable | .ctrlRetrain | .ctrlFenceClr | .statusLost | .statusIdValid | .evtLinkDown
    | .evtLinkUp | .evtLost | .evtRefused | .evtResyncDone | .commitCommit | .commitStatusBusy | .resyncActive
    | .rxWinEnable => 1
  | .statusState | .resyncRegion => 3
  | .statusWidth => 2
  | .statusTrainErr | .commitStatusErr => 4
  | .statusPartnerId => 14
  | .evtEnEn => 5
  | .resyncRatePct | .rxWinSizeGib => 7
  | .resyncProgress => 8
  | .sumAgeMs | .sumAgeDiscard => 16
  | .mirDstDstGib | .rxWinBaseGib => 10

/-- Width in bits of each field of THL (R252). -/
def ThlFld.width : ThlFld → Nat
  | .version | .capLoLocalLo | .capHiLocalHi | .farLoFarLo | .farHiFarHi | .evqBaseHiBaseHi
    | .evqProdProd | .evqConsCons | .hostHbBeat | .mbxCmdBytes | .mbxRspBytes | .wiqPendPend => 32
  | .statusState => 3
  | .statusWidth | .mbxStateState => 2
  | .statusLanesOk | .statusTrainErr | .irqStatusPending | .irqEnEn | .commitStatusErr => 4
  | .statusHostSilent | .ctrlRetrain | .evqCfgEnable | .commitCommit | .commitStatusBusy | .evqLostConsErr
    | .hostWdAction | .mbxStateRefused | .mbxDoorbellRing => 1
  | .irqModHoldoffUs | .evqLostCount | .drainLimitMs => 16
  | .evqBaseLoBaseLo => 20
  | .evqCfgSizeLog2 => 5
  | .evqLostHeld | .hostWdTimeoutS | .mbxStateOpcode | .mbxStateProgress => 8

/-- Width in bits of each field of KLN (R279, R280, R449). -/
def KlnFld.width : KlnFld → Nat
  | .version | .cycleLoCountLo | .cycleHiCountHi | .invDataWord | .absentAbsent => 32
  | .roleRole | .ownerOwner => 2
  | .roleHealthy | .roleEligible | .healthMemUe | .healthCycle | .healthAcq | .healthDriveRb
    | .healthWatchdog | .healthCodeCrc | .healthCopyStale | .healthDiverge | .healthClock | .healthRowbusRx
    | .healthNorRead | .ctrlHandover | .ctrlRestart | .ctrlRefused | .ownerQuiesce => 1
  | .roleFwVer | .copyBad | .handoversCount | .restartsCount | .overrunCount | .divergeCount
    | .ownerRejected | .dieErrCeCount | .invSelIndex => 16
  | .copyAge | .divergeLoop | .reflashCount => 8
  | .handoversLastCause | .restartsLastCause | .dieErrHbRestarts | .dieErrFailCause | .reflashLast => 4
  | .dieHbAlive | .dieHbFailed | .dieHbFatal => 5

/-- Width in bits of each field of CLE (R310, R336 to R340). -/
def CleFld.width : CleFld → Nat
  | .coolStatusState | .leakState | .sensResultState | .hotnDie | .loopCfgGroup | .loopCfgRcTable
    | .loopStatusState => 3
  | .coolStatusProtectFlow | .coolStatusLeakSuspected | .coolStatusLeak | .coolStatusHotN | .sensResultSubst
    | .sensResultDisagree | .sensResultMasked | .sensResultReady | .hotnStack | .commitCommit | .commitStatusBusy
    | .loopCfgEnable | .loopCfgFast | .loopCfgGsEn | .loopCfgRcEn | .loopSafeSafeHold | .loopStatusSelected
    | .rcCfgEnable | .rcCfgDecode | .rcCfgPrefill | .rcStatusLocked => 1
  | .coolStatusWarn | .humRh | .hotnTripC | .hotnMasks | .coolCfgFlowLoss | .coolCfgFlowReturn
    | .coolCfgTRetMax | .loopStatusConsecOvr | .rcCfgStream => 8
  | .flowProt | .flowCtrl | .flowRawFlwA | .flowRawFlwB | .flowEstQEst | .leakROhm10 | .sensCountSubst
    | .sensCountDisagree | .sensQueryId | .sensResultValue | .flowLossesCount | .flowLossesQuiesces
    | .loadFastF | .grpOutput | .dataValue | .dinitValue | .loopLimitsOutMin | .loopLimitsOutMax
    | .loopSpSpConst | .loopSafeSafe | .loopStatusOutput | .loopOvrOverruns | .loopOvrTableEntries
    | .gsFbp01Fbp0 | .gsFbp01Fbp1 | .gsFbp23Fbp2 | .gsFbp23Fbp3 | .gsPbp01Pbp0 | .gsPbp01Pbp1 | .gsPbp23Pbp2
    | .gsPbp23Pbp3 | .gsKKp | .gsKKi | .gsToutTout | .rcCfgLeadUs | .rcGainL | .rcGainKFf | .rcStatusPeriod
    | .rcMarksAccepted | .rcMarksDuplicate | .rcCellCell => 16
  | .tInProt | .tInCtrl | .tOutProt | .tOutCtrl | .pressPrsIn | .pressPrsOut | .humDew => 12
  | .leakSuspect | .leakWet | .commitStatusErr | .loopCfgGsTable | .rcCfgDieMask => 4
  | .zoneFF | .hotnTripSel | .loopSpSpSrc | .loopStatusTableHour => 2
  | .version | .satSat | .tableTable | .safeSafe | .progInstr => 32
  | .commitStatusErrLoop | .grpSelected | .loopSpSpLoop | .rcStatusFade => 5
  | .loadSlowS => 17
  | .loopCfgFrame | .loopCfgFbSrc | .loopCfgOutDst => 6
  | .loopProgBase => 13
  | .loopProgLen => 14

/-- Width in bits of each field of DRV (R359 to R361). -/
def DrvFld.width : DrvFld → Nat
  | .version => 32
  | .statusMode => 2
  | .statusHotN | .valveStatusDutyLimited | .valveStatusOfftime | .valveStatusReduced | .pumpCtrlEnable
    | .pumpCtrlRetry | .pumpCtrlRefused | .pumpStatusBemf | .pumpStatusHallFault => 1
  | .statusBadFrames | .swCurrentI | .cfgHeadKpa | .valveStatusCurrent | .valveCountRefused
    | .valveCountDelayed => 8
  | .statusCmdAgeMs | .pullinWaitsCount | .pullinWaitsLastWaitUs | .cfgMinRpm | .valveStatusCode
    | .valveDutyEnergyMj | .valveCountPullins | .valveResRes | .pumpStatusSpeed | .pumpCmdRpm | .pumpCurrentMa
    | .pumpCountStarts | .pumpCountFails => 16
  | .swStatusTrip | .cfgPullinMs | .valveResFault => 4
  | .chFaultFault => 10
  | .valveStatusState | .pumpStatusState | .pumpStatusKicksFailed => 3

/-- Width in bits of each field of ROW (R378, R379). -/
def RowFld.width : RowFld → Nat
  | .version => 32
  | .idSlot | .idRack | .portTxbType => 6
  | .idStrapFault | .alertAsserted | .commitCommit | .commitStatusBusy | .portCfgEnable | .portCfgAuto
    | .portCfgNomRate | .portStatusBrs | .portStatusNomDet | .portStatusRateFail | .portCtrlClashClr
    | .portTxbPending | .portTxbBegun => 1
  | .alertCause | .portStatusTec | .portStatusRec | .portRxerrBad | .portRxerrEmpty | .portClashTotal
    | .portClashBusOffs => 8
  | .commitStatusErr | .portClashRecent => 4
  | .portCfgDataRate | .portStatusDataDet | .portTxbCancelResult => 2
  | .portStatusState | .portCtrlCancel => 3
  | .portTxbQueued => 5
  | .portTxSent | .portTxDropped | .portRxAccepted | .portRxRepeats => 16

/-- Width in bits of each field of CSK (R424). -/
def CskFld.width : CskFld → Nat
  | .version | .nextSeqSeq | .oldestSeq | .flushedSeq | .permFirstSeq | .markValue | .rdSeqSeq
    | .rdDataBytes | .profAddr => 32
  | .statusNorFailed | .statusCircOff | .statusPermFull | .statusLosing | .commitCommit | .commitStatusBusy
    | .rdStatusReady | .rdStatusFound | .trigEnable | .trigAnyCode => 1
  | .statusSparesLeft => 6
  | .statusUnwritten => 10
  | .permPermCount => 11
  | .lostCount | .lostBad => 16
  | .cfgCircSectors => 7
  | .commitStatusErr | .trigProfile => 4
  | .trigSource | .trigCode => 8

/-- Width in bits of each field of BST (R437). -/
def BstFld.width : BstFld → Nat
  | .version => 32
  | .ctrlBgEn => 9
  | .statusStartupOk | .statusRecDropped => 1
  | .statusRecords | .slicesDone | .slicesFailed => 16
  | .lastFailKind | .memRepaired | .memLeft => 8
  | .lastFailUnit | .memRowsFree => 10
  | .ageLevel => 3

/-- Width in bits of each field of SEC (R403). -/
def SecFld.width : SecFld → Nat
  | .version | .svnKilnSvn | .svnDieSvn | .svnConfigSvn | .identBytes => 32
  | .otpStatusGenTop => 3
  | .otpStatusWritten | .otpStatusBad => 5
  | .otpStatusFull | .otpSettingsRefclkExtOk | .otpSettingsDebugLock | .otpSettingsOwnerRequired
    | .otpSettingsOwnerSet | .bootRefclkCarrier => 1
  | .otpSettingsKeyRevoke | .lastVerifyPartition | .lastVerifyCheck | .lastVerifyBlockErr => 4
  | .otpSettingsCapCeil | .fwVerDieFw | .fwVerConfig | .verifyFailsCount => 16
  | .bootKaImage | .bootKbImage | .bootConfigSrc | .bootAState | .bootBState | .bootRetKaA
    | .bootRetKaB | .bootRetKbA | .bootRetKbB => 2
  | .lastVerifySection => 8

/-- Width in bits of each field of CLU (R62). -/
def CluFld.width : CluFld → Nat
  | .version | .srSeedLoSeedLo | .srSeedHiSeedHi | .tbCountLoCountLo | .tbCountHiCountHi => 32
  | .ctrlHalt | .statusRunning | .statusSteeping | .statusGated | .statusFaulted | .faultTbInvalid
    | .faultOpInvalid | .faultFetchRange | .faultStoreUe | .fpflagsInvalid | .fpflagsOverflow | .fpflagsUnderflow
    | .fpflagsInexact | .fpflagsSat => 1
  | .statusSteepCause => 4
  | .statusLogical => 10
  | .eccCeCount | .stepCountForwarded | .stepCountDropped => 16
  | .eccAddrAddr | .pcPc => 22

/-- Width in bits of a field. -/
def Fld.width : Fld → Nat
  | .mod f => f.width
  | .grb f => f.width
  | .stg f => f.width
  | .wiq f => f.width
  | .mem f => f.width
  | .mil f => f.width
  | .ixf f => f.width
  | .ptn f => f.width
  | .thl f => f.width
  | .kln f => f.width
  | .cle f => f.width
  | .drv f => f.width
  | .row f => f.width
  | .csk f => f.width
  | .bst f => f.width
  | .sec f => f.width
  | .clu f => f.width

/-- The base levels of the background scheduler's activities (R430), in the order of BST_AGE. -/
def bstBaseLevel (i : Nat) : Nat := [0, 1, 1, 2, 7].getD i 0

/-- Reset value of each field of MOD (R471), instance i; a field not listed resets to 0. -/
def ModFld.resetAt (_i : Nat) : ModFld → Nat
  | .pwrStatusSeated => 1
  | .strapsSlot => 63
  | .strapsRack => 63
  | .version => 0x00010101
  | _ => 0

/-- Reset value of each field of GRB (R185 to R187), instance i; a field not listed resets to 0. -/
def GrbFld.resetAt (_i : Nat) : GrbFld → Nat
  | .version => 0x00020101
  | .capHostCapW => 0xFFFF
  | .capRackCapW => 0xFFFF
  | .capThermalCapW => 0xFFFF
  | .capCeilingCapW => 1800
  | .rackCfgFallbackW => 0x0BB8
  | .excCfgHeadroomW => 0x96
  | .excCfgDebtMax => 0xBB8
  | .resCfgCeilDefault => 0x0800
  | .resCfgCeilMin => 0x0004
  | .hotCfgMarginK => 3
  | .hotCfgDieTargetC => 85
  | .estFp4Pj => 1650
  | .estFp8Pj => 1420
  | .estBf16Pj => 1300
  | .bankMaxGrains => 1000
  | .dieCapThermW => 0xFFFF
  | .dieWeightWeight => 64
  | _ => 0

/-- Reset value of each field of STG (R158, R159), instance i; a field not listed resets to 0. -/
def StgFld.resetAt (_i : Nat) : StgFld → Nat
  | .version => 0x00030101
  | _ => 0

/-- Reset value of each field of WIQ (R98, R99), instance i; a field not listed resets to 0. -/
def WiqFld.resetAt (_i : Nat) : WiqFld → Nat
  | .version => 0x00040101
  | .ringCfgSizeLog2 => 0x04
  | .ringCfgDieMask => 0xF
  | .ringTimeoutDescMs => 0x03E8
  | .ringTimeoutStallMs => 0x03E8
  | _ => 0

/-- Reset value of each field of MEM (R130, R131), instance i; a field not listed resets to 0. -/
def MemFld.resetAt (i : Nat) : MemFld → Nat
  | .version => 0x00050101
  | .statusSparesLeft => 4
  | .scrubCfgPeriodH => 24
  | .chMapPch => i % 128
  | .gVersion => 0x00060101
  | .ilCfgMode => 1
  | .ilCfgHash => 1
  | .stackMaskMask => 0xFFFFF
  | .topHiTopHi => 0xF0
  | .spareThreshThresh => 64
  | .srCfgSrIdleUs => 100
  | _ => 0

/-- Reset value of each field of MIL (R133), instance i; a field not listed resets to 0. -/
def MilFld.resetAt (_i : Nat) : MilFld → Nat
  | .version => 0x00070101
  | _ => 0

/-- Reset value of each field of IXF (R226 to R229), instance i; a field not listed resets to 0. -/
def IxfFld.resetAt (i : Nat) : IxfFld → Nat
  | .version => 0x00080101
  | .portCtrlEnable => 1
  | .portCapLoLocalLo => 0x4002F201
  | .portCapHiLocalHi => 0x2040 + 65536 * (i % 16)
  | .collCfgQsizeLog2 => 4
  | .collTimeoutMs => 1000
  | _ => 0

/-- Reset value of each field of PTN (R231), instance i; a field not listed resets to 0. -/
def PtnFld.resetAt (_i : Nat) : PtnFld → Nat
  | .version => 0x00090101
  | .capLoLocalLo => 0x402AF201
  | .capHiLocalHi => 0x2040
  | .ctrlEnable => 1
  | .resyncRatePct => 50
  | .sumAgeMs => 0xFFFF
  | _ => 0

/-- Reset value of each field of THL (R252), instance i; a field not listed resets to 0. -/
def ThlFld.resetAt (_i : Nat) : ThlFld → Nat
  | .version => 0x000A0101
  | .capLoLocalLo => 0x20027201
  | .capHiLocalHi => 0x20
  | .evqCfgSizeLog2 => 8
  | .drainLimitMs => 1000
  | _ => 0

/-- Reset value of each field of KLN (R279, R280, R449), instance i; a field not listed resets to 0. -/
def KlnFld.resetAt (_i : Nat) : KlnFld → Nat
  | .version => 0x000B0101
  | .copyAge => 0xFF
  | _ => 0

/-- Reset value of each field of CLE (R310, R336 to R340), instance i; a field not listed resets to 0. -/
def CleFld.resetAt (_i : Nat) : CleFld → Nat
  | .leakROhm10 => 0xFFFF
  | .hotnTripC => 105
  | .coolCfgFlowLoss => 20
  | .coolCfgFlowReturn => 40
  | .coolCfgTRetMax => 50
  | .version => 0x000C0101
  | .loopLimitsOutMax => 0x7FFF
  | .loopSafeSafe => 0x7FFF
  | .rcGainL => 0x1000
  | _ => 0

/-- Reset value of each field of DRV (R359 to R361), instance i; a field not listed resets to 0. -/
def DrvFld.resetAt (_i : Nat) : DrvFld → Nat
  | .version => 0x000D0101
  | .cfgPullinMs => 6
  | .cfgHeadKpa => 20
  | .cfgMinRpm => 1200
  | .valveStatusCode => 0x7FFF
  | .pumpCtrlEnable => 1
  | _ => 0

/-- Reset value of each field of ROW (R378, R379), instance i; a field not listed resets to 0. -/
def RowFld.resetAt (_i : Nat) : RowFld → Nat
  | .version => 0x000E0101
  | .idSlot => 63
  | .idRack => 63
  | .portCfgEnable => 1
  | _ => 0

/-- Reset value of each field of CSK (R424), instance i; a field not listed resets to 0. -/
def CskFld.resetAt (_i : Nat) : CskFld → Nat
  | .version => 0x000F0101
  | .statusSparesLeft => 32
  | .cfgCircSectors => 62
  | _ => 0

/-- Reset value of each field of BST (R437), instance i; a field not listed resets to 0. -/
def BstFld.resetAt (i : Nat) : BstFld → Nat
  | .version => 0x00100101
  | .ctrlBgEn => 0x1FF
  | .ageLevel => bstBaseLevel i
  | .memRowsFree => 512
  | _ => 0

/-- Reset value of each field of SEC (R403), instance i; a field not listed resets to 0. -/
def SecFld.resetAt (_i : Nat) : SecFld → Nat
  | .version => 0x00110101
  | .bootKaImage => 3
  | .bootKbImage => 3
  | .bootConfigSrc => 3
  | _ => 0

/-- Reset value of each field of CLU (R62), instance i; a field not listed resets to 0. -/
def CluFld.resetAt (_i : Nat) : CluFld → Nat
  | .version => 0x00120101
  | .statusGated => 1
  | _ => 0

/-- Reset value of instance i of a field. -/
def Fld.resetAt (f : Fld) (i : Nat) : Nat :=
  match f with
  | .mod f => f.resetAt i
  | .grb f => f.resetAt i
  | .stg f => f.resetAt i
  | .wiq f => f.resetAt i
  | .mem f => f.resetAt i
  | .mil f => f.resetAt i
  | .ixf f => f.resetAt i
  | .ptn f => f.resetAt i
  | .thl f => f.resetAt i
  | .kln f => f.resetAt i
  | .cle f => f.resetAt i
  | .drv f => f.resetAt i
  | .row f => f.resetAt i
  | .csk f => f.resetAt i
  | .bst f => f.resetAt i
  | .sec f => f.resetAt i
  | .clu f => f.resetAt i

/-- The place of a field in the flat numbering of all fields: 256 places for each block. -/
def Fld.code : Fld → Nat
  | .mod f => 0 + f.ctorIdx
  | .grb f => 256 + f.ctorIdx
  | .stg f => 512 + f.ctorIdx
  | .wiq f => 768 + f.ctorIdx
  | .mem f => 1024 + f.ctorIdx
  | .mil f => 1280 + f.ctorIdx
  | .ixf f => 1536 + f.ctorIdx
  | .ptn f => 1792 + f.ctorIdx
  | .thl f => 2048 + f.ctorIdx
  | .kln f => 2304 + f.ctorIdx
  | .cle f => 2560 + f.ctorIdx
  | .drv f => 2816 + f.ctorIdx
  | .row f => 3072 + f.ctorIdx
  | .csk f => 3328 + f.ctorIdx
  | .bst f => 3584 + f.ctorIdx
  | .sec f => 3840 + f.ctorIdx
  | .clu f => 4096 + f.ctorIdx

/-- The key under which the register maps hold instance i of a field. -/
def Fld.key (f : Fld) (i : Nat) : Nat := 8192 * i + f.code

end Sys2Proof.Machine
end

