-- ==== Sys2Proof/Machine/RegTable.lean ====
section
/-!
DEFINITION. The register address map of the module control space (R185, R310, R336 and the other field maps, summarised
by R472 and R473): each register with its address, its instances and its fields with their access codes (R5).
-/

namespace Sys2Proof.Machine

/-- The access codes of R5; RSV fields have no entry, so they read 0 and ignore writes. -/
inductive Acc where
  | rw | ro | wo | w1c | w1s | rwc
deriving DecidableEq, Repr

/-- One field of a register: bits hi..lo; instance k of the register holds instance k * mul + add of the field. -/
structure RegFld where
  fld : Fld
  hi : Nat
  lo : Nat
  acc : Acc
  mul : Nat
  add : Nat
deriving DecidableEq, Repr

/-- One register of the map and its repetitions: nb instances bs bytes apart, each of them with ns instances ss bytes
apart. The instance number of repetition (kb, ks) is kb * cb + ks * cs. -/
structure RegRow where
  base : Nat
  nb : Nat
  bs : Nat
  cb : Nat
  ns : Nat
  ss : Nat
  cs : Nat
  flds : List RegFld
deriving DecidableEq, Repr

/-- Registers of MOD (R471). -/
def regTableMod1 : List RegRow := [
  -- MOD_VERSION (R10, R472)
  ⟨0x0, 1, 0x0, 1, 1, 0x0, 1, [⟨.mod .version, 31, 0, .ro, 1, 0⟩]⟩,
  -- MOD_PWR_STATUS (R471)
  ⟨0x100, 1, 0x0, 1, 1, 0x0, 1, [⟨.mod .pwrStatusMain, 1, 0, .ro, 1, 0⟩, ⟨.mod .pwrStatusSeated, 2, 2, .ro, 1, 0⟩,
    ⟨.mod .pwrStatusInputLow, 3, 3, .ro, 1, 0⟩, ⟨.mod .pwrStatusInputHigh, 4, 4, .ro, 1, 0⟩,
    ⟨.mod .pwrStatusPwrLoss, 5, 5, .w1c, 1, 0⟩, ⟨.mod .pwrStatusOvTrip, 6, 6, .w1c, 1, 0⟩]⟩,
  -- MOD_PWR_INPUT (R471)
  ⟨0x104, 1, 0x0, 1, 1, 0x0, 1, [⟨.mod .pwrInputVolt, 15, 0, .ro, 1, 0⟩, ⟨.mod .pwrInputPowerW, 31, 16, .ro, 1, 0⟩]⟩,
  -- MOD_STRAPS (R471)
  ⟨0x108, 1, 0x0, 1, 1, 0x0, 1, [⟨.mod .strapsSlot, 5, 0, .ro, 1, 0⟩, ⟨.mod .strapsRack, 13, 8, .ro, 1, 0⟩,
    ⟨.mod .strapsTripSel, 17, 16, .ro, 1, 0⟩, ⟨.mod .strapsPwrClass, 19, 18, .ro, 1, 0⟩,
    ⟨.mod .strapsFault, 20, 20, .ro, 1, 0⟩]⟩,
  -- MOD_REMOVE (R471)
  ⟨0x10C, 1, 0x0, 1, 1, 0x0, 1, [⟨.mod .removeRequest, 0, 0, .w1s, 1, 0⟩, ⟨.mod .removePhase, 3, 1, .ro, 1, 0⟩,
    ⟨.mod .removeSource, 4, 4, .ro, 1, 0⟩]⟩ ]

/-- All registers of MOD (R471). -/
def regTableMod : List RegRow := regTableMod1

/-- Registers of GRB (R185 to R187), part 1 of 2. -/
def regTableGrb1 : List RegRow := [
  -- GRB_VERSION (R185)
  ⟨0x100000, 1, 0x0, 1, 1, 0x0, 1, [⟨.grb .version, 31, 0, .ro, 1, 0⟩]⟩,
  -- GRB_CAP_HOST (R185)
  ⟨0x100004, 1, 0x0, 1, 1, 0x0, 1, [⟨.grb .capHostCapW, 15, 0, .rw, 1, 0⟩]⟩,
  -- GRB_CAP_RACK (R185)
  ⟨0x100008, 1, 0x0, 1, 1, 0x0, 1, [⟨.grb .capRackCapW, 15, 0, .ro, 1, 0⟩,
    ⟨.grb .capRackReceived, 16, 16, .ro, 1, 0⟩, ⟨.grb .capRackLeaseExpired, 17, 17, .ro, 1, 0⟩]⟩,
  -- GRB_CAP_THERMAL (R185)
  ⟨0x10000C, 1, 0x0, 1, 1, 0x0, 1, [⟨.grb .capThermalCapW, 15, 0, .ro, 1, 0⟩]⟩,
  -- GRB_CAP_CEILING (R185)
  ⟨0x100010, 1, 0x0, 1, 1, 0x0, 1, [⟨.grb .capCeilingCapW, 15, 0, .ro, 1, 0⟩,
    ⟨.grb .capCeilingPwrClass, 17, 16, .ro, 1, 0⟩]⟩,
  -- GRB_CAP_TARGET (R185)
  ⟨0x100014, 1, 0x0, 1, 1, 0x0, 1, [⟨.grb .capTargetCapW, 15, 0, .ro, 1, 0⟩]⟩,
  -- GRB_CAP_APPLIED (R185)
  ⟨0x100018, 1, 0x0, 1, 1, 0x0, 1, [⟨.grb .capAppliedCapW, 15, 0, .ro, 1, 0⟩]⟩,
  -- GRB_CAP_STATUS (R185)
  ⟨0x10001C, 1, 0x0, 1, 1, 0x0, 1, [⟨.grb .capStatusBinding, 2, 0, .ro, 1, 0⟩,
    ⟨.grb .capStatusRamping, 3, 3, .ro, 1, 0⟩, ⟨.grb .capStatusHostClamped, 4, 4, .ro, 1, 0⟩,
    ⟨.grb .capStatusProtect, 5, 5, .ro, 1, 0⟩, ⟨.grb .capStatusCapUnmet, 6, 6, .ro, 1, 0⟩,
    ⟨.grb .capStatusDieThermal, 11, 8, .ro, 1, 0⟩]⟩,
  -- GRB_NONDIE (R185)
  ⟨0x100020, 1, 0x0, 1, 1, 0x0, 1, [⟨.grb .nondieUW, 15, 0, .ro, 1, 0⟩]⟩,
  -- GRB_RACK_CFG (R185)
  ⟨0x100024, 1, 0x0, 1, 1, 0x0, 1, [⟨.grb .rackCfgLeaseS, 7, 0, .rw, 1, 0⟩,
    ⟨.grb .rackCfgFallbackW, 31, 16, .rw, 1, 0⟩]⟩,
  -- GRB_EXC_CFG (R185)
  ⟨0x100028, 1, 0x0, 1, 1, 0x0, 1, [⟨.grb .excCfgHeadroomW, 7, 0, .rwc, 1, 0⟩,
    ⟨.grb .excCfgDebtMax, 27, 16, .rwc, 1, 0⟩]⟩,
  -- GRB_RES_CFG (R185)
  ⟨0x10002C, 1, 0x0, 1, 1, 0x0, 1, [⟨.grb .resCfgCeilDefault, 14, 0, .rwc, 1, 0⟩,
    ⟨.grb .resCfgCeilMin, 30, 16, .rwc, 1, 0⟩]⟩,
  -- GRB_HOT_CFG (R185)
  ⟨0x100030, 1, 0x0, 1, 1, 0x0, 1, [⟨.grb .hotCfgMarginK, 3, 0, .rwc, 1, 0⟩,
    ⟨.grb .hotCfgDieTargetC, 15, 8, .rwc, 1, 0⟩]⟩,
  -- GRB_EST_FP4 (R185)
  ⟨0x100034, 1, 0x0, 1, 1, 0x0, 1, [⟨.grb .estFp4Pj, 15, 0, .rwc, 1, 0⟩]⟩,
  -- GRB_EST_FP8 (R185)
  ⟨0x100038, 1, 0x0, 1, 1, 0x0, 1, [⟨.grb .estFp8Pj, 15, 0, .rwc, 1, 0⟩]⟩,
  -- GRB_EST_BF16 (R185)
  ⟨0x10003C, 1, 0x0, 1, 1, 0x0, 1, [⟨.grb .estBf16Pj, 15, 0, .rwc, 1, 0⟩]⟩,
  -- GRB_BANK_MAX (R185)
  ⟨0x100040, 1, 0x0, 1, 1, 0x0, 1, [⟨.grb .bankMaxGrains, 15, 0, .rwc, 1, 0⟩]⟩,
  -- GRB_COMMIT (R185)
  ⟨0x100044, 1, 0x0, 1, 1, 0x0, 1, [⟨.grb .commitCommit, 0, 0, .wo, 1, 0⟩]⟩,
  -- GRB_COMMIT_STATUS (R185)
  ⟨0x100048, 1, 0x0, 1, 1, 0x0, 1, [⟨.grb .commitStatusErr, 3, 0, .ro, 1, 0⟩,
    ⟨.grb .commitStatusBusy, 4, 4, .ro, 1, 0⟩]⟩,
  -- GRB_EVT (R185)
  ⟨0x10004C, 1, 0x0, 1, 1, 0x0, 1, [⟨.grb .evtBinding, 0, 0, .w1c, 1, 0⟩, ⟨.grb .evtProtect, 1, 1, .w1c, 1, 0⟩,
    ⟨.grb .evtRepay, 2, 2, .w1c, 1, 0⟩, ⟨.grb .evtCapUnmet, 3, 3, .w1c, 1, 0⟩,
    ⟨.grb .evtRackLease, 4, 4, .w1c, 1, 0⟩, ⟨.grb .evtRackClash, 5, 5, .w1c, 1, 0⟩,
    ⟨.grb .evtHostClamped, 6, 6, .w1c, 1, 0⟩]⟩ ]

/-- Registers of GRB (R185 to R187), part 2 of 2. -/
def regTableGrb2 : List RegRow := [
  -- GRB_EVT_EN (R185)
  ⟨0x100050, 1, 0x0, 1, 1, 0x0, 1, [⟨.grb .evtEnEn, 6, 0, .rw, 1, 0⟩]⟩,
  -- GRB_DIE_CAP (R186)
  ⟨0x101000, 4, 0x100, 1, 1, 0x0, 1, [⟨.grb .dieCapAppliedW, 15, 0, .ro, 1, 0⟩,
    ⟨.grb .dieCapThermW, 31, 16, .ro, 1, 0⟩]⟩,
  -- GRB_DIE_WEIGHT (R186)
  ⟨0x101004, 4, 0x100, 1, 1, 0x0, 1, [⟨.grb .dieWeightWeight, 7, 0, .rwc, 1, 0⟩]⟩,
  -- GRB_DIE_POOL (R186)
  ⟨0x101008, 4, 0x100, 1, 1, 0x0, 1, [⟨.grb .diePoolBalance, 23, 0, .ro, 1, 0⟩]⟩,
  -- GRB_DIE_DEBT (R186)
  ⟨0x10100C, 4, 0x100, 1, 1, 0x0, 1, [⟨.grb .dieDebtDebt, 23, 0, .ro, 1, 0⟩,
    ⟨.grb .dieDebtRepay, 24, 24, .ro, 1, 0⟩]⟩,
  -- GRB_DIE_STEEP_LO (R186)
  ⟨0x101010, 4, 0x100, 1, 1, 0x0, 1, [⟨.grb .dieSteepLoCountLo, 31, 0, .ro, 1, 0⟩]⟩,
  -- GRB_DIE_STEEP_HI (R186)
  ⟨0x101014, 4, 0x100, 1, 1, 0x0, 1, [⟨.grb .dieSteepHiCountHi, 31, 0, .ro, 1, 0⟩]⟩,
  -- GRB_DIE_LAPSED (R186)
  ⟨0x101018, 4, 0x100, 1, 1, 0x0, 1, [⟨.grb .dieLapsedCount, 31, 0, .ro, 1, 0⟩]⟩,
  -- GRB_DIE_HOT (R186)
  ⟨0x10101C, 4, 0x100, 1, 1, 0x0, 1, [⟨.grb .dieHotHottest, 9, 0, .ro, 1, 0⟩,
    ⟨.grb .dieHotTemp, 17, 10, .ro, 1, 0⟩, ⟨.grb .dieHotHotCount, 25, 18, .ro, 1, 0⟩]⟩,
  -- GRB_DIE_TSET (R186)
  ⟨0x101020, 4, 0x100, 1, 1, 0x0, 1, [⟨.grb .dieTsetTset, 11, 0, .ro, 1, 0⟩]⟩,
  -- GRB_DIE_HOLDS (R186)
  ⟨0x101024, 4, 0x100, 1, 1, 0x0, 1, [⟨.grb .dieHoldsCount, 31, 0, .ro, 1, 0⟩]⟩,
  -- GRB_CLU_RES (R187)
  ⟨0x108000, 832, 0x8, 1, 1, 0x0, 1, [⟨.grb .cluResReserve, 23, 0, .ro, 1, 0⟩]⟩,
  -- GRB_CLU_CEIL (R187)
  ⟨0x108004, 832, 0x8, 1, 1, 0x0, 1, [⟨.grb .cluCeilCeil, 14, 0, .ro, 1, 0⟩,
    ⟨.grb .cluCeilThrottled, 15, 15, .ro, 1, 0⟩]⟩ ]

/-- All registers of GRB (R185 to R187). -/
def regTableGrb : List RegRow := regTableGrb1 ++ regTableGrb2

/-- Registers of STG (R158, R159). -/
def regTableStg1 : List RegRow := [
  -- STG_VERSION (R158)
  ⟨0x200000, 1, 0x0, 1, 1, 0x0, 1, [⟨.stg .version, 31, 0, .ro, 1, 0⟩]⟩,
  -- STG_SIGNAL (R158)
  ⟨0x200004, 1, 0x0, 1, 1, 0x0, 1, [⟨.stg .signalGateId, 15, 0, .wo, 1, 0⟩,
    ⟨.stg .signalInc, 23, 16, .wo, 1, 0⟩]⟩,
  -- STG_ERR (R158)
  ⟨0x200008, 1, 0x0, 1, 1, 0x0, 1, [⟨.stg .errBadId, 0, 0, .w1c, 1, 0⟩, ⟨.stg .errKind, 1, 1, .w1c, 1, 0⟩,
    ⟨.stg .errRemoteRej, 2, 2, .w1c, 1, 0⟩, ⟨.stg .errRsigLost, 3, 3, .w1c, 1, 0⟩]⟩,
  -- STG_ERR_ID (R158)
  ⟨0x20000C, 1, 0x0, 1, 1, 0x0, 1, [⟨.stg .errIdGateId, 15, 0, .ro, 1, 0⟩,
    ⟨.stg .errIdModule, 29, 16, .ro, 1, 0⟩]⟩,
  -- STG_RSIG_LOST (R158)
  ⟨0x200010, 1, 0x0, 1, 1, 0x0, 1, [⟨.stg .rsigLostCount, 31, 0, .ro, 1, 0⟩]⟩,
  -- STG_GATE_CFG (R159)
  ⟨0x210000, 17408, 0x10, 1, 1, 0x0, 1, [⟨.stg .gateCfgEnable, 0, 0, .rwc, 1, 0⟩,
    ⟨.stg .gateCfgKind, 1, 1, .rwc, 1, 0⟩, ⟨.stg .gateCfgRemoteOk, 2, 2, .rwc, 1, 0⟩,
    ⟨.stg .gateCfgParticipants, 13, 4, .rwc, 1, 0⟩]⟩,
  -- STG_GATE_CTRL (R159)
  ⟨0x210004, 17408, 0x10, 1, 1, 0x0, 1, [⟨.stg .gateCtrlCommit, 0, 0, .wo, 1, 0⟩,
    ⟨.stg .gateCtrlReset, 1, 1, .wo, 1, 0⟩, ⟨.stg .gateCtrlCommitErr, 7, 4, .ro, 1, 0⟩,
    ⟨.stg .gateCtrlBusy, 8, 8, .ro, 1, 0⟩]⟩,
  -- STG_GATE_STATE (R159)
  ⟨0x210008, 17408, 0x10, 1, 1, 0x0, 1, [⟨.stg .gateStateCount, 9, 0, .ro, 1, 0⟩,
    ⟨.stg .gateStateOvf, 10, 10, .w1c, 1, 0⟩, ⟨.stg .gateStateEpoch, 11, 11, .ro, 1, 0⟩,
    ⟨.stg .gateStateNext, 21, 12, .ro, 1, 0⟩]⟩,
  -- STG_GATE_WAIT (R159)
  ⟨0x21000C, 17408, 0x10, 1, 1, 0x0, 1, [⟨.stg .gateWaitWaiters, 9, 0, .ro, 1, 0⟩,
    ⟨.stg .gateWaitRemoteRej, 17, 17, .w1c, 1, 0⟩]⟩ ]

/-- All registers of STG (R158, R159). -/
def regTableStg : List RegRow := regTableStg1

/-- Registers of WIQ (R98, R99). -/
def regTableWiq1 : List RegRow := [
  -- WIQ_VERSION (R98)
  ⟨0x300000, 1, 0x0, 1, 1, 0x0, 1, [⟨.wiq .version, 31, 0, .ro, 1, 0⟩]⟩,
  -- WIQ_CTRL (R98)
  ⟨0x300004, 1, 0x0, 1, 1, 0x0, 1, [⟨.wiq .ctrlClaimStop, 0, 0, .rw, 1, 0⟩]⟩,
  -- WIQ_STATUS (R98)
  ⟨0x300008, 1, 0x0, 1, 1, 0x0, 1, [⟨.wiq .statusHeld, 10, 0, .ro, 1, 0⟩, ⟨.wiq .statusDrained, 16, 16, .ro, 1, 0⟩]⟩,
  -- WIQ_TIMEOUT_COUNT (R98)
  ⟨0x30000C, 1, 0x0, 1, 1, 0x0, 1, [⟨.wiq .timeoutCountCount, 31, 0, .ro, 1, 0⟩]⟩,
  -- WIQ_RING_EVT (R98)
  ⟨0x300040, 16, 0x4, 1, 1, 0x0, 1, [⟨.wiq .ringEvtEvt, 31, 0, .w1c, 1, 0⟩]⟩,
  -- WIQ_RING_BASE_LO (R99)
  ⟨0x301000, 512, 0x40, 1, 1, 0x0, 1, [⟨.wiq .ringBaseLoBaseLo, 31, 12, .rwc, 1, 0⟩]⟩,
  -- WIQ_RING_BASE_HI (R99)
  ⟨0x301004, 512, 0x40, 1, 1, 0x0, 1, [⟨.wiq .ringBaseHiBaseHi, 7, 0, .rwc, 1, 0⟩]⟩,
  -- WIQ_RING_CQ_LO (R99)
  ⟨0x301008, 512, 0x40, 1, 1, 0x0, 1, [⟨.wiq .ringCqLoCqLo, 31, 12, .rwc, 1, 0⟩]⟩,
  -- WIQ_RING_CQ_HI (R99)
  ⟨0x30100C, 512, 0x40, 1, 1, 0x0, 1, [⟨.wiq .ringCqHiCqHi, 31, 0, .rwc, 1, 0⟩]⟩,
  -- WIQ_RING_CFG (R99)
  ⟨0x301010, 512, 0x40, 1, 1, 0x0, 1, [⟨.wiq .ringCfgSizeLog2, 4, 0, .rwc, 1, 0⟩,
    ⟨.wiq .ringCfgCqSpace, 5, 5, .rwc, 1, 0⟩, ⟨.wiq .ringCfgProducer, 6, 6, .rwc, 1, 0⟩,
    ⟨.wiq .ringCfgStallFlush, 7, 7, .rwc, 1, 0⟩, ⟨.wiq .ringCfgDieMask, 11, 8, .rwc, 1, 0⟩]⟩,
  -- WIQ_RING_TIMEOUT (R99)
  ⟨0x301014, 512, 0x40, 1, 1, 0x0, 1, [⟨.wiq .ringTimeoutDescMs, 15, 0, .rwc, 1, 0⟩,
    ⟨.wiq .ringTimeoutStallMs, 31, 16, .rwc, 1, 0⟩]⟩,
  -- WIQ_RING_COMMIT (R99)
  ⟨0x301018, 512, 0x40, 1, 1, 0x0, 1, [⟨.wiq .ringCommitCommit, 0, 0, .wo, 1, 0⟩]⟩,
  -- WIQ_RING_CTRL (R99)
  ⟨0x30101C, 512, 0x40, 1, 1, 0x0, 1, [⟨.wiq .ringCtrlEnable, 0, 0, .rw, 1, 0⟩,
    ⟨.wiq .ringCtrlCancel, 1, 1, .w1s, 1, 0⟩]⟩,
  -- WIQ_RING_PROD (R99)
  ⟨0x301020, 512, 0x40, 1, 1, 0x0, 1, [⟨.wiq .ringProdProd, 31, 0, .rw, 1, 0⟩]⟩,
  -- WIQ_RING_CLAIM (R99)
  ⟨0x301024, 512, 0x40, 1, 1, 0x0, 1, [⟨.wiq .ringClaimClaim, 31, 0, .ro, 1, 0⟩]⟩,
  -- WIQ_RING_DONE (R99)
  ⟨0x301028, 512, 0x40, 1, 1, 0x0, 1, [⟨.wiq .ringDoneDone, 31, 0, .ro, 1, 0⟩]⟩,
  -- WIQ_RING_OLDEST (R99)
  ⟨0x30102C, 512, 0x40, 1, 1, 0x0, 1, [⟨.wiq .ringOldestOldest, 31, 0, .ro, 1, 0⟩]⟩,
  -- WIQ_RING_CONS (R99)
  ⟨0x301030, 512, 0x40, 1, 1, 0x0, 1, [⟨.wiq .ringConsCons, 31, 0, .rw, 1, 0⟩]⟩,
  -- WIQ_RING_STATUS (R99)
  ⟨0x301034, 512, 0x40, 1, 1, 0x0, 1, [⟨.wiq .ringStatusCommitErr, 3, 0, .ro, 1, 0⟩,
    ⟨.wiq .ringStatusStalled, 4, 4, .w1c, 1, 0⟩, ⟨.wiq .ringStatusCqFull, 5, 5, .ro, 1, 0⟩,
    ⟨.wiq .ringStatusCancelled, 6, 6, .w1c, 1, 0⟩, ⟨.wiq .ringStatusCommitBusy, 7, 7, .ro, 1, 0⟩,
    ⟨.wiq .ringStatusProdErr, 8, 8, .w1c, 1, 0⟩, ⟨.wiq .ringStatusCqLost, 9, 9, .w1c, 1, 0⟩,
    ⟨.wiq .ringStatusConsErr, 10, 10, .w1c, 1, 0⟩, ⟨.wiq .ringStatusHeld, 26, 16, .ro, 1, 0⟩]⟩,
  -- WIQ_RING_TIMEOUTS (R99)
  ⟨0x301038, 512, 0x40, 1, 1, 0x0, 1, [⟨.wiq .ringTimeoutsCount, 15, 0, .ro, 1, 0⟩]⟩ ]

/-- All registers of WIQ (R98, R99). -/
def regTableWiq : List RegRow := regTableWiq1

/-- Registers of MEM (R130, R131), part 1 of 2. -/
def regTableMem1 : List RegRow := [
  -- MEM_VERSION (R130)
  ⟨0x400000, 20, 0x10000, 1, 1, 0x0, 1, [⟨.mem .version, 31, 0, .ro, 1, 0⟩]⟩,
  -- MEM_STATUS (R130)
  ⟨0x400004, 20, 0x10000, 1, 1, 0x0, 1, [⟨.mem .statusState, 2, 0, .ro, 1, 0⟩,
    ⟨.mem .statusSparing, 3, 3, .ro, 1, 0⟩, ⟨.mem .statusSparesLeft, 6, 4, .ro, 1, 0⟩,
    ⟨.mem .statusRefreshRate, 9, 8, .ro, 1, 0⟩, ⟨.mem .statusTemp, 23, 16, .ro, 1, 0⟩]⟩,
  -- MEM_FAIL_CAUSE (R130)
  ⟨0x400008, 20, 0x10000, 1, 1, 0x0, 1, [⟨.mem .failCauseCause, 3, 0, .ro, 1, 0⟩]⟩,
  -- MEM_ECC_CE (R130)
  ⟨0x40000C, 20, 0x10000, 1, 1, 0x0, 1, [⟨.mem .eccCeCount, 31, 0, .ro, 1, 0⟩]⟩,
  -- MEM_ECC_UE (R130)
  ⟨0x400010, 20, 0x10000, 1, 1, 0x0, 1, [⟨.mem .eccUeCount, 15, 0, .ro, 1, 0⟩,
    ⟨.mem .eccUePoisonReads, 31, 16, .ro, 1, 0⟩]⟩,
  -- MEM_UE_ADDR_LO (R130)
  ⟨0x400014, 20, 0x10000, 1, 1, 0x0, 1, [⟨.mem .ueAddrLoAddrLo, 31, 7, .ro, 1, 0⟩]⟩,
  -- MEM_UE_ADDR_HI (R130)
  ⟨0x400018, 20, 0x10000, 1, 1, 0x0, 1, [⟨.mem .ueAddrHiAddrHi, 7, 0, .ro, 1, 0⟩,
    ⟨.mem .ueAddrHiPhysCh, 15, 8, .ro, 1, 0⟩, ⟨.mem .ueAddrHiPoisoned, 16, 16, .ro, 1, 0⟩]⟩,
  -- MEM_SPARE_CTRL (R130)
  ⟨0x40001C, 20, 0x10000, 1, 1, 0x0, 1, [⟨.mem .spareCtrlLch, 6, 0, .rw, 1, 0⟩,
    ⟨.mem .spareCtrlStart, 8, 8, .w1s, 1, 0⟩]⟩,
  -- MEM_SPARE_STATUS (R130)
  ⟨0x400020, 20, 0x10000, 1, 1, 0x0, 1, [⟨.mem .spareStatusSpareCh, 7, 0, .ro, 1, 0⟩,
    ⟨.mem .spareStatusProgress, 15, 8, .ro, 1, 0⟩, ⟨.mem .spareStatusResult, 19, 16, .ro, 1, 0⟩]⟩,
  -- MEM_SCRUB_CFG (R130)
  ⟨0x400024, 20, 0x10000, 1, 1, 0x0, 1, [⟨.mem .scrubCfgPeriodH, 6, 0, .rw, 1, 0⟩]⟩,
  -- MEM_SCRUB_STATUS (R130)
  ⟨0x400028, 20, 0x10000, 1, 1, 0x0, 1, [⟨.mem .scrubStatusPasses, 15, 0, .ro, 1, 0⟩]⟩,
  -- MEM_CREDIT_STALL_LO (R130)
  ⟨0x40002C, 20, 0x10000, 1, 1, 0x0, 1, [⟨.mem .creditStallLoCountLo, 31, 0, .ro, 1, 0⟩]⟩,
  -- MEM_CREDIT_STALL_HI (R130)
  ⟨0x400030, 20, 0x10000, 1, 1, 0x0, 1, [⟨.mem .creditStallHiCountHi, 31, 0, .ro, 1, 0⟩]⟩,
  -- MEM_CH_MAP (R130)
  ⟨0x400100, 20, 0x10000, 32, 32, 0x4, 1, [⟨.mem .chMapPch, 7, 0, .ro, 4, 0⟩,
    ⟨.mem .chMapPch, 15, 8, .ro, 4, 1⟩, ⟨.mem .chMapPch, 23, 16, .ro, 4, 2⟩, ⟨.mem .chMapPch, 31, 24, .ro, 4, 3⟩]⟩,
  -- MEM_CH_CE (R130)
  ⟨0x400200, 20, 0x10000, 132, 132, 0x4, 1, [⟨.mem .chCeLeaky, 15, 0, .ro, 1, 0⟩,
    ⟨.mem .chCeHardFail, 16, 16, .ro, 1, 0⟩, ⟨.mem .chCeSparedOut, 17, 17, .ro, 1, 0⟩]⟩,
  -- MEM_G_VERSION (R131)
  ⟨0x540000, 1, 0x0, 1, 1, 0x0, 1, [⟨.mem .gVersion, 31, 0, .ro, 1, 0⟩]⟩,
  -- MEM_IL_CFG (R131)
  ⟨0x540004, 1, 0x0, 1, 1, 0x0, 1, [⟨.mem .ilCfgMode, 1, 0, .rwc, 1, 0⟩, ⟨.mem .ilCfgHash, 2, 2, .rwc, 1, 0⟩]⟩,
  -- MEM_STACK_MASK (R131)
  ⟨0x540008, 1, 0x0, 1, 1, 0x0, 1, [⟨.mem .stackMaskMask, 19, 0, .rwc, 1, 0⟩]⟩,
  -- MEM_COMMIT (R131)
  ⟨0x54000C, 1, 0x0, 1, 1, 0x0, 1, [⟨.mem .commitCommit, 0, 0, .wo, 1, 0⟩]⟩,
  -- MEM_COMMIT_STATUS (R131)
  ⟨0x540010, 1, 0x0, 1, 1, 0x0, 1, [⟨.mem .commitStatusErr, 3, 0, .ro, 1, 0⟩,
    ⟨.mem .commitStatusBusy, 4, 4, .ro, 1, 0⟩]⟩ ]

/-- Registers of MEM (R130, R131), part 2 of 2. -/
def regTableMem2 : List RegRow := [
  -- MEM_TOP_LO (R131)
  ⟨0x540014, 1, 0x0, 1, 1, 0x0, 1, [⟨.mem .topLoTopLo, 31, 0, .ro, 1, 0⟩]⟩,
  -- MEM_TOP_HI (R131)
  ⟨0x540018, 1, 0x0, 1, 1, 0x0, 1, [⟨.mem .topHiTopHi, 7, 0, .ro, 1, 0⟩]⟩,
  -- MEM_SPARE_THRESH (R131)
  ⟨0x54001C, 1, 0x0, 1, 1, 0x0, 1, [⟨.mem .spareThreshThresh, 15, 0, .rw, 1, 0⟩]⟩,
  -- MEM_SR_CFG (R131)
  ⟨0x540020, 1, 0x0, 1, 1, 0x0, 1, [⟨.mem .srCfgSrIdleUs, 15, 0, .rw, 1, 0⟩]⟩,
  -- MEM_FAILED (R131)
  ⟨0x540024, 1, 0x0, 1, 1, 0x0, 1, [⟨.mem .failedFailed, 19, 0, .ro, 1, 0⟩]⟩,
  -- MEM_MIR_CFG (R131)
  ⟨0x540100, 8, 0x4, 1, 1, 0x0, 1, [⟨.mem .mirCfgBaseGib, 9, 0, .rwc, 1, 0⟩,
    ⟨.mem .mirCfgSizeGib, 16, 10, .rwc, 1, 0⟩, ⟨.mem .mirCfgEnable, 24, 24, .rwc, 1, 0⟩,
    ⟨.mem .mirCfgSync, 25, 25, .rwc, 1, 0⟩, ⟨.mem .mirCfgUnsynced, 26, 26, .ro, 1, 0⟩]⟩ ]

/-- All registers of MEM (R130, R131). -/
def regTableMem : List RegRow := regTableMem1 ++ regTableMem2

/-- Registers of MIL (R133). -/
def regTableMil1 : List RegRow := [
  -- MIL_VERSION (R133)
  ⟨0x600000, 1, 0x0, 1, 1, 0x0, 1, [⟨.mil .version, 31, 0, .ro, 1, 0⟩]⟩,
  -- MIL_COMMIT (R133)
  ⟨0x600004, 1, 0x0, 1, 1, 0x0, 1, [⟨.mil .commitCommit, 0, 0, .wo, 1, 0⟩]⟩,
  -- MIL_COMMIT_STATUS (R133)
  ⟨0x600008, 1, 0x0, 1, 1, 0x0, 1, [⟨.mil .commitStatusErr, 3, 0, .ro, 1, 0⟩,
    ⟨.mil .commitStatusBusy, 4, 4, .ro, 1, 0⟩]⟩,
  -- MIL_STATUS (R133)
  ⟨0x60000C, 1, 0x0, 1, 1, 0x0, 1, [⟨.mil .statusActive, 15, 0, .ro, 1, 0⟩,
    ⟨.mil .statusRangeOff, 31, 16, .w1c, 1, 0⟩]⟩,
  -- MIL_RGN_BASE_LO (R133)
  ⟨0x600100, 16, 0x10, 1, 1, 0x0, 1, [⟨.mil .rgnBaseLoBaseLo, 31, 16, .rwc, 1, 0⟩]⟩,
  -- MIL_RGN_BASE_HI (R133)
  ⟨0x600104, 16, 0x10, 1, 1, 0x0, 1, [⟨.mil .rgnBaseHiBaseHi, 7, 0, .rwc, 1, 0⟩]⟩,
  -- MIL_RGN_SIZE (R133)
  ⟨0x600108, 16, 0x10, 1, 1, 0x0, 1, [⟨.mil .rgnSizeSize64k, 23, 0, .rwc, 1, 0⟩]⟩,
  -- MIL_RGN_CFG (R133)
  ⟨0x60010C, 16, 0x10, 1, 1, 0x0, 1, [⟨.mil .rgnCfgEnable, 0, 0, .rwc, 1, 0⟩,
    ⟨.mil .rgnCfgOutFmt, 1, 1, .rwc, 1, 0⟩, ⟨.mil .rgnCfgCbFmt, 2, 2, .rwc, 1, 0⟩,
    ⟨.mil .rgnCfgScaleOfs, 21, 4, .rwc, 1, 0⟩]⟩,
  -- MIL_GROUPS_LO (R133)
  ⟨0x601000, 20, 0x20, 1, 1, 0x0, 1, [⟨.mil .groupsLoCountLo, 31, 0, .ro, 1, 0⟩]⟩,
  -- MIL_GROUPS_HI (R133)
  ⟨0x601004, 20, 0x20, 1, 1, 0x0, 1, [⟨.mil .groupsHiCountHi, 31, 0, .ro, 1, 0⟩]⟩,
  -- MIL_NAN (R133)
  ⟨0x601008, 20, 0x20, 1, 1, 0x0, 1, [⟨.mil .nanCount, 31, 0, .ro, 1, 0⟩]⟩,
  -- MIL_SAT (R133)
  ⟨0x60100C, 20, 0x20, 1, 1, 0x0, 1, [⟨.mil .satCount, 31, 0, .ro, 1, 0⟩]⟩ ]

/-- All registers of MIL (R133). -/
def regTableMil : List RegRow := regTableMil1

/-- Registers of IXF (R226 to R229), part 1 of 2. -/
def regTableIxf1 : List RegRow := [
  -- IXF_VERSION (R226)
  ⟨0x800000, 1, 0x0, 1, 1, 0x0, 1, [⟨.ixf .version, 31, 0, .ro, 1, 0⟩]⟩,
  -- IXF_MODULE_ID (R226)
  ⟨0x800004, 1, 0x0, 1, 1, 0x0, 1, [⟨.ixf .moduleIdId, 13, 0, .rwc, 1, 0⟩,
    ⟨.ixf .moduleIdValid, 16, 16, .rwc, 1, 0⟩]⟩,
  -- IXF_CTRL (R226)
  ⟨0x800008, 1, 0x0, 1, 1, 0x0, 1, [⟨.ixf .ctrlClusterRx, 0, 0, .rwc, 1, 0⟩,
    ⟨.ixf .ctrlSprayDma, 1, 1, .rwc, 1, 0⟩]⟩,
  -- IXF_COMMIT (R226)
  ⟨0x80000C, 1, 0x0, 1, 1, 0x0, 1, [⟨.ixf .commitCommit, 0, 0, .wo, 1, 0⟩]⟩,
  -- IXF_COMMIT_STATUS (R226)
  ⟨0x800010, 1, 0x0, 1, 1, 0x0, 1, [⟨.ixf .commitStatusErr, 3, 0, .ro, 1, 0⟩,
    ⟨.ixf .commitStatusBusy, 4, 4, .ro, 1, 0⟩]⟩,
  -- IXF_EVT (R226)
  ⟨0x800014, 1, 0x0, 1, 1, 0x0, 1, [⟨.ixf .evtPortDown, 0, 0, .w1c, 1, 0⟩,
    ⟨.ixf .evtPortUp, 1, 1, .w1c, 1, 0⟩, ⟨.ixf .evtDestDown, 2, 2, .w1c, 1, 0⟩,
    ⟨.ixf .evtIsolated, 3, 3, .w1c, 1, 0⟩, ⟨.ixf .evtRefused, 4, 4, .w1c, 1, 0⟩,
    ⟨.ixf .evtDiscard, 5, 5, .w1c, 1, 0⟩, ⟨.ixf .evtCollErr, 6, 6, .w1c, 1, 0⟩]⟩,
  -- IXF_EVT_EN (R226)
  ⟨0x800018, 1, 0x0, 1, 1, 0x0, 1, [⟨.ixf .evtEnEn, 6, 0, .rw, 1, 0⟩]⟩,
  -- IXF_DEST_DOWN (R226)
  ⟨0x80001C, 1, 0x0, 1, 1, 0x0, 1, [⟨.ixf .destDownLastId, 13, 0, .ro, 1, 0⟩,
    ⟨.ixf .destDownCount, 31, 16, .ro, 1, 0⟩]⟩,
  -- IXF_FENCE_CLR (R226)
  ⟨0x800020, 1, 0x0, 1, 1, 0x0, 1, [⟨.ixf .fenceClrId, 13, 0, .wo, 1, 0⟩]⟩,
  -- IXF_REACH_QUERY (R226)
  ⟨0x800024, 1, 0x0, 1, 1, 0x0, 1, [⟨.ixf .reachQueryId, 13, 0, .wo, 1, 0⟩]⟩,
  -- IXF_REACH_RESULT (R226)
  ⟨0x800028, 1, 0x0, 1, 1, 0x0, 1, [⟨.ixf .reachResultPlanes, 11, 0, .ro, 1, 0⟩,
    ⟨.ixf .reachResultFenced, 12, 12, .ro, 1, 0⟩, ⟨.ixf .reachResultReady, 13, 13, .ro, 1, 0⟩]⟩,
  -- IXF_PORTS_UP (R226)
  ⟨0x80002C, 1, 0x0, 1, 1, 0x0, 1, [⟨.ixf .portsUpUp, 11, 0, .ro, 1, 0⟩]⟩,
  -- IXF_DISCARD (R226)
  ⟨0x800030, 1, 0x0, 1, 1, 0x0, 1, [⟨.ixf .discardBad, 15, 0, .ro, 1, 0⟩, ⟨.ixf .discardFenced, 31, 16, .ro, 1, 0⟩]⟩,
  -- IXF_WIN_BASE_LO (R227)
  ⟨0x800100, 16, 0x10, 1, 1, 0x0, 1, [⟨.ixf .winBaseLoBaseLo, 31, 16, .rwc, 1, 0⟩]⟩,
  -- IXF_WIN_BASE_HI (R227)
  ⟨0x800104, 16, 0x10, 1, 1, 0x0, 1, [⟨.ixf .winBaseHiBaseHi, 7, 0, .rwc, 1, 0⟩]⟩,
  -- IXF_WIN_SIZE (R227)
  ⟨0x800108, 16, 0x10, 1, 1, 0x0, 1, [⟨.ixf .winSizeSize64k, 23, 0, .rwc, 1, 0⟩]⟩,
  -- IXF_WIN_CFG (R227)
  ⟨0x80010C, 16, 0x10, 1, 1, 0x0, 1, [⟨.ixf .winCfgEnable, 0, 0, .rwc, 1, 0⟩,
    ⟨.ixf .winCfgRd, 1, 1, .rwc, 1, 0⟩, ⟨.ixf .winCfgWr, 2, 2, .rwc, 1, 0⟩, ⟨.ixf .winCfgSrcMin, 17, 4, .rwc, 1, 0⟩,
    ⟨.ixf .winCfgSrcMax, 31, 18, .rwc, 1, 0⟩]⟩,
  -- IXF_PORT_CTRL (R228)
  ⟨0x801000, 12, 0x100, 1, 1, 0x0, 1, [⟨.ixf .portCtrlEnable, 0, 0, .rw, 1, 0⟩,
    ⟨.ixf .portCtrlRetrain, 1, 1, .w1s, 1, 0⟩, ⟨.ixf .portCtrlPark, 2, 2, .rw, 1, 0⟩]⟩,
  -- IXF_PORT_STATUS (R228)
  ⟨0x801004, 12, 0x100, 1, 1, 0x0, 1, [⟨.ixf .portStatusState, 2, 0, .ro, 1, 0⟩,
    ⟨.ixf .portStatusWidth, 5, 4, .ro, 1, 0⟩, ⟨.ixf .portStatusLanesOk, 15, 8, .ro, 1, 0⟩,
    ⟨.ixf .portStatusTrainErr, 19, 16, .ro, 1, 0⟩, ⟨.ixf .portStatusFarPlane, 23, 20, .ro, 1, 0⟩]⟩,
  -- IXF_PORT_CAP_LO (R228)
  ⟨0x801008, 12, 0x100, 1, 1, 0x0, 1, [⟨.ixf .portCapLoLocalLo, 31, 0, .ro, 1, 0⟩]⟩ ]

/-- Registers of IXF (R226 to R229), part 2 of 2. -/
def regTableIxf2 : List RegRow := [
  -- IXF_PORT_CAP_HI (R228)
  ⟨0x80100C, 12, 0x100, 1, 1, 0x0, 1, [⟨.ixf .portCapHiLocalHi, 31, 0, .ro, 1, 0⟩]⟩,
  -- IXF_PORT_FAR_LO (R228)
  ⟨0x801010, 12, 0x100, 1, 1, 0x0, 1, [⟨.ixf .portFarLoFarLo, 31, 0, .ro, 1, 0⟩]⟩,
  -- IXF_PORT_FAR_HI (R228)
  ⟨0x801014, 12, 0x100, 1, 1, 0x0, 1, [⟨.ixf .portFarHiFarHi, 31, 0, .ro, 1, 0⟩]⟩,
  -- IXF_PORT_STALL_LO (R228)
  ⟨0x801018, 12, 0x100, 1, 1, 0x0, 1, [⟨.ixf .portStallLoCountLo, 31, 0, .ro, 1, 0⟩]⟩,
  -- IXF_PORT_STALL_HI (R228)
  ⟨0x80101C, 12, 0x100, 1, 1, 0x0, 1, [⟨.ixf .portStallHiCountHi, 31, 0, .ro, 1, 0⟩]⟩,
  -- IXF_PORT_REPLAY (R228)
  ⟨0x801020, 12, 0x100, 1, 1, 0x0, 1, [⟨.ixf .portReplayReplays, 15, 0, .ro, 1, 0⟩,
    ⟨.ixf .portReplayRetrains, 31, 16, .ro, 1, 0⟩]⟩,
  -- IXF_PORT_FEC (R228)
  ⟨0x801024, 12, 0x100, 1, 1, 0x0, 1, [⟨.ixf .portFecCorrected, 31, 0, .ro, 1, 0⟩]⟩,
  -- IXF_PORT_NOTICE (R228)
  ⟨0x801028, 12, 0x100, 1, 1, 0x0, 1, [⟨.ixf .portNoticeUnreach, 15, 0, .ro, 1, 0⟩,
    ⟨.ixf .portNoticeDown, 31, 16, .ro, 1, 0⟩]⟩,
  -- IXF_PORT_OE (R228)
  ⟨0x80102C, 12, 0x100, 1, 1, 0x0, 1, [⟨.ixf .portOeTemp, 7, 0, .ro, 1, 0⟩,
    ⟨.ixf .portOeLaserFault, 8, 8, .ro, 1, 0⟩]⟩,
  -- IXF_COLL_Q_LO (R229)
  ⟨0x802000, 16, 0x20, 1, 1, 0x0, 1, [⟨.ixf .collQLoQLo, 31, 12, .rwc, 1, 0⟩]⟩,
  -- IXF_COLL_Q_HI (R229)
  ⟨0x802004, 16, 0x20, 1, 1, 0x0, 1, [⟨.ixf .collQHiQHi, 7, 0, .rwc, 1, 0⟩]⟩,
  -- IXF_COLL_CFG (R229)
  ⟨0x802008, 16, 0x20, 1, 1, 0x0, 1, [⟨.ixf .collCfgQsizeLog2, 3, 0, .rwc, 1, 0⟩,
    ⟨.ixf .collCfgEnable, 4, 4, .rwc, 1, 0⟩, ⟨.ixf .collCfgStartGate, 31, 16, .rwc, 1, 0⟩]⟩,
  -- IXF_COLL_TIMEOUT (R229)
  ⟨0x80200C, 16, 0x20, 1, 1, 0x0, 1, [⟨.ixf .collTimeoutMs, 15, 0, .rwc, 1, 0⟩]⟩,
  -- IXF_COLL_STATUS (R229)
  ⟨0x802010, 16, 0x20, 1, 1, 0x0, 1, [⟨.ixf .collStatusRunning, 0, 0, .ro, 1, 0⟩,
    ⟨.ixf .collStatusLast, 15, 8, .ro, 1, 0⟩, ⟨.ixf .collStatusDone, 31, 16, .ro, 1, 0⟩]⟩,
  -- IXF_COLL_NEXT (R229)
  ⟨0x802014, 16, 0x20, 1, 1, 0x0, 1, [⟨.ixf .collNextIndex, 31, 0, .ro, 1, 0⟩]⟩,
  -- IXF_GRP_CFG (R229)
  ⟨0x803000, 64, 0x10, 1, 1, 0x0, 1, [⟨.ixf .grpCfgMembers, 8, 0, .rwc, 1, 0⟩,
    ⟨.ixf .grpCfgRank, 23, 16, .rwc, 1, 0⟩, ⟨.ixf .grpCfgChannel, 27, 24, .rwc, 1, 0⟩,
    ⟨.ixf .grpCfgEnable, 28, 28, .rwc, 1, 0⟩, ⟨.ixf .grpCfgBroken, 29, 29, .ro, 1, 0⟩]⟩,
  -- IXF_GRP_LIST_LO (R229)
  ⟨0x803004, 64, 0x10, 1, 1, 0x0, 1, [⟨.ixf .grpListLoListLo, 31, 6, .rwc, 1, 0⟩]⟩,
  -- IXF_GRP_LIST_HI (R229)
  ⟨0x803008, 64, 0x10, 1, 1, 0x0, 1, [⟨.ixf .grpListHiListHi, 7, 0, .rwc, 1, 0⟩]⟩,
  -- IXF_GRP_SEQ (R229)
  ⟨0x80300C, 64, 0x10, 1, 1, 0x0, 1, [⟨.ixf .grpSeqSeq, 15, 0, .ro, 1, 0⟩]⟩ ]

/-- All registers of IXF (R226 to R229). -/
def regTableIxf : List RegRow := regTableIxf1 ++ regTableIxf2

/-- Registers of PTN (R231). -/
def regTablePtn1 : List RegRow := [
  -- PTN_VERSION (R231)
  ⟨0x900000, 1, 0x0, 1, 1, 0x0, 1, [⟨.ptn .version, 31, 0, .ro, 1, 0⟩]⟩,
  -- PTN_CAP_LO (R231)
  ⟨0x900004, 1, 0x0, 1, 1, 0x0, 1, [⟨.ptn .capLoLocalLo, 31, 0, .ro, 1, 0⟩]⟩,
  -- PTN_CAP_HI (R231)
  ⟨0x900008, 1, 0x0, 1, 1, 0x0, 1, [⟨.ptn .capHiLocalHi, 31, 0, .ro, 1, 0⟩]⟩,
  -- PTN_CTRL (R231)
  ⟨0x90000C, 1, 0x0, 1, 1, 0x0, 1, [⟨.ptn .ctrlEnable, 0, 0, .rw, 1, 0⟩, ⟨.ptn .ctrlRetrain, 1, 1, .w1s, 1, 0⟩,
    ⟨.ptn .ctrlFenceClr, 2, 2, .w1s, 1, 0⟩]⟩,
  -- PTN_STATUS (R231)
  ⟨0x900010, 1, 0x0, 1, 1, 0x0, 1, [⟨.ptn .statusState, 2, 0, .ro, 1, 0⟩, ⟨.ptn .statusWidth, 5, 4, .ro, 1, 0⟩,
    ⟨.ptn .statusLost, 6, 6, .ro, 1, 0⟩, ⟨.ptn .statusTrainErr, 11, 8, .ro, 1, 0⟩,
    ⟨.ptn .statusPartnerId, 29, 16, .ro, 1, 0⟩, ⟨.ptn .statusIdValid, 30, 30, .ro, 1, 0⟩]⟩,
  -- PTN_EVT (R231)
  ⟨0x900014, 1, 0x0, 1, 1, 0x0, 1, [⟨.ptn .evtLinkDown, 0, 0, .w1c, 1, 0⟩,
    ⟨.ptn .evtLinkUp, 1, 1, .w1c, 1, 0⟩, ⟨.ptn .evtLost, 2, 2, .w1c, 1, 0⟩, ⟨.ptn .evtRefused, 3, 3, .w1c, 1, 0⟩,
    ⟨.ptn .evtResyncDone, 4, 4, .w1c, 1, 0⟩]⟩,
  -- PTN_EVT_EN (R231)
  ⟨0x900018, 1, 0x0, 1, 1, 0x0, 1, [⟨.ptn .evtEnEn, 4, 0, .rw, 1, 0⟩]⟩,
  -- PTN_COMMIT (R231)
  ⟨0x90001C, 1, 0x0, 1, 1, 0x0, 1, [⟨.ptn .commitCommit, 0, 0, .wo, 1, 0⟩]⟩,
  -- PTN_COMMIT_STATUS (R231)
  ⟨0x900020, 1, 0x0, 1, 1, 0x0, 1, [⟨.ptn .commitStatusErr, 3, 0, .ro, 1, 0⟩,
    ⟨.ptn .commitStatusBusy, 4, 4, .ro, 1, 0⟩]⟩,
  -- PTN_RESYNC (R231)
  ⟨0x900024, 1, 0x0, 1, 1, 0x0, 1, [⟨.ptn .resyncRatePct, 6, 0, .rw, 1, 0⟩,
    ⟨.ptn .resyncProgress, 23, 16, .ro, 1, 0⟩, ⟨.ptn .resyncRegion, 26, 24, .ro, 1, 0⟩,
    ⟨.ptn .resyncActive, 27, 27, .ro, 1, 0⟩]⟩,
  -- PTN_FAR_LO (R231)
  ⟨0x900028, 1, 0x0, 1, 1, 0x0, 1, [⟨.ptn .farLoFarLo, 31, 0, .ro, 1, 0⟩]⟩,
  -- PTN_FAR_HI (R231)
  ⟨0x90002C, 1, 0x0, 1, 1, 0x0, 1, [⟨.ptn .farHiFarHi, 31, 0, .ro, 1, 0⟩]⟩,
  -- PTN_SUM_AGE (R231)
  ⟨0x900030, 1, 0x0, 1, 1, 0x0, 1, [⟨.ptn .sumAgeMs, 15, 0, .ro, 1, 0⟩, ⟨.ptn .sumAgeDiscard, 31, 16, .ro, 1, 0⟩]⟩,
  -- PTN_MIR_DST (R231)
  ⟨0x900100, 8, 0x4, 1, 1, 0x0, 1, [⟨.ptn .mirDstDstGib, 9, 0, .rwc, 1, 0⟩]⟩,
  -- PTN_RX_WIN (R231)
  ⟨0x900120, 8, 0x4, 1, 1, 0x0, 1, [⟨.ptn .rxWinBaseGib, 9, 0, .rwc, 1, 0⟩,
    ⟨.ptn .rxWinSizeGib, 16, 10, .rwc, 1, 0⟩, ⟨.ptn .rxWinEnable, 24, 24, .rwc, 1, 0⟩]⟩,
  -- PTN_SUM (R231)
  ⟨0x900200, 16, 0x4, 1, 1, 0x0, 1, [⟨.ptn .sumBytes, 31, 0, .ro, 1, 0⟩]⟩ ]

/-- All registers of PTN (R231). -/
def regTablePtn : List RegRow := regTablePtn1

/-- Registers of THL (R252), part 1 of 2. -/
def regTableThl1 : List RegRow := [
  -- THL_VERSION (R252)
  ⟨0xA00000, 1, 0x0, 1, 1, 0x0, 1, [⟨.thl .version, 31, 0, .ro, 1, 0⟩]⟩,
  -- THL_STATUS (R252)
  ⟨0xA00004, 1, 0x0, 1, 1, 0x0, 1, [⟨.thl .statusState, 2, 0, .ro, 1, 0⟩, ⟨.thl .statusWidth, 5, 4, .ro, 1, 0⟩,
    ⟨.thl .statusLanesOk, 11, 8, .ro, 1, 0⟩, ⟨.thl .statusTrainErr, 15, 12, .ro, 1, 0⟩,
    ⟨.thl .statusHostSilent, 16, 16, .ro, 1, 0⟩]⟩,
  -- THL_CTRL (R252)
  ⟨0xA00008, 1, 0x0, 1, 1, 0x0, 1, [⟨.thl .ctrlRetrain, 0, 0, .w1s, 1, 0⟩]⟩,
  -- THL_CAP_LO (R252)
  ⟨0xA0000C, 1, 0x0, 1, 1, 0x0, 1, [⟨.thl .capLoLocalLo, 31, 0, .ro, 1, 0⟩]⟩,
  -- THL_CAP_HI (R252)
  ⟨0xA00010, 1, 0x0, 1, 1, 0x0, 1, [⟨.thl .capHiLocalHi, 31, 0, .ro, 1, 0⟩]⟩,
  -- THL_FAR_LO (R252)
  ⟨0xA00014, 1, 0x0, 1, 1, 0x0, 1, [⟨.thl .farLoFarLo, 31, 0, .ro, 1, 0⟩]⟩,
  -- THL_FAR_HI (R252)
  ⟨0xA00018, 1, 0x0, 1, 1, 0x0, 1, [⟨.thl .farHiFarHi, 31, 0, .ro, 1, 0⟩]⟩,
  -- THL_IRQ_STATUS (R252)
  ⟨0xA00020, 1, 0x0, 1, 1, 0x0, 1, [⟨.thl .irqStatusPending, 3, 0, .w1c, 1, 0⟩]⟩,
  -- THL_IRQ_EN (R252)
  ⟨0xA00024, 1, 0x0, 1, 1, 0x0, 1, [⟨.thl .irqEnEn, 3, 0, .rw, 1, 0⟩]⟩,
  -- THL_IRQ_MOD (R252)
  ⟨0xA00028, 1, 0x0, 1, 1, 0x0, 1, [⟨.thl .irqModHoldoffUs, 15, 0, .rw, 1, 0⟩]⟩,
  -- THL_EVQ_BASE_LO (R252)
  ⟨0xA00030, 1, 0x0, 1, 1, 0x0, 1, [⟨.thl .evqBaseLoBaseLo, 31, 12, .rwc, 1, 0⟩]⟩,
  -- THL_EVQ_BASE_HI (R252)
  ⟨0xA00034, 1, 0x0, 1, 1, 0x0, 1, [⟨.thl .evqBaseHiBaseHi, 31, 0, .rwc, 1, 0⟩]⟩,
  -- THL_EVQ_CFG (R252)
  ⟨0xA00038, 1, 0x0, 1, 1, 0x0, 1, [⟨.thl .evqCfgSizeLog2, 4, 0, .rwc, 1, 0⟩,
    ⟨.thl .evqCfgEnable, 5, 5, .rwc, 1, 0⟩]⟩,
  -- THL_COMMIT (R252)
  ⟨0xA0003C, 1, 0x0, 1, 1, 0x0, 1, [⟨.thl .commitCommit, 0, 0, .wo, 1, 0⟩]⟩,
  -- THL_COMMIT_STATUS (R252)
  ⟨0xA00040, 1, 0x0, 1, 1, 0x0, 1, [⟨.thl .commitStatusErr, 3, 0, .ro, 1, 0⟩,
    ⟨.thl .commitStatusBusy, 4, 4, .ro, 1, 0⟩]⟩,
  -- THL_EVQ_PROD (R252)
  ⟨0xA00044, 1, 0x0, 1, 1, 0x0, 1, [⟨.thl .evqProdProd, 31, 0, .ro, 1, 0⟩]⟩,
  -- THL_EVQ_CONS (R252)
  ⟨0xA00048, 1, 0x0, 1, 1, 0x0, 1, [⟨.thl .evqConsCons, 31, 0, .rw, 1, 0⟩]⟩,
  -- THL_EVQ_LOST (R252)
  ⟨0xA0004C, 1, 0x0, 1, 1, 0x0, 1, [⟨.thl .evqLostCount, 15, 0, .ro, 1, 0⟩,
    ⟨.thl .evqLostHeld, 23, 16, .ro, 1, 0⟩, ⟨.thl .evqLostConsErr, 24, 24, .w1c, 1, 0⟩]⟩,
  -- THL_HOST_WD (R252)
  ⟨0xA00050, 1, 0x0, 1, 1, 0x0, 1, [⟨.thl .hostWdTimeoutS, 7, 0, .rw, 1, 0⟩,
    ⟨.thl .hostWdAction, 8, 8, .rw, 1, 0⟩]⟩,
  -- THL_HOST_HB (R252)
  ⟨0xA00054, 1, 0x0, 1, 1, 0x0, 1, [⟨.thl .hostHbBeat, 31, 0, .wo, 1, 0⟩]⟩ ]

/-- Registers of THL (R252), part 2 of 2. -/
def regTableThl2 : List RegRow := [
  -- THL_DRAIN (R252)
  ⟨0xA00058, 1, 0x0, 1, 1, 0x0, 1, [⟨.thl .drainLimitMs, 15, 0, .rw, 1, 0⟩]⟩,
  -- THL_MBX_STATE (R252)
  ⟨0xA00060, 1, 0x0, 1, 1, 0x0, 1, [⟨.thl .mbxStateState, 1, 0, .ro, 1, 0⟩,
    ⟨.thl .mbxStateOpcode, 15, 8, .ro, 1, 0⟩, ⟨.thl .mbxStateProgress, 23, 16, .ro, 1, 0⟩,
    ⟨.thl .mbxStateRefused, 24, 24, .w1c, 1, 0⟩]⟩,
  -- THL_MBX_DOORBELL (R252)
  ⟨0xA00064, 1, 0x0, 1, 1, 0x0, 1, [⟨.thl .mbxDoorbellRing, 0, 0, .wo, 1, 0⟩]⟩,
  -- THL_MBX_CMD (R252)
  ⟨0xA00100, 16, 0x4, 1, 1, 0x0, 1, [⟨.thl .mbxCmdBytes, 31, 0, .rw, 1, 0⟩]⟩,
  -- THL_MBX_RSP (R252)
  ⟨0xA00140, 16, 0x4, 1, 1, 0x0, 1, [⟨.thl .mbxRspBytes, 31, 0, .ro, 1, 0⟩]⟩,
  -- THL_WIQ_PEND (R252)
  ⟨0xA00200, 16, 0x4, 1, 1, 0x0, 1, [⟨.thl .wiqPendPend, 31, 0, .w1c, 1, 0⟩]⟩ ]

/-- All registers of THL (R252). -/
def regTableThl : List RegRow := regTableThl1 ++ regTableThl2

/-- Registers of KLN (R279, R280, R449). -/
def regTableKln1 : List RegRow := [
  -- KLN_VERSION (R279)
  ⟨0xC00000, 2, 0x80000, 1, 1, 0x0, 1, [⟨.kln .version, 31, 0, .ro, 1, 0⟩]⟩,
  -- KLN_ROLE (R279)
  ⟨0xC00004, 2, 0x80000, 1, 1, 0x0, 1, [⟨.kln .roleRole, 1, 0, .ro, 1, 0⟩,
    ⟨.kln .roleHealthy, 2, 2, .ro, 1, 0⟩, ⟨.kln .roleEligible, 3, 3, .ro, 1, 0⟩,
    ⟨.kln .roleFwVer, 31, 16, .ro, 1, 0⟩]⟩,
  -- KLN_HEALTH (R279)
  ⟨0xC00008, 2, 0x80000, 1, 1, 0x0, 1, [⟨.kln .healthMemUe, 0, 0, .ro, 1, 0⟩,
    ⟨.kln .healthCycle, 1, 1, .ro, 1, 0⟩, ⟨.kln .healthAcq, 2, 2, .ro, 1, 0⟩, ⟨.kln .healthDriveRb, 3, 3, .ro, 1, 0⟩,
    ⟨.kln .healthWatchdog, 4, 4, .ro, 1, 0⟩, ⟨.kln .healthCodeCrc, 5, 5, .ro, 1, 0⟩,
    ⟨.kln .healthCopyStale, 6, 6, .ro, 1, 0⟩, ⟨.kln .healthDiverge, 7, 7, .ro, 1, 0⟩,
    ⟨.kln .healthClock, 8, 8, .ro, 1, 0⟩, ⟨.kln .healthRowbusRx, 9, 9, .ro, 1, 0⟩,
    ⟨.kln .healthNorRead, 10, 10, .ro, 1, 0⟩]⟩,
  -- KLN_CYCLE_LO (R279)
  ⟨0xC0000C, 2, 0x80000, 1, 1, 0x0, 1, [⟨.kln .cycleLoCountLo, 31, 0, .ro, 1, 0⟩]⟩,
  -- KLN_CYCLE_HI (R279)
  ⟨0xC00010, 2, 0x80000, 1, 1, 0x0, 1, [⟨.kln .cycleHiCountHi, 31, 0, .ro, 1, 0⟩]⟩,
  -- KLN_COPY (R279)
  ⟨0xC00014, 2, 0x80000, 1, 1, 0x0, 1, [⟨.kln .copyAge, 7, 0, .ro, 1, 0⟩, ⟨.kln .copyBad, 23, 8, .ro, 1, 0⟩]⟩,
  -- KLN_CTRL (R279)
  ⟨0xC00018, 2, 0x80000, 1, 1, 0x0, 1, [⟨.kln .ctrlHandover, 0, 0, .w1s, 1, 0⟩,
    ⟨.kln .ctrlRestart, 1, 1, .w1s, 1, 0⟩, ⟨.kln .ctrlRefused, 8, 8, .w1c, 1, 0⟩]⟩,
  -- KLN_HANDOVERS (R279)
  ⟨0xC0001C, 2, 0x80000, 1, 1, 0x0, 1, [⟨.kln .handoversCount, 15, 0, .ro, 1, 0⟩,
    ⟨.kln .handoversLastCause, 19, 16, .ro, 1, 0⟩]⟩,
  -- KLN_RESTARTS (R279)
  ⟨0xC00020, 2, 0x80000, 1, 1, 0x0, 1, [⟨.kln .restartsCount, 15, 0, .ro, 1, 0⟩,
    ⟨.kln .restartsLastCause, 19, 16, .ro, 1, 0⟩]⟩,
  -- KLN_OVERRUN (R279)
  ⟨0xC00024, 2, 0x80000, 1, 1, 0x0, 1, [⟨.kln .overrunCount, 15, 0, .ro, 1, 0⟩]⟩,
  -- KLN_DIVERGE (R279)
  ⟨0xC00028, 2, 0x80000, 1, 1, 0x0, 1, [⟨.kln .divergeLoop, 7, 0, .ro, 1, 0⟩,
    ⟨.kln .divergeCount, 31, 16, .ro, 1, 0⟩]⟩,
  -- KLN_OWNER (R280)
  ⟨0xC00100, 2, 0x80000, 0, 1, 0x0, 1, [⟨.kln .ownerOwner, 1, 0, .ro, 1, 0⟩,
    ⟨.kln .ownerQuiesce, 2, 2, .ro, 1, 0⟩, ⟨.kln .ownerRejected, 31, 16, .ro, 1, 0⟩]⟩,
  -- KLN_DIE_HB (R280)
  ⟨0xC00104, 2, 0x80000, 0, 1, 0x0, 1, [⟨.kln .dieHbAlive, 4, 0, .ro, 1, 0⟩,
    ⟨.kln .dieHbFailed, 12, 8, .ro, 1, 0⟩, ⟨.kln .dieHbFatal, 20, 16, .ro, 1, 0⟩]⟩,
  -- KLN_DIE_ERR (R280)
  ⟨0xC00108, 2, 0x80000, 0, 5, 0x4, 1, [⟨.kln .dieErrCeCount, 15, 0, .ro, 1, 0⟩,
    ⟨.kln .dieErrHbRestarts, 19, 16, .ro, 1, 0⟩, ⟨.kln .dieErrFailCause, 23, 20, .ro, 1, 0⟩]⟩,
  -- KLN_INV_SEL (R280)
  ⟨0xC00120, 2, 0x80000, 0, 1, 0x0, 1, [⟨.kln .invSelIndex, 15, 0, .rw, 1, 0⟩]⟩,
  -- KLN_INV_DATA (R280)
  ⟨0xC00124, 2, 0x80000, 0, 1, 0x0, 1, [⟨.kln .invDataWord, 31, 0, .ro, 1, 0⟩]⟩,
  -- KLN_REFLASH (R280)
  ⟨0xC00128, 2, 0x80000, 0, 1, 0x0, 1, [⟨.kln .reflashCount, 7, 0, .ro, 1, 0⟩,
    ⟨.kln .reflashLast, 11, 8, .ro, 1, 0⟩]⟩,
  -- KLN_ABSENT (R449)
  ⟨0xC00140, 2, 0x80000, 0, 25, 0x4, 1, [⟨.kln .absentAbsent, 31, 0, .ro, 1, 0⟩]⟩ ]

/-- All registers of KLN (R279, R280, R449). -/
def regTableKln : List RegRow := regTableKln1

/-- Registers of CLE (R310, R336 to R340), part 1 of 3. -/
def regTableCle1 : List RegRow := [
  -- CLE_COOL_STATUS (R310)
  ⟨0xD80000, 1, 0x0, 1, 1, 0x0, 1, [⟨.cle .coolStatusState, 2, 0, .ro, 1, 0⟩,
    ⟨.cle .coolStatusProtectFlow, 3, 3, .ro, 1, 0⟩, ⟨.cle .coolStatusLeakSuspected, 4, 4, .ro, 1, 0⟩,
    ⟨.cle .coolStatusLeak, 5, 5, .w1c, 1, 0⟩, ⟨.cle .coolStatusHotN, 6, 6, .ro, 1, 0⟩,
    ⟨.cle .coolStatusWarn, 15, 8, .ro, 1, 0⟩]⟩,
  -- CLE_FLOW (R310)
  ⟨0xD80004, 1, 0x0, 1, 1, 0x0, 1, [⟨.cle .flowProt, 15, 0, .ro, 1, 0⟩, ⟨.cle .flowCtrl, 31, 16, .ro, 1, 0⟩]⟩,
  -- CLE_FLOW_RAW (R310)
  ⟨0xD80008, 1, 0x0, 1, 1, 0x0, 1, [⟨.cle .flowRawFlwA, 15, 0, .ro, 1, 0⟩,
    ⟨.cle .flowRawFlwB, 31, 16, .ro, 1, 0⟩]⟩,
  -- CLE_FLOW_EST (R310)
  ⟨0xD8000C, 1, 0x0, 1, 1, 0x0, 1, [⟨.cle .flowEstQEst, 15, 0, .ro, 1, 0⟩]⟩,
  -- CLE_T_IN (R310)
  ⟨0xD80010, 1, 0x0, 1, 1, 0x0, 1, [⟨.cle .tInProt, 11, 0, .ro, 1, 0⟩, ⟨.cle .tInCtrl, 27, 16, .ro, 1, 0⟩]⟩,
  -- CLE_T_OUT (R310)
  ⟨0xD80014, 1, 0x0, 1, 1, 0x0, 1, [⟨.cle .tOutProt, 11, 0, .ro, 1, 0⟩, ⟨.cle .tOutCtrl, 27, 16, .ro, 1, 0⟩]⟩,
  -- CLE_PRESS (R310)
  ⟨0xD80018, 1, 0x0, 1, 1, 0x0, 1, [⟨.cle .pressPrsIn, 11, 0, .ro, 1, 0⟩, ⟨.cle .pressPrsOut, 27, 16, .ro, 1, 0⟩]⟩,
  -- CLE_HUM (R310)
  ⟨0xD8001C, 1, 0x0, 1, 1, 0x0, 1, [⟨.cle .humRh, 7, 0, .ro, 1, 0⟩, ⟨.cle .humDew, 23, 12, .ro, 1, 0⟩]⟩,
  -- CLE_LEAK (R310)
  ⟨0xD80020, 1, 0x0, 1, 1, 0x0, 1, [⟨.cle .leakState, 2, 0, .ro, 4, 0⟩, ⟨.cle .leakState, 6, 4, .ro, 4, 1⟩,
    ⟨.cle .leakState, 10, 8, .ro, 4, 2⟩, ⟨.cle .leakState, 14, 12, .ro, 4, 3⟩,
    ⟨.cle .leakSuspect, 19, 16, .ro, 1, 0⟩, ⟨.cle .leakWet, 23, 20, .ro, 1, 0⟩]⟩,
  -- CLE_LEAK_R (R310)
  ⟨0xD80024, 4, 0x4, 1, 1, 0x0, 1, [⟨.cle .leakROhm10, 15, 0, .ro, 1, 0⟩]⟩,
  -- CLE_ZONE_F (R310)
  ⟨0xD80034, 1, 0x0, 1, 1, 0x0, 1, [⟨.cle .zoneFF, 1, 0, .ro, 8, 0⟩, ⟨.cle .zoneFF, 3, 2, .ro, 8, 1⟩,
    ⟨.cle .zoneFF, 5, 4, .ro, 8, 2⟩, ⟨.cle .zoneFF, 7, 6, .ro, 8, 3⟩, ⟨.cle .zoneFF, 9, 8, .ro, 8, 4⟩,
    ⟨.cle .zoneFF, 11, 10, .ro, 8, 5⟩, ⟨.cle .zoneFF, 13, 12, .ro, 8, 6⟩, ⟨.cle .zoneFF, 15, 14, .ro, 8, 7⟩]⟩,
  -- CLE_SENS_COUNT (R310)
  ⟨0xD80038, 1, 0x0, 1, 1, 0x0, 1, [⟨.cle .sensCountSubst, 15, 0, .ro, 1, 0⟩,
    ⟨.cle .sensCountDisagree, 31, 16, .ro, 1, 0⟩]⟩,
  -- CLE_SENS_QUERY (R310)
  ⟨0xD8003C, 1, 0x0, 1, 1, 0x0, 1, [⟨.cle .sensQueryId, 15, 0, .wo, 1, 0⟩]⟩,
  -- CLE_SENS_RESULT (R310)
  ⟨0xD80040, 1, 0x0, 1, 1, 0x0, 1, [⟨.cle .sensResultValue, 15, 0, .ro, 1, 0⟩,
    ⟨.cle .sensResultState, 18, 16, .ro, 1, 0⟩, ⟨.cle .sensResultSubst, 19, 19, .ro, 1, 0⟩,
    ⟨.cle .sensResultDisagree, 20, 20, .ro, 1, 0⟩, ⟨.cle .sensResultMasked, 21, 21, .ro, 1, 0⟩,
    ⟨.cle .sensResultReady, 22, 22, .ro, 1, 0⟩]⟩,
  -- CLE_HOTN (R310)
  ⟨0xD80044, 1, 0x0, 1, 1, 0x0, 1, [⟨.cle .hotnTripSel, 1, 0, .ro, 1, 0⟩, ⟨.cle .hotnTripC, 15, 8, .ro, 1, 0⟩,
    ⟨.cle .hotnDie, 18, 16, .ro, 1, 0⟩, ⟨.cle .hotnStack, 19, 19, .ro, 1, 0⟩, ⟨.cle .hotnMasks, 27, 20, .ro, 1, 0⟩]⟩,
  -- CLE_COOL_CFG (R310)
  ⟨0xD80048, 1, 0x0, 1, 1, 0x0, 1, [⟨.cle .coolCfgFlowLoss, 7, 0, .ro, 1, 0⟩,
    ⟨.cle .coolCfgFlowReturn, 15, 8, .ro, 1, 0⟩, ⟨.cle .coolCfgTRetMax, 23, 16, .ro, 1, 0⟩]⟩,
  -- CLE_FLOW_LOSSES (R310)
  ⟨0xD8004C, 1, 0x0, 1, 1, 0x0, 1, [⟨.cle .flowLossesCount, 15, 0, .ro, 1, 0⟩,
    ⟨.cle .flowLossesQuiesces, 31, 16, .ro, 1, 0⟩]⟩,
  -- CLE_VERSION (R336)
  ⟨0xD00000, 1, 0x0, 1, 1, 0x0, 1, [⟨.cle .version, 31, 0, .ro, 1, 0⟩]⟩,
  -- CLE_COMMIT (R336)
  ⟨0xD00004, 1, 0x0, 1, 1, 0x0, 1, [⟨.cle .commitCommit, 0, 0, .wo, 1, 0⟩]⟩,
  -- CLE_COMMIT_STATUS (R336)
  ⟨0xD00008, 1, 0x0, 1, 1, 0x0, 1, [⟨.cle .commitStatusErr, 3, 0, .ro, 1, 0⟩,
    ⟨.cle .commitStatusBusy, 4, 4, .ro, 1, 0⟩, ⟨.cle .commitStatusErrLoop, 9, 5, .ro, 1, 0⟩]⟩ ]

/-- Registers of CLE (R310, R336 to R340), part 2 of 3. -/
def regTableCle2 : List RegRow := [
  -- CLE_LOAD_FAST (R336)
  ⟨0xD0000C, 1, 0x0, 1, 1, 0x0, 1, [⟨.cle .loadFastF, 15, 0, .ro, 1, 0⟩]⟩,
  -- CLE_LOAD_SLOW (R336)
  ⟨0xD00010, 1, 0x0, 1, 1, 0x0, 1, [⟨.cle .loadSlowS, 16, 0, .ro, 1, 0⟩]⟩,
  -- CLE_SAT (R336)
  ⟨0xD00014, 1, 0x0, 1, 1, 0x0, 1, [⟨.cle .satSat, 31, 0, .w1c, 1, 0⟩]⟩,
  -- CLE_TABLE (R336)
  ⟨0xD00018, 1, 0x0, 1, 1, 0x0, 1, [⟨.cle .tableTable, 31, 0, .ro, 1, 0⟩]⟩,
  -- CLE_SAFE (R336)
  ⟨0xD0001C, 1, 0x0, 1, 1, 0x0, 1, [⟨.cle .safeSafe, 31, 0, .ro, 1, 0⟩]⟩,
  -- CLE_GRP (R336)
  ⟨0xD00020, 7, 0x4, 1, 1, 0x0, 1, [⟨.cle .grpSelected, 4, 0, .ro, 1, 0⟩, ⟨.cle .grpOutput, 31, 16, .ro, 1, 0⟩]⟩,
  -- CLE_PROG (R336)
  ⟨0xD10000, 8192, 0x4, 1, 1, 0x0, 1, [⟨.cle .progInstr, 31, 0, .rwc, 1, 0⟩]⟩,
  -- CLE_DATA (R336)
  ⟨0xD20000, 2048, 0x4, 1, 1, 0x0, 1, [⟨.cle .dataValue, 15, 0, .ro, 1, 0⟩]⟩,
  -- CLE_DINIT (R336)
  ⟨0xD30000, 2048, 0x4, 1, 1, 0x0, 1, [⟨.cle .dinitValue, 15, 0, .rwc, 1, 0⟩]⟩,
  -- CLE_LOOP_CFG (R337)
  ⟨0xD40000, 32, 0x20, 1, 1, 0x0, 1, [⟨.cle .loopCfgEnable, 0, 0, .rwc, 1, 0⟩,
    ⟨.cle .loopCfgFast, 1, 1, .rwc, 1, 0⟩, ⟨.cle .loopCfgGroup, 4, 2, .rwc, 1, 0⟩,
    ⟨.cle .loopCfgGsEn, 5, 5, .rwc, 1, 0⟩, ⟨.cle .loopCfgGsTable, 9, 6, .rwc, 1, 0⟩,
    ⟨.cle .loopCfgRcEn, 10, 10, .rwc, 1, 0⟩, ⟨.cle .loopCfgRcTable, 13, 11, .rwc, 1, 0⟩,
    ⟨.cle .loopCfgFrame, 19, 14, .rwc, 1, 0⟩, ⟨.cle .loopCfgFbSrc, 25, 20, .rwc, 1, 0⟩,
    ⟨.cle .loopCfgOutDst, 31, 26, .rwc, 1, 0⟩]⟩,
  -- CLE_LOOP_PROG (R337)
  ⟨0xD40004, 32, 0x20, 1, 1, 0x0, 1, [⟨.cle .loopProgBase, 12, 0, .rwc, 1, 0⟩,
    ⟨.cle .loopProgLen, 29, 16, .rwc, 1, 0⟩]⟩,
  -- CLE_LOOP_LIMITS (R337)
  ⟨0xD40008, 32, 0x20, 1, 1, 0x0, 1, [⟨.cle .loopLimitsOutMin, 15, 0, .rwc, 1, 0⟩,
    ⟨.cle .loopLimitsOutMax, 31, 16, .rwc, 1, 0⟩]⟩,
  -- CLE_LOOP_SP (R337)
  ⟨0xD4000C, 32, 0x20, 1, 1, 0x0, 1, [⟨.cle .loopSpSpConst, 15, 0, .rwc, 1, 0⟩,
    ⟨.cle .loopSpSpSrc, 17, 16, .rwc, 1, 0⟩, ⟨.cle .loopSpSpLoop, 22, 18, .rwc, 1, 0⟩]⟩,
  -- CLE_LOOP_SAFE (R337)
  ⟨0xD40010, 32, 0x20, 1, 1, 0x0, 1, [⟨.cle .loopSafeSafe, 15, 0, .rwc, 1, 0⟩,
    ⟨.cle .loopSafeSafeHold, 16, 16, .rwc, 1, 0⟩]⟩,
  -- CLE_LOOP_STATUS (R337)
  ⟨0xD40014, 32, 0x20, 1, 1, 0x0, 1, [⟨.cle .loopStatusState, 2, 0, .ro, 1, 0⟩,
    ⟨.cle .loopStatusSelected, 3, 3, .ro, 1, 0⟩, ⟨.cle .loopStatusTableHour, 5, 4, .ro, 1, 0⟩,
    ⟨.cle .loopStatusConsecOvr, 15, 8, .ro, 1, 0⟩, ⟨.cle .loopStatusOutput, 31, 16, .ro, 1, 0⟩]⟩,
  -- CLE_LOOP_OVR (R337)
  ⟨0xD40018, 32, 0x20, 1, 1, 0x0, 1, [⟨.cle .loopOvrOverruns, 15, 0, .ro, 1, 0⟩,
    ⟨.cle .loopOvrTableEntries, 31, 16, .ro, 1, 0⟩]⟩,
  -- CLE_GS_FBP01 (R338)
  ⟨0xD50000, 16, 0x100, 1, 1, 0x0, 1, [⟨.cle .gsFbp01Fbp0, 15, 0, .rwc, 1, 0⟩,
    ⟨.cle .gsFbp01Fbp1, 31, 16, .rwc, 1, 0⟩]⟩,
  -- CLE_GS_FBP23 (R338)
  ⟨0xD50004, 16, 0x100, 1, 1, 0x0, 1, [⟨.cle .gsFbp23Fbp2, 15, 0, .rwc, 1, 0⟩,
    ⟨.cle .gsFbp23Fbp3, 31, 16, .rwc, 1, 0⟩]⟩,
  -- CLE_GS_PBP01 (R338)
  ⟨0xD50008, 16, 0x100, 1, 1, 0x0, 1, [⟨.cle .gsPbp01Pbp0, 15, 0, .rwc, 1, 0⟩,
    ⟨.cle .gsPbp01Pbp1, 31, 16, .rwc, 1, 0⟩]⟩,
  -- CLE_GS_PBP23 (R338)
  ⟨0xD5000C, 16, 0x100, 1, 1, 0x0, 1, [⟨.cle .gsPbp23Pbp2, 15, 0, .rwc, 1, 0⟩,
    ⟨.cle .gsPbp23Pbp3, 31, 16, .rwc, 1, 0⟩]⟩ ]

/-- Registers of CLE (R310, R336 to R340), part 3 of 3. -/
def regTableCle3 : List RegRow := [
  -- CLE_GS_K (R338)
  ⟨0xD50040, 16, 0x100, 16, 16, 0x4, 1, [⟨.cle .gsKKp, 15, 0, .rwc, 1, 0⟩,
    ⟨.cle .gsKKi, 31, 16, .rwc, 1, 0⟩]⟩,
  -- CLE_GS_TOUT (R338)
  ⟨0xD50080, 16, 0x100, 16, 16, 0x4, 1, [⟨.cle .gsToutTout, 15, 0, .rwc, 1, 0⟩]⟩,
  -- CLE_RC_CFG (R339)
  ⟨0xD60000, 8, 0x10, 1, 1, 0x0, 1, [⟨.cle .rcCfgEnable, 0, 0, .rwc, 1, 0⟩,
    ⟨.cle .rcCfgDecode, 1, 1, .rwc, 1, 0⟩, ⟨.cle .rcCfgPrefill, 2, 2, .rwc, 1, 0⟩,
    ⟨.cle .rcCfgDieMask, 6, 3, .rwc, 1, 0⟩, ⟨.cle .rcCfgStream, 15, 8, .rwc, 1, 0⟩,
    ⟨.cle .rcCfgLeadUs, 31, 16, .rwc, 1, 0⟩]⟩,
  -- CLE_RC_GAIN (R339)
  ⟨0xD60004, 8, 0x10, 1, 1, 0x0, 1, [⟨.cle .rcGainL, 15, 0, .rwc, 1, 0⟩, ⟨.cle .rcGainKFf, 31, 16, .rwc, 1, 0⟩]⟩,
  -- CLE_RC_STATUS (R339)
  ⟨0xD60008, 8, 0x10, 1, 1, 0x0, 1, [⟨.cle .rcStatusPeriod, 15, 0, .ro, 1, 0⟩,
    ⟨.cle .rcStatusLocked, 16, 16, .ro, 1, 0⟩, ⟨.cle .rcStatusFade, 21, 17, .ro, 1, 0⟩]⟩,
  -- CLE_RC_MARKS (R339)
  ⟨0xD6000C, 8, 0x10, 1, 1, 0x0, 1, [⟨.cle .rcMarksAccepted, 15, 0, .ro, 1, 0⟩,
    ⟨.cle .rcMarksDuplicate, 31, 16, .ro, 1, 0⟩]⟩,
  -- CLE_RC_CELL (R340)
  ⟨0xD70000, 8, 0x400, 256, 256, 0x4, 1, [⟨.cle .rcCellCell, 15, 0, .ro, 1, 0⟩]⟩ ]

/-- All registers of CLE (R310, R336 to R340). -/
def regTableCle : List RegRow := regTableCle1 ++ regTableCle2 ++ regTableCle3

/-- Registers of DRV (R359 to R361). -/
def regTableDrv1 : List RegRow := [
  -- DRV_VERSION (R359)
  ⟨0xE00000, 1, 0x0, 1, 1, 0x0, 1, [⟨.drv .version, 31, 0, .ro, 1, 0⟩]⟩,
  -- DRV_STATUS (R359)
  ⟨0xE00004, 1, 0x0, 1, 1, 0x0, 1, [⟨.drv .statusMode, 1, 0, .ro, 1, 0⟩, ⟨.drv .statusHotN, 2, 2, .ro, 1, 0⟩,
    ⟨.drv .statusBadFrames, 15, 8, .ro, 1, 0⟩, ⟨.drv .statusCmdAgeMs, 31, 16, .ro, 1, 0⟩]⟩,
  -- DRV_SW_STATUS (R359)
  ⟨0xE00008, 1, 0x0, 1, 1, 0x0, 1, [⟨.drv .swStatusTrip, 3, 0, .ro, 1, 0⟩]⟩,
  -- DRV_SW_CURRENT (R359)
  ⟨0xE0000C, 1, 0x0, 1, 1, 0x0, 1, [⟨.drv .swCurrentI, 7, 0, .ro, 4, 0⟩, ⟨.drv .swCurrentI, 15, 8, .ro, 4, 1⟩,
    ⟨.drv .swCurrentI, 23, 16, .ro, 4, 2⟩, ⟨.drv .swCurrentI, 31, 24, .ro, 4, 3⟩]⟩,
  -- DRV_CH_FAULT (R359)
  ⟨0xE00010, 1, 0x0, 1, 1, 0x0, 1, [⟨.drv .chFaultFault, 9, 0, .ro, 1, 0⟩]⟩,
  -- DRV_PULLIN_WAITS (R359)
  ⟨0xE00014, 1, 0x0, 1, 1, 0x0, 1, [⟨.drv .pullinWaitsCount, 15, 0, .ro, 1, 0⟩,
    ⟨.drv .pullinWaitsLastWaitUs, 31, 16, .ro, 1, 0⟩]⟩,
  -- DRV_CFG (R359)
  ⟨0xE00018, 1, 0x0, 1, 1, 0x0, 1, [⟨.drv .cfgPullinMs, 3, 0, .ro, 1, 0⟩, ⟨.drv .cfgHeadKpa, 15, 8, .ro, 1, 0⟩,
    ⟨.drv .cfgMinRpm, 31, 16, .ro, 1, 0⟩]⟩,
  -- DRV_VALVE_STATUS (R360)
  ⟨0xE00100, 8, 0x10, 1, 1, 0x0, 1, [⟨.drv .valveStatusState, 2, 0, .ro, 1, 0⟩,
    ⟨.drv .valveStatusDutyLimited, 3, 3, .ro, 1, 0⟩, ⟨.drv .valveStatusOfftime, 4, 4, .ro, 1, 0⟩,
    ⟨.drv .valveStatusReduced, 5, 5, .ro, 1, 0⟩, ⟨.drv .valveStatusCurrent, 15, 8, .ro, 1, 0⟩,
    ⟨.drv .valveStatusCode, 31, 16, .ro, 1, 0⟩]⟩,
  -- DRV_VALVE_DUTY (R360)
  ⟨0xE00104, 8, 0x10, 1, 1, 0x0, 1, [⟨.drv .valveDutyEnergyMj, 15, 0, .ro, 1, 0⟩]⟩,
  -- DRV_VALVE_COUNT (R360)
  ⟨0xE00108, 8, 0x10, 1, 1, 0x0, 1, [⟨.drv .valveCountPullins, 15, 0, .ro, 1, 0⟩,
    ⟨.drv .valveCountRefused, 23, 16, .ro, 1, 0⟩, ⟨.drv .valveCountDelayed, 31, 24, .ro, 1, 0⟩]⟩,
  -- DRV_VALVE_RES (R360)
  ⟨0xE0010C, 8, 0x10, 1, 1, 0x0, 1, [⟨.drv .valveResRes, 15, 0, .ro, 1, 0⟩,
    ⟨.drv .valveResFault, 19, 16, .ro, 1, 0⟩]⟩,
  -- DRV_PUMP_CTRL (R361)
  ⟨0xE00200, 2, 0x20, 1, 1, 0x0, 1, [⟨.drv .pumpCtrlEnable, 0, 0, .rw, 1, 0⟩,
    ⟨.drv .pumpCtrlRetry, 1, 1, .w1s, 1, 0⟩, ⟨.drv .pumpCtrlRefused, 2, 2, .w1c, 1, 0⟩]⟩,
  -- DRV_PUMP_STATUS (R361)
  ⟨0xE00204, 2, 0x20, 1, 1, 0x0, 1, [⟨.drv .pumpStatusState, 2, 0, .ro, 1, 0⟩,
    ⟨.drv .pumpStatusBemf, 3, 3, .ro, 1, 0⟩, ⟨.drv .pumpStatusHallFault, 4, 4, .ro, 1, 0⟩,
    ⟨.drv .pumpStatusKicksFailed, 7, 5, .ro, 1, 0⟩, ⟨.drv .pumpStatusSpeed, 31, 16, .ro, 1, 0⟩]⟩,
  -- DRV_PUMP_CMD (R361)
  ⟨0xE00208, 2, 0x20, 1, 1, 0x0, 1, [⟨.drv .pumpCmdRpm, 15, 0, .ro, 1, 0⟩]⟩,
  -- DRV_PUMP_CURRENT (R361)
  ⟨0xE0020C, 2, 0x20, 1, 1, 0x0, 1, [⟨.drv .pumpCurrentMa, 15, 0, .ro, 1, 0⟩]⟩,
  -- DRV_PUMP_COUNT (R361)
  ⟨0xE00210, 2, 0x20, 1, 1, 0x0, 1, [⟨.drv .pumpCountStarts, 15, 0, .ro, 1, 0⟩,
    ⟨.drv .pumpCountFails, 31, 16, .ro, 1, 0⟩]⟩ ]

/-- All registers of DRV (R359 to R361). -/
def regTableDrv : List RegRow := regTableDrv1

/-- Registers of ROW (R378, R379). -/
def regTableRow1 : List RegRow := [
  -- ROW_VERSION (R378)
  ⟨0xF00000, 1, 0x0, 1, 1, 0x0, 1, [⟨.row .version, 31, 0, .ro, 1, 0⟩]⟩,
  -- ROW_ID (R378)
  ⟨0xF00004, 1, 0x0, 1, 1, 0x0, 1, [⟨.row .idSlot, 5, 0, .ro, 1, 0⟩, ⟨.row .idRack, 13, 8, .ro, 1, 0⟩,
    ⟨.row .idStrapFault, 16, 16, .ro, 1, 0⟩]⟩,
  -- ROW_ALERT (R378)
  ⟨0xF00008, 1, 0x0, 1, 1, 0x0, 1, [⟨.row .alertCause, 7, 0, .ro, 1, 0⟩, ⟨.row .alertAsserted, 8, 8, .ro, 1, 0⟩]⟩,
  -- ROW_COMMIT (R378)
  ⟨0xF0000C, 1, 0x0, 1, 1, 0x0, 1, [⟨.row .commitCommit, 0, 0, .wo, 1, 0⟩]⟩,
  -- ROW_COMMIT_STATUS (R378)
  ⟨0xF00010, 1, 0x0, 1, 1, 0x0, 1, [⟨.row .commitStatusErr, 3, 0, .ro, 1, 0⟩,
    ⟨.row .commitStatusBusy, 4, 4, .ro, 1, 0⟩]⟩,
  -- ROW_PORT_CFG (R379)
  ⟨0xF00100, 2, 0x100, 1, 1, 0x0, 1, [⟨.row .portCfgEnable, 0, 0, .rwc, 1, 0⟩,
    ⟨.row .portCfgAuto, 1, 1, .rwc, 1, 0⟩, ⟨.row .portCfgNomRate, 2, 2, .rwc, 1, 0⟩,
    ⟨.row .portCfgDataRate, 5, 4, .rwc, 1, 0⟩]⟩,
  -- ROW_PORT_STATUS (R379)
  ⟨0xF00104, 2, 0x100, 1, 1, 0x0, 1, [⟨.row .portStatusState, 2, 0, .ro, 1, 0⟩,
    ⟨.row .portStatusBrs, 3, 3, .ro, 1, 0⟩, ⟨.row .portStatusNomDet, 4, 4, .ro, 1, 0⟩,
    ⟨.row .portStatusDataDet, 6, 5, .ro, 1, 0⟩, ⟨.row .portStatusRateFail, 7, 7, .ro, 1, 0⟩,
    ⟨.row .portStatusTec, 15, 8, .ro, 1, 0⟩, ⟨.row .portStatusRec, 23, 16, .ro, 1, 0⟩]⟩,
  -- ROW_PORT_CTRL (R379)
  ⟨0xF00108, 2, 0x100, 1, 1, 0x0, 1, [⟨.row .portCtrlCancel, 2, 0, .w1s, 1, 0⟩,
    ⟨.row .portCtrlClashClr, 3, 3, .w1s, 1, 0⟩]⟩,
  -- ROW_PORT_TXB (R379)
  ⟨0xF0010C, 2, 0x100, 3, 3, 0x4, 1, [⟨.row .portTxbType, 5, 0, .ro, 1, 0⟩,
    ⟨.row .portTxbPending, 6, 6, .ro, 1, 0⟩, ⟨.row .portTxbBegun, 7, 7, .ro, 1, 0⟩,
    ⟨.row .portTxbCancelResult, 9, 8, .ro, 1, 0⟩, ⟨.row .portTxbQueued, 20, 16, .ro, 1, 0⟩]⟩,
  -- ROW_PORT_TX (R379)
  ⟨0xF00118, 2, 0x100, 1, 1, 0x0, 1, [⟨.row .portTxSent, 15, 0, .ro, 1, 0⟩,
    ⟨.row .portTxDropped, 31, 16, .ro, 1, 0⟩]⟩,
  -- ROW_PORT_RX (R379)
  ⟨0xF0011C, 2, 0x100, 1, 1, 0x0, 1, [⟨.row .portRxAccepted, 15, 0, .ro, 1, 0⟩,
    ⟨.row .portRxRepeats, 31, 16, .ro, 1, 0⟩]⟩,
  -- ROW_PORT_RXERR (R379)
  ⟨0xF00120, 2, 0x100, 1, 1, 0x0, 1, [⟨.row .portRxerrBad, 7, 0, .ro, 1, 0⟩,
    ⟨.row .portRxerrEmpty, 15, 8, .ro, 1, 0⟩]⟩,
  -- ROW_PORT_CLASH (R379)
  ⟨0xF00124, 2, 0x100, 1, 1, 0x0, 1, [⟨.row .portClashRecent, 3, 0, .ro, 1, 0⟩,
    ⟨.row .portClashTotal, 15, 8, .ro, 1, 0⟩, ⟨.row .portClashBusOffs, 23, 16, .ro, 1, 0⟩]⟩ ]

/-- All registers of ROW (R378, R379). -/
def regTableRow : List RegRow := regTableRow1

/-- Registers of CSK (R424). -/
def regTableCsk1 : List RegRow := [
  -- CSK_VERSION (R424)
  ⟨0x1000000, 1, 0x0, 1, 1, 0x0, 1, [⟨.csk .version, 31, 0, .ro, 1, 0⟩]⟩,
  -- CSK_STATUS (R424)
  ⟨0x1000004, 1, 0x0, 1, 1, 0x0, 1, [⟨.csk .statusNorFailed, 0, 0, .ro, 1, 0⟩,
    ⟨.csk .statusCircOff, 1, 1, .ro, 1, 0⟩, ⟨.csk .statusPermFull, 2, 2, .ro, 1, 0⟩,
    ⟨.csk .statusLosing, 3, 3, .ro, 1, 0⟩, ⟨.csk .statusSparesLeft, 13, 8, .ro, 1, 0⟩,
    ⟨.csk .statusUnwritten, 25, 16, .ro, 1, 0⟩]⟩,
  -- CSK_NEXT_SEQ (R424)
  ⟨0x1000008, 1, 0x0, 1, 1, 0x0, 1, [⟨.csk .nextSeqSeq, 31, 0, .ro, 1, 0⟩]⟩,
  -- CSK_OLDEST (R424)
  ⟨0x100000C, 1, 0x0, 1, 1, 0x0, 1, [⟨.csk .oldestSeq, 31, 0, .ro, 1, 0⟩]⟩,
  -- CSK_FLUSHED (R424)
  ⟨0x1000010, 1, 0x0, 1, 1, 0x0, 1, [⟨.csk .flushedSeq, 31, 0, .ro, 1, 0⟩]⟩,
  -- CSK_PERM (R424)
  ⟨0x1000014, 1, 0x0, 1, 1, 0x0, 1, [⟨.csk .permPermCount, 10, 0, .ro, 1, 0⟩]⟩,
  -- CSK_PERM_FIRST (R424)
  ⟨0x1000018, 1, 0x0, 1, 1, 0x0, 1, [⟨.csk .permFirstSeq, 31, 0, .ro, 1, 0⟩]⟩,
  -- CSK_LOST (R424)
  ⟨0x100001C, 1, 0x0, 1, 1, 0x0, 1, [⟨.csk .lostCount, 15, 0, .ro, 1, 0⟩, ⟨.csk .lostBad, 31, 16, .ro, 1, 0⟩]⟩,
  -- CSK_CFG (R424)
  ⟨0x1000020, 1, 0x0, 1, 1, 0x0, 1, [⟨.csk .cfgCircSectors, 6, 0, .rwc, 1, 0⟩]⟩,
  -- CSK_COMMIT (R424)
  ⟨0x1000024, 1, 0x0, 1, 1, 0x0, 1, [⟨.csk .commitCommit, 0, 0, .wo, 1, 0⟩]⟩,
  -- CSK_COMMIT_STATUS (R424)
  ⟨0x1000028, 1, 0x0, 1, 1, 0x0, 1, [⟨.csk .commitStatusErr, 3, 0, .ro, 1, 0⟩,
    ⟨.csk .commitStatusBusy, 4, 4, .ro, 1, 0⟩]⟩,
  -- CSK_MARK (R424)
  ⟨0x100002C, 1, 0x0, 1, 1, 0x0, 1, [⟨.csk .markValue, 31, 0, .wo, 1, 0⟩]⟩,
  -- CSK_RD_SEQ (R424)
  ⟨0x1000030, 1, 0x0, 1, 1, 0x0, 1, [⟨.csk .rdSeqSeq, 31, 0, .rw, 1, 0⟩]⟩,
  -- CSK_RD_STATUS (R424)
  ⟨0x1000034, 1, 0x0, 1, 1, 0x0, 1, [⟨.csk .rdStatusReady, 0, 0, .ro, 1, 0⟩,
    ⟨.csk .rdStatusFound, 1, 1, .ro, 1, 0⟩]⟩,
  -- CSK_RD_DATA (R424)
  ⟨0x1000100, 64, 0x4, 1, 1, 0x0, 1, [⟨.csk .rdDataBytes, 31, 0, .ro, 1, 0⟩]⟩,
  -- CSK_TRIG (R424)
  ⟨0x1000800, 64, 0x4, 1, 1, 0x0, 1, [⟨.csk .trigSource, 7, 0, .rwc, 1, 0⟩,
    ⟨.csk .trigCode, 15, 8, .rwc, 1, 0⟩, ⟨.csk .trigProfile, 19, 16, .rwc, 1, 0⟩,
    ⟨.csk .trigEnable, 20, 20, .rwc, 1, 0⟩, ⟨.csk .trigAnyCode, 21, 21, .rwc, 1, 0⟩]⟩,
  -- CSK_PROF (R424)
  ⟨0x1001100, 15, 0x100, 52, 52, 0x4, 1, [⟨.csk .profAddr, 31, 0, .rwc, 1, 0⟩]⟩ ]

/-- All registers of CSK (R424). -/
def regTableCsk : List RegRow := regTableCsk1

/-- Registers of BST (R437). -/
def regTableBst1 : List RegRow := [
  -- BST_VERSION (R437)
  ⟨0x1100000, 1, 0x0, 1, 1, 0x0, 1, [⟨.bst .version, 31, 0, .ro, 1, 0⟩]⟩,
  -- BST_CTRL (R437)
  ⟨0x1100004, 1, 0x0, 1, 1, 0x0, 1, [⟨.bst .ctrlBgEn, 8, 0, .rw, 1, 0⟩]⟩,
  -- BST_STATUS (R437)
  ⟨0x1100008, 1, 0x0, 1, 1, 0x0, 1, [⟨.bst .statusStartupOk, 0, 0, .ro, 1, 0⟩,
    ⟨.bst .statusRecDropped, 1, 1, .ro, 1, 0⟩, ⟨.bst .statusRecords, 31, 16, .ro, 1, 0⟩]⟩,
  -- BST_SLICES (R437)
  ⟨0x110000C, 1, 0x0, 1, 1, 0x0, 1, [⟨.bst .slicesDone, 15, 0, .ro, 1, 0⟩,
    ⟨.bst .slicesFailed, 31, 16, .ro, 1, 0⟩]⟩,
  -- BST_LAST_FAIL (R437)
  ⟨0x1100010, 1, 0x0, 1, 1, 0x0, 1, [⟨.bst .lastFailKind, 7, 0, .ro, 1, 0⟩,
    ⟨.bst .lastFailUnit, 25, 16, .ro, 1, 0⟩]⟩,
  -- BST_AGE (R437)
  ⟨0x1100014, 1, 0x0, 1, 1, 0x0, 1, [⟨.bst .ageLevel, 2, 0, .ro, 5, 0⟩, ⟨.bst .ageLevel, 6, 4, .ro, 5, 1⟩,
    ⟨.bst .ageLevel, 10, 8, .ro, 5, 2⟩, ⟨.bst .ageLevel, 14, 12, .ro, 5, 3⟩, ⟨.bst .ageLevel, 18, 16, .ro, 5, 4⟩]⟩,
  -- BST_MEM (R437)
  ⟨0x1100100, 20, 0x4, 1, 1, 0x0, 1, [⟨.bst .memRepaired, 7, 0, .ro, 1, 0⟩,
    ⟨.bst .memLeft, 15, 8, .ro, 1, 0⟩, ⟨.bst .memRowsFree, 25, 16, .ro, 1, 0⟩]⟩ ]

/-- All registers of BST (R437). -/
def regTableBst : List RegRow := regTableBst1

/-- Registers of SEC (R403). -/
def regTableSec1 : List RegRow := [
  -- SEC_VERSION (R403)
  ⟨0x1200000, 1, 0x0, 1, 1, 0x0, 1, [⟨.sec .version, 31, 0, .ro, 1, 0⟩]⟩,
  -- SEC_OTP_STATUS (R403)
  ⟨0x1200004, 1, 0x0, 1, 1, 0x0, 1, [⟨.sec .otpStatusGenTop, 2, 0, .ro, 1, 0⟩,
    ⟨.sec .otpStatusWritten, 12, 8, .ro, 1, 0⟩, ⟨.sec .otpStatusBad, 20, 16, .ro, 1, 0⟩,
    ⟨.sec .otpStatusFull, 24, 24, .ro, 1, 0⟩]⟩,
  -- SEC_OTP_SETTINGS (R403)
  ⟨0x1200008, 1, 0x0, 1, 1, 0x0, 1, [⟨.sec .otpSettingsKeyRevoke, 3, 0, .ro, 1, 0⟩,
    ⟨.sec .otpSettingsRefclkExtOk, 4, 4, .ro, 1, 0⟩, ⟨.sec .otpSettingsDebugLock, 5, 5, .ro, 1, 0⟩,
    ⟨.sec .otpSettingsOwnerRequired, 6, 6, .ro, 1, 0⟩, ⟨.sec .otpSettingsOwnerSet, 7, 7, .ro, 1, 0⟩,
    ⟨.sec .otpSettingsCapCeil, 31, 16, .ro, 1, 0⟩]⟩,
  -- SEC_SVN_KILN (R403)
  ⟨0x120000C, 1, 0x0, 1, 1, 0x0, 1, [⟨.sec .svnKilnSvn, 31, 0, .ro, 1, 0⟩]⟩,
  -- SEC_SVN_DIE (R403)
  ⟨0x1200010, 1, 0x0, 1, 1, 0x0, 1, [⟨.sec .svnDieSvn, 31, 0, .ro, 1, 0⟩]⟩,
  -- SEC_SVN_CONFIG (R403)
  ⟨0x1200014, 1, 0x0, 1, 1, 0x0, 1, [⟨.sec .svnConfigSvn, 31, 0, .ro, 1, 0⟩]⟩,
  -- SEC_BOOT (R403)
  ⟨0x1200018, 1, 0x0, 1, 1, 0x0, 1, [⟨.sec .bootKaImage, 1, 0, .ro, 1, 0⟩,
    ⟨.sec .bootKbImage, 3, 2, .ro, 1, 0⟩, ⟨.sec .bootConfigSrc, 5, 4, .ro, 1, 0⟩,
    ⟨.sec .bootRefclkCarrier, 6, 6, .ro, 1, 0⟩, ⟨.sec .bootAState, 9, 8, .ro, 1, 0⟩,
    ⟨.sec .bootBState, 11, 10, .ro, 1, 0⟩, ⟨.sec .bootRetKaA, 17, 16, .ro, 1, 0⟩,
    ⟨.sec .bootRetKaB, 19, 18, .ro, 1, 0⟩, ⟨.sec .bootRetKbA, 21, 20, .ro, 1, 0⟩,
    ⟨.sec .bootRetKbB, 23, 22, .ro, 1, 0⟩]⟩,
  -- SEC_FW_VER (R403)
  ⟨0x120001C, 1, 0x0, 1, 1, 0x0, 1, [⟨.sec .fwVerDieFw, 15, 0, .ro, 1, 0⟩,
    ⟨.sec .fwVerConfig, 31, 16, .ro, 1, 0⟩]⟩,
  -- SEC_LAST_VERIFY (R403)
  ⟨0x1200020, 1, 0x0, 1, 1, 0x0, 1, [⟨.sec .lastVerifyPartition, 3, 0, .ro, 1, 0⟩,
    ⟨.sec .lastVerifyCheck, 11, 8, .ro, 1, 0⟩, ⟨.sec .lastVerifySection, 23, 16, .ro, 1, 0⟩,
    ⟨.sec .lastVerifyBlockErr, 27, 24, .ro, 1, 0⟩]⟩,
  -- SEC_VERIFY_FAILS (R403)
  ⟨0x1200024, 1, 0x0, 1, 1, 0x0, 1, [⟨.sec .verifyFailsCount, 15, 0, .ro, 1, 0⟩]⟩,
  -- SEC_IDENT (R403)
  ⟨0x1200040, 8, 0x4, 1, 1, 0x0, 1, [⟨.sec .identBytes, 31, 0, .ro, 1, 0⟩]⟩ ]

/-- All registers of SEC (R403). -/
def regTableSec : List RegRow := regTableSec1

/-- Registers of CLU (R62). -/
def regTableClu1 : List RegRow := [
  -- CLU_VERSION (R62)
  ⟨0x2000000, 832, 0x4000, 1, 1, 0x0, 1, [⟨.clu .version, 31, 0, .ro, 1, 0⟩]⟩,
  -- CLU_CTRL (R62)
  ⟨0x2000004, 832, 0x4000, 1, 1, 0x0, 1, [⟨.clu .ctrlHalt, 0, 0, .rw, 1, 0⟩]⟩,
  -- CLU_STATUS (R62)
  ⟨0x2000008, 832, 0x4000, 1, 1, 0x0, 1, [⟨.clu .statusRunning, 0, 0, .ro, 1, 0⟩,
    ⟨.clu .statusSteeping, 1, 1, .ro, 1, 0⟩, ⟨.clu .statusGated, 2, 2, .ro, 1, 0⟩,
    ⟨.clu .statusFaulted, 3, 3, .ro, 1, 0⟩, ⟨.clu .statusSteepCause, 7, 4, .ro, 1, 0⟩,
    ⟨.clu .statusLogical, 25, 16, .ro, 1, 0⟩]⟩,
  -- CLU_FAULT (R62)
  ⟨0x200000C, 832, 0x4000, 1, 1, 0x0, 1, [⟨.clu .faultTbInvalid, 0, 0, .w1c, 1, 0⟩,
    ⟨.clu .faultOpInvalid, 1, 1, .w1c, 1, 0⟩, ⟨.clu .faultFetchRange, 2, 2, .w1c, 1, 0⟩,
    ⟨.clu .faultStoreUe, 3, 3, .w1c, 1, 0⟩]⟩,
  -- CLU_FPFLAGS (R62)
  ⟨0x2000010, 832, 0x4000, 1, 1, 0x0, 1, [⟨.clu .fpflagsInvalid, 0, 0, .w1c, 1, 0⟩,
    ⟨.clu .fpflagsOverflow, 1, 1, .w1c, 1, 0⟩, ⟨.clu .fpflagsUnderflow, 2, 2, .w1c, 1, 0⟩,
    ⟨.clu .fpflagsInexact, 3, 3, .w1c, 1, 0⟩, ⟨.clu .fpflagsSat, 4, 4, .w1c, 1, 0⟩]⟩,
  -- CLU_ECC_CE (R62)
  ⟨0x2000014, 832, 0x4000, 1, 1, 0x0, 1, [⟨.clu .eccCeCount, 15, 0, .ro, 1, 0⟩]⟩,
  -- CLU_ECC_ADDR (R62)
  ⟨0x2000018, 832, 0x4000, 1, 1, 0x0, 1, [⟨.clu .eccAddrAddr, 21, 0, .ro, 1, 0⟩]⟩,
  -- CLU_SR_SEED_LO (R62)
  ⟨0x200001C, 832, 0x4000, 1, 1, 0x0, 1, [⟨.clu .srSeedLoSeedLo, 31, 0, .rw, 1, 0⟩]⟩,
  -- CLU_SR_SEED_HI (R62)
  ⟨0x2000020, 832, 0x4000, 1, 1, 0x0, 1, [⟨.clu .srSeedHiSeedHi, 31, 0, .rw, 1, 0⟩]⟩,
  -- CLU_TB_COUNT_LO (R62)
  ⟨0x2000024, 832, 0x4000, 1, 1, 0x0, 1, [⟨.clu .tbCountLoCountLo, 31, 0, .ro, 1, 0⟩]⟩,
  -- CLU_TB_COUNT_HI (R62)
  ⟨0x2000028, 832, 0x4000, 1, 1, 0x0, 1, [⟨.clu .tbCountHiCountHi, 31, 0, .ro, 1, 0⟩]⟩,
  -- CLU_STEP_COUNT (R62)
  ⟨0x200002C, 832, 0x4000, 1, 1, 0x0, 1, [⟨.clu .stepCountForwarded, 15, 0, .ro, 1, 0⟩,
    ⟨.clu .stepCountDropped, 31, 16, .ro, 1, 0⟩]⟩,
  -- CLU_PC (R62)
  ⟨0x2000030, 832, 0x4000, 1, 1, 0x0, 1, [⟨.clu .pcPc, 21, 0, .ro, 1, 0⟩]⟩ ]

/-- All registers of CLU (R62). -/
def regTableClu : List RegRow := regTableClu1

end Sys2Proof.Machine
end

