-- ==== Sys2Proof/Config.lean ====
section
/-!
DEFINITION. What an implementation fixes and the free values (log entry 3). A free value is an opaque constant: nothing
in Lean can evaluate it, so a statement about it holds whatever it is.
-/

namespace Sys2Proof.Config

/-- The n-th free value of the run, w bits wide: every value the spec leaves undefined is one of these (log entry 3). -/
opaque freeBits (w : Nat) (n : Nat) : BitVec w

/-- What a byte of module memory that nothing has written reads as, for a loss-of-contents epoch and an address
(log entry 8). -/
opaque freeByte (epoch : Nat) (addr : Nat) : Byte

/-- What a byte of a cluster store that nothing has written reads as, for a cluster, an epoch and an address
(log entry 8). -/
opaque freeStoreByte (cluster : Nat) (epoch : Nat) (addr : Nat) : Byte

/-- What an accumulator cell that nothing has written holds, for a cluster, an epoch and a cell of the two banks
(log entry 7). -/
opaque freeAcc (cluster : Nat) (epoch : Nat) (cell : Nat) : BitVec 32

/-- What a lane of a vector register that nothing has written holds, for a cluster, an epoch, a register and a lane
(log entry 7). -/
opaque freeLane (cluster : Nat) (epoch : Nat) (reg : Nat) (lane : Nat) : BitVec 32

/-- The result word of a scalar compare that holds or does not (log entry 9): the spec gives none. -/
opaque compareWord (holds : Bool) : BitVec 64

/-- The result of a scalar function where the spec states none: a shift by 64 or more, or a function it does not name, by the
opcode, a number of the function and the two operands (log entries 9 and 10). -/
opaque scalarOpen (opcode fn a b : Nat) : BitVec 64

/-- Is a branch taken on a condition the spec does not name, by its opcode and the two operands (log entry 10)? -/
opaque branchOpen (opcode a b : Nat) : Bool

/-- Where within its error an approximation of the vector unit lies, and its result where the spec states none: by the
function and the operand, so that the same operand gives the same result (R60; log entry 9). -/
opaque approxPick (fn x : Nat) : BitVec 32

/-- The flags of an approximation, which the spec does not give: INVALID, OVERFLOW, UNDERFLOW, INEXACT (log entry 9). -/
opaque approxFlags (fn x : Nat) : BitVec 4

/-- The INT32 that a lane gives whose number fits none, by the rounding mode and the operand (log entry 10). -/
opaque unfitInt (mode x : Nat) : BitVec 32

/-- Does a branch offset count from the branch itself, or from the next instruction (log entry 9)? -/
opaque branchFromNext : Bool

/-- The estimate of a sensor, by its ID, where the formula of the spec gives none: no flow, no resistance, a negative head,
two pressure sensors substituted at once, a dew point in air without moisture (R284, R286, R290, R299); arg is the
quantity that the formula cannot take. -/
opaque openEstimate (sensor : Nat) (arg : Int) : Int

/-- The hash of firmware key slot 0 that the mask ROM of each Kiln holds (R392): the spec gives no value. -/
opaque romKeyHash : List Byte

/-- The public key of a firmware key slot that an OTP section is checked with: the section carries none (R399). -/
opaque fwPublicKey (slot : Nat) : List Byte

end Sys2Proof.Config
end

