-- ==== Sys2Proof/Machine/State.lean ====
section
/-!
DEFINITION. The state of the module as plain data, the reasons a step can stop, and the state after reset. Registers are
held field by field in two maps (visible or shadow values, and the committed values of RWC fields); everything else the
rules name stands in the structures below, one per unit of the module.
-/

namespace Sys2Proof.Machine

/-- A sparse map: entries by key, keys strictly rising. -/
abbrev SMap (α : Type) := List (Nat × α)

/-! ### Power, boot and module state -/

/-- STATE of R225. -/
inductive ModState where
  | starting | running | parked | draining | quiesced | removing | failed
deriving DecidableEq, Repr

/-- Where the start-up sequence of R385 and R464 stands. -/
inductive BootStep where
  /-- No AUX power. -/
  | off
  /-- No valid Kiln image: both ROMs stay in ROM (R386). -/
  | rom
  /-- Step 5.3: waiting for 50 kPa. -/
  | pressureWait
  /-- Step 5.4: the 3 s hold. -/
  | pressureHold
  /-- The 60 s before the second pressure test (R465). -/
  | pressureRetry
  /-- Step 5.6. -/
  | precharge
  /-- The 5 s before the second precharge (R465). -/
  | prechargeRetry
  /-- Step 7: waiting for flow. -/
  | flowWait
  /-- Step 9 is done. -/
  | done
  /-- Step 5 failed for good, or R390 applies. -/
  | failed
  /-- The input was lost or tripped and AUX survived (R454). -/
  | inputWait
  /-- The clock tree is being restored (R28 step 4). -/
  | clockWait
  /-- Removal has reached its last step (R467). -/
  | removed
deriving DecidableEq, Repr

/-- The handle indicator of R467. -/
inductive Indicator where
  | dark | flashingAmber | steadyBlue
deriving DecidableEq, Repr

/-- Power, boot and the drain, quiesce, park and removal phases (R20, R22, R385, R464 to R468). -/
structure Power where
  /-- Domains that are on, without repeats. -/
  on : List Domain
  boot : BootStep
  modState : ModState
  /-- The second pressure test or precharge is under way (R465). -/
  retried : Bool
  /-- Operating hours (R404). -/
  opHours : Nat
  /-- Power cycles (R404). -/
  powerCycles : Nat
  /-- A drain is under way: it ends with the DRAINED event (R95). -/
  draining : Bool
  /-- The drain limit in force, in ms. -/
  drainMs : Nat
  /-- The drain leads to a park of its own accord (PARK, watchdog). -/
  parkPlanned : Bool
  /-- A quiesce leads to a park (R301, R298, R307). -/
  parkQuiesce : Bool
  /-- The module is parked (R22). -/
  parked : Bool
  /-- Ports that the Kiln has parked with the module (R22, R228). -/
  parkedPorts : List Nat
  /-- Quiesce causes in force, coded as DATA of QUIESCED (R249). -/
  quiesce : List Nat
  indicator : Indicator
  /-- HOT_N is driven low (R307). -/
  hotN : Bool
  /-- CCLK multipliers committed, per die (R394), and those in force since the CORE power-up (R25). -/
  cclkNext : List Nat
  cclk : List Nat
deriving DecidableEq, Repr

/-! ### Cask -/

/-- The number of a Kiln in registers and frames: 0 KA, 1 KB. -/
def kilnIdx : Kiln → Nat
  | .ka => 0
  | .kb => 1

/-- The other Kiln. -/
def otherKiln : Kiln → Kiln
  | .ka => .kb
  | .kb => .ka

/-- A Cask record (R404); SEQ_END and CRC are formed when it is laid out in bytes. -/
structure CaskRec where
  seq : Nat
  permanent : Bool
  standby : Bool
  powerFail : Bool
  writer : Kiln
  sealed : Bool
  source : Nat
  code : Nat
  severity : Nat
  profile : Nat
  rep : Nat
  opHours : Nat
  powerCycles : Nat
  cycleFirst : Nat
  cycleLast : Nat
  data : Nat
  snapshot : List Nat
deriving DecidableEq, Repr

/-- A record in a Kiln's buffer: whether it has left in a state frame (R410) and whether the NOR holds it. -/
structure CaskEntry where
  record : CaskRec
  framed : Bool
  inNor : Bool
deriving DecidableEq, Repr

/-- An event kept by a Kiln that acts while the interlock is in NONE (R407), or a change latched by the drive stage
(R358). -/
structure OwedEvent where
  source : Nat
  code : Nat
  severity : Nat
  data : Nat
  /-- The host event path gets it too. -/
  toHost : Bool
  /-- MODULE_EVENT code of R372 to send, 0 for none. -/
  rowCode : Nat
deriving DecidableEq, Repr

/-- A copy of the area header (R414): its write count, whether its CRC is good, CIRC_SECTORS, PERM_COUNT and the map of retired
sectors to spares. -/
structure AreaHdr where
  count : Nat
  good : Bool
  sectors : Nat
  permCount : Nat
  retired : SMap Nat
deriving DecidableEq, Repr

/-- The Cask's buffers and its area of the NOR (R404 to R420). -/
structure Cask where
  /-- Copies A and B of the area header in the NOR (R414). -/
  hdrA : AreaHdr
  hdrB : AreaHdr
  bufA : List CaskEntry
  bufB : List CaskEntry
  /-- Circulating area: slot number 256 × sector + slot → record, in the sectors 0 to 61 of the ring. -/
  circ : SMap CaskRec
  /-- Next slot of the circulating area. -/
  circHead : Nat
  perm : List CaskRec
  /-- Slots of the permanent area that no longer read good (R405, R419). -/
  permBad : List Nat
  /-- CIRC_SECTORS as the area header holds it, and the retired sectors of the area (0 to 127) with their spares (R417, R419). -/
  hdrSectors : Nat
  retired : SMap Nat
  /-- Sectors on which the last operations failed, one after the other (R420). -/
  failRow : List Nat
  /-- Torn slots of the circulating area (R415). -/
  torn : List Nat
  /-- A power loss has stopped every NOR operation (R418 step 4). -/
  stopped : Bool
  owed : List OwedEvent
deriving DecidableEq, Repr

/-! ### Row bus -/

/-- A row-bus message queued on a port (R366, R367). -/
structure RowMsg where
  mtype : Nat
  prio : Nat
  code : Nat
  severity : Nat
  seq : Nat
  payload : List Byte
  begun : Bool
  /-- It holds ALERT_N until it leaves: it has waited more than 100 ms, or in a bus-off port (R375). -/
  late : Bool
deriving DecidableEq, Repr

/-- A manager frame received lately, for the repeat check of R368. -/
structure RowSeen where
  ident : Nat
  seq : Nat
  /-- Age in ms, counted by the control cycles. -/
  ageMs : Nat
deriving DecidableEq, Repr

/-- Rate detection of a port (R364). -/
structure PortDet where
  /-- The nominal rate of the frames received in a row, and how many. -/
  nom : Nat
  nomRun : Nat
  /-- The nominal rate is locked. -/
  nomLocked : Bool
  /-- Candidate number of the data rate (the configured one, then 5, 4, 2 Mbit/s), and good BRS frames in a row. -/
  cand : Nat
  dataRun : Nat
deriving DecidableEq, Repr

/-- The row-bus controllers of one Kiln: the fields of the ROW block that show them, and their rate detection (R17). -/
structure RowCtl where
  regs : SMap Nat
  det : SMap PortDet
deriving DecidableEq, Repr

/-- The row-bus ports (R362 to R377). -/
structure Row where
  /-- The controllers of the Kiln that does not hold ACT_OWN, or did not hold it last: they receive only (R17). -/
  other : RowCtl
  /-- Queue of port p and buffer b at key 3 × p + b; its first message stands in the buffer (R374). -/
  queues : SMap (List RowMsg)
  /-- Next SEQ of each message type (R368). -/
  txSeq : SMap Nat
  seen : List RowSeen
  /-- SEQ of the last RACK_CAP acted on (R371). -/
  echoSeq : Nat
  /-- Frames that completed on a port, oldest first: the bus sees them. -/
  sent : List (Nat × RowFrame)
  /-- By port: the age in ms of the bit time that it measured from a frame while on the ring oscillator (R363). -/
  measured : SMap Nat
  /-- Rate detection per port; unlisted: at its start. -/
  det : SMap PortDet
  /-- Identity clashes of the last 10 s: port and age in ms (R373). -/
  clashes : List (Nat × Nat)
  /-- ALARM and DETAIL of the last COOLANT_ALARM sent: what COOLANT_ALARM_REPEAT repeats. -/
  lastAlarm : Nat × Nat
deriving DecidableEq, Repr

/-! ### Tornath -/

/-- Why a module write into host memory was made: a completion record of a ring, an event, or a mailbox report. -/
inductive HmemKind where
  | completion (ring : Nat) (irq : Bool)
  | event (urgent : Bool)
  | report
  /-- A report whose command has ended: its acknowledgement changes nothing. -/
  | oldReport
deriving DecidableEq, Repr

/-- A module write into host memory that has not been acknowledged (R240), by its TAG. -/
structure HmemPend where
  tag : Nat
  kind : HmemKind
  addr : Nat
deriving DecidableEq, Repr

/-- A request packet of the host (R236) with what the code of module memory shows when it is served. -/
structure HostReq where
  pkt : Pkt
  mecc : List MemEcc
deriving DecidableEq, Repr

/-- An event record for the host (R248), before it has a SEQ. -/
structure EventRec where
  source : Nat
  code : Nat
  severity : Nat
  data : Nat
deriving DecidableEq, Repr

/-- An extent handed out by MEM_ALLOC (R244). -/
structure Extent where
  handle : Nat
  base : Nat
  size : Nat
deriving DecidableEq, Repr

/-- A configuration that a CONFIGURE has checked (R396): its sections, the code of its partition for SEC_LAST_VERIFY, the
CONFIG_SRC code, the header. -/
structure ConfigPend where
  sections : List (Nat × List Byte)
  part : Nat
  src : Nat
  hdr : List Byte
deriving DecidableEq, Repr

/-- The host link and the mailbox (R233 to R251). -/
structure Thl where
  /-- TAG of the next write into host memory. -/
  nextTag : Nat
  /-- Writes into host memory awaiting acknowledgement, oldest first. -/
  hmem : List HmemPend
  /-- Requests held for a Kiln block while no Kiln holds ACT_OWN (R237), for a commit that runs (R7) or for the partner link to
  take mirror writes (R123), and those behind them, in order (R239). -/
  held : List HostReq
  /-- Event records held for want of a slot, a ring or a link, oldest first (R248). -/
  heldEvents : List EventRec
  /-- Events dropped since the last OVERFLOW record. -/
  droppedSince : Nat
  /-- Vectors in their holdoff interval, and vectors that wait for its end (R247). -/
  holdoff : List Nat
  irqWaiting : List Nat
  /-- Blocks whose RWC and commit registers a running CONFIGURE locks (R396). -/
  locked : List Nat
  /-- A command of the host is RUNNING or BUSY (R241). -/
  mbxRun : Bool
  /-- A CONFIGURE whose checks have passed, before its commit point (R244, R396). -/
  config : Option ConfigPend
  /-- Outcome of a long command that has run and not been answered: STATUS and DATA (R242). -/
  mbxResult : Option (Nat × List Byte)
  /-- The commit point of a long command has passed (R244, R246). -/
  mbxCommitted : Bool
  extents : List Extent
  /-- Back-off of the link's training in s (R195, R235). -/
  trainBackoff : Nat
deriving DecidableEq, Repr

/-! ### Security store, OTP and NOR images -/

/-- A repair record of the inventory (R432). -/
structure RepairRec where
  rtype : Nat
  cause : Nat
  unit : Nat
  word1 : Nat
  word2 : Nat
  opHours : Nat
  powerCycles : Nat
  caskSeq : Nat
deriving DecidableEq, Repr

/-- A copy of the inventory in the NOR (R381): its write count, whether its CRC is good, the repair records and the cluster map. -/
structure InvCopy where
  count : Nat
  good : Bool
  repairs : List RepairRec
  map : SMap (Option Nat)
deriving DecidableEq, Repr

/-- What stands in the NOR and in one-time-programmable memory beside the Cask (R380 to R401). -/
structure Sec where
  /-- OTP generations 0 to 4, 384 bytes each; empty: unwritten (R391). -/
  otp : List (List Byte)
  /-- Image partitions by code 0 to 6 (R380); unlisted: erased. -/
  parts : SMap (List Byte)
  /-- Boot state block: state of Kiln images A and B (R387). -/
  imgState : List Nat
  /-- The boot state block as it stands in the NOR, and as an AUX power-up finds it (R387, R445). -/
  norImg : List Nat
  /-- Headers of the images that KA and KB run, of the loaded compute-die firmware and of the configuration in force: what
  ATTEST measures (R400); empty for none. -/
  kaHdr : List Byte
  kbHdr : List Byte
  dieHdr : List Byte
  cfgHdr : List Byte
  /-- Header, body and CONFIG_SRC code of the configuration image that start-up has chosen (R385 step 4, R397). -/
  bootHdr : List Byte
  bootBody : List Byte
  bootSrc : Nat
  /-- Ordering code: true for LMF-1800-P (R1). -/
  orderP : Bool
  /-- Serial number, 16 bytes (R276). -/
  serial : List Byte
  /-- Seed of the Ed25519 identity key in the security store (R398). -/
  identSeed : List Byte
  factoryRev : Nat
  /-- Factory spares in die order (R276 words 14–29). -/
  spares : List Nat
  /-- Meter coefficients of the inventory: cluster × 4 + j → 16 bits (R162). -/
  meter : SMap Nat
  repairs : List RepairRec
  /-- The golden copy was used to re-flash a partition in this power cycle (R277). -/
  reflashed : List Nat
  /-- Copies A and B of the inventory in the NOR (R381): what is in force may be newer while the NOR has failed (R445). -/
  invA : InvCopy
  invB : InvCopy
  /-- NOR_DEGRADED has been written since AUX power-up (R448). -/
  norRefused : Bool
  /-- Spare rows that have been fitted in the DRAM dies: (stack × 132 + physical channel) × 4 + bank group (R103, R431). -/
  ppr : List Nat
deriving DecidableEq, Repr

/-! ### Clusters -/

/-- A vector register: 256 FP32 lanes, or the lane mask that a compare gives (R55). -/
inductive VReg where
  | lanes (l : List Nat)
  | mask (l : List Bool)
deriving DecidableEq, Repr

/-- An accumulator bank of 64 × 96 cells (R46): the cells written since, and what the others hold: +0 after a clear
(none), or the undefined values of an epoch. -/
structure AccBank where
  fill : Option Nat
  cells : SMap Nat
deriving DecidableEq, Repr

/-- A tensor block descriptor with its fields read (R49). -/
structure TbDesc where
  cls : Nat
  aSub : Nat
  bSub : Nat
  m : Nat
  n : Nat
  k : Nat
  acc : Nat
  clear : Bool
  spill : Bool
  aBase : Nat
  aScale : Nat
  bBase : Nat
  bScale : Nat
  aStride : Nat
  bStride : Nat
  sBase : Nat
  sStride : Nat
  sFmt : Nat
  sRm : Nat
  sSat : Bool
  sScale : Nat
deriving DecidableEq, Repr

/-- A spill in progress: its descriptor, and the generator state from which its draws are taken; none for a spill that draws
nothing, or that waits for a held seed (R54, R63). -/
structure Spill where
  desc : TbDesc
  gen : Option Nat
deriving DecidableEq, Repr

/-- An issued tensor block: waiting, or started (R48). -/
structure TBlk where
  desc : TbDesc
  started : Bool
deriving DecidableEq, Repr

/-- A DMA descriptor with its fields read (R85). -/
structure DmaDesc where
  op : Nat
  srcSpace : Nat
  dstSpace : Nat
  fence : Bool
  gate : Bool
  srcModule : Nat
  dstModule : Nat
  srcAddr : Nat
  dstAddr : Nat
  rowBytes : Nat
  rows : Nat
  srcStride : Nat
  dstStride : Nat
  pattern : Nat
  gateId : Nat
deriving DecidableEq, Repr

/-- A piece of a DMA transfer (R82, R199): a store line, the bursts of a pair, or a packet. Its byte off of row row counts the
scale bytes of an FP4-block row after its elements (R126). -/
structure Piece where
  row : Nat
  off : Nat
  len : Nat
  /-- 0: its source is being read; 1: its data waits to be written; 2: its write awaits the acknowledgement. -/
  phase : Nat
  data : List Byte
  /-- Scale bytes that its groups give in a Mill expansion to FP4-block (R126). -/
  scales : List Byte
  retried : Bool
  /-- Channel keys (stack × 128 + logical channel) of its bursts, each with a credit (R82). -/
  channels : List Nat
  /-- TAGs of the packets it awaits (R198). -/
  tags : List Nat
deriving DecidableEq, Repr

/-- A Mill region of the set in force (R133). -/
structure MillRgn where
  base : Nat
  size : Nat
  enable : Bool
  /-- FP4-block output. -/
  fp4 : Bool
  /-- Codebook in E5M2. -/
  cbE5 : Bool
  scaleOfs : Nat
deriving DecidableEq, Repr

/-- An accepted DMA descriptor (R82 to R90). -/
structure Dma where
  /-- Where the descriptor stands in the store: STATUS goes there. -/
  addr : Nat
  desc : DmaDesc
  /-- STATUS so far: 0 while nothing has failed or ended it. -/
  status : Nat
  /-- It has started (R88). -/
  started : Bool
  /-- One of its bursts or packets has been issued (R92). -/
  issued : Bool
  /-- Row and byte of the next piece. -/
  row : Nat
  off : Nat
  pieces : List Piece
  /-- Bytes that have come and wait for others: of a store line (R36), or of a scale row (R126). -/
  hold : SMap Byte
  /-- What it waits for: 0 nothing, 2 a channel credit, 3 a link credit (R84). -/
  waits : Nat
  /-- The Mill regions in force when it started (R129). -/
  mill : List MillRgn
  /-- A Mill commit has replaced those regions since (R129). -/
  millOld : Bool
  /-- Sequence number reserved by a POST (R81). -/
  postSeq : Nat
deriving DecidableEq, Repr

/-- A token held by a cluster, with what its descriptor asks for at completion (R68, R72). -/
structure Token where
  ring : Nat
  seq : Nat
  tag : Nat
  irq : Bool
  gate : Option Nat
  timeoutMs : Nat
deriving DecidableEq, Repr

/-- What a steeping cluster waits for (R62 STEEP_CAUSE, R84, R150). -/
inductive Wait where
  /-- A blocking claim. -/
  | token (ring : Nat) (dst : Nat) (landing : Nat)
  /-- The grain reserve, before an instruction. -/
  | reserve
  /-- A counting gate. -/
  | gate (id : Nat) (n : Nat) (dst : Nat)
  /-- A held barrier entry: no slot is free, or two rounds are outstanding (R143). -/
  | held (id : Nat) (dst : Nat) (thenWait : Bool)
  /-- The completion of a round, flips away, of the given parity (R145). -/
  | round (id : Nat) (dst : Nat) (flips : Nat) (epoch : Bool)
  | dma (count : Nat)
  | dmaFull (addr : Nat)
  | tensor
  /-- Spills before a gate instruction issues (R146). -/
  | spills
  | fence
deriving DecidableEq, Repr

/-- A barrier slot of a cluster's port (R143): the gate, the outstanding rounds, the parity of the next round. -/
structure PortSlot where
  gate : Nat
  outstanding : Nat
  p : Bool
deriving DecidableEq, Repr

/-- A cluster beside its registers. -/
structure Cluster where
  /-- Address of the next instruction. -/
  pc : Nat
  /-- Scalar registers s0 to s31, 64 bits. -/
  sregs : SMap Nat
  /-- Vector registers v0 to v15; unlisted: undefined, free values of the epoch. -/
  vregs : SMap VReg
  vEpoch : Nat
  acc0 : AccBank
  acc1 : AccBank
  /-- State of the stochastic-rounding generator (R54). -/
  gen : Nat
  /-- A seed write held until the SR spills in progress at the write have completed (R63). -/
  heldSeed : Option Nat
  /-- Bytes of the cluster store that have been written since its contents were last lost. -/
  store : SMap Byte
  storeEpoch : Nat
  /-- The store has been written whole with zeros since: an unlisted byte of it reads 0 (R440). -/
  storeZero : Bool
  tbq : List TBlk
  /-- Spills in progress, oldest first. -/
  spills : List Spill
  dmas : List Dma
  dmaAccepted : Nat
  dmaRetired : Nat
  /-- Channel credits held unused, by channel key, and link credits held unused, by port (R82, R203). -/
  chanHeld : SMap Nat
  linkHeld : SMap Nat
  /-- Tokens held, the current one first (R74). -/
  tokens : List Token
  wait : Option Wait
  slots : List PortSlot
  /-- Grain reserve in units of 2^-16 grain (R161). -/
  reserve : Int
  /-- It has received its grant of this mint period (R164). -/
  granted : Bool
  /-- Its reserve went back to the pool because it has steeped for 20 µs, and it has not woken since (R151). -/
  lent : Bool
  /-- It has failed (R439): it is gated once its current token has completed. -/
  failed : Bool
  /-- Operating hour of its last stop on STORE_UE (R439). -/
  ueHour : Option Nat
  /-- An abort is under way: its reason, the status of the current token's record (R92, R95); LOST for R251. -/
  abort : Option Nat
  /-- Its last slice passed (R440). -/
  slicePassed : Bool
  /-- It was gated for a park, with its store in retention (R478). -/
  parkGated : Bool
  /-- A background slice or a remap runs on it (R428, R440). -/
  inSlice : Bool
  /-- Its ceiling in units of 2^-8 grain; none: CEIL_DEFAULT (R180). -/
  ceil : Option Nat
  /-- Periods of 100 µs since its ceiling last changed, up to 100. -/
  ceilAge : Nat
  hot : Bool
  /-- Periods of 100 µs it has been hot with its ceiling at CEIL_MIN (R181). -/
  hotTicks : Nat
deriving DecidableEq, Repr

/-! ### Work rings -/

/-- A blocking claim waiting on a ring (R73): physical cluster, destination register, landing address. -/
structure Claimer where
  cluster : Nat
  dst : Nat
  landing : Nat
deriving DecidableEq, Repr

/-- A sequence number reserved by a POST (R81, R90). -/
structure PostNum where
  seq : Nat
  committed : Bool
  failed : Bool
deriving DecidableEq, Repr

/-- A work ring beside its registers. -/
structure Ring where
  waiters : List Claimer
  /-- Sequence numbers returned to the ring, to be handed out first (R66). -/
  returned : List Nat
  /-- Sequence numbers from OLDEST on that have their completion record. -/
  done : List Nat
  /-- Reserved POST numbers not yet claimable, in order, and the next number to reserve. -/
  posts : List PostNum
  nextPost : Nat
  /-- Descriptors ended by a cancel whose records wait for their slots (R95). -/
  cancels : List Nat
  /-- Published sequence numbers that have their record already and are passed over (R90). -/
  skips : List Nat
  /-- Published sequence numbers whose slot write failed and that have no record yet (R90). -/
  failed : List Nat
deriving DecidableEq, Repr

/-- A completion whose record has not been written (R78): it waits until cluster phys has retired waitDma descriptors. -/
structure Completion where
  ring : Nat
  seq : Nat
  status : Nat
  /-- Logical number of the holder, 0xFFFF for none. -/
  cluster : Nat
  tag : Nat
  irq : Bool
  gate : Option Nat
  phys : Option Nat
  waitDma : Nat
  /-- It ends an abort (R92): the cluster's other token goes too, and it restarts unless it faulted. -/
  abort : Bool
deriving DecidableEq, Repr

/-- The work-issue block (R64 to R100). -/
structure Wiq where
  rings : SMap Ring
  completions : List Completion
deriving DecidableEq, Repr

/-! ### Memory -/

/-- A sparing copy that runs on a stack (R117, R118). -/
structure SpareCopy where
  lch : Nat
  spare : Nat
  cause : Nat
  requested : Bool
  /-- Pairs below this index q have been copied. -/
  ptr : Nat
deriving DecidableEq, Repr

/-- A sparing trigger that waits (R116). -/
structure SpareReq where
  lch : Nat
  cause : Nat
  requested : Bool
deriving DecidableEq, Repr

/-- Module memory and its upkeep (R101 to R134). -/
structure Mem where
  /-- Bytes written, addresses strictly rising (log entry 8). -/
  cells : List Host.Cell
  /-- By stack: how often its contents have been lost. -/
  epochs : SMap Nat
  /-- Poisoned pairs, by their place: stack, logical channel, row, bank and pair (R112). -/
  poison : List Nat
  copies : SMap SpareCopy
  triggers : SMap (List SpareReq)
  /-- Channels in self-refresh while the module is parked, stack × 128 + logical channel (R115). -/
  selfRefresh : List Nat
  /-- Channel credits not granted, by channel key; unlisted: 32 (R82). -/
  chanFree : SMap Nat
  /-- Clusters that wait for a credit of a channel, in order of request (R82). -/
  chanQ : SMap (List Nat)
deriving DecidableEq, Repr

/-! ### Gates -/

/-- Queues of the counting gates: clusters in the order in which their GWAIT arrived (R140). -/
structure Gates where
  queues : SMap (List Nat)
  /-- Barriers whose carried arrivals complete the next round at the next NCLK cycle (R144). -/
  cascade : List Nat
deriving DecidableEq, Repr

/-! ### Grains -/

/-- The grain pool of a die (R161 to R168), in units of 2^-16 grain. -/
structure DieGrn where
  pool : Int
  debt : Nat
  /-- M_n of the period. -/
  minted : Nat
  /-- Metered energy of the period so far. -/
  spent : Int
  /-- Base charge of the period before. -/
  base : Int
  hold : Bool
  /-- Logical number of the cluster served last (R164). -/
  lastServed : Nat
  /-- Applied die cap, and die thermal cap in force, in µW. -/
  capUw : Nat
  thermUw : Nat
  /-- Die thermal cap as its loops give it, in µW, before the factors, the steps and the ramp (R323). -/
  loopUw : Nat
  /-- The cap that R181 imposes for hot clusters, in µW. -/
  hotUw : Option Nat
  /-- The limit L_n of the period (R167). -/
  limit : Int
  /-- Energy that has lapsed (R165, R178). -/
  lapsed : Nat
  /-- T_SET has started (R179). -/
  tsetOn : Bool
deriving DecidableEq, Repr

/-- What R182 has taken off for a hot stack, in µW: from its own die, and from every other die; escalated. -/
structure StackCut where
  own : Nat
  all : Nat
  esc : Bool
deriving DecidableEq, Repr

/-- The grain budget (R161 to R188). -/
structure Grn where
  dies : SMap DieGrn
  /-- Applied cap in µW (R177). -/
  appliedUw : Nat
  /-- Last measured non-die draw in µW. -/
  nondieUw : Nat
  /-- Module thermal cap in force, in µW. -/
  thermalUw : Nat
  /-- Causes of PROTECT in force: 1 flow loss, 2 leak, 3 HOT_N, 4 a standby's fall not yet confirmed, 5 a fall written by
  the active Kiln, until the next control cycle (R178, R256). -/
  protects : List Nat
  /-- The last rack cap received on each port since the last control cycle: port and the value as sent (R172). -/
  rackNow : SMap Nat
  /-- A CAP_STATUS reply is due in the next control cycle (R183). -/
  echoDue : Bool
  /-- Applied cap, in µW, when CAP_STATUS was last sent. -/
  sentUw : Nat
  stackCuts : SMap StackCut
  /-- A committed set waits for the next mint; committed weights wait for the next control cycle (R188). -/
  setWaits : Bool
  weightsWait : Bool
deriving DecidableEq, Repr

/-! ### Isxel and the partner link -/

/-- A request to another module that awaits its answer (R91, R199). -/
structure RemReq where
  tag : Nat
  /-- Cluster that made it. -/
  cluster : Nat
  dst : Nat
  /-- 0 DMA read, 1 DMA write, 2 signal, 3 collective data, 4 mirror write, 5 resynchronisation copy. -/
  kind : Nat
  hashed : Bool
  via : Nat
  /-- Signals: the gate. Collectives: the channel. Mirror writes: the local address, and the bytes written. -/
  aux : Nat
  len : Nat
deriving DecidableEq, Repr

/-- A remote signal held in the port until the remote writes of the descriptors accepted before it are acknowledged
(R146): upTo counts those descriptors. -/
structure HeldSig where
  cluster : Nat
  dst : Nat
  gate : Nat
  inc : Nat
  upTo : Nat
deriving DecidableEq, Repr

/-- A running collective (R213 to R218). -/
structure Coll where
  op : Nat
  dtype : Nat
  gate : Bool
  group : Nat
  root : Nat
  doneGate : Nat
  src : Nat
  dst : Nat
  count : Nat
  /-- Where its descriptor stands. -/
  addr : Nat
  members : List Nat
  rank : Nat
  seq : Nat
  /-- Ranks whose READY has arrived. -/
  ready : List Nat
  /-- Ranks to which its data has been sent, for each phase. -/
  sent0 : List Nat
  sent1 : List Nat
  /-- TAGs of its READY packets, and TAGs not yet answered. -/
  readyTags : List Nat
  tags : List Nat
  /-- The share of member 0, read before DST overwrote it, in a REDUCE_SCATTER with SRC = DST (R215, R217). -/
  kept : List Byte
  /-- Bytes received in each phase: offsets of the 64-byte units, with the sender. -/
  got : List (Nat × Nat)
  got1 : List (Nat × Nat)
deriving DecidableEq, Repr

/-- A READY latched for a group (R216). -/
structure ReadyRec where
  group : Nat
  seq : Nat
  src : Nat
  op : Nat
  dtype : Nat
  count : Nat
  root : Nat
deriving DecidableEq, Repr

/-- An answer to a remote or host write that waits for mirror writes to be acknowledged (R123): their TAGs, and the packet
with its port, 13 for the host. -/
structure LateAck where
  tags : List Nat
  port : Nat
  pkt : Pkt
deriving DecidableEq, Repr

/-- The Isxel fabric beside its registers and links (R197 to R218). -/
structure Ixf where
  /-- Clusters that wait for a REQ credit of a port, in order of request (R203). -/
  linkQ : SMap (List Nat)
  /-- Planes on which a module without an entry of its own is reachable, and the modules that differ (R208). -/
  reachAll : Nat
  reach : SMap Nat
  /-- Planes whose last notice about a module was DOWN. -/
  downs : SMap Nat
  fenced : List Nat
  reqs : List RemReq
  nextTag : Nat
  /-- Destinations whose hashed traffic is held (R207). -/
  hashHeld : List Nat
  sigHeld : List HeldSig
  lateAcks : List LateAck
  colls : SMap Coll
  readies : List ReadyRec
  /-- Back-off of a refused port in s (R195). -/
  backoff : SMap Nat
deriving DecidableEq, Repr

/-- This module's end of a link (R191, R192, R203). -/
structure LinkEnd where
  /-- FSEQ of the next flit. -/
  txSeq : Nat
  /-- FSEQ of the last flit received intact: the ACKSEQ this end sends. -/
  rxSeq : Nat
  /-- The last ACKSEQ received. -/
  acked : Nat
  /-- A replay has been requested and has not begun. -/
  nakSent : Bool
  /-- Flits received since a flit last carried ACKSEQ to the far end. -/
  since : Nat
  /-- Credits to return, by virtual channel. -/
  owed : SMap Nat
  /-- The last 512 flits sent, oldest first. -/
  sent : List Flit
deriving DecidableEq, Repr

/-- A packet received that waits in its receive buffer for channel credits, or for the partner link (R83, R123, R204): its port,
and what the codes of module memory and of a store show when it is served. -/
structure RxPkt where
  port : Nat
  pkt : Pkt
  mecc : List MemEcc
  ecc : StoreEcc
deriving DecidableEq, Repr

/-- The links of the module: ports 0 to 11, 12 the partner link, 13 the Tornath link (R191 to R196, R203, R204, R233). -/
structure Lnk where
  /-- Packets and flits sent, with their link, oldest first. -/
  out : List (Nat × Pkt)
  wire : List (Nat × Flit)
  ends : SMap LinkEnd
  /-- Transmit credits, and packets that wait for one, in order, by link × 4 + virtual channel. -/
  credits : SMap Nat
  waiting : SMap (List Pkt)
  rx : List RxPkt
  /-- Masks of the lanes that a link uses and that it excludes (R196). -/
  group : SMap Nat
  lost : SMap Nat
  /-- WIDTH_MASK of its last training; unlisted: every width (R193). -/
  widths : SMap Nat
deriving DecidableEq, Repr

/-- The partner link beside its registers (R219 to R232). -/
structure Ptn where
  /-- Dirty blocks of the mirrored regions: region × 2^15 + block (R222). -/
  dirty : List Nat
  /-- The block being copied: region × 2^15 + block, and whether a packet of it failed. -/
  copy : Option (Nat × Bool)
  /-- It is fenced (R224). -/
  fenced : Bool
  backoff : Nat
  /-- Summaries sent since AUX power-up. -/
  sumSeq : Nat
deriving DecidableEq, Repr

/-! ### Copper -/

/-- A step marker that a die has forwarded and Copper has not taken (R58, R324). -/
structure Marker where
  die : Nat
  stream : Nat
  prefill : Bool
deriving DecidableEq, Repr

/-- The inputs of a loop that its period has latched, normalised: FB, FLOW_X and POWER_X (R311, R317). -/
structure LoopIn where
  fb : Int
  flow : Int
  power : Int
deriving DecidableEq, Repr

/-- A loop beside its registers (R317 to R332). -/
structure LoopSt where
  /-- Its period has begun and its output phase has not come, so that its program has an output to give (R312, R329). -/
  due : Bool
  /-- Inputs latched, and output staged in this period; the same of the standby's engine (R268). -/
  inp : LoopIn
  staged : Option Int
  shadowInp : LoopIn
  shadowStaged : Option Int
  uPrev : Int
  /-- Periods in a row whose program reached OUT in time, while in TABLE (R330). -/
  good : Nat
  /-- It stays in TABLE until a commit changes it (R330). -/
  stuck : Bool
  /-- In TABLE by R330, or in SAFE in its place. -/
  inTable : Bool
  /-- Operating hour of the last TABLE entry. -/
  hour : Nat
  /-- Output when it entered SAFE (R331). -/
  safeAt : Int
deriving DecidableEq, Repr

/-- A repetitive-controller table beside its registers (R324 to R327). -/
structure RcSt where
  /-- By cell: how many samples, and their sum. -/
  sums : SMap (Nat × Int)
  /-- The last intervals between accepted markers in µs, newest first, at most 8. -/
  intervals : List Nat
  /-- A marker has been accepted; µs from it to the start of the next fast period. -/
  marked : Bool
  since : Nat
  /-- The step period P in µs. -/
  p : Nat
  /-- Intervals in a row outside ±25 % of P. -/
  outside : Nat
  /-- P at which the cells last learned. -/
  learnedP : Nat
deriving DecidableEq, Repr

/-- Copper beside its registers (R311 to R335). -/
structure Copper where
  /-- µs of fast periods since AUX power-up. -/
  clock : Nat
  /-- Markers forwarded by the dies, oldest first. -/
  markers : List Marker
  loops : SMap LoopSt
  rcs : SMap RcSt
  /-- The drive-stage frame sent last, and the count of frames. -/
  sent : Option DriveFrame
  seq : Nat
deriving DecidableEq, Repr

/-! ### Coolant and sensors -/

/-- A sensor's standing (R288 to R292, R306). -/
structure SensRec where
  /-- 0 OK, 1 IMPLAUSIBLE, 2 FROZEN, 3 LOST. -/
  state : Nat
  subst : Bool
  disagree : Bool
  masked : Bool
  /-- Substitutions in an operating hour, and that hour. -/
  count : Nat
  hour : Nat
  /-- It stays substituted until the next AUX power-up (R291). -/
  kept : Bool
deriving DecidableEq, Repr

/-- Model coefficients of a sensor: POS in 1/65,535 and the thermal resistance in µK/W (R395). -/
structure ModelEntry where
  pos : Nat
  rth : Nat
deriving DecidableEq, Repr

/-- The coefficients of the MODEL section (R395). -/
structure Model where
  kv0 : Nat
  a : List Nat
  b : List Nat
  entries : SMap ModelEntry
deriving DecidableEq, Repr

/-- Coolant and sensor state beside the registers (R283 to R308). -/
structure Cool where
  /-- PRS_IN above 600 kPa: both pumps are stopped (R303). -/
  overpressure : Bool
  /-- Latest readings by sensor ID, and power of the sensors' heat sources in mW. -/
  raw : SMap Int
  src : SMap Nat
  /-- Measured power of zones, dies and the module input in mW. -/
  zoneMw : List Nat
  dieMw : List Nat
  inputMw : Nat
  sens : SMap SensRec
  /-- Zones in MODEL_SUSPECT (R293). -/
  suspect : List Nat
  /-- Q_est as pressure gave it last (R290). -/
  qest : Nat
  model : Model
  /-- The factor, in tenths, of the sensors that have no zone (R294). -/
  moduleF : Nat
  /-- Flow has returned since the quiesce for coolant (R302). -/
  returned : Bool
  /-- Pump speed and valve codes imposed by a leak (R298). -/
  leakRpm : Nat
  leakValves : List Nat
deriving DecidableEq, Repr

/-! ### Drive stage -/

/-- The drive stage beside its registers (R341 to R357). -/
structure Drive where
  /-- Codes of the valves, speed and PUMP_EN of the last accepted frame. -/
  codes : List Nat
  rpm : Nat
  pumpEn : Nat
  /-- A frame has been accepted since AUX power-up. -/
  framed : Bool
  /-- Queues of pull-in requests by switch, oldest first (R346). -/
  queues : SMap (List Nat)
  /-- Waiting requests already counted (R347): v as delayed, 8 + v as refused. -/
  counted : List Nat
  /-- Valves switched off by a fault that are to be tried once more, and those tried (R350). -/
  faulted : List Nat
  retried : List Nat
  /-- Valves whose hold current the duty window caps (R349). -/
  capped : List Nat
  /-- Switches that have failed (R350). -/
  switchFailed : List Nat
  /-- What is left of a coil's off-time in ms, counted by the control cycles (R346). -/
  offMs : SMap Nat
  /-- When VALVE_REFUSED was last written of a valve, and when a switch last tripped, by the ms count of the Kilns (R350,
  R358). -/
  refusedMs : SMap Nat
  tripMs : SMap Nat
deriving DecidableEq, Repr

/-! ### Self-test -/

/-- A background slice that runs (R428): its kind as BST_LAST_FAIL codes it, its unit, and whether it repeats a failed one
(R429). -/
structure Slice where
  kind : Nat
  unit : Nat
  again : Bool
deriving DecidableEq, Repr

/-- Self-test beside its registers (R428 to R430). -/
structure Bst where
  running : List Slice
  /-- Converters whose last PT_REF failed, by the sensor ID read through them, and loops whose last LEAK_REF failed. -/
  ptBad : List Nat
  leakBad : List Nat
  /-- Operating hour of the last STARVED event of an activity. -/
  starved : SMap Nat
  /-- When the last slice of a die started, in the Kiln's milliseconds (R428). -/
  started : SMap Nat
deriving DecidableEq, Repr

/-! ### Kilns -/

/-- A change of the Kiln's tables on its way to the standby (R260): 1 a repair record kept, 3 one taken out, with the words of
the record; 2 the extent table: opcode, handle, base and size. -/
structure JEntry where
  kind : Nat
  words : List Nat
deriving DecidableEq, Repr

/-- The caps of a die in a state frame (R184). -/
structure DieCopy where
  capUw : Nat
  thermUw : Nat
  loopUw : Nat
  hotUw : Option Nat
  tsetOn : Bool
deriving DecidableEq, Repr

/-- A state frame (R258): what the active Kiln copies to the standby at the end of a control cycle. -/
structure Frame where
  ver : Nat
  final : Bool
  sender : Kiln
  rcSlice : Nat
  journal : List JEntry
  cycle : Nat
  opHours : Nat
  powerCycles : Nat
  /-- Module state: STATE, the drain, the quiesce, the return of flow, the mailbox. -/
  modState : ModState
  draining : Bool
  drainMs : Nat
  parkPlanned : Bool
  parkQuiesce : Bool
  quiesce : List Nat
  returned : Bool
  mbxOpcode : Nat
  mbxTag : Nat
  mbxCommitted : Bool
  /-- Copper: its loops, their KEEP words and the fractions of their gain schedules; the time of the engine, the tables' step
  periods, marks and locks, and the cells of table RC_SLICE (R318, R327). -/
  loops : SMap LoopSt
  keep : SMap Nat
  fracs : SMap (Int × Int)
  clock : Nat
  rcs : SMap RcSt
  cells : SMap Nat
  /-- Registers that show the state of loops and tables, T_SET, the factors of the zones, the last rack cap and the scheduler. -/
  regs : SMap Nat
  /-- Grain state (R184). -/
  applied : Nat
  target : Nat
  thermal : Nat
  protects : List Nat
  dies : SMap DieCopy
  ceils : SMap Nat
  /-- Sensor state. -/
  sens : SMap SensRec
  suspect : List Nat
  /-- Drive state: the last command, the off-times, and the registers of pumps and valves. -/
  drive : Option DriveFrame
  driveSeq : Nat
  offMs : SMap Nat
  drvRegs : SMap Nat
  /-- Row bus: the transmit buffers by port × 3 + buffer, and the clashes. -/
  buffers : SMap RowMsg
  clashes : List (Nat × Nat)
  /-- The Cask record it carries (R410). -/
  record : Option CaskRec
deriving DecidableEq, Repr

/-- One Kiln beside its registers (R254 to R272). -/
structure KilnState where
  /-- The core runs its image. -/
  up : Bool
  /-- Frames accepted in a row since it last became standby, up to 8, which stand (R269). -/
  goodFrames : Nat
  /-- Cycles its shadow control has passed without divergence, up to 100 (R269). -/
  shadowOk : Nat
  /-- It has been healthy since it last restarted (R263). -/
  been : Bool
  /-- KLN_HEALTH, KLN_COPY and KLN_DIVERGE as it has them itself: a standby's window shows those of its last health word (R261,
  R279). -/
  health : Nat
  age : Nat
  bad : Nat
  divCount : Nat
  divLoop : Nat
  /-- Its last good frame, and the cells of the tables that its frames have brought (R327). -/
  frame : Option Frame
  rcCells : SMap Nat
  /-- It released under R262 and waits for its restart and the 10 s of R263. -/
  barred : Bool
  /-- COMPAT of its image (R389). -/
  compat : Nat
  /-- FW_VER of its image. -/
  fwVer : Nat
  /-- Checks of R262 failed in the last cycles: DRIVE_RB, CYCLE, ACQ counts. -/
  driveRbRow : Nat
  cycleRow : Nat
  acqRow : Nat
deriving DecidableEq, Repr

/-- The pair, the interlock and the die supervision (R254 to R277). -/
structure Kln where
  ka : KilnState
  kb : KilnState
  /-- Interlock state (R254). -/
  owner : Option Kiln
  lastOwner : Option Kiln
  /-- ms since AUX power-up at the last changes of hands, newest first, at most 4 (R263). -/
  changes : List Nat
  /-- ms of control cycles since AUX power-up. -/
  upMs : Nat
  /-- A planned handover under way: cause code of R278 (R264). -/
  planned : Nat
  /-- Cause code of R278 of the last move to NONE, and KLN_HEALTH of the Kiln that held ACT_OWN then. -/
  noneCause : Nat
  noneHealth : Nat
  /-- A standby's protection fall that the active Kiln has not confirmed (R256). -/
  unconfirmed : Option Kiln
  /-- Journal entries waiting for a frame, oldest first (R260). -/
  journal : List JEntry
  /-- STANDBY_LOST has been written since the last healthy standby. -/
  standbyLost : Bool
  /-- The frame sent last (R258). -/
  sent : Option Frame
  /-- The data memory of the engine of the Kiln that does not hold ACT_OWN, or did not hold it last, as CLE_DATA would show it
  (R268, R318). -/
  shadow : SMap Nat
  /-- The channels that the last DRIVE_RB release found mismatched (R263). -/
  rbChannels : List Nat
  /-- The channels that the last echo showed mismatched (R342). -/
  rbSeen : List Nat
deriving DecidableEq, Repr

/-! ### The states at power-up -/

/-- A cluster as its power-up leaves it (R54, R62, R166; log entry 7). -/
def clusterInit : Cluster :=
  { pc := 0, sregs := [], vregs := [], vEpoch := 0, acc0 := ⟨some 0, []⟩, acc1 := ⟨some 0, []⟩,
    gen := 0x9E3779B97F4A7C15, heldSeed := none, store := [], storeEpoch := 0,
    storeZero := false, tbq := [], spills := [], dmas := [],
    dmaAccepted := 0, dmaRetired := 0, chanHeld := [], linkHeld := [], tokens := [], wait := none, slots := [],
    reserve := 0, granted := false, lent := false, failed := false, ueHour := none, abort := none, slicePassed := true,
    parkGated := false, inSlice := false, ceil := none, ceilAge := 100, hot := false, hotTicks := 0 }

/-- A die's grain state at CORE power-up (R166). -/
def dieGrnInit : DieGrn :=
  { pool := 0, debt := 0, minted := 0, spent := 0, base := 0, hold := false, lastServed := 0, capUw := 0,
    thermUw := 0xFFFF * 10 ^ 6, loopUw := 0xFFFF * 10 ^ 6, hotUw := none, limit := 0, lapsed := 0, tsetOn := false }

/-- A work ring with nothing posted. -/
def ringInit : Ring :=
  { waiters := [], returned := [], done := [], posts := [], nextPost := 0, cancels := [], skips := [], failed := [] }

/-! ### The whole state -/

/-- The module. -/
structure State where
  /-- Commands waiting, first in first out (log entry 1). -/
  pending : List Instr
  /-- Counter of the free values drawn: the model's own field (log entry 3). -/
  freeCtr : Nat
  /-- Visible register fields; an unlisted field reads its reset value. -/
  regs : SMap Nat
  /-- Committed values of RWC fields. -/
  live : SMap Nat
  /-- Latched high words (R9), by block number. -/
  latch : SMap (Nat × Nat)
  /-- Writes to RWC fields held during a commit (R7): block, address, value. -/
  heldWrites : List (Nat × Nat × Nat)
  /-- Commit writes held while BUSY (R475): block. -/
  heldCommits : List Nat
  power : Power
  cask : Cask
  row : Row
  thl : Thl
  kln : Kln
  sec : Sec
  cool : Cool
  cop : Copper
  drive : Drive
  /-- Clusters by physical number; unlisted: as at CORE power-up (R13). -/
  clu : SMap Cluster
  /-- Physical cluster of each logical one; unlisted: the factory map; none: absent (R14, R439). -/
  spareMap : SMap (Option Nat)
  wiq : Wiq
  mem : Mem
  gates : Gates
  grn : Grn
  lnk : Lnk
  ixf : Ixf
  ptn : Ptn
  bst : Bst
deriving DecidableEq, Repr

/-- Why a step can stop with a fault; no meaning of this model raises one. Safe: stopping proves nothing false. -/
inductive Fault where
  /-- Reserved for an operand no unit of the hardware answers to; raised by no command. Safe. -/
  | noSuchUnit
deriving DecidableEq, Repr

/-- Why a command can be refused. -/
inductive Refusal where
  /-- The command has no meaning yet; raised by exec's arms only. Safe. -/
  | notModelled (mnemonic : String)
deriving DecidableEq, Repr

/-! ### Reset -/

/-- A Kiln without power. -/
def kilnInit : KilnState :=
  { up := false, goodFrames := 0, shadowOk := 0, been := false, health := 0, age := 0xFF, bad := 0, divCount := 0, divLoop := 0,
    frame := none, rcCells := [], barred := false, compat := 0, fwVer := 0, driveRbRow := 0, cycleRow := 0, acqRow := 0 }

/-- The power state of a module without input. -/
def powerInit : Power :=
  { on := [], boot := .off, modState := .starting, retried := false, opHours := 0, powerCycles := 0, draining := false,
    drainMs := 1000, parkPlanned := false, parkQuiesce := false, parked := false, parkedPorts := [], quiesce := [],
    indicator := .dark, hotN := false, cclkNext := [18, 18, 18, 18], cclk := [18, 18, 18, 18] }

/-- A Cask without records. -/
def caskInit : Cask :=
  { hdrA := ⟨0, true, 62, 0, []⟩, hdrB := ⟨0, true, 62, 0, []⟩, permBad := [], bufA := [], bufB := [], circ := [],
    circHead := 0, perm := [], hdrSectors := 62, retired := [], failRow := [], torn := [], stopped := false, owed := [] }

/-- The row bus at rest. -/
def rowInit : Row :=
  { other := ⟨[], []⟩, queues := [], txSeq := [], seen := [], echoSeq := 0, sent := [], measured := [], det := [],
    clashes := [], lastAlarm := (0, 0) }

/-- The host link at rest. -/
def thlInit : Thl :=
  { nextTag := 0, hmem := [], held := [], heldEvents := [], droppedSince := 0, holdoff := [], irqWaiting := [],
    locked := [], mbxRun := false, config := none, mbxResult := none, mbxCommitted := false, extents := [], trainBackoff := 0 }

/-- The Kiln pair without power. -/
def klnInit : Kln :=
  { ka := kilnInit, kb := kilnInit, owner := none, lastOwner := none, changes := [], upMs := 0, planned := 0,
    noneCause := 0, noneHealth := 0, unconfirmed := none, journal := [], standbyLost := false, sent := none, shadow := [],
    rbChannels := [], rbSeen := [] }

/-- The NOR and the one-time-programmable memory of a module of which the spec gives no contents (log entry 5). -/
def secInit : Sec :=
  { otp := [[], [], [], [], []], parts := [], imgState := [0, 0], norImg := [0, 0], kaHdr := [], kbHdr := [], dieHdr := [],
    cfgHdr := [], bootHdr := [], bootBody := [], bootSrc := 3,
    orderP := false, serial := [], identSeed := [], factoryRev := 0, spares := [], meter := [], repairs := [],
    reflashed := [], invA := ⟨0, true, [], []⟩, invB := ⟨0, true, [], []⟩, norRefused := false, ppr := [] }

/-- Coolant and sensors before the first reading. -/
def coolInit : Cool :=
  { overpressure := false, raw := [], src := [], zoneMw := [], dieMw := [], inputMw := 0, sens := [], suspect := [],
    qest := 0, model := { kv0 := 0, a := [], b := [], entries := [] }, moduleF := 10, returned := false, leakRpm := 0,
    leakValves := [] }

/-- Copper at rest. -/
def copperInit : Copper := { clock := 0, markers := [], loops := [], rcs := [], sent := none, seq := 0 }

/-- The drive stage at AUX power-up: every coil off, both pumps stopped (R341, R359). -/
def driveInit : Drive :=
  { codes := List.replicate 8 0x7FFF, rpm := 0, pumpEn := 0, framed := false, queues := [], counted := [], faulted := [],
    retried := [], capped := [], switchFailed := [], offMs := [], refusedMs := [],
    tripMs := [] }

/-- The work-issue block at IOD power-up. -/
def wiqInit : Wiq := { rings := [], completions := [] }

/-- Memory that holds nothing. -/
def memInit : Mem :=
  { cells := [], epochs := [], poison := [], copies := [], triggers := [], selfRefresh := [], chanFree := [],
    chanQ := [] }

/-- The fabric at IOD power-up: no port is UP, so no module is reachable (R208). -/
def ixfInit : Ixf :=
  { linkQ := [], reachAll := 0, reach := [], downs := [], fenced := [], reqs := [],
    nextTag := 0, hashHeld := [], sigHeld := [], lateAcks := [], colls := [], readies := [], backoff := [] }

/-- The end of a link that has not carried a flit. -/
def linkEndInit : LinkEnd :=
  { txSeq := 0, rxSeq := 1023, acked := 1023, nakSent := false, since := 0, owed := [], sent := [] }

/-- The links at IOD power-up. -/
def lnkInit : Lnk :=
  { out := [], wire := [], ends := [], credits := [], waiting := [], rx := [], group := [], lost := [], widths := [] }

/-- The partner link at IOD power-up. -/
def ptnInit : Ptn := { dirty := [], copy := none, fenced := false, backoff := 0, sumSeq := 0 }

/-- The grain budget at AUX power-up. -/
def grnInit : Grn :=
  { dies := [], appliedUw := 0, nondieUw := 0, thermalUw := 0xFFFF * 10 ^ 6, protects := [], rackNow := [],
    echoDue := false, sentUw := 0, stackCuts := [], setWaits := false, weightsWait := false }

/-- Self-test at rest. -/
def bstInit : Bst := { running := [], ptBad := [], leakBad := [], starved := [], started := [] }

/-- The module right after reset: without power, every register at its reset value (log entries 5 and 6). -/
def State.reset : State :=
  { pending := [], freeCtr := 0, regs := [], live := [], latch := [], heldWrites := [], heldCommits := [],
    power := powerInit, cask := caskInit, row := rowInit, thl := thlInit, kln := klnInit, sec := secInit,
    cool := coolInit, cop := copperInit, drive := driveInit, clu := [], spareMap := [], wiq := wiqInit, mem := memInit,
    gates := { queues := [], cascade := [] }, grn := grnInit, lnk := lnkInit, ixf := ixfInit, ptn := ptnInit, bst := bstInit }

end Sys2Proof.Machine
end

