-- ==== Sys2Proof/Machine/Ops.lean ====
section
/-!
DEFINITION. The named operations over sparse maps, registers (R3 to R9, R473 to R476) and lists that every meaning uses.
-/

namespace Sys2Proof.Machine

/-! ### Sparse maps -/

/-- What a map holds at key k, if anything. -/
def SMap.get? {α : Type} : SMap α → Nat → Option α
  | [], _ => none
  | (a, v) :: t, k => if a = k then some v else SMap.get? t k

/-- Store v at key k, keys strictly rising. -/
def SMap.set {α : Type} : SMap α → Nat → α → SMap α
  | [], k, v => [(k, v)]
  | (a, w) :: t, k, v =>
    if k < a then (k, v) :: (a, w) :: t else if a = k then (k, v) :: t else (a, w) :: SMap.set t k v

/-- Drop the entry at key k. -/
def SMap.erase {α : Type} (m : SMap α) (k : Nat) : SMap α := m.filter fun e => e.1 ≠ k

/-- What a map holds at key k, d where it holds nothing. -/
def SMap.getD {α : Type} (m : SMap α) (k : Nat) (d : α) : α := (m.get? k).getD d

/-- Store v at key k of a map whose unlisted keys read d, so that no entry equals d. -/
def SMap.put {α : Type} [DecidableEq α] (m : SMap α) (k : Nat) (v d : α) : SMap α :=
  if v = d then m.erase k else m.set k v

/-- Change every value of a map whose unlisted keys read d. -/
def SMap.mapVals {α : Type} [DecidableEq α] (m : SMap α) (d : α) (f : α → α) : SMap α :=
  (m.map fun e => (e.1, f e.2)).filter fun e => e.2 ≠ d

/-- Keys strictly rising: the canonical order of a map. -/
def SMap.wf {α : Type} (m : SMap α) : Bool := decide ((m.map Prod.fst).Pairwise (· < ·))

/-! ### Register fields -/

/-- The visible value of instance i of a field (the shadow value of an RWC field, R5). -/
def State.getF (s : State) (f : Fld) (i : Nat := 0) : Nat := s.regs.getD (f.key i) (f.resetAt i)

/-- The value in force of instance i of an RWC field (R7). -/
def State.getLive (s : State) (f : Fld) (i : Nat := 0) : Nat := s.live.getD (f.key i) (f.resetAt i)

/-- Write instance i of a field, cut to the field's width. -/
def State.setF (s : State) (f : Fld) (i : Nat) (v : Nat) : State :=
  { s with regs := s.regs.put (f.key i) (v % 2 ^ f.width) (f.resetAt i) }

/-- Write the value in force of instance i of an RWC field. -/
def State.setLive (s : State) (f : Fld) (i : Nat) (v : Nat) : State :=
  { s with live := s.live.put (f.key i) (v % 2 ^ f.width) (f.resetAt i) }

/-- What the register maps list of the fields of a list, by key. -/
def State.regsOf (s : State) (fs : List Fld) : SMap Nat :=
  let codes := fs.map Fld.code
  s.regs.filter fun e => codes.contains (e.1 % 8192)

/-- Every instance of the fields of a list reads its reset value. -/
def State.dropRegs (s : State) (fs : List Fld) : State :=
  let codes := fs.map Fld.code
  { s with regs := s.regs.filter fun e => !codes.contains (e.1 % 8192) }

/-- Put values of the fields of a list, by key, in the place of those there are. -/
def State.withRegs (s : State) (fs : List Fld) (m : SMap Nat) : State :=
  m.foldl (fun s e => match fs.find? fun f => f.code == e.1 % 8192 with
    | some f => s.setF f (e.1 / 8192) e.2
    | none => s) (s.dropRegs fs)

/-- Commit instance i of a field: the shadow value comes into force (R7). -/
def State.commitF (s : State) (f : Fld) (i : Nat := 0) : State := s.setLive f i (s.getF f i)

/-- Commit instance i of each field of a list. -/
def State.commitAll (s : State) (fs : List Fld) (i : Nat := 0) : State := fs.foldl (fun s f => s.commitF f i) s

/-- Commit instances 0 to n - 1 of each field of a list. -/
def State.commitRange (s : State) (fs : List Fld) (n : Nat) : State :=
  (List.range n).foldl (fun s i => s.commitAll fs i) s

/-- Does instance i of an RWC field differ between the shadow set and the set in force? -/
def State.changed (s : State) (f : Fld) (i : Nat := 0) : Bool := s.getF f i != s.getLive f i

/-- A one-bit field as a Bool. -/
def State.flag (s : State) (f : Fld) (i : Nat := 0) : Bool := s.getF f i != 0

/-- A committed one-bit field as a Bool. -/
def State.liveFlag (s : State) (f : Fld) (i : Nat := 0) : Bool := s.getLive f i != 0

/-- Set a one-bit field. -/
def State.setFlag (s : State) (f : Fld) (i : Nat) (b : Bool) : State := s.setF f i b.toNat

/-- Set bit b of a field. -/
def State.setBit (s : State) (f : Fld) (i b : Nat) : State := s.setF f i (s.getF f i ||| 2 ^ b)

/-- Clear bit b of a field. -/
def State.clearBit (s : State) (f : Fld) (i b : Nat) : State :=
  s.setF f i (if (s.getF f i).testBit b then s.getF f i - 2 ^ b else s.getF f i)

/-- Add n to a counter field that wraps at its width. -/
def State.addWrap (s : State) (f : Fld) (i n : Nat) : State := s.setF f i (s.getF f i + n)

/-- Add n to a counter field that saturates at its largest value. -/
def State.addSat (s : State) (f : Fld) (i n : Nat) : State :=
  s.setF f i (min (s.getF f i + n) (2 ^ f.width - 1))

/-- Add n to a 64-bit counter held in a _LO and a _HI field (R9). -/
def State.add64 (s : State) (lo hi : Fld) (i n : Nat) : State :=
  let v := s.getF lo i + 2 ^ 32 * s.getF hi i + n
  (s.setF lo i v).setF hi i (v / 2 ^ 32)

/-- A 64-bit quantity in a _LO and a _HI field. -/
def State.get64 (s : State) (lo hi : Fld) (i : Nat := 0) : Nat := s.getF lo i + 2 ^ 32 * s.getF hi i

/-- An activity of the background scheduler is served: it returns to its base level (R430). -/
def State.served (s : State) (a : Nat) : State := s.setF (.bst .ageLevel) a ((Fld.bst .ageLevel).resetAt a)

/-- The next free value, w bits wide, and the state whose counter has moved past it (log entry 3). -/
def State.fresh (s : State) (w : Nat) : BitVec w × State :=
  (Config.freeBits w s.freeCtr, { s with freeCtr := s.freeCtr + 1 })

/-- n free bytes. -/
def State.freshBytes : Nat → State → List Byte × State
  | 0, s => ([], s)
  | n + 1, s =>
    let (b, s) := s.fresh 8
    let (l, s) := State.freshBytes n s
    (b :: l, s)

/-! ### Bit fields and bytes -/

/-- Bits hi..lo of a number. -/
def bits (x hi lo : Nat) : Nat := x / 2 ^ lo % 2 ^ (hi + 1 - lo)

/-- The n low bytes of a number, least significant first (R2). -/
def leBytes : Nat → Nat → List Byte
  | 0, _ => []
  | n + 1, x => BitVec.ofNat 8 x :: leBytes n (x / 256)

/-- The number that little-endian bytes spell (R2). -/
def leNat : List Byte → Nat
  | [] => 0
  | b :: t => b.toNat + 256 * leNat t

/-- A w-bit two's-complement number as an integer. -/
def signed (w x : Nat) : Int := if x % 2 ^ w < 2 ^ (w - 1) then (x % 2 ^ w : Nat) else (x % 2 ^ w : Nat) - (2 : Int) ^ w

/-- An integer as a w-bit two's-complement number. -/
def unsigned (w : Nat) (x : Int) : Nat := (x % (2 : Int) ^ w).toNat

/-- Sequence-number order modulo 2^32 (R65): a is before b. -/
def seqBefore (a b : Nat) : Bool := let d := (b + 2 ^ 32 - a % 2 ^ 32) % 2 ^ 32; decide (0 < d ∧ d < 2 ^ 31)

/-- One step of CRC-32C (R404) over a bit. -/
def crc32cBit (c : Nat) : Nat := if c % 2 = 1 then c / 2 ^^^ 0x82F63B78 else c / 2

/-- One step of CRC-32C over a byte. -/
def crc32cByte (c : Nat) (b : Byte) : Nat :=
  let c := c ^^^ b.toNat
  crc32cBit (crc32cBit (crc32cBit (crc32cBit (crc32cBit (crc32cBit (crc32cBit (crc32cBit c)))))))

/-- CRC-32C of a list of bytes. -/
def crc32c (l : List Byte) : Nat := l.foldl crc32cByte 0xFFFFFFFF ^^^ 0xFFFFFFFF

/-- Replace element n of a list. -/
def listSet {α : Type} : List α → Nat → α → List α
  | [], _, _ => []
  | _ :: t, 0, v => v :: t
  | a :: t, n + 1, v => a :: listSet t n v

/-- Change element n of a list. -/
def listModify {α : Type} (l : List α) (n : Nat) (f : α → α) : List α :=
  match l[n]? with
  | some a => listSet l n (f a)
  | none => l

end Sys2Proof.Machine
end

