-- ==== Sys2Proof/Machine/RegRead.lean ====
section
/-!
DEFINITION. Reading the control space (R3 to R5, R9, R62, R473 to R476): the domain that holds a field, the fields that
show state held elsewhere, and the word an address reads.
-/

namespace Sys2Proof.Machine

/-- Is a power domain on (R20)? -/
def State.isOn (s : State) (d : Domain) : Bool := s.power.on.contains d

/-- The Kiln that holds ACT_OWN. -/
def State.active (s : State) : Option Kiln := s.kln.owner

/-- Registers of stack instances: the stack of instance i of a MEM field. -/
def memFieldStack (f : MemFld) (i : Nat) : Option Nat :=
  match f with
  | .chMapPch => some (i / 128)
  | .chCeLeaky | .chCeHardFail | .chCeSparedOut => some (i / 132)
  | .version | .statusState | .statusSparing | .statusSparesLeft | .statusRefreshRate | .statusTemp
  | .failCauseCause | .eccCeCount | .eccUeCount | .eccUePoisonReads | .ueAddrLoAddrLo | .ueAddrHiAddrHi
  | .ueAddrHiPhysCh | .ueAddrHiPoisoned | .spareCtrlLch | .spareCtrlStart | .spareStatusSpareCh
  | .spareStatusProgress | .spareStatusResult | .scrubCfgPeriodH | .scrubStatusPasses | .creditStallLoCountLo
  | .creditStallHiCountHi => some i
  | .gVersion | .ilCfgMode | .ilCfgHash | .stackMaskMask | .commitCommit | .commitStatusErr | .commitStatusBusy
  | .topLoTopLo | .topHiTopHi | .spareThreshThresh | .srCfgSrIdleUs | .failedFailed | .mirCfgBaseGib
  | .mirCfgSizeGib | .mirCfgEnable | .mirCfgSync | .mirCfgUnsynced => none

/-- The die of a die field or the cluster of a cluster field of the GRB; none for a global field. -/
def grbFieldDie (f : GrbFld) (i : Nat) : Option Nat :=
  match f with
  | .dieCapAppliedW | .dieCapThermW | .dieWeightWeight | .diePoolBalance | .dieDebtDebt | .dieDebtRepay
  | .dieSteepLoCountLo | .dieSteepHiCountHi | .dieLapsedCount | .dieHotHottest | .dieHotTemp | .dieHotHotCount
  | .dieTsetTset | .dieHoldsCount => some i
  | .cluResReserve | .cluCeilCeil | .cluCeilThrottled => some (i / 208)
  | _ => none

/-- Is a field of the STG block one of a gate? -/
def stgGateFld (f : StgFld) : Bool :=
  match f with
  | .gateCfgEnable | .gateCfgKind | .gateCfgRemoteOk | .gateCfgParticipants | .gateCtrlCommit | .gateCtrlReset
  | .gateCtrlCommitErr | .gateCtrlBusy | .gateStateCount | .gateStateOvf | .gateStateEpoch | .gateStateNext
  | .gateWaitWaiters | .gateWaitRemoteRej => true
  | _ => false

/-- Is a field of the MIL block a counter of one Mill? -/
def milCounterFld (f : MilFld) : Bool :=
  match f with
  | .groupsLoCountLo | .groupsHiCountHi | .nanCount | .satCount => true
  | _ => false

/-- The domain that holds instance i of a field (R476). -/
def fieldDomain (f : Fld) (i : Nat) : Domain :=
  match f with
  | .mod _ | .kln _ | .cle _ | .drv _ | .row _ | .csk _ | .bst _ | .sec _ => .aux
  | .grb g => match grbFieldDie g i with
    | some d => .core d
    | none => .aux
  | .stg g => if stgGateFld g && i < 0x4000 then .core (i / 0x1000) else .iod
  | .wiq _ | .ixf _ | .ptn _ | .thl _ => .iod
  | .mem m => match memFieldStack m i with
    | some k => .core (k / 5)
    | none => .iod
  | .mil m => if milCounterFld m then .core (i / 5) else .iod
  | .clu _ => .core (i / 208)

/-- The queue of a row-bus port and buffer. -/
def State.rowQueue (s : State) (p b : Nat) : List RowMsg := s.row.queues.getD (3 * p + b) []

/-- A Kiln's Cask buffer. -/
def Cask.buf (c : Cask) : Kiln → List CaskEntry
  | .ka => c.bufA
  | .kb => c.bufB

/-- The buffer of the Kiln that holds ACT_OWN; KA's while none does. -/
def State.caskBuf (s : State) : List CaskEntry := s.cask.buf (s.active.getD .ka)

/-- Buffered records not yet in the NOR (R424). -/
def State.unwritten (s : State) : Nat := (s.caskBuf.filter fun e => !e.inNor).length

/-- The earlier of two sequence numbers (R65). -/
def seqMin (a b : Nat) : Nat := if seqBefore b a then b else a

/-- The later of two sequence numbers (R65). -/
def seqMax (a b : Nat) : Nat := if seqBefore a b then b else a

/-- The earliest of a list of sequence numbers, d for an empty list. -/
def seqMinAll : List Nat → Nat → Nat
  | [], d => d
  | a :: t, _ => t.foldl seqMin a

/-- The latest of a list of sequence numbers, d for an empty list. -/
def seqMaxAll : List Nat → Nat → Nat
  | [], d => d
  | a :: t, _ => t.foldl seqMax a

/-- The gate of cluster c: CLU_STATUS.GATED (R478). -/
def State.gated (s : State) (c : Nat) : Bool := s.flag (.clu .statusGated) c

/-! ### Clusters and their numbers -/

/-- Is a physical cluster a spare of the factory map (R15)? The inventory names the spares of the module (R276); where it names
none, the last 8 clusters of each die are (log entry 6). -/
def State.factorySpare (s : State) (c : Nat) : Bool :=
  if s.sec.spares.isEmpty then decide (200 ≤ c % 208) else s.sec.spares.contains c

/-- The physical cluster of a logical one in the factory map: the clusters of its die that are no spares, in ascending order
(R14, R15). -/
def State.factoryPhys (s : State) (l : Nat) : Option Nat :=
  if s.sec.spares.isEmpty then some (208 * (l / 200) + l % 200)
  else (((List.range 208).map fun j => 208 * (l / 200) + j).filter fun c => !s.factorySpare c)[l % 200]?

/-- The logical number that the factory map gives a cluster that is no spare: the count of such clusters before it. -/
def State.factoryLogical (s : State) (c : Nat) : Nat :=
  200 * (c / 208) +
    (if s.sec.spares.isEmpty then c % 208
     else ((List.range (c % 208)).filter fun j => !s.factorySpare (208 * (c / 208) + j)).length)

/-- The physical cluster of a logical one; none while it is absent (R14, R439). -/
def State.physOf (s : State) (l : Nat) : Option Nat :=
  if l < 800 then
    match s.spareMap.get? l with
    | some x => x
    | none => s.factoryPhys l
  else none

/-- The logical number of a physical cluster; none for a spare (R62). -/
def State.logicalOf (s : State) (c : Nat) : Option Nat :=
  match s.spareMap.find? fun e => e.2 == some c with
  | some e => some e.1
  | none =>
    let l := s.factoryLogical c
    if !s.factorySpare c && decide (c < 832) && s.physOf l == some c then some l else none

/-- A cluster beside its registers. -/
def State.cl (s : State) (c : Nat) : Cluster := s.clu.getD c clusterInit

/-- Grain state of a die. -/
def State.die (s : State) (n : Nat) : DieGrn := s.grn.dies.getD n dieGrnInit

/-- Units of 2^-16 grain as a two's-complement field in units of 2^-8 grain, truncated toward zero (R161). -/
def grainField (x : Int) : Nat := unsigned 24 (if x < 0 then -((-x) / 256) else x / 256)

/-- A work ring beside its registers. -/
def State.ring (s : State) (r : Nat) : Ring := s.wiq.rings.getD r ringInit

/-- Tokens held over all clusters (R98). -/
def State.heldTokens (s : State) : Nat := (s.clu.map fun e => e.2.tokens.length).foldl (· + ·) 0

/-- Tokens of a ring held by clusters (R99). -/
def State.ringHeld (s : State) (r : Nat) : Nat :=
  (s.clu.map fun e => (e.2.tokens.filter fun t => t.ring == r).length).foldl (· + ·) 0

/-- The next sequence number of a ring to hand out: one that was returned first (R66). -/
def State.nextClaim (s : State) (r : Nat) : Nat := (s.ring r).returned.headD (s.getF (.wiq .ringClaimClaim) r)

/-- Slots of a ring. -/
def State.ringSize (s : State) (r : Nat) : Nat := 2 ^ s.getLive (.wiq .ringCfgSizeLog2) r

/-- Is a sequence number within the completion ring as far as the host has read it (R66)? -/
def State.slotFree (s : State) (r seq : Nat) : Bool :=
  decide ((seq + 2 ^ 32 - s.getF (.wiq .ringConsCons) r) % 2 ^ 32 < s.ringSize r)

/-- Has a sequence number been published (R66, R81)? -/
def State.posted (s : State) (r seq : Nat) : Bool :=
  seqBefore seq (s.getF (.wiq .ringProdProd) r) || (s.ring r).returned.contains seq

/-- Clusters that steep on a gate, held arrivals included (R159). -/
def State.gateWaiters (s : State) (g : Nat) : Nat :=
  (s.clu.filter fun e => match e.2.wait with
    | some (.gate id _ _) => id == g
    | some (.held id _ _) => id == g
    | some (.round id _ _ _) => id == g
    | _ => false).length

/-- Does a physical channel of a stack carry a logical one (R101)? -/
def State.inService (s : State) (k pch : Nat) : Bool :=
  (List.range 128).any fun l => s.getF (.mem .chMapPch) (128 * k + l) == pch

/-- The eight words of a repair record (R432). -/
def RepairRec.words (r : RepairRec) : List Nat :=
  let w := [1 + 2 ^ 8 * r.rtype + 2 ^ 12 * r.cause + 2 ^ 16 * r.unit, r.word1, r.word2, r.opHours, r.powerCycles, r.caskSeq, 0]
  w ++ [crc32c (w.flatMap (leBytes 4))]

/-- A word of the inventory (R276); words past its end read 0. -/
def State.invWord (s : State) (i : Nat) : Nat :=
  let half := fun (j : Nat) => s.sec.spares.getD j (208 * (j / 8) + 200 + j % 8)
  let meter := fun (j : Nat) => s.sec.meter.getD j 0
  if i = 0 then 1 + 2 ^ 16 * ((1695 + 8 * s.sec.repairs.length) % 2 ^ 16)
  else if i < 5 then leNat ((s.sec.serial.drop (4 * (i - 1))).take 4)
  else if i = 5 then s.sec.orderP.toNat + 2 ^ 16 * s.sec.factoryRev
  else if i < 14 then s.getF (.sec .identBytes) (i - 6)
  else if i < 30 then half (2 * (i - 14)) + 2 ^ 16 * half (2 * (i - 14) + 1)
  else if i < 1694 then meter (2 * (i - 30)) + 2 ^ 16 * meter (2 * (i - 30) + 1)
  else if i = 1694 then s.sec.repairs.length
  else match s.sec.repairs[(i - 1695) / 8]? with
    | some r => r.words.getD ((i - 1695) % 8) 0
    | none => 0

/-- The fields whose home is another part of the state, as the block shows them; none for a field held in the register
maps. -/
def State.viewF (s : State) (f : Fld) (i : Nat) : Option Nat :=
  match f with
  | .csk .statusCircOff => some (if s.getLive (.csk .cfgCircSectors) = 0 then 1 else 0)
  | .csk .statusPermFull => some (if s.cask.perm.length ≥ 1024 then 1 else 0)
  | .csk .statusSparesLeft => some (32 - s.cask.retired.length)
  | .csk .statusUnwritten => some s.unwritten
  | .csk .oldestSeq => some (seqMinAll (s.cask.circ.map (·.2.seq) ++ s.caskBuf.map (·.record.seq))
      (s.getF (.csk .nextSeqSeq)))
  | .csk .flushedSeq => some (seqMaxAll (s.cask.circ.map (·.2.seq)) 0)
  | .csk .permPermCount => some s.cask.perm.length
  | .csk .permFirstSeq => some ((s.cask.perm.map (·.seq)).headD 0)
  | .row .portTxbType => some (((s.rowQueue (i / 3) (i % 3)).map (·.mtype)).headD 0)
  | .row .portTxbPending => some (if (s.rowQueue (i / 3) (i % 3)).isEmpty then 0 else 1)
  | .row .portTxbBegun => some (((s.rowQueue (i / 3) (i % 3)).map (·.begun.toNat)).headD 0)
  | .row .portTxbQueued => some ((s.rowQueue (i / 3) (i % 3)).length - 1)
  | .row .portClashRecent => some (min 15 (s.row.clashes.filter fun c => c.1 == i).length)
  | .thl .capLoLocalLo => some (0x20020201 + 2 ^ 12 * (s.lnk.widths.getD 13 0xF % 8))
  | .thl .evqLostHeld => some s.thl.heldEvents.length
  | .kln .ownerOwner => some (match s.kln.owner with
      | none => 0
      | some .ka => 1
      | some .kb => 2)
  | .kln .invDataWord => some (s.invWord (s.getF (.kln .invSelIndex)))
  | .sec .bootAState => some (s.sec.imgState.getD 0 0)
  | .sec .bootBState => some (s.sec.imgState.getD 1 0)
  | .bst .statusRecords => some s.sec.repairs.length
  | .bst .memRowsFree => some (512 - (s.sec.ppr.filter fun e => e / 528 == i && s.inService i (e / 4 % 132)).length)
  | .clu .pcPc => some (s.cl i).pc
  | .ixf .portCapLoLocalLo => some (0x40020201 + 2 ^ 12 * s.lnk.widths.getD i 0xF)
  | .ixf .portOeTemp => some (min 255 (((s.cool.raw.get? (0x6000 + i)).getD 0).toNat / 16))
  | .ptn .capLoLocalLo => some (if s.sec.orderP then 0x402A0201 + 2 ^ 12 * s.lnk.widths.getD 12 0xF else 0)
  | .ptn .capHiLocalHi => some (if s.sec.orderP then 0x2040 else 0)
  | .wiq .statusHeld => some s.heldTokens
  | .wiq .statusDrained => some (if s.flag (.wiq .ctrlClaimStop) && s.heldTokens == 0 then 1 else 0)
  | .wiq .ringStatusHeld => some (s.ringHeld i)
  | .wiq .ringStatusCqFull => some (if s.posted i (s.nextClaim i) && !s.slotFree i (s.nextClaim i) then 1 else 0)
  | .stg .gateWaitWaiters => some (s.gateWaiters i)
  | .grb .diePoolBalance => some (grainField (s.die i).pool)
  | .grb .dieDebtDebt => some ((s.die i).debt / 256)
  | .grb .dieLapsedCount => some (min ((s.die i).lapsed / 256) (2 ^ 32 - 1))
  | .grb .dieCapThermW => some (min ((s.die i).thermUw / 10 ^ 6) 0xFFFF)
  | .grb .dieCapAppliedW => some ((s.die i).capUw / 10 ^ 6)
  | .grb .cluResReserve => some (if s.gated i || (s.logicalOf i).isNone then 0 else grainField (s.cl i).reserve)
  | .grb .cluCeilCeil => some (if s.gated i || (s.logicalOf i).isNone then 0
      else (s.cl i).ceil.getD (s.getLive (.grb .resCfgCeilDefault)))
  | .grb .cluCeilThrottled => some (if s.gated i || (s.logicalOf i).isNone then 0
      else if (s.cl i).ceil.getD (s.getLive (.grb .resCfgCeilDefault)) < s.getLive (.grb .resCfgCeilDefault) then 1
      else 0)
  | _ => none

/-- The reset value that a field of a block without power reads (R474): where the field map gives no number, the repair records
(R130), CEIL_DEFAULT (R187) and the ordering code (R231) give it. -/
def State.resetF (s : State) (f : Fld) (i : Nat) : Nat :=
  let spares := fun (k : Nat) => s.sec.repairs.filter fun r => r.rtype == 1 && r.unit == k
  match f with
  | .mem .chMapPch => (((spares (i / 128)).reverse.find? fun r => bits r.word1 6 0 == i % 128).map fun r =>
      bits r.word1 23 16).getD (i % 128)
  | .mem .chCeSparedOut => if (spares (i / 132)).any fun r => bits r.word1 15 8 == i % 132 then 1 else 0
  | .mem .statusSparesLeft => 4 - (spares i).length
  | .grb .cluCeilCeil => s.getLive (.grb .resCfgCeilDefault)
  | .ptn .capLoLocalLo | .ptn .capHiLocalHi => if s.sec.orderP then f.resetAt i else 0
  | _ => f.resetAt i

/-- What instance i of a field reads (R5, R474). The registers of a gated cluster read as their reset values but for
GATED and LOGICAL (R62, R63). -/
def State.readF (s : State) (f : Fld) (i : Nat) : Nat :=
  match f with
  | .clu g =>
    if g = .statusLogical then (s.logicalOf i).getD 0x3FF
    else if s.isOn (.core (i / 208)) && !s.gated i then (s.viewF f i).getD (s.getF f i) % 2 ^ f.width
    else if g = .statusGated then 1 else f.resetAt i
  | _ =>
    (if s.isOn (fieldDomain f i) then (s.viewF f i).getD (s.getF f i) else s.resetF f i) % 2 ^ f.width

/-- The instance number at which an address falls in a register row, if it does. -/
def RegRow.hit (r : RegRow) (a : Nat) : Option Nat :=
  if a < r.base then none
  else
    let off := a - r.base
    let bigFirst : Bool := r.ss ≤ r.bs
    let s1 := if bigFirst then r.bs else r.ss
    let s2 := if bigFirst then r.ss else r.bs
    let k1 := if s1 = 0 then 0 else off / s1
    let k2 := if s2 = 0 then 0 else (off - k1 * s1) / s2
    let kb := if bigFirst then k1 else k2
    let ks := if bigFirst then k2 else k1
    if off - k1 * s1 - k2 * s2 = 0 ∧ kb < r.nb ∧ ks < r.ns then some (kb * r.cb + ks * r.cs) else none

/-- The blocks of the control space, numbered by BLOCK_ID (R472), none outside every block range (R473). -/
def blockOf (a : Nat) : Option Nat :=
  if a < 0x100000 then some 1
  else if a < 0x200000 then some 2
  else if a < 0x300000 then some 3
  else if a < 0x400000 then some 4
  else if a < 0x540000 then some 5
  else if a < 0x600000 then some 6
  else if a < 0x800000 then some 7
  else if a < 0x900000 then some 8
  else if a < 0xA00000 then some 9
  else if a < 0xC00000 then some 0xA
  else if a < 0xD00000 then some 0xB
  else if a < 0xE00000 then some 0xC
  else if a < 0xF00000 then some 0xD
  else if a < 0x1000000 then some 0xE
  else if a < 0x1100000 then some 0xF
  else if a < 0x1200000 then some 0x10
  else if a < 0x2000000 then some 0x11
  else if a < 0x2D00000 then some 0x12
  else none

/-- The registers of a block. -/
def blockTable (b : Nat) : List RegRow :=
  match b with
  | 1 => regTableMod
  | 2 => regTableGrb
  | 3 => regTableStg
  | 4 => regTableWiq
  | 5 | 6 => regTableMem
  | 7 => regTableMil
  | 8 => regTableIxf
  | 9 => regTablePtn
  | 0xA => regTableThl
  | 0xB => regTableKln
  | 0xC => regTableCle
  | 0xD => regTableDrv
  | 0xE => regTableRow
  | 0xF => regTableCsk
  | 0x10 => regTableBst
  | 0x11 => regTableSec
  | 0x12 => regTableClu
  | _ => []

/-- The register at an address of the map and its instance number; none at a reserved offset (R473). -/
def regAt (a : Nat) : Option (RegRow × Nat) :=
  match blockOf a with
  | none => none
  | some b => (blockTable b).findSome? fun r => (r.hit a).map fun k => (r, k)

/-- What a field contributes to its register's word: WO fields read 0 (R5). -/
def State.fieldWord (s : State) (k : Nat) (r : RegFld) : Nat :=
  match r.acc with
  | .wo => 0
  | _ => s.readF r.fld (k * r.mul + r.add) % 2 ^ (r.hi + 1 - r.lo) * 2 ^ r.lo

/-- The word an aligned address reads, without the latch of R9 and without side effects; 0 at reserved offsets (R473). -/
def State.peek (s : State) (a : Nat) : Nat :=
  match regAt a with
  | none => 0
  | some (r, k) => (r.flds.map (s.fieldWord k)).foldl (· + ·) 0

/-- Is a register the low word of a 64-bit pair of R9 (its high word follows)? Those are the 64-bit counters and the
capability and address pairs with a _LO and a _HI register. -/
def isLoField (f : Fld) : Bool :=
  match f with
  | .clu .srSeedLoSeedLo | .clu .tbCountLoCountLo | .wiq .ringBaseLoBaseLo | .wiq .ringCqLoCqLo
  | .mem .ueAddrLoAddrLo | .mem .creditStallLoCountLo | .mem .topLoTopLo | .mil .rgnBaseLoBaseLo
  | .mil .groupsLoCountLo | .grb .dieSteepLoCountLo | .ixf .winBaseLoBaseLo | .ixf .portCapLoLocalLo
  | .ixf .portFarLoFarLo | .ixf .portStallLoCountLo | .ixf .collQLoQLo | .ixf .grpListLoListLo
  | .ptn .capLoLocalLo | .ptn .farLoFarLo | .thl .capLoLocalLo | .thl .farLoFarLo | .thl .evqBaseLoBaseLo
  | .kln .cycleLoCountLo => true
  | _ => false

/-- Is an address that of the low word of a pair of R9? -/
def isLoAddr (a : Nat) : Bool :=
  match regAt a with
  | some (r, _) => r.flds.any fun f => isLoField f.fld
  | none => false

end Sys2Proof.Machine
end

