-- ==== Sys2Proof/Machine/Link.lean ====
section
/-!
DEFINITION. What every link of the module does below its packets: the layout and CRC of packets and flits (R191, R198), flits
sent and replayed (R192), transmit credits and packets that wait for them (R203). Links 0 to 11 are the Isxel ports, 12 is the
partner link, 13 the Tornath link (R233).
-/

namespace Sys2Proof

open Machine

/-! ### Packets and flits as bytes -/

/-- Bytes 0 to 27 of a packet's header (R198). -/
def Pkt.head (p : Pkt) : List Byte :=
  leBytes 1 p.ver ++ leBytes 1 p.typ ++ leBytes 2 p.dst ++ leBytes 2 p.src ++
    leBytes 1 (p.len % 8 + 8 * (p.vc % 4) + 32 * p.spray.toNat + 64 * p.rsv6) ++ leBytes 1 p.status ++ leBytes 4 p.tag ++
    leBytes 2 p.gate ++ leBytes 1 p.inc ++ leBytes 1 p.rsv15 ++ leBytes 8 p.addr ++ leBytes 4 p.aux

/-- CRC-32C over bytes 0 to 27 and the payload (R198). -/
def Pkt.crc (p : Pkt) : Nat := crc32c (p.head ++ p.payload)

/-- A packet with its PCRC. -/
def Pkt.seal (p : Pkt) : Pkt := { p with pcrc := p.crc }

/-- A packet as it is sent: the 32-byte header, then the payload (R198). -/
def Pkt.bytes (p : Pkt) : List Byte := p.head ++ leBytes 4 p.pcrc ++ p.payload

/-- Are the reserved bits of a header 0, its PCRC right and its version known (R198, R201)? -/
def Pkt.sound (p : Pkt) : Bool :=
  p.ver == 1 && p.rsv6 == 0 && p.rsv15 == 0 && decide (p.len ≤ 4) && p.payload.length == 64 * p.len && p.pcrc == p.crc

/-- Bytes 0 to 231 of a flit (R191). -/
def Flit.body (f : Flit) : List Byte :=
  leBytes 8 (f.fver % 16 + 2 ^ 4 * (f.fseq % 1024) + 2 ^ 14 * (f.ackseq % 1024) + 2 ^ 24 * f.nak.toNat + 2 ^ 25 * f.idle.toNat +
    2 ^ 26 * (f.crVc % 4) + 2 ^ 28 * (f.crCount % 256) + 2 ^ 36 * f.rsv) ++ f.data

/-- A flit with its CRC (R191). -/
def Flit.seal (f : Flit) : Flit := { f with crc := crc32c f.body }

/-- Is the CRC of a flit right (R192)? -/
def Flit.intact (f : Flit) : Bool := f.data.length == 224 && f.crc == crc32c f.body

/-- Has a flit no reserved version, virtual channel or bit (R8, R191)? -/
def Flit.known (f : Flit) : Bool := f.fver == 1 && decide (f.crVc < 3) && f.rsv == 0

end Sys2Proof

namespace Sys2Proof.Machine

/-! ### The ends -/

/-- This module's end of a link. -/
def State.linkEnd (s : State) (k : Nat) : LinkEnd := s.lnk.ends.getD k linkEndInit

/-- Change the end of a link. -/
def State.modEnd (s : State) (k : Nat) (f : LinkEnd → LinkEnd) : State :=
  { s with lnk := { s.lnk with ends := s.lnk.ends.put k (f (s.linkEnd k)) linkEndInit } }

/-- The credits that the next flit returns: those of the lowest virtual channel to which some are owed, up to 255 (R191,
R203). -/
def LinkEnd.returns (e : LinkEnd) : Nat × Nat :=
  match [0, 1, 2].find? fun v => e.owed.getD v 0 != 0 with
  | some v => (v, min 255 (e.owed.getD v 0))
  | none => (0, 0)

/-- The last n elements of a list. -/
def lastOf {α : Type} (n : Nat) (l : List α) : List α := l.drop (l.length - n)

/-- Send a flit with up to 224 bytes of packet stream (R191, R192): it carries ACKSEQ and credits, and is kept for replay. -/
def State.sendFlit (s : State) (k : Nat) (nak idle : Bool) (data : List Byte) : State :=
  let e := s.linkEnd k
  let r := e.returns
  let f : Flit := Flit.seal { fver := 1, fseq := e.txSeq, ackseq := e.rxSeq, nak, idle, crVc := r.1, crCount := r.2, rsv := 0,
                              data := data ++ List.replicate (224 - data.length) 0, crc := 0 }
  let s := s.modEnd k fun e => { e with
    txSeq := (e.txSeq + 1) % 1024, since := 0, owed := e.owed.put r.1 (e.owed.getD r.1 0 - r.2) 0,
    sent := lastOf 512 (e.sent ++ [f]) }
  { s with lnk := { s.lnk with wire := s.lnk.wire ++ [(k, f)] } }

/-- Send a stream of bytes in flits; fuel bounds their number. -/
def State.sendFlits : Nat → State → Nat → List Byte → State
  | 0, s, _, _ => s
  | n + 1, s, k, b => if b.isEmpty then s else State.sendFlits n (s.sendFlit k false false (b.take 224)) k (b.drop 224)

/-- A receive buffer is free again: its credit is owed to the far end (R203, R204). -/
def State.owe (s : State) (k vc : Nat) : State :=
  if vc < 3 then s.modEnd k fun e => { e with owed := e.owed.put vc (e.owed.getD vc 0 + 1) 0 } else s

/-- Credits that no packet has carried leave in an IDLE flit. -/
def State.payCredits (s : State) (k : Nat) : State :=
  if (s.linkEnd k).owed.isEmpty then s else s.sendFlit k false true []

/-- Send again the flits kept that follow a sequence number (R192). -/
def State.replay (s : State) (k ack : Nat) : State :=
  let l := (s.linkEnd k).sent
  let l := match l.findIdx? fun f => f.fseq == ack with
    | some i => l.drop (i + 1)
    | none => l
  { s with lnk := { s.lnk with wire := s.lnk.wire ++ l.map fun f => (k, f) } }

/-! ### Credits and packets -/

/-- Transmit credits of a link and virtual channel. -/
def State.credits (s : State) (port vc : Nat) : Nat := s.lnk.credits.getD (port * 4 + vc) 0

/-- Set the transmit credits of a link and virtual channel. -/
def State.setCredits (s : State) (port vc n : Nat) : State :=
  { s with lnk := { s.lnk with credits := s.lnk.credits.put (port * 4 + vc) n 0 } }

/-- Put a packet on a link. -/
def State.transmit (s : State) (port : Nat) (p : Pkt) : State :=
  ({ s with lnk := { s.lnk with out := s.lnk.out ++ [(port, p)] } } : State).sendFlits 2 port p.bytes

/-- The packets that wait for a credit of a link and virtual channel. -/
def State.waitingOn (s : State) (port vc : Nat) : List Pkt := s.lnk.waiting.getD (port * 4 + vc) []

/-- Set the packets that wait for a credit of a link and virtual channel. -/
def State.setWaiting (s : State) (port vc : Nat) (l : List Pkt) : State :=
  { s with lnk := { s.lnk with waiting := s.lnk.waiting.put (port * 4 + vc) l [] } }

/-- Hand a packet to a link: it takes one credit of its virtual channel, or waits for one behind those that wait (R31, R203). -/
def State.sendPkt (s : State) (port : Nat) (p : Pkt) : State :=
  let p := p.seal
  if s.credits port p.vc > 0 then (s.setCredits port p.vc (s.credits port p.vc - 1)).transmit port p
  else s.setWaiting port p.vc (s.waitingOn port p.vc ++ [p])

/-- Packets that wait go out, in order, while credits last. -/
def State.sendWaiting (s : State) (port vc : Nat) : List Pkt → State
  | [] => s.setWaiting port vc []
  | p :: t =>
    if s.credits port vc > 0 then ((s.setCredits port vc (s.credits port vc - 1)).transmit port p).sendWaiting port vc t
    else s.setWaiting port vc (p :: t)

/-- The receive buffers that a far capability word offers on a virtual channel; a Tornath word offers none on COLL (R193,
R234). -/
def farOffer (k far vc : Nat) : Nat := if k = 13 ∧ vc = 2 then 0 else 4 * bits far (31 + 8 * vc) (24 + 8 * vc)

/-- Credits come back, up to those the far end offered; packets that wait take them first (R203). -/
def State.gainCredits (s : State) (k far vc n : Nat) : State :=
  let s := s.setCredits k vc (min (farOffer k far vc) (s.credits k vc + n))
  s.sendWaiting k vc (s.waitingOn k vc)

/-- The transmit credits of a link are loaded from a far capability word, and packets that wait take them (R194 step 7, R235). -/
def State.loadCredits (s : State) (k far : Nat) : State :=
  [0, 1, 2].foldl (fun s vc => (s.setCredits k vc 0).gainCredits k far vc (farOffer k far vc)) s

/-- A link loses its transmit credits when it leaves UP. -/
def State.clearCredits (s : State) (k : Nat) : State := [0, 1, 2].foldl (fun s vc => s.setCredits k vc 0) s

/-- A link has trained: the flits it keeps are sent again after a retrain of at most 20 ms, otherwise it starts anew (R192). -/
def State.endTrained (s : State) (k : Nat) (retrained : Bool) (ms : Nat) : State :=
  if retrained && decide (ms ≤ 20) then s.replay k (s.linkEnd k).acked else s.modEnd k fun _ => linkEndInit

/-! ### Lanes (R189, R196, R233) -/

/-- The lane groups of a width code (0 x1, 1 x2, 2 x4, 3 x8) as masks, lowest-numbered first (R189, R196). -/
def laneGroups (w : Nat) : List Nat := (List.range (8 / 2 ^ w)).map fun g => (2 ^ 2 ^ w - 1) * 2 ^ (g * 2 ^ w)

/-- Has a width a group all of whose lanes are locked? -/
def widthLocked (lanes w : Nat) : Bool := (laneGroups w).any fun g => lanes &&& g == g

/-- The widest width with a locked group that a far WIDTH_MASK has too (R195, R196). -/
def commonWidth (lanes far : Nat) : Option Nat :=
  [3, 2, 1, 0].find? fun w => widthLocked lanes w && (bits far 15 12).testBit w

/-- The lowest-numbered group of a width that is locked (R196). -/
def lockedGroup (lanes w : Nat) : Nat := ((laneGroups w).find? fun g => lanes &&& g == g).getD 0

/-- WIDTH_MASK of a capability word for a set of locked lanes (R193). -/
def widthMask (lanes : Nat) : Nat := ([0, 1, 2, 3].map fun w => if widthLocked lanes w then 2 ^ w else 0).sum

/-- Set the lanes a link excludes. -/
def State.setLost (s : State) (k l : Nat) : State := { s with lnk := { s.lnk with lost := s.lnk.lost.put k l 0 } }

/-- Set the lanes a link uses. -/
def State.setGroup (s : State) (k l : Nat) : State := { s with lnk := { s.lnk with group := s.lnk.group.put k l 0 } }

/-- Note the widths whose lane groups passed lock in a link's training (R193). -/
def State.setWidths (s : State) (k lanes : Nat) : State :=
  { s with lnk := { s.lnk with widths := s.lnk.widths.put k (widthMask lanes) 0xF } }

/-- The lanes of a link that lock in a training: those that the environment finds, but for the excluded ones (R196). -/
def State.lockedLanes (s : State) (k n lanes : Nat) : Nat := lanes % 2 ^ n - (lanes &&& s.lnk.lost.getD k 0) % 2 ^ n

/-- A link comes UP after a training (R194 step 7, R196, R235): the lowest-numbered group of the common width, flits kept, transmit
credits. -/
def State.linkTrained (s : State) (k lanes : Nat) (t : Train) (retrained : Bool) : State :=
  let s := (s.setGroup k (lockedGroup lanes ((commonWidth lanes t.far).getD 0))).setLost k 0
  (s.endTrained k retrained t.ms).loadCredits k t.far

/-- The Tornath link goes to a state other than UP (R252): no packet leaves until it is UP again. -/
def State.thlLeave (s : State) (st : Nat) : State := (s.clearCredits 13).setF (.thl .statusState) 0 st

end Sys2Proof.Machine
end

