-- ==== Sys2Proof/Machine/Events.lean ====
section
/-!
DEFINITION. What every unit of the module uses to tell the world: the host event ring and the interrupts (R247, R248),
the Cask record (R404 to R412), the row-bus messages (R366 to R374) and ALERT_N (R377). A unit posts an event through
State.post, which does all three.
-/

namespace Sys2Proof.Machine

/-! ### Interrupts and the event ring -/

/-- Is the Tornath link able to carry packets (UP, or retraining within 20 ms, R251)? -/
def State.linkUp (s : State) : Bool :=
  s.isOn .iod && (s.getF (.thl .statusState) == 2 || s.getF (.thl .statusState) == 3)

/-- A packet of this module on the Tornath link (R236): DST and SRC are 0. -/
def hostPkt (typ vc tag addr aux status : Nat) (payload : List Byte) : Pkt :=
  { ver := 1, typ, dst := 0, src := 0, len := (payload.length + 63) / 64, vc, spray := false, rsv6 := 0, status, tag, gate := 0,
    inc := 0, rsv15 := 0, addr, aux, pcrc := 0,
    payload := payload ++ List.replicate ((payload.length + 63) / 64 * 64 - payload.length) 0 }

/-- CFG_RSP. -/
def cfgRsp (tag status data : Nat) : Pkt := hostPkt 0x32 1 tag 0 data status []

/-- MEM_RSP. -/
def memRsp (tag status : Nat) (data : List Byte) : Pkt := hostPkt 0x35 1 tag 0 0 status data

/-- INT of a vector. -/
def intPkt (v : Nat) : Pkt := hostPkt 0x38 0 0 0 v 0 []

/-- Hand a packet to the Tornath link; a link that is down carries none (R251). -/
def State.sendHost (s : State) (p : Pkt) : State := if s.linkUp then s.sendPkt 13 p else s

/-- Raise an interrupt vector (R247). -/
def State.raiseIrq (s : State) (v : Nat) : State :=
  if (s.getF (.thl .irqStatusPending)).testBit v then s
  else
    let s := s.setBit (.thl .irqStatusPending) 0 v
    if (s.getF (.thl .irqEnEn)).testBit v then
      if s.getF (.thl .irqModHoldoffUs) = 0 ∨ v = 3 then s.sendHost (intPkt v)
      else if s.thl.holdoff.contains v then
        { s with thl := { s.thl with irqWaiting := s.thl.irqWaiting ++ [v] } }
      else
        let s := s.sendHost (intPkt v)
        { s with thl := { s.thl with holdoff := s.thl.holdoff ++ [v] } }
    else s

/-- Write into host memory: HMEM_WR leaves and waits for its acknowledgement (R236, R240). -/
def State.hostWrite (s : State) (addr : Nat) (data : List Byte) (k : HmemKind) : State :=
  let tag := s.thl.nextTag
  let s := s.sendHost (hostPkt 0x36 0 tag addr data.length 0 data)
  { s with thl := { s.thl with nextTag := (tag + 1) % 2 ^ 32, hmem := s.thl.hmem ++ [⟨tag, k, addr⟩] } }

/-- Size of the event ring in force. -/
def State.evqSize (s : State) : Nat := 2 ^ s.getLive (.thl .evqCfgSizeLog2)

/-- Is a slot of the event ring free (R248)? -/
def State.evqSlotFree (s : State) : Bool :=
  s.linkUp && s.liveFlag (.thl .evqCfgEnable) &&
    decide ((s.getF (.thl .evqProdProd) + 2 ^ 32 - s.getF (.thl .evqConsCons)) % 2 ^ 32 < s.evqSize)

/-- Base of the event ring in force. -/
def State.evqBase (s : State) : Nat :=
  s.getLive (.thl .evqBaseLoBaseLo) * 2 ^ 12 + s.getLive (.thl .evqBaseHiBaseHi) * 2 ^ 32

/-- The 16 bytes of an event record (R248). -/
def EventRec.bytes (e : EventRec) (seq : Nat) : List Byte :=
  leBytes 4 seq ++ leBytes 1 e.source ++ leBytes 1 e.code ++ leBytes 1 1 ++ leBytes 1 e.severity ++ leBytes 8 e.data

/-- Write one event record at its slot, advance PROD and raise EVQ, and URGENT for severity 2 (R247, R248). -/
def State.writeEvent (s : State) (e : EventRec) : State :=
  let seq := s.getF (.thl .evqProdProd)
  let s := s.hostWrite (s.evqBase + 16 * (seq % s.evqSize)) (e.bytes seq) (.event (e.severity == 2))
  let s := s.addWrap (.thl .evqProdProd) 0 1
  let s := s.raiseIrq 2
  if e.severity = 2 then s.raiseIrq 3 else s

/-- Post an event for the host: written at once when no record is held before it and a slot is free, held otherwise,
and dropped and counted beyond 64 held records (R248). -/
def State.hostEvent (s : State) (e : EventRec) : State :=
  if s.thl.heldEvents.isEmpty ∧ s.thl.droppedSince = 0 ∧ s.evqSlotFree then s.writeEvent e
  else if s.thl.heldEvents.length < 64 then
    { s with thl := { s.thl with heldEvents := s.thl.heldEvents ++ [e] } }
  else
    let s := s.addSat (.thl .evqLostCount) 0 1
    { s with thl := { s.thl with droppedSince := s.thl.droppedSince + 1 } }

/-! ### Cask records -/

/-- A record as its 256 bytes (R404). -/
def CaskRec.bytes (r : CaskRec) : List Byte :=
  let flags := r.permanent.toNat + 2 * r.standby.toNat + 4 * r.powerFail.toNat + 8 * kilnIdx r.writer +
    16 * r.sealed.toNat
  let body := leBytes 4 r.seq ++ leBytes 1 1 ++ leBytes 1 flags ++ leBytes 1 r.source ++ leBytes 1 r.code ++
    leBytes 1 r.severity ++ leBytes 1 r.profile ++ leBytes 2 r.rep ++ leBytes 4 r.opHours ++
    leBytes 4 r.powerCycles ++ leBytes 4 r.cycleFirst ++ leBytes 4 r.cycleLast ++ leBytes 8 r.data ++
    leBytes 2 r.snapshot.length ++ leBytes 2 0 ++
    ((List.range 52).map fun w => leBytes 4 (r.snapshot.getD w 0)).flatten ++ leBytes 4 r.seq
  body ++ leBytes 4 (crc32c body)

/-- The sequence number after one; 0xFFFF_FFFF is never assigned (R406). -/
def nextSeq (n : Nat) : Nat := let m := (n + 1) % 2 ^ 32; if m = 0xFFFFFFFF then 0 else m

/-- The snapshot profile of an event: that of the first enabled trigger that matches, else 0 (R409). -/
def State.profileOf (s : State) (source code : Nat) : Nat :=
  match (List.range 64).find? fun t =>
      s.liveFlag (.csk .trigEnable) t && s.getLive (.csk .trigSource) t == source &&
        (s.liveFlag (.csk .trigAnyCode) t || s.getLive (.csk .trigCode) t == code) with
  | some t => s.getLive (.csk .trigProfile) t
  | none => 0

/-- In profile 4 an address of stack 0 stands for that register of the stack in DATA[4:0] (R409). -/
def profAddress (p data a : Nat) : Nat :=
  if p = 4 ∧ 0x400000 ≤ a ∧ a < 0x410000 then a + 0x10000 * (data % 32) else a

/-- The snapshot words of a profile for an event's DATA: its addresses in list order up to the first 0 or to 52 (R409). -/
def State.snapshotOf (s : State) (p data : Nat) : List Nat :=
  if p = 0 then []
  else (((List.range 52).map fun w => s.getLive (.csk .profAddr) ((p - 1) * 52 + w)).takeWhile (· ≠ 0)).map
    fun a => s.peek (profAddress p data a)

/-- Put a Kiln's buffer back. -/
def Cask.setBuf (c : Cask) (k : Kiln) (b : List CaskEntry) : Cask :=
  match k with
  | .ka => { c with bufA := b }
  | .kb => { c with bufB := b }

/-- The index of the entry a full buffer gives up: the oldest in the NOR, else the oldest of severity 0, else the oldest
(R412). -/
def caskVictim (b : List CaskEntry) : Nat :=
  match b.findIdx? (·.inNor) with
  | some i => i
  | none => (b.findIdx? fun e => e.record.severity == 0).getD 0

/-- Is a record bound for the permanent area (R411)? -/
def State.boundPerm (s : State) (r : CaskRec) : Bool := decide (1 ≤ r.severity ∧ s.cask.perm.length < 1024)

/-- Add an entry to a Kiln's buffer of 512; answers the record lost, if the displaced one had not reached the NOR and
its loss counts (R412). -/
def State.caskAdd (s : State) (k : Kiln) (e : CaskEntry) : State × Option CaskRec :=
  let b := s.cask.buf k
  if b.length < 512 then ({ s with cask := s.cask.setBuf k (b ++ [e]) }, none)
  else
    let i := caskVictim b
    let s' := { s with cask := s.cask.setBuf k (b.eraseIdx i ++ [e]) }
    match b[i]? with
    | some v =>
      if v.inNor then (s', none)
      else if s.getLive (.csk .cfgCircSectors) = 0 ∧ !s.boundPerm v.record then (s', none)
      else (s', some v.record)
    | none => (s', none)

/-- A new record of the active Kiln (R404, R406, R409). -/
def State.newRecord (s : State) (k : Kiln) (source code severity data : Nat) : CaskRec :=
  let p := s.profileOf source code
  { seq := s.getF (.csk .nextSeqSeq), permanent := false, standby := false, powerFail := false, writer := k,
    sealed := severity == 2, source, code, severity, profile := p, rep := 0, opHours := s.power.opHours,
    powerCycles := s.power.powerCycles, cycleFirst := s.getF (.kln .cycleLoCountLo) (kilnIdx k),
    cycleLast := s.getF (.kln .cycleLoCountLo) (kilnIdx k), data := data % 2 ^ 64, snapshot := s.snapshotOf p data }

/-- Create a record or fold the event into an unsealed one with the same SOURCE, CODE and DATA (R407, R408). Answers the
record lost by displacement, if any. -/
def State.caskPut (s : State) (k : Kiln) (source code severity data : Nat) : State × Option CaskRec :=
  let b := s.cask.buf k
  match b.findIdx? fun e => !e.record.sealed && e.record.source == source && e.record.code == code &&
      e.record.data == data % 2 ^ 64 with
  | some i =>
    let cyc := s.getF (.kln .cycleLoCountLo) (kilnIdx k)
    ({ s with cask := s.cask.setBuf k (listModify b i fun e =>
        { e with record := { e.record with rep := min (e.record.rep + 1) 65535, cycleLast := cyc } }) }, none)
  | none =>
    let r := s.newRecord k source code severity data
    let s := s.setF (.csk .nextSeqSeq) 0 (nextSeq r.seq)
    s.caskAdd k ⟨r, false, false⟩

/-! ### ALERT_N -/

/-- Set a cause of ALERT_N: the active Kiln sets it, and the line is driven (R377). -/
def State.alertSet (s : State) (b : Nat) : State := (s.setBit (.row .alertCause) 0 b).setF (.row .alertAsserted) 0 1

/-- Clear a cause of ALERT_N; the line is released when no cause is left (R377). -/
def State.alertClear (s : State) (b : Nat) : State :=
  let s := s.clearBit (.row .alertCause) 0 b
  s.setF (.row .alertAsserted) 0 (if s.getF (.row .alertCause) = 0 then 0 else 1)

/-! ### Row-bus messages -/

/-- A protected message: COOLANT_ALARM, or MODULE_EVENT of severity 2 (R374). -/
def RowMsg.protectedMsg (m : RowMsg) : Bool := m.mtype == 3 || (m.mtype == 5 && m.severity == 2)

/-- Queue a message at a buffer: it replaces a waiting one of the same type and CODE, or takes a place, dropping another
where R374 says so. Answers the queue and the number of messages dropped. -/
def rowEnqueue (q : List RowMsg) (m : RowMsg) : List RowMsg × Nat :=
  match q.findIdx? fun e => !e.begun && e.mtype == m.mtype && e.code == m.code with
  | some i => (listModify q i fun e => { m with late := m.late || e.late }, 0)
  | none =>
    if q.length ≤ 8 then (q ++ [m], 0)
    else
      match (q.drop 1).findIdx? fun e => !e.protectedMsg with
      | some i => (q.eraseIdx (i + 1) ++ [m], 1)
      | none =>
        if !m.protectedMsg then (q, 1)
        else if q.length ≤ 16 then (q ++ [m], 0)
        else (q.eraseIdx 1 ++ [m], 1)

/-- Put a queue of a port and buffer back. -/
def State.setRowQueue (s : State) (p b : Nat) (q : List RowMsg) : State :=
  { s with row := { s.row with queues := s.row.queues.put (3 * p + b) q [] } }

/-- Queue a message on one port, if the port is in use; one of PRIO 0 or 1 in a bus-off port holds ALERT_N (R375). -/
def State.rowQueueOn (s : State) (p b : Nat) (m : RowMsg) : State :=
  if s.liveFlag (.row .portCfgEnable) p then
    let held := decide (m.prio ≤ 1) && s.getF (.row .portStatusState) p == 4
    let (q, n) := rowEnqueue (s.rowQueue p b) { m with late := held }
    let s := (s.setRowQueue p b q).addSat (.row .portTxDropped) p n
    if held then s.alertSet 6 else s
  else s

/-- The next SEQ of a message type, taken (R368). -/
def State.takeRowSeq (s : State) (t : Nat) : Nat × State :=
  let n := s.row.txSeq.getD t 0
  (n, { s with row := { s.row with txSeq := s.row.txSeq.put t ((n + 1) % 256) 0 } })

/-- Send a message on both ports: body p is what follows VER and SEQ on port p (R367, R368). Only the Kiln that holds
ACT_OWN transmits (R17, R255). -/
def State.rowSend (s : State) (mtype prio buf code severity : Nat) (body : Nat → List Byte) : State :=
  match s.active with
  | none => s
  | some _ =>
    let (n, s) := s.takeRowSeq mtype
    let msg := fun p => RowMsg.mk mtype prio code severity n (leBytes 1 1 ++ leBytes 1 n ++ body p) false false
    (s.rowQueueOn 0 buf (msg 0)).rowQueueOn 1 buf (msg 1)

/-- STATE of R225 as a number. -/
def modStateCode : ModState → Nat
  | .starting => 0
  | .running => 1
  | .parked => 2
  | .draining => 3
  | .quiesced => 4
  | .removing => 5
  | .failed => 6

/-- KILN of R225: the active Kiln and whether the standby is healthy. -/
def State.kilnByte (s : State) : Nat :=
  match s.active with
  | none => 0
  | some k => kilnIdx k + 2 * s.getF (.kln .roleHealthy) (kilnIdx (otherKiln k))

/-- ALARMS of R225. -/
def State.alarms (s : State) : Nat :=
  (if s.flag (.cle .coolStatusLeakSuspected) || s.flag (.cle .coolStatusLeak) then 1 else 0) +
  (if s.getF (.cle .coolStatusState) ≠ 0 ∨ (s.getF (.cle .coolStatusWarn)).testBit 3 then 2 else 0) +
  4 * s.getF (.cle .coolStatusHotN) +
  (if s.getF (.drv .pumpStatusState) 0 = 4 ∨ s.getF (.drv .pumpStatusState) 1 = 4 then 8 else 0) +
  (if s.kln.standbyLost then 16 else 0) + (if s.getF (.mem .failedFailed) ≠ 0 then 32 else 0) +
  64 * s.getF (.csk .statusNorFailed)

/-- A temperature register (1/16 °C) in 0.1 °C. -/
def deciC (t : Nat) : Nat := t * 10 / 16

/-- A cap clamped between the 700 W floor and the ceiling (R171, R172). -/
def State.clampCap (s : State) (w : Nat) : Nat := min (max w 700) (s.getF (.grb .capCeilingCapW))

/-- Body of STATUS on port p (R371). -/
def State.statusBody (s : State) (p : Nat) : List Byte :=
  let flags := s.getF (.thl .statusHostSilent) +
    (if s.getF (.csk .lostCount) ≠ 0 ∨ s.flag (.csk .statusNorFailed) then 2 else 0) +
    (if s.getF (.row .portStatusState) (1 - p) = 5 then 4 else 0) + 8 * s.getF (.ptn .statusLost)
  leBytes 1 (modStateCode s.power.modState) ++ leBytes 1 s.kilnByte ++ leBytes 4 s.alarms ++
    leBytes 4 s.power.opHours ++ leBytes 4 s.power.powerCycles ++
    leBytes 2 (s.getLive (.ixf .moduleIdId) + 2 ^ 15 * s.getLive (.ixf .moduleIdValid)) ++ leBytes 1 flags ++
    leBytes 13 0

/-- Body of CAP_STATUS; reply: it answers the last RACK_CAP (R371). -/
def State.capStatusBody (s : State) (reply : Bool) : List Byte :=
  let flags := s.getF (.grb .capStatusBinding) + 8 * s.getF (.grb .capStatusRamping) +
    16 * s.getF (.grb .capStatusProtect) + 32 * s.getF (.grb .capStatusCapUnmet) +
    64 * s.getF (.grb .capRackLeaseExpired)
  leBytes 2 (s.getF (.grb .capAppliedCapW)) ++ leBytes 2 (s.getF (.grb .capTargetCapW)) ++
    leBytes 2 (s.clampCap (s.getF (.grb .capHostCapW))) ++ leBytes 2 (s.clampCap (s.getF (.grb .capRackCapW))) ++
    leBytes 2 (s.getF (.grb .capThermalCapW)) ++ leBytes 2 (s.getF (.grb .capCeilingCapW)) ++ leBytes 1 flags ++
    leBytes 1 (s.getF (.grb .capStatusDieThermal)) ++ leBytes 1 s.row.echoSeq ++ leBytes 1 reply.toNat ++ leBytes 2 0

/-- Body of COOLANT_ALARM (R371). -/
def State.alarmBody (s : State) (alarm detail : Nat) : List Byte :=
  leBytes 1 alarm ++ leBytes 1 detail ++ leBytes 2 (s.getF (.cle .flowProt)) ++
    leBytes 2 (deciC (s.getF (.cle .tInProt))) ++ leBytes 2 (s.getF (.cle .pressPrsIn)) ++
    leBytes 1 (s.getF (.cle .coolStatusState)) ++ leBytes 5 0

/-- Body of COOLANT_WARN (R371). -/
def State.warnBody (s : State) : List Byte :=
  leBytes 1 (s.getF (.cle .coolStatusWarn)) ++ leBytes 1 0 ++ leBytes 2 (s.getF (.grb .capThermalCapW)) ++
    leBytes 2 (s.getF (.cle .flowProt)) ++ leBytes 2 (deciC (s.getF (.cle .tInProt))) ++
    leBytes 2 (deciC (s.getF (.cle .tOutProt))) ++ leBytes 2 (s.getF (.cle .pressPrsIn)) ++
    leBytes 2 (s.getF (.cle .pressPrsOut)) ++ leBytes 2 (deciC (s.getF (.cle .humDew))) ++
    leBytes 1 (s.getF (.cle .humRh)) ++ leBytes 5 0

/-- Send STATUS on both ports. -/
def State.sendStatus (s : State) : State := s.rowSend 1 5 2 0 0 s.statusBody

/-- Send CAP_STATUS on both ports. -/
def State.sendCapStatus (s : State) (reply : Bool) : State := s.rowSend 2 2 1 0 0 fun _ => s.capStatusBody reply

/-- Send COOLANT_ALARM on both ports. -/
def State.sendAlarm (s : State) (alarm detail : Nat) : State :=
  s.rowSend 3 0 0 0 0 fun _ => s.alarmBody alarm detail

/-- Send COOLANT_WARN on both ports. -/
def State.sendWarn (s : State) : State := s.rowSend 4 4 1 0 0 fun _ => s.warnBody

/-- The MODULE_EVENT message and its buffer (R367, R371). -/
def State.sendModuleEvent (s : State) (code severity data : Nat) : State :=
  if severity = 2 then
    s.rowSend 5 1 0 code severity fun _ => leBytes 1 code ++ leBytes 1 severity ++ leBytes 8 data
  else
    s.rowSend 5 3 1 code severity fun _ => leBytes 1 code ++ leBytes 1 severity ++ leBytes 8 data

/-- Queue a MODULE_EVENT on one port only (R372 BUS_UP, R373 ID_CLASH). -/
def State.moduleEventOn (s : State) (p code severity data : Nat) : State :=
  match s.active with
  | none => s
  | some _ =>
    let (n, s) := s.takeRowSeq 5
    let (prio, buf) := if severity = 2 then (1, 0) else (3, 1)
    s.rowQueueOn p buf (RowMsg.mk 5 prio code severity n
      (leBytes 1 1 ++ leBytes 1 n ++ leBytes 1 code ++ leBytes 1 severity ++ leBytes 8 data) false false)

/-! ### Posting an event -/

/-- The LOG_LOST of R412: counted for every loss, raised for the first of an episode; not once the NOR has failed (R420). -/
def State.logLoss (s : State) (k : Kiln) (lost : Option CaskRec) : State :=
  match lost with
  | none => s
  | some r =>
    let s := s.addSat (.csk .lostCount) 0 1
    if s.flag (.csk .statusLosing) then s
    else
      let s := s.setF (.csk .statusLosing) 0 1
      if s.flag (.csk .statusNorFailed) then s
      else
        let (s, l2) := s.caskPut k 0x08 0x01 2 r.seq
        let s := if l2.isSome then s.addSat (.csk .lostCount) 0 1 else s
        (s.hostEvent ⟨0x08, 0x01, 2, r.seq⟩).sendModuleEvent 0x04 2 r.seq

/-- Post an event as the active Kiln: its Cask record (R407), its host event where it is delivered (R249), and the
MODULE_EVENT of the same event where R372 gives it a code (0: none). With the interlock in NONE the event is owed until
a Kiln claims ACT_OWN (R407). -/
def State.post (s : State) (source code severity data : Nat) (toHost : Bool := true) (rowCode : Nat := 0) : State :=
  match s.active with
  | none => { s with cask := { s.cask with owed := s.cask.owed ++ [⟨source, code, severity, data, toHost, rowCode⟩] } }
  | some k =>
    let (s, lost) := s.caskPut k source code severity data
    let s := s.logLoss k lost
    let s := if toHost then s.hostEvent ⟨source, code, severity, data % 2 ^ 64⟩ else s
    if rowCode = 0 then s else s.sendModuleEvent rowCode severity data

/-- Post an event of SOURCE 0x09, MOD, with the severities of R249 and the row-bus code of the same event (R372). -/
def State.postMod (s : State) (code data : Nat) : State :=
  match code with
  | 0x04 => s.post 0x09 0x04 2 data true 0x06
  | 0x05 => s.post 0x09 0x05 1 data true 0x07
  | 0x06 => s.post 0x09 0x06 2 data true 0x01
  | 0x07 => s.post 0x09 0x07 1 data true 0x02
  | 0x08 => s.post 0x09 0x08 1 data
  | c => s.post 0x09 c 0 data

/-- Set a bit of the W1C event register of a block and post the host event if its enable bit is set (R249: GRB, IXF and
PTN events); the Cask record is made in any case (R407). -/
def State.postBit (s : State) (source bit severity data : Nat) (fld en : Fld) : State :=
  let s := s.setF fld 0 1
  s.post source bit severity data ((s.getF en).testBit bit)

end Sys2Proof.Machine
end

