-- ==== Sys2Proof/Machine/CaskLog.lean ====
section
/-!
DEFINITION. The Cask event recorder beyond the making of a record: sealing, the flush into the NOR and its ring, the
failure of the NOR, the power-loss flush, reading, the CSK commit, and what a Kiln does with its buffer when it takes
ACT_OWN (R406, R408, R411 to R425).
-/

namespace Sys2Proof.Machine

/-- Sectors of the circulating area in force (R417). -/
def State.circSectors (s : State) : Nat := s.getLive (.csk .cfgCircSectors)

/-- The head of the circulating ring passes a slot; when it moves into a new sector, the sector after it is erased (R416). -/
def Cask.advance (c : Cask) (n : Nat) : Cask :=
  let head := c.circHead + 1
  if head % 256 = 0 then
    let sec := head / 256 % n
    let clr := (sec + 1) % n
    { c with circHead := 256 * sec, circ := c.circ.filter fun e => e.1 / 256 ≠ clr,
             torn := c.torn.filter fun t => t / 256 ≠ clr }
  else { c with circHead := head }

/-- Program a record at the head of the circulating ring (R416). -/
def Cask.circWrite (c : Cask) (n : Nat) (r : CaskRec) : Cask := { c with circ := c.circ.set c.circHead r }.advance n

/-- The program of a record is cut short by a loss of power: its slot is torn, and never programmed again until its sector is
erased (R415). -/
def State.tearSlot (s : State) : State :=
  let n := s.circSectors
  if n = 0 ∨ s.cask.stopped then s
  else { s with cask := { s.cask with torn := s.cask.torn ++ [s.cask.circHead] }.advance n }

/-- The area header that the Kiln reads: of the copies with a good CRC the one with the higher write count (R381, R414). -/
def Cask.goodHdr (c : Cask) : AreaHdr :=
  if c.hdrB.good ∧ (!c.hdrA.good ∨ c.hdrA.count < c.hdrB.count) then c.hdrB else c.hdrA

/-- Both copies of the area header are written. -/
def Cask.storeHdr (c : Cask) : Cask :=
  let h : AreaHdr := ⟨c.goodHdr.count + 1, true, c.hdrSectors, c.perm.length, c.retired⟩
  { c with hdrA := h, hdrB := h }

/-- The area header is read, and the other copy rewritten from it. -/
def Cask.readHdr (c : Cask) : Cask :=
  let h := c.goodHdr
  { c with hdrA := h, hdrB := h, hdrSectors := h.sectors, retired := h.retired }

/-- Write a record to the NOR: to the circulating area while that is in use, and to the permanent area when it is of
severity 1 or 2 and the area has room (R411, R417). Nothing is written while the NOR has failed (R420) or is stopped
(R418). -/
def State.norWrite (s : State) (r : CaskRec) : State :=
  if s.flag (.csk .statusNorFailed) || s.cask.stopped then s
  else
    let n := s.circSectors
    let c := if n = 0 then s.cask else s.cask.circWrite n { r with permanent := false }
    let c := if s.boundPerm r then { c with perm := c.perm ++ [{ r with permanent := true }] }.storeHdr else c
    { s with cask := { c with failRow := [] } }

/-- Mark a record of a Kiln's buffer as held by the NOR. -/
def State.markInNor (s : State) (k : Kiln) (seq : Nat) : State :=
  { s with cask := s.cask.setBuf k ((s.cask.buf k).map fun e =>
      if e.record.seq = seq then { e with inNor := true } else e) }

/-- A loss episode ends when fewer than 384 records are unwritten (R412). -/
def State.lossEnd (s : State) : State := if s.unwritten < 384 then s.setF (.csk .statusLosing) 0 0 else s

/-- Does the NOR take a record at all: with the circulating area off, only one bound for the permanent area (R417); none
once a power loss has stopped it (R418)? -/
def State.norTakes (s : State) (r : CaskRec) : Bool := !s.cask.stopped && (s.circSectors != 0 || s.boundPerm r)

/-- The record of lowest SEQ of a list. -/
def lowestRec : List CaskRec → Option CaskRec
  | [] => none
  | r :: t => match lowestRec t with
    | none => some r
    | some q => if seqBefore q.seq r.seq then some q else some r

/-- CASK_FLUSH (R410, R411): the sealed record of lowest SEQ that has left in a state frame and is not in the NOR is
written there. It waits while the ring is being erased. -/
def execCaskFlush (s : State) : Host.Outcome State Fault Refusal :=
  match s.active with
  | none => .next s
  | some k =>
    if s.flag (.csk .commitStatusBusy) || s.flag (.csk .statusNorFailed) then .next s
    else
      match lowestRec (((s.cask.buf k).filter fun e =>
          e.record.sealed && e.framed && !e.inNor && s.norTakes e.record).map (·.record)) with
      | none => .next s
      | some r => .next (((s.norWrite r).markInNor k r.seq).lossEnd.served
          (if decide (r.severity < 2) && decide (s.unwritten < 384) then 0 else 4))

/-- RECORD_SEAL (R408): a record is sealed 10 s after its creation. -/
def execRecordSeal (seq : Nat) (s : State) : Host.Outcome State Fault Refusal :=
  match s.active with
  | none => .next s
  | some k => .next { s with cask := s.cask.setBuf k ((s.cask.buf k).map fun e =>
      if e.record.seq = seq then { e with record := { e.record with sealed := true } } else e) }

/-- CSK_MARK (R407): a MARK record with the written value; only the Kiln that holds ACT_OWN makes records, and the host
is told nothing. -/
def State.cskMark (s : State) (v : Nat) : State := s.post 0x08 0x10 0 v false

/-- CSK_MARK. -/
def execCskMark (value : Word) (s : State) : Host.Outcome State Fault Refusal :=
  .next (if s.isOn .aux then s.cskMark value.toNat else s)

/-- The lowest SEQ not in the NOR, the next one to be assigned if every record is. -/
def State.firstUnwritten (s : State) : Nat :=
  match lowestRec ((s.caskBuf.filter fun e => !e.inNor).map (·.record)) with
  | some r => r.seq
  | none => s.getF (.csk .nextSeqSeq)

/-- The NOR is declared failed (R420): NOR_FAILED, and LOG_LOST to the host and on the row bus with the first SEQ that
will not reach the NOR. -/
def State.norFail (s : State) : State :=
  if s.flag (.csk .statusNorFailed) then s
  else
    let q := s.firstUnwritten
    (s.setF (.csk .statusNorFailed) 0 1).post 0x08 0x01 2 q true 0x04

/-- The lowest-numbered free spare sector, 68 to 99 (R414, R419). -/
def Cask.freeSpare (c : Cask) : Option Nat :=
  (List.range 32).findSome? fun i => if c.retired.any fun e => e.2 == 68 + i then none else some (68 + i)

/-- Copy a sector to its spare: only what still reads good. bad holds the SEQs of its records that do not; they are never delivered
again, and counted (R405, R419). -/
def State.dropBad (s : State) (sector : Nat) (bad : List Nat) : State :=
  let gone := fun (e : Nat × CaskRec) => 6 + e.1 / 256 == sector && bad.contains e.2.seq
  let holes := ((s.cask.perm.zipIdx).filter fun e => 2 + e.2 / 256 == sector && bad.contains e.1.seq).map (·.2)
  let n := (s.cask.circ.filter gone).length + holes.length
  ({ s with cask := { s.cask with circ := s.cask.circ.filter fun e => !gone e, permBad := s.cask.permBad ++ holes } } :
    State).addSat (.csk .lostBad) 0 n

/-- NOR_WRITE_FAIL (R419, R420): a failed program or erase of a sector is retried once; if the retry fails too, the
sector is retired to the lowest free spare, with its good records, and SECTOR_RETIRED is written. Without a spare, or at
the third different sector in a row, the NOR has failed. -/
def execNorWriteFail (sector : Nat) (retryOk : Bool) (bad : List Nat) (s : State) : Host.Outcome State Fault Refusal :=
  .next (if !s.isOn .aux || retryOk || s.flag (.csk .statusNorFailed) then s
  else
    let row := if s.cask.failRow.contains sector then s.cask.failRow else s.cask.failRow ++ [sector]
    let s := { s with cask := { s.cask with failRow := row } }
    match s.cask.freeSpare with
    | none => s.norFail
    | some sp =>
      if row.length ≥ 3 then s.norFail
      else
        let s := { s with cask := { s.cask with retired := s.cask.retired.set sector sp }.storeHdr }
        (s.dropBad sector bad).post 0x08 0x02 1 (sector + 256 * sp))

/-- NOR_TIMEOUT (R420): no answer to the status read for 10 ms. -/
def execNorTimeout (s : State) : Host.Outcome State Fault Refusal :=
  .next (if s.isOn .aux then s.norFail else s)

/-- Is a profile address one that a CSK commit refuses (R425 PROF_ADDR)? -/
def badProfAddr (a : Nat) : Bool :=
  a % 4 != 0 || (blockOf a).isNone || a == 0xC00124 || a == 0xC80124 || decide (0x1000100 ≤ a ∧ a < 0x1000200) ||
    match regAt a with
    | some (r, _) => !r.flds.isEmpty && r.flds.all fun f => f.acc == .wo
    | none => false

/-- Two enabled trigger entries clash when they have the same SOURCE and CODE, or the same SOURCE and both ANY_CODE
(R425 TRIG_DUP). -/
def State.trigClash (s : State) (i j : Nat) : Bool :=
  let g := fun (f : CskFld) t => s.getF (.csk f) t
  g .trigEnable i == 1 && g .trigEnable j == 1 && g .trigSource i == g .trigSource j &&
    (g .trigCode i == g .trigCode j || (g .trigAnyCode i == 1 && g .trigAnyCode j == 1))

/-- The check of a CSK commit: its code (R425). -/
def State.checkCsk (s : State) : Nat :=
  let n := s.getF (.csk .cfgCircSectors)
  if (1 ≤ n ∧ n ≤ 3) ∨ n > 62 then 1
  else if (List.range 780).any fun w => s.getF (.csk .profAddr) w != 0 && badProfAddr (s.getF (.csk .profAddr) w) then 2
  else if (List.range 64).any fun i => (List.range i).any fun j => s.trigClash i j then 3
  else if s.changed (.csk .cfgCircSectors) ∧ s.flag (.csk .statusNorFailed) then 4
  else 0

/-- A CSK commit (R417, R425): a change of CIRC_SECTORS starts the erase of the ring in the background, BUSY until its
end. -/
def State.commitCsk (s : State) : State :=
  let e := s.checkCsk
  if e ≠ 0 then s.setF (.csk .commitStatusErr) 0 e
  else
    let ch := s.changed (.csk .cfgCircSectors)
    let s := s.commitF (.csk .cfgCircSectors)
    let s := s.commitRange [.csk .trigSource, .csk .trigCode, .csk .trigProfile, .csk .trigEnable, .csk .trigAnyCode] 64
    let s := (s.commitRange [.csk .profAddr] 780).setF (.csk .commitStatusErr) 0 0
    if ch then s.setF (.csk .commitStatusBusy) 0 1 else s

/-- CSK_COMMIT; a commit while BUSY is held (R475). -/
def execCskCommit (s : State) : Host.Outcome State Fault Refusal :=
  .next (if !s.isOn .aux then s
    else if s.flag (.csk .commitStatusBusy) then
      if s.heldCommits.contains 0xF then s else { s with heldCommits := s.heldCommits ++ [0xF] }
    else s.commitCsk)

/-- CASK_RING_ERASE (R417): the ring is erased, the new CIRC_SECTORS stands in the area header, AREA_RESET is written. -/
def execCaskRingErase (s : State) : Host.Outcome State Fault Refusal :=
  .next (if s.flag (.csk .commitStatusBusy) then
    let n := s.circSectors
    let s := { s with cask := { s.cask with circ := [], circHead := 0, torn := [], hdrSectors := n }.storeHdr }
    (s.setF (.csk .commitStatusBusy) 0 0).post 0x08 0x05 1 n
  else s)

/-! ### Reading -/

/-- Every copy of a record the module holds, the preferred ones first: buffer and circulating copies that are sealed,
other buffer copies, permanent copies (R421). -/
def State.caskCopies (s : State) : List CaskRec :=
  let a := s.caskBuf.map (·.record) ++ s.cask.circ.map (·.2)
  a.filter (·.sealed) ++ a.filter (fun r => !r.sealed) ++
    ((s.cask.perm.zipIdx).filter fun e => !s.cask.permBad.contains e.2).map (·.1)

/-- The record with a SEQ. -/
def State.caskFind (s : State) (seq : Nat) : Option CaskRec := s.caskCopies.find? fun r => r.seq == seq

/-- Insert a record into a list in ascending SEQ, once for each SEQ. -/
def insertRec (r : CaskRec) : List CaskRec → List CaskRec
  | [] => [r]
  | q :: t => if q.seq = r.seq then q :: t else if seqBefore r.seq q.seq then r :: q :: t else q :: insertRec r t

/-- The records held whose SEQ is at least first, in ascending SEQ, each once (R421). -/
def State.caskFrom (s : State) (first : Nat) : List CaskRec :=
  (s.caskCopies.filter fun r => r.seq == first || seqBefore first r.seq).foldl (fun l r => insertRec r l) []

/-- Load the read registers with a record (R422). -/
def State.loadRdData (s : State) (r : CaskRec) : State :=
  let b := r.bytes
  (List.range 64).foldl (fun s w => s.setF (.csk .rdDataBytes) w (leNat ((b.drop (4 * w)).take 4))) s

/-- A write of CSK_RD_SEQ (R422). -/
def State.cskRdSeq (s : State) (q : Nat) : State :=
  let s := (s.setF (.csk .rdSeqSeq) 0 q).setF (.csk .rdStatusReady) 0 0
  match s.active with
  | none => s
  | some _ =>
    match s.caskFind q with
    | some r => ((s.loadRdData r).setF (.csk .rdStatusFound) 0 1).setF (.csk .rdStatusReady) 0 1
    | none => (s.setF (.csk .rdStatusFound) 0 0).setF (.csk .rdStatusReady) 0 1

/-- CSK_RD_SEQ. -/
def execCskRdSeq (seq : Word) (s : State) : Host.Outcome State Fault Refusal :=
  .next (if s.isOn .aux then s.cskRdSeq seq.toNat else s)

/-! ### Power loss and takeover -/

/-- The flush of R418 steps 2 to 4: a POWER_FAIL record, then up to 16 unwritten records, severity 2 first, then in
ascending SEQ, all sealed and with POWER_FAIL set; then every NOR operation stops. With CIRC_SECTORS = 0 nothing is
written. -/
def State.powerFlush (s : State) : State :=
  let s : State := match s.active with
    | none => s
    | some k =>
      let q := s.firstUnwritten
      let n := s.unwritten
      let (s, lost) := s.caskPut k 0x08 0x03 2 (q + 2 ^ 32 * (n % 2 ^ 16))
      let s := (s.logLoss k lost).hostEvent ⟨0x08, 0x03, 2, q + 2 ^ 32 * (n % 2 ^ 16)⟩
      if s.circSectors = 0 then s
      else
        let un := ((s.cask.buf k).filter fun e => !e.inNor).map (·.record)
        let pf := un.filter fun r => r.source == 0x08 && r.code == 0x03
        let rest := un.filter fun r => !(r.source == 0x08 && r.code == 0x03)
        let order := (rest.filter fun r => r.severity == 2).foldl (fun l r => insertRec r l) [] ++
          (rest.filter fun r => r.severity != 2).foldl (fun l r => insertRec r l) []
        (pf ++ order.take 16).foldl (fun s r =>
          let r := { r with sealed := true, powerFail := true }
          let s := s.norWrite r
          { s with cask := s.cask.setBuf k ((s.cask.buf k).map fun e =>
              if e.record.seq = r.seq then ⟨r, e.framed, true⟩ else e) }) s
  { s with cask := { s.cask with stopped := true } }

/-- What a Kiln does with the log when it takes ACT_OWN: it continues 513 beyond the highest SEQ it finds and records
SEQ_SKIP (R406), and it writes the records of its buffer above the highest SEQ of the circulating area to the NOR with
STANDBY set (R413). A copy for the register path does not outlast a handover (R422). -/
def State.caskTakeover (s : State) (k : Kiln) : State :=
  let s := s.setF (.csk .rdStatusReady) 0 0
  let inCirc := seqMaxAll (s.cask.circ.map (·.2.seq)) 0
  let mine := (s.cask.buf k).map (·.record)
  let highest := seqMaxAll (s.cask.circ.map (·.2.seq) ++ s.cask.perm.map (·.seq) ++ mine.map (·.seq)) 0
  let above := (mine.filter fun r => s.cask.circ.isEmpty || seqBefore inCirc r.seq).foldl (fun l r => insertRec r l) []
  let s := above.foldl (fun s r =>
    if s.norTakes r then (s.norWrite { r with standby := true }).markInNor k r.seq else s) s
  let s := s.setF (.csk .nextSeqSeq) 0 (nextSeq ((highest + 512) % 2 ^ 32))
  let (s, lost) := s.caskPut k 0x08 0x04 0 highest
  s.logLoss k lost

/-- Create the records and events that were kept while the interlock was in NONE, and those of the drive stage (R358,
R407). -/
def State.postOwed (s : State) : State :=
  let l := s.cask.owed
  let s := { s with cask := { s.cask with owed := [] } }
  l.foldl (fun s e => s.post e.source e.code e.severity e.data e.toHost e.rowCode) s

end Sys2Proof.Machine
end

