-- ==== Sys2Proof/Machine/Float.lean ====
section
/-!
DEFINITION. The number formats and their arithmetic, exact until one explicit rounding: decoding (R37, R38), the
conversions of R51 to R54, the tensor unit's K-step (R44, R45), the FP32 operations of the vector unit (R55, R56).
-/

namespace Sys2Proof.Machine

/-- A number of a floating-point format: NaN, an infinity, or (-1)^neg × m × 2^e. -/
inductive FVal where
  | nan
  | inf (neg : Bool)
  | fin (neg : Bool) (m : Nat) (e : Int)
deriving DecidableEq, Repr

/-- The shape of a format: mantissa bits, exponent bits, bias, the code of its largest finite magnitude, the code of its
infinity if it has one, the code of its canonical NaN if it has one. -/
structure Fmt where
  mw : Nat
  ew : Nat
  bias : Nat
  maxCode : Nat
  infCode : Option Nat
  nanCode : Option Nat
deriving DecidableEq, Repr

/-- FP32. -/
def fp32 : Fmt := ⟨23, 8, 127, 0x7F7FFFFF, some 0x7F800000, some 0x7FC00000⟩
/-- BF16. -/
def bf16 : Fmt := ⟨7, 8, 127, 0x7F7F, some 0x7F80, some 0x7FC0⟩
/-- FP8 E5M2. -/
def e5m2 : Fmt := ⟨2, 5, 15, 0x7B, some 0x7C, some 0x7F⟩
/-- FP8 E4M3: the all-ones exponent holds ordinary values but for the mantissa 0b111. -/
def e4m3 : Fmt := ⟨3, 4, 7, 0x7E, none, some 0x7F⟩
/-- E2M1. -/
def e2m1 : Fmt := ⟨1, 2, 1, 0x7, none, none⟩

/-- Bits of a code. -/
def Fmt.bits (f : Fmt) : Nat := 1 + f.ew + f.mw

/-- The value of a finite magnitude code (R37). -/
def Fmt.decodeMag (f : Fmt) (neg : Bool) (c : Nat) : FVal :=
  let e := c / 2 ^ f.mw
  let m := c % 2 ^ f.mw
  if e = 0 then .fin neg m (1 - (f.bias : Int) - f.mw)
  else .fin neg (2 ^ f.mw + m) ((e : Int) - f.bias - f.mw)

/-- The value of a code (R37): infinity and NaN encodings first. -/
def Fmt.decode (f : Fmt) (c : Nat) : FVal :=
  let neg := (c / 2 ^ (f.ew + f.mw)) % 2 = 1
  let mag := c % 2 ^ (f.ew + f.mw)
  if f.infCode = some mag then .inf neg
  else if mag > f.maxCode ∧ f.nanCode.isSome then .nan
  else f.decodeMag neg mag

/-- Is an FP32 code a signalling NaN (quiet bit clear)? -/
def isSNaN (c : Nat) : Bool :=
  let mag := c % 2 ^ 31
  decide (mag > 0x7F800000) && !(c.testBit 22)

/-- Rounding modes: R51 for spills, R55 for the vector unit; sr takes a 16-bit draw (R53). -/
inductive Rounding where
  | rne | rtz | up | down | sr (draw : Nat)
deriving DecidableEq, Repr

/-- The sticky flags of CLU_FPFLAGS that an operation raises. -/
structure FpFlags where
  invalid : Bool
  overflow : Bool
  underflow : Bool
  inexact : Bool
  sat : Bool
deriving DecidableEq, Repr

/-- No flag. -/
def noFlags : FpFlags := ⟨false, false, false, false, false⟩

/-- The flags of two operations together. -/
def FpFlags.or (a b : FpFlags) : FpFlags :=
  ⟨a.invalid || b.invalid, a.overflow || b.overflow, a.underflow || b.underflow, a.inexact || b.inexact, a.sat || b.sat⟩

/-- Does a discarded part r of 2^sh raise the kept magnitude q by one unit? -/
def roundUp (mode : Rounding) (neg : Bool) (q r sh : Nat) : Bool :=
  match mode with
  | .rne => decide (2 * r > 2 ^ sh) || (decide (2 * r = 2 ^ sh) && q % 2 == 1)
  | .rtz => false
  | .up => decide (r > 0) && !neg
  | .down => decide (r > 0) && neg
  | .sr draw => decide (r * 2 ^ 16 / 2 ^ sh + draw ≥ 65536)

/-- The magnitude code of m × 2^e (m above 0) in a format, before the overflow rules: the code, whether it is inexact,
and whether the value is tiny. -/
def Fmt.roundMag (f : Fmt) (mode : Rounding) (neg : Bool) (m : Nat) (e : Int) : Nat × Bool × Bool :=
  let top : Int := (m.log2 : Int) + e
  let emin : Int := 1 - (f.bias : Int)
  let lsb : Int := max (top - f.mw) (emin - f.mw)
  let base := (lsb + f.mw + f.bias - 1).toNat * 2 ^ f.mw
  if lsb ≤ e then (base + m * 2 ^ (e - lsb).toNat, false, decide (top < emin))
  else
    let sh := (lsb - e).toNat
    let q := m / 2 ^ sh
    let r := m % 2 ^ sh
    (base + q + (roundUp mode neg q r sh).toNat, decide (r ≠ 0), decide (top < emin))

/-- The sign bit of a code. -/
def Fmt.signBit (f : Fmt) (neg : Bool) : Nat := if neg then 2 ^ (f.ew + f.mw) else 0

/-- Is the magnitude m × 2^e above the largest finite one of a format? -/
def Fmt.beyond (f : Fmt) (m : Nat) (e : Int) : Bool :=
  match f.decodeMag false f.maxCode with
  | .fin _ m2 e2 => let e' := min e e2; decide (m * 2 ^ (e - e').toNat > m2 * 2 ^ (e2 - e').toNat)
  | _ => false

/-- Convert a value to a format with the overflow, infinity and NaN rules of R51: sat is S_SAT. A format without NaN
gives code 0 and INVALID; one without infinity saturates. In E2M1, which has neither, every finite value beyond the largest
saturates, even one that rounds to it. -/
def Fmt.convert (f : Fmt) (mode : Rounding) (sat : Bool) (v : FVal) : Nat × FpFlags :=
  match v with
  | .nan => match f.nanCode with
    | some c => (c, noFlags)
    | none => (0, { noFlags with invalid := true })
  | .inf neg => match f.infCode with
    | some c => (f.signBit neg + c, noFlags)
    | none => (f.signBit neg + f.maxCode, { noFlags with sat := true })
  | .fin neg m e =>
    if m = 0 then (f.signBit neg, noFlags)
    else
      let (c, inexact, tiny) := f.roundMag mode neg m e
      if c > f.maxCode then
        match sat, f.infCode with
        | false, some i => (f.signBit neg + i, { noFlags with overflow := true, inexact := true })
        | _, _ => (f.signBit neg + f.maxCode, { noFlags with sat := true, inexact := true })
      else (f.signBit neg + c, { noFlags with
        inexact := inexact, underflow := inexact && tiny, sat := f.nanCode.isNone && f.beyond m e })

/-- Round a value to FP32 as IEEE 754 does for arithmetic: the directed modes overflow to the largest finite value
where IEEE 754 says so; every NaN is the canonical one (R56). -/
def toFp32 (mode : Rounding) (v : FVal) : Nat × FpFlags :=
  match v with
  | .fin neg m e =>
    if m = 0 then (fp32.signBit neg, noFlags)
    else
      let (c, inexact, tiny) := fp32.roundMag mode neg m e
      if c > fp32.maxCode then
        let toMax : Bool := match mode with
          | .rtz => true
          | .up => neg
          | .down => !neg
          | _ => false
        (fp32.signBit neg + (if toMax then fp32.maxCode else 0x7F800000),
          { noFlags with overflow := true, inexact := true })
      else (fp32.signBit neg + c, { noFlags with inexact := inexact, underflow := inexact && tiny })
  | v => fp32.convert mode false v

/-! ### Exact operations -/

/-- The signed mantissa of a finite value at exponent e' (at most e). -/
def mantAt (neg : Bool) (m : Nat) (e e' : Int) : Int :=
  let a : Int := (m * 2 ^ (e - e').toNat : Nat)
  if neg then -a else a

/-- Exact sum of two finite values; down: the sign of an exact zero sum of opposite signs is negative. -/
def addFin (n1 : Bool) (m1 : Nat) (e1 : Int) (n2 : Bool) (m2 : Nat) (e2 : Int) (down : Bool) : FVal :=
  let e := min e1 e2
  let t := mantAt n1 m1 e1 e + mantAt n2 m2 e2 e
  if t = 0 then
    let neg := if m1 = 0 ∧ m2 = 0 then (if n1 = n2 then n1 else down) else down
    .fin neg 0 e
  else .fin (decide (t < 0)) t.natAbs e

/-- Exact sum; a sum of opposite infinities is NaN. -/
def fadd (a b : FVal) (down : Bool := false) : FVal :=
  match a, b with
  | .nan, _ => .nan
  | _, .nan => .nan
  | .inf s, .inf t => if s = t then .inf s else .nan
  | .inf s, _ => .inf s
  | _, .inf t => .inf t
  | .fin n1 m1 e1, .fin n2 m2 e2 => addFin n1 m1 e1 n2 m2 e2 down

/-- Is a value zero? -/
def FVal.isZero : FVal → Bool
  | .fin _ m _ => m == 0
  | _ => false

/-- The sign of a value. -/
def FVal.neg? : FVal → Bool
  | .nan => false
  | .inf s => s
  | .fin s _ _ => s

/-- Exact product; an infinity times zero is NaN. -/
def fmul (a b : FVal) : FVal :=
  match a, b with
  | .nan, _ => .nan
  | _, .nan => .nan
  | .fin n1 m1 e1, .fin n2 m2 e2 => .fin (n1 != n2) (m1 * m2) (e1 + e2)
  | x, y => if x.isZero || y.isZero then .nan else .inf (x.neg? != y.neg?)

/-- Negation. -/
def fneg : FVal → FVal
  | .nan => .nan
  | .inf s => .inf !s
  | .fin s m e => .fin (!s) m e

/-- Order of two values neither of which is NaN: a < b, with -0 equal to +0. -/
def flt (a b : FVal) : Bool :=
  match a, b with
  | .inf s, .inf t => s && !t
  | .inf s, .fin _ _ _ => s
  | .fin _ _ _, .inf t => !t
  | .fin n1 m1 e1, .fin n2 m2 e2 =>
    let e := min e1 e2
    decide (mantAt n1 m1 e1 e < mantAt n2 m2 e2 e)
  | _, _ => false

/-- Is a value NaN? -/
def FVal.isNan : FVal → Bool
  | .nan => true
  | _ => false

/-! ### The tensor unit -/

/-- The exact sum of the products of one K-step (R44, R45). DESIGN CHOICE (log entry 156): the sum starts from +0, so a sum
whose products are all -0 is +0. -/
def kstepSum (a b : List FVal) : FVal := (List.zipWith fmul a b).foldl (fun x y => fadd x y) (.fin false 0 0)

/-- One K-step on an accumulator cell: the sum, multiplied by the product of the block scales, is added with one rounding
to nearest even; no flag is set (R44, R45, R56). -/
def kstep (acc : Nat) (scale : FVal) (a b : List FVal) : Nat :=
  (toFp32 .rne (fadd (fp32.decode acc) (fmul scale (kstepSum a b)))).1

/-- All K-steps of a cell in ascending K: step width n, scales one for each step. -/
def ksteps : Nat → Nat → Nat → List FVal → List FVal → List FVal → Nat
  | 0, _, acc, _, _, _ => acc
  | k + 1, n, acc, sc, a, b =>
    ksteps k n (kstep acc (sc.headD (.fin false 1 0)) (a.take n) (b.take n)) (sc.drop 1) (a.drop n) (b.drop n)

/-! ### FP4-block quantisation (R52, R53) -/

/-- Is |a| above |b|, for finite values? -/
def magGt (a b : FVal) : Bool :=
  match a, b with
  | .fin _ m1 e1, .fin _ m2 e2 => let e := min e1 e2; decide (mantAt false m1 e1 e > mantAt false m2 e2 e)
  | _, _ => false

/-- The value of largest magnitude. -/
def maxMag (l : List FVal) : FVal := l.foldl (fun x y => if magGt y x then y else x) (.fin false 0 0)

/-- The smallest E4M3 code from 1 up whose value s has 6 × s ≥ a, 448 if none has. -/
def scaleCode (a : FVal) : Nat :=
  match (List.range 0x7E).find? fun c => !magGt a (fmul (.fin false 3 1) (e4m3.decodeMag false (c + 1))) with
  | some c => c + 1
  | none => 0x7E

/-- Comparison of n × 2^e with t × d × 2^f for integers, exact: the rounding of a quotient to the E2M1 grid needs only
the magnitude quotient at the grid's points. The element code of |v| / s in mode; draw is used in SR mode. -/
def quotCode (mode : Rounding) (neg : Bool) (vm : Nat) (ve : Int) (sm : Nat) (se : Int) : Nat × Bool :=
  -- |v| / s = (vm / sm) × 2^(ve - se); work in units of 2^-24 with the remainder kept as a sticky bit.
  let sh := ve - se + 24
  let num := if sh ≥ 0 then vm * 2 ^ sh.toNat else vm
  let den := if sh ≥ 0 then sm else sm * 2 ^ (-sh).toNat
  let q := num / den
  let sticky := num % den ≠ 0
  let m := 2 * q + (if sticky then 1 else 0)
  if m = 0 then (0, false)
  else
    let (c, inexact, _) := e2m1.roundMag mode neg m (-25)
    (min c 7, inexact || decide (c > 7))

/-- The quantisation rule of R52 on 16 values: scale code, element codes, whether an element saturated or was inexact.
In SR mode the draws are given, one for each element (R53). DESIGN CHOICE (log entry 157): of the flags it raises INEXACT and
SAT alone, neither UNDERFLOW nor, for a block with a NaN, INVALID. -/
def quantiseBlock (v : List FVal) (mode : Nat → Rounding) : Nat × List Nat × FpFlags :=
  if v.any fun x => match x with
    | .fin _ _ _ => false
    | _ => true then (0x7F, v.map fun _ => 0, noFlags)
  else
    let a := maxMag v
    if a.isZero then (0, v.map fun x => if x.neg? then 8 else 0, noFlags)
    else
      let sc := scaleCode a
      match e4m3.decodeMag false sc with
      | .fin _ sm se =>
        let big := magGt a (fmul (.fin false 3 1) (e4m3.decodeMag false sc))
        let el := v.mapIdx fun i x =>
          match x with
          | .fin neg m e => let (c, ix) := quotCode (mode i) neg m e sm se; ((if neg then 8 else 0) + c, ix)
          | _ => (0, false)
        (sc, el.map (·.1), { noFlags with inexact := el.any (·.2), sat := big })
      | _ => (0x7F, v.map fun _ => 0, noFlags)

/-- One draw of the 64-bit xorshift generator (R54): the new state and the 16-bit draw. -/
def srDraw (g : Nat) : Nat × Nat :=
  let g := g ^^^ (g * 2 ^ 13 % 2 ^ 64)
  let g := g ^^^ (g / 2 ^ 7)
  let g := g ^^^ (g * 2 ^ 17 % 2 ^ 64)
  (g, g / 2 ^ 48)

/-- n draws in order. -/
def srDraws : Nat → Nat → List Nat × Nat
  | 0, g => ([], g)
  | n + 1, g => let (g, d) := srDraw g; let (l, g) := srDraws n g; (d :: l, g)

/-- The state a seed loads: zero is replaced (R54). -/
def srSeed (n : Nat) : Nat := if n = 0 then 0x9E3779B97F4A7C15 else n

/-! ### The vector unit's lane operations (R55, R56) -/

/-- INVALID of a list of operand codes: a signalling NaN among them. -/
def snanFlag (l : List Nat) : FpFlags := { noFlags with invalid := l.any isSNaN }

/-- Finish an arithmetic lane: round, and flag INVALID when a NaN arises from operands none of which is NaN. -/
def finishLane (mode : Rounding) (ops : List Nat) (v : FVal) : Nat × FpFlags :=
  let (c, f) := toFp32 mode v
  let arose := v.isNan && !(ops.any fun o => (fp32.decode o).isNan)
  (c, (f.or (snanFlag ops)).or { noFlags with invalid := arose })

/-- Does a mode round toward minus infinity (the sign of an exact zero sum)? -/
def Rounding.isDown : Rounding → Bool
  | .down => true
  | _ => false

/-- Fused multiply-add, one rounding. -/
def laneFma (mode : Rounding) (a b c : Nat) : Nat × FpFlags :=
  finishLane mode [a, b, c] (fadd (fmul (fp32.decode a) (fp32.decode b)) (fp32.decode c) mode.isDown)

/-- Sum. -/
def laneAdd (mode : Rounding) (a b : Nat) : Nat × FpFlags :=
  finishLane mode [a, b] (fadd (fp32.decode a) (fp32.decode b) mode.isDown)

/-- Difference. -/
def laneSub (mode : Rounding) (a b : Nat) : Nat × FpFlags :=
  finishLane mode [a, b] (fadd (fp32.decode a) (fneg (fp32.decode b)) mode.isDown)

/-- Product. -/
def laneMul (mode : Rounding) (a b : Nat) : Nat × FpFlags :=
  finishLane mode [a, b] (fmul (fp32.decode a) (fp32.decode b))

/-- A code with every NaN made the canonical one. -/
def canonNan (c : Nat) : Nat := if (fp32.decode c).isNan then 0x7FC00000 else c

/-- minimumNumber and maximumNumber of IEEE 754-2019: a number is preferred to a NaN, and -0 is below +0. -/
def laneMinMax (isMax : Bool) (a b : Nat) : Nat × FpFlags :=
  let x := fp32.decode a
  let y := fp32.decode b
  let f := snanFlag [a, b]
  if x.isNan then (canonNan b, f)
  else if y.isNan then (a, f)
  else
    let aLess := flt x y || (x.isZero && y.isZero && x.neg? && !y.neg?)
    (if aLess != isMax then a else b, f)

/-- Absolute value. -/
def laneAbs (a : Nat) : Nat × FpFlags :=
  (if (fp32.decode a).isNan then 0x7FC00000 else a % 2 ^ 31, snanFlag [a])

/-- Negation. -/
def laneNeg (a : Nat) : Nat × FpFlags :=
  (if (fp32.decode a).isNan then 0x7FC00000 else (a + 2 ^ 31) % 2 ^ 32, snanFlag [a])

/-- The compares: their lane mask is false for a NaN operand. -/
inductive CmpFn where
  | eq | lt | le
deriving DecidableEq, Repr

/-- One lane of a compare. DESIGN CHOICE (log entry 158): a quiet NaN raises no INVALID in any of the three compares. -/
def laneCmp (f : CmpFn) (a b : Nat) : Bool × FpFlags :=
  let x := fp32.decode a
  let y := fp32.decode b
  let r := if x.isNan || y.isNan then false
    else match f with
      | .eq => !flt x y && !flt y x
      | .lt => flt x y
      | .le => !flt y x
  (r, snanFlag [a, b])

/-- Convert a finite FP32 value to a 32-bit signed integer, rounded in the mode; none when it does not fit or is no
number (the spec states no result there). -/
def laneToInt (mode : Rounding) (a : Nat) : Option Nat × FpFlags :=
  match fp32.decode a with
  | .fin neg m e =>
    let (q, r, sh) := if e ≥ 0 then (m * 2 ^ e.toNat, 0, 0) else (m / 2 ^ (-e).toNat, m % 2 ^ (-e).toNat, (-e).toNat)
    let q := q + (if r = 0 then 0 else (roundUp mode neg q r sh).toNat)
    let z : Int := if neg then -(q : Int) else q
    let fl := { noFlags with inexact := decide (r ≠ 0) }
    if -(2 : Int) ^ 31 ≤ z ∧ z < (2 : Int) ^ 31 then (some (unsigned 32 z), fl)
    else (none, { noFlags with invalid := true })
  | _ => (none, { noFlags with invalid := true })

/-- Convert a 32-bit signed integer to FP32. -/
def laneFromInt (mode : Rounding) (a : Nat) : Nat × FpFlags :=
  let z := signed 32 a
  toFp32 mode (.fin (decide (z < 0)) z.natAbs 0)

/-- The fixed binary tree of a lane sum: pairs, then pairs of pair sums (R55). -/
def laneTree (mode : Rounding) : Nat → List Nat → Nat × FpFlags
  | 0, l => (l.headD 0, noFlags)
  | n + 1, l =>
    let h := 2 ^ n
    let (a, fa) := laneTree mode n (l.take h)
    let (b, fb) := laneTree mode n (l.drop h)
    let (c, fc) := laneAdd mode a b
    (c, (fa.or fb).or fc)

/-! ### The approximations: the grid value below the exact result, to which a free offset is added (R55, log entry 9) -/

/-- The FP32 code at or below num / den × 2^e, and whether it is exact. -/
def floorCode (num den : Nat) (e : Int) : Nat × Bool :=
  let q := num * 2 ^ 64 / den
  let sticky := num * 2 ^ 64 % den ≠ 0
  let (c, inexact, _) := fp32.roundMag .rtz false (2 * q + (if sticky then 1 else 0)) (e - 65)
  (min c 0x7F7FFFFF, !inexact && !sticky)

/-- Integer square root by bits: the largest r with r² ≤ n, among n bits of candidates. -/
def isqrtBits : Nat → Nat → Nat → Nat
  | 0, _, r => r
  | k + 1, n, r => let t := r + 2 ^ k; isqrtBits k n (if t * t ≤ n then t else r)

/-- The magnitude code at or below 1 / |x|, exactness; none for 0 and what is no number. -/
def recipFloor (x : Nat) : Option (Nat × Bool) :=
  match fp32.decode x with
  | .fin _ m e => if m = 0 then none else some (floorCode 1 m (-e))
  | _ => none

/-- The code at or below 1 / √x for x above 0, exactness. -/
def rsqrtFloor (x : Nat) : Option (Nat × Bool) :=
  match fp32.decode x with
  | .fin neg m e =>
    if m = 0 ∨ neg then none
    else
      -- 1/√(m 2^e) with e even: √(2^120 / m) × 2^(-e/2 - 60)
      let (m, e) := if e % 2 = 0 then (m, e) else (2 * m, e - 1)
      let n := 2 ^ 120 / m
      let r := isqrtBits 61 n 0
      let exact := r * r * m = 2 ^ 120
      let (c, ix, _) := fp32.roundMag .rtz false (2 * r + (if exact then 0 else 1)) (-(e / 2) - 61)
      some (c, exact && !ix)
  | _ => none

/-- log2 of y in [1, 2) scaled by 2^62, to n bits, by repeated squaring. -/
def log2Frac : Nat → Nat → Nat
  | 0, _ => 0
  | n + 1, y =>
    let y2 := y * y / 2 ^ 62
    if y2 ≥ 2 ^ 63 then 2 ^ n + log2Frac n (y2 / 2) else log2Frac n y2

/-- The value of log2 x for x above 0, to within 2^-50: a finite value. -/
def log2Near (x : Nat) : Option FVal :=
  match fp32.decode x with
  | .fin neg m e =>
    if m = 0 ∨ neg then none
    else
      let k : Int := (m.log2 : Int) + e
      let y := m * 2 ^ 62 / 2 ^ m.log2
      let z : Int := k * 2 ^ 52 + (log2Frac 52 y : Int)
      some (.fin (decide (z < 0)) z.natAbs (-52))
  | _ => none

/-- 2^f for f = n / 2^52 below 1, scaled by 2^62: each set bit i multiplies by the 2^(i+1)-th root of 2, found by
repeated square roots. -/
def exp2Frac : Nat → Nat → Nat → Nat → Nat
  | 0, _, _, acc => acc
  | k + 1, root, n, acc =>
    let root := isqrtBits 63 (root * 2 ^ 62) 0
    exp2Frac k root n (if n.testBit k then acc * root / 2 ^ 62 else acc)

/-- The value of 2^x to within 2^-45 of itself. -/
def exp2Near (x : Nat) : Option FVal :=
  match fp32.decode x with
  | .fin neg m e =>
    let z : Int := if neg then -(m : Int) else m
    -- x in units of 2^-52, truncated; far out of range it is clamped.
    let t : Int := if e + 52 ≥ 0 then z * 2 ^ (min (e + 52) 200).toNat else z / 2 ^ (-(e + 52)).toNat
    let t := max (min t (300 * 2 ^ 52)) (-(300 * 2 ^ 52))
    let k := t / 2 ^ 52
    let f := (t % 2 ^ 52).toNat
    some (.fin false (exp2Frac 52 (2 ^ 63) f (2 ^ 62)) (k - 62))
  | _ => none

end Sys2Proof.Machine
end

