-- ==== Sys2Proof/Machine/FabricOps.lean ====
section
/-!
DEFINITION. The operations of the fabric that other units use: ports and their state, routing over the planes (R205 to R208)
and the packets of this module (R195, R198, R199). Port 12 stands for the partner link.
-/

namespace Sys2Proof.Machine

/-- The module ID in force (R197). -/
def State.moduleId (s : State) : Nat := s.getLive (.ixf .moduleIdId)

/-- Is a port, or the partner link, UP? -/
def State.portUp (s : State) (k : Nat) : Bool :=
  if k = 12 then s.isOn .iod && s.getF (.ptn .statusState) == 2
  else s.isOn .iod && s.isOn (.opt k) && s.getF (.ixf .portStatusState) k == 2

/-- Is a link UP: a port, 12 the partner link, 13 the Tornath link? -/
def State.linkLive (s : State) (k : Nat) : Bool :=
  if k = 13 then s.isOn .iod && s.getF (.thl .statusState) == 2 else decide (k ≤ 12) && s.portUp k

/-- The ports that are UP. -/
def State.portsUp (s : State) : List Nat := (List.range 12).filter s.portUp

/-- The reach bits of a module (R208). -/
def State.reachBits (s : State) (x : Nat) : Nat := s.ixf.reach.getD x s.ixf.reachAll

/-- The candidate planes of a destination, in ascending order (R205). -/
def State.candidates (s : State) (x : Nat) : List Nat := s.portsUp.filter fun k => (s.reachBits x).testBit k

/-- The candidate port with the most free credits of a virtual channel, the lowest number on a tie (R205). -/
def State.sprayPort (s : State) (x vc : Nat) : Option Nat :=
  match s.candidates x with
  | [] => none
  | k :: t => some (t.foldl (fun b j => if s.credits j vc > s.credits b vc then j else b) k)

/-- The hash of R206: memory is true for memory spaces. -/
def hashKey (memory : Bool) (addr : Nat) : Nat :=
  if memory then bits addr 25 12 ^^^ bits addr 39 26 else bits addr 49 40 ^^^ bits addr 21 12

/-- The hashed plane among the candidates (R206). -/
def State.hashPort (s : State) (x : Nat) (memory : Bool) (addr : Nat) : Option Nat :=
  let up := s.candidates x
  if up.isEmpty then none else up[(hashKey memory addr ^^^ x) % up.length]?

/-- Does the partner link carry packets for a module (R220)? -/
def State.viaPartner (s : State) (x : Nat) : Bool :=
  s.portUp 12 && s.flag (.ptn .statusIdValid) && s.getF (.ptn .statusPartnerId) == x

/-- Is a module fenced here (R209)? -/
def State.fencedMod (s : State) (x : Nat) : Bool := s.ixf.fenced.contains x

/-- The port of a DMA request: the partner link for the partner, else hashed, or sprayed with SPRAY_DMA (R205, R220). -/
def State.requestPort (s : State) (x : Nat) (memory : Bool) (addr : Nat) : Option Nat :=
  if s.viaPartner x then some 12
  else if s.liveFlag (.ixf .ctrlSprayDma) then s.sprayPort x 0
  else s.hashPort x memory addr

/-- The port of a sprayed packet. -/
def State.spreadPort (s : State) (x vc : Nat) : Option Nat := if s.viaPartner x then some 12 else s.sprayPort x vc

/-- A packet of this module with the fields most types share. -/
def State.packet (s : State) (typ dst vc tag addr aux : Nat) (payload : List Byte) : Pkt :=
  { ver := 1, typ, dst, src := s.moduleId, len := (payload.length + 63) / 64, vc, spray := false, rsv6 := 0,
    status := 0, tag, gate := 0, inc := 0, rsv15 := 0, addr, aux, pcrc := 0,
    payload := payload ++ List.replicate ((payload.length + 63) / 64 * 64 - payload.length) 0 }

/-- The far capability word of a port or the partner link (R193). -/
def State.farCap (s : State) (k : Nat) : Nat :=
  if k = 12 then s.get64 (.ptn .farLoFarLo) (.ptn .farHiFarHi)
  else if k = 13 then s.get64 (.thl .farLoFarLo) (.thl .farHiFarHi)
  else s.get64 (.ixf .portFarLoFarLo) (.ixf .portFarHiFarHi) k

/-- The agreed payload of a port in bytes: the smaller MAX_PAYLOAD, of which this module's is 256 bytes (R193, R195). -/
def State.maxPayload (s : State) (k : Nat) : Nat := 64 * 2 ^ min 2 (bits (s.farCap k) 17 16)

/-- The ID of the partner, while it is known. -/
def State.partnerId (s : State) : Nat := s.getF (.ptn .statusPartnerId)

/-- Is the partner fenced by R209? -/
def State.partnerFenced (s : State) : Bool := s.flag (.ptn .statusIdValid) && s.fencedMod s.partnerId

/-- AUX of a write: the byte count of a remainder, 0 for whole units (R199). -/
def writeAux (n : Nat) : Nat := if n % 64 = 0 then 0 else n % 64

/-- AUX of a read: the length in 64-byte units, and the byte count of a remainder (R199). -/
def readAux (n : Nat) : Nat := if n % 64 = 0 then n / 64 else 1 + 2 ^ 8 * (n % 64)

/-- A new TAG. -/
def State.takeTag (s : State) : Nat × State :=
  (s.ixf.nextTag, { s with ixf := { s.ixf with nextTag := (s.ixf.nextTag + 1) % 2 ^ 32 } })

/-- Remember a request that awaits its answer. -/
def State.addReq (s : State) (r : RemReq) : State := { s with ixf := { s.ixf with reqs := s.ixf.reqs ++ [r] } }

/-- The request with a TAG. -/
def State.findReq (s : State) (tag : Nat) : Option RemReq := s.ixf.reqs.find? fun r => r.tag == tag

/-- Forget the request with a TAG. -/
def State.dropReq (s : State) (tag : Nat) : State :=
  { s with ixf := { s.ixf with reqs := s.ixf.reqs.filter fun r => r.tag ≠ tag } }

/-- An event of SOURCE 0x02 with its register bit (R226, R249). -/
def State.ixfEvent (s : State) (bit data : Nat) : State :=
  let fld : Fld := match bit with
    | 0 => .ixf .evtPortDown
    | 1 => .ixf .evtPortUp
    | 2 => .ixf .evtDestDown
    | 3 => .ixf .evtIsolated
    | 4 => .ixf .evtRefused
    | 5 => .ixf .evtDiscard
    | _ => .ixf .evtCollErr
  s.postBit 2 bit (if bit = 2 then 2 else if bit = 1 then 0 else 1) data fld (.ixf .evtEnEn)

/-- An event of SOURCE 0x03 with its register bit (R231, R249). -/
def State.ptnEvent (s : State) (bit : Nat) : State :=
  let fld : Fld := match bit with
    | 0 => .ptn .evtLinkDown
    | 1 => .ptn .evtLinkUp
    | 2 => .ptn .evtLost
    | 3 => .ptn .evtRefused
    | _ => .ptn .evtResyncDone
  s.postBit 3 bit (if bit = 2 then 2 else if bit = 1 ∨ bit = 4 then 0 else 1) (s.getF (.ptn .statusPartnerId)) fld
    (.ptn .evtEnEn)

end Sys2Proof.Machine
end

