-- ==== Sys2Proof/Machine/MemOps.lean ====
section
/-!
DEFINITION. Module memory: the decoder of R105, reads and writes of byte ranges pair by pair with their code, poison and
absence rules (R107 to R112, R477), sparing triggers (R116), mirrored writes (R123, R221, R222) and stack loss (R121).
-/

namespace Sys2Proof.Machine

/-- 48 GiB, the size of a stack. -/
def stackBytes : Nat := 48 * 2 ^ 30

/-- The active stacks: the bits of the mask in force (R105). -/
def State.activeStacks (s : State) : List Nat :=
  (List.range 20).filter fun k => (s.getLive (.mem .stackMaskMask)).testBit k

/-- The top of memory (R105). -/
def State.memTop (s : State) : Nat := stackBytes * s.activeStacks.length

/-- The active stacks of a die. -/
def State.dieStacks (s : State) (n : Nat) : List Nat := s.activeStacks.filter fun k => k / 5 == n

/-- Where a pair lies: stack, logical channel, row, bank after the hash, and pair in the page (R105). -/
structure MemPlace where
  stack : Nat
  ch : Nat
  row : Nat
  bank : Nat
  pair : Nat
deriving DecidableEq, Repr

/-- Find the die whose slice holds an address, and the offset in the slice. -/
def State.sliceOf (s : State) : List Nat → Nat → Option (Nat × Nat)
  | [], _ => none
  | n :: t, pa =>
    let size := stackBytes * (s.dieStacks n).length
    if pa < size then some (n, pa) else s.sliceOf t (pa - size)

/-- The decoder of R105; none at or above the top of memory. -/
def State.memPlace (s : State) (pa : Nat) : Option MemPlace :=
  if pa ≥ s.memTop then none
  else
    let u := pa / 128
    let place := fun (st : List Nat) (o ch q : Nat) =>
      let row := q / 256
      let bf := bits q 7 4
      let bank := if s.liveFlag (.mem .ilCfgHash) then bf ^^^ (row % 16) else bf
      (st[o]?).map fun k => MemPlace.mk k ch row bank (q % 16)
    match s.getLive (.mem .ilCfgMode) with
    | 0 =>
      let w := u % 402653184
      place s.activeStacks (pa / stackBytes) (w % 128) (w / 128)
    | 1 =>
      match s.sliceOf [0, 1, 2, 3] pa with
      | none => none
      | some (n, off) =>
        let a := (s.dieStacks n).length
        let v := off / 128
        place (s.dieStacks n) (v % a) (v / a % 128) (v / a / 128)
    | _ =>
      let k := s.activeStacks.length
      place s.activeStacks (u % k) (u / k % 128) (u / k / 128)

/-- The address of a pair's place, the other way round; none in a stack that is not active (R105). -/
def State.placeAddr (s : State) (p : MemPlace) : Option Nat :=
  let bf := if s.liveFlag (.mem .ilCfgHash) then p.bank ^^^ (p.row % 16) else p.bank
  let q := p.row * 256 + bf * 16 + p.pair
  let t := q * 128 + p.ch
  let act := s.activeStacks
  match s.getLive (.mem .ilCfgMode) with
  | 0 => (act.findIdx? (· == p.stack)).map fun o => 128 * (o * 402653184 + t)
  | 1 =>
    let n := p.stack / 5
    let die := s.dieStacks n
    let base := stackBytes * (act.filter fun k => decide (k / 5 < n)).length
    (die.findIdx? (· == p.stack)).map fun o => base + 128 * (t * die.length + o)
  | _ => (act.findIdx? (· == p.stack)).map fun o => 128 * (t * act.length + o)

/-- The key of a pair's place. -/
def MemPlace.key (p : MemPlace) : Nat := p.stack * 2 ^ 29 + p.ch * 2 ^ 22 + p.row * 256 + p.bank * 16 + p.pair

/-- The channel key of a place: stack × 128 + logical channel. -/
def MemPlace.chan (p : MemPlace) : Nat := p.stack * 128 + p.ch

/-- Does a stack answer requests: its domains are on and it has not failed (R121, R477)? -/
def State.stackUp (s : State) (k : Nat) : Bool :=
  s.isOn (.core (k / 5)) && s.isOn (.mem (k / 5)) && !(s.getF (.mem .failedFailed)).testBit k

/-- What a byte of memory reads as: what was written, else the free value of its stack's epoch (log entry 8). -/
def State.memByte (s : State) (pa : Nat) : Byte :=
  match SMap.get? s.mem.cells pa with
  | some b => b
  | none =>
    let k := match s.memPlace pa with
      | some p => p.stack
      | none => 0
    Config.freeByte (s.mem.epochs.getD k 0) pa

/-- n bytes of memory from an address. -/
def State.memBytes (s : State) (pa n : Nat) : List Byte := (List.range n).map fun i => s.memByte (pa + i)

/-- Write bytes at rising addresses. -/
def storeCells : List Host.Cell → Nat → List Byte → List Host.Cell
  | m, _, [] => m
  | m, pa, b :: t => storeCells (SMap.set m pa b) (pa + 1) t

/-- Write bytes into memory with no check. -/
def State.putBytes (s : State) (pa : Nat) (data : List Byte) : State :=
  { s with mem := { s.mem with cells := storeCells s.mem.cells pa data } }

/-! ### Self-refresh and status -/

/-- STATE of a stack follows its channels while it is ACTIVE or in SELF_REFRESH (R115). -/
def State.srState (s : State) (k : Nat) : State :=
  let st := s.getF (.mem .statusState) k
  if st = 2 ∨ st = 3 then
    s.setF (.mem .statusState) k (if (s.mem.selfRefresh.filter fun c => c / 128 == k).length ≥ 128 then 3 else 2)
  else s

/-- A request makes its channel leave self-refresh (R115). -/
def State.srExit (s : State) (chan : Nat) : State :=
  if s.mem.selfRefresh.contains chan then
    let s := { s with mem := { s.mem with selfRefresh := s.mem.selfRefresh.filter fun c => c ≠ chan } }
    s.srState (chan / 128)
  else s

/-! ### Events, sparing triggers and stack loss -/

/-- An event of SOURCE 0x04 (R249). -/
def State.memEvent (s : State) (code data : Nat) : State := s.post 4 code (if code = 2 then 2 else 1) data

/-- START of MEM_SPARE_CTRL reads 1 while a copy that the host asked for waits or runs (R130). -/
def State.showStart (s : State) (k : Nat) : State :=
  let runs := match s.mem.copies.get? k with
    | some c => c.requested
    | none => false
  s.setFlag (.mem .spareCtrlStart) k (runs || (s.mem.triggers.getD k []).any (·.requested))

/-- Queue a sparing trigger of a stack: with one of the same channel it is one trigger, whose cause is 3 once the channel has
stopped answering or failed retraining (R116, R119). -/
def State.queueSpare (s : State) (k lch cause : Nat) (requested : Bool) : State :=
  let q := s.mem.triggers.getD k []
  let q := if q.any fun r => r.lch == lch then
      q.map fun r => if r.lch = lch then ⟨lch, if cause = 3 then 3 else r.cause, r.requested || requested⟩ else r
    else q ++ [⟨lch, cause, requested⟩]
  { s with mem := { s.mem with triggers := s.mem.triggers.put k q [] } }

/-- A sparing trigger of a stack (R116); one of the channel that is being copied adds to that copy. -/
def State.spareTrigger (s : State) (k lch cause : Nat) (requested : Bool) : State :=
  match s.mem.copies.get? k with
  | some c =>
    if c.lch = lch then
      { s with mem := { s.mem with copies := s.mem.copies.set k { c with requested := c.requested || requested } } }
    else s.queueSpare k lch cause requested
  | none => s.queueSpare k lch cause requested

/-- Drop the bytes of memory for which a test of the stack holds, and open a new epoch for those stacks. -/
def State.loseStacks (s : State) (gone : Nat → Bool) : State :=
  let cells := s.mem.cells.filter fun c => match s.memPlace c.1 with
    | some p => !gone p.stack
    | none => true
  let epochs := (List.range 20).foldl (fun e k => if gone k then SMap.put e k (e.getD k 0 + 1) 0 else e) s.mem.epochs
  { s with mem := { s.mem with cells, epochs, poison := s.mem.poison.filter fun p => !gone (p / 2 ^ 29) } }

/-- Undefined contents under a new mapping: every byte is forgotten (R106). -/
def State.remapMemory (s : State) : State :=
  let epochs := (List.range 20).foldl (fun e k => SMap.put e k (e.getD k 0 + 1) 0) s.mem.epochs
  { s with mem := { s.mem with cells := [], epochs } }

/-- A stack fails (R121): STATE and MEM_FAILED, its cause, its copy and triggers dropped, the record and the event. -/
def State.stackFail (s : State) (k cause : Nat) : State :=
  if (s.getF (.mem .failedFailed)).testBit k then s
  else
    let s := (s.setF (.mem .statusState) k 4).setBit (.mem .failedFailed) 0 k
    let s := (s.setF (.mem .failCauseCause) k cause).setF (.mem .statusSparing) k 0
    let s := { s with mem := { s.mem with copies := s.mem.copies.erase k, triggers := s.mem.triggers.erase k } }
    let s := s.setF (.mem .spareCtrlStart) k 0
    s.memEvent 2 (k + 2 ^ 8 * cause)

/-! ### Reading and writing pairs -/

/-- Record the pair of a failed read in MEM_UE_ADDR (R111, R112). -/
def State.ueAddr (s : State) (p : MemPlace) (pa : Nat) (poisoned : Bool) : State :=
  let s := (s.setF (.mem .ueAddrLoAddrLo) p.stack (bits pa 31 7)).setF (.mem .ueAddrHiAddrHi) p.stack (bits pa 39 32)
  (s.setF (.mem .ueAddrHiPhysCh) p.stack (s.getF (.mem .chMapPch) p.chan)).setFlag (.mem .ueAddrHiPoisoned) p.stack
    poisoned

/-- A corrected read: counted for the stack and the physical channel; the threshold triggers sparing (R110, R116). -/
def State.correctedRead (s : State) (p : MemPlace) : State :=
  let s := s.addSat (.mem .eccCeCount) p.stack 1
  let i := p.stack * 132 + s.getF (.mem .chMapPch) p.chan
  let s := s.addSat (.mem .chCeLeaky) i 1
  let th := s.getF (.mem .spareThreshThresh)
  if th ≠ 0 ∧ s.getF (.mem .chCeLeaky) i ≥ th then s.spareTrigger p.stack p.ch 2 false else s

/-- Mark a pair poisoned. -/
def State.poisonPair (s : State) (key : Nat) : State :=
  if s.mem.poison.contains key then s else { s with mem := { s.mem with poison := s.mem.poison ++ [key] } }

/-- An uncorrectable read: recorded, counted, poisoned, reported, and a trigger of sparing (R111). -/
def State.uncorrectable (s : State) (p : MemPlace) (pa : Nat) : State :=
  let s := (s.ueAddr p pa false).addSat (.mem .eccUeCount) p.stack 1
  let s := (s.poisonPair p.key).memEvent 3 (p.stack + 2 ^ 8 * p.ch + 2 ^ 24 * (pa / 128 * 128))
  s.spareTrigger p.stack p.ch 1 false

/-- The outcome of an access to memory. -/
inductive MemRes where
  | ok | range | error
deriving DecidableEq, Repr

/-- A pair taken for corrected though it was not: what is delivered and written back is a free value (R109). -/
def State.scramble (s : State) (pa : Nat) : State :=
  let (b, s) := State.freshBytes 128 s
  s.putBytes (pa / 128 * 128) b

/-- Read the pair at a place, with its address, for its data (R109 to R112, R477). -/
def State.readPlace (s : State) (p : MemPlace) (pa : Nat) (ecc : MemEcc) : State × MemRes :=
  if !s.stackUp p.stack then (s, .error)
  else
    let s := s.srExit p.chan
    if s.mem.poison.contains p.key then
      ((s.ueAddr p pa true).addSat (.mem .eccUePoisonReads) p.stack 1, .error)
    else
      match ecc with
      | .clean => (s, .ok)
      | .corrected => (s.correctedRead p, .ok)
      | .miscorrected => ((s.correctedRead p).scramble pa, .ok)
      | .ue => (s.uncorrectable p pa, .error)

/-- Read the pair at u for its data. -/
def State.readPair (s : State) (u : Nat) (ecc : MemEcc) : State × MemRes :=
  match s.memPlace (128 * u) with
  | none => (s, .range)
  | some p => s.readPlace p (128 * u) ecc

/-- What the code shows of the first pair. -/
def eccHead (l : List MemEcc) : MemEcc := l.headD .clean

/-- Read pairs in order, with what the code shows of each. The first failure is the result. -/
def State.readPairs (s : State) : List Nat → List MemEcc → State × MemRes
  | [], _ => (s, .ok)
  | u :: t, ecc =>
    match s.readPair u (eccHead ecc) with
    | (s, .ok) => s.readPairs t (ecc.drop 1)
    | r => r

/-- The pairs a range of bytes touches. -/
def pairsOf (pa n : Nat) : List Nat :=
  if n = 0 then [] else (List.range ((pa + n - 1) / 128 - pa / 128 + 1)).map fun i => pa / 128 + i

/-- Read n bytes of memory (R105 for the range check first, R477). -/
def State.memRead (s : State) (pa n : Nat) (ecc : List MemEcc) : State × MemRes × List Byte :=
  if pa + n > s.memTop then (s, .range, [])
  else
    match s.readPairs (pairsOf pa n) ecc with
    | (s, .ok) => (s, .ok, s.memBytes pa n)
    | (s, r) => (s, r, [])

/-- Write into one pair: a whole pair clears its poison, a partial write merges under the rules of a read (R108, R112). -/
def State.writePair (s : State) (pa : Nat) (data : List Byte) (ecc : MemEcc) : State × MemRes :=
  if data.length = 128 ∧ pa % 128 = 0 then
    match s.memPlace pa with
    | none => (s, .range)
    | some p =>
      if !s.stackUp p.stack then (s, .error)
      else
        let s := s.srExit p.chan
        let s := { s with mem := { s.mem with poison := s.mem.poison.filter fun k => k ≠ p.key } }
        (s.putBytes pa data, .ok)
  else
    match s.readPair (pa / 128) ecc with
    | (s, .ok) => (s.putBytes pa data, .ok)
    | r => r

/-- Runs of bytes written: one that follows on joins the first. -/
def addRun (pa : Nat) (data : List Byte) : List (Nat × List Byte) → List (Nat × List Byte)
  | (a, b) :: t => if pa + data.length = a then (pa, data ++ b) :: t else (pa, data) :: (a, b) :: t
  | [] => [(pa, data)]

/-- Write bytes pair by pair: fuel bounds the number of pairs. The first failure is the result; the other pairs are
written all the same, and the runs that were are answered too. -/
def State.writePairs : Nat → State → Nat → List Byte → List MemEcc → State × MemRes × List (Nat × List Byte)
  | 0, s, _, _, _ => (s, .ok, [])
  | f + 1, s, pa, data, ecc =>
    if data.isEmpty then (s, .ok, [])
    else
      let n := 128 - pa % 128
      let (s, r) := s.writePair pa (data.take n) (eccHead ecc)
      let (s, r', l) := State.writePairs f s (pa + n) (data.drop n) (ecc.drop 1)
      if r = .ok then (s, r', addRun pa (data.take n) l) else (s, r, l)

/-! ### Mirrored regions -/

/-- Is mirrored region r enabled (R123)? -/
def State.mirOn (s : State) (r : Nat) : Bool :=
  s.liveFlag (.mem .mirCfgEnable) r && s.getLive (.mem .mirCfgSizeGib) r != 0

/-- First byte of region r and the byte after its last (R123). -/
def State.mirSpan (s : State) (r : Nat) : Nat × Nat :=
  (s.getLive (.mem .mirCfgBaseGib) r * 2 ^ 30,
    (s.getLive (.mem .mirCfgBaseGib) r + s.getLive (.mem .mirCfgSizeGib) r) * 2 ^ 30)

/-- The mirrored region that holds an address. -/
def State.mirRegion (s : State) (pa : Nat) : Option Nat :=
  (List.range 8).find? fun r => s.mirOn r && decide ((s.mirSpan r).1 ≤ pa) && decide (pa < (s.mirSpan r).2)

/-- The parts of a run of bytes that lie in mirrored regions: region, address, bytes. -/
def State.mirParts (s : State) (pa : Nat) (data : List Byte) : List (Nat × Nat × List Byte) :=
  (List.range 8).filterMap fun r =>
    let lo := max pa (s.mirSpan r).1
    let hi := min (pa + data.length) (s.mirSpan r).2
    if s.mirOn r && decide (lo < hi) then some (r, lo, (data.drop (lo - pa)).take (hi - lo)) else none

/-- Mark the 2 MiB blocks of n bytes at an address of region r dirty, and the region unsynchronised (R222). -/
def State.markDirty (s : State) (r pa n : Nat) : State :=
  let o := pa - (s.mirSpan r).1
  let blocks := (List.range ((o + n - 1) / 2 ^ 21 - o / 2 ^ 21 + 1)).map fun i => r * 2 ^ 15 + o / 2 ^ 21 + i
  let s := s.setF (.mem .mirCfgUnsynced) r 1
  { s with ptn := { s.ptn with dirty := s.ptn.dirty ++ blocks.filter fun b => !s.ptn.dirty.contains b } }

/-- Every block of region r is dirty (R222). -/
def State.allDirty (s : State) (r : Nat) : State :=
  let blocks := (List.range (s.getLive (.mem .mirCfgSizeGib) r * 2 ^ 9)).map fun i => r * 2 ^ 15 + i
  let s := s.setF (.mem .mirCfgUnsynced) r 1
  { s with ptn := { s.ptn with dirty := s.ptn.dirty.filter (fun b => b / 2 ^ 15 ≠ r) ++ blocks } }

/-- Does the partner link take mirror writes: it is UP, the far side mirrors and is not fenced (R123, R193, R209)? -/
def State.mirrorLink (s : State) : Bool := s.portUp 12 && (s.farCap 12).testBit 21 && !s.partnerFenced

/-- Send one mirror write packet (R199, R221); kind 4 for a mirrored write, 5 for a copy. -/
def State.sendMirror (s : State) (kind r pa : Nat) (data : List Byte) : State × Nat :=
  let (tag, s) := s.takeTag
  let there := pa - s.getLive (.mem .mirCfgBaseGib) r * 2 ^ 30 + s.getLive (.ptn .mirDstDstGib) r * 2 ^ 30
  let x := s.getF (.ptn .statusPartnerId)
  let s := s.sendPkt 12 (s.packet 0x20 x 0 tag there (writeAux data.length) data)
  (s.addReq ⟨tag, 0, x, kind, false, 12, pa, data.length⟩, tag)

/-- Length of a packet (R199): whole 64-byte units up to a port's payload, a remainder alone. -/
def pktLen (payload rem : Nat) : Nat := if rem ≥ 64 then min payload (rem / 64 * 64) else rem

/-- Cut data into mirror packets (R195, R199). -/
def State.sendMirrors : Nat → State → Nat → Nat → Nat → List Byte → State × List Nat
  | 0, s, _, _, _, _ => (s, [])
  | f + 1, s, kind, r, pa, data =>
    if data.isEmpty then (s, [])
    else
      let n := pktLen (s.maxPayload 12) data.length
      let (s, t) := s.sendMirror kind r pa (data.take n)
      let (s, ts) := State.sendMirrors f s kind r (pa + n) (data.drop n)
      (s, t :: ts)

/-- Pass the parts of a write that lie in mirrored regions on to the partner; answers the TAGs whose answers a SYNC write
awaits (R123, R222). While the link is down their blocks become dirty. -/
def State.mirrorParts (s : State) : List (Nat × Nat × List Byte) → State × List Nat
  | [] => (s, [])
  | (r, pa, data) :: t =>
    let (s, tags) := if s.mirrorLink then State.sendMirrors (data.length / 8 + 2) s 4 r pa data
      else (s.markDirty r pa data.length, [])
    let (s, tags') := s.mirrorParts t
    (s, (if s.liveFlag (.mem .mirCfgSync) r then tags else []) ++ tags')

/-- Pass the runs that a write has written on to the partner. -/
def State.mirrorPass (s : State) (runs : List (Nat × List Byte)) : State × List Nat :=
  s.mirrorParts (runs.flatMap fun x => s.mirParts x.1 x.2)

/-- Write bytes to memory as a controller does: range, pairs, then the mirror of what was written (R105, R108, R123, R477).
Answers the result and the TAGs of mirror writes to await. -/
def State.memWrite (s : State) (pa : Nat) (data : List Byte) (ecc : List MemEcc) (mirror : Bool := true) :
    State × MemRes × List Nat :=
  if pa + data.length > s.memTop then (s, .range, [])
  else
    let (s, r, runs) := State.writePairs (data.length / 128 + 2) s pa data ecc
    if mirror then
      let (s, tags) := s.mirrorPass runs
      (s, r, tags)
    else (s, r, [])

/-! ### Mill regions and expansion -/

/-- The Mill region set in force (R133). -/
def State.millSet (s : State) : List MillRgn :=
  (List.range 16).map fun r =>
    { base := s.getLive (.mil .rgnBaseLoBaseLo) r * 2 ^ 16 + s.getLive (.mil .rgnBaseHiBaseHi) r * 2 ^ 32,
      size := s.getLive (.mil .rgnSizeSize64k) r * 2 ^ 16,
      enable := s.liveFlag (.mil .rgnCfgEnable) r && (s.getF (.mil .statusActive)).testBit r,
      fp4 := s.liveFlag (.mil .rgnCfgOutFmt) r, cbE5 := s.liveFlag (.mil .rgnCfgCbFmt) r,
      scaleOfs := s.getLive (.mil .rgnCfgScaleOfs) r * 16 }

/-- The region of a set that holds an address. -/
def millFind (set : List MillRgn) (pa : Nat) : Option MillRgn :=
  set.find? fun r => r.enable && decide (r.base ≤ pa) && decide (pa < r.base + r.size)

/-- The 64 codebook indices of a CB3 group (R39). -/
def cb3Index (g : List Byte) (w : Nat) : Nat := bits (leNat (g.drop 8)) (3 * w + 2) (3 * w)

/-- The 64 codebook bytes of a group's weights (R40). -/
def cb3Fp8 (g : List Byte) : List Byte := (List.range 64).map fun w => g.getD (cb3Index g w) 0

end Sys2Proof.Machine
end

