-- ==== Sys2Proof/Machine/ClusterOps.lean ====
section
/-!
DEFINITION. The operations over a cluster: its store (R32, R34), its registers, fetching and issuing an instruction
(R57, R163), steeping and waking (R150) and its reserve (R166).
-/

namespace Sys2Proof.Machine

/-- Put a cluster back. -/
def State.setCl (s : State) (c : Nat) (k : Cluster) : State := { s with clu := s.clu.put c k clusterInit }

/-- Change a cluster. -/
def State.modCl (s : State) (c : Nat) (f : Cluster → Cluster) : State := s.setCl c (f (s.cl c))

/-- Change a die's grain state. -/
def State.modDie (s : State) (n : Nat) (f : DieGrn → DieGrn) : State :=
  { s with grn := { s.grn with dies := s.grn.dies.put n (f (s.die n)) dieGrnInit } }

/-- Change a work ring. -/
def State.modRing (s : State) (r : Nat) (f : Ring → Ring) : State :=
  { s with wiq := { s.wiq with rings := s.wiq.rings.put r (f (s.ring r)) ringInit } }

/-! ### The store -/

/-- Bytes of a cluster store (R32). -/
def storeSize : Nat := 2 ^ 22

/-- What a byte of a store reads as: what was written, else a free value (log entry 8). -/
def State.storeByte (s : State) (c a : Nat) : Byte :=
  match (s.cl c).store.get? a with
  | some b => b
  | none => if (s.cl c).storeZero then 0 else Config.freeStoreByte c (s.cl c).storeEpoch a

/-- n bytes at an address outside the store, for which the spec states nothing: free values (log entry 10). -/
def State.outsideBytes (s : State) (c a n : Nat) : List Byte :=
  (List.range n).map fun i => Config.freeStoreByte c (s.cl c).storeEpoch (a + i)

/-- n bytes of a store. -/
def State.storeBytes (s : State) (c a n : Nat) : List Byte := (List.range n).map fun i => s.storeByte c (a + i)

/-- Write bytes into a store. -/
def State.putStore (s : State) (c a : Nat) (data : List Byte) : State :=
  s.modCl c fun k => { k with store := storeCells k.store a data }

/-- A corrected error of a store is counted and its line recorded (R34). -/
def State.storeCe (s : State) (c a : Nat) : State :=
  (s.addSat (.clu .eccCeCount) c 1).setF (.clu .eccAddrAddr) c (a / 64 * 64)

/-- What a store's code shows on a read (R34): false for an uncorrectable error. -/
def State.storeEcc (s : State) (c : Nat) (ecc : StoreEcc) : State × Bool :=
  match ecc with
  | .clean => (s, true)
  | .corrected l => (l.foldl (fun s a => s.storeCe c a) s, true)
  | .ue => (s, false)

/-- Read a store for its data: none on an uncorrectable error (R34). -/
def State.storeRead (s : State) (c a n : Nat) (ecc : StoreEcc) : State × Option (List Byte) :=
  match s.storeEcc c ecc with
  | (s, true) => (s, some (s.storeBytes c a n))
  | (s, false) => (s, none)

/-- The contents of a store are lost (R478). -/
def State.loseStore (s : State) (c : Nat) : State :=
  s.modCl c fun k => { k with store := [], storeEpoch := k.storeEpoch + 1, storeZero := false }

/-! ### Registers of the sequencer -/

/-- Scalar register r of a cluster. -/
def State.sreg (s : State) (c r : Nat) : Nat := (s.cl c).sregs.getD r 0

/-- Write scalar register r, 64 bits. -/
def State.setSreg (s : State) (c r v : Nat) : State :=
  s.modCl c fun k => { k with sregs := k.sregs.put r (v % 2 ^ 64) 0 }

/-- Set the address of the next instruction. -/
def State.setPc (s : State) (c pc : Nat) : State := s.modCl c fun k => { k with pc := pc % 2 ^ 64 }

/-- Move past an instruction. -/
def State.nextPc (s : State) (c : Nat) : State := s.setPc c ((s.cl c).pc + 8)

/-! ### Fields of the instruction word -/

/-- OPCODE. -/
def opc (w : Nat) : Nat := bits w 63 56
/-- DST. -/
def dstReg (w : Nat) : Nat := bits w 55 51
/-- SRCA. -/
def srcA (w : Nat) : Nat := bits w 50 46
/-- SRCB. -/
def srcB (w : Nat) : Nat := bits w 45 41
/-- IMM as its bits. -/
def immBits (w : Nat) : Nat := bits w 40 0
/-- IMM as a signed number. -/
def immVal (w : Nat) : Int := signed 41 w

/-- SRCA + IMM, modulo 2^64. -/
def State.effAddr (s : State) (c w : Nat) : Nat := unsigned 64 ((s.sreg c (srcA w) : Int) + immVal w)

/-! ### Grains of a cluster -/

/-- The ceiling of a cluster in units of 2^-16 grain (R180). -/
def State.ceilOf (s : State) (c : Nat) : Int :=
  (256 * (s.cl c).ceil.getD (s.getLive (.grb .resCfgCeilDefault)) : Nat)

/-- Return a cluster's whole reserve, or its deficit, to its die pool (R166). -/
def State.returnReserve (s : State) (c : Nat) : State :=
  let r := (s.cl c).reserve
  (s.modDie (c / 208) fun d => { d with pool := d.pool + r }).modCl c fun k => { k with reserve := 0 }

/-- May a cluster's reserve start an instruction (R163, R167)? -/
def State.reserveOk (s : State) (c : Nat) : Bool := decide (0 < (s.cl c).reserve) && !(s.die (c / 208)).hold

/-! ### Steeping -/

/-- A cluster steeps (R150). -/
def State.steep (s : State) (c cause : Nat) (w : Wait) : State :=
  ((s.modCl c fun k => { k with wait := some w }).setF (.clu .statusSteeping) c 1).setF (.clu .statusSteepCause) c cause

/-- A cluster stops steeping. -/
def State.wake (s : State) (c : Nat) : State :=
  ((s.modCl c fun k => { k with wait := none, lent := false }).setF (.clu .statusSteeping) c 0).setF (.clu .statusSteepCause) c 0

/-- A cluster wakes and writes a result to its destination register. -/
def State.wakeWith (s : State) (c dst v : Nat) : State := (s.wake c).setSreg c dst v

/-! ### Fetching and issuing -/

/-- Does a cluster fetch: powered, not gated, faulted, halted, steeping, aborted, in a slice or stopped by HOT_N
(R62, R74, R307, R428)? -/
def State.fetching (s : State) (c : Nat) : Bool :=
  decide (c < 832) && s.isOn (.core (c / 208)) && !s.gated c && !s.flag (.clu .statusFaulted) c &&
    s.flag (.clu .statusRunning) c && !s.flag (.clu .ctrlHalt) c && (s.cl c).wait.isNone && (s.cl c).abort.isNone &&
    !(s.cl c).inSlice && !s.power.hotN

/-- Does the fetch stay in the store? -/
def State.fetchIn (s : State) (c : Nat) : Bool := decide ((s.cl c).pc + 8 ≤ storeSize)

/-- The word at the program counter: 64 bits, little-endian (R2). DESIGN CHOICE (log entry 159): after a taken branch to an
address that is no multiple of 8 these are the eight bytes there. -/
def State.fetchWord (s : State) (c : Nat) : Nat := leNat (s.storeBytes c (s.cl c).pc 8)

/-- Issue the instruction at the program counter of a cluster: without reserve the cluster steeps with cause 4 (R163);
a cluster that does not fetch, or would fetch outside its store, is left as it is. -/
def State.issue (s : State) (c : Nat) (f : State → Nat → State) : State :=
  if s.fetching c then
    if s.reserveOk c then if s.fetchIn c then f s (s.fetchWord c) else s
    else s.steep c 4 .reserve
  else s

/-! ### Gating (R478) -/

/-- The registers of one cluster fall to their reset values (R478). -/
def State.clearClu (s : State) (c : Nat) : State :=
  { s with regs := s.regs.filter fun e => !(e.1 % 8192 / 256 == 16 && e.1 / 8192 == c) }

/-- A cluster as power returns to it: everything as at power-up, vector registers and accumulators undefined anew, the
store kept or lost (R54, R478). -/
def renewCluster (k : Cluster) (keepStore : Bool) : Cluster :=
  { clusterInit with
    vEpoch := k.vEpoch + 1, acc0 := ⟨some (k.vEpoch + 1), []⟩, acc1 := ⟨some (k.vEpoch + 1), []⟩,
    store := if keepStore then k.store else [], storeEpoch := if keepStore then k.storeEpoch else k.storeEpoch + 1,
    storeZero := keepStore && k.storeZero,
    failed := k.failed, ueHour := k.ueHour, slicePassed := k.slicePassed }

/-- A cluster is gated: its reserve returns, its registers read as reset, and its store survives in retention or is lost
(R166, R478). -/
def State.closeGate (s : State) (c : Nat) (keepStore : Bool) : State :=
  let s := ((s.returnReserve c).clearClu c).modCl c fun k => renewCluster k keepStore
  s.setF (.clu .statusGated) c 1

/-! ### Background slices on clusters (R428) -/

/-- A cluster returns to service after a slice; a spare is gated again, and its store is lost (R15, R478). -/
def State.leaveSlice (s : State) (c : Nat) : State :=
  let s := s.modCl c fun k => { k with inSlice := false }
  if (s.logicalOf c).isNone then s.closeGate c false else s

/-- The slices that run on the clusters that p picks stop at once (R428). -/
def State.stopSlices (s : State) (p : Nat → Bool) : State :=
  let l := s.bst.running.filter fun x => decide (x.kind ≤ 4) && p x.unit
  let s := { s with bst := { s.bst with running := s.bst.running.filter fun x => !(decide (x.kind ≤ 4) && p x.unit) } }
  l.foldl (fun s x => s.leaveSlice x.unit) s

end Sys2Proof.Machine
end

