-- ==== Sys2Proof/Machine/GateOps.lean ====
section
/-!
DEFINITION. The operations over steep gates: identifiers (R135), signals (R139), grants (R140), barrier arrivals and flips
(R143 to R145), reset and disabling (R156), result words (R138).
-/

namespace Sys2Proof.Machine

/-- Is a GATE_ID one of R135 that names a gate? -/
def validGate (g : Nat) : Bool := decide (g < 0x4400)

/-- Is the domain that holds a gate on (R157)? -/
def State.gatePowered (s : State) (g : Nat) : Bool := if g < 0x4000 then s.isOn (.core (g / 0x1000)) else s.isOn .iod

/-- Is a gate enabled; one whose domain is off is not (R157, R442)? -/
def State.gateOn (s : State) (g : Nat) : Bool := s.gatePowered g && s.liveFlag (.stg .gateCfgEnable) g

/-- Is a gate a barrier? -/
def State.isBarrier (s : State) (g : Nat) : Bool := s.liveFlag (.stg .gateCfgKind) g

/-- Does a gate lie on another compute die than a cluster (R136)? -/
def foreignDie (c g : Nat) : Bool := decide (g < 0x4000) && g / 0x1000 != c / 208

/-- The statuses of R138. -/
inductive GateStatus where
  | ok | badId | kind | foreignDie | disabled | reset | notReady
deriving DecidableEq, Repr

/-- The code of a status. -/
def GateStatus.code : GateStatus → Nat
  | .ok => 0
  | .badId => 1
  | .kind => 2
  | .foreignDie => 3
  | .disabled => 4
  | .reset => 5
  | .notReady => 6

/-- COUNT of a gate: the count, or a barrier's A (R159). -/
def State.gateCount (s : State) (g : Nat) : Nat := s.getF (.stg .gateStateCount) g

/-- A result word of R138 for a gate as it stands. -/
def State.gateWord (s : State) (g : Nat) (epoch : Bool) (st : GateStatus) : Nat :=
  s.gateCount g + 2 ^ 10 * s.getF (.stg .gateStateOvf) g + 2 ^ 11 * epoch.toNat + 2 ^ 12 * st.code

/-- A result word that reads no gate. -/
def errWord (st : GateStatus) : Nat := 2 ^ 12 * st.code

/-- The queue of a gate. -/
def State.gateQueue (s : State) (g : Nat) : List Nat := s.gates.queues.getD g []

/-- Put a queue back. -/
def State.setQueue (s : State) (g : Nat) (q : List Nat) : State :=
  { s with gates := { s.gates with queues := s.gates.queues.put g q [] } }

/-- Set COUNT of a gate. -/
def State.setCount (s : State) (g n : Nat) : State := s.setF (.stg .gateStateCount) g n

/-- Record an error of STG_ERR with its gate and module (R158). -/
def State.gateErr (s : State) (fld : Fld) (g module : Nat) : State :=
  ((s.setF fld 0 1).setF (.stg .errIdGateId) 0 g).setF (.stg .errIdModule) 0 module

/-! ### Counting gates -/

/-- Serve the waiters of a queue from its head while the count allows (R140). -/
def State.serveList (s : State) (g : Nat) : List Nat → State
  | [] => s.setQueue g []
  | c :: t =>
    match (s.cl c).wait with
    | some (.gate _ n dst) =>
      if n ≤ s.gateCount g then
        let s := s.setCount g (s.gateCount g - n)
        (s.wakeWith c dst (s.gateWord g false .ok)).serveList g t
      else s.setQueue g (c :: t)
    | _ => s.serveList g t

/-- Serve the queue of a gate. -/
def State.serveGate (s : State) (g : Nat) : State := s.serveList g (s.gateQueue g)

/-- Add to the count, saturating at 255 with OVF (R139). -/
def State.addCount (s : State) (g inc : Nat) : State :=
  if s.gateCount g + inc > 255 then (s.setCount g 255).setF (.stg .gateStateOvf) g 1
  else s.setCount g (s.gateCount g + inc)

/-- A signal to a gate of this module: discarded and recorded for a reserved or disabled gate and for a barrier, else
added and the queue served (R138, R139). Answers the status and the count after the addition. -/
def State.gateSignal (s : State) (g inc : Nat) : State × Nat :=
  if !validGate g then (s.gateErr (.stg .errBadId) g s.moduleId, errWord .badId)
  else if !s.gateOn g then (s.gateErr (.stg .errBadId) g s.moduleId, s.gateWord g false .disabled)
  else if s.isBarrier g then (s.gateErr (.stg .errKind) g s.moduleId, s.gateWord g false .kind)
  else
    let s := s.addCount g inc
    (s.serveGate g, s.gateWord g false .ok)

/-- Signal a gate with an increment of 1 on behalf of a descriptor (R68, R85, R213). -/
def State.signalOne (s : State) (g : Nat) : State := (s.gateSignal g 1).1

/-! ### Barriers -/

/-- The open round E of a barrier. -/
def State.epoch (s : State) (g : Nat) : Bool := s.flag (.stg .gateStateEpoch) g

/-- The slot of a cluster's port for a gate. -/
def State.slotOf (s : State) (c g : Nat) : Option PortSlot := (s.cl c).slots.find? fun x => x.gate == g

/-- Put a slot back: in its place, or as a new one; a slot with nothing outstanding is freed (R143). -/
def State.setSlot (s : State) (c : Nat) (x : PortSlot) : State :=
  s.modCl c fun k =>
    let others := k.slots.filter fun y => y.gate ≠ x.gate
    { k with slots := if x.outstanding = 0 then others else others ++ [x] }

/-- Must an arrival be held: no slot is free, or two rounds are outstanding (R143)? -/
def State.mustHold (s : State) (c g : Nat) : Bool :=
  match s.slotOf c g with
  | none => decide ((s.cl c).slots.length ≥ 4)
  | some x => decide (x.outstanding ≥ 2)

/-- Count an arrival that need not be held (R143, R145): toward E or E + 1; with WAIT the cluster steeps for one flip or
two, else it has its result. -/
def State.countArrival (s : State) (c g dst : Nat) (thenWait : Bool) : State :=
  let x := (s.slotOf c g).getD ⟨g, 0, s.epoch g⟩
  let toE := x.p == s.epoch g
  let s := if toE then s.setCount g (s.gateCount g + 1) else s.addWrap (.stg .gateStateNext) g 1
  let s := s.setSlot c { x with outstanding := x.outstanding + 1, p := !x.p }
  if thenWait then s.steep c 5 (.round g dst (if toE then 1 else 2) x.p)
  else s.wakeWith c dst (s.gateWord g x.p .ok)

/-- What remains to be done at the barriers. -/
inductive BarOp where
  | arrive (c g dst : Nat) (thenWait : Bool)
  | flip (g : Nat)
deriving DecidableEq, Repr

/-- Is an operation a flip? -/
def BarOp.isFlip : BarOp → Bool
  | .arrive _ _ _ _ => false
  | .flip _ => true

/-- Has A reached P? -/
def State.roundFull (s : State) (g : Nat) : Bool := s.gateCount g == s.getLive (.stg .gateCfgParticipants) g

/-- A cluster's port sees a flip of a gate (R144): one outstanding round less, and one flip less to wait for. -/
def State.portFlip (s : State) (g c : Nat) : State :=
  match s.slotOf c g with
  | none => s
  | some x =>
    let s := s.setSlot c { x with outstanding := x.outstanding - 1 }
    match (s.cl c).wait with
    | some (.round id dst n e) =>
      if id = g then
        if n ≤ 1 then s.wakeWith c dst (s.gateWord g e .ok) else s.steep c 5 (.round id dst (n - 1) e)
      else s
    | _ => s

/-- The clusters that hold an entry which may now be counted (R143). -/
def State.heldReady (s : State) : List BarOp :=
  s.clu.filterMap fun e => match e.2.wait with
    | some (.held g dst w) => if s.mustHold e.1 g then none else some (.arrive e.1 g dst w)
    | _ => none

/-- A round closes (R144): E flips, A becomes B, every port lowers its outstanding count; carried arrivals that fill the
next round flip it again on the next NCLK cycle. -/
def State.flipGate (s : State) (g : Nat) : State :=
  let s := s.setFlag (.stg .gateStateEpoch) g (!s.epoch g)
  let s := (s.setCount g (s.getF (.stg .gateStateNext) g)).setF (.stg .gateStateNext) g 0
  let s := (s.clu.map (·.1)).foldl (fun s c => s.portFlip g c) s
  if s.roundFull g then { s with gates := { s.gates with cascade := s.gates.cascade ++ [g] } } else s

/-- Carry out barrier operations; a flip lets held entries go on. Fuel bounds them: no more than 832 entries are held. -/
def State.barrierRun : Nat → State → List BarOp → State
  | 0, s, _ => s
  | _ + 1, s, [] => s
  | f + 1, s, .arrive c g dst w :: t =>
    if s.mustHold c g then State.barrierRun f (s.steep c 5 (.held g dst w)) t
    else
      let s := s.countArrival c g dst w
      State.barrierRun f s (if s.roundFull g then .flip g :: t else t)
  | f + 1, s, .flip g :: t =>
    let s := s.flipGate g
    State.barrierRun f s (t.filter BarOp.isFlip ++ s.heldReady)

/-- One barrier operation and what follows from it. -/
def State.barrier (s : State) (op : BarOp) : State := State.barrierRun 4096 s [op]

/-! ### Reset and disabling -/

/-- A cluster that waits on a gate is woken with a status, and its port forgets the gate (R156); EPOCH is the parity of the
round that its arrival counted toward (R138), 0 for one that was held and counted toward none. -/
def State.resetPort (s : State) (g : Nat) (st : GateStatus) (c : Nat) : State :=
  let s := s.modCl c fun k => { k with slots := k.slots.filter fun x => x.gate ≠ g }
  match (s.cl c).wait with
  | some (.gate id _ dst) => if id = g then s.wakeWith c dst (s.gateWord g false st) else s
  | some (.held id dst _) => if id = g then s.wakeWith c dst (s.gateWord g false st) else s
  | some (.round id dst _ e) => if id = g then s.wakeWith c dst (s.gateWord g e st) else s
  | _ => s

/-- Clear the state of a gate and wake its waiters with RESET or DISABLED (R156). -/
def State.resetGate (s : State) (g : Nat) (st : GateStatus) : State :=
  let s := (s.setCount g 0).setF (.stg .gateStateNext) g 0
  let s := (s.setF (.stg .gateStateEpoch) g 0).setF (.stg .gateStateOvf) g 0
  let s := { s.setQueue g [] with gates := { (s.setQueue g []).gates with
    cascade := s.gates.cascade.filter fun x => x ≠ g } }
  let s := (s.clu.map (·.1)).foldl (fun s c => s.resetPort g st c) s
  State.barrierRun 4096 s s.heldReady

end Sys2Proof.Machine
end

