-- ==== Sys2Proof/Machine/StopOps.lean ====
section
/-!
DEFINITION. How a cluster's work ends: tokens returned or completed (R78, R92, R95), waits abandoned (R155), and the stop
of a program on a fault (R34, R57).
-/

namespace Sys2Proof.Machine

/-! ### Tokens going back -/

/-- Insert a sequence number in ascending order (R66). -/
def insertSeq : List Nat → Nat → List Nat
  | [], n => [n]
  | a :: t, n => if seqBefore n a then n :: a :: t else a :: insertSeq t n

/-- Return a token to its ring (R66, R92 step 5). -/
def State.returnToken (s : State) (t : Token) : State :=
  s.modRing t.ring fun r => { r with returned := insertSeq r.returned t.seq }

/-- Commit a reserved number, failed or not; one committed already stays so (R81, R90). -/
def State.commitPost (s : State) (r n : Nat) (failed : Bool) : State :=
  s.modRing r fun x => { x with posts := x.posts.map fun p => if p.seq = n ∧ !p.committed then ⟨n, true, failed⟩ else p }

/-- Post the completion of a token: its record waits until every DMA descriptor accepted by now has retired (R78). -/
def State.complete (s : State) (c : Nat) (t : Token) (status : Nat) (abort : Bool) : State :=
  let e : Completion := ⟨t.ring, t.seq, status, (s.logicalOf c).getD 0xFFFF, t.tag, t.irq, t.gate, some c,
    (s.cl c).dmaAccepted, abort⟩
  { s with wiq := { s.wiq with completions := s.wiq.completions ++ [e] } }

/-- An abort or stop ends the current token of a cluster with a status (R92, R95): its completion is posted, and its
tokens leave with the record. A cluster without a token has nothing to end. -/
def State.endCurrent (s : State) (c status : Nat) : State :=
  match (s.cl c).tokens, (s.cl c).abort with
  | t :: _, none => (s.complete c t status true).modCl c fun k => { k with abort := some status }
  | _, _ => s

/-- A cluster leaves what it waits on: gate queues forget it and serve the next waiter, its port clears its slots (R155);
the WIQ forgets its claim. -/
def State.leaveWaits (s : State) (c : Nat) : State :=
  let rings := s.wiq.rings.mapVals ringInit fun r => { r with waiters := r.waiters.filter fun x => x.cluster ≠ c }
  let s := { s with wiq := { s.wiq with rings } }
  let w := (s.cl c).wait
  let s := (s.wake c).modCl c fun k => { k with slots := [] }
  match w with
  | some (.gate g _ _) => (s.setQueue g ((s.gateQueue g).filter fun x => x ≠ c)).serveGate g
  | _ => s

/-- Why a program stops (R62 CLU_FAULT). -/
inductive CluFault where
  | tbInvalid | opInvalid | fetchRange | storeUe
deriving DecidableEq, Repr

/-- The register bit of a fault. -/
def CluFault.fld : CluFault → Fld
  | .tbInvalid => .clu .faultTbInvalid
  | .opInvalid => .clu .faultOpInvalid
  | .fetchRange => .clu .faultFetchRange
  | .storeUe => .clu .faultStoreUe

/-- A second stop on STORE_UE within one operating hour makes the cluster failed (R439). -/
def State.countUe (s : State) (c : Nat) (f : CluFault) : State :=
  if f = .storeUe then
    s.modCl c fun k => { k with failed := k.failed || k.ueHour == some s.power.opHours, ueHour := some s.power.opHours }
  else s

/-- A program stops on a fault (R34, R57): the bit, FAULTED, no more fetching, its waits abandoned (R155), its reserve
returned (R166), its tokens ended through steps 4 and 5 of R92. -/
def State.faultStop (s : State) (c : Nat) (f : CluFault) : State :=
  let s := ((s.stopSlices (· == c)).setF f.fld c 1).setF (.clu .statusFaulted) c 1
  let s := (s.setF (.clu .statusRunning) c 0).leaveWaits c
  ((s.returnReserve c).endCurrent c 2).countUe c f

/-- End a descriptor with an error: no further piece is issued, data not yet written is dropped (R88). -/
def Dma.fail (d : Dma) (st : Nat) : Dma :=
  { d with status := if d.status = 0 then st else d.status, row := d.desc.rows, off := 0, hold := [],
           pieces := d.pieces.filter fun p => p.phase ≠ 1 }

/-- Does a descriptor hold a reserved number that nothing has committed (R81)? -/
def Dma.owesPost (d : Dma) : Bool := d.desc.op == 4 && d.status == 0

/-- An abort reaches a descriptor (R92 steps 2 and 4): one with no burst issued is cancelled; of another the bursts issued
finish and no further one is issued, and the STATUS of one so cut short is st, a free value among the codes of R90 (log entry
164). -/
def Dma.abort (d : Dma) (st : Nat) : Dma :=
  if d.status ≠ 0 then d
  else if !d.issued then { d with status := 9, pieces := [], hold := [] }
  else if decide (d.desc.rows ≤ d.row) && d.pieces.all (·.phase != 1) then d
  else d.fail st

/-- The abort of a cluster (R92 steps 1 to 4): it stops fetching, leaves its waits (R155), drops tensor blocks that have not
started, and its DMA descriptors end; the numbers that a cancelled POST has reserved are committed as failed (log entry 165).
Its current token is ended with the status. -/
def State.abortCluster (s : State) (c status : Nat) : State :=
  let s := (s.leaveWaits c).endCurrent c status
  let posts := (s.cl c).dmas.filter fun d => d.owesPost && !d.issued
  let s := posts.foldl (fun s d => s.commitPost (d.desc.dstAddr % 2 ^ 9) d.postSeq true) s
  let (f, s) := s.fresh 8
  s.modCl c fun k => { k with
    tbq := k.tbq.filter (·.started), dmas := k.dmas.map fun d => d.abort (1 + f.toNat % 9) }

end Sys2Proof.Machine
end

