-- ==== Sys2Proof/Machine/WiqOps.lean ====
section
/-!
DEFINITION. The operations of the work-issue block: rings and slots (R64 to R67), descriptors (R68 to R70), handing out
tokens (R66, R71 to R74), completion records (R76 to R78), posting by clusters (R81, R90).
-/

namespace Sys2Proof.Machine

/-- Ring base in module memory (R65). -/
def State.ringBase (s : State) (r : Nat) : Nat :=
  s.getLive (.wiq .ringBaseLoBaseLo) r * 2 ^ 12 + s.getLive (.wiq .ringBaseHiBaseHi) r * 2 ^ 32

/-- A completion base from its fields: in module memory only eight bits of CQ_HI count, the rest is reserved and ignored (R8,
R99). -/
def cqBase (lo hi : Nat) (host : Bool) : Nat := lo * 2 ^ 12 + (if host then hi else hi % 2 ^ 8) * 2 ^ 32

/-- Completion base (R65). -/
def State.ringCq (s : State) (r : Nat) : Nat :=
  cqBase (s.getLive (.wiq .ringCqLoCqLo) r) (s.getLive (.wiq .ringCqHiCqHi) r) (s.liveFlag (.wiq .ringCfgCqSpace) r)

/-- Are the completion records of a ring in host memory? -/
def State.cqHost (s : State) (r : Nat) : Bool := s.liveFlag (.wiq .ringCfgCqSpace) r

/-- Address of the descriptor slot of a sequence number (R65). -/
def State.slotAddr (s : State) (r seq : Nat) : Nat := s.ringBase r + 64 * (seq % s.ringSize r)

/-- Is a ring enabled and not being cancelled? -/
def State.ringServes (s : State) (r : Nat) : Bool :=
  s.flag (.wiq .ringCtrlEnable) r && !s.flag (.wiq .ringCtrlCancel) r && !s.flag (.wiq .ctrlClaimStop)

/-- A work descriptor as the WIQ reads it (R68). -/
structure WorkDesc where
  irq : Bool
  gate : Option Nat
  timeout : Nat
  length : Nat
  tag : Nat
deriving DecidableEq, Repr

/-- The fields of a descriptor. -/
def readDesc (b : List Byte) : WorkDesc :=
  let x := leNat b
  { irq := x.testBit 8, gate := if x.testBit 9 then some (bits x 143 128) else none, timeout := bits x 31 16,
    length := bits x 63 32, tag := bits x 127 64 }

/-- The check of R69: VER, TIMEOUT and the reserved fields. -/
def descOk (b : List Byte) : Bool :=
  let x := leNat b
  bits x 7 0 == 1 && bits x 31 16 != 0xFFFF && bits x 15 10 == 0 && bits x 191 144 == 0

/-- The timeout of a descriptor in ms (R68, R99). -/
def State.descTimeout (s : State) (r t : Nat) : Nat :=
  let dflt := s.getLive (.wiq .ringTimeoutDescMs) r
  if t = 0 then (if dflt < 10 then 10 else if dflt = 0xFFFF then 65534 else dflt) else max t 10

/-- A condition bit of WIQ_RING_STATUS sets the ring's bit in WIQ_RING_EVT and raises the event (R98, R249). -/
def State.ringEvent (s : State) (r : Nat) : State :=
  let s := s.setBit (.wiq .ringEvtEvt) (r / 32) (r % 32)
  s.post 5 1 1 (r + 2 ^ 16 * (s.peek (0x301034 + r * 0x40) % 2 ^ 16))

/-! ### Completion records -/

/-- The earliest sequence number without a record moves past those that have one (R99 OLDEST). -/
def advanceDone : Nat → Nat → List Nat → Nat × List Nat
  | 0, n, l => (n, l)
  | f + 1, n, l => if l.contains n then advanceDone f ((n + 1) % 2 ^ 32) (l.filter (· ≠ n)) else (n, l)

/-- Count a record as written: DONE and OLDEST (R99, R240). -/
def State.markDone (s : State) (r seq : Nat) : State :=
  let s := s.addWrap (.wiq .ringDoneDone) r 1
  let l := (s.ring r).done ++ [seq]
  let (o, l) := advanceDone (l.length + 1) (s.getF (.wiq .ringOldestOldest) r) l
  (s.setF (.wiq .ringOldestOldest) r o).modRing r fun x => { x with done := l }

/-- The 16 bytes of a completion record (R76). -/
def recordBytes (seq status cluster tag : Nat) : List Byte :=
  leBytes 4 seq ++ leBytes 1 status ++ leBytes 1 1 ++ leBytes 2 cluster ++ leBytes 8 tag

/-- Write a completion record into its slot; the interrupt and the gate signal follow (R76, R78, R247). -/
def State.writeRecord (s : State) (r seq status cluster tag : Nat) (irq : Bool) (gate : Option Nat) : State :=
  let a := s.ringCq r + 16 * (seq % s.ringSize r)
  let b := recordBytes seq status cluster tag
  let s := if s.cqHost r then s.hostWrite a b (.completion r irq) else (s.memWrite a b []).1
  let s := s.markDone r seq
  let s := if irq then (s.setBit (.thl .wiqPendPend) (r / 32) (r % 32)).raiseIrq 1 else s
  match gate with
  | some g => s.signalOne g
  | none => s

/-- A record for a slot that could not be read: its TAG is a free value, IRQ and GATE are not acted on (R69). -/
def State.writeErrorRecord (s : State) (r seq : Nat) : State :=
  let (tag, s) := s.fresh 64
  s.writeRecord r seq 5 0xFFFF tag.toNat false none

/-- A record of a descriptor that no cluster held, read from its slot: IRQ and GATE of a malformed one are not acted on
(R8, R69, R95). -/
def State.writeUnheld (s : State) (r seq status : Nat) : State :=
  let p := s.memRead (s.slotAddr r seq) 64 []
  if p.2.1 = .ok then
    let d := readDesc p.2.2
    p.1.writeRecord r seq status 0xFFFF d.tag (d.irq && descOk p.2.2) (if descOk p.2.2 then d.gate else none)
  else
    let tag := p.1.fresh 64
    tag.2.writeRecord r seq status 0xFFFF tag.1.toNat false none

/-! ### Handing out -/

/-- Move past the sequence number next to hand out (R66). -/
def State.passNext (s : State) (r : Nat) : State :=
  if (s.ring r).returned.isEmpty then
    let n := s.getF (.wiq .ringClaimClaim) r
    (s.addWrap (.wiq .ringClaimClaim) r 1).modRing r fun x => { x with skips := x.skips.filter (· ≠ n) }
  else s.modRing r fun x => { x with returned := x.returned.drop 1 }

/-- A descriptor handed out: its sequence number, its bytes. -/
structure Handed where
  seq : Nat
  data : List Byte
deriving DecidableEq, Repr

/-- The next sequence number of a ring, if it needs no read: one that has its record is passed over, one whose slot write failed
has its MEM_ERROR record (R90). -/
def State.passUnread (s : State) (r n : Nat) : Option State :=
  if !(s.ring r).returned.isEmpty then none
  else if (s.ring r).skips.contains n then some (s.passNext r)
  else if (s.ring r).failed.contains n then
    some (((s.passNext r).modRing r fun x => { x with failed := x.failed.filter (· ≠ n) }).writeErrorRecord r n)
  else none

/-- Find the next descriptor to hand out on a ring; those that are unreadable, malformed or empty complete on the way
(R66, R69, R70). Fuel bounds the slots looked at; ecc says what the code shows of each slot read. -/
def State.handOut : Nat → State → Nat → List MemEcc → State × Option Handed
  | 0, s, _, _ => (s, none)
  | f + 1, s, r, ecc =>
    let n := s.nextClaim r
    if !s.posted r n || !s.slotFree r n then (s, none)
    else
      match s.passUnread r n with
      | some s => State.handOut f s r ecc
      | none =>
        let p := s.memRead (s.slotAddr r n) 64 ecc
        let d := readDesc p.2.2
        if p.2.1 ≠ .ok then State.handOut f ((p.1.passNext r).writeErrorRecord r n) r (ecc.drop 1)
        else if !descOk p.2.2 then
          State.handOut f ((p.1.passNext r).writeRecord r n 8 0xFFFF d.tag false none) r (ecc.drop 1)
        else if d.length = 0 then
          State.handOut f ((p.1.passNext r).writeRecord r n 1 0xFFFF d.tag d.irq d.gate) r (ecc.drop 1)
        else (p.1.passNext r, some ⟨n, p.2.2⟩)

/-- Hand out with fuel for every slot of the ring. -/
def State.nextDescriptor (s : State) (r : Nat) (ecc : List MemEcc) : State × Option Handed :=
  State.handOut (s.ringSize r + 1) s r ecc

/-- The token word of a delivered descriptor (R72). -/
def tokenWord (r seq : Nat) : Nat := seq + 2 ^ 32 * r

/-- Deliver a descriptor to a cluster: its landing slot, its token list, its destination register (R71, R74). -/
def State.deliver (s : State) (c r dst landing : Nat) (h : Handed) : State :=
  let d := readDesc h.data
  let t : Token := ⟨r, h.seq, d.tag, d.irq, d.gate, s.descTimeout r d.timeout⟩
  let s := (s.putStore c landing h.data).modCl c fun k => { k with tokens := k.tokens ++ [t] }
  s.wakeWith c dst (tokenWord r h.seq)

/-- A claim that delivers nothing: EMPTY with LIMIT and DENIED as they apply; SEQ and the landing slot are undefined, so
they take free values (R72; log entry 3). -/
def State.claimEmpty (s : State) (c r dst landing : Nat) (limit denied : Bool) : State :=
  let (q, s) := s.fresh 32
  let (b, s) := State.freshBytes 64 s
  (s.putStore c landing b).wakeWith c dst
    (q.toNat + 2 ^ 32 * r + 2 ^ 60 * limit.toNat + 2 ^ 61 * denied.toNat + 2 ^ 63)

/-- Is a claim of a cluster on a ring denied: ring disabled or cancelled, CLAIM_STOP, or its die excluded (R72, R73, R95)? -/
def State.claimDenied (s : State) (c r : Nat) : Bool :=
  !s.ringServes r || !(s.getLive (.wiq .ringCfgDieMask) r).testBit (c / 208)

/-- Release the claims that steep on a ring with DENIED (R73). -/
def State.releaseClaims (s : State) (r : Nat) : State :=
  let w := (s.ring r).waiters
  let s := s.modRing r fun x => { x with waiters := [] }
  w.foldl (fun s x => s.claimEmpty x.cluster r x.dst x.landing false true) s

/-- Set CLAIM_STOP: every steeping claim returns DENIED (R73, R95). -/
def State.claimStop (s : State) : State :=
  let s := s.setF (.wiq .ctrlClaimStop) 0 1
  (s.wiq.rings.map (·.1)).foldl (fun s r => s.releaseClaims r) s

/-- The end of a cancel: once no record is left, CANCEL and ENABLE clear and CANCELLED is set (R95, R99). -/
def State.cancelCheck (s : State) (r : Nat) : State :=
  if s.flag (.wiq .ringCtrlCancel) r && (s.ring r).cancels.isEmpty then
    let s := (s.setF (.wiq .ringCtrlCancel) r 0).setF (.wiq .ringCtrlEnable) r 0
    (s.setF (.wiq .ringStatusCancelled) r 1).ringEvent r
  else s

/-! ### Posting by clusters (R81, R90) -/

/-- The numbers whose slot write failed and that are claimable now: they have their MEM_ERROR record at once (R66, R90). -/
def State.settleFailed (s : State) (r : Nat) : State :=
  let l := (s.ring r).failed.filter fun n => s.flag (.wiq .ringCtrlEnable) r && s.posted r n && s.slotFree r n
  l.foldl (fun s n =>
    (s.modRing r fun x => { x with failed := x.failed.filter (· ≠ n), skips := x.skips ++ [n] }).writeErrorRecord r n) s

/-- Reserve the next sequence number of a ring for a POST; none where the ring has no free slot (R81, R90). -/
def State.reservePost (s : State) (r : Nat) : Option (Nat × State) :=
  let n := (s.ring r).nextPost
  if s.slotFree r n then
    some (n, s.modRing r fun x => { x with posts := x.posts ++ [⟨n, false, false⟩], nextPost := (n + 1) % 2 ^ 32 })
  else none

end Sys2Proof.Machine
end

