-- ==== Sys2Proof/Machine/DmaOps.lean ====
section
/-!
DEFINITION. The operations of the DMA engine: descriptors and their acceptance checks (R85 to R87), pieces and credits
(R82, R83, R199, R203), Mill expansion (R124 to R127), reductions (R89), failures and retirement (R88, R90).
-/

namespace Sys2Proof.Machine

/-! ### Descriptors -/

/-- The fields of a DMA descriptor (R85). -/
def readDma (b : List Byte) : DmaDesc :=
  let x := leNat b
  { op := bits x 15 8, srcSpace := bits x 19 16, dstSpace := bits x 23 20, fence := x.testBit 24, gate := x.testBit 25,
    srcModule := bits x 47 32, dstModule := bits x 63 48, srcAddr := bits x 127 64, dstAddr := bits x 191 128,
    rowBytes := bits x 223 192 % 2 ^ 24, rows := bits x 239 224, srcStride := bits x 287 256,
    dstStride := bits x 319 288, pattern := bits x 383 320, gateId := bits x 399 384 }

/-- Offset of an address field. -/
def offOf (a : Nat) : Nat := a % 2 ^ 40
/-- Logical cluster of an address field. -/
def cluOf (a : Nat) : Nat := bits a 49 40

/-- Does a space name a cluster store? -/
def storeSpace (sp : Nat) : Bool := sp == 0 || sp == 1 || sp == 4

/-- Are the address and module fields that go with a used space well formed (R85 to R87)? -/
def spaceOk (sp addr module : Nat) : Bool :=
  decide (sp ≤ 5) && bits addr 63 50 == 0 && (!storeSpace sp || bits addr 39 22 == 0) &&
    (sp == 1 || sp == 4 || cluOf addr == 0) && (!(sp == 3 || sp == 4) || decide (module < 2 ^ 14))

/-- Does an operation use its source space, its destination space? -/
def usesSrc (op : Nat) : Bool := op != 2
/-- Does an operation use its destination space? -/
def usesDst (op : Nat) : Bool := op != 4

/-- The INVALID checks of R87, R89 and R90 on a descriptor's bytes. DESIGN CHOICE (log entry 166): INVALID is also the status of
an ADD_F32 whose DST_SPACE is not 0, 1 or 4 and of a POST whose ROWS is not 1 or whose ROW_BYTES is not 64, for which R89 and
R90 name none. -/
def dmaInvalid (b : List Byte) : Bool :=
  let x := leNat b
  let d := readDma b
  bits x 7 0 != 1 || !(decide (1 ≤ d.op ∧ d.op ≤ 4)) || bits x 31 26 != 0 || bits x 223 216 != 0 ||
    bits x 255 240 != 0 || bits x 511 408 != 0 ||
    (usesSrc d.op && !spaceOk d.srcSpace d.srcAddr d.srcModule) ||
    (usesDst d.op && !spaceOk d.dstSpace d.dstAddr d.dstModule) ||
    (!usesSrc d.op && d.srcSpace != 0) || (!usesDst d.op && d.dstSpace != 0) ||
    d.rowBytes % 8 != 0 || d.srcStride % 8 != 0 || d.dstStride % 8 != 0 ||
    (d.op == 3 && !storeSpace d.dstSpace) ||
    (d.op == 4 && (d.srcSpace != 0 || d.rows != 1 || d.rowBytes != 64))

/-- Where a row extends beyond a space of a size. -/
def rowsPast (d : DmaDesc) (off stride bytes size : Nat) : Bool :=
  decide (0 < d.rows) && decide (off + (d.rows - 1) * stride + bytes > size)

/-- Size of a space (R86, R105). -/
def State.spaceSize (s : State) (sp : Nat) : Nat :=
  if storeSpace sp then storeSize else if sp = 2 then s.memTop else 2 ^ 40

/-- Expanded bytes for each stored byte of a region's output (R125). -/
def MillRgn.ratio (r : MillRgn) : Nat := if r.fp4 then 1 else 2

/-- The ratio of the region that holds the first row, 1 outside every region (R125). -/
def firstRatio (mill : List MillRgn) (d : DmaDesc) : Nat :=
  if d.srcSpace = 2 then
    match millFind mill (offOf d.srcAddr) with
    | some r => r.ratio
    | none => 1
  else 1

/-- The RANGE checks of R87. -/
def State.dmaRange (s : State) (d : DmaDesc) : Bool :=
  let k := firstRatio s.millSet d
  (usesSrc d.op && (rowsPast d (offOf d.srcAddr) (d.srcStride / k) (d.rowBytes / k) (s.spaceSize d.srcSpace) ||
    ((d.srcSpace == 1 || d.srcSpace == 4) && decide (cluOf d.srcAddr ≥ 800)))) ||
  (usesDst d.op && (rowsPast d (offOf d.dstAddr) d.dstStride d.rowBytes (s.spaceSize d.dstSpace) ||
    ((d.dstSpace == 1 || d.dstSpace == 4) && decide (cluOf d.dstAddr ≥ 800))))

/-- The acceptance checks of R87 in their order: the status, 0 where all pass. -/
def State.dmaCheck (s : State) (b : List Byte) : Nat :=
  let d := readDma b
  if dmaInvalid b then 3
  else if !s.sec.orderP && ((usesSrc d.op && d.srcSpace == 5) || (usesDst d.op && d.dstSpace == 5)) then 8
  else if s.dmaRange d then 7
  else if d.rows = 0 ∨ d.rowBytes = 0 then 2
  else 0

/-- Accept the descriptor at an address: STATUS 0x00, the checks, a POST's sequence number (R81, R87, R90). An
uncorrectable error in reading it faults the cluster (R34). -/
def State.acceptDma (s : State) (c a : Nat) (ecc : StoreEcc) : State :=
  match s.storeRead c a 64 ecc with
  | (s, none) => s.faultStop c .storeUe
  | (s, some b) =>
    let d := readDma b
    let r := d.dstAddr % 2 ^ 9
    let st := s.dmaCheck b
    let st := if d.op = 4 ∧ st = 0 ∧ !s.liveFlag (.wiq .ringCfgProducer) r then 3 else st
    let (n, st, s) := if d.op = 4 ∧ st = 0 then
        match s.reservePost r with
        | some (n, s) => (n, 0, s)
        | none => (0, 6, s)
      else (0, st, s)
    let e : Dma := { addr := a, desc := d, status := st, started := false, issued := false, row := 0, off := 0,
                     pieces := [], hold := [], waits := 0, mill := [], millOld := false, postSeq := n }
    (s.putStore c (a + 50) [0]).modCl c fun k => { k with dmas := k.dmas ++ [e], dmaAccepted := k.dmaAccepted + 1 }

/-! ### Places -/

/-- A place that a space, an address and a module name (R86, R197, R439). -/
inductive Loc where
  | store (c a : Nat)
  | absent
  | mem (a : Nat)
  | remote (x : Nat) (memory : Bool) (addr : Nat)
  | partner (a : Nat)
deriving DecidableEq, Repr

/-- The store of a logical cluster; none while the number is absent or its die is off (R439). -/
def State.storeLoc (s : State) (l a : Nat) : Loc :=
  match s.physOf l with
  | some p => if s.isOn (.core (p / 208)) then .store p a else .absent
  | none => .absent

/-- Resolve a place; a remote space that names this module is the matching local one (R197). -/
def State.loc (s : State) (c sp addr module : Nat) : Loc :=
  match sp with
  | 0 => .store c (offOf addr)
  | 1 => s.storeLoc (cluOf addr) (offOf addr)
  | 2 => .mem (offOf addr)
  | 3 => if module = s.moduleId then .mem (offOf addr) else .remote module true (offOf addr)
  | 4 => if module = s.moduleId then s.storeLoc (cluOf addr) (offOf addr) else .remote module false (addr % 2 ^ 50)
  | _ => .partner (offOf addr)

/-- Move a place by an offset. -/
def Loc.add : Loc → Nat → Loc
  | .store c a, n => .store c (a + n)
  | .absent, _ => .absent
  | .mem a, n => .mem (a + n)
  | .remote x m a, n => .remote x m (a + n)
  | .partner a, n => .partner (a + n)

/-- Does a place lie outside the module? -/
def Loc.far : Loc → Bool
  | .remote _ _ _ | .partner _ => true
  | _ => false

/-- The source of a descriptor. -/
def State.srcLoc (s : State) (c : Nat) (d : DmaDesc) : Loc := s.loc c d.srcSpace d.srcAddr d.srcModule
/-- The destination of a descriptor. -/
def State.dstLoc (s : State) (c : Nat) (d : DmaDesc) : Loc := s.loc c d.dstSpace d.dstAddr d.dstModule

/-! ### Mill rows -/

/-- Where the stored row i of a descriptor starts (R125). -/
def Dma.storedRow (d : Dma) (i : Nat) : Nat :=
  offOf d.desc.srcAddr + i * d.desc.srcStride / firstRatio d.mill d.desc

/-- The Mill region that expands row i: the source space is MEMORY (R124, R125). -/
def Dma.rowRgn (d : Dma) (i : Nat) : Option MillRgn :=
  if d.desc.srcSpace = 2 ∧ usesSrc d.desc.op then millFind d.mill (d.storedRow i) else none

/-- The checks of R125 and R126 on row i: INVALID, RANGE, or 0. -/
def State.millRowCheck (s : State) (d : Dma) (i : Nat) : Nat :=
  match d.rowRgn i with
  | none => 0
  | some r =>
    let g := if r.fp4 then 32 else 64
    if d.storedRow i % 32 ≠ 0 ∨ d.desc.rowBytes % g ≠ 0 ∨ d.desc.srcStride % g ≠ 0 then 3
    else if d.storedRow i + d.desc.rowBytes / r.ratio > r.base + r.size then 7
    else if r.fp4 ∧ offOf d.desc.dstAddr + r.scaleOfs + (i + 1) * (d.desc.rowBytes / 8) >
        s.spaceSize d.desc.dstSpace then 7
    else 0

/-- The checks over all rows. -/
def State.millCheck (s : State) (d : Dma) : Nat :=
  ((List.range d.desc.rows).map (s.millRowCheck d)).foldl (fun a b => if a = 0 then b else a) 0

/-- Is a value a NaN or an infinity? -/
def FVal.special : FVal → Bool
  | .fin _ _ _ => false
  | _ => true

/-- Expand one CB3 group: expanded bytes, scale bytes, whether a codebook entry is NaN or infinite, whether something saturated
(R40, R41, R52, R127, R133). -/
def millGroup (r : MillRgn) (g : List Byte) : List Byte × List Byte × Bool × Bool :=
  let f := if r.cbE5 then e5m2 else e4m3
  let bad := (g.take 8).any fun b => (f.decode b.toNat).special
  let w := cb3Fp8 g
  if r.fp4 then
    let v := w.map fun b => f.decode b.toNat
    let q := (List.range 4).map fun b => quantiseBlock ((v.drop (16 * b)).take 16) fun _ => .rne
    let el := (q.map fun x => x.2.1).flatten
    ((List.range 32).map fun i => BitVec.ofNat 8 (el.getD (2 * i) 0 + 16 * el.getD (2 * i + 1) 0),
      q.map fun x => BitVec.ofNat 8 x.1, bad, q.any fun x => x.2.2.sat)
  else (w, [], bad, false)

/-- Count a group in the Mill of its stack (R127, R133). -/
def State.countGroup (s : State) (pa : Nat) (bad sat : Bool) : State :=
  let k := match s.memPlace pa with
    | some p => p.stack
    | none => 0
  let s := s.add64 (.mil .groupsLoCountLo) (.mil .groupsHiCountHi) k 1
  (s.addSat (.mil .nanCount) k bad.toNat).addSat (.mil .satCount) k sat.toNat

/-- Expand a run of groups that starts at an address; the first is counted only if count says so (R127, R133). -/
def State.millRun : Nat → State → MillRgn → Nat → Bool → List Byte → State × List Byte × List Byte
  | 0, s, _, _, _, _ => (s, [], [])
  | f + 1, s, r, pa, count, b =>
    if b.isEmpty then (s, [], [])
    else
      let (e, sc, bad, sat) := millGroup r (b.take 32)
      let s := if count then s.countGroup pa bad sat else s
      let (s, e', sc') := State.millRun f s r (pa + 32) true (b.drop 32)
      (s, e ++ e', sc ++ sc')

/-- Expanded bytes of a group (R125). -/
def MillRgn.group (r : MillRgn) : Nat := 32 * r.ratio

/-! ### Credits -/

/-- Channel credits in use by a cluster's engine. -/
def Cluster.chanUse (k : Cluster) : List Nat :=
  (k.dmas.map fun d => (d.pieces.map fun p => p.channels).flatten).flatten

/-- Channel credits an engine holds, in use or not. -/
def Cluster.chanTotal (k : Cluster) : Nat := k.chanUse.length + (k.chanHeld.map (·.2)).foldl (· + ·) 0

/-- Credits of one channel that an engine holds, in use or not. -/
def Cluster.chanOf (k : Cluster) (key : Nat) : Nat := (k.chanUse.filter (· == key)).length + k.chanHeld.getD key 0

/-- May an engine hold one credit more of a channel, beside those in a list: at most 8 of it and 512 in all (R82)? -/
def Cluster.chanRoom (k : Cluster) (key : Nat) (got : List Nat) : Bool :=
  decide (k.chanOf key + (got.filter (· == key)).length < 8) && decide (k.chanTotal + got.length < 512)

/-- Take a credit of a channel for a cluster beside those it has just got: one it holds, or a free one if no other waits.
Without one the engine joins the queue (R82). -/
def State.takeChan (s : State) (c : Nat) (got : List Nat) (key : Nat) : State × Bool :=
  let k := s.cl c
  let held := k.chanHeld.getD key 0
  if held > 0 then (s.modCl c fun k => { k with chanHeld := k.chanHeld.put key (held - 1) 0 }, true)
  else if !k.chanRoom key got then (s, false)
  else
    let q := s.mem.chanQ.getD key []
    let free := s.mem.chanFree.getD key 32
    if free > 0 ∧ q.isEmpty then ({ s with mem := { s.mem with chanFree := s.mem.chanFree.put key (free - 1) 32 } }, true)
    else if q.contains c then (s, false)
    else ({ s with mem := { s.mem with chanQ := s.mem.chanQ.put key (q ++ [c]) [] } }, false)

/-- Take the credits of some bursts, one each: all of them, or those got stay held unused (R82). -/
def State.takeChans (s : State) (c : Nat) : List Nat → List Nat → State × Bool
  | [], _ => (s, true)
  | k :: t, got =>
    match s.takeChan c got k with
    | (s, true) => s.takeChans c t (got ++ [k])
    | (s, false) => (s.modCl c fun x => { x with
        chanHeld := got.foldl (fun m k => SMap.put m k (m.getD k 0 + 1) 0) x.chanHeld }, false)

/-- Who asks for a channel's credits: the engine of cluster n for n below 832, else the receiver of a port's virtual channel
(R83). -/
def portAsker (port vc : Nat) : Nat := 832 + 4 * port + vc

/-- Grant a credit of a channel to the first in its queue that may hold it; the channel keeps it where nobody may (R82). A port
takes the credits it needs as it serves its packet (R83). -/
def State.grantChan (s : State) (key : Nat) : List Nat → State
  | [] =>
    { s with mem := { s.mem with chanQ := s.mem.chanQ.put key [] [],
                                 chanFree := s.mem.chanFree.put key (s.mem.chanFree.getD key 32 + 1) 32 } }
  | c :: q =>
    if c ≥ 832 then
      { s with mem := { s.mem with chanQ := s.mem.chanQ.put key (c :: q) [],
                                   chanFree := s.mem.chanFree.put key (s.mem.chanFree.getD key 32 + 1) 32 } }
    else if (s.cl c).chanRoom key [] then
      let s := { s with mem := { s.mem with chanQ := s.mem.chanQ.put key q [] } }
      s.modCl c fun k => { k with chanHeld := k.chanHeld.put key (k.chanHeld.getD key 0 + 1) 0 }
    else s.grantChan key q

/-- A credit of a channel comes back (R82). -/
def State.returnChan (s : State) (key : Nat) : State := s.grantChan key (s.mem.chanQ.getD key [])

/-- Credits of several bursts come back. -/
def State.returnChans (s : State) (l : List Nat) : State := l.foldl (fun s key => s.returnChan key) s

/-- The channels of the 64-byte bursts that n bytes of memory touch (R82); a burst outside memory has none. -/
def State.burstChans (s : State) (pa n : Nat) : List Nat :=
  if n = 0 then []
  else (List.range ((pa + n - 1) / 64 - pa / 64 + 1)).filterMap fun i => (s.memPlace ((pa / 64 + i) * 64)).map MemPlace.chan

/-- May a cluster's engine send a request packet on a port: with a credit it holds, or a free one; without one it joins the
queue (R203). A credit held goes back into the port's count just before the packet takes it. -/
def State.takeLink (s : State) (c port : Nat) : State × Bool :=
  let held := (s.cl c).linkHeld.getD port 0
  if held > 0 then
    ((s.modCl c fun k => { k with linkHeld := k.linkHeld.put port (held - 1) 0 }).setCredits port 0
      (s.credits port 0 + 1), true)
  else
    let q := s.ixf.linkQ.getD port []
    if s.credits port 0 > 0 ∧ q.isEmpty then (s, true)
    else if q.contains c then (s, false)
    else ({ s with ixf := { s.ixf with linkQ := s.ixf.linkQ.put port (q ++ [c]) [] } }, false)

/-- Grant free REQ credits of a port to the engines in its queue, in order, at most 32 held each (R203). -/
def State.grantLinks : Nat → State → Nat → State
  | 0, s, _ => s
  | f + 1, s, port =>
    match s.ixf.linkQ.getD port [] with
    | c :: q =>
      if s.credits port 0 > 0 then
        let s := { s with ixf := { s.ixf with linkQ := s.ixf.linkQ.put port q [] } }
        let s := s.setCredits port 0 (s.credits port 0 - 1)
        let s := s.modCl c fun k => { k with linkHeld := k.linkHeld.put port (min 32 (k.linkHeld.getD port 0 + 1)) 0 }
        State.grantLinks f s port
      else s
    | [] => s

/-- n REQ credits that engines held come back to a port: packets that wait take them, then the engines in its queue (R203). -/
def State.returnLinks (s : State) (port n : Nat) : State :=
  let s := s.setCredits port 0 (s.credits port 0 + n)
  State.grantLinks 32 (s.sendWaiting port 0 (s.waitingOn port 0)) port

/-! ### Transfers -/

/-- Change descriptor j of a cluster's engine. -/
def State.modDma (s : State) (c j : Nat) (f : Dma → Dma) : State :=
  s.modCl c fun k => { k with dmas := listModify k.dmas j f }

/-- End a descriptor with an error (R88); a reserved number that it has not committed is committed as failed, and a slot that
a POST could not write gives MEM_ERROR (R81, R90; log entry 165). -/
def State.failDma (s : State) (c j st : Nat) : State :=
  match (s.cl c).dmas[j]? with
  | none => s
  | some d =>
    let st := if d.desc.op = 4 ∧ st = 7 then 5 else st
    let s := if d.owesPost then s.commitPost (d.desc.dstAddr % 2 ^ 9) d.postSeq true else s
    s.modDma c j fun d => d.fail st

/-- The engine notes what a descriptor waits for (R84); a cluster in DMAWAIT or FENCE shows it for the oldest one. -/
def State.dmaWaits (s : State) (c j n : Nat) : State :=
  let s := s.modDma c j fun d => { d with waits := n }
  match (s.cl c).wait with
  | some (.dma _) | some .fence =>
    if j = 0 then s.setF (.clu .statusSteepCause) c (if n = 0 then 6 else n) else s
  | _ => s

/-- A burst or packet of a descriptor is issued: it waits for nothing (R84, R92). -/
def State.burstIssued (s : State) (c j : Nat) : State :=
  (s.dmaWaits c j 0).modDma c j fun d => { d with issued := true }

/-- What row i of a descriptor moves: its bytes, and after them its scale bytes where it expands to FP4-block (R126). -/
def Dma.rowTotal (d : Dma) (i : Nat) : Nat :=
  d.desc.rowBytes + (match d.rowRgn i with
    | some r => if r.fp4 then d.desc.rowBytes / 8 else 0
    | none => 0)

/-- Where byte off of row i goes, from DST_ADDR on (R126). -/
def Dma.dstOff (d : Dma) (i off : Nat) : Nat :=
  if off < d.desc.rowBytes then i * d.desc.dstStride + off
  else (match d.rowRgn i with
    | some r => r.scaleOfs
    | none => 0) + i * (d.desc.rowBytes / 8) + (off - d.desc.rowBytes)

/-- Bytes left from byte off of row i on, of the row or of its scales. -/
def Dma.partLeft (d : Dma) (i off : Nat) : Nat :=
  if off < d.desc.rowBytes then d.desc.rowBytes - off else d.rowTotal i - off

/-- An offset rounded up to a whole FP32 value where values are added. -/
def wordUp (add : Bool) (o : Nat) : Nat := if add then (o + 3) / 4 * 4 else o

/-- Length of the next piece of a descriptor: a packet where a side is remote, else what lies in one line of a store or one
pair of memory at the destination, so that a line or pair is written once (R36, R82, R108, R199). -/
def State.pieceLen (s : State) (c : Nat) (d : Dma) : Nat :=
  let rem := d.partLeft d.row d.off
  if ((s.srcLoc c d.desc).far && usesSrc d.desc.op) || (s.dstLoc c d.desc).far then pktLen 256 rem
  else
    match (s.dstLoc c d.desc).add (d.dstOff d.row d.off) with
    | .mem a => min rem (128 - a % 128)
    | .store _ a => min rem (wordUp (d.desc.op == 3) (d.off + (64 - a % 64)) - d.off)
    | _ => min rem 64

/-- Is every piece of a descriptor issued? -/
def Dma.allIssued (d : Dma) : Bool := decide (d.desc.rows ≤ d.row)

/-- Move the cursor past a piece. -/
def Dma.advance (d : Dma) (n : Nat) : Dma :=
  if d.off + n ≥ d.rowTotal d.row then { d with row := d.row + 1, off := 0 } else { d with off := d.off + n }

/-- Add a piece at the end and move the cursor. -/
def State.addPiece (s : State) (c j : Nat) (p : Piece) : State :=
  s.modDma c j fun d => { d.advance p.len with pieces := d.pieces ++ [p] }

/-- Replace piece i. -/
def State.setPiece (s : State) (c j i : Nat) (p : Piece) : State :=
  s.modDma c j fun d => { d with pieces := listSet d.pieces i p }

/-- Drop piece i. -/
def State.dropPiece (s : State) (c j i : Nat) : State := s.modDma c j fun d => { d with pieces := d.pieces.eraseIdx i }

/-- Piece i ends: its credits return. -/
def State.endPiece (s : State) (c j i : Nat) (p : Piece) : State := (s.dropPiece c j i).returnChans p.channels

/-- One FP32 reduction: a + b with one rounding to nearest even (R89). -/
def addF32 (a b : Nat) : Nat := (toFp32 .rne (fadd (fp32.decode a) (fp32.decode b))).1

/-- Add FP32 words of a to those of b. -/
def addWords : Nat → List Byte → List Byte → List Byte
  | 0, _, _ => []
  | f + 1, a, b =>
    if a.isEmpty then []
    else leBytes 4 (addF32 (leNat (b.take 4)) (leNat (a.take 4))) ++ addWords f (a.drop 4) (b.drop 4)

/-- Write data into a store, or add it there; false on an uncorrectable error in the destination read (R34, R89). -/
def State.storeDeliver (s : State) (add : Bool) (p a : Nat) (data : List Byte) (ecc : StoreEcc) : State × Bool :=
  if add then
    match s.storeRead p a data.length ecc with
    | (s, some old) => (s.putStore p a (addWords (data.length / 4 + 1) data old), true)
    | (s, none) => (s, false)
  else (s.putStore p a data, true)

/-- The key of byte off of row i in what a transfer holds. -/
def byteKey (i off : Nat) : Nat := i * 2 ^ 25 + off

/-- n bytes held from a key on, if all of them have come. -/
def heldBytes (m : SMap Byte) (k n : Nat) : Option (List Byte) := (List.range n).mapM fun i => m.get? (k + i)

/-- Forget n bytes held from a key on. -/
def dropHeld (m : SMap Byte) (k n : Nat) : SMap Byte := m.filter fun e => !(decide (k ≤ e.1) && decide (e.1 < k + n))

/-- The lines of a store that n bytes from off on touch in a row of len bytes that starts at address a: each as offset and
length of what the row has of the line; an FP32 value that is added goes with the line of its first byte. -/
def lineParts (add : Bool) (a len off n : Nat) : List (Nat × Nat) :=
  (List.range ((a + off + n - 1) / 64 - (a + off) / 64 + 1)).map fun i =>
    let line := (a + off) / 64 + i
    let lo := wordUp add (max (line * 64) a - a)
    (lo, wordUp add (min (line * 64 + 64) (a + len) - a) - lo)

/-- Write those lines whose bytes have all come, each at once (R36, R89); false on an uncorrectable error (R34). -/
def State.storeLines (s : State) (c j : Nat) (add : Bool) (q a row : Nat) (ecc : StoreEcc) : List (Nat × Nat) → State × Bool
  | [] => (s, true)
  | (o, n) :: t =>
    match ((s.cl c).dmas[j]?).bind fun d => heldBytes d.hold (byteKey row o) n with
    | none => s.storeLines c j add q a row ecc t
    | some b =>
      let s := s.modDma c j fun d => { d with hold := dropHeld d.hold (byteKey row o) n }
      match s.storeDeliver add q (a + o) b ecc with
      | (s, true) => s.storeLines c j add q a row ecc t
      | r => r

/-- The status a memory access gives a descriptor (R87, R90). -/
def MemRes.status : MemRes → Nat
  | .ok => 1
  | .range => 7
  | .error => 5

/-- The port and module of a remote access: none where it fails with LINK_FAIL at once, some none where hashed traffic to
the module is held (R205, R207, R209, R220). -/
def State.remotePort (s : State) (x : Nat) (memory : Bool) (addr : Nat) : Option (Option Nat) :=
  if s.fencedMod x then none
  else
    match s.requestPort x memory addr with
    | none => none
    | some p =>
      if p ≠ 12 ∧ !s.liveFlag (.ixf .ctrlSprayDma) ∧ s.ixf.hashHeld.contains x then some none else some (some p)

/-- Does a write of n bytes have to wait for the partner link to take it, since it meets a mirrored region (R123)? -/
def State.mirrorFull (s : State) (a n : Nat) : Bool :=
  s.mirrorLink && s.credits 12 0 == 0 && !(s.mirParts a (List.replicate n 0)).isEmpty

/-- The data of a piece goes into module memory, with a credit of its channel for each burst; without one the transfer waits.
It is written now, as requests to a pair are served in the order of their issue (R19, R82, R107, R108). -/
def State.pieceToMem (s : State) (c j i : Nat) (p : Piece) (a : Nat) (mecc : List MemEcc) : State :=
  if s.mirrorFull a p.data.length then s.dmaWaits c j 3
  else
    match s.takeChans c (s.burstChans a p.data.length) [] with
    | (s, false) => s.dmaWaits c j 2
    | (s, true) =>
      let l := s.burstChans a p.data.length
      let s := s.burstIssued c j
      match s.memWrite a p.data mecc with
      | (s, .ok, tags) => s.setPiece c j i { p with phase := 2, channels := l, tags }
      | (s, r, _) => ((s.dropPiece c j i).returnChans l).failDma c j r.status

/-- Cut what a piece holds beyond n bytes off, as a piece that follows it; the bursts it read stay with the first. -/
def State.splitPiece (s : State) (c j i : Nat) (p : Piece) (n : Nat) : State :=
  if p.data.length ≤ n then s
  else s.modDma c j fun d => { d with
    pieces := d.pieces.take i ++ [{ p with data := p.data.take n, len := n },
      { p with off := p.off + n, len := p.len - n, data := p.data.drop n, channels := [], tags := [] }] ++ d.pieces.drop (i + 1) }

/-- The data of a piece leaves through a port as a write request of at most the agreed payload, with one credit; without it the
transfer waits (R195, R199, R203). -/
def State.pieceToPort (s : State) (c j i : Nat) (p : Piece) (port x typ addr : Nat) : State :=
  let n := s.maxPayload port
  let s := s.splitPiece c j i p n
  let p := { p with data := p.data.take n, len := min p.len n }
  let hashed := !s.liveFlag (.ixf .ctrlSprayDma) && port != 12
  match s.takeLink c port with
  | (s, false) => s.dmaWaits c j 3
  | (s, true) =>
    let s := s.burstIssued c j
    let (tag, s) := s.takeTag
    let s := s.sendPkt port { s.packet typ x 0 tag addr (writeAux p.data.length) p.data with
      spray := !hashed && port != 12 }
    (s.addReq ⟨tag, c, x, 1, hashed, port, 0, 0⟩).setPiece c j i { p with phase := 2, tags := [tag] }

/-- The data of a piece goes into a store, whole lines at a time: of a row that comes from another module a line waits until
packets have brought all of it (R36). -/
def State.pieceToStore (s : State) (c j i : Nat) (d : Dma) (p : Piece) (q a : Nat) (ecc : StoreEcc) : State :=
  let add := d.desc.op == 3
  let s := s.burstIssued c j
  let s := s.endPiece c j i p
  let r := if usesSrc d.desc.op && (s.srcLoc c d.desc).far then
      let s := s.modDma c j fun d => { d with hold := storeCells d.hold (byteKey p.row p.off) p.data }
      let a := a + p.row * d.desc.dstStride
      s.storeLines c j add q a p.row ecc (lineParts add a d.desc.rowBytes p.off p.data.length)
    else s.storeDeliver add q (a + d.dstOff p.row p.off) p.data ecc
  if r.2 then r.1 else r.1.failDma c j 5

/-- Write the data of piece i: into a store at once, into memory with channel credits, to another module with a link credit
(R82, R83). -/
def State.writePhase (s : State) (c j i : Nat) (ecc : StoreEcc) (mecc : List MemEcc) : State :=
  match (s.cl c).dmas[j]? with
  | none => s
  | some d =>
    match d.pieces[i]? with
    | none => s
    | some p =>
      let o := d.dstOff p.row p.off
      if d.desc.op = 4 then s.pieceToMem c j i p (s.slotAddr (d.desc.dstAddr % 2 ^ 9) d.postSeq) mecc
      else
        match s.dstLoc c d.desc with
        | .store q a => s.pieceToStore c j i d p q a ecc
        | .absent => (s.endPiece c j i p).failDma c j 5
        | .mem a => s.pieceToMem c j i p (a + o) mecc
        | .remote x memory a =>
          match s.remotePort x memory (a + o) with
          | none => (s.endPiece c j i p).failDma c j 4
          | some none => s
          | some (some port) => s.pieceToPort c j i p port x (if memory then 1 else if d.desc.op = 3 then 3 else 2) (a + o)
        | .partner a =>
          if s.portUp 12 && !s.partnerFenced then s.pieceToPort c j i p 12 s.partnerId 1 (a + o)
          else (s.endPiece c j i p).failDma c j 4

/-- A piece is read from elsewhere: a read request of at most the agreed payload leaves through a port, with one credit; without
it the transfer waits (R195, R199, R203). -/
def State.pieceFrom (s : State) (c j : Nat) (p : Piece) (port x typ addr : Nat) (hashed : Bool) : State :=
  let p := { p with len := min p.len (s.maxPayload port) }
  match s.takeLink c port with
  | (s, false) => s.dmaWaits c j 3
  | (s, true) =>
    let s := s.burstIssued c j
    let (tag, s) := s.takeTag
    let s := s.sendPkt port { s.packet typ x 0 tag addr (readAux p.len) [] with spray := !hashed && port != 12 }
    (s.addReq ⟨tag, c, x, 0, hashed && port != 12, port, 0, 0⟩).addPiece c j { p with phase := 0, tags := [tag] }

/-- What a memory read delivers for a piece of a row that a Mill expands: its element bytes, and the scale bytes whose blocks
begin in it (R124 to R127). A group is counted with the piece that holds its first byte. -/
def State.millRead (s : State) (r : MillRgn) (base : Nat) (p : Piece) (mecc : List MemEcc) : State × MemRes × Piece :=
  let g := r.group
  let i0 := p.off / g
  let i1 := (p.off + p.len - 1) / g
  let a := base + 32 * i0
  match s.memRead a (32 * (i1 + 1 - i0)) mecc with
  | (s, .ok, b) =>
    let (s, e, sc) := State.millRun (i1 + 2 - i0) s r a (p.off % g == 0) b
    let j0 := (p.off + 7) / 8
    let j1 := (p.off + p.len + 7) / 8
    (s, .ok, { p with data := (e.drop (p.off - g * i0)).take p.len, scales := (sc.drop (j0 - 4 * i0)).take (j1 - j0) })
  | (s, res, _) => (s, res, p)

/-- The bytes of memory that a piece of a row reads: the groups it meets where a Mill expands, else its own. -/
def Dma.readSpan (d : Dma) (a : Nat) (p : Piece) : Nat × Nat :=
  match d.rowRgn p.row with
  | some r => (d.storedRow p.row + 32 * (p.off / r.group), 32 * ((p.off + p.len - 1) / r.group + 1 - p.off / r.group))
  | none => (a, p.len)

/-- A piece is read from module memory, with a credit of its channel for each burst; without one the transfer waits. It is read
now, as requests to a pair are served in the order of their issue, and delivered when the bursts complete (R19, R82, R107). -/
def State.pieceFromMem (s : State) (c j : Nat) (d : Dma) (p : Piece) (a : Nat) (mecc : List MemEcc) : State :=
  let span := d.readSpan a p
  if span.1 + span.2 > s.memTop then s.failDma c j 7
  else
    match s.takeChans c (s.burstChans span.1 span.2) [] with
    | (s, false) => s.dmaWaits c j 2
    | (s, true) =>
      let l := s.burstChans span.1 span.2
      let s := s.burstIssued c j
      let r := match d.rowRgn p.row with
        | some r => s.millRead r (d.storedRow p.row) p mecc
        | none => let x := s.memRead span.1 span.2 mecc; (x.1, x.2.1, { p with data := x.2.2 })
      match r with
      | (s, .ok, p) => s.addPiece c j { p with phase := 0, channels := l }
      | (s, res, _) => (s.returnChans l).failDma c j res.status

/-- Issue the next new piece of a descriptor: data at hand goes on to its write, a memory read takes channel credits, a remote
read a link credit; scale bytes wait until the groups have given them (R82, R83, R126). -/
def State.newPiece (s : State) (c j : Nat) (d : Dma) (ecc : StoreEcc) (mecc : List MemEcc) : State :=
  let n := s.pieceLen c d
  let p : Piece := { row := d.row, off := d.off, len := n, phase := 1, data := [], scales := [], retried := false,
                     channels := [], tags := [] }
  let last := d.pieces.length
  if d.off ≥ d.desc.rowBytes then
    match heldBytes d.hold (byteKey d.row d.off) n with
    | none => s
    | some b =>
      let s := s.modDma c j fun d => { d with hold := dropHeld d.hold (byteKey d.row d.off) n }
      (s.addPiece c j { p with data := b }).writePhase c j last ecc mecc
  else if d.desc.op = 2 then
    let bytes := (List.range n).map fun i => (leBytes 8 d.desc.pattern).getD ((d.off + i) % 8) 0
    (s.addPiece c j { p with data := bytes }).writePhase c j last ecc mecc
  else
    match (s.srcLoc c d.desc).add (d.row * d.desc.srcStride + d.off) with
    | .store q a =>
      match s.storeRead q a n ecc with
      | (s, some b) => (s.addPiece c j { p with data := b }).writePhase c j last .clean mecc
      | (s, none) => s.failDma c j 5
    | .absent => s.failDma c j 5
    | .mem a => s.pieceFromMem c j d p (if d.desc.srcSpace = 2 then d.storedRow d.row + d.off else a) mecc
    | .remote x memory a =>
      match s.remotePort x memory a with
      | none => s.failDma c j 4
      | some none => s
      | some (some port) =>
        s.pieceFrom c j p port x (if memory then 4 else 5) a (!s.liveFlag (.ixf .ctrlSprayDma))
    | .partner a =>
      if s.portUp 12 && !s.partnerFenced then s.pieceFrom c j p 12 s.partnerId 4 a false else s.failDma c j 4

/-- May descriptor j start: all earlier ones have started, and with FENCE have retired (R85, R88)? -/
def Cluster.mayStart (k : Cluster) (j : Nat) (d : Dma) : Bool :=
  (k.dmas.take j).all (fun e => e.started || e.status != 0) && (!d.desc.fence || j == 0)

/-- Start a descriptor: it latches the Mill regions in force, and the checks of R125 and R126 apply (R88, R129). -/
def State.startDma (s : State) (c j : Nat) (d : Dma) : State :=
  let d' := { d with started := true, mill := s.millSet }
  let st := s.millCheck d'
  s.modDma c j fun _ => if st = 0 then d' else d'.fail st

/-- Issue a burst or packet of descriptor j (R82). -/
def State.issueBurst (s : State) (c j : Nat) (ecc : StoreEcc) (mecc : List MemEcc) : State :=
  match (s.cl c).dmas[j]? with
  | none => s
  | some d =>
    if d.status ≠ 0 then s
    else
      let s := if d.started then s else if (s.cl c).mayStart j d then s.startDma c j d else s
      match (s.cl c).dmas[j]? with
      | none => s
      | some d =>
        if !d.started || d.status ≠ 0 then s
        else
          match d.pieces.findIdx? fun p => p.phase == 1 with
          | some i => s.writePhase c j i ecc mecc
          | none => if d.allIssued then s else s.newPiece c j d ecc mecc

/-- Data for piece i has arrived: its scale bytes are held, a store destination takes it at once, any other waits for a credit
(R82, R126). -/
def State.pieceData (s : State) (c j i : Nat) (p : Piece) (data : List Byte) (ecc : StoreEcc) : State :=
  let s := s.setPiece c j i { p with phase := 1, data, channels := [], tags := [] }
  match (s.cl c).dmas[j]? with
  | some d =>
    if d.status ≠ 0 then s.dropPiece c j i
    else
      let s := s.modDma c j fun d => { d with
        hold := storeCells d.hold (byteKey p.row (d.desc.rowBytes + (p.off + 7) / 8)) p.scales }
      match s.dstLoc c d.desc with
      | .store _ _ | .absent => s.writePhase c j i ecc []
      | _ => s
  | none => s

/-- The bursts of a piece complete: a read delivers its data, a write is acknowledged; the channel credits come back (R82). -/
def State.burstDone (s : State) (c j i : Nat) (ecc : StoreEcc) : State :=
  match (s.cl c).dmas[j]? with
  | none => s
  | some d =>
    match d.pieces[i]? with
    | none => s
    | some p =>
      if p.channels.isEmpty then s
      else if p.phase = 0 then (s.returnChans p.channels).pieceData c j i p p.data ecc
      else if p.tags.isEmpty then
        let s := s.endPiece c j i p
        if d.desc.op = 4 then s.commitPost (d.desc.dstAddr % 2 ^ 9) d.postSeq false else s
      else s

/-- Find the piece of a cluster's engine that awaits a TAG. -/
def Cluster.findTag (k : Cluster) (tag : Nat) : Option (Nat × Nat) :=
  (List.range k.dmas.length).findSome? fun j =>
    match k.dmas[j]? with
    | none => none
    | some d => (d.pieces.findIdx? fun p => p.tags.contains tag).map fun i => (j, i)

/-- A TAG is answered: a remote write's piece ends with its last answer; a mirrored write's piece only forgets it (R123,
R200). -/
def State.answerTag (s : State) (c tag : Nat) (st : Nat) : State :=
  match (s.cl c).findTag tag with
  | none => s
  | some (j, i) =>
    match ((s.cl c).dmas[j]?).bind fun d => d.pieces[i]? with
    | none => s
    | some p =>
      let p' := { p with tags := p.tags.filter (· ≠ tag) }
      let s := if p'.tags.isEmpty && p.channels.isEmpty then s.dropPiece c j i else s.setPiece c j i p'
      if st = 0 then s else s.failDma c j st

/-- The DMA status that a response status gives (R200). -/
def rspStatus (st : Nat) : Nat :=
  match st with
  | 0 => 0
  | 1 => 7
  | 2 => 5
  | 3 => 7
  | _ => 4

/-! ### Retiring and waking -/

/-- Has a descriptor finished: all its pieces done, or an error and nothing in flight? -/
def Dma.finished (d : Dma) : Bool :=
  d.pieces.isEmpty && (d.status != 0 || (d.started && d.allIssued))

/-- Does a cluster's tensor unit have a block or spill left? -/
def Cluster.tensorBusy (k : Cluster) : Bool := !k.tbq.isEmpty || !k.spills.isEmpty

/-- Has a cluster a spill left, running or to come from an issued block (R146)? -/
def Cluster.spillsLeft (k : Cluster) : Bool := !k.spills.isEmpty || k.tbq.any fun b => b.desc.spill

/-- Wake a cluster whose units have done what it waits for (R84, R88, R146). -/
def State.unitWake (s : State) (c : Nat) : State :=
  let k := s.cl c
  match k.wait with
  | some .tensor => if k.tensorBusy then s else s.wake c
  | some .spills => if k.spillsLeft then s else s.wake c
  | some .fence => if k.tensorBusy || !k.dmas.isEmpty then s else s.wake c
  | some (.dma n) => if k.dmaRetired ≥ n then s.wake c else s
  | _ => s

/-- Retire the oldest descriptor of a cluster's engine if it has finished: STATUS, the count, its gate (R85, R88, R90). DESIGN
CHOICE (log entry 167): STATUS is written here, in posting order, not when the descriptor itself has finished. -/
def State.retireDma (s : State) (c : Nat) : State :=
  match (s.cl c).dmas with
  | [] => s
  | d :: t =>
    if d.finished then
      let st := if d.status = 0 then 1 else d.status
      let s := s.modCl c fun k => { k with dmas := t, dmaRetired := k.dmaRetired + 1 }
      let s := s.putStore c (d.addr + 50) [BitVec.ofNat 8 st]
      let s := if d.desc.gate && st != 3 && st != 9 then s.signalOne d.desc.gateId else s
      s.unitWake c
    else s

end Sys2Proof.Machine
end

