-- ==== Sys2Proof/Machine/Tensor.lean ====
section
/-!
DEFINITION. The tensor unit (R42 to R54) and the commands of its blocks and spills: TB, TENSOR_BLOCK_START,
TENSOR_BLOCK_END, SPILL_DONE, TBWAIT.
-/

namespace Sys2Proof.Machine

/-! ### The descriptor -/

/-- The fields of a tensor block descriptor (R49). -/
def readTb (b : List Byte) : TbDesc :=
  let x := leNat b
  { cls := bits x 11 8, aSub := bits x 13 12, bSub := bits x 15 14, m := 16 * (bits x 17 16 + 1),
    n := 24 * (bits x 19 18 + 1), k := 64 * bits x 47 32, acc := bits x 48 48, clear := x.testBit 49,
    spill := x.testBit 50, aBase := bits x 85 64, aScale := bits x 117 96, bBase := bits x 149 128,
    bScale := bits x 181 160, aStride := bits x 213 192, bStride := bits x 245 224, sBase := bits x 277 256,
    sStride := bits x 309 288, sFmt := bits x 322 320, sRm := bits x 329 328, sSat := x.testBit 332,
    sScale := bits x 373 352 }

/-- Are the reserved fields of R49 zero? Byte 40 above S_FMT counts as reserved (log entry 16). -/
def tbReservedOk (x : Nat) : Bool :=
  bits x 31 20 == 0 && bits x 63 51 == 0 && bits x 95 86 == 0 && bits x 127 118 == 0 && bits x 159 150 == 0 &&
    bits x 191 182 == 0 && bits x 223 214 == 0 && bits x 255 246 == 0 && bits x 287 278 == 0 && bits x 319 310 == 0 &&
    bits x 327 323 == 0 && bits x 331 330 == 0 && bits x 351 333 == 0 && bits x 511 374 == 0

/-- Bytes of a row of K elements of a class. -/
def TbDesc.rowBytes (d : TbDesc) : Nat := if d.cls = 1 then d.k / 2 else if d.cls = 2 then d.k else 2 * d.k

/-- Bytes of a spilled row of N elements. -/
def TbDesc.spillBytes (d : TbDesc) : Nat :=
  match d.sFmt with
  | 0 => 4 * d.n
  | 1 => 2 * d.n
  | 2 | 3 => d.n
  | _ => d.n / 2

/-- Are a base of an alignment and a stride well formed for rows of a length, and is the range within the store (R35,
R49, R50; log entry 16)? -/
def areaOk (base align rows stride row : Nat) : Bool :=
  base % align == 0 && stride % 32 == 0 && decide (row ≤ stride) && decide (base + rows * stride ≤ storeSize)

/-- Is a scale array of a length well formed? -/
def scalesOk (base len : Nat) : Bool := base % 16 == 0 && decide (base + len ≤ storeSize)

/-- The checks of R50 on a descriptor's bytes; the address check is made by the TB instruction. -/
def tbOk (b : List Byte) : Bool :=
  let x := leNat b
  let d := readTb b
  bits x 7 0 == 1 && decide (1 ≤ d.cls ∧ d.cls ≤ 3) &&
    (if d.cls = 2 then decide (d.aSub ≤ 1 ∧ d.bSub ≤ 1) else decide (d.aSub = 0 ∧ d.bSub = 0)) &&
    tbReservedOk x && decide (d.k ≤ 64 * 128) &&
    areaOk d.aBase 64 d.m d.aStride d.rowBytes && areaOk d.bBase 64 d.n d.bStride d.rowBytes &&
    (d.cls != 1 || (scalesOk d.aScale (d.m * (d.k / 16)) && scalesOk d.bScale (d.n * (d.k / 16)))) &&
    (!d.spill || (decide (d.sFmt ≤ 4 ∧ d.sRm ≤ 2) && (d.sFmt != 4 || d.n % 16 == 0) &&
      areaOk d.sBase 64 d.m d.sStride d.spillBytes && (d.sFmt != 4 || scalesOk d.sScale (d.m * (d.n / 16)))))

/-- Elements that a K-step takes (R42). -/
def TbDesc.kStep (d : TbDesc) : Nat := if d.cls = 1 then 16 else if d.cls = 2 then 8 else 4

/-- Cycles of a block (R42). -/
def TbDesc.cycles (d : TbDesc) : Nat := d.m / 16 * (d.n / 24) * (d.k / d.kStep)

/-- The estimate of a block in pJ (R163). -/
def State.tbEstimate (s : State) (d : TbDesc) : Nat :=
  d.cycles * s.getLive (if d.cls = 1 then .grb .estFp4Pj else if d.cls = 2 then .grb .estFp8Pj else .grb .estBf16Pj)

/-- Does a cluster's reserve cover a block: the estimate, or the ceiling where the estimate exceeds it (R48, R163)? One
unit of 2^-16 grain is 10^9 / 2^16 pJ (R161). -/
def State.reserveCovers (s : State) (c : Nat) (d : TbDesc) : Bool :=
  let est : Int := (s.tbEstimate d * 2 ^ 16 : Nat)
  let r := (s.cl c).reserve
  !(s.die (c / 208)).hold && (decide (est ≤ r * 10 ^ 9) ||
    (decide (s.ceilOf c * 10 ^ 9 < est) && decide (s.ceilOf c ≤ r)))

/-! ### Ranges (R35) -/

/-- Do two ranges of bytes meet? -/
def rangesMeet (a b : Nat × Nat) : Bool := decide (a.1 < b.1 + b.2 ∧ b.1 < a.1 + a.2 ∧ 0 < a.2 ∧ 0 < b.2)

/-- Does any range of one list meet one of another? -/
def anyMeet (a b : List (Nat × Nat)) : Bool := a.any fun x => b.any (rangesMeet x)

/-- The ranges a block reads. -/
def TbDesc.reads (d : TbDesc) : List (Nat × Nat) :=
  [(d.aBase, d.m * d.aStride), (d.bBase, d.n * d.bStride)] ++
    (if d.cls = 1 then [(d.aScale, d.m * (d.k / 16)), (d.bScale, d.n * (d.k / 16))] else [])

/-- The ranges a block's spill writes. -/
def TbDesc.writes (d : TbDesc) : List (Nat × Nat) :=
  if d.spill then
    (d.sBase, d.m * d.sStride) :: (if d.sFmt = 4 then [(d.sScale, d.m * (d.n / 16))] else [])
  else []

/-- Ranges that unfinished spills write. -/
def Cluster.spillWrites (k : Cluster) : List (Nat × Nat) := (k.spills.map fun d => d.desc.writes).flatten

/-- Ranges that issued blocks read, and those that blocks and spills write. -/
def Cluster.unfinishedReads (k : Cluster) : List (Nat × Nat) := (k.tbq.map fun b => b.desc.reads).flatten
/-- Ranges that issued blocks and unfinished spills write. -/
def Cluster.unfinishedWrites (k : Cluster) : List (Nat × Nat) :=
  (k.tbq.map fun b => b.desc.writes).flatten ++ k.spillWrites

/-! ### Accumulators -/

/-- A bank of a cluster. -/
def Cluster.bank (k : Cluster) (n : Nat) : AccBank := if n = 0 then k.acc0 else k.acc1

/-- Put a bank back. -/
def Cluster.setBank (k : Cluster) (n : Nat) (b : AccBank) : Cluster :=
  if n = 0 then { k with acc0 := b } else { k with acc1 := b }

/-- Cell i of a bank: what was written, +0 after a clear, else a free value (log entry 7). -/
def AccBank.cell (b : AccBank) (c n i : Nat) : Nat :=
  match b.cells.get? i with
  | some v => v
  | none => match b.fill with
    | none => 0
    | some e => (Config.freeAcc c e (n * 6144 + i)).toNat

/-! ### Operands -/

/-- The elements that bytes spell, two to a byte in FP4 (R37, R38). -/
def TbDesc.elements (d : TbDesc) (sub : Nat) (b : List Byte) : List FVal :=
  if d.cls = 1 then
    (b.map fun x => [e2m1.decode (x.toNat % 16), e2m1.decode (x.toNat / 16)]).flatten
  else if d.cls = 2 then b.map fun x => (if sub = 1 then e5m2 else e4m3).decode x.toNat
  else (List.range (b.length / 2)).map fun i => bf16.decode (leNat ((b.drop (2 * i)).take 2))

/-- The block scales of a row (R38); none outside the FP4-block class. -/
def State.rowScales (s : State) (c : Nat) (d : TbDesc) (base r : Nat) : List FVal :=
  if d.cls = 1 then (s.storeBytes c (base + r * (d.k / 16)) (d.k / 16)).map fun x => e4m3.decode x.toNat else []

/-- Row r of A with its scales. -/
def State.rowA (s : State) (c : Nat) (d : TbDesc) (r : Nat) : List FVal × List FVal :=
  (d.elements d.aSub (s.storeBytes c (d.aBase + r * d.aStride) d.rowBytes), s.rowScales c d d.aScale r)

/-- Row r of B with its scales. -/
def State.rowB (s : State) (c : Nat) (d : TbDesc) (r : Nat) : List FVal × List FVal :=
  (d.elements d.bSub (s.storeBytes c (d.bBase + r * d.bStride) d.rowBytes), s.rowScales c d d.bScale r)

/-- The cell of row r and column n after the block (R44, R45). -/
def TbDesc.cellOut (d : TbDesc) (acc : Nat) (a b : List FVal × List FVal) : Nat :=
  ksteps (d.k / d.kStep) d.kStep acc (List.zipWith fmul a.2 b.2) a.1 b.1

/-- The bank after a block: C + A × Bᵀ on the M × N cells, after a clear to +0 with CLEAR (R44, R46). -/
def State.blockBank (s : State) (c : Nat) (d : TbDesc) : AccBank :=
  let old : AccBank := if d.clear then ⟨none, []⟩ else (s.cl c).bank d.acc
  let rows := (List.range d.m).map (s.rowA c d)
  let cols := (List.range d.n).map (s.rowB c d)
  let cells := (List.range 6144).filterMap fun i =>
    match rows[i / 96]?, cols[i % 96]? with
    | some a, some b => some (i, d.cellOut (old.cell c d.acc i) a b)
    | _, _ => (old.cells.get? i).map fun v => (i, v)
  { old with cells }

/-! ### Spills -/

/-- The format of S_FMT 1 to 3. -/
def spillFmt (f : Nat) : Fmt := if f = 1 then bf16 else if f = 2 then e4m3 else e5m2

/-- The rounding of S_RM with a draw. -/
def spillMode (rm draw : Nat) : Rounding := if rm = 0 then .rne else if rm = 1 then .rtz else .sr draw

/-- Convert one element of a narrow spill: its bytes and flags (R51). -/
def TbDesc.spillElem (d : TbDesc) (draw v : Nat) : List Byte × FpFlags :=
  let (code, fl) := (spillFmt d.sFmt).convert (spillMode d.sRm draw) d.sSat (fp32.decode v)
  (leBytes (if d.sFmt = 1 then 2 else 1) code, fl)

/-- Convert a row: element bytes, scale bytes, flags; draws are those of its elements in order (R51 to R53). -/
def TbDesc.spillRow (d : TbDesc) (draws row : List Nat) : List Byte × List Byte × FpFlags :=
  match d.sFmt with
  | 0 => ((row.map fun v => leBytes 4 v).flatten, [], noFlags)
  | 4 =>
    let q := (List.range (row.length / 16)).map fun b =>
      quantiseBlock (((row.drop (16 * b)).take 16).map fp32.decode) fun i => spillMode d.sRm (draws.getD (16 * b + i) 0)
    let el := (q.map fun x => x.2.1).flatten
    ((List.range (el.length / 2)).map fun i => BitVec.ofNat 8 (el.getD (2 * i) 0 + 16 * el.getD (2 * i + 1) 0),
      q.map fun x => BitVec.ofNat 8 x.1, (q.map fun x => x.2.2).foldl FpFlags.or noFlags)
  | _ =>
    let q := row.mapIdx fun i v => d.spillElem (draws.getD i 0) v
    ((q.map (·.1)).flatten, [], (q.map (·.2)).foldl FpFlags.or noFlags)

/-- Set a one-bit field where b says so. -/
def State.raiseIf (s : State) (f : Fld) (i : Nat) (b : Bool) : State := if b then s.setF f i 1 else s

/-- Raise the sticky flags of CLU_FPFLAGS (R56). -/
def State.raiseFlags (s : State) (c : Nat) (f : FpFlags) : State :=
  ((((s.raiseIf (.clu .fpflagsInvalid) c f.invalid).raiseIf (.clu .fpflagsOverflow) c f.overflow).raiseIf
    (.clu .fpflagsUnderflow) c f.underflow).raiseIf (.clu .fpflagsInexact) c f.inexact).raiseIf (.clu .fpflagsSat) c f.sat

/-- Does a spill draw from the generator (R53, R54)? -/
def TbDesc.draws (d : TbDesc) : Bool := d.sRm == 2 && d.sFmt != 0

/-- Write the rows of a spill in order. -/
def State.spillRows (s : State) (c : Nat) (d : TbDesc) (draws : List Nat) (bank : AccBank) : List Nat → State
  | [] => s
  | r :: t =>
    let row := (List.range d.n).map fun j => bank.cell c d.acc (r * 96 + j)
    let (el, sc, fl) := d.spillRow ((draws.drop (r * d.n)).take d.n) row
    let s := (s.putStore c (d.sBase + r * d.sStride) el).putStore c (d.sScale + r * (d.n / 16)) sc
    (s.raiseFlags c fl).spillRows c d draws bank t

/-- The generator past the draws of a spill (R54). -/
def TbDesc.genAfter (d : TbDesc) (g : Nat) : Nat := (srDraws (d.m * d.n) g).2

/-- A spill of a block begins: one that draws takes its sequence from the generator now, or waits while a seed is held (R54,
R63; log entry 160). -/
def Cluster.beginSpill (k : Cluster) (d : TbDesc) : Cluster :=
  if d.draws && k.heldSeed.isNone then { k with spills := k.spills ++ [⟨d, some k.gen⟩], gen := d.genAfter k.gen }
  else { k with spills := k.spills ++ [⟨d, none⟩] }

/-- Is a spill one that draws and has its sequence? -/
def Spill.drawing (x : Spill) : Bool := x.desc.draws && x.gen.isSome

/-- Has a spill all it needs to end? -/
def Spill.ready (x : Spill) : Bool := !x.desc.draws || x.gen.isSome

/-- Give the spills that wait for a sequence theirs, in order. -/
def startDraws : List Spill → Nat → List Spill × Nat
  | [], g => ([], g)
  | x :: t, g =>
    if x.ready then
      let (l, g) := startDraws t g
      (x :: l, g)
    else
      let (l, g') := startDraws t (x.desc.genAfter g)
      ({ x with gen := some g } :: l, g')

/-- Load a held seed once the SR spills that were in progress at its write have completed; those begun since draw from the
new sequence (R54, R63; log entry 160). -/
def State.loadHeldSeed (s : State) (c : Nat) : State :=
  let k := s.cl c
  match k.heldSeed with
  | some n =>
    if k.spills.any Spill.drawing then s
    else
      let (l, g) := startDraws k.spills (srSeed n)
      s.modCl c fun k => { k with gen := g, heldSeed := none, spills := l }
  | none => s

/-- Write a whole spill: its draws are taken row by row, ascending column within a row (R54). -/
def State.writeSpill (s : State) (c : Nat) (x : Spill) : State :=
  let d := x.desc
  let draws := match d.draws, x.gen with
    | true, some g => (srDraws (d.m * d.n) g).1
    | _, _ => []
  s.spillRows c d draws ((s.cl c).bank d.acc) (List.range d.m)

/-! ### Blocks -/

/-- May the block at the head of a cluster's queue start: nothing runs, no spill of its bank is left, no range is in use
(R35, R46)? -/
def Cluster.blockReady (k : Cluster) : Bool :=
  match k.tbq with
  | [] => false
  | b :: _ => !b.started && !(k.spills.any fun x => x.desc.acc == b.desc.acc) && !anyMeet b.desc.reads k.spillWrites &&
      !anyMeet b.desc.writes k.spillWrites

/-- Count a completed block (R62). -/
def State.countBlock (s : State) (c : Nat) : State := s.add64 (.clu .tbCountLoCountLo) (.clu .tbCountHiCountHi) c 1

/-- Charge energy to a cluster's reserve (R162). -/
def State.charge (s : State) (c units : Nat) : State :=
  (s.modCl c fun k => { k with reserve := k.reserve - units }).modDie (c / 208) fun d => { d with spent := d.spent + units }

/-- Does the next block wait on the grain reserve (R84)? -/
def State.blockWaits (s : State) (c : Nat) : Bool :=
  match (s.cl c).tbq with
  | b :: _ => (s.cl c).blockReady && !s.reserveCovers c b.desc
  | [] => false

/-- STEEP_CAUSE of a cluster in TBWAIT: 4 while the next block waits on the grain reserve, else 7 (R84). -/
def State.showTbCause (s : State) (c : Nat) : State :=
  if (s.cl c).wait = some .tensor then s.setF (.clu .statusSteepCause) c (if s.blockWaits c then 4 else 7) else s

/-- TB (R47, R50): the descriptor is checked; a refused one stops the program, one with K = 0 completes at once, any other
is issued. DESIGN CHOICE (log entry 161): the status ZERO of R47 shows in no register, and a block with K = 0 counts as
completed in CLU_TB_COUNT. -/
def execTb (c : Nat) (ecc : StoreEcc) (s : State) : Host.Outcome State Fault Refusal :=
  .next <| s.issue c fun s w =>
    if opc w ≠ 0x30 then s
    else
      let a := s.effAddr c w
      if a % 64 ≠ 0 ∨ a + 64 > storeSize then s.faultStop c .tbInvalid
      else
        match s.storeRead c a 64 ecc with
        | (s, none) => s.faultStop c .storeUe
        | (s, some b) =>
          if !tbOk b then s.faultStop c .tbInvalid
          else if (readTb b).k = 0 then (s.countBlock c).nextPc c
          else (s.modCl c fun k => { k with tbq := k.tbq ++ [⟨readTb b, false⟩] }).nextPc c

/-- Start of the block at the head of the queue (R35, R46, R48, R163); an uncorrectable operand abandons it (R34). -/
def execTensorBlockStart (c : Nat) (ecc : StoreEcc) (s : State) : Host.Outcome State Fault Refusal :=
  .next <|
    match (s.cl c).tbq with
    | [] => s
    | b :: t =>
      if !(s.cl c).blockReady || s.gated c || s.power.hotN || !decide (c < 832) then s
      else if !s.reserveCovers c b.desc then s.showTbCause c
      else
        match s.storeEcc c ecc with
        | (s, true) => (s.modCl c fun k => { k with tbq := { b with started := true } :: t }).showTbCause c
        | (s, false) => ((s.modCl c fun k => { k with tbq := t }).faultStop c .storeUe)

/-- End of the running block: the accumulators hold its result, its measured energy is charged, and its spill begins (R44,
R46, R48, R162). A seed whose spills have completed is loaded first (R63). DESIGN CHOICE (log entry 162): what the code shows
of the operands is taken at the block's start, their bytes here. -/
def execTensorBlockEnd (c units : Nat) (s : State) : Host.Outcome State Fault Refusal :=
  .next <|
    match (s.cl c).tbq with
    | [] => s
    | b :: t =>
      if !b.started then s
      else
        let bank := s.blockBank c b.desc
        let s := s.loadHeldSeed c
        let s := s.modCl c fun k =>
          let k := { (k.setBank b.desc.acc bank) with tbq := t }
          if b.desc.spill then k.beginSpill b.desc else k
        (((s.charge c units).countBlock c).unitWake c).showTbCause c

/-- End of spill n of those in progress: its rows stand in the store (R35, R51 to R54). -/
def execSpillDone (c n : Nat) (s : State) : Host.Outcome State Fault Refusal :=
  .next <|
    let s := s.loadHeldSeed c
    match (s.cl c).spills[n]? with
    | none => s
    | some x =>
      if !x.ready then s
      else
        (((s.writeSpill c x).modCl c fun k => { k with spills := k.spills.eraseIdx n }).unitWake c).showTbCause c

/-- TBWAIT: the cluster steeps until every issued block and spill has completed (R57, R84, R150). -/
def execTbwait (c : Nat) (s : State) : Host.Outcome State Fault Refusal :=
  .next <| s.issue c fun s w =>
    if opc w ≠ 0x31 then s
    else
      let s := s.nextPc c
      if (s.cl c).tensorBusy then (s.steep c 7 .tensor).showTbCause c else s

end Sys2Proof.Machine
end

