-- ==== Sys2Proof/Machine/Vector.lean ====
section
/-!
DEFINITION. The vector unit (R55, R56) and its command VOP.
-/

namespace Sys2Proof.Machine

/-- The lanes of a vector register; one that holds no lanes reads as free values (log entry 7). -/
def State.vlanes (s : State) (c v : Nat) : List Nat :=
  let k := s.cl c
  match k.vregs.get? (v % 16) with
  | some (.lanes l) => l
  | _ => (List.range 256).map fun i => (Config.freeLane c k.vEpoch (v % 16) i).toNat

/-- The lane mask in a vector register; one that holds none reads as free values (log entry 7). -/
def State.vmask (s : State) (c v : Nat) : List Bool :=
  let k := s.cl c
  match k.vregs.get? (v % 16) with
  | some (.mask l) => l
  | _ => (List.range 256).map fun i => (Config.freeLane c k.vEpoch (16 + v % 16) i).toNat % 2 == 1

/-- Write a vector register. -/
def State.setVreg (s : State) (c v : Nat) (r : VReg) : State :=
  s.modCl c fun k => { k with vregs := k.vregs.set (v % 16) r }

/-- The rounding of the vector unit (R55). -/
def vecMode : VecRound → Rounding
  | .rne => .rne
  | .rtz => .rtz
  | .up => .up
  | .down => .down

/-- Write the lanes of a result and raise their flags. -/
def State.vresult (s : State) (c d : Nat) (l : List (Nat × FpFlags)) : State :=
  (s.setVreg c d (.lanes (l.map (·.1)))).raiseFlags c ((l.map (·.2)).foldl FpFlags.or noFlags)

/-- Move the magnitude of a code by a number of units in the last place; below zero the sign turns. -/
def addUlp (code : Nat) (off : Int) : Nat :=
  let m : Int := (code % 2 ^ 31 : Nat) + off
  let neg := decide (code ≥ 2 ^ 31)
  (if neg != decide (m < 0) then 2 ^ 31 else 0) + min m.natAbs 0x7F800000

/-- An approximation's base code and the number of units below and above it that the result may lie at: at most 1 ulp for
the reciprocals, 2 ulp for exp2 and log2 (R55; log entry 9); none where the spec states no result. -/
def approxBase (fn : VecApprox) (x : Nat) : Option (Nat × Nat × Nat) :=
  match fn with
  | .recip => (recipFloor x).map fun r =>
      ((if x ≥ 2 ^ 31 then 2 ^ 31 else 0) + r.1, if r.2 then (1, 1) else (0, 1))
  | .rsqrt => (rsqrtFloor x).map fun r => (r.1, if r.2 then (1, 1) else (0, 1))
  | .exp2 => (exp2Near x).map fun v => ((toFp32 .rne v).1, (3, 3))
  | .log2 => (log2Near x).map fun v => ((toFp32 .rne v).1, (3, 3))

/-- The number of an approximation. -/
def approxIdx : VecApprox → Nat
  | .recip => 0
  | .rsqrt => 1
  | .exp2 => 2
  | .log2 => 3

/-- One lane of an approximation: NaN gives the canonical NaN (R56), an unstated result is a free value, any other lies
within the error of R55 at a place that is a free value; both depend on the operand alone (R60; log entry 9). -/
def approxLane (fn : VecApprox) (x : Nat) : Nat :=
  if (fp32.decode x).isNan then 0x7FC00000
  else
    let f := (Config.approxPick (approxIdx fn) x).toNat
    match approxBase fn x with
    | none => f
    | some (b, lo, hi) => addUlp b ((f % (lo + hi + 1) : Nat) - (lo : Int))

/-- The flags of one lane of an approximation: the spec gives its error and not its flags, so all but the INVALID of a
signalling NaN are free values (R56; log entry 9). -/
def approxFlags (fn : VecApprox) (x : Nat) : FpFlags :=
  let f := Config.approxFlags (approxIdx fn) x
  if (fp32.decode x).isNan then snanFlag [x] else ⟨f.getLsbD 0, f.getLsbD 1, f.getLsbD 2, f.getLsbD 3, false⟩

/-- The narrow format of a conversion. -/
def vecFormat : VecFmt → Fmt
  | .bf16 => bf16
  | .e4m3 => e4m3
  | .e5m2 => e5m2
  | .e2m1 => e2m1
  | .int32 => fp32

/-- The number of a rounding mode. -/
def roundIdx : VecRound → Nat
  | .rne => 0
  | .rtz => 1
  | .up => 2
  | .down => 3

/-- Convert a lane to a narrow format: its code stands in the low bits of the lane (R51, R55; log entry 10). A number that
fits no INT32 gives a free value that depends on it alone (R60). -/
def convertToLane (fmt : VecFmt) (rm : VecRound) (sat : Bool) (x : Nat) : Nat × FpFlags :=
  let r := match fmt with
    | .int32 => match laneToInt (vecMode rm) x with
      | (some v, fl) => (v, fl)
      | (none, fl) => ((Config.unfitInt (roundIdx rm) x).toNat, fl)
    | _ => (vecFormat fmt).convert (vecMode rm) sat (fp32.decode x)
  (r.1, r.2.or (snanFlag [x]))

/-- Is a BF16 code a signalling NaN? The FP8 formats have none: DESIGN CHOICE (log entry 158). -/
def isBf16SNaN (x : Nat) : Bool := decide (x % 2 ^ 15 > 0x7F80) && !x.testBit 6

/-- Convert one lane from a narrow format to FP32: exact but for INT32; a signalling NaN sets INVALID (R56). -/
def convertFromLane (fmt : VecFmt) (rm : Rounding) (x : Nat) : Nat × FpFlags :=
  match fmt with
  | .int32 => laneFromInt rm x
  | .bf16 =>
    let r := toFp32 rm (bf16.decode (x % 2 ^ 16))
    (r.1, r.2.or { noFlags with invalid := isBf16SNaN x })
  | _ => toFp32 rm ((vecFormat fmt).decode (x % 2 ^ (vecFormat fmt).bits))

/-- The compare function. -/
def vecCmpFn : VecCmp → CmpFn
  | .eq => .eq
  | .lt => .lt
  | .le => .le

/-- The ranges of the store that an operation reads. -/
def vecReads : VecOp → List (Nat × Nat)
  | .load _ a => [(a / 64 * 64, 1024)]
  | _ => []

/-- The ranges of the store that an operation writes. -/
def vecWrites : VecOp → List (Nat × Nat)
  | .store _ a => [(a / 64 * 64, 1024)]
  | _ => []

/-- May an operation start beside the unfinished blocks and spills (R35)? -/
def Cluster.vopReady (k : Cluster) (op : VecOp) : Bool :=
  !anyMeet (vecReads op) k.unfinishedWrites && !anyMeet (vecWrites op) (k.unfinishedReads ++ k.unfinishedWrites)

/-- Lane by lane over two registers. -/
def State.lanes2 (s : State) (c d a b : Nat) (f : Nat → Nat → Nat × FpFlags) : State :=
  s.vresult c d (List.zipWith f (s.vlanes c a) (s.vlanes c b))

/-- The effect of a vector operation (R55, R56); a lane sum or maximum writes the scalar register of the word's DST. -/
def State.vectorOp (s : State) (c dst : Nat) (op : VecOp) : State :=
  match op with
  | .load d a => s.setVreg c d (.lanes ((List.range 256).map fun i => leNat (s.storeBytes c (a / 64 * 64 + 4 * i) 4)))
  | .store v a => s.putStore c (a / 64 * 64) ((s.vlanes c v).map fun x => leBytes 4 x).flatten
  | .fma rm d a b e =>
    s.vresult c d (List.zipWith (fun xy z => laneFma (vecMode rm) xy.1 xy.2 z) ((s.vlanes c a).zip (s.vlanes c b)) (s.vlanes c e))
  | .add rm d a b => s.lanes2 c d a b (laneAdd (vecMode rm))
  | .sub rm d a b => s.lanes2 c d a b (laneSub (vecMode rm))
  | .mul rm d a b => s.lanes2 c d a b (laneMul (vecMode rm))
  | .min d a b => s.lanes2 c d a b (laneMinMax false)
  | .max d a b => s.lanes2 c d a b (laneMinMax true)
  | .abs d a => s.vresult c d ((s.vlanes c a).map laneAbs)
  | .neg d a => s.vresult c d ((s.vlanes c a).map laneNeg)
  | .compare fn d a b =>
    let r := List.zipWith (laneCmp (vecCmpFn fn)) (s.vlanes c a) (s.vlanes c b)
    (s.setVreg c d (.mask (r.map (·.1)))).raiseFlags c ((r.map (·.2)).foldl FpFlags.or noFlags)
  -- DESIGN CHOICE (log entry 158): select passes a NaN lane on as it is.
  | .select d m a b =>
    s.setVreg c d (.lanes (List.zipWith (fun m x => if m then x.1 else x.2) (s.vmask c m)
      ((s.vlanes c a).zip (s.vlanes c b))))
  | .approx fn d a => s.vresult c d ((s.vlanes c a).map fun x => (approxLane fn x, approxFlags fn x))
  | .convertTo fmt rm sat d a => s.vresult c d ((s.vlanes c a).map (convertToLane fmt rm sat))
  | .convertFrom fmt rm d a => s.vresult c d ((s.vlanes c a).map (convertFromLane fmt (vecMode rm)))
  | .laneSum rm a =>
    let (v, fl) := laneTree (vecMode rm) 8 (s.vlanes c a)
    (s.setSreg c dst v).raiseFlags c fl
  | .laneMax a =>
    let l := s.vlanes c a
    let r := (l.drop 1).foldl (fun x y => let z := laneMinMax true x.1 y; (z.1, x.2.or z.2)) (l.headD 0, noFlags)
    (s.setSreg c dst r.1).raiseFlags c r.2
  | .permute d a p =>
    let l := s.vlanes c a
    s.setVreg c d (.lanes ((List.range 256).map fun i => l.getD (p.getD i i % 256) 0))
  | .broadcast d a lane =>
    let l := s.vlanes c a
    s.setVreg c d (.lanes (List.replicate 256 (l.getD (lane % 256) 0)))

/-- Does an operation stay within the store? -/
def vecInStore : VecOp → Bool
  | .load _ a | .store _ a => decide (a / 64 * 64 + 1024 ≤ storeSize)
  | _ => true

/-- An access outside the store, for which the spec states no effect: a load gives free lanes and a store writes nothing
(log entry 10). -/
def State.vectorOut (s : State) (c : Nat) (op : VecOp) : State :=
  match op with
  | .load d a =>
    s.setVreg c d (.lanes ((List.range 256).map fun i => leNat (s.outsideBytes c (a / 64 * 64 + 4 * i) 4)))
  | _ => s

/-- VOP: a vector operation once it may start beside the unfinished blocks and spills (R35, R55, R57); an uncorrectable
error in a load faults the cluster (R34). -/
def execVop (c : Nat) (op : VecOp) (ecc : StoreEcc) (s : State) : Host.Outcome State Fault Refusal :=
  .next <| s.issue c fun s w =>
    if !decide (0x40 ≤ opc w ∧ opc w ≤ 0x7F) || !(s.cl c).vopReady op then s
    else if !vecInStore op then (s.vectorOut c op).nextPc c
    else if (vecReads op).isEmpty then (s.vectorOp c (dstReg w) op).nextPc c
    else
      match s.storeEcc c ecc with
      | (s, true) => (s.vectorOp c (dstReg w) op).nextPc c
      | (s, false) => s.faultStop c .storeUe

end Sys2Proof.Machine
end

