-- ==== Sys2Proof/Machine/Sequencer.lean ====
section
/-!
DEFINITION. The scalar sequencer (R57, R58) and the commands of a cluster that are not those of another unit: scalar
operations, branches, loads and stores, stops, step markers, seeds, HALT and the lending of a reserve.
-/

namespace Sys2Proof.Machine

/-- A scalar compare's truth. -/
def scalarHolds (fn : ScalarFn) (a b : Nat) : Bool :=
  match fn with
  | .eq => a == b
  | .ne => a != b
  | .lt => decide (signed 64 a < signed 64 b)
  | .le => decide (signed 64 a ≤ signed 64 b)
  | .ltu => decide (a < b)
  | _ => decide (a ≤ b)

/-- The result of a scalar function of two 64-bit values under an opcode: a shift by 64 or more, and a function the spec does
not name, give free values of the operands (log entries 9 and 10). -/
def scalarResult (o : Nat) (fn : ScalarFn) (a b : Nat) : Nat :=
  match fn with
  | .add => (a + b) % 2 ^ 64
  | .sub => (a + 2 ^ 64 - b % 2 ^ 64) % 2 ^ 64
  | .mul => a * b % 2 ^ 64
  | .and => a &&& b
  | .or => a ||| b
  | .xor => a ^^^ b
  | .not => 2 ^ 64 - 1 - a % 2 ^ 64
  | .shl => if b < 64 then a * 2 ^ b % 2 ^ 64 else (Config.scalarOpen o 0 a b).toNat
  | .shr => if b < 64 then a / 2 ^ b else (Config.scalarOpen o 1 a b).toNat
  | .sar => if b < 64 then unsigned 64 (signed 64 a / 2 ^ b) else (Config.scalarOpen o 2 a b).toNat
  | .eq | .ne | .lt | .le | .ltu | .leu => (Config.compareWord (scalarHolds fn a b)).toNat
  | .other => (Config.scalarOpen o 3 a b).toNat

/-- SCALAR_OP (R57): the function of SRCA and of SRCB or IMM goes to DST. -/
def execScalarOp (c : Nat) (fn : ScalarFn) (useImm : Bool) (s : State) : Host.Outcome State Fault Refusal :=
  .next <| s.issue c fun s w =>
    if !decide (0x01 ≤ opc w ∧ opc w ≤ 0x1F) then s
    else
      let a := s.sreg c (srcA w)
      let b := if useImm then unsigned 64 (immVal w) else s.sreg c (srcB w)
      (s.setSreg c (dstReg w) (scalarResult (opc w) fn a b)).nextPc c

/-- Is a branch taken? A condition the spec does not name has a free outcome of the operands (log entry 10). -/
def branchTaken (o : Nat) (cond : BranchCond) (a b : Nat) : Bool :=
  match cond with
  | .always => true
  | .eq => a == b
  | .ne => a != b
  | .lt => decide (signed 64 a < signed 64 b)
  | .ge => decide (signed 64 b ≤ signed 64 a)
  | .ltu => decide (a < b)
  | .geu => decide (b ≤ a)
  | .other => Config.branchOpen o a b

/-- Where a taken branch goes: IMM is a signed byte offset (R57; log entry 9). -/
def branchTarget (pc w : Nat) : Nat :=
  unsigned 64 ((if Config.branchFromNext then pc + 8 else pc : Nat) + immVal w)

/-- BRANCH (R57). -/
def execBranch (c : Nat) (cond : BranchCond) (s : State) : Host.Outcome State Fault Refusal :=
  .next <| s.issue c fun s w =>
    if !decide (0x20 ≤ opc w ∧ opc w ≤ 0x27) then s
    else
      if branchTaken (opc w) cond (s.sreg c (srcA w)) (s.sreg c (srcB w)) then s.setPc c (branchTarget (s.cl c).pc w)
      else s.nextPc c

/-- LDS and STS (R34, R57): a 64-bit word at SRCA + IMM to DST, or from SRCB. Outside the store, where the spec states no
effect, a load gives a free value and a store writes nothing (log entry 10). -/
def execLdsSts (c : Nat) (store : Bool) (ecc : StoreEcc) (s : State) : Host.Outcome State Fault Refusal :=
  .next <| s.issue c fun s w =>
    if opc w ≠ 0x28 then s
    else
      let a := s.effAddr c w
      if a + 8 > storeSize then
        if store then s.nextPc c else (s.setSreg c (dstReg w) (leNat (s.outsideBytes c a 8))).nextPc c
      else if store then (s.putStore c a (leBytes 8 (s.sreg c (srcB w)))).nextPc c
      else
        match s.storeRead c a 8 ecc with
        | (s, some b) => (s.setSreg c (dstReg w) (leNat b)).nextPc c
        | (s, none) => s.faultStop c .storeUe

/-! ### Stops -/

/-- Is an opcode one of R57? -/
def opcodeListed (o : Nat) : Bool :=
  decide (0x01 ≤ o ∧ o ≤ 0x28) || o == 0x30 || o == 0x31 || decide (0x40 ≤ o ∧ o ≤ 0x81) ||
    decide (0x90 ≤ o ∧ o ≤ 0x93) || o == 0xA0 || o == 0xA1 || o == 0xB0 || o == 0xF0

/-- Are the bits that R71 and R137 name reserved zero in an instruction and its source values (log entry 17)? -/
def State.reservedOk (s : State) (c w : Nat) : Bool :=
  let a := s.sreg c (srcA w)
  let b := s.sreg c (srcB w)
  let imm := immBits w
  match opc w with
  | 0x90 => decide (a < 2 ^ 16) && decide (b = 0) && decide (imm < 2 ^ 8)
  | 0x91 => decide (a < 2 ^ 16) && bits imm 39 8 == 0 && (if imm.testBit 40 then decide (b < 2 ^ 14) else decide (b = 0))
  | 0x92 => decide (a < 2 ^ 16) && decide (b = 0) && decide (imm < 3)
  | 0x93 => decide (a < 2 ^ 16) && decide (b = 0) && decide (imm < 2 ^ 9)
  | 0xA0 => decide (a < 2 ^ 9) && bits imm 39 22 == 0
  | _ => true

/-- Is the address of a DMA descriptor aligned and in the store (R57)? -/
def dmaAddrOk (a : Nat) : Bool := a % 64 == 0 && decide (a + 64 ≤ storeSize)

/-- Does an instruction stop the program with OP_INVALID (R57)? -/
def State.opInvalid (s : State) (c w : Nat) : Bool :=
  !opcodeListed (opc w) || !s.reservedOk c w || (opc w == 0x80 && !dmaAddrOk (s.effAddr c w))

/-- Is an opcode one whose encodings the spec does not give (scalar, branch, load and store, vector)? -/
def openEncoding (o : Nat) : Bool := decide (0x01 ≤ o ∧ o ≤ 0x28) || decide (0x40 ≤ o ∧ o ≤ 0x7F)

/-- ILLEGAL_INSTRUCTION (R57): the program stops with OP_INVALID before the instruction has any other effect. reservedEnc:
the word is a reserved encoding of a class whose encodings the spec does not give (R62, log entry 10). -/
def execIllegalInstruction (c : Nat) (reservedEnc : Bool) (s : State) : Host.Outcome State Fault Refusal :=
  .next <| s.issue c fun s w =>
    if s.opInvalid c w || (reservedEnc && openEncoding (opc w)) then s.faultStop c .opInvalid else s

/-- FETCH_FAULT (R34, R57): a fetch outside the store stops with FETCH_RANGE, an uncorrectable one with STORE_UE; a
corrected one is counted. -/
def execFetchFault (c : Nat) (ecc : StoreEcc) (s : State) : Host.Outcome State Fault Refusal :=
  .next <|
    if s.fetching c then
      if s.fetchIn c then
        match s.storeEcc c ecc with
        | (s, true) => s
        | (s, false) => s.faultStop c .storeUe
      else s.faultStop c .fetchRange
    else s

/-! ### Markers, seeds, HALT and lending -/

/-- STEP (R58): a marker of a decode or prefill step is forwarded to Copper, or counted as dropped; other types are no
marker. spaced: at least 10 µs have passed since the cluster's last forwarded marker. -/
def execStep (c : Nat) (spaced : Bool) (s : State) : Host.Outcome State Fault Refusal :=
  .next <| s.issue c fun s w =>
    if opc w ≠ 0xB0 then s
    else
      let kind := bits w 1 0
      if kind = 1 ∨ kind = 2 then
        if spaced then
          let s := s.addWrap (.clu .stepCountForwarded) c 1
          let m : Marker := ⟨c / 208, bits w 15 8, kind == 2⟩
          { s.nextPc c with cop := { s.cop with markers := s.cop.markers ++ [m] } }
        else (s.addSat (.clu .stepCountDropped) c 1).nextPc c
      else s.nextPc c

/-- A write of CLU_SR_SEED_HI (R54, R63): it loads the generator, or is held while an SR spill is in progress. DESIGN CHOICE
(log entry 160): a held write takes SEED_LO as it stands at the write, and SEED_HI reads the written value at once. -/
def State.seedWrite (s : State) (c v : Nat) : State :=
  let s := s.setF (.clu .srSeedHiSeedHi) c v
  let seed := s.get64 (.clu .srSeedLoSeedLo) (.clu .srSeedHiSeedHi) c
  (s.modCl c fun k => { k with heldSeed := some seed }).loadHeldSeed c

/-- Does a cluster's window take writes: the cluster exists, its die is on, it is not gated (R63, R476)? -/
def State.cluWrites (s : State) (c : Nat) : Bool := decide (c < 832) && s.isOn (.core (c / 208)) && !s.gated c

/-- CLU_SR_SEED_WRITE (R54, R62, R63). -/
def execCluSrSeedWrite (c : Nat) (value : Word) (s : State) : Host.Outcome State Fault Refusal :=
  .next <| if s.cluWrites c then s.seedWrite c value.toNat else s

/-- HELD_SEED_LOAD (R63): a held seed is loaded once the SR spill has completed. -/
def execHeldSeedLoad (c : Nat) (s : State) : Host.Outcome State Fault Refusal := .next (s.loadHeldSeed c)

/-- A write of CLU_CTRL (R62): HALT stops fetching, clearing it lets an unfaulted program fetch (log entry 18). -/
def State.haltWrite (s : State) (c v : Nat) : State :=
  let s := s.setF (.clu .ctrlHalt) c v
  if v % 2 = 1 then s.setF (.clu .statusRunning) c 0
  else if s.flag (.clu .statusFaulted) c then s else s.setF (.clu .statusRunning) c 1

/-- CLU_HALT_WRITE (R62, R63). -/
def execCluHaltWrite (c : Nat) (value : Word) (s : State) : Host.Outcome State Fault Refusal :=
  .next <| if s.cluWrites c then s.haltWrite c value.toNat else s

/-- STEEP_LEND_TIMER (R151, R166): after 20 µs on a token, a credit, a gate or a DMA completion the reserve returns to the
die pool. -/
def execSteepLendTimer (c : Nat) (s : State) : Host.Outcome State Fault Refusal :=
  .next <|
    if s.flag (.clu .statusSteeping) c && [1, 2, 3, 5, 6].contains (s.getF (.clu .statusSteepCause) c) then
      (s.returnReserve c).modCl c fun k => { k with lent := true }
    else s

end Sys2Proof.Machine
end

