-- ==== Sys2Proof/Machine/DmaUnit.lean ====
section
/-!
DEFINITION. The commands of the DMA engine (R82 to R91): posting descriptors, bursts, retirement, credits and limits, and
the waits DMAWAIT and FENCE.
-/

namespace Sys2Proof.Machine

/-- Post the descriptor at SRCA + IMM if its OP is one the command stands for: accepted, or the cluster steeps with cause
6 while 16 are held (R85, R87). -/
def State.dmaInstr (s : State) (c : Nat) (ecc : StoreEcc) (isOp : Nat → Bool) : State :=
  s.issue c fun s w =>
    let a := s.effAddr c w
    if opc w ≠ 0x80 || !dmaAddrOk a || !isOp (readDma (s.storeBytes c a 64)).op then s
    else if (s.cl c).dmas.length ≥ 16 then (s.nextPc c).steep c 6 (.dmaFull a)
    else if ecc = .ue then s.acceptDma c a ecc
    else (s.nextPc c).acceptDma c a ecc

/-- COPY (R87): a descriptor of OP COPY, or of an OP that the engine completes with INVALID. -/
def execCopy (c : Nat) (ecc : StoreEcc) (s : State) : Host.Outcome State Fault Refusal :=
  .next <| s.dmaInstr c ecc fun op => op != 2 && op != 3 && op != 4

/-- FILL (R87). -/
def execFill (c : Nat) (ecc : StoreEcc) (s : State) : Host.Outcome State Fault Refusal :=
  .next <| s.dmaInstr c ecc (· == 2)

/-- ADD_F32 (R87, R89). -/
def execAddF32 (c : Nat) (ecc : StoreEcc) (s : State) : Host.Outcome State Fault Refusal :=
  .next <| s.dmaInstr c ecc (· == 3)

/-- POST (R90). -/
def execPost (c : Nat) (ecc : StoreEcc) (s : State) : Host.Outcome State Fault Refusal :=
  .next <| s.dmaInstr c ecc (· == 4)

/-- DMA_DEFERRED_ACCEPT: a descriptor posted while 16 were held is accepted once one has retired, and the cluster goes on
(R84). -/
def execDmaDeferredAccept (c : Nat) (ecc : StoreEcc) (s : State) : Host.Outcome State Fault Refusal :=
  .next <|
    match (s.cl c).wait with
    | some (.dmaFull a) => if (s.cl c).dmas.length < 16 then (s.wake c).acceptDma c a ecc else s
    | _ => s

/-- STEEP_CAUSE of a cluster in DMAWAIT or FENCE: what holds up the oldest descriptor; 7 in a FENCE that waits for the
tensor unit alone (R84). -/
def State.showDmaCause (s : State) (c : Nat) : State :=
  let k := s.cl c
  match k.wait with
  | some (.dma _) | some .fence =>
    s.setF (.clu .statusSteepCause) c (match k.dmas with
      | [] => 7
      | d :: _ => if d.waits = 0 then 6 else d.waits)
  | _ => s

/-- DMA_BURST_ISSUE (R82, R83): descriptor j of a cluster's engine starts if it may, and issues its next burst or packet,
or waits for a credit. -/
def execDmaBurstIssue (c j : Nat) (ecc : StoreEcc) (mecc : List MemEcc) (s : State) : Host.Outcome State Fault Refusal :=
  .next (s.issueBurst c j ecc mecc)

/-- DMA_RETIRE (R88, R90): the oldest descriptor retires once it has finished. -/
def execDmaRetire (c : Nat) (s : State) : Host.Outcome State Fault Refusal := .next ((s.retireDma c).showDmaCause c)

/-- LINK_CREDIT_TIMEOUT (R91): a descriptor that has waited 2 ms for a link credit completes with LINK_FAIL. -/
def execLinkCreditTimeout (c j : Nat) (s : State) : Host.Outcome State Fault Refusal :=
  .next <|
    match (s.cl c).dmas[j]? with
    | none => s
    | some d =>
      if d.waits = 3 then
        let s := { s with ixf := { s.ixf with linkQ := s.ixf.linkQ.mapVals [] fun q => q.filter fun x => x ≠ c } }
        (s.dmaWaits c j 0).failDma c j 4
      else s

/-- DMAWAIT (R57, R84, R88): the cluster steeps until its engine has retired as many descriptors as SRCB says. -/
def execDmawait (c : Nat) (s : State) : Host.Outcome State Fault Refusal :=
  .next <| s.issue c fun s w =>
    if opc w ≠ 0x81 then s
    else
      let n := s.sreg c (srcB w)
      let s := s.nextPc c
      if (s.cl c).dmaRetired ≥ n then s else (s.steep c 6 (.dma n)).showDmaCause c

/-- FENCE (R57, R84): the cluster steeps until every earlier operation of every unit has completed. -/
def execFence (c : Nat) (s : State) : Host.Outcome State Fault Refusal :=
  .next <| s.issue c fun s w =>
    if opc w ≠ 0xF0 then s
    else
      let s := s.nextPc c
      if (s.cl c).tensorBusy || !(s.cl c).dmas.isEmpty then (s.steep c 6 .fence).showDmaCause c else s

end Sys2Proof.Machine
end

