-- ==== Sys2Proof/Machine/WorkIssue.lean ====
section
/-!
DEFINITION. The commands of work issue (R64 to R100): claims, DONE, the registers of the rings, completion records,
timeouts and stalls. A ring number is taken modulo 512.
-/

namespace Sys2Proof.Machine

/-! ### Claiming -/

/-- Would a claim overtake another: does one wait on the ring that is not passed over for a slice (R73, R428; log entry 19)? -/
def State.claimWaits (s : State) (r : Nat) : Bool := (s.ring r).waiters.any fun x => !(s.cl x.cluster).inSlice

/-- CLAIM (R71 to R74): a descriptor is delivered, or the claim returns EMPTY with LIMIT and DENIED, or the cluster steeps.
A claim does not overtake those that wait on the ring and can be served (log entry 19). -/
def execClaim (c : Nat) (mecc : List MemEcc) (s : State) : Host.Outcome State Fault Refusal :=
  .next <| s.issue c fun s w =>
    if opc w ≠ 0xA0 || !s.reservedOk c w then s
    else
      let r := s.sreg c (srcA w) % 2 ^ 9
      let landing := bits w 21 6 * 64
      let dst := dstReg w
      let limit := decide ((s.cl c).tokens.length ≥ 2)
      let denied := s.claimDenied c r
      let s := s.nextPc c
      if limit || denied then s.claimEmpty c r dst landing limit denied
      else
        let (s, h) := if s.claimWaits r then (s, none) else s.nextDescriptor r mecc
        match h with
        | some h => s.deliver c r dst landing h
        | none =>
          if (immBits w).testBit 40 then s.claimEmpty c r dst landing false false
          else (s.steep c 1 (.token r dst landing)).modRing r fun x => { x with waiters := x.waiters ++ [⟨c, dst, landing⟩] }

/-- CLAIM_SERVED (R66, R73): the claim that has waited longest on a ring receives the next descriptor; a cluster on which
a slice runs is passed over (R428). -/
def execClaimServed (ring : Nat) (mecc : List MemEcc) (s : State) : Host.Outcome State Fault Refusal :=
  .next <|
    let r := ring % 512
    match (s.ring r).waiters.find? fun x => !(s.cl x.cluster).inSlice with
    | none => s
    | some x =>
      if s.claimDenied x.cluster r then s
      else
        match s.nextDescriptor r mecc with
        | (s, some h) =>
          (s.modRing r fun k => { k with waiters := k.waiters.filter fun y => y.cluster ≠ x.cluster }).deliver
            x.cluster r x.dst x.landing h
        | (s, none) => s

/-- The status that DONE records (R75). -/
def doneStatus (v : Nat) : Nat := if v = 0 ∨ v = 4 ∨ v = 5 ∨ 0x80 ≤ v then v else 0x0A

/-- DONE (R74, R75, R78): the current token is completed and the prefetched one becomes current. -/
def execDone (c : Nat) (s : State) : Host.Outcome State Fault Refusal :=
  .next <| s.issue c fun s w =>
    if opc w ≠ 0xA1 then s
    else
      match (s.cl c).tokens with
      | [] => s.nextPc c
      | t :: rest =>
        let s := s.complete c t (doneStatus (s.sreg c (srcA w) % 2 ^ 8)) false
        (s.modCl c fun k => { k with tokens := rest }).nextPc c

/-! ### Registers of a ring -/

/-- With claims waiting, descriptors next in line that are unreadable, malformed or empty complete at once (R69, R70).
Fuel bounds the slots looked at. -/
def State.screen : Nat → State → Nat → List MemEcc → State
  | 0, s, _, _ => s
  | f + 1, s, r, ecc =>
    let n := s.nextClaim r
    if !s.posted r n || !s.slotFree r n then s
    else
      match s.passUnread r n with
      | some s => State.screen f s r ecc
      | none =>
        let p := s.memRead (s.slotAddr r n) 64 ecc
        let d := readDesc p.2.2
        if p.2.1 ≠ .ok then State.screen f ((p.1.passNext r).writeErrorRecord r n) r (ecc.drop 1)
        else if !descOk p.2.2 then
          State.screen f ((p.1.passNext r).writeRecord r n 8 0xFFFF d.tag false none) r (ecc.drop 1)
        else if d.length = 0 then
          State.screen f ((p.1.passNext r).writeRecord r n 1 0xFFFF d.tag d.irq d.gate) r (ecc.drop 1)
        else p.1

/-- A write of WIQ_RING_PROD (R79, R80): discarded on a cluster-produced ring, discarded with PROD_ERR when it moves
backwards or too far, else the slots are published. -/
def State.prodWrite (s : State) (r v : Nat) (ecc : List MemEcc) : State :=
  if s.liveFlag (.wiq .ringCfgProducer) r then s
  else if seqBefore v (s.getF (.wiq .ringProdProd) r) ||
      decide ((v + 2 ^ 32 - s.getF (.wiq .ringConsCons) r) % 2 ^ 32 > s.ringSize r) then
    (s.setF (.wiq .ringStatusProdErr) r 1).ringEvent r
  else
    let s := s.setF (.wiq .ringProdProd) r v
    if s.ringServes r && !(s.ring r).waiters.isEmpty then State.screen (s.ringSize r + 1) s r ecc else s

/-- RING_PROD_WRITE (R79, R80). -/
def execRingProdWrite (ring : Nat) (value : Word) (mecc : List MemEcc) (s : State) : Host.Outcome State Fault Refusal :=
  .next <| if s.isOn .iod then s.prodWrite (ring % 512) value.toNat mecc else s

/-- A write of WIQ_RING_CONS (R99): discarded with CONS_ERR when it moves backwards or past OLDEST. -/
def State.consWrite (s : State) (r v : Nat) : State :=
  if seqBefore v (s.getF (.wiq .ringConsCons) r) || seqBefore (s.getF (.wiq .ringOldestOldest) r) v then
    (s.setF (.wiq .ringStatusConsErr) r 1).ringEvent r
  else (s.setF (.wiq .ringConsCons) r v).settleFailed r

/-- RING_CONS_WRITE (R66, R99). -/
def execRingConsWrite (ring : Nat) (value : Word) (s : State) : Host.Outcome State Fault Refusal :=
  .next <| if s.isOn .iod then s.consWrite (ring % 512) value.toNat else s

/-- A write of ENABLE (R73, R99): a ring that is disabled releases the claims that steep on it. -/
def State.enableWrite (s : State) (r v : Nat) : State :=
  let s := s.setF (.wiq .ringCtrlEnable) r v
  if v % 2 = 0 then s.releaseClaims r else s.settleFailed r

/-- RING_ENABLE_WRITE (R73, R95, R99). -/
def execRingEnableWrite (ring : Nat) (value : Word) (s : State) : Host.Outcome State Fault Refusal :=
  .next <| if s.isOn .iod then s.enableWrite (ring % 512) value.toNat else s

/-- Sequence numbers from a up to b (R65). -/
def seqRange (a b : Nat) : List Nat := (List.range ((b + 2 ^ 32 - a) % 2 ^ 32)).map fun i => (a + i) % 2 ^ 32

/-- Posted descriptors of a ring that no cluster holds and that have no record (R95). -/
def State.unclaimed (s : State) (r : Nat) : List Nat :=
  let k := s.ring r
  k.returned ++ (seqRange (s.getF (.wiq .ringClaimClaim) r) (s.getF (.wiq .ringProdProd) r)).filter
    fun n => !k.skips.contains n

/-- A cancel (R95, R99): claims are released, and every posted and unclaimed descriptor waits for its ABORTED_HOST
record. -/
def State.cancelRing (s : State) (r : Nat) : State :=
  if s.flag (.wiq .ringCtrlCancel) r then s
  else
    let l := s.unclaimed r
    let s := (s.setF (.wiq .ringCtrlCancel) r 1).releaseClaims r
    let s := s.setF (.wiq .ringClaimClaim) r (s.getF (.wiq .ringProdProd) r)
    (s.modRing r fun k => { k with cancels := l, returned := [], skips := [], failed := [] }).cancelCheck r

/-- RING_CANCEL (R95, R99). -/
def execRingCancel (ring : Nat) (s : State) : Host.Outcome State Fault Refusal :=
  .next <| if s.isOn .iod then s.cancelRing (ring % 512) else s

/-- CANCEL_RECORD (R95): the first cancelled descriptor whose completion slot is free has its record. -/
def execCancelRecord (ring : Nat) (s : State) : Host.Outcome State Fault Refusal :=
  .next <|
    let r := ring % 512
    match (s.ring r).cancels.find? (s.slotFree r) with
    | none => s
    | some n =>
      ((s.modRing r fun k => { k with cancels := k.cancels.filter (· ≠ n) }).writeUnheld r n 7).cancelCheck r

/-- A write of WIQ_CTRL (R73, R98). -/
def State.claimStopWrite (s : State) (v : Nat) : State :=
  if v % 2 = 1 then s.claimStop else s.setF (.wiq .ctrlClaimStop) 0 0

/-- CLAIM_STOP_WRITE (R73, R95, R98). -/
def execClaimStopWrite (value : Word) (s : State) : Host.Outcome State Fault Refusal :=
  .next <| if s.isOn .iod then s.claimStopWrite value.toNat else s

/-- The RWC fields of a ring. -/
def ringFields : List Fld :=
  [.wiq .ringBaseLoBaseLo, .wiq .ringBaseHiBaseHi, .wiq .ringCqLoCqLo, .wiq .ringCqHiCqHi, .wiq .ringCfgSizeLog2,
   .wiq .ringCfgCqSpace, .wiq .ringCfgProducer, .wiq .ringCfgStallFlush, .wiq .ringCfgDieMask,
   .wiq .ringTimeoutDescMs, .wiq .ringTimeoutStallMs]

/-- The code of R100 for the shadow set of a ring, checked in the order of the table. -/
def State.checkRing (s : State) (r : Nat) : Nat :=
  let lg := s.getF (.wiq .ringCfgSizeLog2) r
  let size := 2 ^ lg
  let base := s.getF (.wiq .ringBaseLoBaseLo) r * 2 ^ 12 + s.getF (.wiq .ringBaseHiBaseHi) r * 2 ^ 32
  let cq := cqBase (s.getF (.wiq .ringCqLoCqLo) r) (s.getF (.wiq .ringCqHiCqHi) r) (s.flag (.wiq .ringCfgCqSpace) r)
  if lg < 4 ∨ 16 < lg then 1
  else if base % (64 * size) ≠ 0 then 2
  else if cq % (16 * size) ≠ 0 then 3
  else if s.flag (.wiq .ringCtrlEnable) r ∨ s.ringHeld r ≠ 0 then 4
  else if s.getF (.wiq .ringCfgDieMask) r = 0 then 5
  else if base + 64 * size > s.memTop ∨ (s.getF (.wiq .ringCfgCqSpace) r = 0 ∧ cq + 16 * size > s.memTop) then 6
  else 0

/-- A commit of a ring (R7, R100). -/
def State.commitRing (s : State) (r : Nat) : State :=
  let e := s.checkRing r
  let s := s.setF (.wiq .ringStatusCommitErr) r e
  if e ≠ 0 then s.ringEvent r
  else
    let s := s.commitAll ringFields r
    let p := s.getF (.wiq .ringProdProd) r
    let s := ((s.setF (.wiq .ringClaimClaim) r p).setF (.wiq .ringOldestOldest) r p).setF (.wiq .ringConsCons) r p
    (s.setF (.wiq .ringDoneDone) r 0).modRing r fun _ => { ringInit with nextPost := p }

/-- RING_COMMIT (R100). -/
def execRingCommit (ring : Nat) (s : State) : Host.Outcome State Fault Refusal :=
  .next <| if s.isOn .iod then s.commitRing (ring % 512) else s

/-- POST_NUMBER_CLAIMABLE (R81, R90): the earliest reserved number, once committed, is published; one whose slot write
failed has its MEM_ERROR record once it is claimable, and is passed over. -/
def execPostNumberClaimable (ring : Nat) (s : State) : Host.Outcome State Fault Refusal :=
  .next <|
    let r := ring % 512
    match (s.ring r).posts with
    | [] => s
    | p :: t =>
      if !p.committed then s
      else
        let s := (s.modRing r fun k => { k with posts := t }).setF (.wiq .ringProdProd) r ((p.seq + 1) % 2 ^ 32)
        if p.failed then (s.modRing r fun k => { k with failed := k.failed ++ [p.seq] }).settleFailed r else s

/-! ### Timeouts, records and stalls -/

/-- DESCRIPTOR_TIMEOUT (R91, R92): the current token of a cluster has run out of time; it is counted and aborted. -/
def execDescriptorTimeout (c : Nat) (s : State) : Host.Outcome State Fault Refusal :=
  .next <|
    match (s.cl c).tokens, (s.cl c).abort with
    | t :: _, none =>
      let s := (s.addSat (.wiq .timeoutCountCount) 0 1).addSat (.wiq .ringTimeoutsCount) t.ring 1
      s.abortCluster c 3
    | _, _ => s

/-- The prefetched tokens of an aborted cluster: returned to their rings, or completed with ABORTED_QUIESCE; with a
token that is lost those on rings with host completions leave without a record (R92, R95, R251). -/
def State.endPrefetched (s : State) (st cluster : Nat) : List Token → State
  | [] => s
  | t :: rest =>
    let s := if st = 6 then s.writeRecord t.ring t.seq 6 cluster t.tag t.irq t.gate
      else if st = 0x0E && s.cqHost t.ring then s
      else s.returnToken t
    s.endPrefetched st cluster rest

/-- The end of an abort (R92 steps 5 and 6): the tokens leave, and a cluster that has not faulted starts again at store
address 0 with s1 the aborted token and s2 the status. -/
def State.endAbort (s : State) (c : Nat) (e : Completion) : State :=
  let s := s.endPrefetched e.status e.cluster ((s.cl c).tokens.drop 1)
  let s := s.modCl c fun k => { k with tokens := [], abort := none }
  if s.flag (.clu .statusFaulted) c then s
  else
    let s := s.modCl c fun k => { k with pc := 0, sregs := [(1, tokenWord e.ring e.seq), (2, e.status)] }
    s.setFlag (.clu .statusRunning) c (!s.flag (.clu .ctrlHalt) c)

/-- Have the writes made for a descriptor become visible, and have the steps before its record run (R78, R92)? -/
def State.recordReady (s : State) (e : Completion) : Bool :=
  match e.phys with
  | none => true
  | some c => decide ((s.cl c).dmaRetired ≥ e.waitDma) && !(e.abort && e.status != 2 && (s.cl c).tensorBusy)

/-- COMPLETION_RECORD (R78, R92): the n-th completion that waits has its record once it is ready; a lost token has none
(R251). -/
def execCompletionRecord (n : Nat) (s : State) : Host.Outcome State Fault Refusal :=
  .next <|
    match s.wiq.completions[n]? with
    | none => s
    | some e =>
      if !s.recordReady e then s
      else
        let s := { s with wiq := { s.wiq with completions := s.wiq.completions.eraseIdx n } }
        let s := if e.status = 0x0E then s else s.writeRecord e.ring e.seq e.status e.cluster e.tag e.irq e.gate
        match e.phys, e.abort with
        | some c, true => s.endAbort c e
        | _, _ => s

/-- Complete every claimable descriptor of a ring with TIMEOUT_RING; fuel bounds them (R94). -/
def State.flushRing : Nat → State → Nat → State
  | 0, s, _ => s
  | f + 1, s, r =>
    let n := s.nextClaim r
    if !s.posted r n || !s.slotFree r n then s
    else
      match s.passUnread r n with
      | some s => State.flushRing f s r
      | none => State.flushRing f ((s.passNext r).writeUnheld r n 9) r

/-- RING_STALL (R91, R94): the oldest claimable descriptor of a ring has stayed unclaimed for the stall limit. -/
def execRingStall (ring : Nat) (s : State) : Host.Outcome State Fault Refusal :=
  .next <|
    let r := ring % 512
    let n := s.nextClaim r
    if s.flag (.wiq .ringCtrlEnable) r && !s.flag (.wiq .ringCtrlCancel) r && s.posted r n && s.slotFree r n then
      let s := (s.setF (.wiq .ringStatusStalled) r 1).ringEvent r
      if s.liveFlag (.wiq .ringCfgStallFlush) r then
        let size := s.ringSize r
        State.flushRing (size + 1) (s.enableWrite r 0) r
      else s
    else s

end Sys2Proof.Machine
end

