-- ==== Sys2Proof/Machine/Repair.lean ====
section
/-!
DEFINITION. The repair records of the inventory (R120, R432, R433) and the journal of the active Kiln (R260).
-/

namespace Sys2Proof.Machine

/-- A journal entry is due (R260). -/
def State.journalAdd (s : State) (e : JEntry) : State :=
  { s with kln := { s.kln with journal := s.kln.journal ++ [e] } }

/-- Does a new CLUSTER_REMAP record replace this one: the same logical cluster, or the same failed spare (R433)? -/
def RepairRec.replacedBy (r : RepairRec) (rtype word1 : Nat) : Bool :=
  rtype == 5 && r.rtype == 5 && (bits r.word1 9 0 == bits word1 9 0) &&
    (bits word1 9 0 != 0x3FF || bits r.word1 25 16 == bits word1 25 16)

/-- Is a record one that a full inventory displaces: ROW_PPR or ROW_LEFT (R433)? -/
def RepairRec.displaceable (r : RepairRec) : Bool := r.rtype == 2 || r.rtype == 4

/-- The copy of the inventory that the Kiln reads: of those with a good CRC the one with the higher write count (R381). -/
def State.invCopy (s : State) : InvCopy :=
  if s.sec.invB.good ∧ (!s.sec.invA.good ∨ s.sec.invA.count < s.sec.invB.count) then s.sec.invB else s.sec.invA

/-- The records and the cluster map reach the NOR unless it has failed: copy A first, then copy B (R260, R381, R445). -/
def State.storeInventory (s : State) : State :=
  if s.flag (.csk .statusNorFailed) then s
  else
    let c : InvCopy := ⟨s.invCopy.count + 1, true, s.sec.repairs, s.spareMap⟩
    { s with sec := { s.sec with invA := c, invB := c } }

/-- Keep a repair record in the inventory (R432, R433); its Cask record is the one written next. -/
def State.keepRepair (s : State) (rtype cause unit word1 word2 : Nat) : State :=
  let r : RepairRec := ⟨rtype, cause, unit, word1, word2, s.power.opHours, s.power.powerCycles,
    s.getF (.csk .nextSeqSeq)⟩
  let kept := s.sec.repairs.filter fun x => !x.replacedBy rtype word1
  let s := s.journalAdd ⟨1, r.words⟩
  if kept.length < 4096 then { s with sec := { s.sec with repairs := kept ++ [r] } }
  else
    let s := s.setF (.bst .statusRecDropped) 0 1
    match kept.findIdx? RepairRec.displaceable with
    | some i => { s with sec := { s.sec with repairs := kept.eraseIdx i ++ [r] } }
    | none => { s with sec := { s.sec with repairs := kept ++ [r] } }

/-- Store a repair record (R260, R432, R433). -/
def State.addRepair (s : State) (rtype cause unit word1 word2 : Nat) : State :=
  (s.keepRepair rtype cause unit word1 word2).storeInventory

/-- Take the repair records that satisfy a test out of the inventory, each with its journal entry (R260, R276). -/
def State.dropRepairs (s : State) (p : RepairRec → Bool) : State :=
  let s := (s.sec.repairs.filter p).foldl (fun s r => s.journalAdd ⟨3, r.words⟩) s
  ({ s with sec := { s.sec with repairs := s.sec.repairs.filter fun r => !p r } } : State).storeInventory

/-- Post an event of SOURCE 0x0C (R436). -/
def State.testEvent (s : State) (code severity data : Nat) : State := s.post 0x0C code severity data

end Sys2Proof.Machine
end

