-- ==== Sys2Proof/Machine/Memory.lean ====
section
/-!
DEFINITION. The commands of memory and the Mills: scrub, refresh, self-refresh (R113 to R115), channel sparing (R116 to
R120), stack loss (R121), the MEM and MIL commits (R106, R129 to R134).
-/

namespace Sys2Proof.Machine

/-- Pairs of a channel. -/
def channelPairs : Nat := 3145728

/-- The place of pair q of a channel (R105). -/
def State.pairPlace (s : State) (k lch q : Nat) : MemPlace :=
  let row := q / 256
  let bank := if s.liveFlag (.mem .ilCfgHash) then bits q 7 4 ^^^ (row % 16) else bits q 7 4
  ⟨k, lch, row, bank, q % 16⟩

/-- The address of a place for MEM_UE_ADDR; a pair of a stack that is not active has none, so a free value stands there (log
entry 163). -/
def State.addrOf (s : State) (p : MemPlace) : Nat × State :=
  match s.placeAddr p with
  | some a => (a, s)
  | none => let (f, s) := s.fresh 33; (f.toNat * 128, s)

/-- Halve the leaky counters of n physical channels from the last on (R110). -/
def State.halveLeaky : Nat → State → State
  | 0, s => s
  | n + 1, s => State.halveLeaky n (s.setF (.mem .chCeLeaky) n (s.getF (.mem .chCeLeaky) n / 2))

/-- OPERATING_HOUR_TICK (R110, R404): a whole operating hour; the leaky counters halve. -/
def execOperatingHourTick (s : State) : Host.Outcome State Fault Refusal :=
  .next <|
    let s := State.halveLeaky 2640 { s with power := { s.power with opHours := s.power.opHours + 1 } }
    (List.range 5).foldl (fun s d => s.setF (.kln .dieErrHbRestarts) d 0) s

/-- Is a stack number one of the module whose domains are on? -/
def State.stackPowered (s : State) (k : Nat) : Bool := decide (k < 20) && s.isOn (.core (k / 5)) && s.isOn (.mem (k / 5))

/-- Is a channel idle: no burst holds one of its credits and no engine waits for one? -/
def State.channelIdle (s : State) (key : Nat) : Bool :=
  (s.mem.chanQ.getD key []).isEmpty && s.clu.all fun e => !e.2.chanUse.contains key

/-- SELF_REFRESH_ENTRY (R115): a channel of a parked module that has been idle for SR_IDLE_US enters self-refresh, once no
copy of its stack runs. -/
def execSelfRefreshEntry (k lch : Nat) (s : State) : Host.Outcome State Fault Refusal :=
  .next <|
    let key := k * 128 + lch
    let st := s.getF (.mem .statusState) k
    if s.power.parked && s.stackPowered k && decide (lch < 128) && (st == 2 || st == 3) &&
        (s.mem.copies.get? k).isNone && s.channelIdle key && !s.mem.selfRefresh.contains key then
      { s with mem := { s.mem with selfRefresh := s.mem.selfRefresh ++ [key] } }.srState k
    else s

/-- SELF_REFRESH_EXIT (R115). -/
def execSelfRefreshExit (k lch : Nat) (s : State) : Host.Outcome State Fault Refusal :=
  .next <| if lch < 128 then s.srExit (k * 128 + lch) else s

/-- Is a stack in service: ACTIVE, or in self-refresh? -/
def State.stackServes (s : State) (k : Nat) : Bool :=
  s.stackPowered k && (s.getF (.mem .statusState) k == 2 || s.getF (.mem .statusState) k == 3)

/-- PATROL_SCRUB (R113): a read of pair q of a data channel of a stack in service, active or not, handled as R110 to R112
say; passEnd: it is the last of a pass of its stack. A period of 0 disables scrub. -/
def execPatrolScrub (k lch q : Nat) (mecc : MemEcc) (passEnd : Bool) (s : State) : Host.Outcome State Fault Refusal :=
  .next <|
    if s.stackServes k && decide (lch < 128) && decide (q < channelPairs) && s.getF (.mem .scrubCfgPeriodH) k != 0 then
      let p := s.pairPlace k lch q
      let (pa, s) := s.addrOf p
      let s := (s.readPlace p pa mecc).1.served 2
      if passEnd then s.addSat (.mem .scrubStatusPasses) k 1 else s
    else s

/-- DQS_TRACK (R103, R116): the tracking of a channel, every 1 ms; a channel that fails it triggers sparing. -/
def execDqsTrack (k lch : Nat) (ok : Bool) (s : State) : Host.Outcome State Fault Refusal :=
  .next <| if !ok && s.stackServes k && decide (lch < 128) then s.spareTrigger k lch 3 false else s

/-- A write of MEM_SPARE_CTRL with START (R116): a trigger by the host, refused with NOT_ACTIVE on a stack that is not
ACTIVE. -/
def State.spareStart (s : State) (k lch : Nat) : State :=
  let s := s.setF (.mem .spareCtrlLch) k lch
  if s.getF (.mem .statusState) k ≠ 2 then s.setF (.mem .spareStatusResult) k 3
  else (s.spareTrigger k lch 4 true).showStart k

/-- SPARE_START_WRITE (R116, R130). -/
def execSpareStartWrite (k lch : Nat) (s : State) : Host.Outcome State Fault Refusal :=
  .next <| if k < 20 ∧ s.isOn (.core (k / 5)) then s.spareStart k (lch % 128) else s

/-- Is a physical channel of a stack a free spare: it serves no logical channel and is neither replaced nor failed? -/
def State.spareFree (s : State) (k p : Nat) : Bool :=
  !s.flag (.mem .chCeSparedOut) (132 * k + p) && !s.flag (.mem .chCeHardFail) (132 * k + p) &&
    (List.range 128).all fun l => s.getF (.mem .chMapPch) (128 * k + l) != p

/-- The free spares of a stack in ascending order: a channel that was never mapped (R116, R117). -/
def State.freeSpares (s : State) (k : Nat) : List Nat :=
  let taken := match s.mem.copies.get? k with
    | some c => [c.spare]
    | none => []
  (List.range 132).filter fun p => s.spareFree k p && !taken.contains p

/-- The places of the pairs of a channel from q on (R105, R112). -/
def State.pairsFrom (s : State) (k lch q : Nat) : List Nat :=
  (List.range (channelPairs - q)).map fun i => (s.pairPlace k lch (q + i)).key

/-- Poison every pair of a channel from q on (R118). -/
def State.poisonFrom (s : State) (k lch q : Nat) : State :=
  let l := s.pairsFrom k lch q
  { s with mem := { s.mem with poison := s.mem.poison.filter (fun p => !l.contains p) ++ l } }

/-- Sparing of the first waiting trigger of a stack starts (R117): a copy to the lowest-numbered free spare. Without a
spare a leaky counter, a host request and an uncorrectable read leave the channel in service with NO_SPARE (log entry 20),
and a channel that fails retraining or does not answer fails the stack (R119). -/
def State.sparingStart (s : State) (k : Nat) : State :=
  match s.mem.triggers.getD k [] with
  | [] => s
  | r :: t =>
    let s := { s with mem := { s.mem with triggers := s.mem.triggers.put k t [] } }
    match s.freeSpares k with
    | [] =>
      if r.cause = 3 then s.stackFail k 2
      else (s.setF (.mem .spareStatusResult) k 2).showStart k
    | p :: _ =>
      let old := s.getF (.mem .chMapPch) (128 * k + r.lch)
      let s := { s with mem := { s.mem with copies := s.mem.copies.set k ⟨r.lch, p, r.cause, r.requested, 0⟩ } }
      let s := (s.setF (.mem .statusSparing) k 1).setF (.mem .spareStatusSpareCh) k p
      let s := (s.setF (.mem .spareStatusProgress) k 0).setF (.mem .spareStatusResult) k 0
      if s.flag (.mem .chCeHardFail) (132 * k + old) then s.poisonFrom k r.lch 0 else s

/-- SPARING_START (R116, R117, R119): on a stack in service with no copy running. -/
def execSparingStart (k : Nat) (s : State) : Host.Outcome State Fault Refusal :=
  .next <| if s.stackServes k && (s.mem.copies.get? k).isNone then s.sparingStart k else s

/-- The end of a copy (R117): the map is switched, the old channel is SPARED_OUT, the record and the event follow. -/
def State.copyDone (s : State) (k : Nat) (c : SpareCopy) : State :=
  let old := s.getF (.mem .chMapPch) (128 * k + c.lch)
  let s := (s.setF (.mem .chMapPch) (128 * k + c.lch) c.spare).setF (.mem .chCeSparedOut) (132 * k + old) 1
  let s := { s with mem := { s.mem with copies := s.mem.copies.erase k } }
  let s := (s.setF (.mem .statusSparing) k 0).setF (.mem .spareStatusProgress) k 100
  let s := s.setF (.mem .spareStatusResult) k 1
  let s := s.setF (.mem .statusSparesLeft) k (s.freeSpares k).length
  let s := s.showStart k
  let s := s.addRepair 1 c.cause k (c.lch + 2 ^ 8 * old + 2 ^ 16 * c.spare) 0
  let s := s.memEvent 1 (k + 2 ^ 8 * c.lch)
  if (s.freeSpares k).isEmpty then s.testEvent 5 1 (1 + 2 ^ 8 * k) else s

/-- SPARING_COPY_DONE (R117, R118, R120, R432): bad holds an address of each pair that read as uncorrectable during the
copy; it is poisoned on the spare. -/
def execSparingCopyDone (k : Nat) (bad : List Nat) (s : State) : Host.Outcome State Fault Refusal :=
  .next <|
    match s.mem.copies.get? k with
    | none => s
    | some c =>
      let s := bad.foldl (fun s pa => match s.memPlace pa with
        | some p => if p.stack = k ∧ p.ch = c.lch then s.poisonPair p.key else s
        | none => s) s
      s.copyDone k c

/-- Copies have moved on (R118, R130): each stack listed has copied its channel up to a pair, and PROGRESS follows. -/
def State.copyMoves (s : State) (l : List (Nat × Nat)) : State :=
  l.foldl (fun s x => match s.mem.copies.get? x.1 with
    | some c =>
      if c.ptr ≤ x.2 ∧ x.2 ≤ channelPairs then
        let s := { s with mem := { s.mem with copies := s.mem.copies.set x.1 { c with ptr := x.2 } } }
        s.setF (.mem .spareStatusProgress) x.1 (100 * x.2 / channelPairs)
      else s
    | none => s) s

/-- CHANNEL_UNRESPONSIVE (R118, R119): a channel stops answering; the pairs its copy has not reached are poisoned on the
spare. With no copy of it running it triggers sparing, and without a spare the stack fails. -/
def execChannelUnresponsive (k lch copied : Nat) (s : State) : Host.Outcome State Fault Refusal :=
  .next <|
    if s.stackServes k && decide (lch < 128) then
      let s := s.setF (.mem .chCeHardFail) (132 * k + s.getF (.mem .chMapPch) (128 * k + lch)) 1
      match s.mem.copies.get? k with
      | some c =>
        if c.lch = lch then s.poisonFrom k lch (max copied c.ptr)
        else if (s.freeSpares k).isEmpty then s.stackFail k 2 else s.spareTrigger k lch 3 false
      | none => if (s.freeSpares k).isEmpty then s.stackFail k 2 else s.spareTrigger k lch 3 false
    else s

/-! ### The MEM commit -/

/-- Is region r enabled in the shadow set? -/
def State.mirShadowOn (s : State) (r : Nat) : Bool :=
  s.flag (.mem .mirCfgEnable) r && s.getF (.mem .mirCfgSizeGib) r != 0

/-- Do the mirrored regions of the shadow set overlap, pass a top in GiB or exceed 64 GiB in all (R132)? -/
def State.mirRangeBad (s : State) (topGib : Nat) : Bool :=
  let on := (List.range 8).filter s.mirShadowOn
  let b := fun r => s.getF (.mem .mirCfgBaseGib) r
  let n := fun r => s.getF (.mem .mirCfgSizeGib) r
  on.any (fun r => decide (b r + n r > topGib)) ||
    on.any (fun r => on.any fun q => decide (r < q) && rangesMeet (b r, n r) (b q, n q)) ||
    decide ((on.map n).foldl (· + ·) 0 > 64)

/-- Is a DMA burst to module memory in flight (R106)? -/
def State.burstsInFlight (s : State) : Bool := s.clu.any fun e => !e.2.chanUse.isEmpty

/-- Does R106 hold: the module is drained and no burst is in flight? -/
def State.drained (s : State) : Bool :=
  s.flag (.wiq .ctrlClaimStop) && s.heldTokens == 0 && !s.burstsInFlight

/-- Number of bits set in the low n bits. -/
def popCount : Nat → Nat → Nat
  | 0, _ => 0
  | n + 1, x => x % 2 + popCount n (x / 2)

/-- Does the shadow set change MODE, HASH or MASK? -/
def State.mapChange (s : State) : Bool :=
  s.changed (.mem .ilCfgMode) || s.changed (.mem .ilCfgHash) || s.changed (.mem .stackMaskMask)

/-- The code of R132 for the shadow set, checked in the order of the table. -/
def State.checkMem (s : State) : Nat :=
  let mask := s.getF (.mem .stackMaskMask)
  if s.getF (.mem .ilCfgMode) = 3 then 1
  else if mask = 0 then 2
  else if mask &&& s.getF (.mem .failedFailed) ≠ 0 then 3
  else if s.mapChange ∧ !s.drained then 4
  else if s.mapChange ∧ !s.mem.copies.isEmpty then 5
  else if s.mirRangeBad (48 * popCount 20 mask) then 6
  else if !s.sec.orderP ∧ (List.range 8).any s.mirShadowOn then 7
  else 0

/-- MEM_TOP follows the mask in force (R105, R131). -/
def State.showTop (s : State) : State :=
  (s.setF (.mem .topLoTopLo) 0 s.memTop).setF (.mem .topHiTopHi) 0 (s.memTop / 2 ^ 32)

/-- A Mill region past the top of memory is disabled and noted (R129). -/
def State.millTopCheck (s : State) : State :=
  (List.range 16).foldl (fun s r =>
    match s.millSet[r]? with
    | some m =>
      if m.enable ∧ m.base + m.size > s.memTop then (s.clearBit (.mil .statusActive) 0 r).setBit (.mil .statusRangeOff) 0 r
      else s
    | none => s) s

/-- A region as it was and as it is: newly enabled or moved, every block is dirty; disabled, it keeps no map (R222). -/
def State.mirAfter (s old : State) (r : Nat) : State :=
  if s.mirOn r then
    if old.mirOn r && old.getLive (.mem .mirCfgBaseGib) r == s.getLive (.mem .mirCfgBaseGib) r &&
        old.getLive (.mem .mirCfgSizeGib) r == s.getLive (.mem .mirCfgSizeGib) r then s
    else s.allDirty r
  else
    { s.setF (.mem .mirCfgUnsynced) r 0 with ptn := { s.ptn with dirty := s.ptn.dirty.filter fun b => b / 2 ^ 15 ≠ r } }

/-- A MEM commit (R7, R106, R129, R132). -/
def State.commitMem (s : State) : State :=
  let e := s.checkMem
  let s := s.setF (.mem .commitStatusErr) 0 e
  if e ≠ 0 then s
  else
    let change := s.mapChange
    let old := s
    let s := s.commitAll [.mem .ilCfgMode, .mem .ilCfgHash, .mem .stackMaskMask]
    let s := s.commitRange [.mem .mirCfgBaseGib, .mem .mirCfgSizeGib, .mem .mirCfgEnable, .mem .mirCfgSync] 8
    let s := if change then s.remapMemory else s
    let s := s.showTop.millTopCheck
    (List.range 8).foldl (fun s r => s.mirAfter old r) s

/-- MEM_COMMIT (R106, R132). -/
def execMemCommit (s : State) : Host.Outcome State Fault Refusal := .next <| if s.isOn .iod then s.commitMem else s

/-! ### The Mill commit -/

/-- A Mill region of the shadow set: base, size, enabled. -/
def State.millShadow (s : State) (r : Nat) : Nat × Nat × Bool :=
  (s.getF (.mil .rgnBaseLoBaseLo) r * 2 ^ 16 + s.getF (.mil .rgnBaseHiBaseHi) r * 2 ^ 32,
    s.getF (.mil .rgnSizeSize64k) r * 2 ^ 16,
    s.flag (.mil .rgnCfgEnable) r && s.getF (.mil .rgnSizeSize64k) r != 0)

/-- The code of R134 for the shadow set. -/
def State.checkMil (s : State) : Nat :=
  let on := (List.range 16).filter fun r => (s.millShadow r).2.2
  let area := fun r => ((s.millShadow r).1, (s.millShadow r).2.1)
  if on.any fun r => decide ((area r).1 + (area r).2 > s.memTop) then 1
  else if on.any fun r => on.any fun q => decide (r < q) && rangesMeet (area r) (area q) then 2
  else 0

/-- Has a descriptor read through a Mill: it has started and a row lies in a region of its set (R129)? -/
def Dma.millReader (d : Dma) : Bool := d.started && (List.range d.desc.rows).any fun i => (d.rowRgn i).isSome

/-- Is any descriptor still under an old set? -/
def State.oldSetUsed (s : State) : Bool := s.clu.any fun e => e.2.dmas.any (·.millOld)

/-- A MIL commit (R7, R129, R134): descriptors that have read under the old set finish under it; BUSY until they have
retired. -/
def State.commitMil (s : State) : State :=
  let e := s.checkMil
  let s := s.setF (.mil .commitStatusErr) 0 e
  if e ≠ 0 then s
  else
    let s := s.commitRange [.mil .rgnBaseLoBaseLo, .mil .rgnBaseHiBaseHi, .mil .rgnSizeSize64k, .mil .rgnCfgEnable,
      .mil .rgnCfgOutFmt, .mil .rgnCfgCbFmt, .mil .rgnCfgScaleOfs] 16
    let act := (List.range 16).foldl (fun a r => if (s.millShadow r).2.2 then a + 2 ^ r else a) 0
    let s := s.setF (.mil .statusActive) 0 act
    let clu := s.clu.mapVals clusterInit fun k =>
      { k with dmas := k.dmas.map fun d => if d.millReader then { d with millOld := true } else d }
    let s := { s with clu }
    s.setFlag (.mil .commitStatusBusy) 0 s.oldSetUsed

/-- MIL_COMMIT (R129, R134); a commit while BUSY is held (R475). -/
def execMilCommit (s : State) : Host.Outcome State Fault Refusal :=
  .next <|
    if !s.isOn .iod then s
    else if s.flag (.mil .commitStatusBusy) then
      if s.heldCommits.contains 7 then s else { s with heldCommits := s.heldCommits ++ [7] }
    else s.commitMil

/-- MIL_OLD_SET_RETIRED (R129): the last descriptor under the old set has retired. -/
def execMilOldSetRetired (s : State) : Host.Outcome State Fault Refusal :=
  .next <| if s.oldSetUsed then s else s.setF (.mil .commitStatusBusy) 0 0

end Sys2Proof.Machine
end

