-- ==== Sys2Proof/Machine/Gates.lean ====
section
/-!
DEFINITION. The commands of the steep gates (R135 to R160).
-/

namespace Sys2Proof.Machine

/-! ### Remote signals -/

/-- Has the far part of descriptor number n of a cluster's engine to module x been acknowledged, or does it not write
there (R146)? -/
def State.farWritesDone (s : State) (c x upTo : Nat) : Bool :=
  let k := s.cl c
  (List.range k.dmas.length).all fun j =>
    match k.dmas[j]? with
    | none => true
    | some d => decide (k.dmaRetired + j ≥ upTo) || d.finished ||
      (match s.dstLoc c d.desc with
        | .remote y _ _ => y != x
        | .partner _ => s.getF (.ptn .statusPartnerId) != x
        | _ => true)

/-- A remote signal that no answer will come for is counted (R154). -/
def State.signalLost (s : State) (g x : Nat) : State :=
  (s.addSat (.stg .rsigLostCount) 0 1).gateErr (.stg .errRsigLost) g x

/-- Send a remote signal if it need wait no longer: earlier remote writes are acknowledged and a port has a credit (R146,
R152, R205); without a candidate plane, or to a fenced module, it is lost (log entry 21). Answers whether it is done
with. -/
def State.trySignal (s : State) (h : HeldSig) : State × Bool :=
  if s.fencedMod h.dst then (s.signalLost h.gate h.dst, true)
  else if !s.farWritesDone h.cluster h.dst h.upTo then (s, false)
  else
    match s.spreadPort h.dst 0 with
    | none => (s.signalLost h.gate h.dst, true)
    | some port =>
      if s.credits port 0 = 0 then (s, false)
      else
        let (tag, s) := s.takeTag
        let s := s.sendPkt port { s.packet 8 h.dst 0 tag 0 0 [] with gate := h.gate, inc := h.inc, spray := port != 12 }
        (s.addReq ⟨tag, h.cluster, h.dst, 2, false, port, h.gate, 0⟩, true)

/-- Send a remote signal, or hold it in the port. -/
def State.sendSignal (s : State) (h : HeldSig) : State :=
  match s.trySignal h with
  | (s, true) => s
  | (s, false) => { s with ixf := { s.ixf with sigHeld := s.ixf.sigHeld ++ [h] } }

/-- REMOTE_SIGNAL_SEND (R146): the n-th held signal leaves the port once it may. -/
def execRemoteSignalSend (n : Nat) (s : State) : Host.Outcome State Fault Refusal :=
  .next <|
    match s.ixf.sigHeld[n]? with
    | none => s
    | some h =>
      match s.trySignal h with
      | (s, true) => { s with ixf := { s.ixf with sigHeld := s.ixf.sigHeld.eraseIdx n } }
      | (s, false) => s

/-! ### Gate instructions -/

/-- The status of a wait or arrival that names a gate it may not: reserved, on another die, disabled, of the other kind
(R136, R138; log entry 22). -/
def State.waitStatus (s : State) (c g : Nat) (barrier : Bool) : GateStatus :=
  if !validGate g then .badId
  else if foreignDie c g then .foreignDie
  else if !s.gateOn g then .disabled
  else if s.isBarrier g != barrier then .kind
  else .ok

/-- The result word of a status other than OK: a reserved identifier has no gate to read. -/
def State.refuseWord (s : State) (g : Nat) (st : GateStatus) : Nat :=
  if st = .badId then errWord st else s.gateWord g false st

/-- GWAIT (R137, R140). -/
def execGwait (c : Nat) (s : State) : Host.Outcome State Fault Refusal :=
  .next <| s.issue c fun s w =>
    if opc w ≠ 0x90 || !s.reservedOk c w then s
    else
      let g := s.sreg c (srcA w)
      let n := immBits w
      let dst := dstReg w
      let s := s.nextPc c
      match s.waitStatus c g false with
      | .ok =>
        if n = 0 then s.setSreg c dst (s.gateWord g false .ok)
        else if (s.gateQueue g).isEmpty && decide (n ≤ s.gateCount g) then
          let s := s.setCount g (s.gateCount g - n)
          s.setSreg c dst (s.gateWord g false .ok)
        else (s.setQueue g (s.gateQueue g ++ [c])).steep c 5 (.gate g n dst)
      | st => s.setSreg c dst (s.refuseWord g st)

/-- GSIGNAL (R137 to R139, R146, R152, R197): it steeps with cause 7 until earlier spills have completed. The VALUE and OVF
of a remote signal's result are free values, since they stand at the far gate (log entry 21). -/
def execGsignal (c : Nat) (s : State) : Host.Outcome State Fault Refusal :=
  .next <| s.issue c fun s w =>
    if opc w ≠ 0x91 || !s.reservedOk c w then s
    else if (s.cl c).spillsLeft then s.steep c 7 .spills
    else
      let g := s.sreg c (srcA w)
      let inc := bits w 7 0
      let x := s.sreg c (srcB w)
      let dst := dstReg w
      let s := s.nextPc c
      if w.testBit 40 && x != s.moduleId && !validGate g then s.setSreg c dst (errWord .badId)
      else if w.testBit 40 && x != s.moduleId then
        let (v, s) := s.fresh 11
        (s.setSreg c dst v.toNat).sendSignal ⟨c, x, g, inc, (s.cl c).dmaAccepted⟩
      else
        let (s, word) := s.gateSignal g inc
        s.setSreg c dst word

/-- GBAR (R137, R143, R145): an arrival, with WAIT also the wait for its round. -/
def execGbar (c : Nat) (s : State) : Host.Outcome State Fault Refusal :=
  .next <| s.issue c fun s w =>
    if opc w ≠ 0x92 || !s.reservedOk c w || w.testBit 1 then s
    else if (s.cl c).spillsLeft then s.steep c 7 .spills
    else
      let g := s.sreg c (srcA w)
      let dst := dstReg w
      let s := s.nextPc c
      match s.waitStatus c g true with
      | .ok => s.barrier (.arrive c g dst (w.testBit 0))
      | st => s.setSreg c dst (s.refuseWord g st)

/-- GBAR with WAIT_ONLY (R137, R145): the wait for the oldest outstanding round, which is the open one; with none it
returns OK at once, its EPOCH the parity of the round completed last (log entry 22). -/
def execGbarWaitOnly (c : Nat) (s : State) : Host.Outcome State Fault Refusal :=
  .next <| s.issue c fun s w =>
    if opc w ≠ 0x92 || !s.reservedOk c w || !w.testBit 1 then s
    else if (s.cl c).spillsLeft then s.steep c 7 .spills
    else
      let g := s.sreg c (srcA w)
      let dst := dstReg w
      let s := s.nextPc c
      match s.waitStatus c g true with
      | .ok =>
        match s.slotOf c g with
        | some _ => s.steep c 5 (.round g dst 1 (s.epoch g))
        | none => s.setSreg c dst (s.gateWord g (!s.epoch g) .ok)
      | st => s.setSreg c dst (s.refuseWord g st)

/-- GTEST (R137, R138, R140): without TRY it reads either kind of gate, with TRY it consumes n where R140 allows. -/
def execGtest (c : Nat) (s : State) : Host.Outcome State Fault Refusal :=
  .next <| s.issue c fun s w =>
    if opc w ≠ 0x93 || !s.reservedOk c w then s
    else
      let g := s.sreg c (srcA w)
      let n := bits w 7 0
      let dst := dstReg w
      let s := s.nextPc c
      if !validGate g then s.setSreg c dst (errWord .badId)
      else if !s.gateOn g then s.setSreg c dst (s.gateWord g false .disabled)
      else if !w.testBit 8 then s.setSreg c dst (s.gateWord g (s.isBarrier g && s.epoch g) .ok)
      else if s.isBarrier g then s.setSreg c dst (s.gateWord g false .kind)
      else if (s.gateQueue g).isEmpty && decide (n ≤ s.gateCount g) then
        let s := s.setCount g (s.gateCount g - n)
        s.setSreg c dst (s.gateWord g false .ok)
      else s.setSreg c dst (s.gateWord g false .notReady)

/-- BARRIER_FLIP_CASCADE (R144): a round that carried arrivals have filled flips on the next NCLK cycle. -/
def execBarrierFlipCascade (g : Nat) (s : State) : Host.Outcome State Fault Refusal :=
  .next <|
    if s.gates.cascade.contains g then
      { s with gates := { s.gates with cascade := s.gates.cascade.filter fun x => x ≠ g } }.barrier (.flip g)
    else s

/-! ### Registers -/

/-- A write of STG_SIGNAL; an increment of 0 has no effect (R139, R158). -/
def State.stgSignal (s : State) (v : Nat) : State :=
  if bits v 23 16 = 0 then s else (s.gateSignal (bits v 15 0) (bits v 23 16)).1

/-- STG_SIGNAL (R139, R158). -/
def execStgSignal (value : Word) (s : State) : Host.Outcome State Fault Refusal :=
  .next <| if s.isOn .iod then s.stgSignal value.toNat else s

/-- The code of R160 for the shadow set of a gate, in the order of the table. -/
def State.checkGate (s : State) (g : Nat) : Nat :=
  let barrier := s.flag (.stg .gateCfgKind) g
  let p := s.getF (.stg .gateCfgParticipants) g
  if barrier ∧ p = 0 then 1
  else if barrier ∧ p > (if g < 0x4000 then 200 else 800) then 2
  else if (s.changed (.stg .gateCfgKind) g ∨ s.changed (.stg .gateCfgParticipants) g) ∧
      (s.gateWaiters g ≠ 0 ∨ s.gateCount g ≠ 0 ∨ s.getF (.stg .gateStateNext) g ≠ 0 ∨
        s.clu.any fun e => e.2.slots.any fun x => x.gate == g) then 3
  else if barrier ∧ s.flag (.stg .gateCfgRemoteOk) g then 4
  else 0

/-- A gate commit (R7, R156, R160): one that leaves the gate disabled clears it and wakes its waiters with DISABLED. -/
def State.commitGate (s : State) (g : Nat) : State :=
  let e := s.checkGate g
  let s := s.setF (.stg .gateCtrlCommitErr) g e
  if e ≠ 0 then s
  else
    let s := s.commitAll [.stg .gateCfgEnable, .stg .gateCfgKind, .stg .gateCfgRemoteOk, .stg .gateCfgParticipants] g
    if s.liveFlag (.stg .gateCfgEnable) g then s else s.resetGate g .disabled

/-- GATE_COMMIT (R142, R156, R160). -/
def execGateCommit (g : Nat) (s : State) : Host.Outcome State Fault Refusal :=
  .next <| if validGate g && s.gatePowered g then s.commitGate g else s

/-- GATE_RESET (R156). -/
def execGateReset (g : Nat) (s : State) : Host.Outcome State Fault Refusal :=
  .next <| if validGate g && s.gatePowered g then s.resetGate g .reset else s

end Sys2Proof.Machine
end

