-- ==== Sys2Proof/Machine/Collective.lean ====
section
/-!
DEFINITION. The collective engine (R213 to R218) and its commands.
-/

namespace Sys2Proof.Machine

/-! ### Descriptors, groups and shares -/

/-- A collective descriptor's fields (R215). -/
structure CollDesc where
  op : Nat
  dtype : Nat
  gate : Bool
  group : Nat
  root : Nat
  doneGate : Nat
  src : Nat
  dst : Nat
  count : Nat
deriving DecidableEq, Repr

/-- Read a descriptor's fields. -/
def readColl (b : List Byte) : CollDesc :=
  let x := leNat b
  { op := bits x 10 8, dtype := bits x 17 16, gate := x.testBit 24, group := bits x 37 32, root := bits x 47 40,
    doneGate := bits x 63 48, src := bits x 103 64, dst := bits x 167 128, count := bits x 223 192 }

/-- Bytes of an element. -/
def CollDesc.es (d : CollDesc) : Nat := if d.dtype = 1 then 2 else 4

/-- Are the encodings, reserved fields and alignment of a descriptor well formed (R215)? -/
def collWellFormed (b : List Byte) : Bool :=
  let x := leNat b
  let d := readColl b
  bits x 7 0 == 1 && bits x 15 11 == 0 && decide (1 ≤ d.op ∧ d.op ≤ 4) && bits x 23 18 == 0 && decide (d.dtype ≤ 1) &&
    !(d.dtype == 1 && decide (d.op ≤ 2)) && bits x 31 25 == 0 && bits x 39 38 == 0 && bits x 127 104 == 0 &&
    bits x 191 168 == 0 && bits x 255 224 == 0 && bits x 511 264 == 0 && d.src % 64 == 0 && d.dst % 64 == 0

/-- Members of a group in force. -/
def State.grpMembers (s : State) (g : Nat) : Nat := s.getLive (.ixf .grpCfgMembers) g

/-- Base of the member list of a group. -/
def State.grpList (s : State) (g : Nat) : Nat :=
  s.getLive (.ixf .grpListLoListLo) g * 2 ^ 6 + s.getLive (.ixf .grpListHiListHi) g * 2 ^ 32

/-- The module IDs that a list of bytes spells, two bytes each. -/
def idList : Nat → List Byte → List Nat
  | 0, _ => []
  | n + 1, b => leNat (b.take 2) % 2 ^ 14 :: idList n (b.drop 2)

/-- Elements of a share: COUNT over MEMBERS, rounded up to a multiple of 32 (R215). -/
def Coll.share (k : Coll) : Nat :=
  let m := k.members.length
  if m = 0 then 0 else ((k.count + m - 1) / m + 31) / 32 * 32

/-- Bytes of an element. -/
def Coll.es (k : Coll) : Nat := if k.dtype = 1 then 2 else 4

/-- Byte offset of share j in the buffer. -/
def Coll.start (k : Coll) (j : Nat) : Nat := min (j * k.share) k.count * k.es

/-- Byte length of share j. -/
def Coll.len (k : Coll) (j : Nat) : Nat := k.start (j + 1) - k.start j

/-- Is DST equal to SRC or disjoint from it, each as long as the operation makes it (R215): ALL_GATHER reads one share at SRC,
REDUCE_SCATTER writes one at DST? -/
def Coll.apart (k : Coll) : Bool :=
  let srcLen := if k.op = 3 then k.len k.rank else k.count * k.es
  let dstLen := if k.op = 2 then k.len k.rank else k.count * k.es
  k.src == k.dst || decide (k.src + srcLen ≤ k.dst) || decide (k.dst + dstLen ≤ k.src)

/-- The other ranks. -/
def Coll.others (k : Coll) : List Nat := (List.range k.members.length).filter fun j => j ≠ k.rank

/-- A channel's collective, if one runs. -/
def State.coll (s : State) (ch : Nat) : Option Coll := s.ixf.colls.get? ch

/-- Put a running collective back. -/
def State.setColl (s : State) (ch : Nat) (k : Coll) : State :=
  { s with ixf := { s.ixf with colls := s.ixf.colls.set ch k } }

/-! ### Ending -/

/-- A channel shows a descriptor as completed: LAST, DONE, the COLL_ERR event for 0x03 to 0x09 (R218, R229). -/
def State.collShow (s : State) (ch st : Nat) : State :=
  let s := ((s.setF (.ixf .collStatusRunning) ch 0).setF (.ixf .collStatusLast) ch st).addWrap (.ixf .collStatusDone) ch 1
  if 3 ≤ st then s.ixfEvent 6 0 else s

/-- A status from 0x04 to 0x09 breaks the group; any but ZERO and INVALID advances its sequence number (R214, R218). -/
def State.grpAfter (s : State) (g st : Nat) : State :=
  let s := if 4 ≤ st then s.setF (.ixf .grpCfgBroken) g 1 else s
  if st = 2 ∨ st = 3 then s else s.addWrap (.ixf .grpSeqSeq) g 1

/-- Write STATUS into a descriptor, then signal DONE_GATE (R213). -/
def State.collReport (s : State) (addr st : Nat) (gate : Option Nat) : State :=
  let s := (s.memWrite (addr + 32) [BitVec.ofNat 8 st] []).1
  match gate with
  | some g => s.signalOne g
  | none => s

/-- Packets of a collective that wait for a credit are not sent any more (R216). -/
def State.dropCollPkts (s : State) (aux : Nat) : State :=
  let waiting := s.lnk.waiting.mapVals [] fun l => l.filter fun p => !((p.typ == 0x10 || p.typ == 0x11) && p.aux == aux)
  { s with lnk := { s.lnk with waiting } }

/-- The running collective of a channel ends with a status (R213, R214, R218). -/
def State.collFinish (s : State) (ch st : Nat) : State :=
  match s.coll ch with
  | none => s
  | some k =>
    let s := { s with ixf := { s.ixf with
      colls := s.ixf.colls.erase ch
      reqs := s.ixf.reqs.filter fun r => !(r.kind == 3 && r.aux == ch)
      readies := s.ixf.readies.filter fun r => !(r.group == k.group && r.seq == k.seq) } }
    let s := ((s.dropCollPkts (k.seq + 2 ^ 16 * k.group)).grpAfter k.group st).collShow ch st
    s.collReport k.addr st (if k.gate then some k.doneGate else none)

/-! ### Sending -/

/-- The port of a COLL packet to member number j, sprayed over the planes (R205, R217): none where the member is fenced or out of
reach. -/
def State.collPort (s : State) (k : Coll) (j : Nat) : Option Nat :=
  let x := k.members.getD j 0
  if s.fencedMod x then none else s.sprayPort x 2

/-- Send one COLL packet to member number j on a port (R199, R216, R217). -/
def State.collPacket (s : State) (ch port : Nat) (k : Coll) (typ j phase addr : Nat) (data : List Byte) : State :=
  let x := k.members.getD j 0
  let (tag, s) := s.takeTag
  let s := s.sendPkt port { s.packet typ x 2 tag addr (k.seq + 2 ^ 16 * k.group) data with spray := true, status := phase }
  let now := (s.coll ch).getD k
  if typ = 0x10 then s.setColl ch { now with readyTags := now.readyTags ++ [tag] }
  else (s.addReq ⟨tag, 0, x, 3, false, port, ch, 0⟩).setColl ch { now with tags := now.tags ++ [tag] }

/-- Send READY to a list of members (R216); none if one is out of reach. -/
def State.sendReadies (s : State) (ch : Nat) (k : Coll) : List Nat → Option State
  | [] => some s
  | j :: t =>
    match s.collPort k j with
    | none => none
    | some port =>
      (s.collPacket ch port k 0x10 j 0 (k.count + 2 ^ 32 * k.op + 2 ^ 35 * k.dtype + 2 ^ 37 * k.root) []).sendReadies ch k t

/-- Send n bytes to member j as packets of at most the agreed payload that start at offset o of the buffer (R195, R199, R217):
those that are kept, or else those of memory at a. Answers the status where it fails. Fuel bounds the packets. -/
def State.collBytes : Nat → State → Nat → Coll → Nat → Nat → Option (List Byte) → Nat → Nat → Nat → List MemEcc → State × Nat
  | 0, s, _, _, _, _, _, _, _, _, _ => (s, 0)
  | f + 1, s, ch, k, j, phase, kept, a, o, n, ecc =>
    if n = 0 then (s, 0)
    else
      match s.collPort k j with
      | none => (s, 4)
      | some port =>
        let m := min (s.maxPayload port) n
        let r := match kept with
          | some l => (s, MemRes.ok, l.take m)
          | none => s.memRead a m ecc
        match r with
        | (s, .ok, b) =>
          State.collBytes f (s.collPacket ch port k 0x11 j phase o b) ch k j phase (kept.map (List.drop m)) (a + m) (o + m)
            (n - m) []
        | (s, _, _) => (s, 5)

/-- Have all partials of the own share arrived in phase 1, from the ranks that send them? -/
def Coll.gotOwn (k : Coll) (froms : List Nat) : Bool :=
  froms.all fun r => (List.range ((k.len k.rank + 63) / 64)).all fun u => k.got.contains (k.start k.rank / 64 + u, r)

/-- Have the shares of the other ranks arrived in phase 2? -/
def Coll.gotOthers (k : Coll) : Bool :=
  k.others.all fun r => (List.range ((k.len r + 63) / 64)).all fun u => k.got1.contains (k.start r / 64 + u, r)

/-- Is the own share ready to be sent in phase 2 (R217)? -/
def Coll.ownReady (k : Coll) : Bool :=
  match k.op with
  | 1 => k.gotOwn k.others
  | 3 => true
  | 4 => k.rank == k.root || k.gotOwn [k.root]
  | _ => false

/-- Does a channel send in phase 1? -/
def Coll.sendsFirst (k : Coll) : Bool := k.op == 1 || k.op == 2 || (k.op == 4 && k.rank == k.root)

/-- Where the own share stands for phase 2: in DST, to which it has been copied. -/
def Coll.ownAt (k : Coll) : Nat := k.dst + k.start k.rank

/-- Is the share of member 0 sent from what was kept of it (R215, R217)? -/
def Coll.keeps (k : Coll) : Bool := k.op == 2 && k.src == k.dst && k.rank != 0

/-- Send what is due to one rank whose READY has arrived; a failure ends the collective. -/
def State.pushRank (s : State) (ch j : Nat) (ecc : List MemEcc) : State :=
  match s.coll ch with
  | none => s
  | some k =>
    let (s, st) := if k.sendsFirst && !k.sent0.contains j then
        State.collBytes (k.len j / 64 + 1) (s.setColl ch { k with sent0 := k.sent0 ++ [j] }) ch k j 0
          (if k.keeps && j == 0 then some k.kept else none) (k.src + k.start j) (k.start j) (k.len j) ecc
      else (s, 0)
    if st ≠ 0 then s.collFinish ch st
    else
      match s.coll ch with
      | none => s
      | some k =>
        if k.ownReady && !k.sent1.contains j then
          let s := s.setColl ch { k with sent1 := k.sent1 ++ [j] }
          let (s, st) := State.collBytes (k.len k.rank / 64 + 1) s ch k j 1 none k.ownAt (k.start k.rank) (k.len k.rank) ecc
          if st ≠ 0 then s.collFinish ch st else s
        else s

/-- Send what is due to every other rank whose READY has arrived (R216, R217). -/
def State.collPush (s : State) (ch : Nat) (ecc : List MemEcc) : State :=
  match s.coll ch with
  | none => s
  | some k => (k.others.filter fun j => k.ready.contains j).foldl (fun s j => s.pushRank ch j ecc) s

/-! ### Starting -/

/-- A READY agrees with a running collective (R216)? -/
def Coll.agrees (k : Coll) (r : ReadyRec) : Bool :=
  r.op == k.op && r.dtype == k.dtype && r.count == k.count && r.root == k.root

/-- Take a READY into a running collective: a disagreement ends it with MISMATCH (R216). -/
def State.takeReady (s : State) (ch : Nat) (r : ReadyRec) (ecc : List MemEcc) : State :=
  match s.coll ch with
  | none => s
  | some k =>
    if !k.agrees r then s.collFinish ch 7
    else
      match k.members.findIdx? (· == r.src) with
      | none => s
      | some j => (s.setColl ch { k with ready := k.ready ++ [j] }).collPush ch ecc

/-- Copy a share within memory. -/
def State.collCopy (s : State) (src dst n : Nat) (ecc : List MemEcc) : State × Bool :=
  if src = dst ∨ n = 0 then (s, true)
  else
    match s.memRead src n ecc with
    | (s, .ok, b) =>
      match s.memWrite dst b [] with
      | (s, .ok, _) => (s, true)
      | (s, _, _) => (s, false)
    | (s, _, _) => (s, false)

/-- The channel's own share goes to DST at the start (R217). -/
def State.ownCopy (s : State) (k : Coll) (ecc : List MemEcc) : State × Bool :=
  let o := k.start k.rank
  match k.op with
  | 1 => s.collCopy (k.src + o) (k.dst + o) (k.len k.rank) ecc
  | 2 => s.collCopy (k.src + o) k.dst (k.len k.rank) ecc
  | 3 => s.collCopy k.src (k.dst + o) (k.len k.rank) ecc
  | _ => if k.rank = k.root then s.collCopy (k.src + o) (k.dst + o) (k.len k.rank) ecc else (s, true)

/-- Read the share of member 0 before the own share overwrites it, where DST stands there (R215, R217). -/
def State.keepShare (s : State) (k : Coll) (ecc : List MemEcc) : State × Option Coll :=
  if k.keeps && k.len 0 != 0 then
    match s.memRead k.src (k.len 0) ecc with
    | (s, .ok, b) => (s, some { k with kept := b })
    | (s, _, _) => (s, none)
  else (s, some k)

/-- Start a checked descriptor: RUNNING, the own share, READY to the members, and READYs that came early (R216, R217). -/
def State.collRun (s : State) (ch : Nat) (k : Coll) (ecc : List MemEcc) : State :=
  let s := (s.setF (.ixf .collStatusRunning) ch 1).setColl ch k
  match s.keepShare k ecc with
  | (s, none) => s.collFinish ch 5
  | (s, some k) =>
    match (s.setColl ch k).ownCopy k ecc with
    | (s, false) => s.collFinish ch 5
    | (s, true) =>
      if k.others.any fun j => (s.collPort k j).isNone then s.collFinish ch 4
      else
        match s.sendReadies ch k k.others with
        | none => s.collFinish ch 4
        | some s =>
          let early := s.ixf.readies.filter fun r => r.group == k.group && r.seq == k.seq
          early.foldl (fun s r => s.takeReady ch r []) s

/-- A descriptor that does not start completes at once; the group counts where it is known. -/
def State.collRefuse (s : State) (ch addr st : Nat) (d : CollDesc) : State :=
  ((s.grpAfter d.group st).collShow ch st).collReport addr st (if d.gate then some d.doneGate else none)

/-- Check a descriptor that has been read, and run it (R213 to R218). -/
def State.collBegin (s : State) (ch addr : Nat) (b : List Byte) (ecc : List MemEcc) : State :=
  let d := readColl b
  let g := d.group
  let s := (s.memWrite (addr + 32) [0] []).1
  let m := s.grpMembers g
  if !collWellFormed b || !s.liveFlag (.ixf .grpCfgEnable) g || s.getLive (.ixf .grpCfgChannel) g != ch ||
      (d.op == 4 && decide (d.root ≥ m)) then
    s.collRefuse ch addr 3 d
  else
    match s.memRead (s.grpList g) (2 * m) [] with
    | (s, .ok, l) =>
      let members := idList m l
      let rank := s.getLive (.ixf .grpCfgRank) g
      let k : Coll :=
        { op := d.op, dtype := d.dtype, gate := d.gate, group := g, root := d.root, doneGate := d.doneGate,
          src := d.src, dst := d.dst, count := d.count, addr := addr, members := members, rank := rank,
          seq := s.getF (.ixf .grpSeqSeq) g, ready := [], sent0 := [], sent1 := [], readyTags := [], tags := [], kept := [],
          got := [], got1 := [] }
      if members[rank]? ≠ some s.moduleId || !k.apart then s.collRefuse ch addr 3 d
      else if s.flag (.ixf .grpCfgBroken) g then s.collRefuse ch addr 8 d
      else if d.count = 0 then s.collRefuse ch addr 2 d
      else s.collRun ch k ecc
    | (s, _, _) => s.collRefuse ch addr 5 d

/-- COLL_START (R140, R213): an idle enabled channel whose start gate allows a GTEST with TRY of 1 takes the next
descriptor of its queue. One that cannot be read completes with MEM_ERROR (log entry 23). -/
def execCollStart (ch : Nat) (mecc : List MemEcc) (s : State) : Host.Outcome State Fault Refusal :=
  .next <|
    let g := s.getLive (.ixf .collCfgStartGate) ch
    if decide (ch < 16) && s.isOn .iod && s.liveFlag (.ixf .collCfgEnable) ch && (s.coll ch).isNone && validGate g &&
        s.gateOn g && !s.isBarrier g && (s.gateQueue g).isEmpty && decide (1 ≤ s.gateCount g) then
      let s := s.setCount g (s.gateCount g - 1)
      let i := s.getF (.ixf .collNextIndex) ch
      let s := s.addWrap (.ixf .collNextIndex) ch 1
      let base := s.getLive (.ixf .collQLoQLo) ch * 2 ^ 12 + s.getLive (.ixf .collQHiQHi) ch * 2 ^ 32
      let addr := base + 64 * (i % 2 ^ s.getLive (.ixf .collCfgQsizeLog2) ch)
      match s.memRead addr 64 mecc with
      | (s, .ok, b) => s.collBegin ch addr b []
      | (s, _, _) => (s.collShow ch 5).collReport addr 5 none
    else s

/-- Has a collective sent all it has to send, and received all it expects (R217)? -/
def Coll.complete (k : Coll) : Bool :=
  k.tags.isEmpty && (!k.sendsFirst || k.others.all k.sent0.contains) && (k.op == 2 || k.others.all k.sent1.contains) &&
    (match k.op with
      | 2 => k.gotOwn k.others
      | _ => k.ownReady && k.gotOthers)

/-- COLL_COMPLETE (R217, R218): every packet sent has been answered OK and every share expected has arrived. -/
def execCollComplete (ch : Nat) (s : State) : Host.Outcome State Fault Refusal :=
  .next <|
    match s.coll ch with
    | some k => if k.complete then s.collFinish ch 1 else s
    | none => s

/-- COLL_TIMEOUT (R218). -/
def execCollTimeout (ch : Nat) (s : State) : Host.Outcome State Fault Refusal := .next (s.collFinish ch 6)

end Sys2Proof.Machine
end

