-- ==== Sys2Proof/Machine/Crypto.lean ====
section
/-!
DEFINITION. The published functions that the image checks, the identity key and the attestation use: SHA-512 (FIPS
180-4) and Ed25519 verification and signing (RFC 8032, pure Ed25519), over lists of bytes (R383, R384, R398 to R400).
-/

namespace Sys2Proof.Machine

/-! ### SHA-512 -/

/-- Round constants, first half. -/
def sha512KA : List Nat := [
  0x428A2F98D728AE22, 0x7137449123EF65CD, 0xB5C0FBCFEC4D3B2F, 0xE9B5DBA58189DBBC,
  0x3956C25BF348B538, 0x59F111F1B605D019, 0x923F82A4AF194F9B, 0xAB1C5ED5DA6D8118,
  0xD807AA98A3030242, 0x12835B0145706FBE, 0x243185BE4EE4B28C, 0x550C7DC3D5FFB4E2,
  0x72BE5D74F27B896F, 0x80DEB1FE3B1696B1, 0x9BDC06A725C71235, 0xC19BF174CF692694,
  0xE49B69C19EF14AD2, 0xEFBE4786384F25E3, 0x0FC19DC68B8CD5B5, 0x240CA1CC77AC9C65,
  0x2DE92C6F592B0275, 0x4A7484AA6EA6E483, 0x5CB0A9DCBD41FBD4, 0x76F988DA831153B5,
  0x983E5152EE66DFAB, 0xA831C66D2DB43210, 0xB00327C898FB213F, 0xBF597FC7BEEF0EE4,
  0xC6E00BF33DA88FC2, 0xD5A79147930AA725, 0x06CA6351E003826F, 0x142929670A0E6E70,
  0x27B70A8546D22FFC, 0x2E1B21385C26C926, 0x4D2C6DFC5AC42AED, 0x53380D139D95B3DF,
  0x650A73548BAF63DE, 0x766A0ABB3C77B2A8, 0x81C2C92E47EDAEE6, 0x92722C851482353B]

/-- Round constants, second half. -/
def sha512KB : List Nat := [
  0xA2BFE8A14CF10364, 0xA81A664BBC423001, 0xC24B8B70D0F89791, 0xC76C51A30654BE30,
  0xD192E819D6EF5218, 0xD69906245565A910, 0xF40E35855771202A, 0x106AA07032BBD1B8,
  0x19A4C116B8D2D0C8, 0x1E376C085141AB53, 0x2748774CDF8EEB99, 0x34B0BCB5E19B48A8,
  0x391C0CB3C5C95A63, 0x4ED8AA4AE3418ACB, 0x5B9CCA4F7763E373, 0x682E6FF3D6B2B8A3,
  0x748F82EE5DEFB2FC, 0x78A5636F43172F60, 0x84C87814A1F0AB72, 0x8CC702081A6439EC,
  0x90BEFFFA23631E28, 0xA4506CEBDE82BDE9, 0xBEF9A3F7B2C67915, 0xC67178F2E372532B,
  0xCA273ECEEA26619C, 0xD186B8C721C0C207, 0xEADA7DD6CDE0EB1E, 0xF57D4F7FEE6ED178,
  0x06F067AA72176FBA, 0x0A637DC5A2C898A6, 0x113F9804BEF90DAE, 0x1B710B35131C471B,
  0x28DB77F523047D84, 0x32CAAB7B40C72493, 0x3C9EBE0A15C9BEBC, 0x431D67C49C100D4C,
  0x4CC5D4BECB3E42B6, 0x597F299CFC657E2A, 0x5FCB6FAB3AD6FAEC, 0x6C44198C4A475817]

/-- Initial hash value. -/
def sha512IV : List Nat := [
  0x6A09E667F3BCC908, 0xBB67AE8584CAA73B, 0x3C6EF372FE94F82B, 0xA54FF53A5F1D36F1,
  0x510E527FADE682D1, 0x9B05688C2B3E6C1F, 0x1F83D9ABFB41BD6B, 0x5BE0CD19137E2179]

/-- Rotate a 64-bit word right. -/
def ror64 (x n : Nat) : Nat := (x / 2 ^ n + x * 2 ^ (64 - n)) % 2 ^ 64

/-- Big-endian number of bytes. -/
def beNat (l : List Byte) : Nat := l.foldl (fun n b => 256 * n + b.toNat) 0

/-- The n low bytes of a number, most significant first. -/
def beBytes (n x : Nat) : List Byte := (leBytes n x).reverse

/-- Padding: 0x80, zeros, and the bit length in 16 bytes, to a multiple of 128. -/
def shaPad (n : Nat) : List Byte :=
  0x80#8 :: (List.replicate ((239 - n % 128) % 128) 0#8 ++ beBytes 16 (8 * n))

/-- Cut a list into words of eight bytes, big-endian. -/
def shaWords : Nat → List Byte → List Nat
  | 0, _ => []
  | n + 1, l => beNat (l.take 8) :: shaWords n (l.drop 8)

/-- Extend a window of the sixteen last message words, oldest first, by one word. -/
def shaNextW (w : List Nat) : Nat :=
  let g := fun i => w.getD i 0
  let s0 := ror64 (g 1) 1 ^^^ ror64 (g 1) 8 ^^^ (g 1 / 2 ^ 7)
  let s1 := ror64 (g 14) 19 ^^^ ror64 (g 14) 61 ^^^ (g 14 / 2 ^ 6)
  (g 0 + s0 + g 9 + s1) % 2 ^ 64

/-- One round with constant k and message word w on the eight working words. -/
def shaRound (v : List Nat) (k w : Nat) : List Nat :=
  match v with
  | [a, b, c, d, e, f, g, h] =>
    let s1 := ror64 e 14 ^^^ ror64 e 18 ^^^ ror64 e 41
    let ch := (e &&& f) ^^^ ((2 ^ 64 - 1 - e) &&& g)
    let t1 := h + s1 + ch + k + w
    let s0 := ror64 a 28 ^^^ ror64 a 34 ^^^ ror64 a 39
    let mj := (a &&& b) ^^^ (a &&& c) ^^^ (b &&& c)
    [(t1 + s0 + mj) % 2 ^ 64, a, b, c, (d + t1) % 2 ^ 64, e, f, g]
  | v => v

/-- The rounds over a list of constants, the window of message words moving on. -/
def shaRounds : List Nat → List Nat → List Nat → List Nat
  | [], v, _ => v
  | k :: ks, v, w => shaRounds ks (shaRound v k (w.headD 0)) (w.drop 1 ++ [shaNextW w])

/-- Compress one block of 128 bytes into the hash value. -/
def shaBlock (h : List Nat) (blk : List Byte) : List Nat :=
  List.zipWith (fun a b => (a + b) % 2 ^ 64) h (shaRounds (sha512KA ++ sha512KB) h (shaWords 16 blk))

/-- Compress n blocks. -/
def shaBlocks : Nat → List Nat → List Byte → List Nat
  | 0, h, _ => h
  | n + 1, h, l => shaBlocks n (shaBlock h (l.take 128)) (l.drop 128)

/-- SHA-512 of a list of bytes: 64 bytes. -/
def sha512 (m : List Byte) : List Byte :=
  let p := m ++ shaPad m.length
  ((shaBlocks (p.length / 128) sha512IV p).map (beBytes 8)).flatten

/-! ### Ed25519 -/

/-- The field prime. -/
def edP : Nat := 2 ^ 255 - 19

/-- The order of the base point. -/
def edL : Nat := 2 ^ 252 + 27742317777372353535851937790883648493

/-- The curve constant. -/
def edD : Nat := 0x52036CEE2B6FFE738CC740797779E89800700A4D4141D8AB75EB4DCA135978A3

/-- A square root of -1. -/
def edI : Nat := 0x2B8324804FC1DF0B2B4D00993DFBD7A72F431806AD2FE478C4EE1B274A0EA0B0

/-- b ^ e modulo the prime, over the n low bits of e. -/
def edPow : Nat → Nat → Nat → Nat
  | 0, _, _ => 1
  | n + 1, b, e => let r := edPow n (b * b % edP) (e / 2); if e % 2 = 1 then r * b % edP else r

/-- A point in extended coordinates. -/
structure EdPoint where
  x : Nat
  y : Nat
  z : Nat
  t : Nat
deriving DecidableEq, Repr

/-- The neutral point. -/
def edZero : EdPoint := ⟨0, 1, 1, 0⟩

/-- The base point. -/
def edBase : EdPoint := ⟨0x216936D3CD6E53FEC0A4E231FDD6DC5C692CC7609525A7B2C9562D608F25D51A,
  0x6666666666666666666666666666666666666666666666666666666666666658, 1,
  0x67875F0FD78B766566EA4E8E64ABE37D20F09F80775152F56DDE8AB3A5B7DDA3⟩

/-- Difference modulo the prime. -/
def edSub (a b : Nat) : Nat := (a + edP - b % edP) % edP

/-- Sum of two points. -/
def edAdd (p q : EdPoint) : EdPoint :=
  let a := edSub p.y p.x * edSub q.y q.x % edP
  let b := (p.y + p.x) * (q.y + q.x) % edP
  let c := 2 * p.t * q.t % edP * edD % edP
  let d := 2 * p.z * q.z % edP
  let e := edSub b a
  let f := edSub d c
  let g := (d + c) % edP
  let h := (b + a) % edP
  ⟨e * f % edP, g * h % edP, f * g % edP, e * h % edP⟩

/-- k times a point, over the n low bits of k. -/
def edMul : Nat → Nat → EdPoint → EdPoint
  | 0, _, _ => edZero
  | n + 1, k, p => let r := edMul n (k / 2) (edAdd p p); if k % 2 = 1 then edAdd r p else r

/-- The 32 bytes of a point. -/
def edEncode (p : EdPoint) : List Byte :=
  let zi := edPow 255 p.z (edP - 2)
  leBytes 32 (p.y * zi % edP + 2 ^ 255 * (p.x * zi % edP % 2))

/-- The point that 32 bytes name, if any. -/
def edDecode (l : List Byte) : Option EdPoint :=
  let n := leNat l
  let y := n % 2 ^ 255
  let sign := n / 2 ^ 255
  if y ≥ edP ∨ l.length ≠ 32 then none
  else
    let u := edSub (y * y) 1
    let v := (edD * (y * y % edP) + 1) % edP
    let x2 := u * edPow 255 v (edP - 2) % edP
    let r := edPow 255 x2 ((edP + 3) / 8)
    let r := if r * r % edP = x2 then r else r * edI % edP
    if r * r % edP ≠ x2 then none
    else if r = 0 ∧ sign = 1 then none
    else
      let x := if r % 2 = sign then r else edP - r
      some ⟨x, y, 1, x * y % edP⟩

/-- Do two points agree? -/
def edSame (p q : EdPoint) : Bool := p.x * q.z % edP == q.x * p.z % edP && p.y * q.z % edP == q.y * p.z % edP

/-- Ed25519 verification of a 64-byte signature over a message with a 32-byte public key. -/
def edVerify (pk msg sig : List Byte) : Bool :=
  let sb := leNat ((sig.drop 32).take 32)
  match edDecode pk, edDecode (sig.take 32) with
  | some a, some r =>
    let k := leNat (sha512 (sig.take 32 ++ pk ++ msg)) % edL
    sig.length == 64 && decide (sb < edL) && edSame (edMul 253 sb edBase) (edAdd r (edMul 253 k a))
  | _, _ => false

/-- The clamped secret scalar of a 32-byte seed. -/
def edScalar (seed : List Byte) : Nat :=
  let n := leNat ((sha512 seed).take 32)
  n % 2 ^ 254 / 8 * 8 + 2 ^ 254

/-- The public key of a seed. -/
def edPublic (seed : List Byte) : List Byte := edEncode (edMul 255 (edScalar seed) edBase)

/-- The Ed25519 signature of a message under a seed. -/
def edSign (seed msg : List Byte) : List Byte :=
  let a := edScalar seed
  let pk := edPublic seed
  let r := leNat (sha512 ((sha512 seed).drop 32 ++ msg)) % edL
  let rb := edEncode (edMul 253 r edBase)
  let k := leNat (sha512 (rb ++ pk ++ msg)) % edL
  rb ++ leBytes 32 ((r + k * a) % edL)

end Sys2Proof.Machine
end

