-- ==== Sys2Proof/Machine/FabricUnit.lean ====
section
/-!
DEFINITION. What the links share: requests that fail (R154, R205, R218, R222), hashed traffic that is held (R207), the
partner link going down and a lost partner (R222, R224), modules declared down (R209) and isolation (R210).
-/

namespace Sys2Proof.Machine

/-! ### Answers that wait for mirror writes -/

/-- Send an answer: to the host, or on the plane of its request, sprayed if that plane is out (R205). -/
def State.sendLate (s : State) (a : LateAck) : State :=
  if a.port = 13 then s.sendHost a.pkt
  else if s.portUp a.port then s.sendPkt a.port a.pkt
  else match s.sprayPort a.pkt.dst 1 with
    | some k => s.sendPkt k { a.pkt with spray := true }
    | none => s

/-- Send the waiting answers whose TAGs have all been answered (R123). -/
def State.sendLates (s : State) : List LateAck → State
  | [] => s
  | a :: t => (if a.tags.isEmpty then s.sendLate a else s).sendLates t

/-- A mirror write is answered, well or not: pieces and answers that await its TAG forget it (R123, R222). -/
def State.mirrorDone (s : State) (tag : Nat) : State :=
  let who := (s.clu.filter fun e => (e.2.findTag tag).isSome).map (·.1)
  let s := who.foldl (fun s c => s.answerTag c tag 0) (s.dropReq tag)
  let l := s.ixf.lateAcks.map fun a => { a with tags := a.tags.filter (· ≠ tag) }
  let s := { s with ixf := { s.ixf with lateAcks := l.filter fun a => !a.tags.isEmpty } }
  s.sendLates l

/-- Mark the blocks of n bytes at a local address dirty, as far as mirrored regions hold them (R222). -/
def State.dirtyAt (s : State) (pa n : Nat) : State :=
  (s.mirParts pa (List.replicate n 0)).foldl (fun s x => s.markDirty x.1 x.2.1 x.2.2.length) s

/-- A copy packet was not answered OK: its block stays dirty (R223). -/
def State.copyFailed (s : State) : State := { s with ptn := { s.ptn with copy := s.ptn.copy.map fun b => (b.1, true) } }

/-- The blocks that n bytes at a local address touch in mirrored regions: region × 2^15 + block. -/
def State.blocksAt (s : State) (pa n : Nat) : List Nat :=
  (s.mirParts pa (List.replicate n 0)).flatMap fun x =>
    let o := x.2.1 - (s.mirSpan x.1).1
    (List.range ((o + x.2.2.length - 1) / 2 ^ 21 - o / 2 ^ 21 + 1)).map fun i => x.1 * 2 ^ 15 + o / 2 ^ 21 + i

/-- A mirror write or copy packet was not answered OK: its blocks are dirty, and a copy of one of them has failed; a refusal
raises the event (R221 to R223). -/
def State.mirrorBad (s : State) (pa n st : Nat) : State :=
  let blocks := s.blocksAt pa n
  let s := s.dirtyAt pa n
  let s := match s.ptn.copy with
    | some (b, _) => if blocks.contains b then s.copyFailed else s
    | none => s
  if st = 3 then s.ptnEvent 3 else s

/-! ### Requests that fail -/

/-- A request completes with LINK_FAIL: a transfer ends (R88, R205), a signal is lost (R154), a collective ends (R218), a
mirrored block is dirty (R222), a copy has failed (R223). -/
def State.reqFail (s : State) (r : RemReq) : State :=
  let s := s.dropReq r.tag
  match r.kind with
  | 0 | 1 => s.answerTag r.cluster r.tag 4
  | 2 => s.signalLost r.aux r.dst
  | 3 => s.collFinish r.aux 4
  | 4 => (s.mirrorBad r.aux r.len 4).mirrorDone r.tag
  | _ => s.mirrorBad r.aux r.len 4

/-- Every outstanding request that a test picks fails. -/
def State.failReqs (s : State) (p : RemReq → Bool) : State :=
  (s.ixf.reqs.filter p).foldl (fun s r => if (s.findReq r.tag).isSome then s.reqFail r else s) s

/-- Held signals to the modules that a test picks are lost at once (R154, R209, R210). -/
def State.failSignals (s : State) (p : Nat → Bool) : State :=
  let l := s.ixf.sigHeld.filter fun h => p h.dst
  let s : State := { s with ixf := { s.ixf with sigHeld := s.ixf.sigHeld.filter fun h => !p h.dst } }
  l.foldl (fun s h => s.signalLost h.gate h.dst) s

/-- Is a member of a collective fenced or unreachable (R218)? -/
def State.collCut (s : State) (k : Coll) : Bool := k.others.any fun j => (s.collPort k j).isNone

/-- Collectives with a member that is fenced or unreachable end with LINK_FAIL (R218). -/
def State.collCheck (s : State) : State :=
  ((s.ixf.colls.filter fun e => s.collCut e.2).map (·.1)).foldl (fun s ch => s.collFinish ch 4) s

/-! ### Packets that wait at a port -/

/-- Take the packets that wait at a port out of its queues. -/
def State.takeWaiting (s : State) (k : Nat) : List Pkt × State :=
  ([0, 1, 2].flatMap fun vc => s.waitingOn k vc, [0, 1, 2].foldl (fun s vc => s.setWaiting k vc []) s)

/-- A packet that waited at a port which has left UP goes out on another plane; without one it is given up (R205). -/
def State.reroute (s : State) (p : Pkt) : State :=
  if decide (0x20 ≤ p.typ) then s
  else match s.sprayPort p.dst p.vc with
    | some k => s.sendPkt k { p with spray := true }
    | none => s

/-- Packets that wait for a module are given up. -/
def State.dropWaiting (s : State) (x : Nat) : State :=
  { s with lnk := { s.lnk with waiting := s.lnk.waiting.mapVals [] fun l => l.filter fun p => p.typ ≥ 0x30 || p.dst != x } }

/-! ### Holding hashed traffic -/

/-- Destinations with a hashed request outstanding. -/
def State.hashedDsts (s : State) : List Nat := ((s.ixf.reqs.filter (·.hashed)).map (·.dst)).dedup

/-- After a change of the fabric, hashed traffic to the destinations whose candidates differ from those in old is held
(R207). -/
def State.holdChanged (s old : State) : State :=
  let l := old.hashedDsts.filter fun x => !s.ixf.hashHeld.contains x && s.candidates x != old.candidates x
  { s with ixf := { s.ixf with hashHeld := s.ixf.hashHeld ++ l } }

/-! ### The partner -/

/-- STATE of the partner's last summary (R225). -/
def State.partnerState (s : State) : Nat := bits (s.getF (.ptn .sumBytes) 0) 15 8

/-- The partner is lost: fenced, LOST, the event (R224). -/
def State.partnerLost (s : State) : State :=
  if s.flag (.ptn .statusLost) then s
  else
    let s := { s with ptn := { s.ptn with fenced := true } }
    (s.setF (.ptn .statusLost) 0 1).ptnEvent 2

/-- Is the partner to be declared lost while the link is down: its last summary said REMOVING or FAILED, or its ID is
declared down on Isxel (R224)? -/
def State.partnerGone (s : State) : Bool :=
  !s.portUp 12 && s.flag (.ptn .statusIdValid) &&
    (s.partnerState == 5 || s.partnerState == 6 || s.fencedMod (s.getF (.ptn .statusPartnerId)))

/-- Declare the partner lost if it is. -/
def State.lostCheck (s : State) : State := if s.partnerGone then s.partnerLost else s

/-- A port's credits and the queue for them are gone when it leaves UP. -/
def State.dropCredits (s : State) (k : Nat) : State :=
  let s := s.clearCredits k
  let clu := s.clu.mapVals clusterInit fun c => { c with linkHeld := c.linkHeld.erase k }
  { s with clu := clu, ixf := { s.ixf with linkQ := s.ixf.linkQ.erase k } }

/-- The partner link leaves UP for a state: mirror writes that wait are acknowledged as written locally and their blocks
are dirty, the copy stops, the event and, with the link down, a lost partner follow (R222, R224). -/
def State.ptnLeave (s : State) (st : Nat) : State :=
  let up := s.portUp 12
  let s := s.setF (.ptn .statusState) 0 st
  if up then
    let (l, s) := (s.dropCredits 12).takeWaiting 12
    let s := l.foldl (fun s p => s.reroute p) s
    let s := { s with ptn := { s.ptn with copy := none },
                      ixf := { s.ixf with reqs := s.ixf.reqs.filter fun r => r.kind ≠ 5 } }
    let s := s.setF (.ptn .resyncActive) 0 0
    let s := (s.failReqs fun r => r.kind == 4).ptnEvent 0
    if st = 3 then s else s.lostCheck
  else s

/-! ### Modules down -/

/-- Is module x down: a port of this module is UP, and on each plane the own port is not UP or the last notice was DOWN
(R209)? -/
def State.isDown (s : State) (x : Nat) : Bool :=
  !s.portsUp.isEmpty && (List.range 12).all fun k => !s.portUp k || (s.ixf.downs.getD x 0).testBit k

/-- Declare module x down if it is and is not fenced already (R209): the fence, the record, the event, its requests, and
the partner it may be (R224). -/
def State.declareDown (s : State) (x : Nat) : State :=
  if s.isDown x && !s.fencedMod x then
    let s := { s with ixf := { s.ixf with fenced := s.ixf.fenced ++ [x] } }
    let s := (s.setF (.ixf .destDownLastId) 0 x).addSat (.ixf .destDownCount) 0 1
    let s := s.ixfEvent 2 x
    let s := ((s.failReqs fun r => r.dst == x).failSignals (· == x)).dropWaiting x
    s.collCheck.lostCheck
  else s

/-- Evaluate R209 for every module about which a notice said DOWN. -/
def State.declareAll (s : State) : State := (s.ixf.downs.map (·.1)).foldl (fun s x => s.declareDown x) s

/-- Isolation begins when the last port leaves UP (R210). -/
def State.isolated (s : State) : State :=
  if s.portsUp.isEmpty then
    (((s.ixfEvent 3 0).failReqs fun r => r.via != 12).failSignals fun x => !s.viaPartner x).collCheck
  else s

/-- A port goes to a state other than UP: out of routing, its credits gone; the event, isolation, modules down and held
hashed traffic follow (R196, R207, R209, R210). -/
def State.portLeave (s : State) (k st : Nat) : State :=
  let up := s.portUp k
  let s' := s.setF (.ixf .portStatusState) k st
  if up then
    let (l, s') := ((s'.dropCredits k).clearBit (.ixf .portsUpUp) 0 k).takeWaiting k
    let s' := l.foldl (fun s p => s.reroute p) s'
    ((s'.ixfEvent 0 k).holdChanged s).isolated.declareAll.collCheck
  else s'

/-! ### Receiving -/

/-- A packet discarded as malformed or misaddressed is counted (R201). -/
def State.discard (s : State) (k : Nat) : State :=
  if k = 12 then s.addSat (.ptn .sumAgeDiscard) 0 1
  else (s.addSat (.ixf .discardBad) 0 1).ixfEvent 5 0

/-- A packet from a fenced module is counted (R209, R224). -/
def State.discardFenced (s : State) (k : Nat) : State :=
  if k = 12 then s.addSat (.ptn .sumAgeDiscard) 0 1 else s.addSat (.ixf .discardFenced) 0 1

/-- The virtual channel of a packet type (R199). -/
def typeVc (t : Nat) : Nat :=
  if t = 6 ∨ t = 7 ∨ t = 9 ∨ t = 0x12 ∨ t = 0x18 ∨ t = 0x21 then 1 else if t = 0x10 ∨ t = 0x11 then 2 else 0

/-- Does LEN suit a packet type (R199)? -/
def typeLen (t len : Nat) : Bool :=
  if t = 1 ∨ t = 2 ∨ t = 3 ∨ t = 0x11 ∨ t = 0x20 then decide (1 ≤ len ∧ len ≤ 4)
  else if t = 6 then decide (len ≤ 4)
  else if t = 0x22 then len == 1
  else len == 0

/-- Does AUX suit a packet type (R199)? -/
def typeAux (t len aux : Nat) : Bool :=
  if t = 1 ∨ t = 2 ∨ t = 3 ∨ t = 0x20 then aux == 0 || (decide (aux < 64) && aux % 8 == 0 && len == 1)
  else if t = 4 ∨ t = 5 then
    bits aux 7 3 == 0 && decide (aux < 2 ^ 14) && decide (1 ≤ aux % 8 ∧ aux % 8 ≤ 4) && bits aux 13 8 % 8 == 0 &&
      (bits aux 13 8 == 0 || aux % 8 == 1)
  else if t = 0x10 ∨ t = 0x11 then decide (aux < 2 ^ 22)
  else true

/-- Does a link carry a packet type (R199, R220)? -/
def linkCarries (k t : Nat) : Bool :=
  if k = 12 then t == 0x20 || t == 0x21 || t == 0x22 || decide (1 ≤ t ∧ t ≤ 9) else decide (t < 0x20)

/-- Does STATUS suit a packet type: that of an answer is none of the reserved codes (R200)? -/
def typeStatus (t st : Nat) : Bool :=
  if t = 6 ∨ t = 7 ∨ t = 9 ∨ t = 0x12 ∨ t = 0x21 then decide (st ≤ 4)
  else if t = 0x18 then decide (1 ≤ st ∧ st ≤ 4) else true

/-- Is a packet of a type well formed and for this module (R198 to R201)? -/
def State.pktOk (s : State) (k t : Nat) (p : Pkt) : Bool :=
  p.sound && p.typ == t && linkCarries k t && p.dst == s.moduleId && decide (p.src < 2 ^ 14) && p.vc == typeVc t &&
    typeLen t p.len && typeAux t p.len p.aux && typeStatus t p.status && decide (p.addr < 2 ^ 50)

/-- The type of the answer to a request (R199). -/
def answerType (t : Nat) : Option Nat :=
  match t with
  | 1 | 2 | 3 => some 7
  | 4 | 5 => some 6
  | 8 => some 9
  | 0x11 => some 0x12
  | 0x20 => some 0x21
  | _ => none

/-- The answer to a packet (R199, R200). -/
def State.answerPkt (s : State) (p : Pkt) (typ st : Nat) (data : List Byte) : Pkt :=
  { s.packet typ p.src 1 p.tag 0 0 data with status := st }

/-- Answer a packet: on the plane of the request, sprayed if that plane is out, once the TAGs of mirror writes are
answered (R123, R204, R205). -/
def State.answer (s : State) (k : Nat) (p : Pkt) (typ st : Nat) (data : List Byte) (tags : List Nat := []) : State :=
  let a : LateAck := ⟨tags, k, s.answerPkt p typ st data⟩
  if tags.isEmpty then s.sendLate a else { s with ixf := { s.ixf with lateAcks := s.ixf.lateAcks ++ [a] } }

/-- A packet from a fenced module is discarded and counted; a requester that R209 fences is told so (R200, R209, R224). -/
def State.refuseFenced (s : State) (k : Nat) (p : Pkt) : State :=
  let s := s.discardFenced k
  if s.fencedMod p.src then
    match answerType p.typ with
    | some a => s.answer k p a 4 []
    | none => s
  else s

/-- Does a fence stand before a packet: that of a module declared down, or that of a lost partner (R209, R224)? A switch's notice
names the module it is about as its source. -/
def State.fencedPkt (s : State) (k : Nat) (p : Pkt) : Bool := p.typ != 0x18 && ((k == 12 && s.ptn.fenced) || s.fencedMod p.src)

/-- A packet has left its receive buffer: its link credit goes back (R203, R204). -/
def State.leaveBuffer (s : State) (k : Nat) (p : Pkt) : State :=
  if s.linkLive k then (s.owe k p.vc).payCredits k else s

/-- Take a packet off a link that is UP: malformed and fenced packets are discarded and leave their buffer, any other is acted
on (R201, R204, R209, R224). -/
def State.sift (s : State) (k t : Nat) (p : Pkt) (act : State → State) : State :=
  if !s.portUp k then s
  else if !s.pktOk k t p then (s.discard k).leaveBuffer k p
  else if s.fencedPkt k p then (s.refuseFenced k p).leaveBuffer k p
  else act s

/-- Take an answer or a notice off a link: acted on at once (R204). -/
def State.receive (s : State) (k t : Nat) (p : Pkt) (act : State → State) : State :=
  s.sift k t p fun s => (act s).leaveBuffer k p

/-- The byte count of a write packet (R199). -/
def pktWriteLen (p : Pkt) : Nat := if p.aux % 64 = 0 then 64 * p.len else p.aux % 64

/-- The byte count a read packet asks for (R199). -/
def pktReadLen (p : Pkt) : Nat := if bits p.aux 13 8 = 0 then 64 * (p.aux % 8) else bits p.aux 13 8

/-- The data of a write packet. -/
def pktData (p : Pkt) : List Byte := p.payload.take (pktWriteLen p)

/-- Does an enabled remote window grant an access of n bytes to a source (R202)? -/
def State.windowGrants (s : State) (write : Bool) (src a n : Nat) : Bool :=
  (List.range 16).any fun w =>
    let base := s.getLive (.ixf .winBaseLoBaseLo) w * 2 ^ 16 + s.getLive (.ixf .winBaseHiBaseHi) w * 2 ^ 32
    s.liveFlag (.ixf .winCfgEnable) w && (if write then s.liveFlag (.ixf .winCfgWr) w else s.liveFlag (.ixf .winCfgRd) w) &&
      decide (base ≤ a) && decide (a + n ≤ base + s.getLive (.ixf .winSizeSize64k) w * 2 ^ 16) &&
      decide (s.getLive (.ixf .winCfgSrcMin) w ≤ src) && decide (src ≤ s.getLive (.ixf .winCfgSrcMax) w)

/-- Refuse a request: the answer REFUSED and the event (R202). -/
def State.refusePkt (s : State) (k : Nat) (p : Pkt) (typ : Nat) : State := (s.answer k p typ 3 []).ixfEvent 4 0

/-- The response status of a memory access (R200). -/
def MemRes.rsp : MemRes → Nat
  | .ok => 0
  | .range => 1
  | .error => 2

/-- The response status of an access of n bytes to a store that names no place: RANGE outside the clusters or the store,
MEM_ERROR for an absent cluster (R200, R439); 0 and the physical cluster where it names one. -/
def State.storeTarget (s : State) (addr n : Nat) : Nat × Nat :=
  if cluOf addr ≥ 800 ∨ offOf addr + n > storeSize then (1, 0)
  else match s.storeLoc (cluOf addr) (offOf addr) with
    | .store c _ => (0, c)
    | _ => (2, 0)

end Sys2Proof.Machine
end

