-- ==== Sys2Proof/Machine/Ports.lean ====
section
/-!
DEFINITION. The commands of the Isxel ports: training, retraining, lanes, parking (R189 to R196, R203), notices, fences and
the reach table (R207 to R210), the IXF commit (R230).
-/

namespace Sys2Proof.Machine

/-! ### Training -/

/-- The refusal of a training (R195) on a port that expects a far ROLE, on Isxel with light, a PLANE and NOTICE; 0 where it comes
UP. clash says that step 6 finds an ID clash. -/
def trainErr (t : Train) (lanes role : Nat) (plane : Option Nat) (clash : Bool) : Nat :=
  if t.late then 8
  else if plane.isSome && (!t.light || t.laserFault) then 1
  else if (commonWidth lanes t.far).isNone then 2
  else if !(bits t.far 11 8).testBit 1 then 3
  else if bits t.far 17 16 = 3 ∨ bits t.far 19 18 ≠ role then 4
  else if plane.any fun k => bits t.far 51 48 != k then 5
  else if plane.isSome && !t.far.testBit 20 then 7
  else if clash then 6
  else 0

/-- The next retry interval of a refused port in seconds: 1, doubled up to 60 (R195). -/
def nextBackoff (b : Nat) : Nat := if b = 0 then 1 else min 60 (2 * b)

/-- Set a port's back-off. -/
def State.setBackoff (s : State) (k b : Nat) : State :=
  { s with ixf := { s.ixf with backoff := s.ixf.backoff.put k b 0 } }

/-- The state in which a port that is to train waits (R197). -/
def State.trainState (s : State) : Nat := if s.liveFlag (.ixf .moduleIdValid) then 1 else 5

/-- Every module is reachable on plane k, subject to the notices that follow (R194 step 7). -/
def State.reachPlane (s : State) (k : Nat) : State :=
  let all := s.ixf.reachAll ||| 2 ^ k
  let reach := (s.ixf.reach.map fun e => (e.1, e.2 ||| 2 ^ k)).filter fun e => e.2 ≠ all
  let downs := s.ixf.downs.mapVals 0 fun d => if d.testBit k then d - 2 ^ k else d
  { s with ixf := { s.ixf with reachAll := all, reach := reach, downs := downs } }

/-- A port comes UP (R194). -/
def State.portComesUp (s : State) (k lanes : Nat) (t : Train) : State :=
  let s' := (s.setF (.ixf .portStatusState) k 2).setF (.ixf .portStatusWidth) k ((commonWidth lanes t.far).getD 0)
  let s' := (s'.setBackoff k 0).linkTrained k lanes t (s.getF (.ixf .portStatusState) k == 3)
  let s' := (s'.reachPlane k).setBit (.ixf .portsUpUp) 0 k
  (s'.holdChanged s).ixfEvent 1 k

/-- A port is refused (R195). -/
def State.portRefused (s : State) (k err : Nat) : State :=
  let s := (s.setF (.ixf .portStatusState) k 0).setF (.ixf .portStatusTrainErr) k err
  s.setBackoff k (nextBackoff (s.ixf.backoff.getD k 0))

/-- What a port shows of a training (R193, R228): the laser, the lanes, the widths, and the far capability word if it came. -/
def State.portTrained (s : State) (k lanes err : Nat) (t : Train) : State :=
  let s := (s.setFlag (.ixf .portOeLaserFault) k t.laserFault).setF (.ixf .portCtrlRetrain) k 0
  let s := (s.setF (.ixf .portStatusLanesOk) k lanes).setWidths k lanes
  if t.late ∨ err = 1 ∨ err = 2 then s
  else ((s.setF (.ixf .portFarLoFarLo) k t.far).setF (.ixf .portFarHiFarHi) k (t.far / 2 ^ 32)).setF
    (.ixf .portStatusFarPlane) k (bits t.far 51 48)

/-- PORT_TRAIN (R193 to R197): an enabled port that trains comes UP or is refused; while VALID is 0 it waits. -/
def execPortTrain (k : Nat) (t : Train) (s : State) : Host.Outcome State Fault Refusal :=
  .next <|
    let st := s.getF (.ixf .portStatusState) k
    if decide (k < 12) && s.isOn .iod && s.isOn (.opt k) && s.flag (.ixf .portCtrlEnable) k &&
        (st == 1 || st == 3 || st == 5) then
      if !s.liveFlag (.ixf .moduleIdValid) then s.setF (.ixf .portStatusState) k 5
      else
        let lanes := s.lockedLanes k 8 t.lanes
        let err := trainErr t lanes 1 (some k) t.clash
        let s := s.portTrained k lanes err t
        if err = 0 then s.portComesUp k lanes t else s.portRefused k err
    else s

/-- TRAIN_RETRY_TIMER (R195): the back-off of a refused port has passed; 12 is the partner link, 13 the Tornath link. -/
def execTrainRetryTimer (k : Nat) (s : State) : Host.Outcome State Fault Refusal :=
  .next <|
    if !s.isOn .iod then s
    else if k < 12 then
      if s.isOn (.opt k) && s.flag (.ixf .portCtrlEnable) k && s.getF (.ixf .portStatusState) k == 0 &&
          s.ixf.backoff.getD k 0 != 0 then s.setF (.ixf .portStatusState) k s.trainState
      else s
    else if k = 12 then
      if s.flag (.ptn .ctrlEnable) && s.getF (.ptn .statusState) == 0 && s.ptn.backoff != 0 then
        s.setF (.ptn .statusState) 0 s.trainState
      else s
    else if k = 13 ∧ s.getF (.thl .statusState) = 0 ∧ s.thl.trainBackoff ≠ 0 then s.setF (.thl .statusState) 0 1
    else s

/-! ### Retraining, lanes, enabling, parking -/

/-- A link leaves UP to retrain (R192, R194, R233). -/
def State.retrainLink (s : State) (k : Nat) : State :=
  if k = 13 then s.thlLeave 3 else if k = 12 then s.ptnLeave 3 else s.portLeave k 3

/-- PORT_RETRAIN (R192): 16 replays within 1 ms; a port counts the retrain. -/
def execPortRetrain (k : Nat) (s : State) : Host.Outcome State Fault Refusal :=
  .next <|
    if s.linkLive k then (if k < 12 then s.addSat (.ixf .portReplayRetrains) k 1 else s).retrainLink k else s

/-- LANE_LOSS (R196, R233): a link that loses a lane excludes it, and if it is UP on that lane retrains. -/
def execLaneLoss (k lane : Nat) (s : State) : Host.Outcome State Fault Refusal :=
  .next <|
    if lane < (if k = 13 then 4 else 8) ∧ s.linkLive k then
      let s' := s.setLost k (s.lnk.lost.getD k 0 ||| 2 ^ lane)
      if (s.lnk.group.getD k 0).testBit lane then s'.retrainLink k else s'
    else s

/-- A write of RETRAIN: training restarts at once (R195, R228). DESIGN CHOICE (log entry 169): on a port that is disabled, parked or
without power the bit is not set, as no training would end it. -/
def State.retrainWrite (s : State) (k : Nat) : State :=
  let st := s.getF (.ixf .portStatusState) k
  if st = 4 ∨ !s.isOn (.opt k) ∨ !s.flag (.ixf .portCtrlEnable) k then s
  else
    let s := s.setF (.ixf .portCtrlRetrain) k 1
    if st = 2 then s.portLeave k 3 else s.setF (.ixf .portStatusState) k s.trainState

/-- PORT_RETRAIN_WRITE (R195, R228). -/
def execPortRetrainWrite (k : Nat) (s : State) : Host.Outcome State Fault Refusal :=
  .next <| if k < 12 ∧ s.isOn .iod then s.retrainWrite k else s

/-- A write of ENABLE: 0 takes the port down and ends its retries, 1 lets it train (R195, R228). -/
def State.portEnable (s : State) (k v : Nat) : State :=
  let was := s.flag (.ixf .portCtrlEnable) k
  let s := s.setF (.ixf .portCtrlEnable) k (v % 2)
  if v % 2 = 0 then
    let s := (s.setBackoff k 0).setF (.ixf .portCtrlRetrain) k 0
    if s.getF (.ixf .portStatusState) k = 4 then s else s.portLeave k 0
  else if !was && s.isOn (.opt k) && s.getF (.ixf .portStatusState) k == 0 then
    s.setF (.ixf .portStatusState) k s.trainState
  else s

/-- PORT_ENABLE_WRITE (R195, R228). -/
def execPortEnableWrite (k : Nat) (value : Word) (s : State) : Host.Outcome State Fault Refusal :=
  .next <| if k < 12 ∧ s.isOn .iod then s.portEnable k value.toNat else s

/-- The domain on which a domain depends directly (R20). -/
def domainNeeds (d : Domain) : Option Domain :=
  match d with
  | .aux => none
  | .iod => some .aux
  | .core _ => some .iod
  | .mem n => some (.core n)
  | .opt _ => some .iod

/-- Does a domain depend on another one, directly or not? -/
def domainUnder (x d : Domain) : Bool :=
  match x, d with
  | .iod, .aux | .core _, .aux | .core _, .iod | .opt _, .aux | .opt _, .iod | .mem _, .aux | .mem _, .iod => true
  | .mem n, .core m => n == m
  | _, _ => false

/-- Is the domain on, on which a domain depends? -/
def State.supplied (s : State) (d : Domain) : Bool := (domainNeeds d).all s.isOn

/-- Put a domain into the list of those that are on; never while the one that it depends on is off (R20). -/
def State.turnOn (s : State) (d : Domain) : State :=
  if s.isOn d || !s.supplied d then s else { s with power := { s.power with on := s.power.on ++ [d] } }

/-- Take a domain out of the list of those that are on, and with it every one that depends on it (R20). -/
def State.turnOff (s : State) (d : Domain) : State :=
  { s with power := { s.power with on := s.power.on.filter fun x => x ≠ d && !domainUnder x d } }

/-- A write of PARK: 1 parks the engine with its OPT domain, 0 brings it back and trains (R20, R190, R228). -/
def State.portPark (s : State) (k v : Nat) : State :=
  let s := s.setF (.ixf .portCtrlPark) k (v % 2)
  if v % 2 = 1 then
    if s.getF (.ixf .portStatusState) k = 4 then s else (s.portLeave k 4).turnOff (.opt k)
  else if s.getF (.ixf .portStatusState) k = 4 then
    (s.turnOn (.opt k)).setF (.ixf .portStatusState) k (if s.flag (.ixf .portCtrlEnable) k then s.trainState else 0)
  else s

/-- PORT_PARK_WRITE (R20, R228). -/
def execPortParkWrite (k : Nat) (value : Word) (s : State) : Host.Outcome State Fault Refusal :=
  .next <| if k < 12 ∧ s.isOn .iod then s.portPark k value.toNat else s

/-! ### Notices -/

/-- Set or clear the reach bit of module x on plane k. -/
def State.setReach (s : State) (k x : Nat) (on : Bool) : State :=
  let r := s.reachBits x
  let r' := if on then r ||| 2 ^ k else if r.testBit k then r - 2 ^ k else r
  { s with ixf := { s.ixf with reach := s.ixf.reach.put x r' s.ixf.reachAll } }

/-- Note whether the last notice about x on plane k was DOWN (R209). -/
def State.setDown (s : State) (k x : Nat) (on : Bool) : State :=
  let d := s.ixf.downs.getD x 0
  let d' := if on then d ||| 2 ^ k else if d.testBit k then d - 2 ^ k else d
  { s with ixf := { s.ixf with downs := s.ixf.downs.put x d' 0 } }

/-- Take a NOTICE packet of a subtype about module x, its SRC (R198, R208): the reach table, the record of DOWN, held hashed
traffic, what the subtype does beside, and collectives that lose a member (R207, R218). -/
def State.notice (s : State) (k sub : Nat) (p : Pkt) (after : State → State) : State :=
  if p.status ≠ sub then s
  else s.receive k 0x18 p fun s =>
    (after (((s.setReach k p.src (sub == 2)).setDown k p.src (sub == 1)).holdChanged s)).collCheck

/-- NOTICE_DOWN (R208, R209, R224). -/
def execNoticeDown (k : Nat) (p : Pkt) (s : State) : Host.Outcome State Fault Refusal :=
  .next <| s.notice k 1 p fun s => (s.addSat (.ixf .portNoticeDown) k 1).declareDown p.src

/-- NOTICE_UP (R208). -/
def execNoticeUp (k : Nat) (p : Pkt) (s : State) : Host.Outcome State Fault Refusal := .next <| s.notice k 2 p id

/-- A packet to module x was discarded: its transfer, or the collective whose READY it was, fails at once (R208, R218). -/
def State.unreached (s : State) (x tag : Nat) : State :=
  match s.findReq tag with
  | some r => if r.dst = x then s.reqFail r else s
  | none =>
    match s.ixf.colls.find? fun e => e.2.readyTags.contains tag with
    | some e => s.collFinish e.1 4
    | none => s

/-- NOTICE_UNREACH (R208): the notice carries the TAG of the packet. -/
def execNoticeUnreach (k : Nat) (p : Pkt) (s : State) : Host.Outcome State Fault Refusal :=
  .next <| s.notice k 3 p fun s => (s.addSat (.ixf .portNoticeUnreach) k 1).unreached p.src p.tag

/-- NOTICE_PARKED (R208). -/
def execNoticeParked (k : Nat) (p : Pkt) (s : State) : Host.Outcome State Fault Refusal := .next <| s.notice k 4 p id

/-- HASH_SET_RESUME (R207): every hashed request sent to x has been answered or has failed. -/
def execHashSetResume (x : Nat) (s : State) : Host.Outcome State Fault Refusal :=
  .next <|
    if s.hashedDsts.contains x then s
    else { s with ixf := { s.ixf with hashHeld := s.ixf.hashHeld.filter fun y => y ≠ x } }

/-- A write of IXF_FENCE_CLR: the fence is lifted, and R209 is evaluated anew. -/
def State.fenceClear (s : State) (x : Nat) : State :=
  ({ s with ixf := { s.ixf with fenced := s.ixf.fenced.filter fun y => y ≠ x } } : State).declareDown x

/-- FENCE_CLR (R209, R226). -/
def execFenceClr (x : Nat) (s : State) : Host.Outcome State Fault Refusal :=
  .next <| if s.isOn .iod then s.fenceClear (x % 2 ^ 14) else s

/-- A write of IXF_REACH_QUERY (R208, R226). -/
def State.reachQuery (s : State) (x : Nat) : State :=
  ((s.setF (.ixf .reachResultPlanes) 0 (s.reachBits x)).setFlag (.ixf .reachResultFenced) 0 (s.fencedMod x)).setF
    (.ixf .reachResultReady) 0 1

/-- REACH_QUERY (R208, R226). -/
def execReachQuery (x : Nat) (s : State) : Host.Outcome State Fault Refusal :=
  .next <| if s.isOn .iod then s.reachQuery (x % 2 ^ 14) else s

/-- REMOTE_ACK_TIMEOUT (R91): the answer to a request has not come within 5 ms. -/
def execRemoteAckTimeout (tag : Nat) (s : State) : Host.Outcome State Fault Refusal :=
  .next <|
    match s.findReq tag with
    | some r => s.reqFail r
    | none => s

/-! ### The IXF commit -/

/-- The RWC fields of the module ID and control, of a window, a channel and a group. -/
def ixfGlobalFields : List Fld := [.ixf .moduleIdId, .ixf .moduleIdValid, .ixf .ctrlClusterRx, .ixf .ctrlSprayDma]
/-- The RWC fields of a window. -/
def ixfWinFields : List Fld :=
  [.ixf .winBaseLoBaseLo, .ixf .winBaseHiBaseHi, .ixf .winSizeSize64k, .ixf .winCfgEnable, .ixf .winCfgRd,
   .ixf .winCfgWr, .ixf .winCfgSrcMin, .ixf .winCfgSrcMax]
/-- The RWC fields of a collective channel's queue. -/
def ixfQueueFields : List Fld :=
  [.ixf .collQLoQLo, .ixf .collQHiQHi, .ixf .collCfgQsizeLog2, .ixf .collCfgEnable, .ixf .collCfgStartGate]
/-- The RWC fields of a group. -/
def ixfGroupFields : List Fld :=
  [.ixf .grpCfgMembers, .ixf .grpCfgRank, .ixf .grpCfgChannel, .ixf .grpCfgEnable, .ixf .grpListLoListLo,
   .ixf .grpListHiListHi]

/-- Does any field of a list change? -/
def State.anyChanged (s : State) (fs : List Fld) (i : Nat) : Bool := fs.any fun f => s.changed f i

/-- The area of a window of the shadow set. -/
def State.winShadow (s : State) (w : Nat) : Nat × Nat :=
  (s.getF (.ixf .winBaseLoBaseLo) w * 2 ^ 16 + s.getF (.ixf .winBaseHiBaseHi) w * 2 ^ 32,
    s.getF (.ixf .winSizeSize64k) w * 2 ^ 16)

/-- Is a link of the module UP, TRAINING or RETRAINING? -/
def State.linksBusy (s : State) : Bool :=
  let busy := fun st => st == 1 || st == 2 || st == 3
  busy (s.getF (.ptn .statusState)) || (List.range 12).any fun k => busy (s.getF (.ixf .portStatusState) k)

/-- Does a group's channel run one of its collectives? -/
def State.grpRuns (s : State) (g : Nat) : Bool := s.ixf.colls.any fun e => e.2.group == g

/-- The code of R230 for the shadow set, in the order of the table; a START_GATE counts on an enabled channel only (log entry
171). -/
def State.checkIxf (s : State) : Nat :=
  let on := (List.range 16).filter fun w => s.flag (.ixf .winCfgEnable) w && s.getF (.ixf .winSizeSize64k) w != 0
  if s.anyChanged [.ixf .moduleIdId, .ixf .moduleIdValid] 0 ∧ s.linksBusy then 1
  else if on.any fun w => decide ((s.winShadow w).1 + (s.winShadow w).2 > s.memTop) ||
      decide (s.getF (.ixf .winCfgSrcMin) w > s.getF (.ixf .winCfgSrcMax) w) then 2
  else if on.any fun w => on.any fun v => decide (w < v) && rangesMeet (s.winShadow w) (s.winShadow v) then 3
  else if (List.range 16).any fun c =>
      !decide (4 ≤ s.getF (.ixf .collCfgQsizeLog2) c ∧ s.getF (.ixf .collCfgQsizeLog2) c ≤ 12) ||
        (s.flag (.ixf .collCfgEnable) c &&
          !decide (0x4000 ≤ s.getF (.ixf .collCfgStartGate) c ∧ s.getF (.ixf .collCfgStartGate) c < 0x4400)) then 4
  else if (List.range 16).any fun c => s.flag (.ixf .collStatusRunning) c && s.anyChanged ixfQueueFields c then 5
  else if (List.range 64).any fun g => s.flag (.ixf .grpCfgEnable) g &&
      (decide (s.getF (.ixf .grpCfgMembers) g < 2 ∨ 256 < s.getF (.ixf .grpCfgMembers) g) ||
        decide (s.getF (.ixf .grpCfgRank) g ≥ s.getF (.ixf .grpCfgMembers) g) ||
        !s.flag (.ixf .collCfgEnable) (s.getF (.ixf .grpCfgChannel) g)) then 6
  else if (List.range 64).any fun g => s.grpRuns g && s.anyChanged ixfGroupFields g then 7
  else 0

/-- A commit resets SEQ and clears BROKEN of every group (R230); one whose collective runs keeps them (log entry 54). READYs
latched for the first two sequence numbers stay (R216). -/
def State.grpCommit (s : State) (g : Nat) : State :=
  if s.grpRuns g then s
  else
    let s := (s.setF (.ixf .grpSeqSeq) g 0).setF (.ixf .grpCfgBroken) g 0
    { s with ixf := { s.ixf with readies := s.ixf.readies.filter fun r => r.group ≠ g || decide (r.seq ≤ 1) } }

/-- Ports and the partner link that wait for an ID start to train once VALID is set (R197, R219). -/
def State.idValid (s : State) : State :=
  if s.liveFlag (.ixf .moduleIdValid) then
    let s := (List.range 12).foldl (fun s k =>
      if s.getF (.ixf .portStatusState) k = 5 then s.setF (.ixf .portStatusState) k 1 else s) s
    if s.getF (.ptn .statusState) = 5 then s.setF (.ptn .statusState) 0 1 else s
  else s

/-- An IXF commit (R7, R230). -/
def State.commitIxf (s : State) : State :=
  let e := s.checkIxf
  let s := s.setF (.ixf .commitStatusErr) 0 e
  if e ≠ 0 then s
  else
    let s := (s.commitAll ixfGlobalFields).commitRange ixfWinFields 16
    let s := (s.commitRange (ixfQueueFields ++ [.ixf .collTimeoutMs]) 16).commitRange ixfGroupFields 64
    ((List.range 64).foldl (fun s g => s.grpCommit g) s).idValid

/-- IXF_COMMIT (R230). -/
def execIxfCommit (s : State) : Host.Outcome State Fault Refusal := .next <| if s.isOn .iod then s.commitIxf else s

end Sys2Proof.Machine
end

