-- ==== Sys2Proof/Machine/Packets.lean ====
section
/-!
DEFINITION. Packets received over Isxel and the partner link (R198 to R204): remote access, signals, collectives, mirror writes
and summaries, which may wait in their receive buffers, and their answers. Port 12 is the partner link.
-/

namespace Sys2Proof.Machine

/-! ### Channel credits of a port (R83) -/

/-- Credits of a channel that are free go to the engines at the head of its queue. Fuel bounds them. -/
def State.drainChan : Nat → State → Nat → State
  | 0, s, _ => s
  | f + 1, s, key =>
    match s.mem.chanQ.getD key [] with
    | c :: _ =>
      if s.mem.chanFree.getD key 32 > 0 ∧ c < 832 then
        State.drainChan f (({ s with mem := { s.mem with
          chanFree := s.mem.chanFree.put key (s.mem.chanFree.getD key 32 - 1) 32 } } : State).returnChan key) key
      else s
    | [] => s

/-- May the receiver of a port take credits of a channel now: as many as it needs are free, and no other asked before it? -/
def State.portFirst (s : State) (port vc : Nat) (l : List Nat) (key : Nat) : Bool :=
  decide ((l.filter (· == key)).length ≤ s.mem.chanFree.getD key 32) &&
    (match s.mem.chanQ.getD key [] with
      | c :: _ => c == portAsker port vc
      | [] => true)

/-- May the receiver of a port take a credit for each burst that n bytes of memory at a touch (R83)? -/
def State.chansGrant (s : State) (port vc a n : Nat) : Bool :=
  (s.burstChans a n).all (s.portFirst port vc (s.burstChans a n))

/-- The receiver of a port joins the queue of a channel. -/
def State.joinChan (s : State) (port vc key : Nat) : State :=
  let q := s.mem.chanQ.getD key []
  if q.contains (portAsker port vc) then s
  else { s with mem := { s.mem with chanQ := s.mem.chanQ.put key (q ++ [portAsker port vc]) [] } }

/-- The receiver of a port leaves the queues of the channels. -/
def State.leaveChans (s : State) (port vc : Nat) : State :=
  let keys := (s.mem.chanQ.filter fun e => e.2.contains (portAsker port vc)).map (·.1)
  let s := { s with mem := { s.mem with chanQ := s.mem.chanQ.mapVals [] fun q => q.filter fun x => x ≠ portAsker port vc } }
  keys.foldl (fun s key => State.drainChan 32 s key) s

/-- Serve a packet that touches n bytes of memory at a once the receiver of its port has a credit of its channel for each burst;
without them it asks and waits, and answers false. The bursts of a packet end as it is served, and their credits go back with
it (R83; log entry 41). -/
def State.withChans (s : State) (port vc a n : Nat) (act : State → State) : State × Bool :=
  if s.chansGrant port vc a n then (act s, true)
  else ((s.burstChans a n).foldl (fun s key => s.joinChan port vc key) s, false)

/-! ### Requests -/

/-- A WR_MEM packet: written inside a window; a mirrored write that came over Isxel is passed on, and with SYNC answered after
its acknowledgement (R108, R123, R202). -/
def State.doWrMem (s : State) (k : Nat) (p : Pkt) (mecc : List MemEcc) : State × Bool :=
  let n := pktWriteLen p
  if !s.windowGrants true p.src p.addr n then (s.refusePkt k p 7, true)
  else if k != 12 && s.mirrorFull p.addr n then (s, false)
  else s.withChans k 0 p.addr n fun s =>
    match s.memWrite p.addr (pktData p) mecc (k != 12) with
    | (s, r, tags) => s.answer k p 7 r.rsp [] tags

/-- A WR_CLU packet (R202, R439). -/
def State.doWrClu (s : State) (k : Nat) (p : Pkt) : State :=
  if !s.liveFlag (.ixf .ctrlClusterRx) then s.refusePkt k p 7
  else
    match s.storeTarget p.addr (pktWriteLen p) with
    | (0, c) => (s.putStore c (offOf p.addr) (pktData p)).answer k p 7 0 []
    | (st, _) => s.answer k p 7 st []

/-- An ADD_CLU packet (R34, R89, R202). -/
def State.doAddClu (s : State) (k : Nat) (p : Pkt) (ecc : StoreEcc) : State :=
  if !s.liveFlag (.ixf .ctrlClusterRx) then s.refusePkt k p 7
  else
    match s.storeTarget p.addr (pktWriteLen p) with
    | (0, c) =>
      match s.storeDeliver true c (offOf p.addr) (pktData p) ecc with
      | (s, ok) => s.answer k p 7 (if ok then 0 else 2) []
    | (st, _) => s.answer k p 7 st []

/-- An RD_MEM packet: never expanded by a Mill (R202). -/
def State.doRdMem (s : State) (k : Nat) (p : Pkt) (mecc : List MemEcc) : State × Bool :=
  let n := pktReadLen p
  if !s.windowGrants false p.src p.addr n then (s.refusePkt k p 6, true)
  else s.withChans k 0 p.addr n fun s =>
    match s.memRead p.addr n mecc with
    | (s, r, b) => s.answer k p 6 r.rsp b

/-- An RD_CLU packet (R34, R202, R439). -/
def State.doRdClu (s : State) (k : Nat) (p : Pkt) (ecc : StoreEcc) : State :=
  if !s.liveFlag (.ixf .ctrlClusterRx) then s.refusePkt k p 6
  else
    match s.storeTarget p.addr (pktReadLen p) with
    | (0, c) =>
      match s.storeRead c (offOf p.addr) (pktReadLen p) ecc with
      | (s, some b) => s.answer k p 6 0 b
      | (s, none) => s.answer k p 6 2 []
    | (st, _) => s.answer k p 6 st []

/-- A SIG packet: accepted by a gate with REMOTE_OK; otherwise discarded, recorded and refused. A gate whose registers are off
records nothing in them (R139, R152, R153, R157). -/
def State.doSig (s : State) (k : Nat) (p : Pkt) : State :=
  let g := p.gate
  if !validGate g then (s.gateErr (.stg .errRemoteRej) g p.src).answer k p 9 3 []
  else if !s.liveFlag (.stg .gateCfgRemoteOk) g then
    let s := if s.gatePowered g then s.setF (.stg .gateWaitRemoteRej) g 1 else s
    (s.gateErr (.stg .errRemoteRej) g p.src).answer k p 9 3 []
  else
    let (s, word) := s.gateSignal g (p.inc % 256)
    let s := if word / 2 ^ 12 = 0 then s else s.setF (.stg .errIdModule) 0 p.src
    s.answer k p 9 0 []

/-- Does an enabled mirror receive window hold n bytes at a (R221, R231)? -/
def State.rxWindow (s : State) (a n : Nat) : Bool :=
  (List.range 8).any fun w =>
    let base := s.getLive (.ptn .rxWinBaseGib) w * 2 ^ 30
    s.liveFlag (.ptn .rxWinEnable) w && decide (base ≤ a) &&
      decide (a + n ≤ base + s.getLive (.ptn .rxWinSizeGib) w * 2 ^ 30)

/-- A MIR_WR packet: applied inside a receive window and not mirrored further, else refused (R108, R202, R221). -/
def State.doMirWr (s : State) (p : Pkt) (mecc : List MemEcc) : State × Bool :=
  if s.rxWindow p.addr (pktWriteLen p) then s.withChans 12 0 p.addr (pktWriteLen p) fun s =>
    match s.memWrite p.addr (pktData p) mecc false with
    | (s, r, _) => s.answer 12 p 0x21 r.rsp []
  else (s.answer 12 p 0x21 3 [], true)

/-- A SUMMARY packet: the partner's latest summary is kept (R224, R225). -/
def State.doSummary (s : State) (p : Pkt) : State :=
  let s := (List.range 16).foldl (fun s m => s.setF (.ptn .sumBytes) m (leNat ((p.payload.drop (4 * m)).take 4))) s
  s.setF (.ptn .sumAgeMs) 0 0

/-! ### Collectives -/

/-- The channel that runs the collective of a group with a sequence number. -/
def State.collOf (s : State) (g seq : Nat) : Option Nat :=
  (s.ixf.colls.find? fun e => e.2.group == g && e.2.seq == seq).map (·.1)

/-- A COLL_READY packet (R216): taken by the running collective, latched for the current or the next sequence number, discarded
and counted for a later one. -/
def State.doCollReady (s : State) (p : Pkt) (mecc : List MemEcc) : State :=
  let g := bits p.aux 21 16
  let seq := bits p.aux 15 0
  let r : ReadyRec := ⟨g, seq, p.src, bits p.addr 34 32, bits p.addr 36 35, bits p.addr 31 0, bits p.addr 44 37⟩
  let ahead := (seq + 2 ^ 16 - s.getF (.ixf .grpSeqSeq) g) % 2 ^ 16
  match s.collOf g seq with
  | some ch => s.takeReady ch r mecc
  | none =>
    if ahead ≤ 1 then
      let l := s.ixf.readies.filter fun x => !(x.group == g && x.seq == seq && x.src == p.src)
      { s with ixf := { s.ixf with readies := l ++ [r] } }
    else if ahead < 2 ^ 15 then s.addSat (.ixf .discardBad) 0 1
    else s

/-- Where the bytes of a COLL_DATA packet go, and whether they are added: none outside the share that the phase brings
(R215, R217). -/
def Coll.landing (k : Coll) (phase j o : Nat) : Option (Nat × Bool) :=
  let mine := decide (k.start k.rank ≤ o ∧ o < k.start k.rank + k.len k.rank)
  let theirs := decide (k.start j ≤ o ∧ o < k.start j + k.len j)
  if phase = 0 then
    match k.op with
    | 1 => if mine then some (k.dst + o, true) else none
    | 2 => if mine then some (k.dst + o - k.start k.rank, true) else none
    | 4 => if mine && j == k.root then some (k.dst + o, false) else none
    | _ => none
  else if k.op ≠ 2 ∧ theirs then some (k.dst + o, false) else none

/-- Apply collective data to memory: written, or added in FP32 (R217). Answers the TAGs of mirror writes to await (R123). -/
def State.collApply (s : State) (a : Nat) (add : Bool) (b : List Byte) (ecc : List MemEcc) : State × Bool × List Nat :=
  if add then
    match s.memRead a b.length ecc with
    | (s, .ok, old) =>
      match s.memWrite a (addWords (b.length / 4 + 1) b old) [] with
      | (s, r, tags) => (s, r == .ok, tags)
    | (s, _, _) => (s, false, [])
  else
    match s.memWrite a b ecc with
    | (s, r, tags) => (s, r == .ok, tags)

/-- A COLL_DATA packet (R217, R218): the data of a member goes into DST, is answered, and may let the channel send its own
share. Data for no running collective, or from no member, is discarded (log entry 24). -/
def State.doCollData (s : State) (k : Nat) (p : Pkt) (mecc : List MemEcc) : State × Bool :=
  match s.collOf (bits p.aux 21 16) (bits p.aux 15 0) with
  | none => (s.discard k, true)
  | some ch =>
    match s.coll ch with
    | none => (s, true)
    | some q =>
      let o := p.addr % 2 ^ 40
      let phase := p.status % 2
      match q.members.findIdx? (· == p.src) with
      | none => (s.discard k, true)
      | some j =>
        match q.landing phase j o with
        | none => (s.answer k p 0x12 1 [], true)
        | some (a, add) =>
          let b := p.payload.take (min (64 * p.len) (q.count * q.es - o))
          if s.mirrorFull a b.length then (s, false)
          else s.withChans k 2 a b.length fun s =>
            match s.collApply a add b mecc with
            | (s, false, _) => (s.answer k p 0x12 2 []).collFinish ch 5
            | (s, true, tags) =>
              let units := (List.range p.len).map fun i => (o / 64 + i, j)
              let q' := if phase = 0 then { q with got := q.got ++ units } else { q with got1 := q.got1 ++ units }
              ((s.setColl ch q').answer k p 0x12 0 [] tags).collPush ch []

/-! ### Receive buffers (R204) -/

/-- Act on a packet in a receive buffer; false where it has to wait for channel credits or for the partner link (R83, R123). -/
def State.tryPkt (s : State) (r : RxPkt) : State × Bool :=
  match r.pkt.typ with
  | 1 => s.doWrMem r.port r.pkt r.mecc
  | 2 => (s.doWrClu r.port r.pkt, true)
  | 3 => (s.doAddClu r.port r.pkt r.ecc, true)
  | 4 => s.doRdMem r.port r.pkt r.mecc
  | 5 => (s.doRdClu r.port r.pkt r.ecc, true)
  | 8 => (s.doSig r.port r.pkt, true)
  | 0x10 => (s.doCollReady r.pkt r.mecc, true)
  | 0x11 => s.doCollData r.port r.pkt r.mecc
  | 0x20 => s.doMirWr r.pkt r.mecc
  | _ => (s.doSummary r.pkt, true)

/-- Put a packet at the end of those that wait. -/
def State.bufferPkt (s : State) (r : RxPkt) : State := { s with lnk := { s.lnk with rx := s.lnk.rx ++ [r] } }

/-- Serve a packet in a receive buffer: it leaves it, for its effect or for a fence that has come to stand before it, or waits
on. -/
def State.servePkt (s : State) (r : RxPkt) : State × Bool :=
  match (if s.fencedPkt r.port r.pkt then (s.refuseFenced r.port r.pkt, true) else s.tryPkt r) with
  | (s, true) => ((s.leaveChans r.port r.pkt.vc).leaveBuffer r.port r.pkt, true)
  | (s, false) => (s.bufferPkt r, false)

/-- Serve packets in order; one that waits holds up those of its port and virtual channel behind it. -/
def State.serveBuffers (s : State) (held : List (Nat × Nat)) : List RxPkt → State
  | [] => s
  | r :: t =>
    if held.contains (r.port, r.pkt.vc) then (s.bufferPkt r).serveBuffers held t
    else
      match s.servePkt r with
      | (s, true) => s.serveBuffers held t
      | (s, false) => s.serveBuffers ((r.port, r.pkt.vc) :: held) t

/-- Serve the receive buffers: packets for which a credit has come back are acted on. -/
def State.serveRx (s : State) : State := ({ s with lnk := { s.lnk with rx := [] } } : State).serveBuffers [] s.lnk.rx

/-- Take a request or collective packet off a link: it is served after those of its port and virtual channel that wait
(R204). -/
def State.takeRx (s : State) (k t : Nat) (p : Pkt) (mecc : List MemEcc) (ecc : StoreEcc) : State :=
  s.sift k t p fun s => (s.bufferPkt ⟨k, p, mecc, ecc⟩).serveRx

/-- WR_MEM (R199 to R202, R123, R108). -/
def execWrMem (k : Nat) (p : Pkt) (mecc : List MemEcc) (s : State) : Host.Outcome State Fault Refusal :=
  .next (s.takeRx k 1 p mecc .clean)

/-- WR_CLU (R200 to R202, R439). -/
def execWrClu (k : Nat) (p : Pkt) (s : State) : Host.Outcome State Fault Refusal := .next (s.takeRx k 2 p [] .clean)

/-- ADD_CLU (R89, R200 to R202, R34). -/
def execAddClu (k : Nat) (p : Pkt) (ecc : StoreEcc) (s : State) : Host.Outcome State Fault Refusal :=
  .next (s.takeRx k 3 p [] ecc)

/-- RD_MEM (R199 to R202). -/
def execRdMem (k : Nat) (p : Pkt) (mecc : List MemEcc) (s : State) : Host.Outcome State Fault Refusal :=
  .next (s.takeRx k 4 p mecc .clean)

/-- RD_CLU (R200 to R202, R34, R439). -/
def execRdClu (k : Nat) (p : Pkt) (ecc : StoreEcc) (s : State) : Host.Outcome State Fault Refusal :=
  .next (s.takeRx k 5 p [] ecc)

/-- SIG (R139, R152, R153). -/
def execSig (k : Nat) (p : Pkt) (s : State) : Host.Outcome State Fault Refusal := .next (s.takeRx k 8 p [] .clean)

/-- COLL_READY (R216). -/
def execCollReady (k : Nat) (p : Pkt) (mecc : List MemEcc) (s : State) : Host.Outcome State Fault Refusal :=
  .next (s.takeRx k 0x10 p mecc .clean)

/-- COLL_DATA (R217, R218). -/
def execCollData (k : Nat) (p : Pkt) (mecc : List MemEcc) (s : State) : Host.Outcome State Fault Refusal :=
  .next (s.takeRx k 0x11 p mecc .clean)

/-- MIR_WR (R108, R202, R221). -/
def execMirWr (p : Pkt) (mecc : List MemEcc) (s : State) : Host.Outcome State Fault Refusal :=
  .next (s.takeRx 12 0x20 p mecc .clean)

/-- SUMMARY (R224, R225). -/
def execSummary (p : Pkt) (s : State) : Host.Outcome State Fault Refusal := .next (s.takeRx 12 0x22 p [] .clean)

/-! ### Answers -/

/-- RD_RSP (R199, R200, R204): the data of a read arrives at its engine, or the transfer fails. -/
def execRdRsp (k : Nat) (p : Pkt) (ecc : StoreEcc) (s : State) : Host.Outcome State Fault Refusal :=
  .next <| s.receive k 6 p fun s =>
    match s.findReq p.tag with
    | none => s
    | some r =>
      if r.kind ≠ 0 ∨ r.dst ≠ p.src then s
      else
        let s := s.dropReq p.tag
        if p.status ≠ 0 then s.answerTag r.cluster p.tag (rspStatus p.status)
        else
          match (s.cl r.cluster).findTag p.tag with
          | none => s
          | some (j, i) =>
            match ((s.cl r.cluster).dmas[j]?).bind fun d => d.pieces[i]? with
            | none => s
            | some q => s.pieceData r.cluster j i q (p.payload.take q.len) ecc

/-- WR_ACK (R199, R200, R204). -/
def execWrAck (k : Nat) (p : Pkt) (s : State) : Host.Outcome State Fault Refusal :=
  .next <| s.receive k 7 p fun s =>
    match s.findReq p.tag with
    | none => s
    | some r =>
      if r.kind ≠ 1 ∨ r.dst ≠ p.src then s
      else (s.dropReq p.tag).answerTag r.cluster p.tag (rspStatus p.status)

/-- SIG_ACK (R153, R154, R200): a refusal is recorded with the gate and the far module. -/
def execSigAck (k : Nat) (p : Pkt) (s : State) : Host.Outcome State Fault Refusal :=
  .next <| s.receive k 9 p fun s =>
    match s.findReq p.tag with
    | none => s
    | some r =>
      if r.kind ≠ 2 ∨ r.dst ≠ p.src then s
      else
        let s := s.dropReq p.tag
        if p.status = 0 then s
        else if p.status = 3 then s.gateErr (.stg .errRemoteRej) r.aux r.dst
        else s.signalLost r.aux r.dst

/-- COLL_ACK (R217, R218): a packet answered OK is done with; any other answer ends the collective. -/
def execCollAck (k : Nat) (p : Pkt) (s : State) : Host.Outcome State Fault Refusal :=
  .next <| s.receive k 0x12 p fun s =>
    match s.findReq p.tag with
    | none => s
    | some r =>
      if r.kind ≠ 3 ∨ r.dst ≠ p.src then s
      else
        let s := s.dropReq p.tag
        if p.status ≠ 0 then s.collFinish r.aux 4
        else match s.coll r.aux with
          | some q => s.setColl r.aux { q with tags := q.tags.filter (· ≠ p.tag) }
          | none => s

/-- MIR_ACK (R221 to R223, R123). -/
def execMirAck (p : Pkt) (s : State) : Host.Outcome State Fault Refusal :=
  .next <| s.receive 12 0x21 p fun s =>
    match s.findReq p.tag with
    | none => s
    | some r =>
      if r.kind ≠ 4 ∧ r.kind ≠ 5 then s
      else
        let s := if p.status = 0 then s else s.mirrorBad r.aux r.len p.status
        s.mirrorDone p.tag

/-! ### Bursts -/

/-- BURST_COMPLETE (R82): piece i of descriptor j has its data or acknowledgement, and its credits return; packets that wait for
one are served (R83). -/
def execBurstComplete (c j i : Nat) (ecc : StoreEcc) (s : State) : Host.Outcome State Fault Refusal :=
  .next (s.burstDone c j i ecc).serveRx

/-- CREDIT_IDLE_RETURN (R82, R203): a channel or link credit held unused for 1 µs goes back, to packets and engines that wait
for it. -/
def execCreditIdleReturn (c : Nat) (link : Bool) (key : Nat) (s : State) : Host.Outcome State Fault Refusal :=
  .next <|
    if link then
      let h := (s.cl c).linkHeld.getD key 0
      if h = 0 then s
      else
        let s := s.modCl c fun k => { k with linkHeld := k.linkHeld.put key (h - 1) 0 }
        s.returnLinks key 1
    else
      let h := (s.cl c).chanHeld.getD key 0
      if h = 0 then s
      else ((s.modCl c fun k => { k with chanHeld := k.chanHeld.put key (h - 1) 0 }).returnChan key).serveRx

/-- MEM_BURST_TIMEOUT (R91): a burst outstanding for 100 µs is retried once; then its descriptor has MEM_ERROR. -/
def execMemBurstTimeout (c j i : Nat) (s : State) : Host.Outcome State Fault Refusal :=
  .next <|
    match (s.cl c).dmas[j]? with
    | none => s
    | some d =>
      match d.pieces[i]? with
      | none => s
      | some p =>
        if p.channels.isEmpty then s
        else if !p.retried then s.setPiece c j i { p with retried := true }
        else ((s.endPiece c j i p).failDma c j 5).serveRx

end Sys2Proof.Machine
end

