-- ==== Sys2Proof/Machine/Partner.lean ====
section
/-!
DEFINITION. The partner link (R219 to R225, R231, R232): mirror writes, summaries, training, resynchronisation.
-/

namespace Sys2Proof.Machine

/-! ### Summaries -/

/-- MIR_SYNC of R225. -/
def State.mirSync (s : State) : Nat :=
  (List.range 8).foldl (fun a r => if s.mirOn r && !s.flag (.mem .mirCfgUnsynced) r then a + 2 ^ r else a) 0

/-- The summary payload (R225). -/
def State.summaryPayload (s : State) : List Byte :=
  leBytes 1 1 ++ leBytes 1 (modStateCode s.power.modState) ++ leBytes 1 s.kilnByte ++ leBytes 1 s.mirSync ++
    leBytes 4 s.ptn.sumSeq ++ leBytes 2 (s.getF (.grb .capAppliedCapW)) ++ leBytes 2 (s.getF (.grb .capThermalCapW)) ++
    leBytes 2 (s.getF (.cle .flowProt)) ++ leBytes 2 (deciC (s.getF (.cle .tInProt))) ++ leBytes 4 s.alarms ++
    leBytes 4 s.power.opHours ++ leBytes 4 s.power.powerCycles ++ leBytes 2 s.moduleId ++ leBytes 34 0

/-- The active Kiln sends a SUMMARY, to a partner that takes them (R193, R224). -/
def State.sendSummary (s : State) : State :=
  if s.mirrorLink && s.active.isSome then
    let (tag, s) := s.takeTag
    let s := s.sendPkt 12 (s.packet 0x22 (s.getF (.ptn .statusPartnerId)) 0 tag 0 0 s.summaryPayload)
    { s with ptn := { s.ptn with sumSeq := (s.ptn.sumSeq + 1) % 2 ^ 32 } }
  else s

/-- SUMMARY_TIMEOUT (R224): 10 s without a summary on a link that is UP. -/
def execSummaryTimeout (s : State) : Host.Outcome State Fault Refusal :=
  .next <| if s.portUp 12 then s.partnerLost else s

/-! ### The link -/

/-- What the partner link shows of a training (R193, R231). -/
def State.ptnTrained (s : State) (lanes err : Nat) (t : Train) : State :=
  let s := (s.setF (.ptn .ctrlRetrain) 0 0).setWidths 12 lanes
  if t.late ∨ err = 2 then s
  else (s.setF (.ptn .farLoFarLo) 0 t.far).setF (.ptn .farHiFarHi) 0 (t.far / 2 ^ 32)

/-- The partner link comes UP from a state (R194, R219): it shows the partner's ID. -/
def State.ptnComesUp (s : State) (lanes : Nat) (t : Train) (st : Nat) : State :=
  let s := (s.setF (.ptn .statusState) 0 2).setF (.ptn .statusWidth) 0 ((commonWidth lanes t.far).getD 0)
  let s := (s.setF (.ptn .statusPartnerId) 0 t.farId).setF (.ptn .statusIdValid) 0 1
  let s := { s with ptn := { s.ptn with backoff := 0 } }
  (s.linkTrained 12 lanes t (st == 3)).ptnEvent 1

/-- The partner link is refused (R195, R224). -/
def State.ptnRefused (s : State) (err : Nat) : State :=
  let s := (s.setF (.ptn .statusState) 0 0).setF (.ptn .statusTrainErr) 0 err
  ({ s with ptn := { s.ptn with backoff := nextBackoff s.ptn.backoff } } : State).lostCheck

/-- PTN_TRAIN (R193 to R195, R219): there is no optical engine, and so no light to find. -/
def execPtnTrain (t : Train) (s : State) : Host.Outcome State Fault Refusal :=
  .next <|
    let st := s.getF (.ptn .statusState)
    if !s.isOn .iod then s
    else if !s.sec.orderP then s.setF (.ptn .statusState) 0 4
    else if s.flag (.ptn .ctrlEnable) && (st == 1 || st == 3 || st == 5) then
      if !s.liveFlag (.ixf .moduleIdValid) then s.setF (.ptn .statusState) 0 5
      else
        let lanes := s.lockedLanes 12 8 t.lanes
        let err := trainErr t lanes 2 none (t.farId == s.moduleId)
        let s := s.ptnTrained lanes err t
        if err = 0 then s.ptnComesUp lanes t st else s.ptnRefused err
    else s

/-- PTN_LINK_DOWN (R222, R224): the link leaves UP, to retrain, or for good until its retry. -/
def execPtnLinkDown (retrain : Bool) (s : State) : Host.Outcome State Fault Refusal :=
  .next <|
    if s.portUp 12 then
      if retrain then s.ptnLeave 3
      else ({ s with ptn := { s.ptn with backoff := nextBackoff s.ptn.backoff } } : State).ptnLeave 0
    else s

/-- A write of RETRAIN (R195, R231); without the link, or while it is disabled, the bit is not set (R219; log entry 169). -/
def State.ptnRetrain (s : State) : State :=
  let st := s.getF (.ptn .statusState)
  if !s.sec.orderP ∨ !s.flag (.ptn .ctrlEnable) then s
  else
    let s := s.setF (.ptn .ctrlRetrain) 0 1
    if st = 2 then s.ptnLeave 3 else s.setF (.ptn .statusState) 0 s.trainState

/-- PTN_RETRAIN_WRITE (R195, R231). -/
def execPtnRetrainWrite (s : State) : Host.Outcome State Fault Refusal :=
  .next <| if s.isOn .iod then s.ptnRetrain else s

/-- A write of ENABLE (R195, R231); on an LMF-1800-A it does nothing beside (R219). -/
def State.ptnEnable (s : State) (v : Nat) : State :=
  let was := s.flag (.ptn .ctrlEnable)
  let s := s.setF (.ptn .ctrlEnable) 0 (v % 2)
  if !s.sec.orderP then s
  else if v % 2 = 0 then
    let s := (s.setF (.ptn .ctrlRetrain) 0 0).ptnLeave 0
    { s with ptn := { s.ptn with backoff := 0 } }
  else if !was && s.getF (.ptn .statusState) == 0 then s.setF (.ptn .statusState) 0 s.trainState
  else s

/-- A write of FENCE_CLR: the fence is lifted and LOST cleared; a partner that is still gone is lost anew (R224). -/
def State.ptnFenceClear (s : State) : State :=
  (({ s with ptn := { s.ptn with fenced := false } } : State).setF (.ptn .statusLost) 0 0).lostCheck

/-- PTN_FENCE_CLR (R224, R231). -/
def execPtnFenceClr (s : State) : Host.Outcome State Fault Refusal :=
  .next <| if s.isOn .iod then s.ptnFenceClear else s

/-! ### The PTN commit -/

/-- A receive window of the shadow set, in GiB. -/
def State.rxShadow (s : State) (w : Nat) : Nat × Nat :=
  (s.getF (.ptn .rxWinBaseGib) w, s.getF (.ptn .rxWinSizeGib) w)

/-- The code of R232 for the shadow set. -/
def State.checkPtn (s : State) : Nat :=
  let on := (List.range 8).filter fun w => s.flag (.ptn .rxWinEnable) w && (s.rxShadow w).2 != 0
  if !s.sec.orderP && !on.isEmpty then 1
  else if on.any fun w => decide (((s.rxShadow w).1 + (s.rxShadow w).2) * 2 ^ 30 > s.memTop) then 2
  else if on.any fun w => on.any fun v => decide (w < v) && rangesMeet (s.rxShadow w) (s.rxShadow v) then 3
  else 0

/-- A PTN commit (R7, R222, R232): an enabled region whose destination changes is wholly dirty. -/
def State.commitPtn (s : State) : State :=
  let e := s.checkPtn
  let s := s.setF (.ptn .commitStatusErr) 0 e
  if e ≠ 0 then s
  else
    let moved := (List.range 8).filter fun r => s.changed (.ptn .mirDstDstGib) r && s.mirOn r
    let s := s.commitRange [.ptn .mirDstDstGib, .ptn .rxWinBaseGib, .ptn .rxWinSizeGib, .ptn .rxWinEnable] 8
    moved.foldl (fun s r => s.allDirty r) s

/-- PTN_COMMIT (R232). -/
def execPtnCommit (s : State) : Host.Outcome State Fault Refusal := .next <| if s.isOn .iod then s.commitPtn else s

/-! ### Resynchronisation -/

/-- The lowest-numbered UNSYNCED region and in it the lowest dirty block (R223 step 1). -/
def State.nextDirty (s : State) : Option Nat :=
  match (List.range 8).find? fun r => s.mirOn r && s.flag (.mem .mirCfgUnsynced) r &&
      s.ptn.dirty.any fun b => b / 2 ^ 15 == r with
  | none => none
  | some r =>
    match s.ptn.dirty.filter fun b => b / 2 ^ 15 == r with
    | [] => none
    | b :: t => some (t.foldl min b)

/-- Percent of a region's blocks that are clean (R231). -/
def State.cleanPct (s : State) (r : Nat) : Nat :=
  let n := s.getLive (.mem .mirCfgSizeGib) r * 2 ^ 9
  let d := (s.ptn.dirty.filter fun b => b / 2 ^ 15 == r).length
  if n = 0 then 100 else (n - d) * 100 / n

/-- Send copy packets of n bytes from an address of region r until its block ends, as many as fuel says (R195, R199, R223 step
2); a pair that cannot be read fails the copy. -/
def State.copyPackets : Nat → State → Nat → Nat → Nat → State
  | 0, s, _, _, _ => s
  | f + 1, s, r, n, pa =>
    let s := match s.memRead pa n [] with
      | (s, .ok, b) => (s.sendMirror 5 r pa b).1
      | (s, _, _) => s.copyFailed
    State.copyPackets f s r n (pa + n)

/-- PARTNER_RESYNC (R223 steps 1 and 2): with the link UP and MIRROR agreed, the next dirty block is copied. -/
def execPartnerResync (s : State) : Host.Outcome State Fault Refusal :=
  .next <|
    if s.mirrorLink && s.sec.orderP && s.ptn.copy.isNone then
      match s.nextDirty with
      | none => s
      | some b =>
        let r := b / 2 ^ 15
        let s := { s with ptn := { s.ptn with copy := some (b, false) } }
        let s := (s.setF (.ptn .resyncRegion) 0 r).setF (.ptn .resyncActive) 0 1
        let s := s.setF (.ptn .resyncProgress) 0 (s.cleanPct r)
        let n := s.maxPayload 12
        State.copyPackets (2 ^ 21 / n) s r n (s.getLive (.mem .mirCfgBaseGib) r * 2 ^ 30 + b % 2 ^ 15 * 2 ^ 21)
    else s

/-- A region with no dirty block left is synchronised (R223 step 4). -/
def State.syncCheck (s : State) (r : Nat) : State :=
  if s.mirOn r && !s.ptn.dirty.any (fun b => b / 2 ^ 15 == r) then (s.setF (.mem .mirCfgUnsynced) r 0).ptnEvent 4 else s

/-- RESYNC_BLOCK_DONE (R223 steps 3 and 4): every copy packet has been answered. -/
def execResyncBlockDone (s : State) : Host.Outcome State Fault Refusal :=
  .next <|
    match s.ptn.copy with
    | none => s
    | some (b, failed) =>
      if s.ixf.reqs.any fun r => r.kind == 5 then s
      else
        let r := b / 2 ^ 15
        let dirty := if failed then s.ptn.dirty else s.ptn.dirty.filter fun x => x ≠ b
        let s := { s with ptn := { s.ptn with copy := none, dirty := dirty } }
        let s := s.syncCheck r
        (s.setF (.ptn .resyncProgress) 0 (s.cleanPct r)).setFlag (.ptn .resyncActive) 0 s.nextDirty.isSome

end Sys2Proof.Machine
end

