-- ==== Sys2Proof/Machine/GrainOps.lean ====
section
/-!
DEFINITION. The operations of the grain budget (R161 to R178): the target and its binding source, the ramp, the division of
the applied cap, protection falls. Caps are held in µW, energies in units of 2^-16 grain.
-/

namespace Sys2Proof.Machine

/-! ### Caps -/

/-- One watt in µW. -/
def watt : Nat := 10 ^ 6

/-- An event of SOURCE 0x01 with its register bit (R185, R249). -/
def State.grbEvent (s : State) (bit : Nat) : State :=
  let fld : Fld := match bit with
    | 0 => .grb .evtBinding
    | 1 => .grb .evtProtect
    | 2 => .grb .evtRepay
    | 3 => .grb .evtCapUnmet
    | 4 => .grb .evtRackLease
    | 5 => .grb .evtRackClash
    | _ => .grb .evtHostClamped
  s.postBit 1 bit (if bit = 0 then 0 else 1)
    (s.getF (.grb .capAppliedCapW) + 2 ^ 16 * s.getF (.grb .capStatusBinding)) fld (.grb .evtEnEn)

/-- The ceiling in W (R170). -/
def State.ceilingW (s : State) : Nat := s.getF (.grb .capCeilingCapW)

/-- The rack cap in force in W: FALLBACK_W once the lease has expired (R172). -/
def State.rackCapW (s : State) : Nat :=
  if s.flag (.grb .capRackLeaseExpired) then s.clampCap (s.getF (.grb .rackCfgFallbackW))
  else s.clampCap (s.getF (.grb .capRackCapW))

/-- The host cap in force in W (R171). -/
def State.hostCapW (s : State) : Nat := s.clampCap (s.getF (.grb .capHostCapW))

/-- The four sources in µW with their BINDING codes, in the order that decides a tie (R174). -/
def State.capSources (s : State) : List (Nat × Nat) :=
  [(3, s.grn.thermalUw), (2, s.rackCapW * watt), (1, s.hostCapW * watt), (0, s.ceilingW * watt)]

/-- The lowest source: the first of those with the lowest value. -/
def State.lowestCap (s : State) : Nat × Nat :=
  s.capSources.foldl (fun b x => if x.2 < b.2 then x else b) (3, s.grn.thermalUw)

/-- The target cap in µW (R174). -/
def State.targetUw (s : State) : Nat := max (700 * watt) s.lowestCap.2

/-- BINDING (R174). -/
def State.bindingNow (s : State) : Nat := if s.lowestCap.2 < 700 * watt then 4 else s.lowestCap.1

/-- Set the applied cap and the registers that show it and the target (R185). -/
def State.setApplied (s : State) (uw : Nat) : State :=
  let s := { s with grn := { s.grn with appliedUw := uw } }
  let s := (s.setF (.grb .capAppliedCapW) 0 (uw / watt)).setF (.grb .capTargetCapW) 0 (s.targetUw / watt)
  s.setFlag (.grb .capStatusRamping) 0 (decide (uw < s.targetUw))

/-- Set the module thermal cap; the register shows it to the nearest watt, as the worked example of R173 does. -/
def State.setThermal (s : State) (uw : Nat) : State :=
  { s with grn := { s.grn with thermalUw := uw } }.setF (.grb .capThermalCapW) 0 (min 0xFFFF ((uw + watt / 2) / watt))

/-- Weight of a die in force (R186). -/
def State.dieWeight (s : State) (n : Nat) : Nat := s.getLive (.grb .dieWeightWeight) n

/-- The loop of R175: dies still open share what is left by weight; those above their thermal cap are closed at it.
Answers the caps and the dies whose thermal cap binds. Fuel: four dies. -/
def State.divideLoop : Nat → State → Nat → List Nat → SMap Nat → List Nat → SMap Nat × List Nat
  | 0, _, _, _, d, bound => (d, bound)
  | f + 1, s, rest, opn, d, bound =>
    if opn.isEmpty then (d, bound)
    else
      let w := (opn.map s.dieWeight).foldl (· + ·) 0
      let share := fun n => rest * s.dieWeight n / w
      let high := opn.filter fun n => decide (share n > (s.die n).thermUw)
      if high.isEmpty then (opn.foldl (fun d n => d.set n (max (25 * watt) (share n))) d, bound)
      else
        let cap := fun n => max (25 * watt) (s.die n).thermUw
        let d := high.foldl (fun d n => d.set n (cap n)) d
        let rest := high.foldl (fun r n => r - cap n) rest
        State.divideLoop f s rest (opn.filter fun n => !high.contains n) d (bound ++ high)

/-- Is a die out of service until the next AUX power-up (R275)? -/
def State.dieFailed (s : State) (n : Nat) : Bool := (s.getF (.kln .dieHbFailed)).testBit n

/-- The division of R175: the die caps in µW and the dies whose thermal cap binds. A failed die has no part in it
(R442). -/
def State.divide (s : State) : SMap Nat × List Nat :=
  let all := [0, 1, 2, 3].filter fun n => !s.dieFailed n
  let d : SMap Nat := all.map fun n => (n, 25 * watt)
  let noWeight := (all.filter fun n => s.dieWeight n == 0).length
  let rest := max (s.grn.appliedUw - s.grn.nondieUw) (100 * watt) - 25 * watt * noWeight
  State.divideLoop 5 s rest (all.filter fun n => s.dieWeight n != 0) d []

/-- Divide the applied cap and send the die caps to the minters (R175), with DIE_THERMAL and CAP_UNMET (R176, R181). -/
def State.divideCaps (s : State) : State :=
  let (d, bound) := s.divide
  let s := d.foldl (fun s e => s.modDie e.1 fun x => { x with capUw := e.2 }) s
  let total := (d.map (·.2)).foldl (· + ·) 0
  let unmet := decide (total > s.grn.appliedUw - s.grn.nondieUw)
  let was := s.flag (.grb .capStatusCapUnmet)
  let s := (s.setF (.grb .capStatusDieThermal) 0 ((bound.map fun n => 2 ^ n).foldl (· + ·) 0)).setFlag
    (.grb .capStatusCapUnmet) 0 unmet
  let s := s.setF (.grb .nondieUW) 0 (s.grn.nondieUw / watt)
  if unmet && !was then s.grbEvent 3 else s

/-- A change of BINDING: the event, and CAP_STATUS on both ports (R183). -/
def State.bindingCheck (s : State) : State :=
  let b := s.bindingNow
  if b = s.getF (.grb .capStatusBinding) then s
  else
    let s := (s.setF (.grb .capStatusBinding) 0 b).grbEvent 0
    { s.sendCapStatus false with grn := { (s.sendCapStatus false).grn with sentUw := s.grn.appliedUw } }

/-! ### Clusters of a die -/

/-- Clusters of a die whose state differs from that at power-up. -/
def State.dieClusters (s : State) (n : Nat) : List Nat := (s.clu.map (·.1)).filter fun c => c / 208 == n

/-- Cut a cluster's reserve to a ceiling in 2^-16 grain; the surplus returns to the pool (R178, R180, R188). -/
def State.clipReserve (s : State) (c : Nat) (ceil : Int) : State :=
  let r := (s.cl c).reserve
  if r > ceil then
    (s.modCl c fun k => { k with reserve := ceil }).modDie (c / 208) fun d => { d with pool := d.pool + (r - ceil) }
  else s

/-- A cluster that steeps on its reserve goes on once the reserve is above zero and no HOLD is in force (R163, R167). -/
def State.wakeReserve (s : State) (c : Nat) : State :=
  match (s.cl c).wait with
  | some .reserve => if s.reserveOk c then s.wake c else s
  | _ => s

/-- Step 4 of R178 on a die: reserves are clipped to CEIL_MIN, a positive pool lapses, the brake is set to M_n, below which it
stays while the die repays (R167). -/
def State.clipDie (s : State) (n : Nat) : State :=
  let ceil : Int := (256 * s.getLive (.grb .resCfgCeilMin) : Nat)
  let s := (s.dieClusters n).foldl (fun s c => s.clipReserve c ceil) s
  s.modDie n fun d =>
    let d := { d with limit := min d.limit d.minted }
    if d.pool > 0 then { d with pool := 0, lapsed := d.lapsed + d.pool.toNat } else d

/-! ### Protection falls -/

/-- Add a cause of PROTECT. -/
def State.addProtect (s : State) (c : Nat) : State :=
  if s.grn.protects.contains c then s else { s with grn := { s.grn with protects := s.grn.protects ++ [c] } }

/-- Withdraw a cause of PROTECT; with the last one PROTECT is withdrawn (R178). -/
def State.dropProtect (s : State) (c : Nat) : State :=
  let s := { s with grn := { s.grn with protects := s.grn.protects.filter fun x => x ≠ c } }
  s.setFlag (.grb .capStatusProtect) 0 (!s.grn.protects.isEmpty)

/-- A protection fall (R178 steps 2 to 4): the module and die thermal caps fall to the given values where these are lower,
PROTECT is set, the applied cap follows at once, the caps are divided, reserves and pools clipped. A fall of the active Kiln
confirms one that the standby has written (R256). -/
def State.protFall (s : State) (cause capUw : Nat) (dieUw : List Nat) : State :=
  let s := if cause = 4 then s else { s with kln := { s.kln with unconfirmed := none } }
  let s := (s.addProtect cause).stopSlices fun _ => true
  let s := s.setThermal (min s.grn.thermalUw capUw)
  let s := [0, 1, 2, 3].foldl (fun s n => s.modDie n fun d =>
    { d with thermUw := min d.thermUw (dieUw.getD n d.thermUw) }) s
  let s := (s.setF (.grb .capStatusProtect) 0 1).grbEvent 1
  let s := s.setApplied (min s.grn.appliedUw s.targetUw)
  let s := s.divideCaps
  let s := [0, 1, 2, 3].foldl (fun s n => if s.isOn (.core n) then s.clipDie n else s) s
  s.bindingCheck

/-- A protection fall of the module thermal cap to the floor (R178, R298, R301, R307). -/
def State.floorFall (s : State) (cause : Nat) : State := s.protFall cause (700 * watt) []

end Sys2Proof.Machine
end

