-- ==== Sys2Proof/Machine/CoolOps.lean ====
section
/-!
DEFINITION. Sensors and their trusted values (R282 to R287, R290), the model estimates (R284, R286), zone factors (R294,
R351) and the thermal caps they scale (R173, R182). Temperatures are in 1/16 °C, flows in 0.01 L/min, pressures in kPa,
resistances in 10 Ω.
-/

namespace Sys2Proof.Machine

/-! ### Sensor IDs (R282) -/

/-- Class of a sensor ID. -/
def sensClass (id : Nat) : Nat := id / 4096
/-- Index of a sensor ID. -/
def sensIndex (id : Nat) : Nat := id % 4096

/-- How many sensors a class has. -/
def sensCount (c : Nat) : Nat := [4, 8, 2, 2, 1664, 40, 12, 4, 2, 4].getD c 0

/-- Is an ID one of the table of R282? -/
def sensKnown (id : Nat) : Bool := decide (sensIndex id < sensCount (sensClass id))

/-- The zone of a sensor (R23, R282). -/
def sensZone (id : Nat) : Option Nat :=
  match sensClass id with
  | 1 => some (sensIndex id)
  | 4 => some (sensIndex id / 416)
  | 5 => some (if sensIndex id < 20 then 4 else 5)
  | 6 => some 6
  | 7 => some 7
  | _ => none

/-- Is a sensor a temperature sensor with an estimate under R284? -/
def sensTemp (id : Nat) : Bool := [0, 1, 4, 5, 6, 7].contains (sensClass id)

/-- Do a sensor and its neighbour form a sensor pair (R282)? Pressure sensors and flow meters count as pairs for the
factors of R294 alone. -/
def sensPaired (id : Nat) : Bool := [0, 4, 5].contains (sensClass id)

/-- The other sensor of a pair. -/
def sensPartner (id : Nat) : Nat := if id % 2 = 0 then id + 1 else id - 1

/-- A sensor's standing. -/
def State.sensRec (s : State) (id : Nat) : SensRec := s.cool.sens.getD id ⟨0, false, false, false, 0, 0, false⟩

/-- Show the counts of substituted and masked sensors (R310). -/
def State.sensCounts (s : State) : State :=
  (s.setF (.cle .sensCountSubst) 0 (s.cool.sens.filter fun e => e.2.subst).length).setF (.cle .hotnMasks) 0
    (s.cool.sens.filter fun e => e.2.masked).length

/-- Keep a sensor's standing, and the counts of substituted and masked sensors (R310). -/
def State.setSens (s : State) (id : Nat) (r : SensRec) : State :=
  { s with cool := { s.cool with sens := s.cool.sens.put id r ⟨0, false, false, false, 0, 0, false⟩ } }.sensCounts

/-- Is a sensor substituted? -/
def State.subst (s : State) (id : Nat) : Bool := (s.sensRec id).subst

/-- The latest reading of a sensor. -/
def State.rawOf (s : State) (id : Nat) : Int := s.cool.raw.getD id 0

/-! ### Flow and pressure (R286) -/

/-- Largest r with r² ≤ n, for n below 2^64. -/
def isqrt (n : Nat) : Nat :=
  (List.range 32).foldl (fun r i => let t := r + 2 ^ (31 - i); if t * t ≤ n then t else r) 0

/-- Full scale of a valve code. -/
def fullCode : Nat := 32767

/-- Opening of valve v in 1/32767 (R284): the code in force, between 0 and fully open. -/
def State.opening (s : State) (v : Nat) : Nat := (signed 16 (s.getF (.drv .valveStatusCode) v)).toNat

/-- Is a pump RUNNING? -/
def State.pumpRuns (s : State) (p : Nat) : Bool := s.getF (.drv .pumpStatusState) p == 2

/-- H of R352 in kPa / 81,000,000. -/
def State.headN (s : State) : Nat :=
  s.getF (.drv .cfgHeadKpa) * (([0, 1].filter s.pumpRuns).map fun p => s.getF (.drv .pumpStatusSpeed) p ^ 2).sum

/-- The denominator of the head: 9,000². -/
def headD : Nat := 81000000

/-- K_v of R395 in units of 1 / (4,096 × 32,767²). -/
def State.kvN (s : State) : Nat :=
  s.cool.model.kv0 * fullCode ^ 2 +
    ((List.range 8).map fun z => s.cool.model.a.getD z 0 * (fullCode - s.opening z) ^ 2).sum

/-- The denominator of K_v. -/
def kvD : Nat := 4096 * fullCode ^ 2

/-- Q_est from a pressure drop in kPa, in 0.01 L/min. -/
def State.qFromDrop (s : State) (drop : Int) : Nat :=
  let n := drop * headD + s.headN
  if s.kvN = 0 ∨ n < 0 then (Config.openEstimate 0x3002 drop).toNat
  else isqrt (n.toNat * 6000 * kvD / (headD * s.kvN))

/-- The drop that a flow would need, in kPa, the head taken off (R290). -/
def State.dropFor (s : State) (q : Nat) : Int :=
  ((s.kvN * q ^ 2 * headD : Nat) - (s.headN * 6000 * kvD : Nat) : Int) / (6000 * kvD * headD : Nat)

/-- Value of pressure sensor 0, PRS_IN, or 1, PRS_OUT: the reading, or what Q_est would need given the valid flow. -/
def State.prsVal (s : State) (i : Nat) : Int :=
  if s.subst (0x2000 + i) then
    if s.subst (0x2001 - i) then Config.openEstimate (0x2000 + i) 0
    else if i = 0 then s.rawOf 0x2001 + s.dropFor (s.getF (.cle .flowProt))
    else s.rawOf 0x2000 - s.dropFor (s.getF (.cle .flowProt))
  else s.rawOf (0x2000 + i)

/-- Are both pressure sensors substituted? -/
def State.noPressure (s : State) : Bool := s.subst 0x2000 && s.subst 0x2001

/-- The plausible flow meters' readings, from 0 up. -/
def State.meters (s : State) : List Nat := ([0x3000, 0x3001].filter fun m => !s.subst m).map fun m => (s.rawOf m).toNat

/-- The lower of a list of flows, d for none. -/
def lowest (l : List Nat) (d : Nat) : Nat :=
  match l with
  | [] => d
  | a :: t => t.foldl min a

/-- Q_est (R286, R290). -/
def State.qEst (s : State) : Nat :=
  if s.noPressure then lowest s.meters s.cool.qest else s.qFromDrop (s.prsVal 0 - s.prsVal 1)

/-- Value of a flow meter: its reading, or Q_est. -/
def State.flowVal (s : State) (m : Nat) : Int := if s.subst (0x3000 + m) then s.qEst else s.rawOf (0x3000 + m)

/-- The middle of three. -/
def median3 (a b c : Int) : Int := max (min a b) (min (max a b) c)

/-! ### Temperature estimates (R284) -/

/-- A register temperature: unsigned in 1/16 °C (R310). -/
def tempField (t : Int) : Nat := min t.toNat 4095

/-- w_z of a zone, up to the common factor 1 / (64 × 32,767 × 4,096). -/
def State.zoneW (s : State) (z : Nat) : Nat := s.cool.model.b.getD z 0 * max (64 * s.opening z) fullCode

/-- The model entry of a sensor; a zone outlet sensor has POS = 1. -/
def State.modelEntry (s : State) (id : Nat) : ModelEntry :=
  let e := s.cool.model.entries.getD id ⟨0, 0⟩
  if sensClass id = 1 then { e with pos := 65535 } else e

/-- The estimate of a temperature sensor. -/
def State.estTemp (s : State) (id : Nat) : Int :=
  let q := s.getF (.cle .flowCtrl)
  match sensClass id with
  | 0 =>
    if q = 0 then Config.openEstimate id s.cool.inputMw
    else
      let rise : Int := (16 * s.cool.inputMw / (663 * q) : Nat)
      if sensIndex id < 2 then s.getF (.cle .tOutCtrl) - rise else s.getF (.cle .tInCtrl) + rise
  | _ =>
    let z := (sensZone id).getD 0
    let w := ((List.range 8).map s.zoneW).sum
    let e := s.modelEntry id
    let d := 65535 * 663 * q * s.zoneW z
    if d = 0 then Config.openEstimate id (s.cool.zoneMw.getD z 0)
    else
      let n := 16 * e.pos * s.cool.zoneMw.getD z 0 * w * 10 ^ 9 + 16 * e.rth * s.cool.src.getD id 0 * d
      s.getF (.cle .tInCtrl) + (n / (d * 10 ^ 9) : Nat)

/-- The estimate of a sensor, in its class's units; none for the humidity sensor and the leak loops (R290). -/
def State.estimate (s : State) (id : Nat) : Option Int :=
  match sensClass id with
  | 2 => some (if s.subst id then s.prsVal (sensIndex id)
      else if sensIndex id = 0 then s.rawOf 0x2001 + s.dropFor (s.getF (.cle .flowProt))
      else s.rawOf 0x2000 - s.dropFor (s.getF (.cle .flowProt)))
  | 3 => some s.qEst
  | 8 => none
  | 9 => none
  | _ => some (s.estTemp id)

/-- The value of a temperature sensor: its reading, or its estimate while it is substituted (R290). -/
def State.tempVal (s : State) (id : Nat) : Int := if s.subst id then s.estTemp id else s.rawOf id

/-- Protection value of the pair whose first sensor is id (R285). -/
def State.pairProt (s : State) (id : Nat) : Int := max (s.tempVal id) (s.tempVal (id + 1))

/-- Control value of the pair whose first sensor is id: the median with the estimate; the higher reading while the model
of its zone is suspect (R285, R293). -/
def State.pairCtrl (s : State) (id : Nat) : Int :=
  let suspect := match sensZone id with
    | some z => s.cool.suspect.contains z
    | none => false
  if suspect then s.pairProt id
  else
    let est := if !s.subst id && s.subst (id + 1) then s.estTemp (id + 1) else s.estTemp id
    median3 (s.tempVal id) (s.tempVal (id + 1)) est

/-- Control temperature of a cluster (R179, R285). -/
def State.cluTemp (s : State) (c : Nat) : Int := s.pairCtrl (0x4000 + 2 * c)

/-- Temperature of a stack: its protection value (R114, R285). -/
def State.stackTemp (s : State) (k : Nat) : Int := s.pairProt (0x5000 + 2 * k)

/-! ### Dew point (R299) -/

/-- ln 2 in units of 2^-48. -/
def ln2Fix : Nat := 195103586505167

/-- ln x for a rational x = n / d near 1, in units of 2^-48: twice the series of the inverse hyperbolic tangent. -/
def lnNear (n d : Nat) : Int :=
  let z : Int := ((n : Int) - d) * 2 ^ 48 / (n + d)
  let z2 := z * z / 2 ^ 48
  2 * ((List.range 14).foldl (fun (a : Int × Int) k => (a.1 + a.2 / (2 * k + 1), a.2 * z2 / 2 ^ 48)) (0, z)).1

/-- ln of a percentage, in units of 2^-48. -/
def lnPercent (rh : Nat) : Int :=
  let j := ((List.range 8).find? fun j => decide (rh * 2 ^ j ≥ 67)).getD 7
  lnNear (rh * 2 ^ j) 100 - j * ln2Fix

/-- Dew point of air of rh percent at t in 1/16 °C, by the Magnus formula with a = 17.62 and b = 243.12 °C. -/
def dewPoint (rh : Nat) (t : Int) : Int :=
  if rh = 0 then Config.openEstimate 0x8000 t
  else
    let g := lnPercent rh + 1762 * t * 2 ^ 48 / (388992 + 100 * t)
    (2 * 388992 * g / (1762 * 2 ^ 48 - 100 * g) + 1) / 2

/-! ### Trusted values -/

/-- Take up readings. -/
def State.takeReadings (s : State) (rs : List (Nat × Int)) : State :=
  { s with cool := { s.cool with raw := rs.foldl (fun m r => m.set r.1 r.2) s.cool.raw } }

/-- Take up the powers of heat sources in mW (R284). -/
def State.takeSources (s : State) (src : List (Nat × Nat)) : State :=
  { s with cool := { s.cool with src := src.foldl (fun m r => m.set r.1 r.2) s.cool.src } }

/-- Form the trusted values of flow, pressure, supply, return and humidity from the readings (R284 to R287, R299), and
show them (R310); the memory controllers show the temperature that they use (R114, R130). -/
def State.refresh (s : State) : State :=
  let q := s.qEst
  let s := if s.noPressure then s else { s with cool := { s.cool with qest := q } }
  let s := (s.setF (.cle .pressPrsIn) 0 (min (s.prsVal 0).toNat 4095)).setF (.cle .pressPrsOut) 0
    (min (s.prsVal 1).toNat 4095)
  let s := (s.setF (.cle .flowRawFlwA) 0 (unsigned 16 (s.rawOf 0x3000))).setF (.cle .flowRawFlwB) 0
    (unsigned 16 (s.rawOf 0x3001))
  let s := (s.setF (.cle .flowEstQEst) 0 (min q 65535)).setF (.cle .flowProt) 0 (min (lowest s.meters q) 65535)
  let s := s.setF (.cle .flowCtrl) 0 (min (median3 (s.flowVal 0) (s.flowVal 1) q).toNat 65535)
  let s := (s.setF (.cle .tInProt) 0 (tempField (s.pairProt 0))).setF (.cle .tInCtrl) 0 (tempField (s.pairCtrl 0))
  let s := (s.setF (.cle .tOutProt) 0 (tempField (s.pairProt 2))).setF (.cle .tOutCtrl) 0 (tempField (s.pairCtrl 2))
  let s := ((List.range 20).filter s.stackPowered).foldl (fun s k =>
    s.setF (.mem .statusTemp) k (min ((s.stackTemp k).toNat / 16) 255)) s
  let rh := min (s.rawOf 0x8000).toNat 255
  (s.setF (.cle .humRh) 0 rh).setF (.cle .humDew) 0 (tempField (dewPoint rh (s.rawOf 0x8001)))

/-- The lower T_IN reading, an estimate for a substituted one (R290, R299, R303). -/
def State.lowerTin (s : State) : Int := min (s.tempVal 0) (s.tempVal 1)

/-- The dew point of the air (R299), which may lie below what CLE_HUM can show. -/
def State.dew (s : State) : Int := dewPoint (s.getF (.cle .humRh)) (s.rawOf 0x8001)

/-! ### Plausibility (R288, R289, R293) -/

/-- The measured power that heats a temperature sensor, in mW (R288). -/
def State.heatMw (s : State) (id : Nat) : Nat :=
  match sensZone id with
  | some z => s.cool.zoneMw.getD z 0
  | none => s.cool.inputMw

/-- Does a temperature sensor read more than 1.0 K below the supply while more than 20 W heat it? Not T_IN. -/
def State.tooCold (s : State) (id : Nat) : Bool :=
  decide (2 ≤ id) && decide (s.rawOf id < s.pairCtrl 0 - 16) && decide (s.heatMw id > 20000)

/-- By how much a temperature sensor departs from its estimate, in 1/16 K. -/
def State.departure (s : State) (id : Nat) : Int := s.rawOf id - s.estTemp id

/-- Is the model of a sensor's zone suspect, so that its departure from the estimate does not count against it (R293)? -/
def State.zoneSuspect (s : State) (id : Nat) : Bool :=
  match sensZone id with
  | some z => s.cool.suspect.contains z
  | none => false

/-- Is a sensor's reading implausible (R288)? -/
def State.implausible (s : State) (id : Nat) : Bool :=
  let r := s.rawOf id
  match sensClass id with
  | 2 =>
    decide (r < 0 ∨ r > 800) ||
      (decide (s.rawOf 0x2001 > s.rawOf 0x2000 + 20) && [0, 1].all fun p => s.getF (.drv .pumpStatusState) p != 1 && !s.pumpRuns p)
  | 3 => decide (r < -20 ∨ ((r - s.qEst).natAbs > 100 ∧ 4 * (r - s.qEst).natAbs > s.qEst))
  | 8 => false
  | 9 => false
  | _ => s.tooCold id || (!s.zoneSuspect id && decide ((s.departure id).natAbs > 128))

/-- The noise floor of a sensor in thousandths of its unit: K, kPa, L/min or % (R282). -/
def noiseFloor (id : Nat) : Nat :=
  match sensClass id with
  | 0 => 20
  | 1 => 50
  | 2 => 200
  | 3 => 20
  | 8 => if sensIndex id = 0 then 500 else 100
  | _ => 250

/-- The ends of the converter's range of a sensor, in its reading's units (R289). -/
def converterRange (id : Nat) : Int × Int :=
  match sensClass id with
  | 0 => (-320, 2400)
  | 1 => (-320, 2400)
  | 2 => (-50, 1000)
  | 3 => (-200, 2000)
  | 8 => if sensIndex id = 0 then (-5, 105) else (-640, 2000)
  | _ => (-640, 2400)

/-- Does a sensor read at either end of its converter's range (R289)? -/
def State.atRangeEnd (s : State) (id : Nat) : Bool :=
  decide (s.rawOf id ≤ (converterRange id).1 ∨ (converterRange id).2 ≤ s.rawOf id)

/-- How many temperature sensors of a zone depart by more than 8 K from their estimates, upward or downward (R293). -/
def State.departing (s : State) (z : Nat) (up : Bool) : Nat :=
  (s.cool.raw.filter fun e =>
    sensTemp e.1 && sensZone e.1 == some z && decide ((s.sensRec e.1).state < 2) &&
      if up then decide (s.departure e.1 > 128) else decide (s.departure e.1 < -128)).length

/-- State of a leak loop from its resistance (R295): 0 DRY, 1 WET, 2 OPEN, 3 SHORT, 4 OUT_OF_BAND. -/
def leakStateOf (r : Int) : Nat :=
  if r < 10 then 3 else if r ≤ 600 then 1 else if r > 5000 then 2 else if 800 ≤ r ∧ r ≤ 1200 then 0 else 4

/-- Show the leak loops' readings; a loop whose reference test has failed reads OUT_OF_BAND (R429). -/
def State.refreshLeak (s : State) : State :=
  (List.range 4).foldl (fun s n => match s.cool.raw.get? (0x9000 + n) with
    | some r =>
      (s.setF (.cle .leakState) n (if s.bst.leakBad.contains n then 4 else leakStateOf r)).setF (.cle .leakROhm10) n
        (min r.toNat 65535)
    | none => s) s

/-! ### Zone factors (R294, R351) -/

/-- Does a leak loop cover a zone (R296)? -/
def leakCovers (n z : Nat) : Bool :=
  match n with
  | 0 => z == 6 || z == 7
  | 1 => z == 6 || z == 7
  | 2 => z == 4 || z == 5
  | _ => true

/-- Substituted sensors. -/
def State.substIds (s : State) : List Nat := (s.cool.sens.filter fun e => e.2.subst).map (·.1)

/-- Is the valve of a zone FAILED, held for a read-back fault, or on a tripped switch (R351)? -/
def State.valveLost (s : State) (z : Nat) : Bool :=
  s.getF (.drv .valveStatusState) z == 4 || (s.getF (.drv .chFaultFault)).testBit z ||
    (s.getF (.drv .swStatusTrip)).testBit (z / 2)

/-- Factor of a zone in tenths. -/
def State.zoneFactor (s : State) (z : Nat) : Nat :=
  let ids := s.substIds.filter fun id => sensZone id == some z
  if (List.range 4).any fun n => (s.getF (.cle .leakSuspect)).testBit n && leakCovers n z then 5
  else if s.valveLost z || ids.any fun id => sensPaired id && s.subst (sensPartner id) then 6
  else if !ids.isEmpty || s.cool.suspect.contains z then 8
  else 10

/-- Factor, in tenths, of the sensors that have no zone: T_IN, T_OUT, PRS and FLW. -/
def State.noZoneFactor (s : State) : Nat :=
  let ids := s.substIds.filter fun id => sensClass id == 0 || sensClass id == 2 || sensClass id == 3
  if ids.any fun id => s.subst (sensPartner id) then 6 else if ids.isEmpty then 10 else 8

/-- Code of a factor in CLE_ZONE_F. -/
def factorCode (f : Nat) : Nat := match f with
  | 5 => 3
  | 6 => 2
  | 8 => 1
  | _ => 0

/-- Factor of a code in CLE_ZONE_F. -/
def codeFactor (c : Nat) : Nat := match c with
  | 3 => 5
  | 2 => 6
  | 1 => 8
  | _ => 10

/-- Factor in force of a zone, in tenths. -/
def State.zoneF (s : State) (z : Nat) : Nat := codeFactor (s.getF (.cle .zoneFF) z)

/-- Factor of the module thermal cap. -/
def State.moduleFactor (s : State) : Nat := min s.cool.moduleF (min (s.zoneF 6) (s.zoneF 7))

/-- Factor of the thermal cap of a die. -/
def State.dieFactor (s : State) (n : Nat) : Nat := min (s.zoneF n) (s.zoneF (if n < 2 then 4 else 5))

/-! ### Thermal caps -/

/-- The module thermal cap that Copper computes, in µW, before the factors (R173). -/
def State.thermalRaw (s : State) : Nat :=
  let d : Int := 16 * (s.getF (.cle .coolCfgTRetMax) : Int) - s.getF (.cle .tInProt)
  max (700 * watt) (s.getF (.cle .flowProt) * d.toNat * 39365625 / 1000)

/-- The module thermal cap with its factor, 700 W upward (R170, R294). -/
def State.thermalScaled (s : State) : Nat := max (700 * watt) (s.thermalRaw * s.moduleFactor / 10)

/-- What hot stacks take off a die's thermal cap, in µW (R182). -/
def State.stackCut (s : State) (n : Nat) : Nat :=
  (s.grn.stackCuts.map fun e => if e.1 / 5 = n then e.2.own else e.2.all).sum

/-- The die thermal cap that the stages of R323 give before the ramp: the loops' value, the zone factor, the stack step, and
the cap of R181; 25 W upward (R170). -/
def State.dieWant (s : State) (n : Nat) : Nat :=
  let x := (s.die n).loopUw * s.dieFactor n / 10 - s.stackCut n
  max (25 * watt) (match (s.die n).hotUw with
    | some h => min x h
    | none => x)

/-- Form the factors afresh. A new or lower factor is a protection fall; with no factor below 1 left the fall is withdrawn
(R294). -/
def State.refactor (s : State) : State :=
  let old := (List.range 8).map s.zoneF
  let oldM := s.cool.moduleF
  let s := (List.range 8).foldl (fun s z => s.setF (.cle .zoneFF) z (factorCode (s.zoneFactor z))) s
  let s := { s with cool := { s.cool with moduleF := s.noZoneFactor } }
  if decide (s.cool.moduleF < oldM) || (List.range 8).any fun z => decide (s.zoneF z < old.getD z 10) then
    s.protFall 6 s.thermalScaled ([0, 1, 2, 3].map s.dieWant)
  else if s.cool.moduleF == 10 && (List.range 8).all fun z => s.zoneF z == 10 then s.dropProtect 6
  else s

end Sys2Proof.Machine
end

