-- ==== Sys2Proof/Machine/RowBus.lean ====
section
/-!
DEFINITION. The row bus: rate detection and integration (R364), manager messages (R368 to R370), transmission, errors
and recovery (R374 to R376), identity clashes (R373), the ROW commit (R378, R379).
-/

namespace Sys2Proof.Machine

/-- An event that only the row bus carries has a Cask record whose SOURCE the spec does not give: a free value
(R372, R407; log entry 14). -/
def State.rowOnlyRecord (s : State) (code severity data : Nat) : State :=
  let (v, s) := s.fresh 8
  s.post v.toNat code severity data false

/-- DATA of BUS_UP for a port (R372). -/
def State.busUpData (s : State) (p : Nat) : Nat :=
  p + 2 * s.getF (.row .portStatusNomDet) p + 4 * s.getF (.row .portStatusDataDet) p +
    16 * s.getF (.row .portStatusBrs) p

/-- BUS_UP goes out on both ports when a port becomes ACTIVE, with its record (R372, R407). -/
def State.busUp (s : State) (p : Nat) : State :=
  let d := s.busUpData p
  (s.rowOnlyRecord 0x0A 0 d).sendModuleEvent 0x0A 0 d

/-- A port becomes ACTIVE at given rates, unless a strap fault keeps it in bus monitoring mode (R364, R365). -/
def State.portActive (s : State) (p nom data brs : Nat) : State :=
  if s.flag (.row .idStrapFault) then s
  else
    let s := (s.setF (.row .portStatusState) p 2).setF (.row .portStatusNomDet) p nom
    let s := (s.setF (.row .portStatusDataDet) p data).setF (.row .portStatusBrs) p brs
    (s.setF (.row .portStatusRateFail) p 0).busUp p

/-- A port starts again under R364: bus monitoring mode, detection from its beginning; a disabled port is OFF. -/
def State.portRestart (s : State) (p : Nat) : State :=
  let s := { s with row := { s.row with det := s.row.det.erase p } }
  let s := (s.setF (.row .portStatusBrs) p 0).setF (.row .portStatusRateFail) p 0
  s.setF (.row .portStatusState) p (if s.liveFlag (.row .portCfgEnable) p then 1 else 0)

/-- The fields that show the controllers of a Kiln (R17); the counts of what is received and the clashes are the buses'. -/
def rowCtlFields : List Fld :=
  [.row .portStatusState, .row .portStatusBrs, .row .portStatusNomDet, .row .portStatusDataDet, .row .portStatusRateFail,
    .row .portStatusTec, .row .portStatusRec, .row .portTxbCancelResult, .row .portTxSent, .row .portTxDropped]

/-- The controllers that the ROW block shows: those of the Kiln that holds ACT_OWN, or held it last. -/
def State.rowCtl (s : State) : RowCtl := ⟨s.regsOf rowCtlFields, s.row.det⟩

/-- Put controllers behind the ROW block. -/
def State.withRowCtl (s : State) (c : RowCtl) : State :=
  ({ s with row := { s.row with det := c.det } } : State).withRegs rowCtlFields c.regs

/-- What happens to the controllers of the other Kiln, which see the same buses (R17). -/
def State.otherRow (s : State) (f : State → State) : State :=
  let up := match s.kln.lastOwner with
    | some .ka => s.kln.kb.up
    | some .kb => s.kln.ka.up
    | none => false
  if up then { s with row := { s.row with other := (f (s.withRowCtl s.row.other)).rowCtl } } else s

/-- Both ports of the other Kiln's controllers start again. -/
def State.restartOther (s : State) : State := s.otherRow fun t => [0, 1].foldl (fun t p => t.portRestart p) t

/-- What the buses bring to the controllers of both Kilns (R17). -/
def State.bothRow (s : State) (f : State → State) : State := (f s).otherRow f

/-- Detection of a port so far. -/
def State.portDet (s : State) (p : Nat) : PortDet := s.row.det.getD p ⟨0, 0, false, 0, 0⟩

/-- Keep the detection of a port. -/
def State.setPortDet (s : State) (p : Nat) (d : PortDet) : State :=
  { s with row := { s.row with det := s.row.det.set p d } }

/-- The data-rate candidates of R364 step 3: the configured rate, then 5, 4 and 2 Mbit/s. -/
def State.dataCandidate (s : State) (p n : Nat) : Nat :=
  match n % 4 with
  | 0 => s.getLive (.row .portCfgDataRate) p
  | 1 => 2
  | 2 => 1
  | _ => 0

/-- Is a port in bus monitoring mode with rate detection (AUTO = 1)? -/
def State.detecting (s : State) (p : Nat) : Bool :=
  s.getF (.row .portStatusState) p == 1 && s.liveFlag (.row .portCfgAuto) p

/-- One step of the data-rate detection on a BRS frame: two good ones in a row at a candidate lock it, a data-phase
error moves on to the next candidate (R364 steps 3 and 4). Answers the rate locked, if any. -/
def State.brsFrame (s : State) (p : Nat) (ok : Bool) : State × Option Nat :=
  let d := s.portDet p
  if ok then
    if d.dataRun ≥ 1 then (s.setPortDet p { d with dataRun := 0 }, some (s.dataCandidate p d.cand))
    else (s.setPortDet p { d with dataRun := 1 }, none)
  else (s.setPortDet p { d with cand := (d.cand + 1) % 4, dataRun := 0 }, none)

/-- A port counts an identity clash; the third within 10 s puts it in bus monitoring mode (R373). -/
def State.clash (s : State) (p : Nat) : State :=
  let s := { s with row := { s.row with clashes := s.row.clashes ++ [(p, 0)] } }
  let s := s.addSat (.row .portClashTotal) p 1
  if (s.row.clashes.filter fun c => c.1 == p).length ≥ 3 ∧ s.getF (.row .portStatusState) p ≠ 5 then
    let s := (s.setF (.row .portStatusState) p 5).alertSet 5
    (s.rowOnlyRecord 0x05 2 p).moduleEventOn (1 - p) 0x05 2 p
  else s

/-- The fields of an identifier (R366). -/
def identType (n : Nat) : Nat := bits n 25 20
/-- RACK of an identifier. -/
def identRack (n : Nat) : Nat := bits n 19 14
/-- SLOT of an identifier. -/
def identSlot (n : Nat) : Nat := bits n 13 8
/-- DEST of an identifier. -/
def identDest (n : Nat) : Nat := bits n 5 0

/-- Does a frame address this module as a manager message of a type (R366)? -/
def State.forUs (s : State) (f : RowFrame) (t : Nat) : Bool :=
  f.extended && !f.remote && identType f.ident == t && identRack f.ident == s.getF (.row .idRack) && identSlot f.ident == 63 &&
    bits f.ident 7 6 == 0 &&
    (identDest f.ident == s.getF (.row .idSlot) || identDest f.ident == 63)

/-- Handle a manager frame up to the repeat check (R368, R369): whether it is to be acted on. Its layout has 8 bytes of
which the reserved ones must be 0. -/
def State.rowAccept (s : State) (p : Nat) (f : RowFrame) (reservedOk : Bool) : State × Bool :=
  if f.data.isEmpty then (s.addSat (.row .portRxerrEmpty) p 1, false)
  else if f.data.getD 0 0 ≠ 1 ∨ f.data.length < 8 ∨ !reservedOk then (s.addSat (.row .portRxerrBad) p 1, false)
  else
    let q := (f.data.getD 1 0).toNat
    if s.row.seen.any fun e => e.ident == f.ident && e.seq == q then (s.addSat (.row .portRxRepeats) p 1, false)
    else
      let s := s.addSat (.row .portRxAccepted) p 1
      ({ s with row := { s.row with seen := s.row.seen ++ [⟨f.ident, q, 0⟩] } }, true)

/-- Send a message on one port only, in answer to STATUS_REQ (R370). -/
def State.rowAnswer (s : State) (p mtype prio buf : Nat) (body : List Byte) : State :=
  match s.active with
  | none => s
  | some _ =>
    let (n, s) := s.takeRowSeq mtype
    s.rowQueueOn p buf (RowMsg.mk mtype prio 0 0 n (leBytes 1 1 ++ leBytes 1 n ++ body) false false)

/-- Does a port hold a message of PRIO 0 or 1? -/
def State.urgentOn (s : State) (p : Nat) : Bool :=
  (List.range 3).any fun b => (s.rowQueue p b).any fun m => m.prio ≤ 1

/-- Does a message of a port hold ALERT_N (R375)? -/
def State.lateOn (s : State) (p : Nat) : Bool := (List.range 3).any fun b => (s.rowQueue p b).any (·.late)

/-- Clear the URGENT_WAIT cause once every message that caused it has left (R375, R377). -/
def State.urgentCheck (s : State) : State := if s.lateOn 0 || s.lateOn 1 then s else s.alertClear 6

/-- Change the messages of a port that stand in a buffer or its queue. -/
def State.markMsgs (s : State) (p : Nat) (f : List RowMsg → List RowMsg) : State :=
  (List.range 3).foldl (fun s b => s.setRowQueue p b (f (s.rowQueue p b))) s

/-- The error state of a port from its counters (R375): PASSIVE at 128 or more. -/
def State.errorState (s : State) (p : Nat) : State :=
  let st := s.getF (.row .portStatusState) p
  if st = 2 ∨ st = 3 then
    s.setF (.row .portStatusState) p
      (if s.getF (.row .portStatusTec) p ≥ 128 ∨ s.getF (.row .portStatusRec) p ≥ 128 then 3 else 2)
  else s

/-- The receive error counter of a port in use (R375): 1 more on an error, 1 less on a good frame, from above 127 to 127. -/
def State.countRx (s : State) (p : Nat) (bad : Bool) : State :=
  let st := s.getF (.row .portStatusState) p
  if st = 2 ∨ st = 3 then
    let n := s.getF (.row .portStatusRec) p
    (s.setF (.row .portStatusRec) p (if bad then min (n + 1) 255 else if n > 127 then 127 else n - 1)).errorState p
  else s

/-- Do the ports run from the Kilns' ring oscillators (R28, R363)? -/
def State.onRing (s : State) : Bool := (s.getF (.row .alertCause)).testBit 3

/-- Is a port on the bus: neither off nor bus-off? -/
def State.portHears (s : State) (p : Nat) : Bool :=
  s.getF (.row .portStatusState) p != 0 && s.getF (.row .portStatusState) p != 4

/-- RATE_SWEEP_TIMEOUT (R364): a silent sweep takes the configured rates; one with edges and no lock sets RATE_FAIL and
sweeps again. -/
def execRateSweepTimeout (p : Nat) (edges : Bool) (s : State) : Host.Outcome State Fault Refusal :=
  .next (s.bothRow fun s => if s.detecting p && !(s.portDet p).nomLocked then
    if edges then ({ s with row := { s.row with det := s.row.det.erase p } }).setF (.row .portStatusRateFail) p 1
    else s.portActive p (s.getLive (.row .portCfgNomRate) p) (s.getLive (.row .portCfgDataRate) p) 1
  else s)

/-- BRS_WAIT_TIMEOUT (R364 step 5): no BRS frame within 2 s of the nominal lock, so the port is ACTIVE without BRS. -/
def execBrsWaitTimeout (p : Nat) (s : State) : Host.Outcome State Fault Refusal :=
  .next (s.bothRow fun s =>
    if s.detecting p && (s.portDet p).nomLocked then s.portActive p (s.portDet p).nom 0 0 else s)

/-- Rate detection of a port on a frame (R364 steps 2 to 5): in bus monitoring mode, or for the data rate in an ACTIVE port that
has no BRS yet. -/
def State.rowDetect (s : State) (p nom : Nat) (brs dataOk : Bool) : State :=
  let d := s.portDet p
  if s.detecting p then
    if !d.nomLocked then
      let run := if d.nom = nom then d.nomRun + 1 else 1
      s.setPortDet p { d with nom := nom, nomRun := run, nomLocked := decide (run ≥ 3) }
    else if brs then
      match s.brsFrame p dataOk with
      | (s, some r) => s.portActive p d.nom r 1
      | (s, none) => s
    else s
  else if brs && s.liveFlag (.row .portCfgAuto) p && s.getF (.row .portStatusBrs) p == 0 &&
      s.getF (.row .portStatusState) p == 2 then
    match s.brsFrame p dataOk with
    | (s, some r) => (s.setF (.row .portStatusDataDet) p r).setF (.row .portStatusBrs) p 1
    | (s, none) => s
  else s

/-- Does a frame carry this module's own rack and slot, so that another module has them too (R373)? -/
def State.clashes (s : State) (f : RowFrame) : Bool :=
  f.extended && !f.remote && decide (1 ≤ identType f.ident ∧ identType f.ident < 0x20) &&
    identRack f.ident == s.getF (.row .idRack) && identSlot f.ident == s.getF (.row .idSlot)

/-- A frame on the bus of a port (R363, R364, R375): rate detection and error counters of both Kilns' controllers, the bit time
while on the ring oscillator. Answers whether the port has received it without error. -/
def State.rowHear (s : State) (p : Nat) (f : RowFrame) : State × Bool :=
  if s.portHears p then
    let bad := f.brs && !f.dataOk
    let s : State := if s.onRing && !bad then { s with row := { s.row with measured := s.row.measured.set p 0 } } else s
    (s.bothRow fun t => (t.countRx p (bad && t.flag (.row .portStatusBrs) p)).rowDetect p f.nom f.brs f.dataOk, !bad)
  else (s, false)

/-- ROW_FRAME_OTHER (R362, R364, R366, R373): a frame not addressed to the module serves rate detection and the clash check
and is then ignored. -/
def execRowFrameOther (p : Nat) (frame : RowFrame) (s : State) : Host.Outcome State Fault Refusal :=
  .next (match s.rowHear p frame with
    | (s, true) => if s.clashes frame then s.clash p else s
    | (s, false) => s)

/-- STATUS_REQ (R369, R370): answered on the port on which it arrived with the message named by WANT. -/
def execStatusReq (p : Nat) (frame : RowFrame) (s : State) : Host.Outcome State Fault Refusal :=
  .next (match s.rowHear p frame with
    | (s, true) =>
      if s.forUs frame 0x21 then
        let want := (frame.data.getD 2 0).toNat
        let ok := decide (want = 1 ∨ want = 2 ∨ want = 4) && ((frame.data.take 8).drop 3).all (· == 0)
        match s.rowAccept p frame ok with
        | (s, true) =>
          if want = 1 then s.rowAnswer p 1 5 2 (s.statusBody p)
          else if want = 2 then s.rowAnswer p 2 2 1 (s.capStatusBody false)
          else s.rowAnswer p 4 4 1 s.warnBody
        | (s, false) => s
      else s
    | (s, false) => s)

/-- ROW_COMMIT (R378): checks the port configurations, commits them, and restarts each port that changed. -/
def State.commitRow (s : State) : State :=
  let bad := fun p => s.getF (.row .portCfgDataRate) p = 3
  if bad 0 ∨ bad 1 then s.setF (.row .commitStatusErr) 0 1
  else if s.getF (.row .portCfgEnable) 0 = 0 ∧ s.getF (.row .portCfgEnable) 1 = 0 then s.setF (.row .commitStatusErr) 0 2
  else
    let fs : List Fld := [.row .portCfgEnable, .row .portCfgAuto, .row .portCfgNomRate, .row .portCfgDataRate]
    let s' := (s.commitRange fs 2).setF (.row .commitStatusErr) 0 0
    let again := fun (t : State) =>
      [0, 1].foldl (fun t p => if fs.any fun f => s.changed f p then t.portRestart p else t) t
    s'.bothRow again

/-- ROW_COMMIT. -/
def execRowCommit (s : State) : Host.Outcome State Fault Refusal :=
  .next (if s.isOn .aux then s.commitRow else s)

/-- May a port transmit: a Kiln holds ACT_OWN, and the port is ACTIVE or error-passive; on the ring oscillator it has measured the
bit time less than 1 s ago (R17, R255, R363)? -/
def State.portSends (s : State) (p : Nat) : Bool :=
  s.active.isSome && (s.getF (.row .portStatusState) p == 2 || s.getF (.row .portStatusState) p == 3) &&
    (!s.onRing || (s.row.measured.get? p).isSome)

/-- A message as the bus sees it on a port: the identifier carries PRIO, the type, and the module's own rack and slot (R362, R364,
R366). -/
def State.rowWire (s : State) (p : Nat) (m : RowMsg) : RowFrame :=
  { ident := 2 ^ 26 * m.prio + 2 ^ 20 * m.mtype + 2 ^ 14 * s.getF (.row .idRack) + 2 ^ 8 * s.getF (.row .idSlot),
    extended := true, remote := false, data := m.payload, nom := s.getF (.row .portStatusNomDet) p,
    brs := s.flag (.row .portStatusBrs) p, dataOk := true }

/-- FRAME_TX_DONE (R374): the frame in buffer b has been sent, and the next queued message moves into the buffer. -/
def execFrameTxDone (p b : Nat) (s : State) : Host.Outcome State Fault Refusal :=
  .next (match s.rowQueue p b with
    | [] => s
    | m :: q =>
      if s.portSends p then
        let s := (s.setRowQueue p b q).addSat (.row .portTxSent) p 1
        let s := { s with row := { s.row with sent := s.row.sent ++ [(p, s.rowWire p m)] } }
        ((s.setF (.row .portStatusTec) p (s.getF (.row .portStatusTec) p - 1)).errorState p).urgentCheck
      else s)

/-- FRAME_TX_ERROR (R374, R375): arbitration loss leaves the counters; an error adds 8 to the transmit counter, which
above 255 makes the port bus-off. The frame is offered again. -/
def execFrameTxError (p b : Nat) (why : TxFail) (s : State) : Host.Outcome State Fault Refusal :=
  if (s.rowQueue p b).isEmpty || !s.portSends p then .next s
  else
    let s := s.setRowQueue p b (listModify (s.rowQueue p b) 0 fun m => { m with begun := false })
    match why with
    | .arbitration => .next s
    | .error own =>
      let tec := s.getF (.row .portStatusTec) p + 8
      let s := if tec > 255 then
          let s := (s.setF (.row .portStatusState) p 4).addSat (.row .portClashBusOffs) p 1
          let s := s.setF (.row .portStatusTec) p 255
          if s.urgentOn p then
            (s.markMsgs p fun q => q.map fun m => if m.prio ≤ 1 then { m with late := true } else m).alertSet 6
          else s
        else (s.setF (.row .portStatusTec) p tec).errorState p
      .next (if own then s.clash p else s)

/-- BUS_OFF_RECOVERY (R375): counters 0, ACTIVE again; TXB0 is offered first. -/
def execBusOffRecovery (p : Nat) (s : State) : Host.Outcome State Fault Refusal :=
  .next (if s.getF (.row .portStatusState) p = 4 then
    let s := (s.setF (.row .portStatusTec) p 0).setF (.row .portStatusRec) p 0
    s.portActive p (s.getF (.row .portStatusNomDet) p) (s.getF (.row .portStatusDataDet) p)
      (s.getF (.row .portStatusBrs) p)
  else s)

/-- The oldest message of PRIO 0 or 1 that does not hold ALERT_N yet holds it. -/
def markLate : List RowMsg → List RowMsg
  | [] => []
  | m :: t => if m.prio ≤ 1 ∧ !m.late then { m with late := true } :: t else m :: markLate t

/-- URGENT_WAIT_TIMEOUT (R375): a message of PRIO 0 or 1, the oldest that holds ALERT_N not yet, has waited more than 100 ms on the
port. -/
def execUrgentWaitTimeout (p : Nat) (s : State) : Host.Outcome State Fault Refusal :=
  .next (if s.urgentOn p then (s.markMsgs p markLate).alertSet 6 else s)

/-- ROW_STATUS_PERIODIC (R367): STATUS on both ports. -/
def execRowStatusPeriodic (s : State) : Host.Outcome State Fault Refusal :=
  .next (if s.active.isSome then s.sendStatus.served 3 else s)

/-- Is an alarm in force for which COOLANT_ALARM repeats (R371)? -/
def State.alarmInForce (s : State) : Bool :=
  s.flag (.cle .coolStatusLeakSuspected) || s.flag (.cle .coolStatusLeak) || s.getF (.cle .coolStatusState) != 0 ||
    s.flag (.cle .coolStatusHotN) || s.cool.overpressure

/-- A COOLANT_ALARM, kept as the last one sent. -/
def State.alarmNow (s : State) (alarm detail : Nat) : State :=
  let s := { s with row := { s.row with lastAlarm := (alarm, detail) } }
  s.sendAlarm alarm detail

/-- ALL_CLEAR once the last alarm has ended (R371). -/
def State.allClear (s : State) : State := if s.alarmInForce then s else s.alarmNow 8 0

/-- COOLANT_ALARM_REPEAT (R371): the last alarm again, with a new SEQ, while one is in force. -/
def execCoolantAlarmRepeat (s : State) : Host.Outcome State Fault Refusal :=
  .next (if s.alarmInForce then s.sendAlarm s.row.lastAlarm.1 s.row.lastAlarm.2 else s)

/-- CLASH_CLR (R373): the port leaves bus monitoring mode. -/
def State.clashClear (s : State) (p : Nat) : State :=
  if s.getF (.row .portStatusState) p = 5 then
    let s := { s with row := { s.row with clashes := s.row.clashes.filter fun c => c.1 ≠ p } }
    let s := s.portActive p (s.getF (.row .portStatusNomDet) p) (s.getF (.row .portStatusDataDet) p)
      (s.getF (.row .portStatusBrs) p)
    if s.getF (.row .portStatusState) 0 = 5 ∨ s.getF (.row .portStatusState) 1 = 5 then s else s.alertClear 5
  else s

/-- CLASH_CLR. -/
def execClashClr (p : Nat) (s : State) : Host.Outcome State Fault Refusal :=
  .next (if s.isOn .aux ∧ p < 2 then s.clashClear p else s)

/-- Cancel the frame in buffer b of port p; onBus: its start of frame has been sent, in the same bit time at the latest
(R376). -/
def State.txbCancel (s : State) (p b : Nat) (onBus : Bool) : State :=
  match s.rowQueue p b with
  | [] => s
  | m :: q =>
    if onBus || m.begun then
      (s.setRowQueue p b ({ m with begun := true } :: q)).setF (.row .portTxbCancelResult) (3 * p + b) 2
    else ((s.setRowQueue p b q).setF (.row .portTxbCancelResult) (3 * p + b) 1).urgentCheck

/-- TXB_CANCEL (R376). -/
def execTxbCancel (p b : Nat) (onBus : Bool) (s : State) : Host.Outcome State Fault Refusal :=
  .next (if s.isOn .aux then s.txbCancel p b onBus else s)

/-- BUS_INTEGRATION (R364): with AUTO = 0 the port has seen 11 recessive bits and is ACTIVE at the configured rates. -/
def execBusIntegration (p : Nat) (s : State) : Host.Outcome State Fault Refusal :=
  .next (s.bothRow fun s => if s.getF (.row .portStatusState) p = 1 ∧ !s.liveFlag (.row .portCfgAuto) p then
    s.portActive p (s.getLive (.row .portCfgNomRate) p) (s.getLive (.row .portCfgDataRate) p) 1
  else s)

end Sys2Proof.Machine
end

