-- ==== Sys2Proof/Machine/Grains.lean ====
section
/-!
DEFINITION. The grain budget's commands: mints, grants, the brake, the hot-spot limiter (R161 to R168, R180, R181), and the
caps of host and rack (R171, R172), protection falls (R256), stale caps (R184) and the GRB commit (R188).
-/

namespace Sys2Proof.Machine

/-- A grain in internal units (R161). -/
def grain : Nat := 2 ^ 16

/-! ### Commit (R188) -/

/-- RWC fields of the global GRB registers. -/
def grbFields : List Fld :=
  [.grb .excCfgHeadroomW, .grb .excCfgDebtMax, .grb .resCfgCeilDefault, .grb .resCfgCeilMin, .grb .hotCfgMarginK,
    .grb .hotCfgDieTargetC, .grb .estFp4Pj, .grb .estFp8Pj, .grb .estBf16Pj, .grb .bankMaxGrains]

/-- The check of a GRB commit. -/
def State.checkGrb (s : State) : Nat :=
  let g := fun f => s.getF (.grb f)
  if g .excCfgHeadroomW > 150 ∨ g .excCfgDebtMax > 20 * g .excCfgHeadroomW then 1
  else if [g .estFp4Pj, g .estFp8Pj, g .estBf16Pj].any fun e => decide (e < 500 ∨ e > 8000) then 2
  else if g .resCfgCeilMin < 4 ∨ g .resCfgCeilDefault > 16384 ∨ g .resCfgCeilMin > g .resCfgCeilDefault then 3
  else if (List.range 4).all fun n => s.getF (.grb .dieWeightWeight) n == 0 then 4
  else if g .hotCfgDieTargetC < 60 ∨ g .hotCfgDieTargetC > 95 ∨ g .hotCfgMarginK = 0 then 5
  else if g .bankMaxGrains < 10 then 6
  else 0

/-- A committed set waits for neither its mint nor its control cycle any more: BUSY ends (R188). -/
def State.grbSettled (s : State) : State :=
  if s.grn.setWaits || s.grn.weightsWait then s else s.setF (.grb .commitStatusBusy) 0 0

/-- The committed set takes effect, at a mint (R188): a lowered CEIL_DEFAULT clips the reserves above it. -/
def State.takeGrbSet (s : State) : State :=
  if s.grn.setWaits then
    let old := s.getLive (.grb .resCfgCeilDefault)
    let s := ({ s with grn := { s.grn with setWaits := false } } : State).commitAll grbFields
    let now := s.getLive (.grb .resCfgCeilDefault)
    let s := if now < old then
        (s.clu.map (·.1)).foldl (fun s c =>
          let s := s.modCl c fun k => { k with ceil := match k.ceil with
            | some v => if v ≥ now then none else some v
            | none => none }
          s.clipReserve c (s.ceilOf c)) s
      else s
    s.grbSettled
  else s

/-- The committed weights take effect, at a control cycle (R188). -/
def State.takeWeights (s : State) : State :=
  if s.grn.weightsWait then
    (({ s with grn := { s.grn with weightsWait := false } } : State).commitRange [.grb .dieWeightWeight] 4).grbSettled
  else s

/-- A GRB commit (R7, R188): a set that passes waits for the next mint, its weights for the next control cycle, BUSY until
then. -/
def State.commitGrb (s : State) : State :=
  let e := s.checkGrb
  let s := s.setF (.grb .commitStatusErr) 0 e
  if e ≠ 0 then s
  else ({ s with grn := { s.grn with setWaits := true, weightsWait := true } } : State).setF (.grb .commitStatusBusy) 0 1

/-- GRB_COMMIT (R188, R475): held while a commit of the block runs. -/
def execGrbCommit (s : State) : Host.Outcome State Fault Refusal :=
  .next <|
    if !s.isOn .aux then s
    else if s.flag (.grb .commitStatusBusy) then
      if s.heldCommits.contains 2 then s else { s with heldCommits := s.heldCommits ++ [2] }
    else s.commitGrb

/-! ### Mints and grants -/

/-- Charge meters to the reserves of clusters of a die (R162). -/
def State.chargeMeters (s : State) (n : Nat) (meters : List (Nat × Nat)) : State :=
  (meters.filter fun m => m.1 / 208 == n).foldl (fun s m =>
    (s.modCl m.1 fun k => { k with reserve := k.reserve - m.2 }).modDie n fun d => { d with spent := d.spent + m.2 }) s

/-- M_n: what a die mints in a period (R161). -/
def DieGrn.mintOf (d : DieGrn) : Nat := d.capUw * grain / 10 ^ 8

/-- L_n for a minted amount (R167). -/
def State.brakeLimit (s : State) (n m : Nat) : Int :=
  if s.flag (.grb .dieDebtRepay) n then (m * 9 / 10 : Nat)
  else if s.flag (.grb .capStatusProtect) then (m : Nat)
  else (m + s.getLive (.grb .excCfgHeadroomW) * grain / 100 : Nat)

/-- The pool after a mint of m, and what lapses (R165): mints add only up to BANK_MAX. -/
def mintPool (pool : Int) (m bank : Nat) : Int × Nat :=
  if pool + m ≤ bank then (pool + m, 0)
  else (max pool bank, (pool + m - max pool bank).toNat)

/-- Debt and repayment at a mint (R168): X_n := max(0, X_n + S_n − M_n). -/
def State.updateDebt (s : State) (n spend minted : Nat) : State :=
  let x := (s.die n).debt + spend - minted
  let s := s.modDie n fun d => { d with debt := x }
  let lim := s.getLive (.grb .excCfgDebtMax) * grain
  if x = 0 then s.setF (.grb .dieDebtRepay) n 0
  else if x ≥ lim ∧ !s.flag (.grb .dieDebtRepay) n then (s.setF (.grb .dieDebtRepay) n 1).grbEvent 2
  else s

/-- MINT (R161 to R168): a committed set takes effect (R188), the meters and the rail charge the period that ends, the debt is
updated, the die mints up to BANK_MAX, the brake's limit is set anew and HOLD ends. -/
def execMint (n : Nat) (meters : List (Nat × Nat)) (rail : Nat) (s : State) : Host.Outcome State Fault Refusal :=
  if !decide (n < 4) || !s.isOn (.core n) then .next s
  else
    let s := s.takeGrbSet.chargeMeters n meters
    let base : Int := rail - (s.die n).spent
    let s := s.updateDebt n rail (s.die n).minted
    let steeping := (s.dieClusters n).filter fun c => s.getF (.clu .statusSteepCause) c == 4
    let s := s.add64 (.grb .dieSteepLoCountLo) (.grb .dieSteepHiCountHi) n steeping.length
    let m := (s.die n).mintOf
    let lim := s.brakeLimit n m
    let (pool, lapse) := mintPool ((s.die n).pool - base) m (s.getLive (.grb .bankMaxGrains) * grain)
    let s := s.modDie n fun d => { d with pool, lapsed := d.lapsed + lapse, minted := m, spent := 0, base, hold := false,
                                          limit := lim }
    let s := (s.dieClusters n).foldl (fun s c => s.modCl c fun k => { k with granted := false }) s
    .next ((s.dieClusters n).foldl (fun s c => s.wakeReserve c) s)

/-- Does a cluster request a grant (R164): its reserve is below half its ceiling, or it steeps with cause 4? A cluster that has
lent its reserve (R151) requests again once it has woken (R166; log entry 28). -/
def State.requests (s : State) (c : Nat) : Bool :=
  let k := s.cl c
  !s.gated c && !s.flag (.clu .statusFaulted) c && !k.granted && !k.lent &&
    (decide (2 * k.reserve < s.ceilOf c) || s.getF (.clu .statusSteepCause) c == 4)

/-- The logical cluster of a die served next: the first requester after the one served last (R164). -/
def State.nextServed (s : State) (n : Nat) : Option (Nat × Nat) :=
  let last := (s.die n).lastServed - 200 * n
  ((List.range 200).map fun i => 200 * n + (last + 1 + i) % 200).findSome? fun l =>
    match s.physOf l with
    | some c => if s.requests c then some (l, c) else none
    | none => none

/-- GRAIN_GRANT (R164): the pool of a die serves one request: up to the ceiling, or what the pool holds. -/
def execGrainGrant (n : Nat) (s : State) : Host.Outcome State Fault Refusal :=
  if !decide (n < 4) || !s.isOn (.core n) || (s.die n).hold || decide ((s.die n).pool ≤ 0) then .next s
  else match s.nextServed n with
    | none => .next s
    | some (l, c) =>
      let amount := min (s.ceilOf c - (s.cl c).reserve) (s.die n).pool
      let amount := max amount 0
      let s := s.modCl c fun k => { k with reserve := k.reserve + amount, granted := true }
      let s := s.modDie n fun d => { d with pool := d.pool - amount, lastServed := l }
      .next (s.wakeReserve c)

/-- BRAKE_HOLD (R167): the meters so far and the base charge of the period before reach the limit: the pool stops granting
and every running cluster of the die steeps with cause 4. -/
def execBrakeHold (n : Nat) (meters : List (Nat × Nat)) (s : State) : Host.Outcome State Fault Refusal :=
  if !decide (n < 4) || !s.isOn (.core n) then .next s
  else
    let s := s.chargeMeters n meters
    let d := s.die n
    if d.hold || decide (d.spent + d.base < d.limit) then .next s
    else
      let s := (s.modDie n fun d => { d with hold := true }).addSat (.grb .dieHoldsCount) n 1
      .next ((s.dieClusters n).foldl (fun s c => if s.fetching c then s.steep c 4 .reserve else s) s)

/-! ### The hot-spot limiter -/

/-- Active clusters of a die, by physical number: those with a logical number that are neither gated nor faulted. -/
def State.activeClusters (s : State) (n : Nat) : List Nat :=
  ((List.range 208).map fun i => 208 * n + i).filter fun c =>
    (s.logicalOf c).isSome && !s.gated c && !s.flag (.clu .statusFaulted) c

/-- The ceiling of a cluster in units of 2^-8 grain. -/
def State.ceil8 (s : State) (c : Nat) : Nat := (s.cl c).ceil.getD (s.getLive (.grb .resCfgCeilDefault))

/-- Set the ceiling of a cluster; a surplus of its reserve returns to the pool at once (R180). -/
def State.setCeil (s : State) (c v : Nat) : State :=
  let dflt := s.getLive (.grb .resCfgCeilDefault)
  (s.modCl c fun k => { k with ceil := if v = dflt then none else some v, ceilAge := 0 }).clipReserve c (256 * v : Nat)

/-- Is a cluster hot now: above T_SET + margin, until it falls a kelvin below (R180)? -/
def hotNow (was : Bool) (t thr : Int) : Bool := if t > thr then true else if t < thr - 16 then false else was

/-- The first of the hottest: clusters with their temperatures, in ascending order of number. -/
def hottest (l : List (Nat × Int)) : Option (Nat × Int) :=
  l.foldl (fun b x => match b with
    | none => some x
    | some y => if x.2 > y.2 then some x else b) none

/-- The hot-spot limiter of a die (R180): it marks its hot clusters, lowers the ceiling of the hottest one above
CEIL_MIN by a quarter, and raises ceilings of cool clusters that have been unchanged for 10 ms. -/
def State.hotSpots (s : State) (n : Nat) (readings : List (Nat × Int)) (sourceMw : List (Nat × Nat)) : State :=
  let s := (s.takeReadings readings).takeSources sourceMw
  let act := s.activeClusters n
  let temps := act.map fun c => (c, s.cluTemp c)
  let thr : Int := s.getF (.grb .dieTsetTset) n + 16 * s.getLive (.grb .hotCfgMarginK)
  let cmin := s.getLive (.grb .resCfgCeilMin)
  let dflt := s.getLive (.grb .resCfgCeilDefault)
  let s := if (s.die n).tsetOn then
      temps.foldl (fun s e => s.modCl e.1 fun k =>
        let h := hotNow k.hot e.2 thr
        { k with hot := h, ceilAge := min (k.ceilAge + 1) 100,
                 hotTicks := if h && decide (k.ceil.getD dflt ≤ cmin) then k.hotTicks + 1 else 0 }) s
    else s
  let hot := temps.filter fun e => (s.cl e.1).hot
  let s : State := match hottest (hot.filter fun e => decide (s.ceil8 e.1 > cmin)) with
    | some (c, _) => s.setCeil c (max cmin (s.ceil8 c * 3 / 4))
    | none => s
  let s := (act.filter fun c => !(s.cl c).hot && decide (s.ceil8 c < dflt) && decide ((s.cl c).ceilAge ≥ 100)).foldl
    (fun s c => s.setCeil c (min dflt (s.ceil8 c + s.ceil8 c / 4 + 1))) s
  let s := s.setF (.grb .dieHotHotCount) n hot.length
  match hottest temps with
  | some (c, t) => (s.setF (.grb .dieHotHottest) n c).setF (.grb .dieHotTemp) n (t.toNat / 16)
  | none => s

/-- Do the hot clusters of a die lower its thermal cap: one hot for 2 ms at CEIL_MIN, or 16 hot at once (R181)? -/
def State.dieTooHot (s : State) (n : Nat) : Bool :=
  let hot := (s.activeClusters n).filter fun c => (s.cl c).hot
  decide (hot.length ≥ 16) || hot.any fun c => decide ((s.cl c).hotTicks ≥ 20)

/-- HOT_SPOT_LIMITER (R180): the limiter of a die runs every 100 µs. -/
def execHotSpotLimiter (n : Nat) (readings : List (Nat × Int)) (sourceMw : List (Nat × Nat)) (s : State) :
    Host.Outcome State Fault Refusal :=
  .next (if n < 4 ∧ s.isOn (.core n) then s.hotSpots n readings sourceMw else s)

/-- DIE_HOT_TIMEOUT (R181): Copper lowers the thermal cap of a die whose clusters are too hot. The spec does not say by how
much: a free value between 25 W and the cap in force. -/
def execDieHotTimeout (n : Nat) (s : State) : Host.Outcome State Fault Refusal :=
  if !decide (n < 4) || !s.isOn (.core n) || !s.dieTooHot n then .next s
  else
    let (v, s) := s.fresh 32
    let cap := (s.die n).thermUw
    let low := 25 * watt + v.toNat % (cap - 25 * watt)
    .next (s.modDie n fun d => { d with hotUw := some low, thermUw := min d.thermUw low })

/-! ### Caps from outside -/

/-- Is the host value outside 700 W to the ceiling (R171)? -/
def State.hostClamped (s : State) : Bool :=
  decide (s.getF (.grb .capHostCapW) < 700 ∨ s.getF (.grb .capHostCapW) > s.ceilingW)

/-- A write of GRB_CAP_HOST (R171). -/
def State.capHost (s : State) (v : Nat) : State :=
  let s := s.setF (.grb .capHostCapW) 0 v
  let s := s.setFlag (.grb .capStatusHostClamped) 0 s.hostClamped
  if s.hostClamped then s.grbEvent 6 else s

/-- CAP_HOST_WRITE (R171): the cap takes effect in the next control cycle (R178). -/
def execCapHostWrite (value : Word) (s : State) : Host.Outcome State Fault Refusal :=
  .next (if s.isOn .aux then s.capHost value.toNat else s)

/-- A rack cap of w watts and SEQ q on port p (R172, R183): it takes the place of the one before it on its port; different values
of the two ports in one control cycle give the lower and a clash; the lease restarts and the answer falls due. -/
def State.rackMessage (s : State) (p w q : Nat) : State :=
  let now := s.grn.rackNow.set p w
  let v := now.foldl (fun v e => min v (s.clampCap e.2)) (s.clampCap w)
  let s := { s with grn := { s.grn with rackNow := now, echoDue := true }, row := { s.row with echoSeq := q } }
  let s := (s.setF (.grb .capRackCapW) 0 v).setF (.grb .capRackReceived) 0 1
  let s := s.setF (.grb .capRackLeaseExpired) 0 0
  if now.any fun e => e.2 != w then s.grbEvent 5 else s

/-- RACK_CAP (R172, R368 to R370): a valid message that is no repeat sets the rack cap. -/
def execRackCap (p : Nat) (frame : RowFrame) (s : State) : Host.Outcome State Fault Refusal :=
  .next (match s.rowHear p frame with
    | (s, true) =>
      if s.forUs frame 0x20 then
        match s.rowAccept p frame (((frame.data.take 8).drop 4).all (· == 0)) with
        | (s, true) => s.rackMessage p (leNat ((frame.data.drop 2).take 2)) (frame.data.getD 1 0).toNat
        | (s, false) => s
      else s
    | (s, false) => s)

/-- A write of GRB_RACK_CFG (R172): while the lease has expired the register shows the new fallback. -/
def State.rackCfg (s : State) (v : Nat) : State :=
  let s := (s.setF (.grb .rackCfgLeaseS) 0 v).setF (.grb .rackCfgFallbackW) 0 (bits v 31 16)
  if s.flag (.grb .capRackLeaseExpired) then s.setF (.grb .capRackCapW) 0 s.rackCapW else s

/-- RACK_CFG_WRITE (R172). -/
def execRackCfgWrite (value : Word) (s : State) : Host.Outcome State Fault Refusal :=
  .next (if s.isOn .aux then s.rackCfg value.toNat else s)

/-- RACK_LEASE_EXPIRY (R172): LEASE_S seconds without a rack-cap message. -/
def execRackLeaseExpiry (s : State) : Host.Outcome State Fault Refusal :=
  if s.getF (.grb .rackCfgLeaseS) = 0 ∨ s.flag (.grb .capRackLeaseExpired) then .next s
  else
    let s := s.setF (.grb .capRackLeaseExpired) 0 1
    let s := s.setF (.grb .capRackCapW) 0 s.rackCapW
    .next (s.grbEvent 4)

/-! ### Protection falls through the ports of R178 and R256 -/

/-- A Kiln beside its registers. -/
def Kln.kiln (k : Kln) : Kiln → KilnState
  | .ka => k.ka
  | .kb => k.kb

/-- PROTECTION_FALL (R178 steps 2 to 5, R256): a Kiln writes protective caps, the holder of ACT_OWN through its own port,
the other through the lower-only port, which then waits for confirmation. -/
def execProtectionFall (k : Kiln) (capW : Nat) (dieW : List Nat) (s : State) : Host.Outcome State Fault Refusal :=
  if !s.isOn .aux || !(s.kln.kiln k).up then .next s
  else
    let dies := dieW.map fun w => max 25 w * watt
    if s.active = some k then .next (s.protFall 5 (max 700 capW * watt) dies)
    else
      let s := { s with kln := { s.kln with unconfirmed := if s.active.isSome then some k else s.kln.unconfirmed } }
      .next (s.protFall 4 (max 700 capW * watt) dies)

/-- DIE_CAP_STALE (R184): 10 s without an update of a die's cap, while no Kiln writes caps: the lower of the cap and
175 W. -/
def execDieCapStale (n : Nat) (s : State) : Host.Outcome State Fault Refusal :=
  .next (if s.active.isNone && s.isOn (.core n) then s.modDie n fun d => { d with capUw := min d.capUw (175 * watt) }
    else s)

/-- CAP_STATUS_PERIODIC (R183): CAP_STATUS on both ports, once per second. -/
def execCapStatusPeriodic (s : State) : Host.Outcome State Fault Refusal :=
  .next (if s.active.isSome then
    let s := (s.sendCapStatus false).served 3
    { s with grn := { s.grn with sentUw := s.grn.appliedUw } }
  else s)

end Sys2Proof.Machine
end

