-- ==== Sys2Proof/Machine/PowerOps.lean ====
section
/-!
DEFINITION. Power domains going on and off with what they hold (R20, R157, R474, R476, R477, R478), the module state, and
the phases that stop work: drain, quiesce, park (R22, R95).
-/

namespace Sys2Proof.Machine

/-! ### The domain that holds a register -/

/-- The domain of a register by its key: fieldDomain on keys (R476). -/
def keyDomain (key : Nat) : Domain :=
  let c := key % 8192
  let i := key / 8192
  let within := fun (a b : Fld) => decide (a.code ≤ c ∧ c ≤ b.code)
  match c / 256 with
  | 1 =>
    if within (.grb .dieCapAppliedW) (.grb .dieHoldsCount) then .core i
    else if within (.grb .cluResReserve) (.grb .cluCeilThrottled) then .core (i / 208) else .aux
  | 2 => if within (.stg .gateCfgEnable) (.stg .gateWaitRemoteRej) && decide (i < 0x4000) then .core (i / 0x1000) else .iod
  | 3 => .iod
  | 4 =>
    if c ≥ (Fld.mem .gVersion).code then .iod
    else if c = (Fld.mem .chMapPch).code then .core (i / 128 / 5)
    else if c > (Fld.mem .chMapPch).code then .core (i / 132 / 5) else .core (i / 5)
  | 5 => if c ≥ (Fld.mil .groupsLoCountLo).code then .core (i / 5) else .iod
  | 6 => .iod
  | 7 => .iod
  | 8 => .iod
  | 16 => .core (i / 208)
  | _ => .aux

/-- The registers of a domain fall to their reset values (R474). -/
def State.clearRegs (s : State) (d : Domain) : State :=
  { s with regs := s.regs.filter fun e => decide (keyDomain e.1 ≠ d),
           live := s.live.filter fun e => decide (keyDomain e.1 ≠ d) }

/-! ### Clusters -/

/-- A cluster leaves every queue of the module: claims, gates, credits, packets; its credits go back (R82, R203). The remote
signals that it has sent, and those still held in its port, stay (R154, R155). -/
def State.forgetCluster (s : State) (c : Nat) : State :=
  let k := s.cl c
  let s := s.leaveWaits c
  let s := { s with
    mem := { s.mem with chanQ := s.mem.chanQ.mapVals [] fun q => q.filter fun x => x ≠ c },
    ixf := { s.ixf with
      linkQ := s.ixf.linkQ.mapVals [] fun q => q.filter fun x => x ≠ c,
      reqs := s.ixf.reqs.filter fun r => r.cluster ≠ c ∨ r.kind ≥ 2 },
    gates := { s.gates with queues := s.gates.queues.mapVals [] fun q => q.filter fun x => x ≠ c } }
  let s := s.returnChans k.chanUse
  let s := k.chanHeld.foldl (fun s e => (List.range e.2).foldl (fun s _ => s.returnChan e.1) s) s
  k.linkHeld.foldl (fun s e => s.returnLinks e.1 e.2) s

/-- The completions that wait for a cluster's engine no longer do: the engine is gone (R78, R93). -/
def State.freeCompletions (s : State) (c : Nat) : State :=
  let free := fun (e : Completion) => if e.phys = some c then { e with phys := none } else e
  { s with wiq := { s.wiq with completions := s.wiq.completions.map free } }

/-- Gate a cluster: it leaves every queue, and every completion that it owes still has its record (R93, R478). -/
def State.gateCluster (s : State) (c : Nat) (keepStore : Bool) : State :=
  ((s.forgetCluster c).freeCompletions c).closeGate c keepStore

/-- Take a cluster out of its gate, with the registers of reset, fetching at address 0 or halted (R440, R478). -/
def State.ungateCluster (s : State) (c : Nat) (run : Bool) : State :=
  let s := (s.clearClu c).setF (.clu .statusGated) c 0
  if run then s.setF (.clu .statusRunning) c 1 else s.setF (.clu .ctrlHalt) c 1

/-- The physical clusters of a die. -/
def dieRange (n : Nat) : List Nat := (List.range 208).map fun i => 208 * n + i

/-! ### Domains off -/

/-- An OPT domain goes off: its port is DOWN (R190). -/
def State.optOff (s : State) (k : Nat) : State :=
  if s.isOn (.opt k) then
    (if s.getF (.ixf .portStatusState) k = 4 then s else s.portLeave k 0).turnOff (.opt k)
  else s

/-- Does a piece of a transfer have bursts on the stacks of a die? -/
def Piece.onDie (p : Piece) (n : Nat) : Bool := p.channels.any fun key => key / 640 == n

/-- The bursts of a transfer on the stacks of a die come to nothing: it ends with MEM_ERROR (R477). -/
def State.loseBursts (s : State) (n c : Nat) : State :=
  (List.range (s.cl c).dmas.length).foldl (fun s j =>
    match (s.cl c).dmas[j]? with
    | none => s
    | some d =>
      let lost := d.pieces.filter (·.onDie n)
      if lost.isEmpty then s
      else
        let s := s.modDma c j fun d => { d with pieces := d.pieces.filter fun p => !p.onDie n }
        (lost.foldl (fun s p => s.returnChans p.channels) s).failDma c j 5) s

/-- The tokens that a cluster holds are lost and leave no record; an abort that waits for its record ends without it (R95; log
entry 168). -/
def State.loseTokens (s : State) (c : Nat) : State :=
  let s := { s with wiq := { s.wiq with completions := s.wiq.completions.filter fun e => e.phys ≠ some c } }
  match (s.cl c).abort with
  | some _ =>
    let s := s.modCl c fun k => { k with tokens := [], abort := none, pc := 0, sregs := [] }
    if s.flag (.clu .statusFaulted) c then s else s.setFlag (.clu .statusRunning) c (!s.flag (.clu .ctrlHalt) c)
  | none => s.modCl c fun k => { k with tokens := [] }

/-- The MEM domain of a die goes off: the contents of its stacks are lost with the bursts in flight, copies and triggers end,
and the tokens of the die's clusters leave no record (R20, R95, R121, R477). -/
def State.memOff (s : State) (n : Nat) : State :=
  if s.isOn (.mem n) then
    let s := (s.loseStacks fun k => k / 5 == n).turnOff (.mem n)
    let s := { s with mem := { s.mem with
      copies := s.mem.copies.filter fun e => e.1 / 5 ≠ n, triggers := s.mem.triggers.filter fun e => e.1 / 5 ≠ n,
      selfRefresh := s.mem.selfRefresh.filter fun c => c / 640 ≠ n } }
    let s := (s.clu.map (·.1)).foldl (fun s c => s.loseBursts n c) s
    let s := (s.dieClusters n).foldl (fun s c => s.loseTokens c) s
    (List.range 5).foldl (fun s i =>
      let k := 5 * n + i
      let s := s.showStart k
      if s.getF (.mem .statusState) k = 4 then s
      else (s.setF (.mem .statusState) k 0).setF (.mem .statusSparing) k 0) s
  else s

/-- The CORE domain of a die goes off, and its MEM first: clusters, die gates, grain pools and registers are lost, tokens
leave no record (R20, R95, R157, R476). -/
def State.coreOff (s : State) (n : Nat) : State :=
  let s := s.memOff n
  if s.isOn (.core n) then
    let s := (s.turnOff (.core n)).stopSlices fun c => c / 208 == n
    let s := (s.dieClusters n).foldl (fun s c => s.forgetCluster c) s
    let s := (dieRange n).foldl (fun s c => s.modCl c fun k => renewCluster k false) s
    let s := { s with
      wiq := { s.wiq with completions := s.wiq.completions.filter fun e => e.phys.all fun c => c / 208 ≠ n },
      gates := { queues := s.gates.queues.filter fun e => !(decide (e.1 < 0x4000) && e.1 / 0x1000 == n),
                 cascade := s.gates.cascade.filter fun g => !(decide (g < 0x4000) && g / 0x1000 == n) },
      grn := { s.grn with dies := s.grn.dies.erase n, stackCuts := s.grn.stackCuts.filter fun e => e.1 / 5 ≠ n } }
    (s.clearRegs (.core n)).clearBit (.kln .dieHbAlive) 0 n
  else s

/-- OPT, MEM and CORE go off, in this order (R20, R28 step 3, R301 step 5). -/
def State.computeOff (s : State) : State :=
  let s := (List.range 12).foldl (fun s k => s.optOff (11 - k)) s
  let s := [3, 2, 1, 0].foldl (fun s n => s.memOff n) s
  [3, 2, 1, 0].foldl (fun s n => s.coreOff n) s

/-- IOD goes off, and what depends on it first: the links, the work-issue block, module-wide gates and the registers of
its blocks are lost (R20, R157, R476). What has left on a link, events that are held and the extents that the Kiln keeps
stay. -/
def State.iodOff (s : State) : State :=
  let s := s.computeOff
  if s.isOn .iod then
    let s := { s with
      wiq := wiqInit,
      gates := { queues := [], cascade := [] },
      lnk := { lnkInit with out := s.lnk.out, wire := s.lnk.wire },
      ixf := { ixfInit with nextTag := s.ixf.nextTag },
      ptn := { ptnInit with sumSeq := s.ptn.sumSeq },
      thl := { s.thl with hmem := [], held := [], holdoff := [], irqWaiting := [], locked := [], mbxRun := false,
                          config := none, mbxResult := none, mbxCommitted := false, trainBackoff := 0 },
      heldWrites := s.heldWrites.filter fun w => !(3 ≤ w.1 && w.1 ≤ 10),
      heldCommits := s.heldCommits.filter fun b => !(3 ≤ b && b ≤ 10) }
    let s := ((s.turnOff .iod).clearRegs .iod).clearBit (.kln .dieHbAlive) 0 4
    { s with power := { s.power with
      draining := false, parkPlanned := false, parkQuiesce := false, parked := false, parkedPorts := [] } }
  else s

/-- A domain goes off with every domain that depends on it, dependants first (R20). -/
def State.domainOff (s : State) (d : Domain) : State :=
  match d with
  | .opt k => s.optOff k
  | .mem n => s.memOff n
  | .core n => s.coreOff n
  | .iod => s.iodOff
  | .aux => s.iodOff

/-! ### Domains on -/

/-- The records of a stack applied at CORE power-up and before training: each channel spared stays spared (R120,
R130). -/
def State.applySpares (s : State) (k : Nat) : State :=
  let s := (s.sec.repairs.filter fun r => r.rtype == 1 && r.unit == k).foldl (fun s r =>
    (s.setF (.mem .chMapPch) (128 * k + bits r.word1 6 0) (bits r.word1 23 16)).setF (.mem .chCeSparedOut)
      (132 * k + bits r.word1 15 8) 1) s
  s.setF (.mem .statusSparesLeft) k (s.freeSpares k).length

/-- The CORE domain of a die goes on: the clusters of the spare map run with the registers of reset and no program yet,
the spares and the failed ones are gated, and its stacks show their repair records and whether they have failed (R15, R16,
R20, R130, R166, R439). -/
def State.coreOn (s : State) (n : Nat) : State :=
  if s.isOn .iod && !s.isOn (.core n) && !s.dieFailed n then
    let s := (s.turnOn (.core n)).setBit (.kln .dieHbAlive) 0 n
    let s := (List.range 5).foldl (fun s i =>
      let s := s.applySpares (5 * n + i)
      if (s.getF (.mem .failedFailed)).testBit (5 * n + i) then s.setF (.mem .statusState) (5 * n + i) 4 else s) s
    (dieRange n).foldl (fun s c =>
      if (s.logicalOf c).isSome && !(s.cl c).failed then s.setF (.clu .statusGated) c 0 else s) s
  else s

/-- The MEM domain of a die goes on: its stacks train, but for those that have failed, and every block of the enabled mirrored
regions is dirty (R20, R104, R121, R222). -/
def State.memOn (s : State) (n : Nat) : State :=
  if s.isOn (.core n) && !s.isOn (.mem n) then
    let s := (List.range 5).foldl (fun s i =>
      let k := 5 * n + i
      s.setF (.mem .statusState) k (if (s.getF (.mem .failedFailed)).testBit k then 4 else 1)) (s.turnOn (.mem n))
    ((List.range 8).filter s.mirOn).foldl (fun s r => s.allDirty r) s
  else s

/-- An OPT domain goes on, and its enabled port trains (R20, R194). -/
def State.optOn (s : State) (k : Nat) : State :=
  if s.isOn .iod && !s.isOn (.opt k) && !s.flag (.ixf .portCtrlPark) k then
    (s.turnOn (.opt k)).setF (.ixf .portStatusState) k (if s.flag (.ixf .portCtrlEnable) k then s.trainState else 0)
  else s

/-! ### The module state -/

/-- Settle STATE of R225 after a change of the phases: FAILED, STARTING and REMOVING stay. A module whose quiesce has been
lifted stays QUIESCED until RESUME, as CLAIM_STOP does (R22). -/
def State.settle (s : State) : State :=
  match s.power.modState with
  | .failed => s
  | .starting => s
  | .removing => s
  | old =>
    let st : ModState :=
      if s.getF (.mod .removeRequest) ≠ 0 then (if old = .draining then .draining else .removing)
      else if !s.power.quiesce.isEmpty || (s.power.modState == .quiesced && s.flag (.wiq .ctrlClaimStop)) then .quiesced
      else if s.power.parked then .parked
      else if s.power.draining || (s.power.modState == .draining && s.flag (.wiq .ctrlClaimStop)) then .draining
      else .running
    { s with power := { s.power with modState := st } }

/-- Set STATE. -/
def State.setModState (s : State) (st : ModState) : State := { s with power := { s.power with modState := st } }

/-- Every prefetched token ends with ABORTED_QUIESCE; the current ones stay (R95). -/
def State.endAllPrefetched (s : State) : State :=
  (s.clu.map (·.1)).foldl (fun s c =>
    let s := ((s.cl c).tokens.drop 1).foldl (fun s t => s.complete c t 6 false) s
    s.modCl c fun k => { k with tokens := k.tokens.take 1 }) s

/-- Start a drain (R95): CLAIM_STOP, prefetched tokens ended, and the limit in ms; below 10 it is taken as 10 (R252). -/
def State.startDrain (s : State) (limitMs : Nat) : State :=
  let s := s.claimStop.endAllPrefetched
  let s := { s with power := { s.power with draining := true, drainMs := max 10 limitMs } }
  if s.power.modState = .running ∨ s.power.modState = .draining then s.setModState .draining else s.settle

/-- The drain limit of THL_DRAIN (R252). -/
def State.drainLimit (s : State) : Nat := s.getF (.thl .drainLimitMs)

/-- End every held token with ABORTED_QUIESCE (R95): the prefetched ones, then the current ones through the abort. -/
def State.abortHeld (s : State) : State :=
  let s := s.endAllPrefetched
  (s.clu.map (·.1)).foldl (fun s c => if (s.cl c).tokens.isEmpty then s else s.abortCluster c 6) s

/-- The event QUIESCED (R249, R272): with the interlock in NONE the THL writes it, and the record is made by the next holder
(R407). -/
def State.postQuiesced (s : State) (cause : Nat) : State :=
  if s.active.isSome then s.postMod 0x04 cause
  else
    let s : State := { s with cask := { s.cask with owed := s.cask.owed ++ [⟨9, 4, 2, cause, false, 6⟩] } }
    s.hostEvent ⟨9, 4, 2, cause⟩

/-- Quiesce for a cause (R95, R218, R249): CLAIM_STOP, tokens ended at once, running collectives ended with ABORTED, the
event QUIESCED once for each cause; causes other than 2 also park (R298, R301, R307). -/
def State.quiesceNow (s : State) (cause : Nat) : State :=
  let new := !s.power.quiesce.contains cause
  let s := (if s.isOn .iod then s.claimStop else s).abortHeld
  let s := { s with power := { s.power with
    quiesce := if new then s.power.quiesce ++ [cause] else s.power.quiesce, draining := false,
    parkQuiesce := s.power.parkQuiesce || (cause != 2 && !s.power.parked), parkPlanned := false } }
  let s := (s.ixf.colls.map (·.1)).foldl (fun s ch => s.collFinish ch 9) s
  (if new then s.postQuiesced cause else s).settle

/-- A quiesce cause is lifted; CLAIM_STOP stays until RESUME (R22, R302). -/
def State.liftQuiesce (s : State) (cause : Nat) : State :=
  ({ s with power := { s.power with quiesce := s.power.quiesce.filter fun c => c ≠ cause } } : State).settle

/-- Is the module parked, or on its way there (R244)? -/
def State.parking (s : State) : Bool := s.power.parked || s.power.draining || s.power.parkPlanned || s.power.parkQuiesce

/-- May a cluster be gated for a park: no token, no unretired descriptor, no tensor block or spill; the first two logical
clusters of each die stay powered (R22, R478)? -/
def State.parkGates (s : State) (c : Nat) : Bool :=
  let k := s.cl c
  s.isOn (.core (c / 208)) && !s.gated c && k.tokens.isEmpty && k.dmas.isEmpty && !k.tensorBusy &&
    (match s.logicalOf c with
    | some l => decide (2 ≤ l % 200)
    | none => false)

/-- Every cluster that a park gates is gated, its store in retention (R478). -/
def State.parkClusters (s : State) : State :=
  (List.range 832).foldl (fun s c =>
    if s.parkGates c then (s.gateCluster c true).modCl c fun k => { k with parkGated := true } else s) s

/-- Every port is parked with its OPT domain, as a write of PARK would do (R22, R228). -/
def State.parkPorts (s : State) : State :=
  let l := (List.range 12).filter fun k => s.isOn (.opt k) && !s.flag (.ixf .portCtrlPark) k
  let s := l.foldl (fun s k => s.portPark k 1) s
  { s with power := { s.power with parkedPorts := l } }

/-- The ports that the Kiln has parked come back, but for those that a write of PARK has brought back before (log entry 170). -/
def State.unparkPorts (s : State) : State :=
  let l := s.power.parkedPorts.filter fun k => s.isOn .iod && s.flag (.ixf .portCtrlPark) k
  l.foldl (fun s k => s.portPark k 0) { s with power := { s.power with parkedPorts := [] } }

/-- The module is parked: the event PARKED; a planned park ends its drain, and claims are taken again (R22). -/
def State.showParked (s : State) : State :=
  let planned := s.power.parkPlanned && s.power.quiesce.isEmpty
  let s := { s with power := { s.power with parked := true, parkPlanned := false, parkQuiesce := false } }
  let s := s.postMod 0x02 0
  if planned then s.setF (.wiq .ctrlClaimStop) 0 0 else s

/-- Park the module (R22, R115, R190, R478). -/
def State.enterPark (s : State) : State :=
  (((s.stopSlices fun _ => true).parkClusters).parkPorts).showParked.settle

/-- Bring the module out of the park (R115, R244, R478). -/
def State.leavePark (s : State) : State :=
  let s := { s with power := { s.power with parked := false } }
  let s := s.mem.selfRefresh.foldl (fun s c => s.srExit c) s
  let s := s.unparkPorts
  let s := (s.clu.map (·.1)).foldl (fun s c =>
    if (s.cl c).parkGated then (s.ungateCluster c true).modCl c fun k => { k with parkGated := false } else s) s
  (s.postMod 0x03 0).settle

/-! ### Absent clusters -/

/-- Set or clear the KLN_ABSENT bit of a logical cluster (R449). -/
def State.setAbsent (s : State) (l : Nat) (on : Bool) : State :=
  if on then s.setBit (.kln .absentAbsent) (l / 32) (l % 32) else s.clearBit (.kln .absentAbsent) (l / 32) (l % 32)

/-- Is a logical cluster absent? -/
def State.isAbsent (s : State) (l : Nat) : Bool := (s.getF (.kln .absentAbsent) (l / 32)).testBit (l % 32)

/-- An event of SOURCE 0x0D (R448). -/
def State.degEvent (s : State) (code severity data : Nat) : State := s.post 0x0D code severity data

/-- A function of the table of R445 is refused or lost while the NOR has failed: NOR_DEGRADED names the first one since AUX
power-up. -/
def State.norRefuse (s : State) (row : Nat) : State :=
  if s.sec.norRefused then s else ({ s with sec := { s.sec with norRefused := true } } : State).degEvent 3 2 row

/-! ### A die fails -/

/-- A compute die fails (R275): clusters halted, each held token ended with ABORTED_FAULT, MEM and CORE removed, its stacks
FAILED with cause SUPPLY, its logical clusters absent, the event DIE_FAILED. The records of its tokens are written if the
mesh of the die still answers; otherwise the host treats them as LOST. -/
def State.failDie (s : State) (n cause : Nat) (mesh : Bool) : State :=
  if s.dieFailed n then s
  else
    let s := (s.setBit (.kln .dieHbFailed) 0 n).setF (.kln .dieErrFailCause) n cause
    let ends := (s.dieClusters n).flatMap fun c => (s.cl c).tokens.take 1 |>.map fun t => (c, t)
    let back := (s.dieClusters n).flatMap fun c => (s.cl c).tokens.drop 1
    let logical := fun c => (s.logicalOf c).getD 0xFFFF
    let names := ends.map fun e => (e.2, logical e.1)
    let s := s.coreOff n
    let s := if mesh then
        let s := back.foldl (fun s t => s.returnToken t) s
        names.foldl (fun s e =>
          let rec0 : Completion := ⟨e.1.ring, e.1.seq, 2, e.2, e.1.tag, e.1.irq, e.1.gate, none, 0, false⟩
          { s with wiq := { s.wiq with completions := s.wiq.completions ++ [rec0] } }) s
      else s
    let s := (List.range 5).foldl (fun s i => s.stackFail (5 * n + i) 3) s
    let s := (List.range 200).foldl (fun s i => s.setAbsent (200 * n + i) true) s
    let s := s.clearBit (.kln .dieHbAlive) 0 n
    s.post 6 0x09 2 (n + 16 * cause)

end Sys2Proof.Machine
end

