-- ==== Sys2Proof/Machine/Drive.lean ====
section
/-!
DEFINITION. The drive stage (R341 to R361): the codes and speeds in force by rank (R345), pull-in requests and their
serialisation, the coil duty window, valve, switch and pump faults, the hold timer and the safe table.
-/

namespace Sys2Proof

open Machine

/-! ### The command frame (R342) -/

/-- The code of a coil that is off: fully open. -/
def Machine.openCode : Nat := 0x7FFF

/-- Bytes 0 to 27 of a command frame (R342). -/
def DriveFrame.head (f : DriveFrame) : List Byte :=
  leBytes 1 f.ver ++ leBytes 1 (f.pumpEn % 4 + 4 * (f.retry % 4) + 16 * (f.rsv % 16)) ++ leBytes 2 f.seq ++
    ((List.range 8).map fun v => leBytes 2 (f.valves.getD v openCode)).flatten ++
    leBytes 2 f.rpm ++ leBytes 6 (f.rsv / 16)

/-- A frame with its CRC (R342). -/
def DriveFrame.seal (f : DriveFrame) : DriveFrame := { f with crc := crc32c f.head }

/-- Are the version, the reserved fields and the CRC of a frame right (R342)? -/
def DriveFrame.sound (f : DriveFrame) : Bool := f.ver == 1 && f.rsv == 0 && f.crc == crc32c f.head

end Sys2Proof

namespace Sys2Proof.Machine

/-- An event of SOURCE 0x0A (R358). With the interlock in NONE it is owed until a Kiln claims ACT_OWN. -/
def State.drvEvent (s : State) (code severity data : Nat) : State := s.post 0x0A code severity data

/-- The zone factors formed afresh by the active Kiln (R351); without one they wait for the next Kiln. -/
def State.kilnRefactor (s : State) : State := if s.active.isSome then s.refactor else s

/-! ### Valves -/

/-- Is rank 2 of R345 in force? -/
def State.driveHot (s : State) : Bool := s.flag (.drv .statusHotN)

/-- Is the safe table in force (R344)? -/
def State.driveSafe (s : State) : Bool := s.getF (.drv .statusMode) == 2

/-- The code in force of a valve by the ranks of R345. -/
def State.valveWant (s : State) (v : Nat) : Nat :=
  if s.getF (.drv .valveStatusState) v = 4 ∨ (s.getF (.drv .chFaultFault)).testBit v ∨
      (s.getF (.drv .swStatusTrip)).testBit (v / 2) ∨ s.drive.faulted.contains v ∨ s.driveHot ∨ s.driveSafe then openCode
  else s.drive.codes.getD v openCode

/-- The valve that shares a valve's switch (R23). -/
def partnerValve (v : Nat) : Nat := if v % 2 = 0 then v + 1 else v - 1

/-- The hold current of a code in 10 mA (R341). -/
def holdCurrent (code : Nat) : Nat :=
  let c := signed 16 code
  if c ≤ 0 then 70 else (70 * 32767 - 45 * c.toNat + 16383) / 32767

/-- The hold current of a valve in 10 mA, capped at 4.4 W where the duty window says so (R349). -/
def State.valveCurrent (s : State) (v : Nat) : Nat :=
  let i := holdCurrent (s.getF (.drv .valveStatusCode) v)
  if s.drive.capped.contains v ∧ s.getF (.drv .valveResRes) v ≠ 0 then
    min i (isqrt (4400000 / s.getF (.drv .valveResRes) v))
  else i

/-- Queue of a switch. -/
def State.switchQueue (s : State) (k : Nat) : List Nat := s.drive.queues.getD k []

/-- Put the queue of a switch back. -/
def State.setSwitchQueue (s : State) (k : Nat) (q : List Nat) : State :=
  { s with drive := { s.drive with queues := s.drive.queues.put k q [] } }

/-- A request leaves the books: it has started or has been withdrawn. -/
def State.uncount (s : State) (v : Nat) : State :=
  { s with drive := { s.drive with counted := s.drive.counted.filter fun x => x ≠ v ∧ x ≠ v + 8 } }

/-- DUTY_LIMITED (R360): the cap of R349 is in force, or a request has been refused. -/
def State.dutyLimited (s : State) (v : Nat) : State :=
  s.setFlag (.drv .valveStatusDutyLimited) v (s.drive.capped.contains v || s.drive.counted.contains (v + 8))

/-- A coil goes off: a waiting request is withdrawn; a coil that was driven starts its off-time (R346). -/
def State.coilOff (s : State) (v : Nat) : State :=
  match s.getF (.drv .valveStatusState) v with
  | 1 =>
    let s := (s.setSwitchQueue (v / 2) ((s.switchQueue (v / 2)).filter fun x => x ≠ v)).uncount v
    (s.setF (.drv .valveStatusState) v 0).dutyLimited v
  | 2 | 3 =>
    let s := { s with drive := { s.drive with offMs := s.drive.offMs.set v 20 } }
    ((s.setF (.drv .valveStatusState) v 0).setF (.drv .valveStatusOfftime) v 1).setF (.drv .valveStatusCurrent) v 0
  | _ => s

/-- Request a pull-in on the switch of a valve (R346 step 1). It is delayed if another request or pull-in of the switch or
the off-time stands before it (R347). -/
def State.requestPullin (s : State) (v : Nat) : State :=
  let q := s.switchQueue (v / 2)
  let waits := !q.isEmpty || s.getF (.drv .valveStatusState) (partnerValve v) == 2 ||
    s.flag (.drv .valveStatusOfftime) v
  let s := (s.setSwitchQueue (v / 2) (q ++ [v])).setF (.drv .valveStatusState) v 1
  if waits then
    let s := (s.addSat (.drv .valveCountDelayed) v 1).addSat (.drv .pullinWaitsCount) 0 1
    { s with drive := { s.drive with counted := s.drive.counted ++ [v] } }
  else s

/-- Bring the code in force to a valve (R345, R346). -/
def State.applyValve (s : State) (v : Nat) : State :=
  let w := s.valveWant v
  let s := s.setF (.drv .valveStatusCode) v w
  if w = openCode then s.coilOff v
  else
    match s.getF (.drv .valveStatusState) v with
    | 0 => s.requestPullin v
    | 3 => s.setF (.drv .valveStatusCurrent) v (s.valveCurrent v)
    | _ => s

/-! ### Pumps -/

/-- The speed in force of a pump by the ranks of R345, with the limits of R353. -/
def State.pumpWant (s : State) (p : Nat) : Nat :=
  if s.getF (.drv .pumpStatusState) p = 4 ∨ !s.flag (.drv .pumpCtrlEnable) p then 0
  else if (s.getF (.drv .chFaultFault)).testBit (8 + p) then 7200
  else if s.driveHot then 9000
  else if s.driveSafe then 7200
  else if s.drive.pumpEn.testBit p ∧ s.drive.rpm ≠ 0 then min 9000 (max s.drive.rpm (s.getF (.drv .cfgMinRpm)))
  else 0

/-- Bring the speed in force to a pump: a stopped pump starts its kick, a speed of 0 stops it (R353, R354). A disabled pump
stays stopped (R356). -/
def State.applyPump (s : State) (p : Nat) : State :=
  let w := s.pumpWant p
  let s := s.setF (.drv .pumpCmdRpm) p w
  let st := s.getF (.drv .pumpStatusState) p
  if st = 4 then s
  else if !s.flag (.drv .pumpCtrlEnable) p then s.setF (.drv .pumpStatusState) p 5
  else if w = 0 then s.setF (.drv .pumpStatusState) p 0
  else if st = 0 ∨ st = 5 then s.setF (.drv .pumpStatusState) p 1
  else s

/-- Bring every command in force to its channel; requests of the same cycle in ascending valve number (R346). -/
def State.applyDrive (s : State) : State :=
  ((List.range 8).foldl (fun s v => s.applyValve v) s |>.applyPump 0).applyPump 1

/-- A kick failed or a running pump stalled: the pump waits to retry, or after the first kick and three retries becomes
FAILED (R354, R355, R358). -/
def State.kickFail (s : State) (p : Nat) : State :=
  let n := s.getF (.drv .pumpStatusKicksFailed) p + 1
  let s := (s.addSat (.drv .pumpCountFails) p 1).setF (.drv .pumpStatusKicksFailed) p (min n 4)
  let s := (s.setF (.drv .pumpStatusSpeed) p 0).drvEvent 1 1 (p + 2 * min n 4)
  if n ≥ 4 then
    let both := s.getF (.drv .pumpStatusState) (1 - p) == 4
    let s := (s.setF (.drv .pumpStatusState) p 4).setF (.drv .pumpCmdRpm) p 0
    s.drvEvent 2 (if both then 2 else 1) (p + 2 * both.toNat)
  else s.setF (.drv .pumpStatusState) p 3

/-! ### Frames -/

/-- The drive stage latches an accepted frame (R342, R344, R356): the hold timer starts again, the safe table ends, RETRY
clears FAILED. -/
def State.latchFrame (s : State) (f : DriveFrame) : State :=
  let s := { s with drive := { s.drive with codes := f.valves, rpm := f.rpm, pumpEn := f.pumpEn, framed := true } }
  let s := (s.setF (.drv .statusMode) 0 0).setF (.drv .statusCmdAgeMs) 0 0
  let s := [0, 1].foldl (fun s p =>
    if f.retry.testBit p then
      let s := s.setF (.drv .pumpCtrlRetry) p 0
      if s.getF (.drv .pumpStatusState) p = 4 then
        (s.setF (.drv .pumpStatusKicksFailed) p 0).setF (.drv .pumpStatusState) p 0
      else s
    else s) s
  s.applyDrive

/-- The frame of the active Kiln: the codes and the speed given, the pumps enabled, RETRY as requested through
DRV_PUMP_CTRL (R342, R361). -/
def State.makeFrame (s : State) (valves : List Nat) (rpm pumpEn : Nat) : DriveFrame :=
  DriveFrame.seal
    { ver := 1, pumpEn, retry := s.getF (.drv .pumpCtrlRetry) 0 + 2 * s.getF (.drv .pumpCtrlRetry) 1,
      seq := s.cop.seq % 65536, valves, rpm, rsv := 0, crc := 0 }

/-- The active Kiln sends a frame. -/
def State.sendFrame (s : State) (f : DriveFrame) : State :=
  { s with cop := { s.cop with sent := some f, seq := (s.cop.seq + 1) % 65536 } }

/-- The active Kiln commands the drive stage at once, ahead of the output phase (R313): the frame is sent and latched. -/
def State.commandDrive (s : State) (valves : List Nat) (rpm pumpEn : Nat) : State :=
  if s.active.isSome then
    let f := s.makeFrame valves rpm pumpEn
    (s.sendFrame f).latchFrame f
  else s

/-- Valve codes and speed that Copper's last frame gave, as far as it gave any. -/
def State.lastCodes (s : State) : List Nat := match s.cop.sent with
  | some f => f.valves
  | none => List.replicate 8 openCode

/-- A command to the drive stage from a Kiln that does not hold ACT_OWN is discarded and counted (R255). -/
def State.rejectCommand (s : State) : State :=
  let s := s.addSat (.kln .ownerRejected) 0 1
  s.post 6 0x0B 1 (s.getF (.kln .ownerRejected))

/-! ### The commands -/

/-- DRIVE_COMMAND_FRAME (R255, R342). -/
def execDriveCommandFrame (k : Kiln) (f : DriveFrame) (s : State) : Host.Outcome State Fault Refusal :=
  .next (if !s.isOn .aux then s
    else if s.kln.owner ≠ some k then s.rejectCommand
    else if f.sound then s.latchFrame f
    else s.addSat (.drv .statusBadFrames) 0 1)

/-- Channels on which an echo differs from the frame sent: 0 to 7 the valves, 8 and 9 the pumps (R342). -/
def frameDiff (a b : DriveFrame) : List Nat :=
  ((List.range 8).filter fun v => a.valves.getD v openCode != b.valves.getD v openCode) ++
    ([0, 1].filter fun p => a.rpm != b.rpm || a.pumpEn.testBit p != b.pumpEn.testBit p ||
      a.retry.testBit p != b.retry.testBit p).map (8 + ·)

/-- A channel is named faulty (R263, R343): its bit, the fault of a valve, the event, the fixed value. -/
def State.channelFault (s : State) (ch : Nat) : State :=
  let s := s.setBit (.drv .chFaultFault) 0 ch
  let s := if ch < 8 then s.setF (.drv .valveResFault) ch 4 else s
  (s.drvEvent 9 1 ch).applyDrive

/-- DRIVE_ECHO (R262, R263, R342, R343): the active Kiln compares the echo with its frame. A mismatch on a channel for which
the Kiln before it released makes the channel faulty; any other counts for the check DRIVE_RB. -/
def execDriveEcho (f : DriveFrame) (s : State) : Host.Outcome State Fault Refusal :=
  .next (match s.active, s.cop.sent with
    | some _, some c =>
      if c.seq = f.seq then
        let bad := (frameDiff c f).filter fun ch => !(s.getF (.drv .chFaultFault)).testBit ch
        let faulty := bad.filter fun ch => s.kln.rbChannels.contains ch
        let s : State := { s with kln := { s.kln with rbSeen := bad.filter fun ch => !faulty.contains ch } }
        (faulty.foldl (fun s ch => s.channelFault ch) s).refactor
      else s
    | _, _ => s)

/-- DRIVE_SAFE_TABLE (R344): 10 s without an accepted frame. -/
def execDriveSafeTable (ms : Nat) (s : State) : Host.Outcome State Fault Refusal :=
  .next (if s.isOn .aux ∧ ms ≥ 10000 ∧ !s.driveSafe then
    let s := (s.setF (.drv .statusMode) 0 2).setF (.drv .statusCmdAgeMs) 0 (min ms 65535)
    (s.drvEvent 8 2 0).applyDrive
  else s)

/-- DRIVE_HOLD_TIMER (R358): 10 ms without an accepted frame; the event belongs to a Kiln that holds ACT_OWN. -/
def execDriveHoldTimer (ms : Nat) (s : State) : Host.Outcome State Fault Refusal :=
  .next (if s.isOn .aux ∧ ms ≥ 10 ∧ !s.driveSafe then
    let first := s.getF (.drv .statusMode) == 0
    let s := (s.setF (.drv .statusMode) 0 1).setF (.drv .statusCmdAgeMs) 0 (min ms 65535)
    if first && s.active.isSome then s.drvEvent 7 1 (min ms 65535) else s
  else s)

/-- Has a time in ms since AUX power-up passed at least d ms ago, or not been? -/
def State.longSince (s : State) (t : Option Nat) (d : Nat) : Bool :=
  match t with
  | some t => decide (t + d ≤ s.kln.upMs)
  | none => true

/-- VALVE_REFUSED, at most once per valve per second (R358). -/
def State.refusedEvent (s : State) (v : Nat) : State :=
  if s.longSince (s.drive.refusedMs.get? v) 1000 then
    let s : State := { s with drive := { s.drive with refusedMs := s.drive.refusedMs.set v s.kln.upMs } }
    s.drvEvent 6 0 (v + 2 ^ 16 * s.getF (.drv .valveDutyEnergyMj) v)
  else s

/-- PULLIN_START (R346, R347, R349): the head of its switch's queue starts once its off-time is over, at 1.50 A or at what its
partner leaves; without room in the duty window the request is refused and stays queued. waitUs is the wait since the request. -/
def execPullinStart (v waitUs : Nat) (s : State) : Host.Outcome State Fault Refusal :=
  .next (if s.getF (.drv .valveStatusState) v = 1 ∧ (s.switchQueue (v / 2)).head? = some v ∧
      s.getF (.drv .valveStatusState) (partnerValve v) ≠ 2 ∧ !s.flag (.drv .valveStatusOfftime) v then
    if s.getF (.drv .valveDutyEnergyMj) v + 250 > 45000 then
      if s.drive.counted.contains (v + 8) then s
      else
        let s := if s.drive.counted.contains v then s else s.addSat (.drv .valveCountRefused) v 1
        let s : State := { s with drive := { s.drive with counted := s.drive.counted ++ [v + 8] } }
        (s.dutyLimited v).refusedEvent v
    else
      let delayed := s.drive.counted.contains v
      let s := if delayed then s.setF (.drv .pullinWaitsLastWaitUs) 0 (min waitUs 65535) else s
      let pc := if s.getF (.drv .valveStatusState) (partnerValve v) = 3 then s.valveCurrent (partnerValve v) else 0
      let s := ((s.setSwitchQueue (v / 2) ((s.switchQueue (v / 2)).drop 1)).uncount v).dutyLimited v
      let s := (s.setF (.drv .valveStatusState) v 2).addSat (.drv .valveCountPullins) v 1
      (s.setFlag (.drv .valveStatusReduced) v (decide (pc > 50))).setF (.drv .valveStatusCurrent) v (min 150 (200 - pc))
  else s)

/-- PULLIN_END (R346 step 3): the coil falls to its hold current. -/
def execPullinEnd (v : Nat) (s : State) : Host.Outcome State Fault Refusal :=
  .next (if s.getF (.drv .valveStatusState) v = 2 then
    (s.setF (.drv .valveStatusState) v 3).setF (.drv .valveStatusCurrent) v (s.valveCurrent v)
  else s)

/-- The hold current of a valve after a change of its cap. -/
def State.recap (s : State) (v : Nat) : State :=
  let s := s.dutyLimited v
  if s.getF (.drv .valveStatusState) v = 3 then s.setF (.drv .valveStatusCurrent) v (s.valveCurrent v) else s

/-- DUTY_CAP (R349): a window energy of 44 J caps the hold current. -/
def execDutyCap (v mj : Nat) (s : State) : Host.Outcome State Fault Refusal :=
  .next (if s.isOn .aux ∧ v < 8 ∧ mj ≥ 44000 ∧ !s.drive.capped.contains v then
    let s := s.setF (.drv .valveDutyEnergyMj) v (min mj 65535)
    ({ s with drive := { s.drive with capped := s.drive.capped ++ [v] } } : State).recap v
  else s)

/-- DUTY_CAP_LIFT (R349): below 42 J the cap is lifted. -/
def execDutyCapLift (v mj : Nat) (s : State) : Host.Outcome State Fault Refusal :=
  .next (if s.drive.capped.contains v ∧ mj < 42000 then
    let s := s.setF (.drv .valveDutyEnergyMj) v mj
    ({ s with drive := { s.drive with capped := s.drive.capped.filter fun x => x ≠ v } } : State).recap v
  else s)

/-- A valve becomes FAILED with a fault code (R350). -/
def State.failValve (s : State) (v code : Nat) : State :=
  let s := (s.setF (.drv .valveResFault) v code).coilOff v
  (s.setF (.drv .valveStatusState) v 4).setF (.drv .valveStatusCode) v openCode

/-- Do a coil's measurements show a fault: 1 a resistance above 20 Ω or a current below 0.10 A, 2 a resistance below 3.0 Ω, 3 a
hold current more than 0.05 A from its target (R350)? res is in 10 mΩ, ma in mA. -/
def State.coilFaulty (s : State) (v code res ma : Nat) : Bool :=
  match code with
  | 1 => decide (res > 2000 ∨ ma < 100)
  | 2 => decide (res < 300)
  | 3 => s.getF (.drv .valveStatusState) v == 3 &&
      decide (ma + 50 < 10 * s.valveCurrent v ∨ 10 * s.valveCurrent v + 50 < ma)
  | _ => false

/-- VALVE_FAULT (R350, R351): the coil has measured so for the time of its fault; it goes off and is tried once more after 1 s; a
second fault fails the valve. -/
def execValveFault (v code res ma : Nat) (s : State) : Host.Outcome State Fault Refusal :=
  .next (if v < 8 ∧ s.coilFaulty v code res ma ∧
      (s.getF (.drv .valveStatusState) v = 2 ∨ s.getF (.drv .valveStatusState) v = 3) then
    let s := s.setF (.drv .valveResRes) v (min res 65535)
    if s.drive.retried.contains v then
      ((s.failValve v code).drvEvent 4 1 (v + 16 * code + 256)).kilnRefactor
    else
      let s : State := { s with drive := { s.drive with faulted := s.drive.faulted ++ [v] } }
      ((s.setF (.drv .valveResFault) v code).applyValve v).drvEvent 4 1 (v + 16 * code)
  else s)

/-- VALVE_RETRY (R350): the valve is tried again. -/
def execValveRetry (v : Nat) (s : State) : Host.Outcome State Fault Refusal :=
  .next (if s.drive.faulted.contains v then
    let s : State := { s with drive := { s.drive with
      faulted := s.drive.faulted.filter fun x => x ≠ v, retried := s.drive.retried ++ [v] } }
    s.applyValve v
  else s)

/-- SWITCH_TRIP (R348, R350, R351): both valves of the switch open; a second trip within 60 s fails the switch. -/
def execSwitchTrip (k : Nat) (s : State) : Host.Outcome State Fault Refusal :=
  .next (if s.isOn .aux ∧ k < 4 ∧ !(s.getF (.drv .swStatusTrip)).testBit k then
    let again := !s.longSince (s.drive.tripMs.get? k) 60000
    let s : State := { s with drive := { s.drive with tripMs := s.drive.tripMs.set k s.kln.upMs } }
    let s := s.setBit (.drv .swStatusTrip) 0 k
    let s := (s.applyValve (2 * k)).applyValve (2 * k + 1)
    let s := if again then
        ({ s with drive := { s.drive with switchFailed := s.drive.switchFailed ++ [k] } } : State).failValve (2 * k) 2
          |>.failValve (2 * k + 1) 2
      else s
    (s.drvEvent 5 1 (k + 256 * again.toNat)).kilnRefactor
  else s)

/-- SWITCH_RESTART (R350): the switch is turned back on and its coils pull in one at a time. -/
def execSwitchRestart (k : Nat) (s : State) : Host.Outcome State Fault Refusal :=
  .next (if k < 4 ∧ (s.getF (.drv .swStatusTrip)).testBit k ∧ !s.drive.switchFailed.contains k then
    (((s.clearBit (.drv .swStatusTrip) 0 k).applyValve (2 * k)).applyValve (2 * k + 1)).kilnRefactor
  else s)

/-- PUMP_KICK_SUCCESS (R354, R357): the pump is RUNNING at its command, on back-EMF after a forced commutation. -/
def execPumpKickSuccess (p : Nat) (s : State) : Host.Outcome State Fault Refusal :=
  .next (if p < 2 ∧ s.getF (.drv .pumpStatusState) p = 1 then
    let s := (s.setF (.drv .pumpStatusState) p 2).setF (.drv .pumpStatusKicksFailed) p 0
    let s := if s.flag (.drv .pumpStatusHallFault) p then s.setF (.drv .pumpStatusBemf) p 1 else s
    (s.setF (.drv .pumpStatusSpeed) p (s.getF (.drv .pumpCmdRpm) p)).addSat (.drv .pumpCountStarts) p 1
  else s)

/-- PUMP_KICK_TIMEOUT (R354): a failed phase check or a kick that does not reach 300 rpm in time. -/
def execPumpKickTimeout (p : Nat) (s : State) : Host.Outcome State Fault Refusal :=
  .next (if p < 2 ∧ s.getF (.drv .pumpStatusState) p = 1 then s.kickFail p else s)

/-- PUMP_RETRY_WAIT_END (R354): after 5 s the pump starts again. -/
def execPumpRetryWaitEnd (p : Nat) (s : State) : Host.Outcome State Fault Refusal :=
  .next (if p < 2 ∧ s.getF (.drv .pumpStatusState) p = 3 then s.setF (.drv .pumpStatusState) p 1 else s)

/-- PUMP_STALL (R355): counts as a failed kick. -/
def execPumpStall (p : Nat) (s : State) : Host.Outcome State Fault Refusal :=
  .next (if p < 2 ∧ s.getF (.drv .pumpStatusState) p = 2 then s.kickFail p else s)

/-- HALL_FAULT (R357): commutation from back-EMF. -/
def execHallFault (p : Nat) (s : State) : Host.Outcome State Fault Refusal :=
  .next (if p < 2 ∧ !s.flag (.drv .pumpStatusBemf) p ∧
      (s.getF (.drv .pumpStatusState) p = 1 ∨ s.getF (.drv .pumpStatusState) p = 2) then
    ((s.setF (.drv .pumpStatusHallFault) p 1).setF (.drv .pumpStatusBemf) p 1).drvEvent 3 1 p
  else s)

/-- HALL_RESTORE (R357): back to the sensors; HALL_FAULT stays set. -/
def execHallRestore (p : Nat) (s : State) : Host.Outcome State Fault Refusal :=
  .next (if p < 2 ∧ s.flag (.drv .pumpStatusBemf) p then s.setF (.drv .pumpStatusBemf) p 0 else s)

/-- A write of DRV_PUMP_CTRL (R356, R361): ENABLE takes the pump in or out of service, out only while the other pump is
RUNNING; RETRY is set; REFUSED is cleared by a 1. -/
def State.pumpCtrlWrite (s : State) (p v : Nat) : State :=
  let s := if v.testBit 2 then s.setF (.drv .pumpCtrlRefused) p 0 else s
  let s := if v.testBit 1 then s.setF (.drv .pumpCtrlRetry) p 1 else s
  if v.testBit 0 then (s.setF (.drv .pumpCtrlEnable) p 1).applyPump p
  else if !s.flag (.drv .pumpCtrlEnable) p then s
  else if s.pumpRuns (1 - p) then (s.setF (.drv .pumpCtrlEnable) p 0).applyPump p
  else s.setF (.drv .pumpCtrlRefused) p 1

/-- PUMP_ENABLE_WRITE (R356): the write reaches the active Kiln. -/
def execPumpEnableWrite (p : Nat) (value : Word) (s : State) : Host.Outcome State Fault Refusal :=
  .next (if p < 2 ∧ s.active.isSome then s.pumpCtrlWrite p value.toNat else s)

/-- PUMP_RETRY_WRITE (R361): FAILED is cleared and the pump starts at the next frame, which carries RETRY. -/
def execPumpRetryWrite (p : Nat) (s : State) : Host.Outcome State Fault Refusal :=
  .next (if p < 2 ∧ s.active.isSome then s.setF (.drv .pumpCtrlRetry) p 1 else s)

end Sys2Proof.Machine
end

