-- ==== Sys2Proof/Machine/Copper.lean ====
section
/-!
DEFINITION. Copper (R311 to R335): its arithmetic and programs, loop inputs, the gain schedule, loop states and min-select
groups, the repetitive controllers, the commit, and the shadow run of the standby.
-/

namespace Sys2Proof.Machine

/-! ### Arithmetic (R314, R315) -/

/-- Cut to a range. -/
def clampInt (x lo hi : Int) : Int := min (max x lo) hi

/-- An ACC value, saturated to 40 bits, and whether it saturated (R314). -/
def accSat (x : Int) : Int × Bool :=
  let y := clampInt x (-(2 ^ 39)) (2 ^ 39 - 1)
  (y, x != y)

/-- round16 (R315): the Q1.15 value, and whether it saturated. -/
def round16 (acc : Int) : Int × Bool :=
  let r := (acc + 0x8000) / 65536
  let y := clampInt r (-32768) 32767
  (y, r != y)

/-- A ratio n / d rounded to the nearest integer and cut to Q1.15: how inputs are normalised (R319). -/
def normQ (n : Int) (d : Nat) : Int := clampInt ((2 * n + d) / (2 * d)) (-32768) 32767

/-! ### Programs (R316) -/

/-- Where a program run stands: ACC, the staged output, saturation, and the data words that it has written. -/
structure CopRun where
  acc : Int
  out : Option Int
  sat : Bool
  words : SMap Int
deriving DecidableEq, Repr

/-- A data word of Copper (R317). -/
def State.dataWord (s : State) (a : Nat) : Int := signed 16 (s.getF (.cle .dataValue) a)

/-- Write a data word. -/
def State.setData (s : State) (a : Nat) (x : Int) : State := s.setF (.cle .dataValue) a (unsigned 16 x)

/-- A data word of the standby's engine (R268, R318). -/
def State.shadowWord (s : State) (a : Nat) : Int := signed 16 (s.kln.shadow.getD ((Fld.cle .dataValue).key a) 0)

/-- Write a data word of the standby's engine. -/
def State.setShadow (s : State) (a : Nat) (x : Int) : State :=
  { s with kln := { s.kln with shadow := s.kln.shadow.set ((Fld.cle .dataValue).key a) (unsigned 16 x) } }

/-- A data word as a run has it. -/
def CopRun.word (mem : Nat → Int) (r : CopRun) (a : Nat) : Int := r.words.getD a (mem a)

/-- One instruction (R316) over a data memory. -/
def CopRun.exec (mem : Nat → Int) (r : CopRun) (w : Nat) : CopRun :=
  let a := bits w 25 15
  let b := bits w 14 4
  let sh := bits w 3 0
  let xa := r.word mem a * 65536
  let xb := r.word mem b * 65536
  let prod := r.word mem a * r.word mem b * 2 ^ (1 + sh)
  let acc := fun x => let y := accSat x; { r with acc := y.1, sat := r.sat || y.2 }
  match bits w 31 26 with
  | 0x01 => acc xa
  | 0x02 => acc (r.acc + xa)
  | 0x03 => acc (r.acc - xa)
  | 0x04 => acc (r.acc + prod)
  | 0x05 => acc (r.acc - prod)
  | 0x06 => acc (r.acc / 2 ^ sh)
  | 0x07 => acc (r.acc * 2 ^ sh)
  | 0x08 => acc (min r.acc xa)
  | 0x09 => acc (max r.acc xa)
  | 0x0A => acc (min (max r.acc xa) xb)
  | 0x0B => acc (if r.acc ≥ 0 then xa else xb)
  | 0x0C => acc (if r.acc < 0 then -r.acc else r.acc)
  | 0x0D => let y := round16 r.acc
            { r with sat := r.sat || y.2, words := r.words.set a y.1 }
  | 0x0E => let y := round16 r.acc
            { r with sat := r.sat || y.2, out := some y.1 }
  | _ => r

/-- The committed program of a loop. -/
def State.loopProg (s : State) (l : Nat) : List Nat :=
  (List.range (s.getLive (.cle .loopProgLen) l)).map fun i =>
    s.getLive (.cle .progInstr) (s.getLive (.cle .loopProgBase) l + i)

/-! ### Inputs (R317, R319) -/

/-- A committed loop field. -/
def State.loopF (s : State) (f : CleFld) (l : Nat) : Nat := s.getLive (.cle f) l

/-- A committed loop field in two's complement. -/
def State.loopI (s : State) (f : CleFld) (l : Nat) : Int := signed 16 (s.getLive (.cle f) l)

/-- A loop that has not run. -/
def loopInit : LoopSt :=
  { due := false, inp := ⟨0, 0, 0⟩, staged := none, shadowInp := ⟨0, 0, 0⟩, shadowStaged := none, uPrev := 0, good := 0,
    stuck := false, inTable := false, hour := 0, safeAt := 0 }

/-- A loop beside its registers. -/
def State.loop (s : State) (l : Nat) : LoopSt := s.cop.loops.getD l loopInit

/-- Change a loop. -/
def State.modLoop (s : State) (l : Nat) (f : LoopSt → LoopSt) : State :=
  { s with cop := { s.cop with loops := s.cop.loops.put l (f (s.loop l)) loopInit } }

/-- The last written output of a loop. -/
def State.loopOut (s : State) (l : Nat) : Int := signed 16 (s.getF (.cle .loopStatusOutput) l)

/-- The die that a feedback source names, if any (R319). -/
def fbDie (fb : Nat) : Option Nat := if 0x10 ≤ fb ∧ fb < 0x18 then some (fb % 4) else none

/-- Sensors of a feedback source (R290, R319). -/
def State.fbSensors (s : State) (fb : Nat) : List Nat :=
  if 1 ≤ fb ∧ fb ≤ 8 then [0x1000 + (fb - 1)]
  else if 0x10 ≤ fb ∧ fb < 0x14 then (s.activeClusters (fb - 0x10)).flatMap fun c => [0x4000 + 2 * c, 0x4001 + 2 * c]
  else if 0x14 ≤ fb ∧ fb < 0x18 then (List.range 10).map fun i => 0x5000 + 10 * (fb - 0x14) + i
  else if fb = 0x20 then [0x2000, 0x2001]
  else if fb = 0x21 then [0x3000, 0x3001]
  else []

/-- Feedback value of a source, normalised (R319). -/
def State.fbValue (s : State) (fb : Nat) : Int :=
  if 1 ≤ fb ∧ fb ≤ 8 then normQ (s.tempVal (0x1000 + (fb - 1)) * 16) 1
  else if 0x10 ≤ fb ∧ fb < 0x14 then
    let cs := s.activeClusters (fb - 0x10)
    if cs.isEmpty then 0 else normQ ((cs.map s.cluTemp).foldl (· + ·) 0 * 16) cs.length
  else if 0x14 ≤ fb ∧ fb < 0x18 then
    let t := fun i => s.pairCtrl (0x5000 + 10 * (fb - 0x14) + 2 * i)
    normQ (([1, 2, 3, 4].map t).foldl max (t 0) * 16) 1
  else if fb = 0x20 then normQ ((s.prsVal 0 - s.prsVal 1) * 128) 1
  else if fb = 0x21 then normQ (s.getF (.cle .flowCtrl) * 32768) 1000
  else 0

/-- Setpoint of a loop (R319). Where SP_SRC is 1 and FB_SRC names no die the spec states none: a free value. -/
def State.spValue (s : State) (l : Nat) : Int × State :=
  match s.loopF .loopSpSpSrc l with
  | 1 => match fbDie (s.loopF .loopCfgFbSrc l) with
    | some n => (normQ (s.getF (.grb .dieTsetTset) n * 16) 1, s)
    | none => let (v, s) := s.fresh 16; (v.toInt, s)
  | 2 => (s.loopOut (s.loopF .loopSpSpLoop l), s)
  | _ => (s.loopI .loopSpSpConst l, s)

/-- FLOW_X (R317). -/
def State.flowX (s : State) : Int := normQ (s.getF (.cle .flowCtrl) * 32768) 1000

/-- POWER_X of a feedback source (R317). -/
def State.powerX (s : State) (fb : Nat) : Int :=
  let mw := if 1 ≤ fb ∧ fb ≤ 8 then s.cool.zoneMw.getD (fb - 1) 0
    else match fbDie fb with
      | some n => s.cool.dieMw.getD n 0
      | none => s.cool.inputMw
  normQ mw 125

/-! ### Gain schedule (R322) -/

/-- interp of R322. -/
def interp (x : Int) (b0 b1 b2 b3 : Int) : Nat × Int :=
  if x ≤ b0 then (0, 0)
  else if x ≥ b3 then (2, 65536)
  else if x ≥ b2 then (2, (x - b2) * 65536 / (b3 - b2))
  else if x ≥ b1 then (1, (x - b1) * 65536 / (b2 - b1))
  else (0, (x - b0) * 65536 / (b1 - b0))

/-- Interpolate the entries of a field in table t at a point, to the nearest, ties upward. -/
def State.gsAt (s : State) (t : Nat) (f : CleFld) (fx px : Int) : Int :=
  let b := fun g => signed 16 (s.getLive (.cle g) t)
  let (i, x) := interp fx (b .gsFbp01Fbp0) (b .gsFbp01Fbp1) (b .gsFbp23Fbp2) (b .gsFbp23Fbp3)
  let (j, y) := interp px (b .gsPbp01Pbp0) (b .gsPbp01Pbp1) (b .gsPbp23Pbp2) (b .gsPbp23Pbp3)
  let e := fun i j => signed 16 (s.getLive (.cle f) (16 * t + 4 * i + j))
  ((65536 - x) * (65536 - y) * e i j + x * (65536 - y) * e (i + 1) j + (65536 - x) * y * e i (j + 1) +
    x * y * e (i + 1) (j + 1) + 2 ^ 31) / 2 ^ 32

/-- The inputs of a loop that its period latches (R311): the feedback and the schedule's variables. -/
def State.loopIn (s : State) (l : Nat) : LoopIn :=
  let fb := s.loopF .loopCfgFbSrc l
  ⟨s.fbValue fb, s.flowX, s.powerX fb⟩

/-- An entry of a loop's schedule for latched inputs. -/
def State.loopGs (s : State) (l : Nat) (f : CleFld) (x : LoopIn) : Int :=
  s.gsAt (s.loopF .loopCfgGsTable l) f x.flow x.power

/-- The gain words of a loop's frame; without a schedule the spec states no gains: free values. -/
def State.gainWords (s : State) (l : Nat) (x : LoopIn) : Int × Int × State :=
  if s.loopF .loopCfgGsEn l ≠ 0 then (s.loopGs l .gsKKp x, s.loopGs l .gsKKi x, s)
  else
    let (p, s) := s.fresh 16
    let (i, s) := s.fresh 16
    (p.toInt, i.toInt, s)

/-- Does a loop run? -/
def State.loopOn (s : State) (l : Nat) : Bool := decide (l < 32) && s.loopF .loopCfgEnable l != 0

/-- Loops of a period. -/
def State.periodLoops (s : State) (fast : Bool) : List Nat :=
  (List.range 32).filter fun l => s.loopOn l && s.liveFlag (.cle .loopCfgFast) l == fast

/-- A period begins (R311): the readings of its loops are latched, and those that the standby's converters give, which own shows;
every program of the period has its output to give. -/
def State.beginPeriod (s : State) (fast : Bool) (own : State) : State :=
  (s.periodLoops fast).foldl (fun s l => s.modLoop l fun x =>
    { x with due := true, inp := s.loopIn l, shadowInp := own.loopIn l }) s

/-- The engine's input words of a loop's frame (R317), by address. -/
def State.frameWords (s : State) (l : Nat) (x : LoopIn) (uPrev : Int) : SMap Int × State :=
  let (sp, s) := s.spValue l
  let (kp, ki, s) := s.gainWords l x
  let ws := [x.fb, sp, uPrev, x.flow, x.power, kp, ki, 0]
  ((ws.zipIdx).map fun e => (32 * s.loopF .loopCfgFrame l + e.2, e.1), s)

/-- Run a loop's program over a data memory whose input words are given. -/
def State.runProg (s : State) (l : Nat) (mem : Nat → Int) (words : SMap Int) : CopRun :=
  (s.loopProg l).foldl (CopRun.exec mem) ⟨0, none, false, words⟩

/-- Run a loop's program: the input words, the instructions, the staged output (R312, R317). A program without OUT serves no
one: it keeps its output. -/
def State.runLoop (s : State) (l : Nat) : State :=
  let (words, s) := s.frameWords l (s.loop l).inp (s.loop l).uPrev
  let r := s.runProg l s.dataWord words
  let s := r.words.foldl (fun s e => s.setData e.1 e.2) s
  let s := s.modLoop l fun x => { x with staged := some (r.out.getD x.uPrev) }
  if r.sat then s.setBit (.cle .satSat) 0 l else s

/-- The standby runs the same program on its own readings and its own data memory, and its output is discarded (R268, R318). -/
def State.runShadow (s : State) (l : Nat) : State :=
  let (words, s) := s.frameWords l (s.loop l).shadowInp (s.loop l).uPrev
  let r := s.runProg l s.shadowWord words
  let s := r.words.foldl (fun s e => s.setShadow e.1 e.2) s
  s.modLoop l fun x => { x with shadowStaged := some (r.out.getD x.uPrev) }

/-- The Kiln that runs the programs in shadow, if it is a standby: the one that does not hold ACT_OWN, or did not hold it last. -/
def State.shadowRuns (s : State) : Bool :=
  match s.kln.lastOwner.map otherKiln with
  | some k => (s.kln.kiln k).up && s.getF (.kln .roleRole) (kilnIdx k) == 1
  | none => false

/-- LOOP_PROGRAM_RUN (R312, R329): a program runs once its inputs are complete, once in its period; one that comes after the
output phase leaves no trace. -/
def execLoopProgramRun (l : Nat) (s : State) : Host.Outcome State Fault Refusal :=
  .next (if s.isOn .aux && s.loopOn l && (s.loop l).due then
    let s := if s.active.isSome && (s.loop l).staged.isNone then s.runLoop l else s
    if s.shadowRuns && (s.loop l).shadowStaged.isNone then s.runShadow l else s
  else s)

/-! ### Repetitive controllers (R324 to R327) -/

/-- A table beside its registers. -/
def State.rc (s : State) (z : Nat) : RcSt := s.cop.rcs.getD z ⟨[], [], false, 0, 0, 0, 0⟩

/-- Change a table. -/
def State.modRc (s : State) (z : Nat) (f : RcSt → RcSt) : State :=
  { s with cop := { s.cop with rcs := s.cop.rcs.put z (f (s.rc z)) ⟨[], [], false, 0, 0, 0, 0⟩ } }

/-- A cell of a table (R340). -/
def State.cell (s : State) (z k : Nat) : Int := signed 16 (s.getF (.cle .rcCellCell) (256 * z + k))

/-- Write a cell. -/
def State.setCell (s : State) (z k : Nat) (x : Int) : State := s.setF (.cle .rcCellCell) (256 * z + k) (unsigned 16 x)

/-- Clear the cells of a table. -/
def State.clearCells (s : State) (z : Nat) : State := (List.range 256).foldl (fun s k => s.setCell z k 0) s

/-- Is a table locked (R325)? -/
def State.rcLocked (s : State) (z : Nat) : Bool := s.flag (.cle .rcStatusLocked) z

/-- A locked table adds the zone power to its phase cell, and its time moves on by a fast period (R326). -/
def State.rcSample (s : State) (z mw : Nat) : State :=
  let r := s.rc z
  let s := if s.rcLocked z && decide (r.p ≠ 0) then
      let k := min 255 (256 * r.since / r.p)
      let (n, t) := r.sums.getD k (0, 0)
      s.modRc z fun r => { r with sums := r.sums.set k (n + 1, t + normQ mw 125) }
    else s
  s.modRc z fun r => { r with since := if r.marked then r.since + 100 else 0 }

/-- COPPER_FAST_PERIOD (R311, R326): the fast inputs are latched, those of the standby's converters from shadow, and the tables
sample power. -/
def execCopperFastPeriod (readings : List (Nat × Int)) (zoneMw : List Nat) (shadow : List (Nat × Int)) (s : State) :
    Host.Outcome State Fault Refusal :=
  .next (if s.isOn .aux then
    let s : State := { s with cop := { s.cop with clock := s.cop.clock + 100 } }
    let s := if s.active.isSome then
        let s := (s.takeReadings readings).refresh
        let s : State := { s with cool := { s.cool with zoneMw := zoneMw } }
        (List.range 8).foldl (fun s z => s.rcSample z (zoneMw.getD z 0)) s
      else s
    s.beginPeriod true (s.takeReadings shadow).refresh
  else s)

/-- Does a table accept markers of this kind (R324)? -/
def State.rcWants (s : State) (z : Nat) (m : Marker) : Bool :=
  s.liveFlag (.cle .rcCfgEnable) z && (s.getLive (.cle .rcCfgDieMask) z).testBit m.die &&
    s.getLive (.cle .rcCfgStream) z == m.stream &&
    (if m.prefill then s.liveFlag (.cle .rcCfgPrefill) z else s.liveFlag (.cle .rcCfgDecode) z)

/-- Sort numbers. -/
def insertNat : List Nat → Nat → List Nat
  | [], n => [n]
  | a :: t, n => if n ≤ a then n :: a :: t else a :: insertNat t n

/-- The median; of an even count the mean of the middle two, rounded down. -/
def median (l : List Nat) : Nat :=
  let t := l.foldl insertNat []
  let h := t.length / 2
  if t.length % 2 = 1 then t.getD h 0 else (t.getD (h - 1) 0 + t.getD h 0) / 2

/-- The cells learn from the samples of the step that ends (R326). -/
def State.rcLearn (s : State) (z : Nat) : State :=
  let r := s.rc z
  let gain := signed 16 (s.getLive (.cle .rcGainL) z)
  let s := r.sums.foldl (fun s e =>
    let c := s.cell z e.1
    s.setCell z e.1 (clampInt (c + (round16 (gain * (e.2.2 / e.2.1 - c) * 2)).1) (-32768) 32767)) s
  s.modRc z fun r => { r with sums := [], learnedP := r.p }

/-- The lock after an accepted marker (R325): all 8 intervals within an eighth of P lock it; two in a row outside a quarter
of P unlock it. A lock at a P that differs by more than a quarter from that of the last learning clears the cells. -/
def State.rcLock (s : State) (z oldP iv : Nat) : State :=
  let r := s.rc z
  let off := decide (4 * iv > 5 * oldP ∨ 4 * iv < 3 * oldP)
  let s := s.modRc z fun r => { r with outside := if off && decide (oldP ≠ 0) then r.outside + 1 else 0 }
  if s.rcLocked z then
    if (s.rc z).outside ≥ 2 then s.setF (.cle .rcStatusLocked) z 0 else s
  else
    let near := r.intervals.length == 8 && decide (2000 ≤ r.p ∧ r.p ≤ 655000) &&
      r.intervals.all fun i => decide (8 * i ≤ 9 * r.p ∧ 7 * r.p ≤ 8 * i)
    if near then
      let far := decide (4 * r.p > 5 * r.learnedP ∨ 4 * r.p < 3 * r.learnedP)
      let s := (s.setF (.cle .rcStatusLocked) z 1).modRc z fun r => { r with sums := [], outside := 0 }
      if far then s.clearCells z else s
    else s

/-- A table takes a marker, next µs before the start of the next fast period (R324 to R326). -/
def State.rcMarker (s : State) (z next : Nat) : State :=
  let r := s.rc z
  let iv := r.since - next
  if r.marked && (decide (8 * iv < r.p) || (!s.rcLocked z && decide (iv < 200))) then
    s.addSat (.cle .rcMarksDuplicate) z 1
  else
    let s := s.addWrap (.cle .rcMarksAccepted) z 1
    let s := if s.rcLocked z then s.rcLearn z else s
    if r.marked then
      let ivs := (iv :: r.intervals).take 8
      let s := s.modRc z fun r => { r with intervals := ivs, p := median ivs, since := next }
      let s := s.setF (.cle .rcStatusPeriod) z (min ((s.rc z).p / 10) 65535)
      s.rcLock z r.p iv
    else s.modRc z fun r => { r with marked := true, since := next }

/-- STEP_MARKER (R324): the oldest marker forwarded by a die reaches the tables; next is the time in µs from it to the start
of the next fast period. -/
def execStepMarker (next : Nat) (s : State) : Host.Outcome State Fault Refusal :=
  .next (match s.cop.markers with
    | [] => s
    | m :: t =>
      let s : State := { s with cop := { s.cop with markers := t } }
      if s.isOn .aux && s.active.isSome then
        (List.range 8).foldl (fun s z => if s.rcWants z m then s.rcMarker z next else s) s
      else s)

/-- RC_MARKER_TIMEOUT (R325): no marker for 2 × P unlocks a table. -/
def execRcMarkerTimeout (z : Nat) (s : State) : Host.Outcome State Fault Refusal :=
  .next (if z < 8 ∧ s.rcLocked z ∧ (s.rc z).since ≥ 2 * (s.rc z).p then s.setF (.cle .rcStatusLocked) z 0 else s)

/-- The fade factors move by 1/16 in a slow period (R325). -/
def State.rcFade (s : State) : State :=
  (List.range 8).foldl (fun s z =>
    let f := s.getF (.cle .rcStatusFade) z
    s.setF (.cle .rcStatusFade) z (if s.rcLocked z then min 16 (f + 1) else f - 1)) s

/-- Feedforward of a loop (R327): the output phase comes 50 µs before the start of the next fast period in a slow period,
25 µs before it in a fast one. -/
def State.feedForward (s : State) (l : Nat) (fast : Bool) : Int × Bool :=
  let z := s.loopF .loopCfgRcTable l
  let r := s.rc z
  let fade := s.getF (.cle .rcStatusFade) z
  if s.loopF .loopCfgRcEn l = 0 ∨ fade = 0 ∨ r.p = 0 then (0, false)
  else
    let phi := 256 * (r.since - (if fast then 25 else 50)) / r.p
    let lead := 256 * s.getLive (.cle .rcCfgLeadUs) z / r.p
    let k := (phi + lead) % 256
    let cbar := ((List.range 256).map (s.cell z)).foldl (· + ·) 0 / 256
    let kff := signed 16 (s.getLive (.cle .rcGainKFf) z)
    round16 (kff * (s.cell z k - cbar) * fade / 8)

/-! ### Loop states (R328 to R331) -/

/-- A record that the spec asks for without naming its event: source, code, severity and data are free values (log
entry 14). -/
def State.unnamedRecord (s : State) : State :=
  let (src, s) := s.fresh 8
  let (code, s) := s.fresh 8
  let (sev, s) := s.fresh 2
  let (data, s) := s.fresh 64
  s.post src.toNat code.toNat (sev.toNat % 3) data.toNat false

/-- A loop enters TABLE, or SAFE in its place when it has no gain schedule (R330): the third entry within an operating hour
keeps it there. -/
def State.enterTable (s : State) (l : Nat) : State :=
  if (s.loop l).inTable then s
  else
    let s := s.modLoop l fun x => { x with inTable := true, good := 0 }
    if s.loopF .loopCfgGsEn l = 0 then s
    else
      let n := (if (s.loop l).hour = s.power.opHours then s.getF (.cle .loopStatusTableHour) l else 0) + 1
      let s := (s.setF (.cle .loopStatusTableHour) l (min n 3)).addSat (.cle .loopOvrTableEntries) l 1
      let s := s.modLoop l fun x => { x with hour := s.power.opHours, stuck := x.stuck || decide (n ≥ 3) }
      s.unnamedRecord

/-- Is a sensor of a loop's feedback frozen or lost? -/
def State.fbBroken (s : State) (l : Nat) : Bool :=
  (s.fbSensors (s.loopF .loopCfgFbSrc l)).any fun id => decide ((s.sensRec id).state = 2 ∨ (s.sensRec id).state = 3)

/-- Is a loop's feedback plausible throughout? -/
def State.fbPlausible (s : State) (l : Nat) : Bool :=
  (s.fbSensors (s.loopF .loopCfgFbSrc l)).all fun id => (s.sensRec id).state == 0

/-- A cap in Q1.15 of 2,048 W (R319). -/
def capCode (uw : Nat) : Int := clampInt (uw / 62500 : Nat) 0 32767

/-- A pump speed as an output code, and an output code as a speed (R319). -/
def rpmCode (rpm : Nat) : Int := min ((rpm * 32768 + 4500) / 9000 : Nat) 32767

/-- Speed of an output code in rpm. -/
def codeRpm (c : Int) : Nat := (c.toNat * 9000 + 16384) / 32768

/-- What the Kiln imposes on an output target, in the order HOT_N, leak, flow loss, overpressure; on a die cap a protection
fall (R298, R301, R303, R307, R328). A fall for a zone factor imposes nothing: the factor scales what the loops give. -/
def State.imposed (s : State) (dst : Nat) : Option Int :=
  let hot := s.flag (.cle .coolStatusHotN)
  let leak := s.flag (.cle .coolStatusLeak)
  let flow := s.flag (.cle .coolStatusProtectFlow)
  if 1 ≤ dst ∧ dst ≤ 8 then
    if hot then some 32767
    else if leak then some (signed 16 (s.cool.leakValves.getD (dst - 1) openCode))
    else if flow then some 32767 else none
  else if dst = 0x10 then
    if hot then some (rpmCode 9000)
    else if leak then some (rpmCode s.cool.leakRpm)
    else if s.cool.overpressure then some 0
    else if flow then some (rpmCode 9000) else none
  else if 0x18 ≤ dst ∧ dst < 0x1C then
    if s.grn.protects.any (· ≠ 6) then some (capCode (s.die (dst - 0x18)).thermUw) else none
  else none

/-- The state of an enabled loop (R328): 1 CLOSED, 2 TABLE, 3 SAFE, 4 FORCED. -/
def State.loopState (s : State) (l : Nat) : Nat :=
  if (s.imposed (s.loopF .loopCfgOutDst l)).isSome then 4
  else if s.fbBroken l then 3
  else if (s.loop l).inTable then (if s.loopF .loopCfgGsEn l ≠ 0 then 2 else 3)
  else 1

/-- Show a loop's state; SAFE keeps the output at its entry (R331). -/
def State.setLoopState (s : State) (l st : Nat) : State :=
  let s := if st = 3 ∧ s.getF (.cle .loopStatusState) l ≠ 3 then
      s.modLoop l fun x => { x with safeAt := s.loopOut l }
    else s
  let s := s.setF (.cle .loopStatusState) l st
  let s := if st = 2 then s.setBit (.cle .tableTable) 0 l else s.clearBit (.cle .tableTable) 0 l
  if st = 3 then s.setBit (.cle .safeSafe) 0 l else s.clearBit (.cle .safeSafe) 0 l

/-- The count of overruns and of good periods of a loop at its output phase, and its state (R329, R330). -/
def State.tickLoop (s : State) (l : Nat) : State :=
  let s := if (s.loop l).staged.isNone then
      let s := (s.addSat (.cle .loopOvrOverruns) l 1).addSat (.cle .loopStatusConsecOvr) l 1
      let s := s.modLoop l fun x => { x with good := 0 }
      if s.getF (.cle .loopStatusConsecOvr) l ≥ 8 then s.enterTable l else s
    else
      let ok := s.fbPlausible l
      (s.setF (.cle .loopStatusConsecOvr) l 0).modLoop l fun x =>
        { x with good := if x.inTable && ok then min (x.good + 1) 1000 else 0 }
  s.setLoopState l (s.loopState l)

/-- A loop's candidate (R323): of a CLOSED loop that overran, its held output. -/
def State.candidate (s : State) (l : Nat) : Int :=
  match s.getF (.cle .loopStatusState) l with
  | 2 => s.loopGs l .gsToutTout (s.loop l).inp
  | 3 =>
    if s.loopF .loopSafeSafeHold l ≠ 0 then min (s.loop l).safeAt (s.loop l).uPrev else s.loopI .loopSafeSafe l
  | _ => (s.loop l).staged.getD (s.loopOut l)

/-- The lowest candidate of a group: the lowest-numbered loop on a tie (R323). -/
def lowestCand : List (Nat × Int) → Option (Nat × Int)
  | [] => none
  | a :: t => some (t.foldl (fun b x => if x.2 < b.2 then x else b) a)

/-- The speed that adds no more than 10 kPa under OVERPRESSURE, to the nearest rpm (R303, R352). -/
def State.pumpLimit (s : State) : Nat :=
  let n := ([0, 1].filter s.pumpRuns).length
  let d := s.getF (.drv .cfgHeadKpa) * max n 1
  if d = 0 then 9000 else min 9000 ((isqrt (4 * headD * 10 / d) + 1) / 2)

/-- The output of a group of loops, or of a loop alone: what is written, what becomes U_PREV, and the loop selected. A held
output is written as it was, feedforward and all, and U_PREV stays (R329; log entry 179). -/
def State.groupOutput (s : State) (ms : List Nat) (fast : Bool) : Option (Int × Int × Nat × Bool) :=
  match ms with
  | [] => none
  | m :: _ =>
    match s.imposed (s.loopF .loopCfgOutDst m) with
    | some v => some (v, v, m, false)
    | none =>
      match lowestCand (ms.map fun l => (l, s.candidate l)) with
      | none => none
      | some (l, c) =>
        let lo := (ms.map (s.loopI .loopLimitsOutMin)).foldl max (-32768)
        let hi := (ms.map (s.loopI .loopLimitsOutMax)).foldl min 32767
        let c := clampInt c lo hi
        let c := if s.loopF .loopCfgOutDst m = 0x10 ∧ (s.getF (.cle .coolStatusWarn)).testBit 5 then
            min c (rpmCode s.pumpLimit) else c
        let closed := s.getF (.cle .loopStatusState) l = 1
        if closed ∧ (s.loop l).staged.isNone then some (c, (s.loop l).uPrev, l, false)
        else
          let (ff, sat) := if closed then s.feedForward l fast else (0, false)
          some (if ff = 0 then c else clampInt (c + ff) lo hi, c, l, sat)

/-- Die thermal cap as the loops give it (R323): at once downward, upward under R177. A cap imposed by a protection fall is
taken as it stands, so that the stages after it leave it as it is. -/
def State.setLoopCap (s : State) (n : Nat) (c : Int) : State :=
  let imposed := (s.imposed (0x18 + n)).isSome
  let f := s.dieFactor n
  let uw := if imposed then (((s.die n).thermUw + s.stackCut n) * 10 + f - 1) / f else c.toNat * 62500
  let s := s.modDie n fun d => { d with loopUw := uw }
  let want := s.dieWant n
  s.modDie n fun d => { d with thermUw := min d.thermUw want }

/-- Write the output of a group: the registers, U_PREV, and the GRB for a die cap. -/
def State.writeGroup (s : State) (ms : List Nat) (fast : Bool) : State :=
  match s.groupOutput ms fast with
  | none => s
  | some (out, u, sel, sat) =>
    let s := if sat then s.setBit (.cle .satSat) 0 sel else s
    let g := s.loopF .loopCfgGroup sel
    let s := ms.foldl (fun s l =>
      let s := s.modLoop l fun x => { x with due := false, staged := none, shadowStaged := none, uPrev := u }
      let s := s.setFlag (.cle .loopStatusSelected) l (g != 0 && l == sel)
      s.setF (.cle .loopStatusOutput) l (unsigned 16 out)) s
    let s := if g = 0 then s
      else (s.setF (.cle .grpSelected) (g - 1) sel).setF (.cle .grpOutput) (g - 1) (unsigned 16 u)
    let dst := s.loopF .loopCfgOutDst sel
    if 0x18 ≤ dst ∧ dst < 0x1C then s.setLoopCap (dst - 0x18) out else s

/-- The loop whose output a target takes, if one runs. -/
def State.loopOf (s : State) (dst : Nat) : Option Nat :=
  (List.range 32).find? fun l => s.loopOn l && s.loopF .loopCfgOutDst l == dst

/-- A pump speed that no loop of the period gives, under the limit of OVERPRESSURE; what the Kiln imposes stands (R303). -/
def State.limitRpm (s : State) (rpm : Nat) : Nat :=
  if (s.imposed 0x10).isNone && (s.getF (.cle .coolStatusWarn)).testBit 5 then min rpm s.pumpLimit else rpm

/-- The frame of an output phase (R342): the outputs written in this period; every other channel repeats its last value. -/
def State.copperFrame (s : State) (fast : Bool) : DriveFrame :=
  let given := fun dst => (s.loopOf dst).filter fun l => s.liveFlag (.cle .loopCfgFast) l == fast
  let valves := (List.range 8).map fun v => match given (v + 1) with
    | some l => s.getF (.cle .loopStatusOutput) l
    | none => s.lastCodes.getD v openCode
  let rpm := match given 0x10, s.cop.sent with
    | some l, _ => codeRpm (s.loopOut l)
    | none, some f => f.rpm
    | none, none => 0
  s.makeFrame valves (s.limitRpm rpm) 3

/-- Are the drive commands held at their last values: while a clock fault stands, and once a removal has stopped the pumps
(R28 steps 2 and 4, R467 step 7)? -/
def State.driveHeld (s : State) : Bool :=
  (s.getF (.row .alertCause)).testBit 3 || s.getF (.mod .removePhase) == 5

/-- One output phase (R312, R323): the loops of the period, alone and by group, and the frame. -/
def State.outputPhase (s : State) (fast : Bool) : State :=
  let s := if fast then s else s.rcFade
  let ls := s.periodLoops fast
  let s := ls.foldl (fun s l => s.tickLoop l) s
  let s := (ls.filter fun l => s.loopF .loopCfgGroup l == 0).foldl (fun s l => s.writeGroup [l] fast) s
  let s := (List.range 7).foldl (fun s g =>
    s.writeGroup (ls.filter fun l => s.loopF .loopCfgGroup l == g + 1) fast) s
  s.sendFrame (s.copperFrame fast)

/-- COPPER_OUTPUT_PHASE (R312, R328 to R331): the outputs are selected and written. -/
def execCopperOutputPhase (fast : Bool) (s : State) : Host.Outcome State Fault Refusal :=
  .next (if s.isOn .aux && s.active.isSome then
    if s.driveHeld then
      match s.cop.sent with
      | some f => s.sendFrame (s.makeFrame f.valves f.rpm f.pumpEn)
      | none => s
    else s.outputPhase fast
  else s)

/-- LOOP_TABLE_EXIT (R330): after 1,000 good periods the loop is CLOSED again, unless it must stay. -/
def execLoopTableExit (l : Nat) (s : State) : Host.Outcome State Fault Refusal :=
  .next (if s.loopOn l && (s.loop l).inTable && !(s.loop l).stuck && decide ((s.loop l).good ≥ 1000) then
    let s := s.modLoop l fun x => { x with inTable := false, good := 0 }
    s.setLoopState l (s.loopState l)
  else s)

/-! ### Commit (R321, R333, R335) -/

/-- A loop field of the shadow set. -/
def State.shL (s : State) (f : CleFld) (l : Nat) : Nat := s.getF (.cle f) l

/-- Enabled loops of the shadow set. -/
def State.shLoops (s : State) : List Nat := (List.range 32).filter fun l => s.shL .loopCfgEnable l != 0

/-- The load of the loops of a period: F or S of R321. -/
def State.loopLoad (s : State) (fast : Bool) : Nat :=
  ((s.shLoops.filter fun l => (s.shL .loopCfgFast l != 0) == fast).map fun l => s.shL .loopProgLen l + 40).sum

/-- The program of a loop in the shadow set. -/
def State.shProg (s : State) (l : Nat) : List Nat :=
  (List.range (s.shL .loopProgLen l)).map fun i => s.getF (.cle .progInstr) (s.shL .loopProgBase l + i)

/-- Does an enabled loop of the shadow set take its setpoint from loop l? -/
def State.shUsed (s : State) (l : Nat) : Bool :=
  s.shLoops.any fun k => s.shL .loopSpSpSrc k == 2 && s.shL .loopSpSpLoop k == l

/-- PROG_RANGE (R335). -/
def State.badRange (s : State) (l : Nat) : Bool :=
  let len := s.shL .loopProgLen l
  let ops := (s.shProg l).map fun w => bits w 31 26
  let need := if s.shL .loopCfgOutDst l = 0 ∧ !s.shUsed l then 0 else 1
  decide (len = 0 ∨ s.shL .loopProgBase l + len > 8192) || ops.count 0x0E != need || ops.count 0x3F != 1 ||
    ops.getLast? != some 0x3F

/-- The fields an opcode uses: A, B and S; none for a reserved opcode (R316). -/
def opUses (op : Nat) : Option (Bool × Bool × Bool) :=
  match op with
  | 0x01 | 0x02 | 0x03 | 0x08 | 0x09 | 0x0D => some (true, false, false)
  | 0x04 | 0x05 => some (true, true, true)
  | 0x06 | 0x07 => some (false, false, true)
  | 0x0A | 0x0B => some (true, true, false)
  | 0x0C | 0x0E | 0x3F => some (false, false, false)
  | _ => none

/-- OPCODE (R335) of one instruction. -/
def badOp (w : Nat) : Bool :=
  match opUses (bits w 31 26) with
  | none => true
  | some (a, b, sh) =>
    (!a && bits w 25 15 != 0) || (!b && bits w 14 4 != 0) || (!sh && bits w 3 0 != 0) ||
      ((bits w 31 26 == 4 || bits w 31 26 == 5) && decide (bits w 3 0 > 7))

/-- FRAME (R335). -/
def State.badFrame (s : State) (l : Nat) : Bool :=
  let f := s.shL .loopCfgFrame l
  f == 0 || (s.shLoops.any fun k => k != l && s.shL .loopCfgFrame k == f) ||
    (s.shProg l).any fun w => bits w 31 26 == 0x0D && bits w 25 15 / 32 != f

/-- BREAKPOINTS (R335). -/
def State.badBreak (s : State) (l : Nat) : Bool :=
  let t := s.shL .loopCfgGsTable l
  let b := fun g => signed 16 (s.getF (.cle g) t)
  s.shL .loopCfgGsEn l != 0 &&
    (decide (b .gsFbp01Fbp0 ≥ b .gsFbp01Fbp1) || decide (b .gsFbp01Fbp1 ≥ b .gsFbp23Fbp2) ||
      decide (b .gsFbp23Fbp2 ≥ b .gsFbp23Fbp3) || decide (b .gsPbp01Pbp0 ≥ b .gsPbp01Pbp1) ||
      decide (b .gsPbp01Pbp1 ≥ b .gsPbp23Pbp2) || decide (b .gsPbp23Pbp2 ≥ b .gsPbp23Pbp3))

/-- GROUP (R335): against the loops before it. -/
def State.badGroup (s : State) (l : Nat) : Bool :=
  let g := s.shL .loopCfgGroup l
  (s.shLoops.filter fun k => decide (k < l)).any fun k =>
    (g != 0 && s.shL .loopCfgGroup k == g &&
      (s.shL .loopCfgFast k != s.shL .loopCfgFast l || s.shL .loopCfgOutDst k != s.shL .loopCfgOutDst l)) ||
    (s.shL .loopCfgOutDst l != 0 && s.shL .loopCfgOutDst k == s.shL .loopCfgOutDst l &&
      (g == 0 || s.shL .loopCfgGroup k != g))

/-- LIMITS (R335). -/
def State.badLimits (s : State) (l : Nat) : Bool :=
  let g := fun f => signed 16 (s.shL f l)
  decide (g .loopLimitsOutMin > g .loopLimitsOutMax ∨ g .loopSafeSafe < g .loopLimitsOutMin ∨
    g .loopSafeSafe > g .loopLimitsOutMax)

/-- RC (R335) of a loop. -/
def State.badRc (s : State) (l : Nat) : Bool :=
  s.shL .loopCfgRcEn l != 0 && !(decide (1 ≤ s.shL .loopCfgOutDst l ∧ s.shL .loopCfgOutDst l ≤ 8))

/-- RC (R335) of a table. -/
def State.badRcTable (s : State) (z : Nat) : Bool :=
  s.flag (.cle .rcCfgEnable) z && (s.getF (.cle .rcCfgDieMask) z == 0 ||
    (!s.flag (.cle .rcCfgDecode) z && !s.flag (.cle .rcCfgPrefill) z))

/-- SOURCE (R335). -/
def State.badSource (s : State) (l : Nat) : Bool :=
  let fb := s.shL .loopCfgFbSrc l
  let dst := s.shL .loopCfgOutDst l
  let k := s.shL .loopSpSpLoop l
  !(decide (fb ≤ 8 ∨ (0x10 ≤ fb ∧ fb < 0x18) ∨ fb = 0x20 ∨ fb = 0x21)) ||
    !(decide (dst ≤ 8 ∨ dst = 0x10 ∨ (0x18 ≤ dst ∧ dst < 0x1C))) || s.shL .loopSpSpSrc l == 3 ||
    (s.shL .loopSpSpSrc l == 2 && (k == l || s.shL .loopCfgEnable k == 0))

/-- The check of a Copper commit: ERR and ERR_LOOP (R335). A refusal for the budget names the first loop of the period; one
for a table names loop 0. -/
def State.checkCle (s : State) : Nat × Nat :=
  let ls := s.shLoops
  let f := s.loopLoad true
  let first := fun (p : Nat → Bool) => ls.find? p
  if f > 8000 then (1, (first fun l => s.shL .loopCfgFast l != 0).getD 0)
  else if s.loopLoad false + 6 * f > 96000 then (2, (first fun l => s.shL .loopCfgFast l == 0).getD (ls.headD 0))
  else match first s.badRange with
  | some l => (3, l)
  | none => match first fun l => (s.shProg l).any badOp with
  | some l => (4, l)
  | none => match first s.badFrame with
  | some l => (5, l)
  | none => match first s.badBreak with
  | some l => (6, l)
  | none => match first s.badGroup with
  | some l => (7, l)
  | none => match first s.badLimits with
  | some l => (8, l)
  | none => match first s.badRc with
  | some l => (9, l)
  | none => if (List.range 8).any s.badRcTable then (9, 0)
    else match first s.badSource with
    | some l => (0xA, l)
    | none => (0, 0)

/-- RWC fields of a loop's descriptor. -/
def loopFields : List CleFld :=
  [.loopCfgEnable, .loopCfgFast, .loopCfgGroup, .loopCfgGsEn, .loopCfgGsTable, .loopCfgRcEn, .loopCfgRcTable,
    .loopCfgFrame, .loopCfgFbSrc, .loopCfgOutDst, .loopProgBase, .loopProgLen, .loopLimitsOutMin, .loopLimitsOutMax,
    .loopSpSpConst, .loopSpSpSrc, .loopSpSpLoop, .loopSafeSafe, .loopSafeSafeHold]

/-- Every RWC field of Copper (R333). -/
def cleFields : List CleFld :=
  loopFields ++ [.progInstr, .dinitValue, .gsFbp01Fbp0, .gsFbp01Fbp1, .gsFbp23Fbp2, .gsFbp23Fbp3, .gsPbp01Pbp0,
    .gsPbp01Pbp1, .gsPbp23Pbp2, .gsPbp23Pbp3, .gsKKp, .gsKKi, .gsToutTout, .rcCfgEnable, .rcCfgDecode, .rcCfgPrefill,
    .rcCfgDieMask, .rcCfgStream, .rcCfgLeadUs, .rcGainL, .rcGainKFf]

/-- Commit every instance of a list of fields at once (R7). -/
def State.commitWhole (s : State) (fs : List Fld) : State :=
  let codes := fs.map Fld.code
  let rest := s.live.filter fun e => !codes.contains (e.1 % 8192)
  { s with live := (s.regs.filter fun e => codes.contains (e.1 % 8192)).foldl (fun m e => m.set e.1 e.2) rest }

/-- Does a commit change a loop's descriptor or program (R333)? -/
def State.loopChanged (s : State) (l : Nat) : Bool :=
  (loopFields.any fun f => s.changed (.cle f) l) || s.shProg l != s.loopProg l

/-- A changed loop starts afresh, in both Kilns, with the inputs of the period that begins (R333). -/
def State.freshLoop (s : State) (l : Nat) : State :=
  let s := if s.loopOn l then
      let base := 32 * s.loopF .loopCfgFrame l
      (List.range 32).foldl (fun s i =>
        let x := s.getLive (.cle .dinitValue) (base + i)
        (s.setF (.cle .dataValue) (base + i) x).setShadow (base + i) (signed 16 x)) s
    else s
  let x := s.loopIn l
  let s := s.modLoop l fun y => { y with
    due := true, inp := x, staged := none, shadowInp := x, shadowStaged := none, uPrev := s.loopOut l, good := 0,
    stuck := false, inTable := false }
  let s := s.setF (.cle .loopStatusConsecOvr) l 0
  s.setLoopState l (if s.loopOn l then s.loopState l else 0)

/-- The constants of the data memory (R317). -/
def copperConsts : List (Nat × Int) := [(0, 0), (1, 32767), (2, -32768)]

/-- Both engines load the constants. -/
def State.copperConstants (s : State) : State :=
  copperConsts.foldl (fun s e => (s.setData e.1 e.2).setShadow e.1 e.2) s

/-- The committed set comes into force (R333, R340). -/
def State.applyCle (s : State) : State :=
  let f := s.loopLoad true
  let sl := s.loopLoad false
  let chg := (List.range 32).filter s.loopChanged
  let newTables := (List.range 8).filter fun z => s.flag (.cle .rcCfgEnable) z && !s.liveFlag (.cle .rcCfgEnable) z
  let s := (s.commitWhole (cleFields.map Fld.cle)).copperConstants
  let s := chg.foldl (fun s l => s.freshLoop l) s
  let s := newTables.foldl (fun s z => s.clearCells z) s
  let s := (s.setF (.cle .loadFastF) 0 f).setF (.cle .loadSlowS) 0 sl
  (s.setF (.cle .commitStatusErr) 0 0).setF (.cle .commitStatusErrLoop) 0 0

/-- A write of CLE_COMMIT: the checked set goes to the standby and waits for the slow period of effect; a refused one
changes nothing (R7, R333, R335). A commit written while one runs is held (R475). -/
def State.startCleCommit (s : State) : State :=
  if s.flag (.cle .commitStatusBusy) then
    if s.heldCommits.contains 0xC then s else { s with heldCommits := s.heldCommits ++ [0xC] }
  else
    let (e, l) := s.checkCle
    if e = 0 then s.setF (.cle .commitStatusBusy) 0 1
    else (s.setF (.cle .commitStatusErr) 0 e).setF (.cle .commitStatusErrLoop) 0 l

/-- CLE_COMMIT (R333). -/
def execCleCommit (s : State) : Host.Outcome State Fault Refusal :=
  .next (if s.isOn .aux && s.active.isSome then s.startCleCommit else s)

/-- CLE_COMMIT_APPLY (R333): both Kilns apply the set at the start of one slow period. -/
def execCleCommitApply (s : State) : Host.Outcome State Fault Refusal :=
  .next (if s.isOn .aux && s.active.isSome && s.flag (.cle .commitStatusBusy) then
    s.applyCle.setF (.cle .commitStatusBusy) 0 0
  else s)

end Sys2Proof.Machine
end

