-- ==== Sys2Proof/Machine/RegWrite.lean ====
section
/-!
DEFINITION. Writing the control space (R5 to R8, R474 to R476): the plain effect of the access codes, writes held during a
commit (R7, R475), and the registers of every block but MOD, THL and KLN that act on a write.
-/

namespace Sys2Proof.Machine

/-! ### The access codes (R5) -/

/-- The bits of data that belong to a field of a register. -/
def RegRow.val (r : RegRow) (data : Nat) (f : Fld) : Nat :=
  match r.flds.find? fun x => decide (x.fld = f) with
  | some x => bits data x.hi x.lo
  | none => 0

/-- Clear the bits of a field that a write sets (W1C). -/
def State.clearOnes (s : State) (f : Fld) (i v : Nat) : State := s.setF f i (s.getF f i &&& (2 ^ f.width - 1 - v))

/-- What a write of data does to one field of instance k of a register: RW and RWC take the value, W1C clears; WO and W1S
act elsewhere, RO ignores it (R5). -/
def State.writeField (s : State) (k data : Nat) (x : RegFld) : State :=
  let v := bits data x.hi x.lo
  match x.acc with
  | .rw => s.setF x.fld (k * x.mul + x.add) v
  | .rwc => s.setF x.fld (k * x.mul + x.add) v
  | .w1c => s.clearOnes x.fld (k * x.mul + x.add) (v % 2 ^ x.fld.width)
  | .ro => s
  | .wo => s
  | .w1s => s

/-- A write that has no effect beyond the access codes. -/
def State.plainWrite (s : State) (r : RegRow) (k data : Nat) : State :=
  r.flds.foldl (fun s x => s.writeField k data x) s

/-- The domain of a register is on, and a cluster's window is not gated (R63, R474, R476). -/
def State.rowOn (s : State) (r : RegRow) (k : Nat) : Bool :=
  match r.flds with
  | [] => true
  | x :: _ => match x.fld with
    | .clu _ => s.cluWrites (k * x.mul + x.add)
    | f => s.isOn (fieldDomain f (k * x.mul + x.add))

/-- Has a register an RWC field? -/
def RegRow.hasRwc (r : RegRow) : Bool := r.flds.any fun x => decide (x.acc = .rwc)

/-- Does a commit of a block run (R7)? The commits of the other blocks end in the step that starts them. -/
def State.blockBusy (s : State) (b : Nat) : Bool :=
  match b with
  | 2 => s.flag (.grb .commitStatusBusy)
  | 7 => s.flag (.mil .commitStatusBusy)
  | 0xC => s.flag (.cle .commitStatusBusy)
  | 0xF => s.flag (.csk .commitStatusBusy)
  | _ => false

/-- A write of 1 to the COMMIT field of a block: it runs, or is held while a commit of the block runs (R475). -/
def State.commitBlock (s : State) (b : Nat) : State :=
  if s.blockBusy b then
    if s.heldCommits.contains b then s else { s with heldCommits := s.heldCommits ++ [b] }
  else
    match b with
    | 2 => s.commitGrb
    | 6 => s.commitMem
    | 7 => s.commitMil
    | 8 => s.commitIxf
    | 9 => s.commitPtn
    | 0xC => s.startCleCommit
    | 0xE => s.commitRow
    | 0xF => s.commitCsk
    | _ => s

/-! ### Registers that act -/

/-- What a write does at a register of GRB, STG, WIQ or MEM. -/
def State.writeCompute (s : State) (r : RegRow) (k data : Nat) (f : Fld) : State :=
  match f with
  | .grb .capHostCapW => s.capHost data
  | .grb .rackCfgLeaseS => s.rackCfg data
  | .grb .commitCommit => if data % 2 = 1 then s.commitBlock 2 else s
  | .stg .signalGateId => s.stgSignal data
  | .stg .gateCtrlCommit =>
    let s := if r.val data (.stg .gateCtrlCommit) = 1 then s.commitGate k else s
    if r.val data (.stg .gateCtrlReset) = 1 then s.resetGate k .reset else s
  | .wiq .ctrlClaimStop => s.claimStopWrite data
  | .wiq .ringCommitCommit => if data % 2 = 1 then s.commitRing k else s
  | .wiq .ringCtrlEnable =>
    let s := s.enableWrite k data
    if r.val data (.wiq .ringCtrlCancel) = 1 then s.cancelRing k else s
  | .wiq .ringProdProd => s.prodWrite k data []
  | .wiq .ringConsCons => s.consWrite k data
  | .mem .spareCtrlLch =>
    let s := s.plainWrite r k data
    if r.val data (.mem .spareCtrlStart) = 1 then s.spareStart k (r.val data (.mem .spareCtrlLch)) else s
  | .mem .commitCommit => if data % 2 = 1 then s.commitBlock 6 else s
  | _ => s.plainWrite r k data

/-- What a write does at a register of MIL, IXF, PTN or a cluster. -/
def State.writeFabric (s : State) (r : RegRow) (k data : Nat) (f : Fld) : State :=
  match f with
  | .mil .commitCommit => if data % 2 = 1 then s.commitBlock 7 else s
  | .ixf .commitCommit => if data % 2 = 1 then s.commitBlock 8 else s
  | .ixf .fenceClrId => s.fenceClear (r.val data (.ixf .fenceClrId))
  | .ixf .reachQueryId => s.reachQuery (r.val data (.ixf .reachQueryId))
  | .ixf .portCtrlEnable =>
    let s := s.portEnable k (r.val data (.ixf .portCtrlEnable))
    let s := s.portPark k (r.val data (.ixf .portCtrlPark))
    if r.val data (.ixf .portCtrlRetrain) = 1 then s.retrainWrite k else s
  | .ptn .ctrlEnable =>
    let s := s.ptnEnable (r.val data (.ptn .ctrlEnable))
    let s := if r.val data (.ptn .ctrlRetrain) = 1 then s.ptnRetrain else s
    if r.val data (.ptn .ctrlFenceClr) = 1 then s.ptnFenceClear else s
  | .ptn .commitCommit => if data % 2 = 1 then s.commitBlock 9 else s
  | .clu .ctrlHalt => s.haltWrite k data
  | .clu .srSeedHiSeedHi => s.seedWrite k data
  | _ => s.plainWrite r k data

/-- What a write does at a register of the Kiln blocks CLE, DRV, ROW, CSK, BST and SEC, but for those of the coolant that
act. -/
def State.writeKilnBlock (s : State) (r : RegRow) (k data : Nat) (f : Fld) : State :=
  match f with
  | .cle .commitCommit => if data % 2 = 1 then s.commitBlock 0xC else s
  | .drv .pumpCtrlEnable => s.pumpCtrlWrite k data
  | .row .commitCommit => if data % 2 = 1 then s.commitBlock 0xE else s
  | .row .portCtrlCancel =>
    let s := (List.range 3).foldl (fun s b =>
      if (r.val data (.row .portCtrlCancel)).testBit b then
        s.txbCancel k b (((s.rowQueue k b).map (·.begun)).headD false) else s) s
    if r.val data (.row .portCtrlClashClr) = 1 then s.clashClear k else s
  | .csk .commitCommit => if data % 2 = 1 then s.commitBlock 0xF else s
  | .csk .markValue => s.cskMark data
  | .csk .rdSeqSeq => s.cskRdSeq data
  | _ => s.plainWrite r k data

/-- Hold a write to an RWC register while a commit of its block runs (R7). -/
def State.holdWrite (s : State) (b a data : Nat) : State :=
  { s with heldWrites := s.heldWrites ++ [(b, a, data)] }

/-- A write to a register of a block other than MOD, THL, KLN and the acting coolant registers. -/
def State.blockWrite (s : State) (b a : Nat) (r : RegRow) (k data : Nat) : State :=
  if !s.rowOn r k then s
  else if r.hasRwc && s.blockBusy b then s.holdWrite b a data
  else match r.flds with
    | [] => s
    | x :: _ =>
      match b with
      | 2 | 3 | 4 | 5 | 6 => s.writeCompute r k data x.fld
      | 7 | 8 | 9 | 0x12 => s.writeFabric r k data x.fld
      | _ => s.writeKilnBlock r k data x.fld

end Sys2Proof.Machine
end

