-- ==== Sys2Proof/Machine/Images.lean ====
section
/-!
DEFINITION. The security store: one-time-programmable generations and the settings they give (R391, R392, R399), image
headers and their checks (R383, R384), the selection of a Kiln image (R386), and the body of a configuration image (R393 to
R395).
-/

namespace Sys2Proof.Machine

/-- Bytes a to a + n - 1 of a list of bytes. -/
def slice (l : List Byte) (a n : Nat) : List Byte := (l.drop a).take n

/-- The little-endian number in bytes a to a + n - 1 (R2). -/
def field (l : List Byte) (a n : Nat) : Nat := leNat (slice l a n)

/-- Are bytes a to a + n - 1 all zero? -/
def zeros (l : List Byte) (a n : Nat) : Bool := (slice l a n).all (· == 0)

/-! ### One-time-programmable settings (R391, R392) -/

/-- Generation g; empty while unwritten. -/
def State.otpGen (s : State) (g : Nat) : List Byte := s.sec.otp.getD g []

/-- Has generation g been written? -/
def State.otpWritten (s : State) (g : Nat) : Bool := !(s.otpGen g).isEmpty

/-- Are the CRC and GEN_NO of generation g right? -/
def State.otpValid (s : State) (g : Nat) : Bool :=
  let b := s.otpGen g
  b.length == 384 && field b 1 1 == g && crc32c (b.take 380) == field b 380 4

/-- The valid generations, in order. -/
def State.otpGens (s : State) : List Nat := (List.range 5).filter s.otpValid

/-- The OR of a byte over the valid generations. -/
def State.otpOr (s : State) (a : Nat) : Nat := (s.otpGens.map fun g => field (s.otpGen g) a 1).foldl (· ||| ·) 0

/-- The maximum of a word over the valid generations. -/
def State.otpMax (s : State) (a : Nat) : Nat := (s.otpGens.map fun g => field (s.otpGen g) a 4).foldl max 0

/-- The sum of 2^g over the generations that satisfy p. -/
def genMask (p : Nat → Bool) : Nat := ((List.range 5).map fun g => if p g then 2 ^ g else 0).sum

/-- Generation g is bad: written and invalid; generation 0, which the factory writes, is also bad unwritten. -/
def State.otpBad (s : State) (g : Nat) : Bool := (s.otpWritten g || g == 0) && !s.otpValid g

/-- Show which generations are written, and whether a spare one is left (R403). -/
def State.showWritten (s : State) : State :=
  (s.setF (.sec .otpStatusWritten) 0 (genMask s.otpWritten)).setFlag (.sec .otpStatusFull) 0
    ([1, 2, 3, 4].all s.otpWritten)

/-- The ROMs read the generations: the effective settings until the next AUX power-up (R385 step 1, R392). -/
def State.readOtp (s : State) : State :=
  let topGen := s.otpGens.foldl max 0
  let t := if s.otpGens.isEmpty then List.replicate 384 0 else s.otpGen topGen
  let s := (s.showWritten.setF (.sec .otpStatusGenTop) 0 topGen).setF (.sec .otpStatusBad) 0 (genMask s.otpBad)
  let s := (s.setF (.sec .otpSettingsKeyRevoke) 0 (s.otpOr 2)).setF (.sec .otpSettingsRefclkExtOk) 0 (s.otpOr 3)
  let s := s.setF (.sec .otpSettingsDebugLock) 0 (s.otpOr 3 / 2)
  let s := s.setFlag (.sec .otpSettingsOwnerRequired) 0 ((field t 3 1).testBit 2)
  let s := s.setFlag (.sec .otpSettingsOwnerSet) 0 (!zeros t 32 32)
  let s := (s.setF (.sec .otpSettingsCapCeil) 0 (field t 4 2)).setF (.sec .svnKilnSvn) 0 (s.otpMax 8)
  (s.setF (.sec .svnDieSvn) 0 (s.otpMax 12)).setF (.sec .svnConfigSvn) 0 (s.otpMax 16)

/-- Is generation 0 invalid (R392)? -/
def State.gen0Bad (s : State) : Bool := (s.getF (.sec .otpStatusBad)).testBit 0

/-- Is a firmware key slot revoked, by the effective settings? -/
def State.revoked (s : State) (slot : Nat) : Bool := (s.getF (.sec .otpSettingsKeyRevoke)).testBit slot

/-- Does check 4 of R384 accept a key hash for a slot, for an image that is a configuration image or not, golden or not? -/
def State.keyPasses (s : State) (slot : Nat) (hash : List Byte) (config golden : Bool) : Bool :=
  let owner := !(config && !golden && s.flag (.sec .otpSettingsOwnerRequired) && slot != 4)
  if s.gen0Bad then owner && slot == 0 && hash == Config.romKeyHash && !s.revoked 0
  else if slot < 4 then owner && hash == slice (s.otpGen 0) (64 + 32 * slot) 32 && !s.revoked slot
  else slot == 4 && config && s.flag (.sec .otpSettingsOwnerSet) &&
    hash == slice (s.otpGen (s.getF (.sec .otpStatusGenTop))) 32 32

/-! ### Images (R380, R383, R384) -/

/-- Size of a partition in bytes (R380). -/
def partSize (p : Nat) : Nat :=
  match p with
  | 2 | 5 => 16 * 2 ^ 20
  | 3 | 6 => 4 * 2 ^ 20
  | _ => 8 * 2 ^ 20

/-- KIND of the images of a partition. -/
def partKind (p : Nat) : Nat :=
  match p with
  | 0 | 1 | 4 => 1
  | 2 | 5 => 2
  | _ => 3

/-- Is a partition golden? -/
def partGolden (p : Nat) : Bool := decide (4 ≤ p)

/-- n bytes at offset a of a stored image; what has not been written reads 0xFF, as erased NOR does. -/
def norSlice (l : List Byte) (a n : Nat) : List Byte :=
  let x := slice l a n
  x ++ List.replicate (n - x.length) 0xFF

/-- What a partition holds. -/
def State.part (s : State) (p : Nat) : List Byte := s.sec.parts.getD p []

/-- FORMAT (R384): MAGIC, VER, GEN and HDR_LEN as R383 gives them, every reserved field 0, COMPAT 0 but in Kiln images. -/
def goodFormat (h : List Byte) : Bool :=
  slice h 0 4 == [0x4C, 0x4D, 0x46, 0x49] && field h 4 1 == 1 && field h 6 1 == 1 && field h 8 4 == 256 &&
    field h 7 1 / 2 == 0 && zeros h 25 7 && zeros h 192 64 && (field h 5 1 == 1 || zeros h 22 2)

/-- Is FLAGS.GOLDEN set? -/
def hdrGolden (h : List Byte) : Bool := (field h 7 1).testBit 0

/-- LENGTH (R384): BODY_LEN fits room less the header. -/
def goodLength (h : List Byte) (kind room : Nat) : Bool :=
  let n := field h 12 4
  decide (n + 256 ≤ room) && (if kind = 3 then decide (8 ≤ n) else decide (0 < n))

/-- The effective minimum SVN of a kind. -/
def State.minSvn (s : State) (kind : Nat) : Nat :=
  match kind with
  | 1 => s.getF (.sec .svnKilnSvn)
  | 2 => s.getF (.sec .svnDieSvn)
  | _ => s.getF (.sec .svnConfigSvn)

/-- The checks of R384 in their order on an image of a kind in room bytes; 0 when all pass. kindOk says whether check 2 also
accepts a golden image. -/
def State.imageCheck (s : State) (img : List Byte) (kind : Nat) (golden : Bool) (room : Nat) (readOk : Bool) : Nat :=
  let h := norSlice img 0 256
  let body := norSlice img 256 (field h 12 4)
  if !readOk then 9
  else if !goodFormat h then 1
  else if field h 5 1 ≠ kind ∨ hdrGolden h ≠ golden then 2
  else if !goodLength h kind room then 3
  else if !s.keyPasses (field h 24 1) ((sha512 (slice h 96 32)).take 32) (kind == 3) golden then 4
  else if !edVerify (slice h 96 32) (h.take 128) (slice h 128 64) then 5
  else if sha512 body ≠ slice h 32 64 then 6
  else if !golden ∧ field h 16 4 < s.minSvn kind then 7
  else 0

/-- The check of what stands in a partition, against its own kind; a compute-die partition re-flashed from golden is held
against the golden rules (R277). A NOR that has failed cannot be read. -/
def State.partCheck (s : State) (p : Nat) : Nat :=
  s.imageCheck (s.part p) (partKind p) (partGolden p || (p == 2 && s.sec.reflashed.contains 2)) (partSize p)
    (!s.flag (.csk .statusNorFailed))

/-- Keep the outcome of a verification (R403). -/
def State.lastVerify (s : State) (part check sect blockErr : Nat) : State :=
  let s := (s.setF (.sec .lastVerifyPartition) 0 part).setF (.sec .lastVerifyCheck) 0 check
  (s.setF (.sec .lastVerifySection) 0 sect).setF (.sec .lastVerifyBlockErr) 0 blockErr

/-- A verification has run: its outcome is kept, and a failure counted. -/
def State.verified (s : State) (part check : Nat) : State :=
  let s := s.lastVerify part check 0 0
  if check = 0 then s else s.addSat (.sec .verifyFailsCount) 0 1

/-- A verification that Kiln firmware has run: a failure is also the event VERIFY_FAIL (R402). -/
def State.verifiedEvent (s : State) (part check : Nat) : State :=
  let s := s.verified part check
  if check = 0 then s else s.post 0x0B 0x04 1 (part + 256 * check)

/-! ### Kiln image selection (R386, R387) -/

/-- The retention count of a Kiln and an image, 0 for A or 1 for B. -/
def retField (k : Kiln) (x : Nat) : Fld :=
  match k, x with
  | .ka, 0 => .sec .bootRetKaA
  | .ka, _ => .sec .bootRetKaB
  | .kb, 0 => .sec .bootRetKbA
  | .kb, _ => .sec .bootRetKbB

/-- Which image a Kiln runs. -/
def imageField (k : Kiln) : Fld :=
  match k with
  | .ka => .sec .bootKaImage
  | .kb => .sec .bootKbImage

/-- State of Kiln image A or B in the boot state block. -/
def State.imgState (s : State) (x : Nat) : Nat := s.sec.imgState.getD x 0

/-- Write the boot state block; a failed NOR keeps the state in the Kilns alone (R387, R445). -/
def State.setImgState (s : State) (x v : Nat) : State :=
  let states := listSet s.sec.imgState x v
  let stored := if s.flag (.csk .statusNorFailed) then s.sec.norImg else states
  { s with sec := { s.sec with imgState := states, norImg := stored } }

/-- May a Kiln select image x? -/
def State.imageCandidate (s : State) (k : Kiln) (x : Nat) : Bool :=
  s.partCheck x == 0 && s.imgState x != 3 && decide (s.getF (retField k x) < 3)

/-- FW_VER of a stored image. -/
def State.partFwVer (s : State) (p : Nat) : Nat := field (s.part p) 20 2

/-- The partition that select() of R386 chooses for a Kiln: A, B or the golden image. -/
def State.selectImage (s : State) (k : Kiln) : Nat :=
  match s.imageCandidate k 0, s.imageCandidate k 1 with
  | false, false => 4
  | true, false => 0
  | false, true => 1
  | true, true => if s.partFwVer 1 > s.partFwVer 0 then 1 else 0

/-- Change a Kiln beside its registers. -/
def State.modKiln (s : State) (k : Kiln) (f : KilnState → KilnState) : State :=
  match k with
  | .ka => { s with kln := { s.kln with ka := f s.kln.ka } }
  | .kb => { s with kln := { s.kln with kb := f s.kln.kb } }

/-- The ROM of a Kiln selects, verifies and loads an image (R386): the retention count, SEC_BOOT, FW_VER and COMPAT. With
no valid image it stays in ROM. -/
def State.romLoad (s : State) (k : Kiln) : State :=
  let s := [0, 1].foldl (fun s x => if s.partCheck x = 0 then s else s.verified x (s.partCheck x)) s
  let x := s.selectImage k
  let s := if x < 2 then s.addSat (retField k x) 0 1 else s
  let s := s.verified x (s.partCheck x)
  if s.partCheck x = 0 then
    let h := norSlice (s.part x) 0 256
    let s := (s.setF (imageField k) 0 (min x 2)).setF (.kln .roleFwVer) (kilnIdx k) (field h 20 2)
    let s := s.modKiln k fun n => { n with up := true, compat := field h 22 2, fwVer := field h 20 2 }
    match k with
    | .ka => { s with sec := { s.sec with kaHdr := h } }
    | .kb => { s with sec := { s.sec with kbHdr := h } }
  else
    let s := s.setF (imageField k) 0 3
    s.modKiln k fun n => { n with up := false }

/-! ### The body of a configuration image (R393 to R395) -/

/-- The sections of a body from offset o on: TYPE and data of each; the index of the first that is malformed otherwise.
seen holds the types so far. -/
def parseSections : Nat → List Byte → Nat → List Nat → Except Nat (List (Nat × List Byte))
  | 0, _, _, _ => .ok []
  | n + 1, b, i, seen =>
    let len := field b 4 4
    let room := (len + 7) / 8 * 8
    let typ := field b 0 2
    if decide (b.length < 8 + room) || field b 2 1 != 1 || field b 3 1 != 0 || typ == 0 || decide (typ > 10) ||
        seen.contains typ || !zeros b (8 + len) (room - len) then .error i
    else
      match parseSections n (b.drop (8 + room)) (i + 1) (typ :: seen) with
      | .ok t => .ok ((typ, slice b 8 len) :: t)
      | .error j => .error j

/-- The sections of a body; bytes past the last section are not looked at. -/
def sectionsOf (body : List Byte) : Except Nat (List (Nat × List Byte)) :=
  if !zeros body 2 6 then .error 0 else parseSections (field body 0 2) (body.drop 8) 0 []

/-- The entries of a register list. -/
def regEntries (d : List Byte) : List (Nat × Nat) :=
  (List.range (d.length / 8)).map fun i => (field d (8 * i) 4, field d (8 * i + 4) 4)

/-- The blocks, by number, that a section's register list may name. -/
def sectionBlocks (typ : Nat) : List Nat :=
  match typ with
  | 2 => [2]
  | 3 => [5, 6]
  | 4 => [7]
  | 5 => [8]
  | 6 => [9]
  | 7 => [0xC]
  | 9 => [0xE]
  | _ => []

/-- May a register list of a section name an address: an RW or RWC register of the block, for CLE one of its shadow set? -/
def goodEntry (typ a : Nat) : Bool :=
  a % 4 == 0 && (match blockOf a with
    | some b => (sectionBlocks typ).contains b
    | none => false) &&
    (match regAt a with
    | some (r, _) => r.hasRwc || (typ != 7 && r.flds.any fun x => decide (x.acc = .rw))
    | none => false)

/-- Are the values of a MODULE section in the ranges of R394? -/
def goodModule (d : List Byte) : Bool :=
  let within := fun (x a b : Nat) => decide (a ≤ x ∧ x ≤ b)
  d.length == 16 && !(field d 0 2).testBit 14 && ((List.range 4).all fun n => within (field d (2 + n) 1) 10 18) &&
    within (field d 6 1) 40 60 && within (field d 7 1) 10 30 && within (field d 8 1) (field d 7 1 + 1) 60 &&
    within (field d 9 1) 2 10 && within (field d 10 1) 10 30 && zeros d 11 1 && within (field d 12 2) 600 3000 &&
    zeros d 14 2

/-- Is a MODEL section well formed (R395)? -/
def goodModel (d : List Byte) : Bool :=
  decide (40 ≤ d.length) && d.length % 8 == 0 && zeros d 34 6 &&
    (List.range ((d.length - 40) / 8)).all fun i => sensKnown (field d (40 + 8 * i) 2)

/-- Step 2 of R396 for one section: its length, ranges and addresses. -/
def goodSection (t : Nat × List Byte) : Bool :=
  match t.1 with
  | 1 => goodModule t.2
  | 8 => goodModel t.2
  | 0xA => t.2.length == 472
  | typ => t.2.length % 8 == 0 && (regEntries t.2).all fun e => goodEntry typ e.1

/-- Steps 1 and 2 of R396 on a body that verifies: its sections, or the index of the failing one. -/
def checkedSections (body : List Byte) : Except Nat (List (Nat × List Byte)) :=
  match sectionsOf body with
  | .error i => .error i
  | .ok l => match l.findIdx? fun t => !goodSection t with
    | some i => .error i
    | none => .ok l

/-- The data of the section of a type, and its index. -/
def sectionOf (l : List (Nat × List Byte)) (typ : Nat) : Option (Nat × List Byte) :=
  match l.findIdx? fun t => t.1 == typ with
  | some i => some (i, (l.getD i (0, [])).2)
  | none => none

/-- The coefficients of a MODEL section over those of the factory (R395). -/
def modelOf (d : List Byte) (old : SMap ModelEntry) : Model :=
  { kv0 := field d 0 2, a := (List.range 8).map fun z => field d (2 + 2 * z) 2,
    b := (List.range 8).map fun z => field d (18 + 2 * z) 2,
    entries := (List.range ((d.length - 40) / 8)).foldl (fun m i =>
      m.set (field d (40 + 8 * i) 2) ⟨field d (42 + 8 * i) 2, field d (44 + 8 * i) 4⟩) old }

/-- The factory coefficients: the MODEL section of the golden configuration image, where that image passes its checks. -/
def State.goldenModel (s : State) : Model :=
  let none' : Model := { kv0 := 0, a := [], b := [], entries := [] }
  if s.partCheck 6 ≠ 0 then none'
  else match sectionsOf (norSlice (s.part 6) 256 (field (s.part 6) 12 4)) with
    | .ok l => match sectionOf l 8 with
      | some (_, d) => if goodModel d then modelOf d [] else none'
      | none => none'
    | .error _ => none'

/-! ### Programming a generation (R399) -/

/-- Does an OTP section hold everything R399 asks for? -/
def State.goodOtp (s : State) (d : List Byte) : Bool :=
  let r := d.take 384
  let slot := field d 400 1
  let key := Config.fwPublicKey slot
  let gen := (List.range 5).find? fun g => !s.otpWritten g
  let revoke := s.otpOr 2 % 16
  d.length == 472 && slice d 384 16 == s.sec.serial && decide (slot < 4) && !revoke.testBit slot && zeros d 401 7 &&
    (sha512 key).take 32 == slice (s.otpGen 0) (64 + 32 * slot) 32 && s.otpValid 0 &&
    edVerify key (d.take 408) (slice d 408 64) &&
    field r 0 1 == 1 && gen == some (field r 1 1) && field r 1 1 != 0 && crc32c (r.take 380) == field r 380 4 &&
    decide (field r 2 1 < 16) && (field r 2 1 ||| revoke) == field r 2 1 && field r 2 1 != 15 &&
    decide (field r 3 1 < 8) && (!(s.otpOr 3).testBit 1 || (field r 3 1).testBit 1) &&
    (field r 4 2 == 0 || decide (700 ≤ field r 4 2 ∧ field r 4 2 ≤ 3600)) &&
    decide (s.otpMax 8 ≤ field r 8 4 ∧ s.otpMax 12 ≤ field r 12 4 ∧ s.otpMax 16 ≤ field r 16 4) &&
    zeros r 6 2 && zeros r 20 12 && zeros r 64 192 && zeros r 256 124

/-- Program the generation of an OTP section, with the event OTP_WRITTEN (R399, R402). -/
def State.programOtp (s : State) (d : List Byte) : State :=
  let g := field (d.take 384) 1 1
  let s := { s with sec := { s.sec with otp := listSet s.sec.otp g (d.take 384) } }
  s.showWritten.post 0x0B 0x06 1 g

/-! ### Applying a configuration (R396, R397) -/

/-- Has the entry's register an RWC field? -/
def entryRwc (a : Nat) : Bool :=
  match regAt a with
  | some (r, _) => r.hasRwc
  | none => false

/-- Write the shadow fields of a register list (R396 step 4). -/
def State.writeShadow (s : State) (l : List (Nat × Nat)) : State :=
  l.foldl (fun s e => match regAt e.1 with
    | some (r, k) => if r.hasRwc && s.rowOn r k then s.plainWrite r k e.2 else s
    | none => s) s

/-- Write the RW registers of a register list, with their effects, at the commit point. -/
def State.writeDirect (s : State) (l : List (Nat × Nat)) : State :=
  l.foldl (fun s e => match regAt e.1, blockOf e.1 with
    | some (r, k), some b => if r.hasRwc then s else s.blockWrite b e.1 r k e.2
    | _, _ => s) s

/-- Commit the block of a section; answers its commit code. -/
def State.commitSection (s : State) (typ : Nat) : State × Nat :=
  match typ with
  | 2 => let t := s.commitGrb; (t, t.getF (.grb .commitStatusErr))
  | 3 => let t := s.commitMem; (t, t.getF (.mem .commitStatusErr))
  | 4 => let t := s.commitMil; (t, t.getF (.mil .commitStatusErr))
  | 5 => let t := s.commitIxf; (t, t.getF (.ixf .commitStatusErr))
  | 6 => let t := s.commitPtn; (t, t.getF (.ptn .commitStatusErr))
  | 9 => let t := s.commitRow; (t, t.getF (.row .commitStatusErr))
  | _ =>
    let (e, l) := s.checkCle
    if e = 0 then (s.applyCle.setF (.cle .commitStatusBusy) 0 0, 0)
    else ((s.setF (.cle .commitStatusErr) 0 e).setF (.cle .commitStatusErrLoop) 0 l, e)

/-- The MODULE values (R394): refused with the code of IXF for an ID that changes while a link is up (R230). -/
def State.applyModule (s : State) (d : List Byte) : State × Nat :=
  let ident := field d 0 2 % 2 ^ 14
  let valid := field d 0 2 / 2 ^ 15
  let new := ident != s.getLive (.ixf .moduleIdId) || valid != s.getLive (.ixf .moduleIdValid)
  if new && s.linksBusy then (s, 1)
  else
    let s := (s.setF (.ixf .moduleIdId) 0 ident).setF (.ixf .moduleIdValid) 0 valid
    let s := (s.commitAll [.ixf .moduleIdId, .ixf .moduleIdValid]).idValid
    let s := { s with power := { s.power with cclkNext := (List.range 4).map fun n => field d (2 + n) 1 } }
    let s := (s.setF (.cle .coolCfgTRetMax) 0 (field d 6 1)).setF (.cle .coolCfgFlowLoss) 0 (field d 7 1)
    let s := (s.setF (.cle .coolCfgFlowReturn) 0 (field d 8 1)).setF (.drv .cfgPullinMs) 0 (field d 9 1)
    ((s.setF (.drv .cfgHeadKpa) 0 (field d 10 1)).setF (.drv .cfgMinRpm) 0 (field d 12 2), 0)

/-- Put the value of one section in force; answers the commit code of its block, 0 for none. sel picks the entries of a
register list that are applied. A GRB commit that still waits is completed first (R7; log entry 60). -/
def State.applySection (s : State) (typ : Nat) (d : List Byte) (sel : Nat → Bool) : State × Nat :=
  match typ with
  | 1 => s.applyModule d
  | 8 => ({ s with cool := { s.cool with model := modelOf d s.goldenModel.entries } }, 0)
  | _ =>
    let l := (regEntries d).filter fun e => sel e.1
    let s := if typ = 2 then s.takeGrbSet.takeWeights else s
    match (s.writeShadow l).commitSection typ with
    | (t, 0) => (t.writeDirect l, 0)
    | (t, e) => (t, e)

/-- Put sections in force in an order of types; answers the index and the code of the first that a commit check refuses. -/
def State.applyOrder (s : State) (l : List (Nat × List Byte)) (sel : Nat → Bool) : List Nat → State × Option (Nat × Nat)
  | [] => (s, none)
  | typ :: t =>
    match sectionOf l typ with
    | none => s.applyOrder l sel t
    | some (i, d) =>
      match s.applySection typ d sel with
      | (s', 0) => s'.applyOrder l sel t
      | (_, e) => (s, some (i, e))

/-- Steps 4 and 6 of R396 for the types of an order: all of them, or none, with PRECHECK, the section and the block's code
kept. R106 holds while a configuration is applied: nothing runs at start-up, and CONFIGURE requires a drain. -/
def State.applyConfig (s : State) (l : List (Nat × List Byte)) (sel : Nat → Bool) (order : List Nat) (part : Nat) :
    State × Bool :=
  let stop := s.getF (.wiq .ctrlClaimStop)
  match (s.setF (.wiq .ctrlClaimStop) 0 1).applyOrder l sel order with
  | (t, none) => (t.setF (.wiq .ctrlClaimStop) 0 stop, true)
  | (_, some (i, e)) => (s.lastVerify part 10 i e, false)

/-- The order of a CONFIGURE command (R396 step 6). -/
def wholeOrder : List Nat := [3, 4, 5, 6, 2, 9, 7, 1, 8]

/-- The first part at start-up: GRB global registers, ROW, CLE, MODULE and MODEL (R397). -/
def firstOrder : List Nat := [2, 9, 7, 1, 8]

/-- The second part: MEM, MIL, IXF, PTN, then the GRB per-die entries (R397). -/
def secondOrder : List Nat := [3, 4, 5, 6, 2]

/-- Is an address that of a GRB die or cluster register? -/
def grbPerDie (a : Nat) : Bool := decide (0x101000 ≤ a ∧ a < 0x200000)

/-- Which entries the first part applies. -/
def firstSel (a : Nat) : Bool := !grbPerDie a

/-- Which entries the second part applies: of the GRB, the per-die ones. -/
def secondSel (a : Nat) : Bool := grbPerDie a || decide (a < 0x100000 ∨ 0x200000 ≤ a)

/-- The OTP section at start-up (R397, R399): passed over when its record is already written, programmed otherwise. Answers
whether it passed. -/
def State.bootOtp (s : State) (l : List (Nat × List Byte)) (part : Nat) : State × Bool :=
  match sectionOf l 0xA with
  | none => (s, true)
  | some (i, d) =>
    if s.sec.otp.contains (d.take 384) then (s, true)
    else if s.goodOtp d then (s.programOtp d, true)
    else (s.lastVerify part 11 i 0, false)

end Sys2Proof.Machine
end

