-- ==== Sys2Proof/Machine/BootOps.lean ====
section
/-!
DEFINITION. Bringing the compute domains up (R385 step 8): the start-up test of the clusters and their remapping (R427,
R440, R441), the compute-die firmware (R277), training (R104), row repair (R431), the second part of the configuration
(R397), and a start-up that fails (R390).
-/

namespace Sys2Proof.Machine

/-! ### Absent clusters and remapping (R427, R439 to R441) -/

/-- The spares of a die that a remap may take: assigned to no logical cluster, not failed, last slice passed (R440). -/
def State.passedSpares (s : State) (n : Nat) : List Nat :=
  (dieRange n).filter fun c =>
    (s.logicalOf c).isNone && !(s.cl c).failed && (s.cl c).slicePassed && !(s.cl c).inSlice

/-- SPARES_GONE for the clusters of a die, once no spare is left (R436). -/
def State.clustersGone (s : State) (n : Nat) : State :=
  if (s.passedSpares n).isEmpty then s.testEvent 5 1 (16 * n) else s

/-- The logical number of a cluster becomes absent: its KLN_ABSENT bit and CLUSTER_ABSENT (R439, R448). The spare map keeps
the failed cluster until the remap. -/
def State.makeAbsent (s : State) (l c : Nat) : State :=
  let s := { s with spareMap := s.spareMap.set l none }
  let none' := if (s.passedSpares (c / 208)).isEmpty then 2 ^ 32 else 0
  (s.setAbsent l true).degEvent 1 1 (l + 2 ^ 16 * c + none')

/-- Assign an absent logical cluster to a spare (R440 steps 2 and 3): store of zeros, registers of reset, HALT 1, the record
CLUSTER_REMAP and the event. old is the cluster that failed. -/
def State.assignSpare (s : State) (l old c cause : Nat) : State :=
  let s := (s.ungateCluster c false).modCl c fun k =>
    { renewCluster k false with store := [], storeZero := true, slicePassed := k.slicePassed }
  let s := { s with spareMap := s.spareMap.set l (some c) }
  let s := s.addRepair 5 cause (l / 200) (l + 2 ^ 16 * old) c
  let s := (s.setAbsent l false).degEvent 2 0 (l + 2 ^ 16 * c)
  s.clustersGone (l / 200)

/-- The failed cluster that a logical one has lost: that of its remap record where one names no new cluster, else that of
the factory map. -/
def State.lostPhys (s : State) (l : Nat) : Nat :=
  match s.sec.repairs.reverse.find? fun r => r.rtype == 5 && bits r.word1 9 0 == l with
  | some r => if r.word2 = 0x3FF then bits r.word1 25 16 else r.word2
  | none => (s.factoryPhys l).getD 0x3FF

/-- The cause of a remap (R432): a failed slice, or, for a cluster that stopped twice on STORE_UE, one that the table does not
state: a free value. -/
def State.remapCause (s : State) (old : Nat) : Nat × State :=
  if (s.cl old).slicePassed then ((s.fresh 4).1.toNat, (s.fresh 4).2) else (8, s)

/-- Remap one absent logical cluster: to the lowest-numbered passed spare of its die, else it stays absent with a record that
carries 0x3FF (R440, R441). -/
def State.remap (s : State) (l : Nat) : State :=
  let n := l / 200
  let old := s.lostPhys l
  let (cause, s) := s.remapCause old
  match s.passedSpares n with
  | c :: _ => s.assignSpare l old c cause
  | [] =>
    if s.sec.repairs.any fun r => r.rtype == 5 && bits r.word1 9 0 == l && r.word2 == 0x3FF then s
    else s.addRepair 5 cause n (l + 2 ^ 16 * old) 0x3FF

/-- The absent logical clusters of a die whose remap is pending; of a failed die none is (R442, R446). -/
def State.pendingRemaps (s : State) (n : Nat) : List Nat :=
  if s.dieFailed n then []
  else ((s.spareMap.filter fun e => e.2.isNone && e.1 / 200 == n).map (·.1))

/-- Every pending remap of a die (R440). -/
def State.remapDie (s : State) (n : Nat) : State := (s.pendingRemaps n).foldl (fun s l => s.remap l) s

/-- A cluster has failed its start-up test (R427): its logical number goes to a passed spare, or stays absent; a spare is
removed from the map. The slice kind of the event is not stated: a free value. -/
def State.startupFail (s : State) (c : Nat) : State :=
  let n := c / 208
  let l := s.logicalOf c
  let s := s.modCl c fun k => { k with failed := true, slicePassed := false }
  let s := s.setF (.clu .statusGated) c 1
  let (kind, s) := s.fresh 8
  let s := s.testEvent 2 1 (kind.toNat + 2 ^ 16 * c + 2 ^ 32)
  match l with
  | none => (s.addRepair 5 6 n (0x3FF + 2 ^ 16 * c) 0x3FF).clustersGone n
  | some l =>
    match s.passedSpares n with
    | p :: _ =>
      let s := { s with spareMap := s.spareMap.set l (some p) }
      let s := (s.setF (.clu .statusGated) p 0).addRepair 5 6 n (l + 2 ^ 16 * c) p
      s.clustersGone n
    | [] => (s.makeAbsent l c).addRepair 5 6 n (l + 2 ^ 16 * c) 0x3FF

/-- The start-up test of the clusters of a die (R427): those that fail are named by the command. Those that fail are out of
the choice of a spare before the first is remapped. -/
def State.testClusters (s : State) (n : Nat) (bad : List Nat) : State :=
  let mine := (dieRange n).filter fun c => bad.contains c && !(s.cl c).failed
  let s := mine.foldl (fun s c => s.modCl c fun k => { k with slicePassed := false }) s
  mine.foldl (fun s c => s.startupFail c) s

/-! ### The compute-die firmware (R277) -/

/-- The firmware has been verified and is loaded. -/
def State.loadDieFirmware (s : State) : State :=
  let h := norSlice (s.part 2) 0 256
  ({ s with sec := { s.sec with dieHdr := h } } : State).setF (.sec .fwVerDieFw) 0 (field h 20 2)

/-- Verify the compute-die firmware and load it; where that fails the golden image is copied over it and verified there, at
most once in a power cycle. Answers whether it was loaded (R277, R445). -/
def State.dieFirmware (s : State) : State × Bool :=
  if s.flag (.csk .statusNorFailed) then (s.norRefuse 4, false)
  else
    let c := s.partCheck 2
    let s := s.verifiedEvent 2 c
    if c = 0 then (s.loadDieFirmware, true)
    else if s.sec.reflashed.contains 2 then (s, false)
    else
      let s := { s with sec := { s.sec with parts := s.sec.parts.set 2 (s.part 5), reflashed := s.sec.reflashed ++ [2] } }
      let s := (s.addSat (.kln .reflashCount) 0 1).setF (.kln .reflashLast) 0 2
      let c := s.partCheck 2
      let s := s.verifiedEvent 2 c
      if c = 0 then ((s.post 6 0x0A 1 2).loadDieFirmware, true) else (s.post 6 0x0A 2 (2 + 16), false)

/-! ### Training (R104, R120) -/

/-- The logical channel that a physical channel of a stack carries. -/
def State.logicalChannel (s : State) (k p : Nat) : Option Nat :=
  (List.range 128).find? fun l => s.getF (.mem .chMapPch) (128 * k + l) == p

/-- Replace a physical channel by the lowest free spare before any access (R104, R431); without one the stack fails for a
cause. -/
def State.replaceChannel (s : State) (k p cause failCause : Nat) : State :=
  match s.logicalChannel k p with
  | none => s
  | some l =>
    match s.freeSpares k with
    | [] => s.stackFail k failCause
    | q :: _ =>
      let s := (s.setF (.mem .chMapPch) (128 * k + l) q).setF (.mem .chCeSparedOut) (132 * k + p) 1
      let s := s.setF (.mem .statusSparesLeft) k (s.freeSpares k).length
      let s := (s.addRepair 1 cause k (l + 2 ^ 8 * p + 2 ^ 16 * q) 0).memEvent 1 (k + 2 ^ 8 * l)
      if (s.freeSpares k).isEmpty then s.testEvent 5 1 (1 + 2 ^ 8 * k) else s

/-- Train a stack: bad holds the physical channels that fail (R104). -/
def State.trainStack (s : State) (k : Nat) (bad : List Nat) : State :=
  if s.getF (.mem .statusState) k = 4 then s
  else
    let s := s.applySpares k
    let s := bad.foldl (fun s p => if p < 132 then s.setF (.mem .chCeHardFail) (132 * k + p) 1 else s) s
    let s := ((List.range 132).filter fun p => bad.contains p && s.inService k p).foldl (fun s p =>
      s.replaceChannel k p 5 1) s
    let s := s.setF (.mem .statusSparesLeft) k (s.freeSpares k).length
    if s.getF (.mem .statusState) k = 1 then s.setF (.mem .statusState) k 2 else s

/-! ### Row repair (R431) -/

/-- Key of the spare row of a bank group of a physical channel (R103). -/
def spareRowKey (k pch bank : Nat) : Nat := (132 * k + pch) * 4 + bank % 4

/-- Word 1 of the record of a row (R432). -/
def rowWord (pch bank row : Nat) : Nat := pch + 2 ^ 8 * bank + 2 ^ 16 * row

/-- DATA of the events of a row (R436). -/
def rowData (k pch bank row : Nat) : Nat := k + 2 ^ 8 * pch + 2 ^ 16 * bank + 2 ^ 32 * row

/-- Drop the ROW_PENDING record of a row. -/
def State.dropPending (s : State) (k w : Nat) : State :=
  s.dropRepairs fun r => r.rtype == 3 && r.unit == k && r.word1 == w

/-- The ROW_PENDING record of a channel. -/
def State.pendingOf (s : State) (k pch : Nat) : Option RepairRec :=
  s.sec.repairs.find? fun r => r.rtype == 3 && r.unit == k && bits r.word1 7 0 == pch

/-- Show how many ROW_LEFT rows a stack has. -/
def State.showLeft (s : State) (k : Nat) : State :=
  s.setF (.bst .memLeft) k (min 255 (s.sec.repairs.filter fun r => r.rtype == 4 && r.unit == k).length)

/-- Leave a row to the code: a ROW_LEFT record, written once for a row, and the event. -/
def State.leaveRow (s : State) (k w cause : Nat) : State :=
  let s := s.dropPending k w
  let s := if s.sec.repairs.any fun r => r.rtype == 4 && r.unit == k && r.word1 == w then s
    else s.addRepair 4 cause k w 0
  (s.showLeft k).testEvent 4 1 (rowData k (bits w 7 0) (bits w 11 8) (bits w 29 16))

/-- The rows of a stack to handle, uncorrectable ones first, then by channel, bank and row: those that the test finds, and
those of ROW_PENDING records that it does not. -/
def State.rowsOf (s : State) (k : Nat) (rows : List RowBad) : List RowBad :=
  let found := rows.filter fun r => r.stack == k
  let pend := (s.sec.repairs.filter fun r => r.rtype == 3 && r.unit == k &&
      !(found.any fun x => rowWord x.pch x.bank x.row == r.word1)).map fun r =>
    RowBad.mk k (bits r.word1 7 0) (bits r.word1 11 8) (bits r.word1 29 16) false true
  let key := fun (r : RowBad) => (if r.unc then 0 else 2 ^ 40) + r.pch * 2 ^ 24 + r.bank * 2 ^ 16 + r.row
  let ins := fun (l : List RowBad) (r : RowBad) =>
    (l.takeWhile fun x => decide (key x ≤ key r)) ++ r :: (l.dropWhile fun x => decide (key x ≤ key r))
  (found ++ pend).foldl ins []

/-- A row for which no spare row serves: its channel is replaced when the row is uncorrectable, else it is left (R431). -/
def State.noSpareRow (s : State) (r : RowBad) : State :=
  let w := rowWord r.pch r.bank r.row
  if r.unc then (s.dropPending r.stack w).replaceChannel r.stack r.pch 6 2 else s.leaveRow r.stack w 6

/-- The spare row of a bank group is fitted; the row is repaired where that holds (R431). -/
def State.fitRow (s : State) (r : RowBad) : State :=
  let k := r.stack
  let w := rowWord r.pch r.bank r.row
  let s := { s with sec := { s.sec with ppr := s.sec.ppr ++ [spareRowKey k r.pch r.bank] } }
  if r.fixed then
    let s := (s.dropPending k w).addRepair 2 6 k w 0
    let s := (s.addSat (.bst .memRepaired) k 1).testEvent 3 0 (rowData k r.pch r.bank r.row)
    if (s.viewF (.bst .memRowsFree) k).getD 0 = 0 then s.testEvent 5 1 (2 + 2 ^ 8 * k) else s
  else s.noSpareRow r

/-- Handle one row; done holds the channels that have taken their repair of this power-up, unc the uncorrectable rows of
the test by their record words. -/
def State.handleRow (s : State) (done unc : List Nat) (r : RowBad) : State × List Nat :=
  let k := r.stack
  let w := rowWord r.pch r.bank r.row
  if s.getF (.mem .statusState) k = 4 ∨ !s.inService k r.pch then (s, done)
  else
    if s.sec.ppr.contains (spareRowKey k r.pch r.bank) then (s.noSpareRow r, done)
    else if !done.contains r.pch then (s.fitRow r, r.pch :: done)
    else match s.pendingOf k r.pch with
      | none => (s.addRepair 3 6 k w 0, done)
      | some p =>
        if p.word1 = w then (s, done)
        else if !r.unc then (s.leaveRow k w 6, done)
        else if unc.contains p.word1 then (s.replaceChannel k r.pch 6 2, done)
        else ((s.leaveRow k p.word1 6).addRepair 3 6 k w 0, done)

/-- The start-up memory test and row repair of a stack (R431). -/
def State.repairRows (s : State) (k : Nat) (rows : List RowBad) : State :=
  let l := s.rowsOf k rows
  let unc := (l.filter (·.unc)).map fun r => rowWord r.pch r.bank r.row
  let s := s.setF (.bst .memRepaired) k 0
  ((l.foldl (fun (x : State × List Nat) r => x.1.handleRow x.2 unc r) (s, [])).1).showLeft k

/-! ### Power-up of the compute domains -/

/-- IOD goes on (R385 step 6): the Tornath link trains, the mailbox is BUSY with OPCODE 0x03, the partner link waits,
trains, or is NOT_FITTED (R219). -/
def State.iodOn (s : State) : State :=
  let s := (s.turnOn .iod).setBit (.kln .dieHbAlive) 0 4
  let s := (s.setF (.thl .statusState) 0 1).setF (.thl .mbxStateState) 0 2
  let s := s.setF (.thl .mbxStateOpcode) 0 3
  if !s.sec.orderP then s.setF (.ptn .statusState) 0 4
  else if s.flag (.ptn .ctrlEnable) then s.setF (.ptn .statusState) 0 s.trainState else s

/-- Start-up fails after step 5 (R390, R397): the domains go off in the reverse order of R20, the drive stage gets the safe
values of R344, STATE is FAILED, STATUS is sent. -/
def State.bootFail (s : State) : State :=
  let s := s.iodOff.commandDrive (List.replicate 8 openCode) 7200 3
  let s := { s with power := { s.power with boot := .failed } }
  (s.setModState .failed).sendStatus

/-- The dies stay off and STATE is FAILED, with IOD on (R277, R390, R445). -/
def State.diesFail (s : State) : State :=
  let s := s.computeOff
  let s := { s with power := { s.power with boot := .failed } }
  (s.setModState .failed).sendStatus

/-- The sections of the configuration image that start-up has chosen. -/
def State.bootSections (s : State) : List (Nat × List Byte) :=
  match checkedSections s.sec.bootBody with
  | .ok l => l
  | .error _ => []

/-- Partition code of the configuration image that start-up has chosen. -/
def State.bootPart (s : State) : Nat := if s.sec.bootSrc = 1 then 6 else 3

/-- Did every start-up test pass or find its repair: no cluster absent, no stack failed, no row left to the code? -/
def State.startupOk (s : State) : Bool :=
  s.spareMap.all (fun e => e.2.isSome) && s.getF (.mem .failedFailed) == 0 && !(s.sec.repairs.any fun r => r.rtype == 4)

/-- Compute power-up from step 8 of R385: CORE, tests, firmware, MEM, training, row repair, the second part of the
configuration, OPT. Answers whether it succeeded; on failure STATE is FAILED. -/
def State.computeOn (s : State) (t : PowerTests) : State × Bool :=
  let dies := [0, 1, 2, 3].filter fun n => !s.dieFailed n
  let s := { s with power := { s.power with cclk := s.power.cclkNext } }
  let s := dies.foldl (fun s n => s.coreOn n) s
  let s := (s.setApplied s.targetUw).divideCaps
  let s := dies.foldl (fun s n => (s.remapDie n).testClusters n t.clusters) s
  match s.dieFirmware with
  | (s, false) =>
    let s := if s.flag (.csk .statusNorFailed) then s else dies.foldl (fun s n => s.failDie n 3 false) s
    (s.diesFail, false)
  | (s, true) =>
    let s := dies.foldl (fun s n => s.memOn n) s
    let stacks' := (List.range 20).filter fun k => dies.contains (k / 5)
    let s := stacks'.foldl (fun s k => s.trainStack k ((t.channels.filter fun c => c.1 == k).map (·.2))) s
    let s := stacks'.foldl (fun s k => s.repairRows k t.rows) s
    let s := s.setFlag (.bst .statusStartupOk) 0 s.startupOk
    match s.applyConfig s.bootSections secondSel secondOrder s.bootPart with
    | (s, false) => (s.bootFail, false)
    | (s, true) => ((List.range 12).foldl (fun s k => s.optOn k) s, true)

end Sys2Proof.Machine
end

