-- ==== Sys2Proof/Machine/KilnOps.lean ====
section
/-!
DEFINITION. The Kiln pair's shared operations: KLN_HEALTH and the healthy standby (R261, R269), restarts (R271), the interlock
going to NONE and to a Kiln (R254, R263 to R267), and what the new holder does: the log, the mailbox (R246), the caps and
loops of stale mode (R266), HOT_N (R307).
-/

namespace Sys2Proof.Machine

/-- The event source of the Kilns (R278). -/
def State.klnEvent (s : State) (code severity data : Nat) (rowCode : Nat := 0) : State :=
  s.post 6 code severity data true rowCode

/-! ### Health (R261, R262, R269, R279) -/

/-- The Kiln that receives state frames: the one that does not hold ACT_OWN, or did not hold it last. -/
def State.receiver (s : State) : Option Kiln := s.kln.lastOwner.map otherKiln

/-- The bits of KLN_HEALTH, in order. -/
def healthFields : List Fld :=
  [.kln .healthMemUe, .kln .healthCycle, .kln .healthAcq, .kln .healthDriveRb, .kln .healthWatchdog, .kln .healthCodeCrc,
    .kln .healthCopyStale, .kln .healthDiverge, .kln .healthClock, .kln .healthRowbusRx, .kln .healthNorRead]

/-- Show KLN_HEALTH in the window of a Kiln. -/
def State.showHealth (s : State) (k : Kiln) (w : Nat) : State :=
  (healthFields.zipIdx).foldl (fun s e => s.setFlag e.1 (kilnIdx k) (w.testBit e.2)) s

/-- KLN_HEALTH as a Kiln itself has it. -/
def State.healthOf (s : State) (k : Kiln) : Nat := (s.kln.kiln k).health

/-- A bit of a number, set to a value. -/
def bitTo (w b : Nat) (v : Bool) : Nat := if w.testBit b = v then w else if v then w + 2 ^ b else w - 2 ^ b

/-- A Kiln sets or clears a bit of its KLN_HEALTH; the window of the active one shows it at once. -/
def State.setHealthBit (s : State) (k : Kiln) (b : Nat) (v : Bool) : State :=
  let s := s.modKiln k fun n => { n with health := bitTo n.health b v }
  if s.active = some k then s.showHealth k (s.healthOf k) else s

/-- Is a Kiln a standby that meets every condition of R269? -/
def State.healthy (s : State) (k : Kiln) : Bool :=
  let n := s.kln.kiln k
  n.up && s.getF (.kln .roleRole) (kilnIdx k) == 1 && n.health == 0 && decide (n.age ≤ 2 ∧ n.goodFrames ≥ 8 ∧ n.shadowOk ≥ 100)

/-- Does the last health word show a healthy Kiln (R261)? -/
def State.shownHealthy (s : State) (k : Kiln) : Bool := s.flag (.kln .roleHealthy) (kilnIdx k)

/-- The Kiln that is standby while one holds ACT_OWN. -/
def State.standby (s : State) : Option Kiln := s.active.map otherKiln

/-- Is there a healthy standby, as the active Kiln knows it? -/
def State.standbyHealthy (s : State) : Bool :=
  match s.standby with
  | some k => s.shownHealthy k
  | none => false

/-- The image that a Kiln runs: 0 A, 1 B, 2 golden, 3 none. -/
def State.imageOf (s : State) (k : Kiln) : Nat := s.getF (imageField k)

/-- Evaluate R269: a Kiln that is healthy has been so since its restart (R263). -/
def State.evalHealth (s : State) (k : Kiln) : State :=
  if s.healthy k then s.modKiln k fun n => { n with been := true } else s

/-- The age of a Kiln's copy; above 2 it is stale (R269). -/
def State.setAge (s : State) (k : Kiln) (age : Nat) : State :=
  (s.modKiln k fun n => { n with age := min age 255 }).setHealthBit k 6 (decide (age > 2))

/-- The window of the standby shows what its health word reports (R261, R279). A standby that is healthy again clears the
retention count of its image (R386) and STANDBY_HEALTHY is written; COPY_FAULT when its copy has become stale. -/
def State.showStandby (s : State) (k : Kiln) : State :=
  let i := kilnIdx k
  let n := s.kln.kiln k
  let was := s.shownHealthy k
  let stale := s.flag (.kln .healthCopyStale) i
  let s := ((s.showHealth k n.health).setF (.kln .copyAge) i n.age).setF (.kln .copyBad) i n.bad
  let s := ((s.setF (.kln .divergeCount) i n.divCount).setF (.kln .divergeLoop) i n.divLoop).setFlag (.kln .roleHealthy) i
    (s.healthy k)
  let s := if s.shownHealthy k && !was then
      let s := if s.imageOf k < 2 then s.setF (retField k (s.imageOf k)) 0 0 else s
      ({ s with kln := { s.kln with standbyLost := false } } : State).klnEvent 4 0 i
    else s
  if n.health.testBit 6 && !stale then s.klnEvent 7 1 n.age else s

/-- A Kiln becomes standby (R263, R271): its count of frames and of shadow cycles starts again. -/
def State.becomeStandby (s : State) (k : Kiln) : State :=
  let s := (s.setF (.kln .roleRole) (kilnIdx k) 1).setF (.kln .roleHealthy) (kilnIdx k) 0
  s.modKiln k fun n => { n with goodFrames := 0, shadowOk := 0, driveRbRow := 0, cycleRow := 0, acqRow := 0 }

/-- The data memory of an engine as CLE_DINIT gives it, with its constants (R317, R333; log entry 176). -/
def State.dinitWords (s : State) : SMap Nat :=
  let from' := (Fld.cle .dinitValue).code
  let words := (s.live.filter fun e => e.1 % 8192 == from').map fun e => (e.1 - from' + (Fld.cle .dataValue).code, e.2)
  copperConsts.foldl (fun m e => m.put ((Fld.cle .dataValue).key e.1) (unsigned 16 e.2) 0) words

/-- A Kiln that resets loses its engine's data memory and the state of its row-bus controllers. -/
def State.loseEngine (s : State) (k : Kiln) : State :=
  if s.receiver = some k then
    { s with kln := { s.kln with shadow := s.dinitWords }, row := { s.row with other := ⟨[], []⟩ } }
  else
    let s := s.withRegs [.cle .dataValue] s.dinitWords
    ({ s with row := { s.row with queues := [] } } : State).withRowCtl ⟨[], []⟩

/-- A Kiln resets and is to restart, with the cause of KLN_RESTARTS (R271): its state is gone, its window shows it, and RESTART
is written. -/
def State.startRestart (s : State) (k : Kiln) (cause : Nat) : State :=
  let i := kilnIdx k
  let health := if cause = 1 then 16 else 0
  let s := ((s.setF (.kln .roleRole) i 0).setF (.kln .roleHealthy) i 0).setF (.kln .roleEligible) i 0
  let s := (s.setF (.kln .copyAge) i 0xFF).showHealth k health
  let s := ((s.setF (.kln .ctrlRestart) i 0).addSat (.kln .restartsCount) i 1).setF (.kln .restartsLastCause) i cause
  let s := s.modKiln k fun n => { kilnInit with
    barred := n.barred, compat := n.compat, fwVer := n.fwVer, bad := n.bad, divCount := n.divCount, divLoop := n.divLoop,
    health := health }
  let s := { s with cask := s.cask.setBuf k [] }
  (s.loseEngine k).klnEvent 5 1 (i + 16 * cause)

/-! ### The mailbox (R242, R243, R246) -/

/-- Bytes of the mailbox command. -/
def State.mbxCmd (s : State) : List Byte := ((List.range 16).map fun m => leBytes 4 (s.getF (.thl .mbxCmdBytes) m)).flatten

/-- A little-endian field of the command. -/
def State.mbxParam (s : State) (a n : Nat) : Nat := field s.mbxCmd a n

/-- Write the response and set DONE, with the MBX interrupt (R242, R243); data holds bytes 8 onward. -/
def State.mbxRespond (s : State) (status : Nat) (data : List Byte) : State :=
  let body := leBytes 1 1 ++ leBytes 1 (s.getF (.thl .mbxStateOpcode)) ++ leBytes 1 status ++ leBytes 1 0 ++
    slice s.mbxCmd 4 4 ++ data
  let s := (List.range 16).foldl (fun s m => s.setF (.thl .mbxRspBytes) m (field body (4 * m) 4)) s
  let hmem := s.thl.hmem.map fun e => if e.kind = .report then { e with kind := .oldReport } else e
  let s := { s with thl := { s.thl with
    mbxRun := false, config := none, mbxResult := none, mbxCommitted := false, locked := [], hmem } }
  (s.setF (.thl .mbxStateState) 0 3).raiseIrq 0

/-- A command has run; what answers it comes later, for a long command with MBX_LONG_COMPLETE. -/
def State.mbxRan (s : State) (status : Nat) (data : List Byte) : State :=
  { s with thl := { s.thl with mbxResult := some (status, data) } }

/-- Show the configuration in force: its source, version and header (R400, R403). -/
def State.configShown (s : State) (src : Nat) (hdr : List Byte) : State :=
  let s : State := { s with sec := { s.sec with cfgHdr := hdr } }
  (s.setF (.sec .bootConfigSrc) 0 src).setF (.sec .fwVerConfig) 0 (field hdr 20 2)

/-- The commit point of a CONFIGURE (R396 step 6): everything its checks have passed comes into force. -/
def State.configCommit (s : State) : State :=
  match s.thl.config with
  | none => s
  | some c =>
    let s : State := { s with thl := { s.thl with config := none } }
    match s.applyConfig c.sections (fun _ => true) wholeOrder c.part with
    | (s, false) => s.mbxRan 1 []
    | (s, true) =>
      let s := s.configShown c.src c.hdr
      ({ s with thl := { s.thl with mbxCommitted := true } } : State).mbxRan 0 []

/-- PROGRESS of a long command moves on in a control cycle (R242): how far it is, is a free value below 100. -/
def State.showProgress (s : State) : State :=
  if s.thl.mbxRun && s.getF (.thl .mbxStateState) == 2 then
    let p := min 99 (s.getF (.thl .mbxStateProgress))
    let (v, s) := s.fresh 7
    s.setF (.thl .mbxStateProgress) 0 (p + v.toNat % (100 - p))
  else s

/-- The undo of a long command that does not complete OK: a partition that IMAGE_UPDATE has written stays invalid (R244,
R401). -/
def State.mbxUndo (s : State) : State :=
  match s.thl.mbxResult with
  | some (0, _) =>
    if s.getF (.thl .mbxStateOpcode) = 4 then
      { s with sec := { s.sec with parts := s.sec.parts.erase (s.mbxParam 8 1) } }
    else s
  | _ => s

/-- A command that was RUNNING or BUSY at a handover (R246): HANDOVER, but OK for a CONFIGURE past its commit point; one that
has not reached it leaves the old configuration (R244). -/
def State.mbxHandover (s : State) : State :=
  if s.thl.mbxRun then
    if s.getF (.thl .mbxStateOpcode) = 3 ∧ s.thl.mbxCommitted then s.mbxRespond 0 []
    else s.mbxUndo.mbxRespond 9 []
  else s

/-! ### HOT_N (R307 step 4) -/

/-- What the active Kiln does about HOT_N: the floor, the quiesce and the park, the alarm, the urgent event. -/
def State.hotNKiln (s : State) (d : Nat) (stack : Bool) : State :=
  let s := (s.floorFall 3).quiesceNow 3
  (s.post 7 0x0D 2 (d + 8 * stack.toNat)).alarmNow 5 (d + 8 * stack.toNat)

/-- A Kiln that has taken over answers a latch that no Kiln has answered (R307, R308). -/
def State.hotNPending (s : State) : State :=
  if s.flag (.cle .coolStatusHotN) && !s.power.quiesce.contains 3 then
    s.hotNKiln (s.getF (.cle .hotnDie)) (s.flag (.cle .hotnStack))
  else s

/-! ### The interlock (R254 to R257) -/

/-- A frame begun on a row bus is cut off: the bus takes it for an error frame, and it has not been sent (R255). -/
def State.cutFrames (s : State) : State :=
  { s with row := { s.row with queues := s.row.queues.map fun e => (e.1, e.2.map fun m => { m with begun := false }) } }

/-- The interlock goes to NONE, for a cause of R278; slices that run are abandoned (R429). -/
def State.toNone (s : State) (cause : Nat) : State :=
  match s.kln.owner with
  | none => s
  | some k =>
    let s := (s.stopSlices fun _ => true).cutFrames
    let s := { s with bst := { s.bst with running := [] } }
    { s with kln := { s.kln with owner := none, noneCause := cause, noneHealth := s.healthOf k, planned := 0 } }

/-- Did ACT_OWN change hands 4 times within the last 60 s (R263)? -/
def State.handsBusy (s : State) : Bool :=
  (s.kln.changes.filter fun t => decide (s.kln.upMs < t + 60000)).length ≥ 4

/-- Stale mode (R266): every loop in table mode, and the applied cap no higher than a fresh target and the copied cap, or at
the floor without a copy. -/
def State.goStale (s : State) (k : Kiln) : State :=
  let s := (List.range 32).foldl (fun s l => if s.loopOn l then s.enterTable l else s) s
  let cap := match (s.kln.kiln k).frame with
    | some f => min f.applied s.targetUw
    | none => 700 * watt
  (s.setApplied cap).divideCaps

/-- A Copper commit at a handover (R334): it goes on if the set had reached the new Kiln, which a healthy standby has;
otherwise the old set stays and ERR reports HANDOVER. -/
def State.cleHandover (s : State) (k : Kiln) : State :=
  if s.flag (.cle .commitStatusBusy) && !s.healthy k then
    (s.setF (.cle .commitStatusBusy) 0 0).setF (.cle .commitStatusErr) 0 0xB
  else s

/-- NO_OWNER (R272): the first Kiln to claim after 10 s in NONE writes it and clears QUIESCE; CLAIM_STOP stays. The
milliseconds in NONE are measured: a free value, no lower than the 10 s. -/
def State.noOwnerEnd (s : State) : State :=
  if s.flag (.kln .ownerQuiesce) then
    let (v, s) := s.fresh 32
    ((s.setF (.kln .ownerQuiesce) 0 0).klnEvent 0x0C 2 (max 10000 v.toNat)).liftQuiesce 2
  else s

/-- Is a claim by a Kiln one in stale mode (R266)? The first claim since AUX power-up has no state to continue. -/
def State.staleFor (s : State) (k : Kiln) : Bool :=
  s.kln.lastOwner.isSome && (!s.healthy k || decide ((s.kln.kiln k).age > 8))

/-- The interlock goes to a Kiln. Journal entries that the other Kiln had not sent are lost (R260); only a change of hands counts
for R263. -/
def State.grantOwn (s : State) (k : Kiln) : State :=
  let i := kilnIdx k
  let moved := s.kln.lastOwner == some (otherKiln k)
  let s := { s with kln := { s.kln with
    owner := some k, lastOwner := some k,
    journal := if moved then [] else s.kln.journal,
    changes := if moved then (s.kln.upMs :: s.kln.changes).take 4 else s.kln.changes,
    planned := 0,
    unconfirmed := if s.kln.unconfirmed = some k then none else s.kln.unconfirmed } }
  let s := (s.setAge k 0).showHealth k (s.setAge k 0 |>.healthOf k)
  let s := ((s.setF (.kln .roleRole) i 2).setF (.kln .roleHealthy) i 0).setF (.kln .copyAge) i 0
  let s := (s.setF (.kln .ctrlHandover) 0 0).setF (.kln .ctrlHandover) 1 0
  s.alertClear 4

/-! ### Going on from a state frame (R184, R258, R265 to R267, R318, R327, R332) -/

/-- Registers that show what the state frame carries of loops, tables, setpoints, factors, the rack cap and the scheduler. -/
def frameFields : List Fld :=
  ([.loopStatusState, .loopStatusSelected, .loopStatusTableHour, .loopStatusConsecOvr, .loopStatusOutput, .loopOvrOverruns,
    .loopOvrTableEntries, .tableTable, .safeSafe, .grpSelected, .grpOutput, .rcStatusPeriod, .rcStatusLocked, .rcStatusFade,
    .zoneFF].map Fld.cle) ++
  [.grb .dieTsetTset, .grb .capRackCapW, .grb .capRackLeaseExpired, .bst .ageLevel]

/-- The engines change places: the data memory of the new active Kiln is that of its shadow run. -/
def State.swapEngines (s : State) : State :=
  let old := s.regsOf [.cle .dataValue]
  let s := s.withRegs [.cle .dataValue] s.kln.shadow
  { s with kln := { s.kln with shadow := old } }

/-- The row-bus controllers change places. The new active Kiln queues the transmit buffers that its frame lists (R17, R267,
R368). -/
def State.swapRows (s : State) (buffers : SMap RowMsg) : State :=
  let old := s.rowCtl
  let s := s.withRowCtl s.row.other
  { s with row := { s.row with other := old, queues := buffers.map fun e => (e.1, [{ e.2 with begun := false }]) } }

/-- Loops go on with the copied U_PREV, output, KEEP, state and counts, and with what the shadow run has latched and staged. -/
def State.loopsFrom (s : State) (f : Frame) : State :=
  let s := (List.range 32).foldl (fun s l => s.modLoop l fun x =>
    { f.loops.getD l loopInit with
      due := x.due, inp := x.shadowInp, staged := x.shadowStaged, shadowInp := x.inp, shadowStaged := none }) s
  f.keep.foldl (fun s e => s.setF (.cle .dataValue) (32 * s.loopF .loopCfgFrame e.1 + 8) e.2) s

/-- Tables go on with the copied cells, step periods, marks and locks; the time since a mark goes on too. -/
def State.tablesFrom (s : State) (f : Frame) (cells : SMap Nat) : State :=
  let gone := s.cop.clock - f.clock
  let rcs := f.rcs.map fun e => (e.1, { e.2 with sums := [], since := if e.2.marked then e.2.since + gone else 0 })
  ({ s with cop := { s.cop with rcs := rcs } } : State).withRegs [.cle .rcCellCell] cells

/-- Caps go on from the copied ones; no thermal cap rises above a fall that stands. -/
def State.capsFrom (s : State) (f : Frame) : State :=
  let held := fun (live copy : Nat) => if s.grn.protects.isEmpty then copy else min live copy
  let s := f.dies.foldl (fun s e =>
    if s.isOn (.core e.1) then s.modDie e.1 fun d =>
      { d with loopUw := e.2.loopUw, hotUw := e.2.hotUw, tsetOn := e.2.tsetOn, thermUw := held d.thermUw e.2.thermUw }
    else s) s
  let s := s.setThermal (held s.grn.thermalUw f.thermal)
  s.setApplied (min f.applied s.targetUw)

/-- The drain and the park go on as copied, while the I/O die is on. -/
def State.drainFrom (s : State) (f : Frame) : State :=
  if s.isOn .iod then
    ({ s with power := { s.power with
        draining := f.draining, drainMs := f.drainMs, parkPlanned := f.parkPlanned, parkQuiesce := f.parkQuiesce } } :
      State).settle
  else s

/-- The new active Kiln continues everything that its last good frame holds (R267); without a frame it goes on from what the
registers show. -/
def State.fromFrame (s : State) (k : Kiln) : State :=
  let n := s.kln.kiln k
  match n.frame with
  | none => s.swapRows []
  | some f =>
    let s := ((s.swapRows f.buffers).withRegs frameFields f.regs).loopsFrom f
    let s := (s.tablesFrom f n.rcCells).capsFrom f
    let s : State := { s with
      cool := { s.cool with sens := f.sens, suspect := f.suspect, returned := f.returned },
      cop := { s.cop with sent := f.drive, seq := f.driveSeq },
      row := { s.row with clashes := f.clashes } }
    (s.sensCounts.drainFrom f).refactor

/-- A Kiln takes control (R254, R264 to R267): it continues the log (R406), writes what was kept for it (R358, R407), goes on
from its last good frame, or in stale mode, ends the command of the mailbox, answers HOT_N, and writes HANDOVER. A Kiln
that has handed over in order to restart does so (R271). -/
def State.takeOver (s : State) (k : Kiln) : State :=
  let first := s.kln.lastOwner.isNone
  let moved := s.kln.lastOwner == some (otherKiln k)
  let stale := s.staleFor k
  let cause := s.kln.noneCause
  let age := (s.kln.kiln k).age
  let old := s.kln.noneHealth
  let s := (s.cleHandover k).grantOwn k
  let s := if moved then s.swapEngines.fromFrame k else s
  let s := (s.caskTakeover k).postOwed
  if first then s
  else
    let i := kilnIdx k
    let s := (s.addSat (.kln .handoversCount) i 1).setF (.kln .handoversLastCause) i cause
    let s := if stale then s.goStale k else s
    let data := i + 16 * cause + 256 * stale.toNat + 2 ^ 16 * age + 2 ^ 32 * old
    let s := s.klnEvent 1 (if cause = 4 ∨ cause = 5 ∨ stale then 2 else 1) data 8
    let s := s.noOwnerEnd.mbxHandover.refactor.hotNPending
    let o := otherKiln k
    if s.flag (.kln .ctrlRestart) (kilnIdx o) then s.startRestart o 4 else s

/-- May a Kiln claim: its image runs, it does not boot, and R263 does not bar it? -/
def State.mayClaim (s : State) (k : Kiln) : Bool := (s.kln.kiln k).up && s.flag (.kln .roleEligible) (kilnIdx k)

/-- The holder releases (R254, R263, R264): after a planned handover it is standby at once, with the state it has just sent; after
a release under R262 it is barred and restarts. -/
def State.release (s : State) (k : Kiln) (cause : Nat) : State :=
  if s.kln.owner = some k then
    if cause = 3 then
      let s := (s.modKiln k fun n => { n with barred := true }).setF (.kln .roleEligible) (kilnIdx k) 0
      (s.toNone 3).startRestart k 3
    else
      let s := s.modKiln k fun n => { n with frame := s.kln.sent, rcCells := s.regsOf [.cle .rcCellCell] }
      (s.toNone cause).becomeStandby k
  else s

/-- The row-bus controllers of a Kiln that has booted start (R17, R364). -/
def State.startRows (s : State) (k : Kiln) : State :=
  if s.receiver = some k then s.restartOther
  else if s.kln.lastOwner = some k then [0, 1].foldl (fun s p => s.portRestart p) s
  else s

/-- The ROM of a Kiln boots it (R271 steps 1 and 2, R386): its image runs, or it stays in ROM. -/
def State.bootKiln (s : State) (k : Kiln) : State :=
  let s := (s.romLoad k).modKiln k fun n => { n with health := 0 }
  let s := s.showHealth k 0
  if (s.kln.kiln k).up then
    let s := ((s.becomeStandby k).setFlag (.kln .roleEligible) (kilnIdx k) (!(s.kln.kiln k).barred)).startRows k
    if s.imageOf k = 2 then s.post 0x0B 1 2 (kilnIdx k) else s
  else s.setF (.kln .roleRole) (kilnIdx k) 3

end Sys2Proof.Machine
end

