-- ==== Sys2Proof/Machine/Coolant.lean ====
section
/-!
DEFINITION. Sensors, leaks, flow, warnings and HOT_N (R288 to R310). The active Kiln acts, so without one a command leaves the
state as it is; the latch of HOT_N, the stop of issue and the drive stage need none (R307).
-/

namespace Sys2Proof.Machine

/-- The active Kiln runs and can act. -/
def State.kilnActs (s : State) : Bool := s.isOn .aux && s.active.isSome

/-- An event of SOURCE 0x07 (R309). -/
def State.coolEvent (s : State) (code severity data : Nat) : State := s.post 7 code severity data

/-! ### Warnings (R303) -/

/-- A change of the warnings: the event and the message. -/
def State.warnChanged (s : State) : State := (s.coolEvent 0x0C 1 (s.getF (.cle .coolStatusWarn))).sendWarn

/-- Set a warning. -/
def State.warnSet (s : State) (b : Nat) : State :=
  if (s.getF (.cle .coolStatusWarn)).testBit b then s else (s.setBit (.cle .coolStatusWarn) 0 b).warnChanged

/-- Clear a warning. -/
def State.warnClear (s : State) (b : Nat) : State :=
  if (s.getF (.cle .coolStatusWarn)).testBit b then (s.clearBit (.cle .coolStatusWarn) 0 b).warnChanged else s

/-- Is the humidity sensor frozen or lost, so that CONDENSATION is held set (R290)? -/
def State.humidityBad (s : State) : Bool := (s.sensRec 0x8000).state != 0 || (s.sensRec 0x8001).state != 0

/-! ### Substitution (R288 to R292, R306) -/

/-- The die of a cluster or stack sensor. -/
def sensDie (id : Nat) : Option Nat :=
  match sensClass id with
  | 4 => some (sensIndex id / 416)
  | 5 => some (sensIndex id / 10)
  | _ => none

/-- Masked sensors of a die. -/
def State.masksOf (s : State) (n : Nat) : Nat :=
  (s.cool.sens.filter fun e => e.2.masked && sensDie e.1 == some n).length

/-- May a sensor be masked from its comparator (R306): substituted for reading above its estimate, its partner plausible, fewer
than 8 masks on its die? -/
def State.maskable (s : State) (id why : Nat) : Bool :=
  match sensDie id with
  | some n => why == 1 && decide (s.rawOf id > s.estTemp id) && !s.subst (sensPartner id) && decide (s.masksOf n < 8)
  | none => false

/-- Substitute one sensor (R290): its standing, the count of the operating hour, the masks. The humidity sensor has no
estimate, so only its state shows. -/
def State.substitute (s : State) (id why : Nat) : State :=
  let r := s.sensRec id
  if sensClass id = 8 then s.setSens id { r with state := why }
  else
    let n := if r.subst then r.count else if r.hour = s.power.opHours then r.count + 1 else 1
    let mask := s.maskable id why
    let s := s.setSens id { r with state := why, subst := true, masked := mask, count := n,
                                   hour := s.power.opHours, kept := r.kept || decide (n ≥ 3) }
    if sensPaired id then s.setSens (sensPartner id) { s.sensRec (sensPartner id) with masked := false } else s

/-- The event of one sensor (R309). -/
def State.sensEvent (s : State) (id why : Nat) : State :=
  match why with
  | 1 => s.coolEvent 1 1 (id + 2 ^ 16 * unsigned 16 (s.rawOf id) + 2 ^ 32 * unsigned 16 ((s.estimate id).getD 0))
  | 2 => s.coolEvent 2 1 id
  | _ => s.coolEvent 3 1 (id + 2 ^ 16)

/-- Is a sensor to be substituted for a reason (R288 to R293): 1 its reading is implausible, 2 its raw code has changed by no more
than its noise floor, 3 it does not answer or reads at an end of its converter's range? Leak loops never are. -/
def State.substitutable (s : State) (id why change : Nat) (silent : Bool) : Bool :=
  sensKnown id && sensClass id != 9 && (s.sensRec id).state != why &&
    match why with
    | 1 => s.implausible id
    | 2 => decide (change ≤ noiseFloor id)
    | 3 => silent || s.atRangeEnd id
    | _ => false

/-- SENSOR_SUBSTITUTE (R288 to R290): the condition has held for its time. why is 1 implausible, 2 frozen, 3 lost; change is the
most that the raw codes have changed in 200 ms, in thousandths of the sensors' unit; silent: their converter or die does not
answer, and then they have one event. -/
def execSensorSubstitute (ids : List Nat) (why change : Nat) (silent : Bool) (s : State) : Host.Outcome State Fault Refusal :=
  .next (if s.kilnActs then
    match ids.filter fun id => s.substitutable id why change silent with
    | [] => s
    | id :: t =>
      let l := id :: t
      let s := l.foldl (fun s id => s.substitute id why) s
      let s := if why = 3 ∧ silent then s.coolEvent 3 1 (t.foldl min id + 2 ^ 16 * l.length)
        else l.foldl (fun s id => s.sensEvent id why) s
      let s := s.refresh.refactor
      if l.any fun id => sensClass id == 8 then s.warnSet 6 else s
  else s)

/-- SENSOR_RESTORE (R291): the sensor has been plausible, answering and not frozen for 60 s; one substituted three times in an
operating hour stays substituted. One whose converter has failed its reference is not good (R429). -/
def execSensorRestore (id : Nat) (s : State) : Host.Outcome State Fault Refusal :=
  .next (if s.kilnActs && (s.sensRec id).state != 0 && !s.bst.ptBad.contains id && !s.implausible id && !s.atRangeEnd id then
    let r := s.sensRec id
    if r.kept then s.coolEvent 5 0 (id + 2 ^ 16)
    else ((s.setSens id { r with state := 0, subst := false, masked := false }).coolEvent 5 0 id).refresh.refactor
  else s)

/-- Do a sensor and its neighbour form a pair that R292 compares? -/
def comparedPair (id : Nat) : Bool := sensKnown id && (sensPaired id || sensClass id == 3) && id % 2 == 0

/-- Flag or unflag a pair. -/
def State.setDisagree (s : State) (id : Nat) (b : Bool) : State :=
  [id, id + 1].foldl (fun s i => s.setSens i { s.sensRec i with disagree := b }) s

/-- SENSOR_DISAGREE (R292): the readings of a plausible pair have differed by more than 4 K, or 0.5 L/min, for 1 s. -/
def execSensorDisagree (id diff : Nat) (s : State) : Host.Outcome State Fault Refusal :=
  .next (if s.kilnActs && comparedPair id && !(s.sensRec id).disagree && !s.subst id && !s.subst (id + 1) &&
      decide (diff > if sensClass id = 3 then 50 else 64) then
    ((s.setDisagree id true).addSat (.cle .sensCountDisagree) 0 1).coolEvent 4 1 (id + 2 ^ 16 * (diff % 2 ^ 16))
  else s)

/-- DISAGREE_CLEAR (R292): the readings of a flagged pair have differed by less than 3 K, meters by no more than 0.5 L/min (log
entry 177), for 10 s. -/
def execDisagreeClear (id : Nat) (s : State) : Host.Outcome State Fault Refusal :=
  .next (if s.kilnActs && comparedPair id && (s.sensRec id).disagree &&
      decide ((s.rawOf id - s.rawOf (id + 1)).natAbs < if sensClass id = 3 then 51 else 48) then s.setDisagree id false
  else s)

/-- MODEL_SUSPECT_END (R293): fewer than 4 sensors of the zone have departed for 60 s. -/
def execModelSuspectEnd (z : Nat) (s : State) : Host.Outcome State Fault Refusal :=
  .next (if s.kilnActs && s.cool.suspect.contains z && decide (s.departing z true + s.departing z false < 4) then
    ({ s with cool := { s.cool with suspect := s.cool.suspect.filter fun x => x ≠ z } } : State).refresh.refactor
  else s)

/-- SENS_QUERY (R310): the result registers show a sensor's raw reading and standing. An unknown ID shows no sensor. -/
def State.sensQuery (s : State) (id : Nat) : State :=
  let r := s.sensRec id
  let v := if sensClass id = 9 then s.getF (.cle .leakROhm10) (sensIndex id % 4) else unsigned 16 (s.rawOf id)
  let s := (s.setF (.cle .sensQueryId) 0 id).setF (.cle .sensResultValue) 0 v
  let s := (s.setF (.cle .sensResultState) 0 r.state).setFlag (.cle .sensResultSubst) 0 r.subst
  let s := (s.setFlag (.cle .sensResultDisagree) 0 r.disagree).setFlag (.cle .sensResultMasked) 0 r.masked
  s.setF (.cle .sensResultReady) 0 1

/-- SENS_QUERY. An ID that the table of R282 reserves leaves READY clear. -/
def execSensQuery (id : Nat) (s : State) : Host.Outcome State Fault Refusal :=
  .next (if s.kilnActs then
    if sensKnown id then s.sensQuery id
    else (s.setF (.cle .sensQueryId) 0 id).setF (.cle .sensResultReady) 0 0
  else s)

/-! ### Leaks (R295 to R298) -/

/-- LEAK_SUSPECTED (R297): loop n has read a fault, of state 2 OPEN, 3 SHORT or 4 OUT_OF_BAND, for 2 s. -/
def execLeakSuspected (n st : Nat) (s : State) : Host.Outcome State Fault Refusal :=
  .next (if s.kilnActs && decide (n < 4 ∧ 2 ≤ st ∧ st ≤ 4) && !(s.getF (.cle .leakSuspect)).testBit n then
    let s := ((s.setBit (.cle .leakSuspect) 0 n).setF (.cle .leakState) n st).setF (.cle .coolStatusLeakSuspected) 0 1
    let s := (s.alertSet 0).refactor
    (s.coolEvent 7 2 (n + 16 * st)).alarmNow 1 n
  else s)

/-- LEAK_SUSPECT_END (R297): the loop has read DRY for 60 s. -/
def execLeakSuspectEnd (n : Nat) (s : State) : Host.Outcome State Fault Refusal :=
  .next (if s.kilnActs && decide (n < 4) && (s.getF (.cle .leakSuspect)).testBit n then
    let s := (s.clearBit (.cle .leakSuspect) 0 n).setF (.cle .leakState) n 0
    let s := if s.getF (.cle .leakSuspect) = 0 then (s.setF (.cle .coolStatusLeakSuspected) 0 0).alertClear 0 else s
    s.refactor.allClear
  else s)

/-- LEAK (R298): loop n has read WET for 200 ms. The floor, the quiesce and the park; the valves stay at the openings they
have, the pumps go to rpm, the lowest speed that keeps 3.0 L/min, 0 where the supply alone does or none does. -/
def execLeak (n rpm : Nat) (s : State) : Host.Outcome State Fault Refusal :=
  .next (if s.kilnActs && decide (n < 4) && !(s.getF (.cle .leakWet)).testBit n then
    let first := !s.flag (.cle .coolStatusLeak)
    let codes := if first then (List.range 8).map (s.getF (.drv .valveStatusCode)) else s.cool.leakValves
    let s := { s with cool := { s.cool with leakRpm := rpm, leakValves := codes } }
    let s := ((s.setBit (.cle .leakWet) 0 n).setF (.cle .leakState) n 1).setF (.cle .coolStatusLeak) 0 1
    let s := (s.floorFall 2).commandDrive codes rpm 3
    let s := (s.quiesceNow 4).alertSet 1
    (s.coolEvent 8 2 n).alarmNow 2 n
  else s)

/-- A write that clears CLE_COOL_STATUS.LEAK (R298): accepted once every loop has read DRY for 60 s. -/
def State.leakClear (s : State) (dry : Bool) : State :=
  if s.flag (.cle .coolStatusLeak) && dry then
    let s := ((s.setF (.cle .coolStatusLeak) 0 0).setF (.cle .leakWet) 0 0).alertClear 1
    ((s.dropProtect 2).liftQuiesce 4).allClear
  else s

/-- LEAK_CLEAR_WRITE. -/
def execLeakClearWrite (dry : Bool) (s : State) : Host.Outcome State Fault Refusal :=
  .next (if s.kilnActs then s.leakClear dry else s)

/-! ### Refresh of the stacks (R114) -/

/-- The refresh rate of a temperature in 1/16 °C: 0 up to 85 °C, 1 up to 95 °C, 2 above. -/
def refreshRate (t : Int) : Nat := if t ≤ 1360 then 0 else if t ≤ 1520 then 1 else 2

/-- REFRESH_RATE_RISE (R114): the temperature of a stack has crossed a threshold. -/
def execRefreshRateRise (k : Nat) (s : State) : Host.Outcome State Fault Refusal :=
  .next <|
    if k < 20 ∧ s.stackServes k ∧ s.getF (.mem .statusRefreshRate) k < refreshRate (s.stackTemp k) then
      s.setF (.mem .statusRefreshRate) k (refreshRate (s.stackTemp k))
    else s

/-- REFRESH_RATE_FALL (R114): the temperature has stayed 3 K below the threshold for 1 s. -/
def execRefreshRateFall (k : Nat) (s : State) : Host.Outcome State Fault Refusal :=
  .next <|
    if k < 20 ∧ s.stackServes k ∧ refreshRate (s.stackTemp k + 48) < s.getF (.mem .statusRefreshRate) k then
      s.setF (.mem .statusRefreshRate) k (refreshRate (s.stackTemp k + 48))
    else s

/-! ### Flow (R300 to R302) -/

/-- How many of FLW_A, FLW_B and Q_est satisfy a test. -/
def State.flowVotes (s : State) (p : Int → Bool) : Nat :=
  ([s.flowVal 0, s.flowVal 1, (s.qEst : Int)].filter p).length

/-- FLOW_LOSS and FLOW_RETURN in 0.01 L/min. -/
def State.flowLimit (s : State) (ret : Bool) : Int :=
  10 * (s.getF (if ret then .cle .coolCfgFlowReturn else .cle .coolCfgFlowLoss) : Int)

/-- DATA of FLOW_LOSS (R309). -/
def State.flowData (s : State) : Nat :=
  unsigned 16 (s.rawOf 0x3000) + 2 ^ 16 * unsigned 16 (s.rawOf 0x3001) + 2 ^ 32 * (s.getF (.cle .flowEstQEst))

/-- FLOW_LOSS (R300, R301 steps 1 to 3): readings are the second ones in a row with two values below FLOW_LOSS. While LEAK is
set its commands to valves and pumps stand (R298). -/
def execFlowLoss (readings : List (Nat × Int)) (s : State) : Host.Outcome State Fault Refusal :=
  .next (if s.kilnActs then
    let s := (s.takeReadings readings).refresh
    if s.flag (.cle .coolStatusProtectFlow) || decide (s.flowVotes (fun q => decide (q < s.flowLimit false)) < 2) then s
    else
      let s := { s with cool := { s.cool with returned := false } }
      let s := (s.floorFall 1).setF (.cle .coolStatusProtectFlow) 0 1
      let s := if s.flag (.cle .coolStatusLeak) then s else s.commandDrive (List.replicate 8 openCode) 9000 3
      let s := if s.getF (.cle .coolStatusState) = 0 then s.setF (.cle .coolStatusState) 0 1 else s
      let s := (s.addSat (.cle .flowLossesCount) 0 1).alertSet 2
      (s.coolEvent 9 2 s.flowData).alarmNow 3 0
  else s)

/-- FLOW_LOSS_QUIESCE (R301 step 4). -/
def execFlowLossQuiesce (s : State) : Host.Outcome State Fault Refusal :=
  .next (if s.kilnActs && s.getF (.cle .coolStatusState) == 1 && s.flag (.cle .coolStatusProtectFlow) then
    ((s.setF (.cle .coolStatusState) 0 2).addSat (.cle .flowLossesQuiesces) 0 1).quiesceNow 1
  else s)

/-- FLOW_LOSS_POWER_DOWN (R301 step 5): OPT, MEM and CORE stop; AUX and IOD stay on. -/
def execFlowLossPowerDown (s : State) : Host.Outcome State Fault Refusal :=
  .next (if s.kilnActs && s.getF (.cle .coolStatusState) == 2 && s.flag (.cle .coolStatusProtectFlow) then
    (s.setF (.cle .coolStatusState) 0 3).computeOff
  else s)

/-- FLOW_RETURNED (R302): PROTECT is withdrawn; before the quiesce the loss has ended with it; after step 5 the domains are
powered as at a cold start. -/
def execFlowReturned (tests : PowerTests) (s : State) : Host.Outcome State Fault Refusal :=
  .next (if s.kilnActs && s.flag (.cle .coolStatusProtectFlow) &&
      decide (s.flowVotes (fun q => decide (q > s.flowLimit true)) ≥ 2) then
    let s := (s.setF (.cle .coolStatusProtectFlow) 0 0).dropProtect 1
    let s := (s.coolEvent 0x0A 1 (s.getF (.cle .flowProt))).alarmNow 4 0
    match s.getF (.cle .coolStatusState) with
    | 1 => ((s.setF (.cle .coolStatusState) 0 0).alertClear 2).allClear
    | 3 =>
      let s : State := { s with cool := { s.cool with returned := true } }
      let s := if s.isOn .iod then (s.computeOn tests).1 else s
      s.setF (.cle .coolStatusState) 0 2
    | _ => { s with cool := { s.cool with returned := true } }
  else s)

/-- The coolant and HOT_N quiesces end (R302, R308): QUIESCE_LIFTED, and the host may send RESUME. -/
def State.coolantLifted (s : State) : State :=
  let s := (s.coolEvent 0x0B 1 0).liftQuiesce 1
  if s.flag (.cle .coolStatusHotN) then s else s.liftQuiesce 3

/-- QUIESCE_LIFTED (R302): flow has been returned for 10 s after a quiesce. -/
def execQuiesceLifted (s : State) : Host.Outcome State Fault Refusal :=
  .next (if s.kilnActs && decide (2 ≤ s.getF (.cle .coolStatusState)) && s.cool.returned &&
      !s.flag (.cle .coolStatusProtectFlow) then
    ((s.setF (.cle .coolStatusState) 0 0).coolantLifted.alertClear 2).allClear
  else s)

/-! ### Warnings (R299, R303) -/

/-- FOULING (R303), with Q the flow protection value. -/
def State.fouling (s : State) : Bool :=
  let q := s.getF (.cle .flowProt)
  decide (q > 300) && decide (((s.prsVal 0 - s.prsVal 1) * headD + s.headN) * (kvD * 360000 : Nat) >
    (72 * s.kvN * q ^ 2 * headD : Nat))

/-- Does a die's thermal cap bind for the coolant: at what its loops and the factor of its zone give, not at the cap of hot clusters
or the step of a hot stack (R181, R182, R303; log entry 178)? -/
def State.coolantBinds (s : State) (n : Nat) : Bool :=
  (s.getF (.grb .capStatusDieThermal)).testBit n && decide ((s.die n).loopUw * s.dieFactor n / 10 ≤ (s.die n).thermUw)

/-- Does the condition of a warning hold (R299, R303)? -/
def State.warnHolds (s : State) (b : Nat) : Bool :=
  match b with
  | 0 => decide (10 * s.grn.thermalUw < 11 * (s.ceilingW * watt))
  | 1 => s.getF (.grb .capStatusBinding) == 3 || [0, 1, 2, 3].any s.coolantBinds
  | 2 => decide (s.getF (.cle .tInProt) > 640)
  | 3 => decide (s.getF (.cle .flowProt) < 400) && s.getF (.cle .coolStatusState) == 0 &&
      !s.flag (.cle .coolStatusProtectFlow)
  | 4 => s.fouling
  | 5 => decide (s.getF (.cle .pressPrsIn) > 570)
  | 6 => s.humidityBad || decide (s.lowerTin < s.dew + 32)
  | 7 => decide (s.lowerTin < 320)
  | _ => false

/-- Has the condition of a warning gone? CONDENSATION clears above the dew point plus 3 K. -/
def State.warnGone (s : State) (b : Nat) : Bool :=
  if b = 6 then !s.humidityBad && decide (s.lowerTin > s.dew + 48) else !s.warnHolds b

/-- COOLANT_WARN (R303): the condition has held for its time. -/
def execCoolantWarn (bit : Nat) (s : State) : Host.Outcome State Fault Refusal :=
  .next (if s.kilnActs && s.warnHolds bit then s.warnSet bit else s)

/-- COOLANT_WARN_CLEAR (R303): the condition has been absent for 60 s. -/
def execCoolantWarnClear (bit : Nat) (s : State) : Host.Outcome State Fault Refusal :=
  .next (if s.kilnActs && s.warnGone bit then s.warnClear bit else s)

/-- COOLANT_WARN_REPEAT (R303). -/
def execCoolantWarnRepeat (s : State) : Host.Outcome State Fault Refusal :=
  .next (if s.kilnActs && s.getF (.cle .coolStatusWarn) != 0 then s.sendWarn.served 3 else s)

/-- CONDENSATION (R299). -/
def execCondensation (s : State) : Host.Outcome State Fault Refusal :=
  .next (if s.kilnActs && s.warnHolds 6 then s.warnSet 6 else s)

/-- CONDENSATION_CLEAR (R299). -/
def execCondensationClear (s : State) : Host.Outcome State Fault Refusal :=
  .next (if s.kilnActs && s.warnGone 6 then s.warnClear 6 else s)

/-- OVERPRESSURE (R303): above 600 kPa both pumps stop; under LEAK its own pump command stands (R298). -/
def execOverpressure (kpa : Nat) (s : State) : Host.Outcome State Fault Refusal :=
  .next (if s.kilnActs && decide (kpa > 600) && !s.cool.overpressure then
    let s := { s with cool := { s.cool with overpressure := true } }
    let s := if s.flag (.cle .coolStatusLeak) then s else s.commandDrive s.lastCodes 0 3
    (s.coolEvent 0x0F 2 (min kpa 4095)).alarmNow 7 0
  else s)

/-! ### HOT_N (R305 to R308) -/

/-- HOT_N (R307): a comparator of die d trips: the latch, the stop of issue, the drive stage, and the active Kiln's part. -/
def execHotN (d : Nat) (stack : Bool) (s : State) : Host.Outcome State Fault Refusal :=
  .next (if d < 4 ∧ s.isOn (.core d) then
    let was := s.flag (.cle .coolStatusHotN)
    let s := ((s.setF (.cle .hotnDie) 0 d).setFlag (.cle .hotnStack) 0 stack).setF (.cle .coolStatusHotN) 0 1
    let s : State := { s with power := { s.power with hotN := true } }
    let s := ((s.setF (.drv .statusHotN) 0 1).stopSlices fun _ => true).applyDrive
    if was || s.active.isNone then s else s.hotNKiln d stack
  else s)

/-- HOT_N_CLEAR (R308): every compared value has been 10 K below the trip temperature for 10 s; the active Kiln releases the
latch. The quiesce ends at once where flow has not been lost, otherwise with QUIESCE_LIFTED (R302). -/
def execHotNClear (s : State) : Host.Outcome State Fault Refusal :=
  .next (if s.kilnActs && s.flag (.cle .coolStatusHotN) then
    let s := (s.setF (.cle .coolStatusHotN) 0 0).setF (.drv .statusHotN) 0 0
    let s : State := { s with power := { s.power with hotN := false } }
    let s := (s.dropProtect 3).applyDrive
    let s := (s.coolEvent 0x0E 1 0).alarmNow 6 0
    (if s.getF (.cle .coolStatusState) = 0 then s.coolantLifted else s).allClear
  else s)

end Sys2Proof.Machine
end

