-- ==== Sys2Proof/Machine/Power.lean ====
section
/-!
DEFINITION. Start-up from AUX power-up to RUNNING (R385, R397, R451, R460 to R465), its failures (R390), the clock (R27, R28),
lost domains (R20), the ends of drains and parks (R22, R95), the input (R454, R418), removal (R466 to R468), and the loss of AUX.
-/

namespace Sys2Proof.Machine

/-- Put the start-up sequence at a step. -/
def State.bootAt (s : State) (b : BootStep) : State := { s with power := { s.power with boot := b } }

/-- Note whether the second pressure test or precharge is under way. -/
def State.setRetried (s : State) (b : Bool) : State := { s with power := { s.power with retried := b } }

/-- Every valve code a command gives the same. -/
def allValves (code : Nat) : List Nat := List.replicate 8 code

/-- An event of SOURCE 0x0E (R470). -/
def State.powerEvent (s : State) (code severity data : Nat) : State := s.post 0x0E code severity data

/-- Set an RWC field and its committed value. -/
def State.setBoth (s : State) (f : Fld) (i v : Nat) : State := (s.setF f i v).setLive f i v

/-! ### AUX power-up (R385 steps 1 to 4) -/

/-- The straps (R365, R460, R461). -/
def State.takeStraps (s : State) (p : Straps) : State :=
  let slot := p.slot.getD 63 % 64
  let rack := p.rack.getD 63 % 64
  let bad := slot == 63 || rack == 63
  let fault := bad || p.tripSel.isNone || p.pwrClass.isNone
  let sel := p.tripSel.getD 0 % 4
  let cls := p.pwrClass.getD 0 % 4
  let s := (s.setF (.mod .strapsSlot) 0 slot).setF (.mod .strapsRack) 0 rack
  let s := (s.setF (.mod .strapsTripSel) 0 sel).setF (.mod .strapsPwrClass) 0 cls
  let s := (s.setFlag (.mod .strapsFault) 0 fault).setF (.grb .capCeilingPwrClass) 0 cls
  let s := (s.setF (.row .idSlot) 0 slot).setF (.row .idRack) 0 rack
  let s := if bad then (s.setF (.row .idStrapFault) 0 1).alertSet 7 else s
  let s := (s.setF (.cle .hotnTripSel) 0 sel).setF (.cle .hotnTripC) 0 (105 + 5 * sel)
  let s := if p.tripSel.isNone then s.unnamedRecord else s
  if p.pwrClass.isNone then s.unnamedRecord else s

/-- The ceiling (R170): the lowest of 3,600 W, CAP_CEIL and the power class. -/
def State.takeCeiling (s : State) : State :=
  let otp := s.getF (.sec .otpSettingsCapCeil)
  let strap := 1800 + 600 * s.getF (.grb .capCeilingPwrClass)
  s.setF (.grb .capCeilingCapW) 0 (min (min 3600 strap) (if otp = 0 then 3600 else otp))

/-- The identity key's public half (R398). -/
def State.showIdent (s : State) : State :=
  let pub := if s.sec.identSeed.isEmpty then [] else edPublic s.sec.identSeed
  (List.range 8).foldl (fun s m => s.setF (.sec .identBytes) m (field pub (4 * m) 4)) s

/-- The default profiles of R409, as lists of addresses. The registers of profile 4 are those of stack 0, which DATA shifts. -/
def defaultProfile (p : Nat) : List Nat :=
  match p with
  | 1 => ((List.range 14).map fun i => 0xD80000 + 4 * i) ++ [0xE00004, 0xE00008] ++
      ((List.range 8).map fun v => 0xE00100 + 0x10 * v) ++ [0xE00204, 0xE00224]
  | 2 => ((List.range 8).map fun i => 0x100004 + 4 * i) ++ ((List.range 4).map fun n => 0x101000 + 0x100 * n) ++
      ((List.range 4).map fun n => 0x10100C + 0x100 * n) ++ ((List.range 4).map fun n => 0x10101C + 0x100 * n)
  | 3 => [0xC00000, 0xC80000].flatMap fun w => [0x4, 0x8, 0x14, 0x100, 0x104, 0x108, 0x10C, 0x110, 0x114, 0x118].map (w + ·)
  | 4 => [0x400004, 0x400008, 0x400014, 0x400018, 0x540024]
  | _ => []

/-- The default triggers of R409: source and profile. The order of the entries is a choice. -/
def defaultTriggers : List (Nat × Nat) := [(7, 1), (0xA, 1), (1, 2), (6, 3), (4, 4)]

/-- The trigger table and the profiles at AUX power-up (R409), and CIRC_SECTORS as the area header holds it (R417). -/
def State.caskDefaults (s : State) : State :=
  let s : State := { s with cask := s.cask.readHdr }
  let s := s.setBoth (.csk .cfgCircSectors) 0 s.cask.hdrSectors
  let s := (defaultTriggers.zipIdx).foldl (fun s e =>
    let s := (s.setBoth (.csk .trigSource) e.2 e.1.1).setBoth (.csk .trigProfile) e.2 e.1.2
    (s.setBoth (.csk .trigEnable) e.2 1).setBoth (.csk .trigAnyCode) e.2 1) s
  [1, 2, 3, 4].foldl (fun s p =>
    ((defaultProfile p).zipIdx).foldl (fun s e => s.setBoth (.csk .profAddr) ((p - 1) * 52 + e.2) e.1) s) s

/-- The inventory (R276, R381): the repair records and the cluster map of the better copy come into force, the other copy is
rewritten from it; the clusters of remap
records stay failed, absent logical clusters show. -/
def State.readInventory (s : State) : State :=
  let c := s.invCopy
  let s : State := { s with spareMap := c.map, sec := { s.sec with repairs := c.repairs, invA := c, invB := c } }
  let s := (s.sec.repairs.filter fun r => r.rtype == 5).foldl (fun s r =>
    s.modCl (bits r.word1 25 16) fun k => { k with failed := true, slicePassed := false }) s
  let s := (s.spareMap.filter fun e => e.2.isNone).foldl (fun s e => s.setAbsent e.1 true) s
  (List.range 20).foldl (fun s k => s.showLeft k) s

/-- Check a configuration partition and its sections (R397): the check code that failed, none if the image can be used. -/
def State.tryConfig (s : State) (p : Nat) : State × Option Nat :=
  let c := s.partCheck p
  let s := s.verifiedEvent p c
  if c ≠ 0 then (s, some c)
  else match checkedSections (norSlice (s.part p) 256 (field (s.part p) 12 4)) with
    | .ok _ => (s, none)
    | .error i => (s.lastVerify p 0 i 0, some 0)

/-- Keep the configuration image that start-up has chosen. -/
def State.chooseConfig (s : State) (p : Nat) : State :=
  { s with sec := { s.sec with
      bootHdr := norSlice (s.part p) 0 256,
      bootBody := norSlice (s.part p) 256 (field (s.part p) 12 4), bootSrc := if p = 6 then 1 else 0 } }

/-- The configuration image of R385 step 4, or the golden one with CONFIG_FALLBACK (R390). Answers whether there is one; with
generation 0 invalid there is none (R392). -/
def State.bootConfig (s : State) : State × Bool :=
  match s.tryConfig 3 with
  | (s, none) => (s.chooseConfig 3, !s.gen0Bad)
  | (s, some c) =>
    match (s.post 0x0B 5 2 (256 * c)).tryConfig 6 with
    | (s, none) => (s.chooseConfig 6, !s.gen0Bad)
    | (s, some _) => (s, false)

/-- Step 5 fails for good (R465): valves open, pumps stopped, IOD off, FAILED, cause 0 of ALERT_N, STATUS. -/
def State.step5Fail (s : State) : State :=
  let s := (s.commandDrive (allValves openCode) 0 3).bootAt .failed
  ((s.setModState .failed).alertSet 0).sendStatus

/-- The event of the pressure-hold test (R304, R309): a loop and its state. -/
def State.holdEvent (s : State) (loop st : Nat) : State := s.coolEvent 7 2 (loop + 16 * st + 256)

/-- The first loop that does not read DRY, with its state. -/
def badLoop (loops : List Nat) : Option (Nat × Nat) :=
  match loops.findIdx? fun st => st != 0 with
  | some i => some (i % 4, loops.getD i 0 % 8)
  | none => none

/-- Steps 5.1 and 5.2 (R464, R465): a loop that is not DRY ends the start-up; else the pumps stop and the valves close. -/
def State.step51 (s : State) (loops : List Nat) : State :=
  match badLoop loops with
  | some (n, st) => (s.holdEvent n st).step5Fail
  | none => (s.commandDrive (allValves 0) 0 3).bootAt .pressureWait

/-- The active Kiln's part of start-up, steps 4 and 5.1 (R385, R390). -/
def State.kilnBoot (s : State) (loops : List Nat) : State :=
  let bad := s.getF (.sec .otpStatusBad)
  let s := if bad = 0 then s else s.post 0x0B 7 (if bad.testBit 0 then 2 else 1) bad
  match s.readInventory.bootConfig with
  | (s, found) =>
    let s : State := { s with cool := { s.cool with model := s.goldenModel } }
    let s := s.bothRow fun s => [0, 1].foldl (fun s p => s.portRestart p) s
    if found then s.step51 loops
    else
      let s := (s.commandDrive (allValves openCode) 7200 3).bootAt .failed
      (s.setModState .failed).sendStatus

/-- The Kiln that claims ACT_OWN at AUX power-up: the one named, if both run an image. -/
def State.firstClaim (s : State) (first : Kiln) : Option Kiln :=
  match s.kln.ka.up, s.kln.kb.up with
  | true, true => some first
  | true, false => some .ka
  | false, true => some .kb
  | false, false => none

/-- AUX_POWER_UP (R385 steps 1 to 4, R451, R464 step 5.1): both ROMs read straps and settings and load an image, one Kiln claims
ACT_OWN, chooses the configuration and checks the leak loops, whose states are given. Without a valid image both stay in
ROM (R386). -/
def execAuxPowerUp (straps : Straps) (first : Kiln) (loops : List Nat) (s : State) : Host.Outcome State Fault Refusal :=
  .next (if s.isOn .aux then s
  else
    let s := s.turnOn .aux
    let s : State := { s with power := { s.power with powerCycles := s.power.powerCycles + 1, modState := .starting } }
    let s := ((s.takeStraps straps).readOtp.showIdent).takeCeiling.caskDefaults
    let s := (s.bootKiln .ka).bootKiln .kb
    match s.firstClaim first with
    | none => s.bootAt .rom
    | some k => (s.takeOver k).kilnBoot loops)

/-! ### The pressure-hold test and precharge (R464 steps 5.3 to 5.6, R465) -/

/-- PRESSURE_REACHED (R464 step 5.3). -/
def execPressureReached (s : State) : Host.Outcome State Fault Refusal :=
  .next (if s.kilnActs && s.power.boot == .pressureWait then s.bootAt .pressureHold else s)

/-- The pressure was too low or fell: once more after 60 s, or never (R465). -/
def State.pressureFail (s : State) : State :=
  let s := s.holdEvent 0 0
  if s.power.retried then s.step5Fail else s.bootAt .pressureRetry

/-- PRESSURE_WAIT_TIMEOUT (R464): the test starts regardless and fails. -/
def execPressureWaitTimeout (s : State) : Host.Outcome State Fault Refusal :=
  .next (if s.kilnActs && s.power.boot == .pressureWait then s.pressureFail else s)

/-- A meter or pressure sensor fails its zero check (R427): implausible until it passes the next one. -/
def State.zeroFail (s : State) (id : Nat) : State :=
  if sensClass id = 2 ∨ sensClass id = 3 then
    let s := s.substitute id 1
    (s.setSens id { s.sensRec id with kept := true }).sensEvent id 1
  else s

/-- The source of REFCLK (R27): the carrier's only where the setting allows it and the input is good. -/
def State.selectClock (s : State) (carrier : Bool) : State :=
  s.setFlag (.sec .bootRefclkCarrier) 0 (carrier && s.flag (.sec .otpSettingsRefclkExtOk))

/-- PRESSURE_HOLD_END (R304, R464 steps 5.4 and 5.5, R427, R27): the fall of PRS_IN in kPa and the loops' states judge the test; on
a pass the valves open and precharge begins. -/
def execPressureHoldEnd (fall : Nat) (loops zeroBad : List Nat) (carrier : Bool) (s : State) :
    Host.Outcome State Fault Refusal :=
  .next (if s.kilnActs && s.power.boot == .pressureHold then
    match badLoop loops with
    | some (n, st) => (s.holdEvent n st).step5Fail
    | none =>
      if fall > 5 then s.pressureFail
      else
        let s := ((zeroBad.filter sensKnown).foldl (fun s id => s.zeroFail id) s).refresh.refactor
        let s := (s.selectClock carrier).commandDrive (allValves openCode) 0 3
        ((s.setRetried false).setF (.mod .pwrStatusMain) 0 1).bootAt .precharge
  else s)

/-- PRESSURE_TEST_RETRY (R465): step 5 once more. -/
def execPressureTestRetry (loops : List Nat) (s : State) : Host.Outcome State Fault Refusal :=
  .next (if s.kilnActs && s.power.boot == .pressureRetry then (s.setRetried true).step51 loops else s)

/-- PRECHARGE_TIMEOUT (R465): the main stage opens; once more after 5 s, or never. -/
def State.prechargeFail (s : State) : State :=
  let again := s.power.retried
  let s := (s.powerEvent 4 2 again.toNat).setF (.mod .pwrStatusMain) 0 0
  if again then s.step5Fail else s.bootAt .prechargeRetry

/-- PRECHARGE_TIMEOUT. -/
def execPrechargeTimeout (s : State) : Host.Outcome State Fault Refusal :=
  .next (if s.kilnActs && s.power.boot == .precharge then s.prechargeFail else s)

/-- PRECHARGE_RETRY (R465). -/
def execPrechargeRetry (s : State) : Host.Outcome State Fault Refusal :=
  .next (if s.kilnActs && s.power.boot == .prechargeRetry then
    ((s.setRetried true).setF (.mod .pwrStatusMain) 0 1).bootAt .precharge
  else s)

/-! ### IOD and the first part of the configuration (R385 steps 6 and 7) -/

/-- IOD goes on, the first part of the configuration comes into force, and the pumps start (R385 steps 6 and 7, R397). A check
that fails ends the start-up (R390). -/
def State.bootIod (s : State) : State :=
  let s := s.iodOn
  match s.bootOtp s.bootSections s.bootPart with
  | (s, false) => s.bootFail
  | (s, true) =>
    match s.applyConfig s.bootSections firstSel firstOrder s.bootPart with
    | (s, false) => s.bootFail
    | (s, true) =>
      let s := s.configShown s.sec.bootSrc s.sec.bootHdr
      (s.commandDrive s.lastCodes (s.getF (.drv .cfgMinRpm)) 3).bootAt .flowWait

/-- PRECHARGE_DONE (R464 step 5.6, R385 steps 6 and 7). -/
def execPrechargeDone (s : State) : Host.Outcome State Fault Refusal :=
  .next (if s.kilnActs && s.power.boot == .precharge then (s.setF (.mod .pwrStatusMain) 0 2).bootIod else s)

/-! ### The compute domains (R385 steps 7 to 9) -/

/-- STATE is RUNNING, the mailbox IDLE, STATUS sent (R385 step 9); a quiesce in force shows at once. -/
def State.bootDone (s : State) : State :=
  let s := (s.bootAt .done).setModState .running
  let s := (if s.power.quiesce.isEmpty then s else s.claimStop).settle
  (s.setF (.thl .mbxStateState) 0 0).sendStatus

/-- BOOT_FLOW_READY (R385 steps 7 to 9): flow has held; what the tests of the power-up find is given. -/
def execBootFlowReady (tests : PowerTests) (s : State) : Host.Outcome State Fault Refusal :=
  .next (if s.kilnActs && s.power.boot == .flowWait then
    match s.computeOn tests with
    | (s, true) => s.bootDone
    | (s, false) => s
  else s)

/-- No flow by the limit of step 7 (R390): the event FLOW_LOSS, CORE stays off, FAILED. -/
def State.flowFail (s : State) : State :=
  (((s.coolEvent 9 2 s.flowData).bootAt .failed).setModState .failed).sendStatus

/-- BOOT_FLOW_TIMEOUT (R390). -/
def execBootFlowTimeout (s : State) : Host.Outcome State Fault Refusal :=
  .next (if s.kilnActs && s.power.boot == .flowWait then s.flowFail else s)

/-! ### The clock (R28) -/

/-- The clock tree cannot be restored (R28 step 4): IOD stays off, the drive commands held, FAILED. -/
def State.clockFail (s : State) : State :=
  (((s.postMod 0x06 (1 + 2 * ((s.getF (.kln .dieHbFatal)) / 16 % 2))).bootAt .failed).setModState .failed).sendStatus

/-- A clock fault, of the given DATA (R28 step 3, R274): the record and the row-bus message, then every domain below AUX off. The
host's event waits for its ring. -/
def State.clockFault (s : State) (data : Nat) : State :=
  let on := s.isOn .iod
  let s := s.post 0x09 0x06 2 data false 0x01
  if on then
    let s := s.iodOff.hostEvent ⟨0x09, 0x06, 2, data⟩
    if s.power.boot = .removed ∨ s.power.modState = .failed then s
    else (s.bootAt .clockWait).setModState .starting
  else s

/-- REFCLK_LOSS (R28 steps 1 to 3): both Kilns see it; the drive commands are held and ALERT_N asserted. -/
def execRefclkLoss (s : State) : Host.Outcome State Fault Refusal :=
  .next (if s.isOn .aux then
    let s := (s.setHealthBit .ka 8 true).setHealthBit .kb 8 true
    let s := { s with row := { s.row with measured := [] } }
    if s.active.isSome then (s.alertSet 3).clockFault 0 else s
  else s)

/-- CLOCK_TREE_RESTORED (R28 steps 4 and 5): from the on-module oscillator; the module powers up again from IOD. -/
def execClockTreeRestored (s : State) : Host.Outcome State Fault Refusal :=
  .next (if s.kilnActs && ((s.getF (.row .alertCause)).testBit 3 || s.power.boot == .clockWait) then
    let s := ((s.setHealthBit .ka 8 false).setHealthBit .kb 8 false).clearBit (.kln .dieHbFatal) 0 4
    let s := (s.setF (.sec .bootRefclkCarrier) 0 0).alertClear 3
    if s.power.boot = .clockWait then s.bootIod else s
  else s)

/-! ### A step exceeds its limit (R385, R390, R465) -/

/-- BOOT_STEP_TIMEOUT: the step that start-up is at fails as R390 and R465 say for it. -/
def execBootStepTimeout (s : State) : Host.Outcome State Fault Refusal :=
  .next (if s.kilnActs then
    match s.power.boot with
    | .pressureWait => s.pressureFail
    | .pressureHold => s.pressureFail
    | .precharge => s.prechargeFail
    | .flowWait => s.flowFail
    | .clockWait => s.clockFail
    | _ => s
  else s)

/-! ### Lost domains (R20, R121) -/

/-- AUX goes off: everything but what stands in the NOR, in one-time-programmable memory and in the store survives no further;
what has left on a link has left. A partition that IMAGE_UPDATE was writing is invalid (R401). Free values drawn stay drawn, and
memory that returns holds others. -/
def State.auxOff (s : State) : State :=
  let s := (if s.thl.mbxRun then s.mbxUndo else s).iodOff
  let r := State.reset
  { r with
    pending := s.pending, freeCtr := s.freeCtr,
    power := { r.power with opHours := s.power.opHours, powerCycles := s.power.powerCycles },
    cask := { r.cask with circ := s.cask.circ, circHead := s.cask.circHead, perm := s.cask.perm,
                          hdrA := s.cask.hdrA, hdrB := s.cask.hdrB, permBad := s.cask.permBad,
                          hdrSectors := s.cask.hdrSectors, retired := s.cask.retired, torn := s.cask.torn },
    sec := { r.sec with otp := s.sec.otp, parts := s.sec.parts, imgState := s.sec.norImg, norImg := s.sec.norImg,
                        orderP := s.sec.orderP, serial := s.sec.serial, identSeed := s.sec.identSeed, factoryRev := s.sec.factoryRev,
                        spares := s.sec.spares, meter := s.sec.meter, invA := s.sec.invA,
                        invB := s.sec.invB, ppr := s.sec.ppr },
    mem := { r.mem with epochs := s.mem.epochs },
    clu := s.clu.mapVals clusterInit fun k =>
      { clusterInit with vEpoch := k.vEpoch, acc0 := ⟨some k.vEpoch, []⟩, acc1 := ⟨some k.vEpoch, []⟩,
                         storeEpoch := k.storeEpoch },
    row := { r.row with sent := s.row.sent },
    lnk := { r.lnk with out := s.lnk.out, wire := s.lnk.wire } }

/-- AUX_POWER_LOSS (R415, R418, R451): the Kilns, the interlock and the drive stage are lost until the next AUX power-up; torn: a
record was being programmed, and its slot is torn. -/
def execAuxPowerLoss (torn : Bool) (s : State) : Host.Outcome State Fault Refusal :=
  .next (if s.isOn .aux then (if torn then s.tearSlot else s).auxOff else s)

/-- The dies whose MEM a fault in a domain removes. DESIGN CHOICE (log entry 175): R121 names the supply fault of a MEM domain; a
fault of CORE or IOD that takes MEM down with it is one too. -/
def memDies (d : Domain) : List Nat :=
  match d with
  | .mem n => [n]
  | .core n => [n]
  | .iod => [0, 1, 2, 3]
  | _ => []

/-- DOMAIN_FAULT (R20, R121, R157): a fault removes a domain and all that depend on it; stacks that lose their supply fail, and
the loss is recorded in the Cask, with a source and code that the spec does not give. -/
def execDomainFault (d : Domain) (s : State) : Host.Outcome State Fault Refusal :=
  .next (if s.isOn d then
    match d with
    | .aux => s.auxOff
    | d =>
      let lost := (memDies d).filter fun n => s.isOn (.mem n)
      let s := s.domainOff d
      let s := lost.foldl (fun s n => (List.range 5).foldl (fun s i => s.stackFail (5 * n + i) 3) s) s
      s.unnamedRecord
  else s)

/-! ### The end of a drain or park (R22, R95, R467) -/

/-- DRAIN_COMPLETE (R95): no token is held; the event DRAINED, or the next step of a removal (R467 step 3). -/
def execDrainComplete (s : State) : Host.Outcome State Fault Refusal :=
  .next (if (s.power.draining || s.getF (.mod .removePhase) == 1) && s.heldTokens == 0 then
    let s := if s.power.draining then
        ({ s with power := { s.power with draining := false } } : State).postMod 0x01 0
      else s
    (if s.getF (.mod .removePhase) = 1 then s.setF (.mod .removePhase) 0 2 else s).settle
  else s)

/-- DRAIN_LIMIT_EXPIRY (R95, R252): what is still held ends with ABORTED_QUIESCE. -/
def execDrainLimitExpiry (s : State) : Host.Outcome State Fault Refusal :=
  .next (if s.power.draining then s.abortHeld else s)

/-- PARK_COMPLETE (R22): the drain or quiesce of a park is over. -/
def execParkComplete (s : State) : Host.Outcome State Fault Refusal :=
  .next (if (s.power.parkPlanned || s.power.parkQuiesce) && !s.power.draining && s.heldTokens == 0 && s.isOn .iod then
    s.enterPark
  else s)

/-! ### The input (R418, R454) -/

/-- The write of an image is abandoned (R401, R418 step 1): its partition stays invalid, and the command fails with the NOR. -/
def State.abandonImage (s : State) : State :=
  if s.getF (.thl .mbxStateOpcode) = 4 ∧ s.thl.mbxRun then
    let s := s.mbxUndo
    { s with thl := { s.thl with mbxResult := some (7, []) } }
  else s

/-- The main stage opens and IOD goes off with all that depends on it; the Kiln waits for the input (R454). -/
def State.mainOpen (s : State) : State :=
  let s := (if s.getF (.mod .pwrStatusMain) = 0 then s else s.setF (.mod .pwrStatusMain) 0 3).iodOff
  if [BootStep.precharge, .prechargeRetry, .flowWait, .done, .clockWait].contains s.power.boot then
    (s.bootAt .inputWait).setModState .starting
  else s

/-- PWR_LOSS (R418, R454): below 38 V for 50 µs. -/
def execPwrLoss (s : State) : Host.Outcome State Fault Refusal :=
  .next (if s.isOn .aux then
    let s := s.abandonImage
    (s.powerFlush.powerEvent 3 2 0).mainOpen
  else s)

/-- POWER_RETURN (R418, R471): above 40 V again for 100 ms; recording goes on. -/
def execPowerReturn (s : State) : Host.Outcome State Fault Refusal :=
  .next (if s.isOn .aux && s.cask.stopped then
    ({ s with cask := { s.cask with stopped := false } } : State).setF (.mod .pwrStatusPwrLoss) 0 1
  else s)

/-- INPUT_LOW (R454): volt is the lowest input, in 10 mV. -/
def execInputLow (volt : Nat) (s : State) : Host.Outcome State Fault Refusal :=
  .next (if s.isOn .aux && decide (3800 ≤ volt ∧ volt < 4000) && !s.flag (.mod .pwrStatusInputLow) then
    (s.setF (.mod .pwrStatusInputLow) 0 1).powerEvent 1 1 volt
  else s)

/-- INPUT_HIGH (R454): volt is the highest input, in 10 mV. -/
def execInputHigh (volt : Nat) (s : State) : Host.Outcome State Fault Refusal :=
  .next (if s.isOn .aux && decide (6000 < volt) && !s.flag (.mod .pwrStatusInputHigh) then
    (s.setF (.mod .pwrStatusInputHigh) 0 1).powerEvent 2 1 (volt % 2 ^ 16)
  else s)

/-- INPUT_TRIP (R454): above 63 V for 100 µs. -/
def execInputTrip (s : State) : Host.Outcome State Fault Refusal :=
  .next (if s.isOn .aux then ((s.setF (.mod .pwrStatusOvTrip) 0 1).powerEvent 3 2 1).mainOpen else s)

/-- INPUT_RESTORED (R454): within 40–60 V for 1 s; precharge again. -/
def execInputRestored (s : State) : Host.Outcome State Fault Refusal :=
  .next (if s.kilnActs && s.power.boot == .inputWait then
    ((s.setRetried false).setF (.mod .pwrStatusMain) 0 1).bootAt .precharge
  else s)

/-! ### Removal (R466, R467) -/

/-- Put a removal at a phase of MOD_REMOVE. -/
def State.removeAt (s : State) (p : Nat) : State := s.setF (.mod .removePhase) 0 p

/-- The handle indicator. -/
def State.indicate (s : State) (i : Indicator) : State := { s with power := { s.power with indicator := i } }

/-- Step 6 of R467: the main switch opens. -/
def State.mainRelease (s : State) : State := ((s.removeAt 4).setF (.mod .pwrStatusMain) 0 0).bootAt .removed

/-- Start a removal (R466, R467 steps 1 and 2): source 0 REMOVE_REQ_N, 1 host. With IOD off it goes straight to step 6. A later
trigger is ignored. -/
def State.startRemoval (s : State) (source : Nat) : State :=
  if s.kilnActs && !s.flag (.mod .removeRequest) then
    let s := ((s.setF (.mod .removeRequest) 0 1).setF (.mod .removeSource) 0 source).removeAt 1
    let s := ((s.setModState .draining).postMod 0x05 source).indicate .flashingAmber
    if s.isOn .iod then
      (s.bootAt .removed).startDrain s.drainLimit
    else (s.setModState .removing).mainRelease
  else s

/-- REMOVE_REQ_PIN (R466). -/
def execRemoveReqPin (s : State) : Host.Outcome State Fault Refusal := .next (s.startRemoval 0)

/-- MOD_REMOVE_WRITE (R466): a write of 1 to MOD_REMOVE.REQUEST. -/
def execModRemoveWrite (s : State) : Host.Outcome State Fault Refusal := .next (s.startRemoval 1)

/-- REMOVAL_SYNC_END (R467 steps 3 to 6): the last SUMMARY and STATUS, every port parked, the domains and the main switch off. -/
def execRemovalSyncEnd (s : State) : Host.Outcome State Fault Refusal :=
  .next (if s.kilnActs && s.getF (.mod .removePhase) == 2 then
    let s := (((s.removeAt 3).setModState .removing).sendSummary).sendStatus
    let s := (List.range 12).foldl (fun s k =>
      if s.isOn (.opt k) then s.portPark k 1 else s) s
    s.iodOff.mainRelease
  else s)

/-- REMOVE_READY (R467 step 7): once HOT_N is released, pumps and coils off, PHASE READY, the indicator steady blue. -/
def execRemoveReady (s : State) : Host.Outcome State Fault Refusal :=
  .next (if s.kilnActs && s.getF (.mod .removePhase) == 4 && !s.flag (.drv .statusHotN) then
    let s := (s.commandDrive (allValves openCode) 0 3).removeAt 5
    ((s.powerEvent 5 0 (s.getF (.mod .removeSource))).sendStatus).indicate .steadyBlue
  else s)

/-- SURPRISE_REMOVAL (R468): SEATED_N high for 1 ms with power present: the event, then steps 1 to 4 of R418. -/
def execSurpriseRemoval (s : State) : Host.Outcome State Fault Refusal :=
  .next (if s.isOn .aux && s.flag (.mod .pwrStatusSeated) then
    ((s.setF (.mod .pwrStatusSeated) 0 0).powerEvent 6 2 0).abandonImage.powerFlush
  else s)

/-- SEATED_RETURN (R468): SEATED_N low again within 1 s, the input never below 38 V. -/
def execSeatedReturn (s : State) : Host.Outcome State Fault Refusal :=
  .next (if s.isOn .aux && !s.flag (.mod .pwrStatusSeated) then
    let off := s.cask.stopped && s.getF (.mod .pwrStatusMain) == 3
    ({ s with cask := { s.cask with stopped := off } } : State).setF (.mod .pwrStatusSeated) 0 1
  else s)

/-! ### Image confirmation (R387) -/

/-- IMAGE_CONFIRM_TIMER (R387): a Kiln has been healthy or active on its image for 10 min without a break. -/
def execImageConfirmTimer (k : Kiln) (s : State) : Host.Outcome State Fault Refusal :=
  .next (if s.kilnActs && (s.active == some k || s.shownHealthy k) && decide (s.imageOf k < 2) && s.imgState (s.imageOf k) == 1 then
    (s.setImgState (s.imageOf k) 2).post 0x0B 3 0 (s.imageOf k)
  else s)

end Sys2Proof.Machine
end

