-- ==== Sys2Proof/Machine/Kiln.lean ====
section
/-!
DEFINITION. The commands of the Kiln pair: the interlock (R254), handovers (R264 to R267), the state copy and health (R258 to
R261, R269, R270), restarts (R271), no owner (R272), the supervision of the dies (R273 to R275) and the inventory (R276).
-/

namespace Sys2Proof.Machine

/-- May a Kiln take the interlock: it is in NONE, and the Kiln may claim (R254, R263)? -/
def State.canTake (s : State) (k : Kiln) : Bool := s.isOn .aux && s.active.isNone && s.mayClaim k

/-! ### The interlock (R254) -/

/-- Which of two claims in the same interlock cycle is granted (R254): that of the Kiln that did not hold ACT_OWN last. -/
def State.claimWinner (s : State) : Kiln :=
  match s.kln.lastOwner with
  | some k => otherKiln k
  | none => .ka

/-- ACT_OWN_CLAIM (R254): the Kilns that pulse CLAIM. -/
def execActOwnClaim (ka kb : Bool) (s : State) : Host.Outcome State Fault Refusal :=
  .next (match ka && s.canTake .ka, kb && s.canTake .kb with
    | true, true => s.takeOver s.claimWinner
    | true, false => s.takeOver .ka
    | false, true => s.takeOver .kb
    | false, false => s)

/-- ACT_OWN_RELEASE (R254, R264): the holder's release, for a planned handover or under R262. -/
def execActOwnRelease (k : Kiln) (s : State) : Host.Outcome State Fault Refusal :=
  .next (s.release k (if s.kln.planned = 0 then 3 else s.kln.planned))

/-- STROBE_TIMEOUT (R254, R257): the holder finds it has lost ACT_OWN and restarts. -/
def execStrobeTimeout (s : State) : Host.Outcome State Fault Refusal :=
  .next (match s.active with
    | some k => (s.toNone 4).startRestart k 2
    | none => s)

/-- HOLDER_RESET (R254). -/
def execHolderReset (s : State) : Host.Outcome State Fault Refusal :=
  .next (match s.active with
    | some k => (s.toNone 5).startRestart k 2
    | none => s)

/-- STANDBY_CLAIM (R264, R265): a healthy standby sees NONE. -/
def execStandbyClaim (k : Kiln) (s : State) : Host.Outcome State Fault Refusal :=
  .next (if s.canTake k && s.healthy k then s.takeOver k else s)

/-- STALE_CLAIM (R266): 100 ms in NONE; a Kiln without a fresh state takes over in stale mode. -/
def execStaleClaim (k : Kiln) (s : State) : Host.Outcome State Fault Refusal :=
  .next (if s.canTake k && s.staleFor k then s.takeOver k else s)

/-- HANDOVER_CLAIM_TIMEOUT (R264): nobody has claimed within 2 ms of a planned release. After a command the old holder claims
again; after a release under R262 the interlock stays in NONE. -/
def execHandoverClaimTimeout (s : State) : Host.Outcome State Fault Refusal :=
  .next (match s.kln.lastOwner with
    | some k =>
      if s.canTake k && (s.kln.noneCause == 1 || s.kln.noneCause == 2) then
        let s := (((s.grantOwn k).caskTakeover k).postOwed).mbxHandover
        (s.setF (.kln .ctrlRestart) (kilnIdx k) 0).klnEvent 2 1 (kilnIdx k)
      else s
    | none => s)

/-! ### The state copy and health (R258 to R261, R269, R270) -/

/-- The standby keeps the Cask record of a frame: the 512 most recent (R410). -/
def State.keepFramed (s : State) (k : Kiln) (r : Option CaskRec) : State :=
  match r with
  | none => s
  | some r =>
    let b := (s.cask.buf k).filter (fun e => e.record.seq != r.seq) ++ [⟨r, true, false⟩]
    { s with cask := s.cask.setBuf k (b.drop (b.length - 512)) }

/-- Does the standby accept the frame on the link (R259, R389)? -/
def State.frameGood (s : State) (k : Kiln) (f : Frame) (ok : Bool) : Bool :=
  let later := match (s.kln.kiln k).frame with
    | some g => decide (f.cycle > g.cycle)
    | none => true
  ok && later && (s.kln.kiln k).compat == (s.kln.kiln (otherKiln k)).compat

/-- The standby takes a good frame (R259, R269, R318, R327): it keeps it, the cells of its table, the KEEP words and the Cask
record. -/
def State.acceptFrame (s : State) (k : Kiln) (f : Frame) : State :=
  let s := s.modKiln k fun n => { n with
    frame := some f, goodFrames := min 8 (n.goodFrames + 1), shadowOk := min 100 (n.shadowOk + 1),
    rcCells := f.cells.foldl (fun m e => m.set e.1 e.2) (n.rcCells.filter fun e => e.1 / 8192 / 256 != f.rcSlice) }
  let s := f.keep.foldl (fun s e => s.setShadow (32 * s.loopF .loopCfgFrame e.1 + 8) (signed 16 e.2)) s
  let s := (s.keepFramed k f.record).setAge k 0
  let s := if (s.kln.kiln k).shadowOk ≥ 100 then s.setHealthBit k 7 false else s
  s.evalHealth k

/-- The standby discards a frame and counts it; eight frames accepted in a row stand (R259, R269). -/
def State.discardFrame (s : State) (k : Kiln) : State :=
  s.modKiln k fun n => { n with goodFrames := if n.goodFrames ≥ 8 then 8 else 0, bad := min (n.bad + 1) 65535 }

/-- STATE_FRAME (R259, R268, R269): the frame sent last reaches the standby, with its VER and its CRC as the link leaves them. -/
def execStateFrame (verOk crcOk : Bool) (s : State) : Host.Outcome State Fault Refusal :=
  .next (match s.receiver, s.kln.sent with
    | some k, some f =>
      if !s.isOn .aux || !(s.kln.kiln k).up || s.getF (.kln .roleRole) (kilnIdx k) != 1 then s
      else if s.frameGood k f (verOk && crcOk) then s.acceptFrame k f
      else s.discardFrame k
    | _, _ => s)

/-- The bits of KLN_HEALTH that the standby's checks give: all but WATCHDOG, COPY_STALE and DIVERGE. -/
def reportedBits : Nat := 0x72F

/-- HEALTH_WORD (R261, R268): bits holds the failed checks of the standby; the active Kiln shows what the word reports. -/
def execHealthWord (bits : Nat) (s : State) : Host.Outcome State Fault Refusal :=
  .next (match s.standby with
    | some k =>
      if s.isOn .aux && (s.kln.kiln k).up then
        let s := s.modKiln k fun n => { n with health := (bits &&& reportedBits) ||| (n.health &&& 0xD0) }
        (s.evalHealth k).showStandby k
      else s
    | none => s)

/-- A Kiln diverges (R256, R270): its shadow control has passed no cycle since; the event names the loop. -/
def State.diverge (s : State) (k : Kiln) (loop : Nat) : State :=
  let s := (s.setHealthBit k 7 true).modKiln k fun n => { n with shadowOk := 0 }
  s.klnEvent 6 1 (loop % 256)

/-- DIVERGENCE (R270): a shadow output has differed for 100 cycles in a row. -/
def execDivergence (loop : Nat) (s : State) : Host.Outcome State Fault Refusal :=
  .next (match s.standby with
    | some k =>
      if s.isOn .aux && (s.kln.kiln k).up then
        (s.modKiln k fun n => { n with divLoop := loop % 256, divCount := min (n.divCount + 1) 65535 }).diverge k loop
      else s
    | none => s)

/-- PROTECT_CONFIRM_TIMEOUT (R256): the active Kiln has not confirmed the standby's fall within 10 ms. -/
def execProtectConfirmTimeout (s : State) : Host.Outcome State Fault Refusal :=
  .next (match s.active, s.kln.unconfirmed with
    | some _, some k =>
      let s := (({ s with kln := { s.kln with unconfirmed := none } } : State).dropProtect 4).diverge k 0xFF
      (s.setF (.kln .healthDiverge) (kilnIdx k) 1).setF (.kln .roleHealthy) (kilnIdx k) 0
    | _, _ => s)

/-- STANDBY_LOST_TIMER (R269): 1 s without a healthy standby. -/
def execStandbyLostTimer (s : State) : Host.Outcome State Fault Refusal :=
  .next (match s.standby with
    | some k =>
      if s.isOn .aux && !s.shownHealthy k && !s.kln.standbyLost then
        ({ s with kln := { s.kln with standbyLost := true } } : State).klnEvent 3 1 (s.healthOf k) 9
      else s
    | none => s)

/-! ### Restarts and planned handovers (R262 to R264, R271) -/

/-- KILN_WATCHDOG (R262, R271): a Kiln that does not kick is reset; the holder loses ACT_OWN. -/
def execKilnWatchdog (k : Kiln) (s : State) : Host.Outcome State Fault Refusal :=
  .next (if s.isOn .aux && (s.kln.kiln k).up then
    (if s.active = some k then s.toNone 5 else s).startRestart k 1
  else s)

/-- Start a planned handover for a cause of R278 (R264); one under way goes on. -/
def State.planHandover (s : State) (cause : Nat) : State :=
  if s.kln.planned = 0 then { s with kln := { s.kln with planned := cause } } else s

/-- A write of KLN_CTRL.HANDOVER in the window of a Kiln (R264, R279). -/
def State.handoverWrite (s : State) (k : Kiln) : State :=
  if s.active = some k then
    if s.standbyHealthy then (s.planHandover 2).setF (.kln .ctrlHandover) (kilnIdx k) 1
    else s.setF (.kln .ctrlRefused) (kilnIdx k) 1
  else s

/-- KLN_HANDOVER_WRITE. -/
def execKlnHandoverWrite (k : Kiln) (s : State) : Host.Outcome State Fault Refusal :=
  .next (if s.kilnActs then s.handoverWrite k else s)

/-- A write of KLN_CTRL.RESTART in the window of a Kiln (R271, R445): the holder hands over first. -/
def State.restartWrite (s : State) (k : Kiln) : State :=
  if s.flag (.csk .statusNorFailed) then s.setF (.kln .ctrlRefused) (kilnIdx k) 1
  else if s.active = some k then
    if s.standbyHealthy then (s.planHandover 2).setF (.kln .ctrlRestart) (kilnIdx k) 1
    else s.setF (.kln .ctrlRefused) (kilnIdx k) 1
  else s.startRestart k 4

/-- KLN_RESTART_WRITE. -/
def execKlnRestartWrite (k : Kiln) (s : State) : Host.Outcome State Fault Refusal :=
  .next (if s.kilnActs then s.restartWrite k else s)

/-- KILN_RESTART (R271, R386, R389): a Kiln that was reset runs its ROM and becomes standby. -/
def execKilnRestart (k : Kiln) (s : State) : Host.Outcome State Fault Refusal :=
  .next (if s.isOn .aux && s.getF (.kln .roleRole) (kilnIdx k) == 0 then s.bootKiln k else s)

/-- KILN_ELIGIBLE (R263): 10 s after a release under R262, restarted and healthy again. In NONE it claims, unless its state is no
longer fresh: then it claims as R266 has it. -/
def execKilnEligible (k : Kiln) (s : State) : Host.Outcome State Fault Refusal :=
  .next (if s.isOn .aux && (s.kln.kiln k).barred && (s.kln.kiln k).up && (s.kln.kiln k).been then
    let s := (s.modKiln k fun n => { n with barred := false }).setF (.kln .roleEligible) (kilnIdx k) 1
    if s.active.isNone && !s.staleFor k then s.takeOver k else s
  else s)

/-- NO_OWNER_TIMEOUT (R272): 10 s in NONE. -/
def execNoOwnerTimeout (s : State) : Host.Outcome State Fault Refusal :=
  .next (if s.isOn .aux && s.active.isNone && !s.flag (.kln .ownerQuiesce) then
    let s := (s.setF (.drv .statusMode) 0 2).applyDrive
    let s := [0, 1, 2, 3].foldl (fun s n =>
      if s.isOn (.core n) then s.modDie n fun d => { d with capUw := min d.capUw (175 * watt) } else s) s
    let s := (s.setF (.kln .ownerQuiesce) 0 1).quiesceNow 2
    s.setF (.row .alertAsserted) 0 1
  else s)

/-! ### The dies (R273 to R275) -/

/-- Is a die powered: a compute die with CORE, or the I/O die, 4? -/
def State.dieOn (s : State) (d : Nat) : Bool := if d = 4 then s.isOn .iod else decide (d < 4) && s.isOn (.core d)

/-- A die fails (R275); of the I/O die the rules say no more than the event. -/
def State.dieFails (s : State) (d cause : Nat) (mesh : Bool) : State :=
  if d < 4 then s.failDie d cause mesh
  else
    let s := (s.setBit (.kln .dieHbFailed) 0 4).setF (.kln .dieErrFailCause) 4 cause
    (s.clearBit (.kln .dieHbAlive) 0 4).klnEvent 9 2 (4 + 16 * cause)

/-- DIE_HB_STALL (R273, R280): the heartbeat has not moved for 10 ms; its management unit restarts, and the third restart within an
operating hour fails the die. mesh: the mesh of the die still answers. -/
def execDieHbStall (d : Nat) (mesh : Bool) (s : State) : Host.Outcome State Fault Refusal :=
  .next (if s.kilnActs && s.dieOn d && !s.dieFailed d then
    let s := (s.addSat (.kln .dieErrHbRestarts) d 1).clearBit (.kln .dieHbAlive) 0 d
    let s := s.klnEvent 8 1 d
    if s.getF (.kln .dieErrHbRestarts) d ≥ 3 then s.dieFails d 1 mesh else s
  else s)

/-- DIE_HB_FAIL (R273): no heartbeat for 100 ms, or a third restart within an operating hour. mesh: the mesh of the die still
answers. -/
def execDieHbFail (d : Nat) (mesh : Bool) (s : State) : Host.Outcome State Fault Refusal :=
  .next (if s.kilnActs && s.dieOn d && !s.dieFailed d then s.dieFails d 1 mesh else s)

/-- DIE_FATAL (R274): on a compute die it fails the die; on the I/O die it restarts IOD as a clock fault does. -/
def execDieFatal (d : Nat) (mesh : Bool) (s : State) : Host.Outcome State Fault Refusal :=
  .next (if s.kilnActs && s.dieOn d then
    let s := s.setBit (.kln .dieHbFatal) 0 d
    if d = 4 then s.clockFault 2 else s.dieFails d 2 mesh
  else s)

/-- DIE_CE (R274). -/
def execDieCe (d : Nat) (s : State) : Host.Outcome State Fault Refusal :=
  .next (if s.kilnActs && decide (d < 5) then s.addSat (.kln .dieErrCeCount) d 1 else s)

/-! ### The inventory (R276, R280) -/

/-- KLN_INV_DATA_READ (R280): the word that INDEX selects has been returned, and INDEX moves on. -/
def execKlnInvDataRead (s : State) : Host.Outcome State Fault Refusal :=
  .next (if s.kilnActs then s.addWrap (.kln .invSelIndex) 0 1 else s)

end Sys2Proof.Machine
end

