-- ==== Sys2Proof/Machine/Control.lean ====
section
/-!
DEFINITION. The control cycle of the active Kiln (R21, R172 to R184, R257 to R262, R284 to R293): its measurements, the caps, the
messages, the state frame, the self-checks; and the escalation for a hot stack (R182).
-/

namespace Sys2Proof.Machine

/-! ### Measurements -/

/-- Show a list of measured values in the instances of a field, as far as the list goes. -/
def State.showAll (s : State) (f : Fld) (l : List Nat) : State :=
  (l.zipIdx).foldl (fun s e => s.setF f e.2 (min e.1 (2 ^ f.width - 1))) s

/-- The warnings of the input end once it is back in range (R454). -/
def State.inputRange (s : State) (volt : Nat) : State :=
  let s := if volt ≥ 4000 then s.setF (.mod .pwrStatusInputLow) 0 0 else s
  if volt ≤ 6000 then s.setF (.mod .pwrStatusInputHigh) 0 0 else s

/-- Latch the measurements of a cycle (R21, R283 to R287), with what the registers of the drive stage and the input show (R359
to R361, R471). -/
def State.latchMeas (s : State) (m : Meas) : State :=
  let s := (s.takeReadings m.readings).takeSources m.sourceMw
  let s : State := { s with
    cool := { s.cool with zoneMw := m.zoneMw, dieMw := m.dieMw, inputMw := m.inputMw },
    grn := { s.grn with nondieUw := m.nonDieUw } }
  let s := ((s.showAll (.drv .valveStatusCurrent) (m.coil.take 8)).showAll (.drv .valveResRes) (m.coilRes.take 8)).showAll
    (.drv .valveDutyEnergyMj) (m.coilMj.take 8)
  let s := ((s.showAll (.drv .swCurrentI) (m.switchCur.take 4)).showAll (.drv .pumpStatusSpeed) (m.pumpRpm.take 2)).showAll
    (.drv .pumpCurrentMa) (m.pumpMa.take 2)
  let s := (s.setF (.mod .pwrInputVolt) 0 m.volt).setF (.mod .pwrInputPowerW) 0 (m.inputMw / 1000)
  let s := (s.inputRange m.volt).refresh.refreshLeak
  if s.prsVal 0 ≤ 600 then { s with cool := { s.cool with overpressure := false } } else s

/-- A millisecond of the coils' off-times passes (R346). -/
def State.offTimes (s : State) : State :=
  let ended := (s.drive.offMs.filter fun e => decide (e.2 ≤ 1)).map (·.1)
  let s : State := { s with drive := { s.drive with offMs := (s.drive.offMs.filter fun e => decide (1 < e.2)).map fun e =>
    (e.1, e.2 - 1) } }
  ended.foldl (fun s v => s.setF (.drv .valveStatusOfftime) v 0) s

/-- MODEL_SUSPECT of a zone (R293). -/
def State.suspectZone (s : State) (z : Nat) : State :=
  if !s.cool.suspect.contains z && (decide (s.departing z true > 16) || decide (s.departing z false > 16)) then
    let s : State := { s with cool := { s.cool with suspect := s.cool.suspect ++ [z] } }
    (s.coolEvent 6 1 z).refresh.refactor
  else s

/-! ### Thermal caps -/

/-- PROTECT causes that no longer stand: a fall that the active Kiln wrote before this cycle, and the standby's once it is its
own (R178, R256). -/
def State.endFalls (s : State) : State :=
  let s := s.dropProtect 5
  if s.kln.unconfirmed.isNone then s.dropProtect 4 else s

/-- The module thermal cap of a cycle (R173, R178, R294): the floor while a flow loss, a leak or HOT_N protects; no rise while
the standby's fall waits for confirmation. -/
def State.moduleThermal (s : State) : Nat :=
  if [1, 2, 3].any s.grn.protects.contains then 700 * watt
  else if s.grn.protects.contains 4 then min s.grn.thermalUw s.thermalScaled
  else s.thermalScaled

/-- What R182 takes off in one cycle, in µW: 2 % of a quarter of the ceiling. -/
def State.stackStep (s : State) : Nat := s.ceilingW * 5000

/-- The step of R182 for one stack. -/
def State.stackHot (s : State) (k : Nat) : State :=
  if s.isOn (.mem (k / 5)) && s.getF (.mem .statusState) k != 4 && decide (s.stackTemp k > 1520) then
    let c := s.grn.stackCuts.getD k ⟨0, 0, false⟩
    let c := { c with own := c.own + s.stackStep, all := if c.esc then c.all + s.stackStep else c.all }
    { s with grn := { s.grn with stackCuts := s.grn.stackCuts.set k c } }
  else { s with grn := { s.grn with stackCuts := s.grn.stackCuts.erase k } }

/-- The die thermal cap of a cycle (R177, R182, R323): at once downward, by the ramp upward; not upward while the standby's fall
waits for confirmation. -/
def State.dieTherm (s : State) (n : Nat) : State :=
  let s := if s.dieTooHot n then s else s.modDie n fun d => { d with hotUw := none }
  let want := s.dieWant n
  let step := if s.grn.protects.contains 4 then 0 else s.ceilingW * 5
  s.modDie n fun d => { d with thermUw := min want (d.thermUw + step) }

/-- The mean control temperature of a die's active clusters (R179); none without one. -/
def State.dieMean (s : State) (n : Nat) : Option Int :=
  match s.activeClusters n with
  | [] => none
  | l => some ((l.map s.cluTemp).sum / l.length)

/-- T_SET of a die (R179): it starts at the mean control temperature and moves by at most 1 K/s, 16 steps of 1/16 K in 1,000
cycles. -/
def State.moveTset (s : State) (n : Nat) : State :=
  if (s.die n).tsetOn then
    if (s.kln.upMs + 1) * 16 / 1000 = s.kln.upMs * 16 / 1000 then s
    else
      let goal := 16 * s.getLive (.grb .hotCfgDieTargetC)
      let t := s.getF (.grb .dieTsetTset) n
      s.setF (.grb .dieTsetTset) n (if t < goal then t + 1 else if goal < t then t - 1 else t)
  else match s.dieMean n with
    | some t => (s.setF (.grb .dieTsetTset) n (tempField t)).modDie n fun d => { d with tsetOn := true }
    | none => s

/-- The thermal part of a cycle. -/
def State.thermalCycle (s : State) : State :=
  let s := s.endFalls
  let s := s.setThermal s.moduleThermal
  let s := (List.range 20).foldl (fun s k => s.stackHot k) s
  let dies := [0, 1, 2, 3].filter fun n => s.isOn (.core n)
  dies.foldl (fun s n => (s.dieTherm n).moveTset n) s

/-! ### The applied cap -/

/-- The applied cap of a cycle (R177): at once down to the target, up by 0.02 × ceiling per second. -/
def State.rampCap (s : State) : Nat :=
  if s.targetUw ≤ s.grn.appliedUw then s.targetUw else min s.targetUw (s.grn.appliedUw + s.ceilingW * 20)

/-- CAP_STATUS of a cycle (R183): the reply to a rack cap, or the message for a change of more than 1 % of the ceiling. -/
def State.capReport (s : State) : State :=
  let sent := fun (s : State) => ({ s with grn := { s.grn with sentUw := s.grn.appliedUw } } : State)
  if s.grn.echoDue then
    sent (({ s with grn := { s.grn with echoDue := false } } : State).sendCapStatus true)
  else
    let d := (s.grn.appliedUw - s.grn.sentUw) + (s.grn.sentUw - s.grn.appliedUw)
    if 100 * d > s.ceilingW * watt then sent (s.sendCapStatus false) else s

/-- The caps of a cycle (R174 to R177, R183). -/
def State.capCycle (s : State) : State :=
  let s := (s.takeWeights.setApplied s.rampCap).divideCaps
  let s := (s.setFlag (.grb .capStatusHostClamped) 0 s.hostClamped).bindingCheck.capReport
  { s with grn := { s.grn with rackNow := [] } }

/-! ### Ages, messages and the state frame -/

/-- What a millisecond ages: repeats and clashes of the row bus (R368, R373), the cycle count, the partner's summary. -/
def State.ageCycle (s : State) : State :=
  let s : State := { s with
    row := { s.row with
      seen := (s.row.seen.map fun x => { x with ageMs := x.ageMs + 1 }).filter fun x => decide (x.ageMs < 2000),
      clashes := (s.row.clashes.map fun c => (c.1, c.2 + 1)).filter fun c => decide (c.2 < 10000),
      measured := (s.row.measured.map fun e => (e.1, e.2 + 1)).filter fun e => decide (e.2 < 1000) },
    kln := { s.kln with upMs := s.kln.upMs + 1 } }
  let s := (s.add64 (.kln .cycleLoCountLo) (.kln .cycleHiCountHi) 0 1).add64 (.kln .cycleLoCountLo) (.kln .cycleHiCountHi) 1 1
  if s.isOn .iod then s.addSat (.ptn .sumAgeMs) 0 1 else s

/-- The Cask record of the next frame (R410): the lowest SEQ that is neither framed nor in the NOR. -/
def State.nextFramed (s : State) (k : Kiln) : Option CaskRec :=
  lowestRec (((s.cask.buf k).filter fun e => !e.framed && !e.inNor).map (·.record))

/-- It has left in a frame. -/
def State.markFramed (s : State) (k : Kiln) (r : Option CaskRec) : State :=
  match r with
  | none => s
  | some r => { s with cask := s.cask.setBuf k ((s.cask.buf k).map fun e =>
      if e.record.seq = r.seq then { e with framed := true } else e) }

/-- Kind of the journal entries of extents (R260). -/
def extentEntry : Nat := 2

/-- The change of the extent table that a MEM_ALLOC or MEM_FREE makes: data is the response from byte 8 on (R244, R260). -/
def State.applyExtent (s : State) (data : List Byte) : State :=
  if s.getF (.thl .mbxStateOpcode) = 0x0B then
    let e : Extent := ⟨field data 8 4, field data 0 8, s.mbxParam 8 8⟩
    { s with thl := { s.thl with extents := s.thl.extents ++ [e] } }
  else { s with thl := { s.thl with extents := s.thl.extents.filter fun e => e.handle ≠ s.mbxParam 8 4 } }

/-- Up to eight journal entries leave in the frame; MEM_ALLOC and MEM_FREE complete with theirs (R260). -/
def State.sendJournal (s : State) : State :=
  let l := s.kln.journal.take 8
  let s : State := { s with kln := { s.kln with journal := s.kln.journal.drop 8 } }
  if (l.any fun e => e.kind == extentEntry) && s.getF (.thl .mbxStateState) == 1 then
    match s.thl.mbxResult with
    | some (st, data) => (s.applyExtent data).mbxRespond st data
    | none => s
  else s

/-- Registers of the drive stage in a state frame. -/
def driveFields : List Fld :=
  [.pumpStatusState, .pumpStatusKicksFailed, .pumpStatusBemf, .pumpStatusHallFault, .valveStatusState, .valveStatusOfftime,
    .valveDutyEnergyMj].map Fld.drv

/-- The caps of the dies, as a frame carries them. -/
def State.dieCopies (s : State) : SMap DieCopy :=
  [0, 1, 2, 3].map fun n => let d := s.die n; (n, ⟨d.capUw, d.thermUw, d.loopUw, d.hotUw, d.tsetOn⟩)

/-- The KEEP words of the loops that run (R318). -/
def State.keepWords (s : State) : SMap Nat :=
  ((List.range 32).filter fun l => s.loopOn l).map fun l =>
    (l, s.getF (.cle .dataValue) (32 * s.loopF .loopCfgFrame l + 8))

/-- The fractions of a loop's gain schedule (R318, R322). -/
def State.gsFracs (s : State) (l : Nat) : Int × Int :=
  let b := fun g => signed 16 (s.getLive (.cle g) (s.loopF .loopCfgGsTable l))
  let x := (s.loop l).inp
  ((interp x.flow (b .gsFbp01Fbp0) (b .gsFbp01Fbp1) (b .gsFbp23Fbp2) (b .gsFbp23Fbp3)).2,
    (interp x.power (b .gsPbp01Pbp0) (b .gsPbp01Pbp1) (b .gsPbp23Pbp2) (b .gsPbp23Pbp3)).2)

/-- The messages in the transmit buffers: the first of each queue (R374). -/
def State.txBuffers (s : State) : SMap RowMsg :=
  s.row.queues.filterMap fun e => e.2.head?.map fun m => (e.1, m)

/-- The state frame of a Kiln (R258, R318): table RC_SLICE is the cycle count modulo 8. -/
def State.frameOf (s : State) (k : Kiln) (final : Bool) (record : Option CaskRec) : Frame :=
  let cycle := s.get64 (.kln .cycleLoCountLo) (.kln .cycleHiCountHi) (kilnIdx k)
  let z := cycle % 8
  { ver := 1, final, sender := k, rcSlice := z, journal := s.kln.journal.take 8, cycle,
    opHours := s.power.opHours, powerCycles := s.power.powerCycles,
    modState := s.power.modState, draining := s.power.draining, drainMs := s.power.drainMs,
    parkPlanned := s.power.parkPlanned, parkQuiesce := s.power.parkQuiesce, quiesce := s.power.quiesce,
    returned := s.cool.returned, mbxOpcode := s.getF (.thl .mbxStateOpcode), mbxTag := s.mbxParam 4 4,
    mbxCommitted := s.thl.mbxCommitted,
    loops := s.cop.loops, keep := s.keepWords,
    fracs := ((List.range 32).filter fun l => s.loopOn l).map fun l => (l, s.gsFracs l),
    clock := s.cop.clock, rcs := s.cop.rcs,
    cells := (s.regsOf [.cle .rcCellCell]).filter fun e => e.1 / 8192 / 256 == z,
    regs := s.regsOf frameFields,
    applied := s.grn.appliedUw, target := s.targetUw, thermal := s.grn.thermalUw, protects := s.grn.protects,
    dies := s.dieCopies, ceils := s.clu.filterMap fun e => e.2.ceil.map fun c => (e.1, c),
    sens := s.cool.sens, suspect := s.cool.suspect,
    drive := s.cop.sent, driveSeq := s.cop.seq, offMs := s.drive.offMs, drvRegs := s.regsOf driveFields,
    buffers := s.txBuffers, clashes := s.row.clashes, record }

/-- The active Kiln's state frame (R258). -/
def State.sendStateFrame (s : State) (k : Kiln) (final : Bool) : State :=
  let r := s.nextFramed k
  let f := s.frameOf k final r
  let s := (s.markFramed k r).sendJournal
  { s with kln := { s.kln with sent := some f } }

/-- A standby counts a cycle without a frame yet (R259, R269). -/
def State.ageCopy (s : State) (k : Kiln) : State :=
  if s.getF (.kln .roleRole) (kilnIdx k) = 1 then s.setAge k ((s.kln.kiln k).age + 1) else s

/-! ### Self-diagnosis (R262, R263) -/

/-- The channels whose read-back differs and which are not known to be faulty. -/
def State.rbBad (s : State) : List Nat := s.kln.rbSeen.filter fun c => !(s.getF (.drv .chFaultFault)).testBit c

/-- How often a check has failed in a row. -/
def failRow (n : Nat) (bad : Bool) : Nat := if bad then n + 1 else 0

/-- The self-checks of a cycle: the counts and the bits of KLN_HEALTH. -/
def State.selfCheck (s : State) (k : Kiln) (c : Checks) : State :=
  let i := kilnIdx k
  let s := s.modKiln k fun n => { n with
    driveRbRow := failRow n.driveRbRow (!s.rbBad.isEmpty),
    cycleRow := failRow n.cycleRow c.unfinished,
    acqRow := failRow n.acqRow c.acq }
  let s := if c.unfinished then s.addSat (.kln .overrunCount) i 1 else s
  let n := s.kln.kiln k
  let s := (s.setHealthBit k 0 c.memUe).setHealthBit k 5 c.codeCrc
  let s := (s.setHealthBit k 3 (decide (2 ≤ n.driveRbRow))).setHealthBit k 1 (decide (3 ≤ n.cycleRow))
  s.setHealthBit k 2 (decide (2 ≤ n.acqRow))

/-- Does a check fail for which the Kiln releases in any case? -/
def State.mustRelease (s : State) (k : Kiln) : Bool :=
  [0, 5, 3].any (s.healthOf k).testBit

/-- Does a check fail for which it releases only to a healthy standby? -/
def State.mayRelease (s : State) (k : Kiln) : Bool :=
  [1, 2].any (s.healthOf k).testBit

/-- Does the Kiln release in this cycle (R262, R263)? A handover under way is not joined by another. -/
def State.releases (s : State) (k : Kiln) : Bool :=
  s.kln.planned == 0 && (s.mustRelease k || (s.mayRelease k && s.standbyHealthy && !s.handsBusy))

/-- The Kiln keeps ACT_OWN with ALERT_N, or the cause of it has cleared (R262, R377). -/
def State.keepAlert (s : State) (k : Kiln) : State :=
  if s.mayRelease k then s.alertSet 4 else s.alertClear 4

/-- The end of a cycle: the frame, and the release that follows it (R262, R264). -/
def State.endCycle (s : State) (k : Kiln) (c : Checks) : State :=
  let s := s.selfCheck k c
  let rel := s.releases k
  let s := s.sendStateFrame k (rel || s.kln.planned != 0)
  let s := s.ageCopy (otherKiln k)
  if rel then
    let bad := if (s.healthOf k).testBit 3 then s.rbBad else []
    ({ s with kln := { s.kln with rbChannels := bad } } : State).release k 3
  else s.keepAlert k

/-- Images whose retention count has reached 3 are rejected (R387). -/
def State.rejectImages (s : State) : State :=
  [0, 1].foldl (fun s x =>
    if s.imgState x != 3 && [Kiln.ka, .kb].any fun k => s.getF (retField k x) == 3 then
      (s.setImgState x 3).post 0x0B 2 1 x
    else s) s

/-- ALIVE shows the dies whose heartbeat has moved in this cycle (R273, R280); one that stands still stays shown until
DIE_HB_STALL. -/
def State.heartbeats (s : State) (moved : Nat) : State :=
  (List.range 5).foldl (fun s d =>
    if moved.testBit d && s.dieOn d && !s.dieFailed d then s.setBit (.kln .dieHbAlive) 0 d else s) s

/-- CONTROL_CYCLE (R175, R257, R258, R262, R311): one cycle of the active Kiln with what it measures and what its self-checks
find; the slow loops' inputs are latched. With the interlock in NONE a standby counts the cycle and latches its own
readings (R266). -/
def execControlCycle (m : Meas) (checks : Checks) (s : State) : Host.Outcome State Fault Refusal :=
  .next (if !s.isOn .aux then s
  else match s.active with
    | none => ((s.ageCycle.ageCopy .ka).ageCopy .kb).beginPeriod false (s.takeReadings m.shadow).refresh
    | some k =>
      let s := ((s.latchMeas m).offTimes.heartbeats m.moved).configCommit.showProgress
      let s := (s.copyMoves m.copied).beginPeriod false (s.takeReadings m.shadow).refresh
      let s := (List.range 8).foldl (fun s z => s.suspectZone z) s
      let s := s.thermalCycle.capCycle.ageCycle
      s.sendSummary.rejectImages.endCycle k checks)

/-- STACK_HOT_ESCALATE (R182): 100 ms after the first step the stack is still hot: every die takes the steps. -/
def execStackHotEscalate (k : Nat) (s : State) : Host.Outcome State Fault Refusal :=
  .next (match s.grn.stackCuts.get? k with
    | some c => if s.kilnActs && !c.esc then
        let c := { c with esc := true }
        { s with grn := { s.grn with stackCuts := s.grn.stackCuts.set k c } }
      else s
    | none => s)

end Sys2Proof.Machine
end

