-- ==== Sys2Proof/Machine/SelfTest.lean ====
section
/-!
DEFINITION. Background slices and their results (R428, R429), the scheduler's ages (R430), and clusters that become absent and are
remapped (R439 to R441). Slice kinds are coded as BST_LAST_FAIL.KIND.
-/

namespace Sys2Proof.Machine

/-! ### Slices (R428, R429) -/

/-- Is a slice kind one of a cluster: TENSOR, VECTOR, SEQ_DMA, PORT_METER or STORE? -/
def clusterSlice (kind : Nat) : Bool := decide (kind ≤ 4)

/-- What may hold only one slice: a compute die, or 4 for the I/O die; none for converters and loops. -/
def sliceDie (kind unit : Nat) : Option Nat :=
  if kind ≤ 4 then some (unit / 208) else if kind = 5 then some unit else if kind = 6 then some 4 else none

/-- May a slice run on a cluster now: a spare, or, but for STORE, one that holds no token and steeps on one; never while
parked, under HOT_N or PROTECT, or on a faulted cluster? -/
def State.clusterFree (s : State) (kind c : Nat) : Bool :=
  let waits := match (s.cl c).wait with
    | some (.token _ _ _) => true
    | _ => false
  decide (c < 832) && s.isOn (.core (c / 208)) && !s.power.parked && !s.power.hotN && !s.flag (.grb .capStatusProtect) &&
    !s.flag (.clu .statusFaulted) c && !(s.cl c).failed && !(s.cl c).inSlice &&
    (match s.logicalOf c with
    | none => true
    | some _ => kind != 4 && (s.cl c).tokens.isEmpty && waits)

/-- Is a lane's port UP (R428)? Port 12 is the partner link. -/
def State.laneUp (s : State) (unit : Nat) : Bool := decide (unit / 12 ≤ 12) && s.portUp (unit / 12)

/-- Have 10 ms passed since the last slice started on this die (R428)? -/
def State.slicesApart (s : State) (die : Option Nat) : Bool :=
  match die with
  | some d => s.longSince (s.bst.started.get? d) 10
  | none => true

/-- A slice has started on this die (R428). -/
def State.markSlice (s : State) (die : Option Nat) : State :=
  match die with
  | some d => { s with bst := { s.bst with started := s.bst.started.set d s.kln.upMs } }
  | none => s

/-- May a slice start? -/
def State.sliceOk (s : State) (kind unit : Nat) : Bool :=
  decide (kind ≤ 8) && (s.getF (.bst .ctrlBgEn)).testBit kind &&
    !(s.bst.running.any fun x => (x.kind == kind && x.unit == unit) ||
      ((sliceDie kind unit).isSome && sliceDie x.kind x.unit == sliceDie kind unit)) &&
    s.slicesApart (sliceDie kind unit) &&
    (match kind with
    | 5 => decide (unit < 4) && s.isOn (.core unit)
    | 6 => s.laneUp unit
    | 7 => true
    | 8 => decide (unit < 4)
    | _ => s.clusterFree kind unit)

/-- Take a cluster out of service for a slice; a spare comes out of its gate (R478). -/
def State.enterSlice (s : State) (c : Nat) : State :=
  let s := if (s.logicalOf c).isNone then s.ungateCluster c false else s
  s.modCl c fun k => { k with inSlice := true }

/-- SLICE_START (R428). -/
def execSliceStart (kind unit : Nat) (s : State) : Host.Outcome State Fault Refusal :=
  .next (if s.kilnActs && s.sliceOk kind unit then
    let s := (if clusterSlice kind then s.enterSlice unit else s).served 1
    let s := s.markSlice (sliceDie kind unit)
    { s with bst := { s.bst with running := s.bst.running ++ [⟨kind, unit, false⟩] } }
  else s)

/-- A cluster returns to service after its slice; a spare is gated, and what its store held is lost (R478). -/
def State.endClusterSlice (s : State) (c : Nat) : State :=
  if (s.logicalOf c).isNone then (s.modCl c fun k => { k with inSlice := false }).gateCluster c false
  else s.modCl c fun k => { k with inSlice := false }

/-- Sensors become implausible, or lost, on a reference test (R429). -/
def State.sensorsFail (s : State) (ids : List Nat) (why : Nat) : State :=
  match ids.filter fun id => sensKnown id && sensClass id != 9 && (s.sensRec id).state != why with
  | [] => s
  | id :: t =>
    let s := (id :: t).foldl (fun s id => s.substitute id why) s
    let s := if why = 3 then s.coolEvent 3 1 (t.foldl min id + 2 ^ 16 * (t.length + 1))
      else (id :: t).foldl (fun s id => s.sensEvent id why) s
    s.refresh.refactor

/-- A cluster fails on its slices (R429, R439): a spare leaves the spare map with its record; an active one becomes absent and
is remapped by CLUSTER_ABSENT and CLUSTER_REMAP. -/
def State.sliceFails (s : State) (kind c : Nat) : State :=
  let s := s.modCl c fun k => { k with failed := true, slicePassed := false }
  let s := s.testEvent 2 1 (kind + 2 ^ 16 * c)
  if (s.logicalOf c).isNone then (s.addRepair 5 8 (c / 208) (0x3FF + 2 ^ 16 * c) 0x3FF).clustersGone (c / 208) else s

/-- The result of a slice that has failed twice (R429). bad holds the sensors concerned. -/
def State.sliceResult (s : State) (kind unit : Nat) (bad : List Nat) : State :=
  match kind with
  | 5 => s.sensorsFail (bad.filter fun id => (sensClass id == 4 || sensClass id == 5) && sensDie id == some unit) 1
  | 6 => s
  | 7 =>
    let s := { s with bst := { s.bst with ptBad := s.bst.ptBad ++ bad.filter fun id => !s.bst.ptBad.contains id } }
    s.sensorsFail bad 3
  | 8 =>
    let s : State := { s with bst := { s.bst with leakBad := if s.bst.leakBad.contains unit then s.bst.leakBad
      else s.bst.leakBad ++ [unit] } }
    s.setF (.cle .leakState) unit 4
  | _ => s.sliceFails kind unit

/-- A slice that passes: the last slice of its cluster has, and what an earlier reference test failed is good again (R429). -/
def State.slicePass (s : State) (kind unit : Nat) (bad : List Nat) : State :=
  match kind with
  | 7 => { s with bst := { s.bst with ptBad := s.bst.ptBad.filter fun id => !bad.contains id } }
  | 8 => { s with bst := { s.bst with leakBad := s.bst.leakBad.filter fun n => n ≠ unit } }
  | _ => if clusterSlice kind then s.modCl unit fun k => { k with slicePassed := true } else s

/-- A cluster leaves its slice. -/
def State.sliceLeft (s : State) (kind unit : Nat) : State := if clusterSlice kind then s.endClusterSlice unit else s

/-- SLICE_END (R429): the first failure is repeated at once; a second one counts. bad holds the sensors read through the unit
that a reference test concerns. -/
def execSliceEnd (kind unit : Nat) (pass : Bool) (bad : List Nat) (s : State) : Host.Outcome State Fault Refusal :=
  .next (match s.bst.running.find? fun x => x.kind == kind && x.unit == unit with
    | none => s
    | some x =>
      let rest := s.bst.running.filter fun x => !(x.kind == kind && x.unit == unit)
      let s := ({ s with bst := { s.bst with running := rest } } : State).addWrap (.bst .slicesDone) 0 1
      if pass then (s.slicePass kind unit bad).sliceLeft kind unit
      else
        let s := ((s.addSat (.bst .slicesFailed) 0 1).setF (.bst .lastFailKind) 0 kind).setF (.bst .lastFailUnit) 0 unit
        let s := s.testEvent 1 1 (kind + 2 ^ 16 * (unit % 2 ^ 10))
        if x.again then (s.sliceResult kind unit bad).sliceLeft kind unit
        else { s with bst := { s.bst with running := s.bst.running ++ [⟨kind, unit, true⟩] } })

/-! ### The scheduler (R430) -/

/-- SCHED_AGING (R430, R436): an activity has been unserved for 10 minutes. -/
def execSchedAging (a : Nat) (s : State) : Host.Outcome State Fault Refusal :=
  .next (if s.kilnActs && decide (a < 5) && decide (s.getF (.bst .ageLevel) a < 7) then
    let v := s.getF (.bst .ageLevel) a + 1
    let s := s.setF (.bst .ageLevel) a v
    if v = 7 ∧ s.bst.starved.get? a ≠ some s.power.opHours then
      ({ s with bst := { s.bst with starved := s.bst.starved.set a s.power.opHours } } : State).testEvent 6 1 a
    else s
  else s)

/-! ### Absent clusters (R439 to R441) -/

/-- CLUSTER_ABSENT (R439, R478): a failed cluster whose current token has completed is gated, and its logical number becomes
absent. -/
def execClusterAbsent (c : Nat) (s : State) : Host.Outcome State Fault Refusal :=
  .next (match s.logicalOf c with
    | some l =>
      if s.kilnActs && s.isOn (.core (c / 208)) && (s.cl c).failed && (s.cl c).tokens.isEmpty &&
          s.wiq.completions.all (·.phys != some c) then
        (s.gateCluster c false).makeAbsent l c
      else s
    | none => s)

/-- CLUSTER_REMAP (R440, R441): at a job boundary of its die an absent logical cluster is remapped. -/
def execClusterRemap (l : Nat) (s : State) : Host.Outcome State Fault Refusal :=
  .next (if s.kilnActs && s.isOn (.core (l / 200)) && (s.pendingRemaps (l / 200)).contains l &&
      s.flag (.wiq .ctrlClaimStop) && s.heldTokens == 0 then s.remap l
  else s)

end Sys2Proof.Machine
end

