-- ==== Sys2Proof/Machine/MailboxOps.lean ====
section
/-!
DEFINITION. What the mailbox commands do (R241 to R245): their fields, CONFIGURE (R396), IMAGE_UPDATE (R388, R401), MEM_TEST
(R434, R435), the extents of MEM_ALLOC (R244), ATTEST (R400), CASK_READ (R421), and the commands that stop, start and park
work (R22, R95).
-/

namespace Sys2Proof.Machine

/-! ### Fields of a command (R243, R244) -/

/-- Is an opcode that of a long command (R241)? -/
def longCommand (op : Nat) : Bool := op == 3 || op == 4 || op == 5

/-- The PARAM bytes that a command uses: ranges as offset and length; none for an unlisted opcode. -/
def mbxParams (op : Nat) : Option (List (Nat × Nat)) :=
  match op with
  | 0x03 | 0x04 => some [(8, 1), (16, 8), (24, 4)]
  | 0x05 => some [(8, 4), (16, 8), (24, 4)]
  | 0x06 => some [(8, 2)]
  | 0x0B => some [(8, 8), (16, 1)]
  | 0x0C => some [(8, 4)]
  | 0x0D => some [(8, 32), (40, 8)]
  | 0x0E => some [(8, 4), (12, 4), (16, 8)]
  | 0x01 | 0x02 | 0x07 | 0x08 | 0x09 | 0x0A | 0x0F | 0x10 => some []
  | _ => none

/-- Is every byte of a command that no listed range covers 0, from byte 8 on? -/
def reservedZero (c : List Byte) (l : List (Nat × Nat)) : Bool :=
  (List.range 56).all fun i =>
    (l.any fun r => decide (r.1 ≤ i + 8 ∧ i + 8 < r.1 + r.2)) || (c.getD (i + 8) 0) == 0

/-- Are the encodings of a command's fields none of the reserved ones? A host address that is not aligned to 64 bytes, a size
that is not a multiple of 2 MiB and a count outside 1 to 64 are taken for such encodings. -/
def State.goodParams (s : State) (op : Nat) : Bool :=
  match op with
  | 0x03 => decide (s.mbxParam 8 1 ≤ 1)
  | 0x04 => decide (s.mbxParam 8 1 ≤ 3)
  | 0x05 => decide (s.mbxParam 8 4 < 2 ^ 20) && s.mbxParam 16 8 % 64 == 0
  | 0x0B => s.mbxParam 8 8 % 2 ^ 21 == 0 && s.mbxParam 8 8 != 0 && decide (s.mbxParam 16 1 < 16)
  | 0x0D => s.mbxParam 40 8 % 64 == 0
  | 0x0E => s.mbxParam 16 8 % 64 == 0 && decide (1 ≤ s.mbxParam 12 4 ∧ s.mbxParam 12 4 ≤ 64)
  | _ => true

/-- Is a command valid: VER, opcode, reserved bytes, encodings (R243, R245)? -/
def State.mbxValid (s : State) : Bool :=
  match mbxParams (s.mbxParam 1 1) with
  | none => false
  | some l => s.mbxParam 0 1 == 1 && s.mbxParam 2 2 == 0 && reservedZero s.mbxCmd l && s.goodParams (s.mbxParam 1 1)

/-- A list cut or filled with zeros to n bytes. -/
def padTo (n : Nat) (l : List Byte) : List Byte := (l ++ List.replicate n 0).take n

/-- The identity public key (R403). -/
def State.identKey (s : State) : List Byte :=
  ((List.range 8).map fun m => leBytes 4 (s.getF (.sec .identBytes) m)).flatten

/-- Does the host space hold n bytes from an address? -/
def hostFits (a n : Nat) : Bool := decide (a + n ≤ 2 ^ 64)

/-- Write a report into host memory in packets of at most 256 bytes (R236); fuel bounds them. -/
def State.sendReport : Nat → State → Nat → List Byte → State
  | 0, s, _, _ => s
  | f + 1, s, a, b =>
    if b.isEmpty then s
    else State.sendReport f (s.hostWrite a (b.take 256) .report) (a + 256) (b.drop 256)

/-! ### GET_INFO and GET_STATUS -/

/-- Number of the active Kiln, 0 KA, 1 KB. -/
def State.activeIdx (s : State) : Nat := match s.active with
  | some k => kilnIdx k
  | none => 0

/-- DATA of GET_INFO. -/
def State.infoData (s : State) : List Byte :=
  leBytes 1 s.sec.orderP.toNat ++ leBytes 1 s.activeIdx ++ leBytes 2 (s.getF (.kln .roleFwVer) s.activeIdx) ++
    leBytes 4 s.power.powerCycles ++ s.identKey ++ leBytes 4 s.power.opHours

/-- DATA of GET_STATUS. -/
def State.statusData (s : State) : List Byte :=
  leBytes 1 (modStateCode s.power.modState) ++ leBytes 3 0 ++ leBytes 4 s.alarms ++
    leBytes 2 (s.getF (.grb .capAppliedCapW)) ++ leBytes 2 (s.getF (.cle .flowProt)) ++
    leBytes 2 (deciC (s.getF (.cle .tInProt)))

/-! ### CONFIGURE (R396) -/

/-- The blocks that an image's sections name: their RWC and commit registers are locked until the response. -/
def sectionLocks (l : List (Nat × List Byte)) : List Nat := l.flatMap fun t => sectionBlocks t.1

/-- Steps 4 and 5 of R396 on the sections of a verified image: pre-check and OTP; the commit point comes with the next control
cycle. part is the code of SEC_LAST_VERIFY. -/
def State.configureApply (s : State) (l : List (Nat × List Byte)) (part src : Nat) (hdr : List Byte) : State :=
  let wait := fun (s : State) => ({ s with thl := { s.thl with config := some ⟨l, part, src, hdr⟩ } } : State)
  match s.applyConfig l (fun _ => true) wholeOrder part with
  | (s, false) => s.mbxRan 1 []
  | (_, true) =>
    match sectionOf l 0xA with
    | none => wait s
    | some (i, d) => if s.goodOtp d then wait (s.programOtp d) else (s.lastVerify part 11 i 0).mbxRan 1 []

/-- Steps 1 to 3 of R396, then the rest. -/
def State.configureImage (s : State) (img : List Byte) (room part src : Nat) (readOk : Bool) : State :=
  let c := s.imageCheck img 3 false room readOk
  let s := s.verifiedEvent part c
  if c ≠ 0 then s.mbxRan 6 []
  else
    match checkedSections (norSlice img 256 (field img 12 4)) with
    | .error i => (s.lastVerify part 0 i 0).mbxRan 1 []
    | .ok l =>
      let s := { s with thl := { s.thl with locked := sectionLocks l } }
      if (s.viewF (.wiq .statusDrained) 0).getD 0 = 0 then s.mbxRan 2 []
      else s.configureApply l part src (norSlice img 0 256)

/-- CONFIGURE from the NOR (source 0) or from module memory (source 1). -/
def State.configure (s : State) (readOk : Bool) (mecc : List MemEcc) : State :=
  if s.mbxParam 8 1 = 0 then
    if s.flag (.csk .statusNorFailed) then (s.norRefuse 1).mbxRan 7 []
    else s.configureImage (s.part 3) (partSize 3) 3 0 readOk
  else
    match s.memRead (s.mbxParam 16 8) (s.mbxParam 24 4) mecc with
    | (s, .range, _) => s.mbxRan 5 []
    | (s, .ok, b) => s.configureImage b (s.mbxParam 24 4) 8 2 readOk
    | (s, .error, _) => s.configureImage [] (s.mbxParam 24 4) 8 2 false

/-! ### IMAGE_UPDATE (R388, R401) -/

/-- Is the update of a Kiln image refused: the other one is not CONFIRMED (R388)? -/
def State.updateRefused (s : State) (target : Nat) : Bool := decide (target < 2) && s.imgState (1 - target) != 2

/-- The check of a staged image (R384, R401): as of its partition, with its length checked against the command. -/
def State.stagedCheck (s : State) (target : Nat) (img : List Byte) (readOk : Bool) : Nat :=
  let c := s.imageCheck img (partKind target) false (partSize target) readOk
  if 256 + field img 12 4 = img.length then c
  else if c = 9 ∨ c = 1 ∨ c = 2 then c else 3

/-- The partition is written: TRIAL for a Kiln image, its retention counts cleared (R387, R401). -/
def State.writePartition (s : State) (target : Nat) (img : List Byte) : State :=
  let s := { s with sec := { s.sec with parts := s.sec.parts.set target img } }
  if target < 2 then
    ((s.setF (retField .ka target) 0 0).setF (retField .kb target) 0 0).setImgState target 1
  else s

/-- The partition is erased, and so invalid. -/
def State.erasePartition (s : State) (target : Nat) : State :=
  { s with sec := { s.sec with parts := s.sec.parts.erase target } }

/-- IMAGE_UPDATE of a staged image; writeOk: the NOR takes it. -/
def State.updateImage (s : State) (target : Nat) (img : List Byte) (readOk writeOk : Bool) : State :=
  let c := s.stagedCheck target img readOk
  let s := s.verifiedEvent 8 c
  if c ≠ 0 then s.mbxRan 6 []
  else if writeOk then (s.writePartition target img).mbxRan 0 (leBytes 4 img.length)
  else (s.erasePartition target).mbxRan 7 []

/-- IMAGE_UPDATE. -/
def State.imageUpdate (s : State) (readOk writeOk : Bool) (mecc : List MemEcc) : State :=
  let target := s.mbxParam 8 1
  if s.flag (.csk .statusNorFailed) then (s.norRefuse 0).mbxRan 7 []
  else if s.updateRefused target then s.mbxRan 2 []
  else
    match s.memRead (s.mbxParam 16 8) (s.mbxParam 24 4) mecc with
    | (s, .range, _) => s.mbxRan 5 []
    | (s, .ok, b) => s.updateImage target b readOk writeOk
    | (s, .error, _) => s.updateImage target [] false writeOk

/-! ### MEM_TEST (R434, R435) -/

/-- The base of a die's slice in DIE mode (R105). -/
def State.sliceBase (s : State) (n : Nat) : Nat := stackBytes * ((List.range n).map fun i => (s.dieStacks i).length).sum

/-- The address of a pair, the inverse of the decoder of R105; none for a stack outside MEM_STACK_MASK. -/
def State.pairAddr (s : State) (stack ch row bank pair : Nat) : Option Nat :=
  let bf := if s.liveFlag (.mem .ilCfgHash) then bank ^^^ (row % 16) else bank
  let t := (row * 256 + bf * 16 + pair) * 128 + ch
  match s.activeStacks.findIdx? (· == stack) with
  | none => none
  | some o =>
    match s.getLive (.mem .ilCfgMode) with
    | 0 => some ((o * 402653184 + t) * 128)
    | 1 =>
      let d := s.dieStacks (stack / 5)
      some (s.sliceBase (stack / 5) + (t * d.length + (d.findIdx? (· == stack)).getD 0) * 128)
    | _ => some ((t * s.activeStacks.length + o) * 128)

/-- The order of the report: stack, physical channel, bank, row, pair. -/
def pairKey (p : PairBad) : Nat := p.stack * 2 ^ 40 + p.pch * 2 ^ 32 + p.bank * 2 ^ 24 + p.row * 2 ^ 8 + p.pair

/-- Insert a failing pair in the order of the report. -/
def insertPair (p : PairBad) : List PairBad → List PairBad
  | [] => [p]
  | q :: t => if pairKey p ≤ pairKey q then p :: q :: t else q :: insertPair p t

/-- A row with a failing pair is recorded (R434): its action, 1 ROW_PENDING, 2 already pending, 3 ROW_LEFT. -/
def State.testRow (s : State) (p : PairBad) : State × Nat :=
  let w := rowWord p.pch p.bank p.row
  match s.pendingOf p.stack p.pch with
  | none => (s.addRepair 3 7 p.stack w 0, 1)
  | some r => if r.word1 = w then (s, 2) else (s.leaveRow p.stack w 7, 3)

/-- The entry of a failing pair (R435). -/
def State.pairEntry (s : State) (p : PairBad) (ch action : Nat) : List Byte :=
  let a := s.pairAddr p.stack ch p.row p.bank p.pair
  leBytes 5 (a.getD 0) ++ leBytes 1 p.stack ++ leBytes 1 p.pch ++ leBytes 1 ch ++ leBytes 2 p.row ++
    leBytes 1 (p.bank % 16 + 16 * p.pair) ++
    leBytes 1 ((if a.isSome then 1 else 0) + (if p.symbols > 8 then 2 else 0) + 4 * action) ++
    leBytes 1 (min 255 p.symbols) ++ leBytes 1 p.reads ++ leBytes 2 p.dq ++ leBytes 4 p.beat0 ++ leBytes 4 p.beat1 ++
    leBytes 2 p.firstBit ++ leBytes 1 p.element ++ leBytes 5 0

/-- Record the failing pairs in order; rows holds the actions of the rows met so far. Answers the entries. -/
def State.testPairs (s : State) (rows : List (Nat × Nat)) : List PairBad → State × List Byte
  | [] => (s, [])
  | p :: t =>
    let ch := (s.logicalChannel p.stack p.pch).getD 0
    let key := pairKey p / 2 ^ 8
    match rows.find? fun r => r.1 == key with
    | some (_, act) =>
      let act := if act = 1 then 2 else act
      let e := s.pairEntry p ch act
      let (s, l) := s.testPairs rows t
      (s, e ++ l)
    | none =>
      let (s, act) := s.testRow p
      let e := s.pairEntry p ch act
      let (s, l) := s.testPairs ((key, act) :: rows) t
      (s, e ++ l)

/-- A mask of stacks. -/
def stackBits (l : List Nat) : Nat := (l.map fun k => 2 ^ k).sum

/-- MEM_TEST on the stacks of the mask: contents undefined, failing rows recorded, the report written. -/
def State.runMemTest (s : State) (mask host space : Nat) (found : List PairBad) : State :=
  let inMask := (List.range 20).filter fun k => mask.testBit k
  let tested := inMask.filter fun k => s.getF (.mem .statusState) k == 2
  let pairs' := (found.filter fun p =>
    tested.contains p.stack && (s.logicalChannel p.stack p.pch).isSome).foldl (fun l p => insertPair p l) []
  let s := s.loseStacks tested.contains
  let (s, entries) := s.testPairs [] pairs'
  let n := min pairs'.length ((space - 32) / 32)
  let head := leBytes 1 1 ++ leBytes 1 2 ++ leBytes 2 32 ++ leBytes 4 0 ++ leBytes 4 n ++ leBytes 4 pairs'.length ++
    leBytes 4 (stackBits tested) ++ leBytes 4 (stackBits inMask - stackBits tested) ++ leBytes 4 s.power.opHours ++
    leBytes 4 (if n < pairs'.length then 1 else 0)
  let body := head ++ entries.take (32 * n)
  (State.sendReport (body.length / 256 + 1) s host body).mbxRan 0 (leBytes 4 body.length ++ leBytes 4 pairs'.length)

/-- MEM_TEST: refused with STATE unless the module is drained, no mirrored region is enabled and no stack of the mask is
SPARING (R244, R434). -/
def State.memTest (s : State) (found : List PairBad) : State :=
  let mask := s.mbxParam 8 4
  let host := s.mbxParam 16 8
  let space := s.mbxParam 24 4
  let sparing := (List.range 20).any fun k => mask.testBit k && s.getF (.mem .statusSparing) k != 0
  if (s.viewF (.wiq .statusDrained) 0).getD 0 = 0 ∨ (List.range 8).any s.mirOn ∨ sparing then s.mbxRan 2 []
  else if space < 32 ∨ !hostFits host space then s.mbxRan 5 []
  else s.runMemTest mask host space found

/-! ### Stopping, starting and parking work (R22, R95, R244) -/

/-- Is a quiesce or a leak in force, so that RESUME and UNPARK are refused (R22, R244, R298)? So they are once a removal has
started, which nothing cancels (R466). -/
def State.resumeBarred (s : State) : Bool :=
  !s.power.quiesce.isEmpty || s.flag (.cle .coolStatusLeak) || s.flag (.mod .removeRequest)

/-- RESUME: pending remaps are completed (R440), a drain or a park under way is given up, CLAIM_STOP is cleared. -/
def State.resume (s : State) : State :=
  let s := [0, 1, 2, 3].foldl (fun s n => if s.isOn (.core n) then s.remapDie n else s) s
  let s := { s with power := { s.power with draining := false, parkPlanned := false, parkQuiesce := false } }
  (s.setF (.wiq .ctrlClaimStop) 0 0).settle

/-- PARK: a drain that leads to a park (R22, R244); none when the module is parked, draining or parking. -/
def State.parkCommand (s : State) : State :=
  if s.parking then s
  else
    let s := s.startDrain s.drainLimit
    { s with power := { s.power with parkPlanned := true } }

/-- The limit of DRAIN: PARAM, or THL_DRAIN for 0. -/
def State.drainParam (s : State) : Nat := if s.mbxParam 8 2 = 0 then s.drainLimit else s.mbxParam 8 2

/-! ### Extents (R244) -/

/-- Insert an interval by its start. -/
def insertGap (g : Nat × Nat) : List (Nat × Nat) → List (Nat × Nat)
  | [] => [g]
  | h :: t => if g.1 ≤ h.1 then g :: h :: t else h :: insertGap g t

/-- The gaps between blocked intervals, sorted by start, from an address up to the top: start and length. -/
def gapsFrom : List (Nat × Nat) → Nat → Nat → List (Nat × Nat)
  | [], a, top => if a < top then [(a, top - a)] else []
  | g :: t, a, top =>
    (if a < min g.1 top then [(a, min g.1 top - a)] else []) ++ gapsFrom t (max a (g.1 + g.2)) top

/-- The slices that a die mask shuts out (R105, R244): none for mask 0. Slices are the dies' in DIE mode only; in the other modes
a mask that names dies permits none. -/
def State.shutSlices (s : State) (mask : Nat) : List (Nat × Nat) :=
  if mask = 0 then []
  else if s.getLive (.mem .ilCfgMode) ≠ 1 then [(0, s.memTop)]
  else ([0, 1, 2, 3].filter fun n => !mask.testBit n).map fun n => (s.sliceBase n, stackBytes * (s.dieStacks n).length)

/-- The free gaps that a die mask permits. -/
def State.freeGaps (s : State) (mask : Nat) : List (Nat × Nat) :=
  let blocked := (s.shutSlices mask ++ s.thl.extents.map fun e => (e.base, e.size)).foldl (fun l g => insertGap g l) []
  gapsFrom blocked 0 s.memTop

/-- How many bases, in steps of 2 MiB, a gap offers for a size. -/
def gapBases (g : Nat × Nat) (size : Nat) : Nat :=
  let start := (g.1 + 2 ^ 21 - 1) / 2 ^ 21 * 2 ^ 21
  if start + size ≤ g.1 + g.2 then (g.1 + g.2 - start - size) / 2 ^ 21 + 1 else 0

/-- The i-th base that the gaps offer. -/
def pickBase : List (Nat × Nat) → Nat → Nat → Option Nat
  | [], _, _ => none
  | g :: t, size, i =>
    if i < gapBases g size then some ((g.1 + 2 ^ 21 - 1) / 2 ^ 21 * 2 ^ 21 + 2 ^ 21 * i)
    else pickBase t size (i - gapBases g size)

/-- A handle that no extent has, from a free value on. -/
def State.newHandle (s : State) (v : Nat) : Nat :=
  (((List.range (s.thl.extents.length + 1)).map fun i => (v + i) % 2 ^ 32).find? fun h =>
    !(s.thl.extents.any fun e => e.handle == h)).getD v

/-- MEM_ALLOC (R244, R260): which free range and which handle are the Kiln's choice, free values here. The extent is entered,
and the command answered, with its journal entry. -/
def State.memAlloc (s : State) : State :=
  let size := s.mbxParam 8 8
  let gaps := s.freeGaps (s.mbxParam 16 1)
  let total := (gaps.map fun g => gapBases g size).sum
  if s.thl.extents.length ≥ 4096 ∨ total = 0 then s.mbxRespond 4 []
  else
    let (v, s) := s.fresh 32
    let (h, s) := s.fresh 32
    match pickBase gaps size (v.toNat % total) with
    | some base => 
      let h := s.newHandle h.toNat
      (s.journalAdd ⟨extentEntry, [0x0B, h, base, size]⟩).mbxRan 0 (leBytes 8 base ++ leBytes 4 h)
    | none => s.mbxRespond 4 []

/-- MEM_FREE. -/
def State.memFree (s : State) : State :=
  if s.thl.extents.any fun e => e.handle == s.mbxParam 8 4 then (s.journalAdd ⟨extentEntry, [0x0C, s.mbxParam 8 4]⟩).mbxRan 0 []
  else s.mbxRespond 0xA []

/-! ### ATTEST (R400) and CASK_READ (R421) -/

/-- A measurement of an image by its header: zeros without one. -/
def measurement (h : List Byte) (fromMemory : Bool) : List Byte :=
  if h.isEmpty then List.replicate 48 0
  else slice h 20 2 ++ slice h 5 1 ++ leBytes 1 ((hdrGolden h).toNat + 2 * fromMemory.toNat) ++ slice h 16 4 ++ leBytes 8 0 ++
    slice h 32 32

/-- The report of ATTEST but for its signature. -/
def State.attestBody (s : State) (nonce : List Byte) : List Byte :=
  let src := s.getF (.sec .bootConfigSrc)
  let flags := s.getF (.sec .otpSettingsDebugLock) + 2 * s.getF (.sec .otpSettingsOwnerRequired) +
    (if s.getF (.sec .bootKaImage) = 2 ∨ s.getF (.sec .bootKbImage) = 2 then 4 else 0) + (if src = 1 then 8 else 0)
  leBytes 1 1 ++ leBytes 1 1 ++ leBytes 2 352 ++ nonce ++ padTo 16 s.sec.serial ++ s.identKey ++ leBytes 4 s.power.opHours ++
    leBytes 4 s.power.powerCycles ++ leBytes 1 (s.getF (.sec .otpStatusGenTop)) ++
    leBytes 1 (s.getF (.sec .otpSettingsKeyRevoke)) ++ leBytes 1 flags ++ leBytes 1 s.activeIdx ++
    measurement s.sec.kaHdr false ++ measurement s.sec.kbHdr false ++ measurement s.sec.dieHdr false ++
    measurement s.sec.cfgHdr (src == 2)

/-- ATTEST: the signed report goes to host memory. -/
def State.attest (s : State) : State :=
  let host := s.mbxParam 40 8
  if !hostFits host 352 then s.mbxRespond 5 []
  else
    let body := s.attestBody (slice s.mbxCmd 8 32)
    (State.sendReport 2 s host (body ++ edSign s.sec.identSeed body)).mbxRan 0 (leBytes 4 352)

/-- CASK_READ: up to count records go to host memory. -/
def State.caskRead (s : State) : State :=
  let first := s.mbxParam 8 4
  let host := s.mbxParam 16 8
  let next := s.getF (.csk .nextSeqSeq)
  let l := (s.caskFrom first).take (s.mbxParam 12 4)
  let oldest := (s.viewF (.csk .oldestSeq) 0).getD 0
  let later := fun (a b : Nat) => a == b || seqBefore b a
  if later first next then s.mbxRespond 0 (leBytes 4 0 ++ leBytes 4 next)
  else if (s.caskFind first).isNone && seqBefore first oldest && !(s.cask.perm.any fun r => later r.seq first) then
    s.mbxRespond 0xA []
  else if !hostFits host (256 * l.length) then s.mbxRespond 5 []
  else
    let data := leBytes 4 l.length ++ leBytes 4 ((l.getLast?.map fun r => nextSeq r.seq).getD next)
    if l.isEmpty then s.mbxRespond 0 data
    else (State.sendReport l.length s host (l.flatMap CaskRec.bytes)).mbxRan 0 data

/-! ### KILN_HANDOVER and PARTNER_QUERY -/

/-- KILN_HANDOVER (R264): answered before the handover begins. -/
def State.handoverCommand (s : State) : State :=
  if s.standbyHealthy then (s.mbxRespond 0 (leBytes 1 (1 - s.activeIdx))).planHandover 1 else s.mbxRespond 2 []

/-- DATA of PARTNER_QUERY: PTN_STATUS and bytes 0 to 31 of the partner's last summary. -/
def State.partnerData (s : State) : List Byte :=
  leBytes 4 (s.peek 0x900010) ++ ((List.range 8).map fun m => leBytes 4 (s.getF (.ptn .sumBytes) m)).flatten

/-! ### The doorbell (R241) -/

/-- What the environment of a command gives: whether its image can be read and the NOR takes a write, what the code of module
memory shows, and what MEM_TEST finds. -/
structure MbxEnv where
  readOk : Bool
  writeOk : Bool
  mecc : List MemEcc
  found : List PairBad
deriving DecidableEq, Repr

/-- The active Kiln executes a valid command (R244). -/
def State.mbxExecute (s : State) (op : Nat) (e : MbxEnv) : State :=
  match op with
  | 0x01 => s.mbxRespond 0 s.infoData
  | 0x02 => s.mbxRespond 0 s.statusData
  | 0x03 => s.configure e.readOk e.mecc
  | 0x04 => s.imageUpdate e.readOk e.writeOk e.mecc
  | 0x05 => s.memTest e.found
  | 0x06 => (s.startDrain s.drainParam).mbxRespond 0 []
  | 0x07 => if s.resumeBarred then s.mbxRespond 2 [] else s.resume.mbxRespond 0 []
  | 0x08 => s.parkCommand.mbxRespond 0 []
  | 0x09 =>
    if s.resumeBarred then s.mbxRespond 2 []
    else (if s.power.parked then s.leavePark else s).mbxRespond 0 []
  | 0x0A => if s.flag (.mod .removeRequest) then s.mbxRespond 2 [] else (s.startRemoval 1).mbxRespond 0 []
  | 0x0B => s.memAlloc
  | 0x0C => s.memFree
  | 0x0D => s.attest
  | 0x0E => s.caskRead
  | 0x0F => s.handoverCommand
  | _ => if s.sec.orderP then s.mbxRespond 0 s.partnerData else s.mbxRespond 3 []

/-- The mailbox once it has accepted a doorbell (R241): RUNNING, or BUSY for a long command, with its opcode. -/
def State.mbxBegun (s : State) : State :=
  let op := s.mbxParam 1 1
  let s := (s.setF (.thl .mbxStateState) 0 (if longCommand op then 2 else 1)).setF (.thl .mbxStateOpcode) 0 op
  let s := s.setF (.thl .mbxStateProgress) 0 0
  { s with thl := { s.thl with mbxRun := true, config := none, mbxResult := none, mbxCommitted := false } }

/-- An accepted doorbell starts the command of THL_MBX_CMD (R241). With no Kiln in control it stays as it is, and the next one
answers HANDOVER (R246). -/
def State.mbxStart (s : State) (e : MbxEnv) : State :=
  let op := s.mbxParam 1 1
  let s := s.mbxBegun
  if !s.kilnActs then s
  else if s.mbxValid then s.mbxExecute op e
  else if longCommand op then s.mbxRan 1 []
  else s.mbxRespond 1 []

/-- A write of 1 to THL_MBX_DOORBELL (R241): accepted in IDLE or DONE, else ignored, and REFUSED is set. -/
def State.doorbell (s : State) (e : MbxEnv) : State :=
  if !s.isOn .iod then s
  else if s.getF (.thl .mbxStateState) = 0 ∨ s.getF (.thl .mbxStateState) = 3 then s.mbxStart e
  else s.setF (.thl .mbxStateRefused) 0 1

/-- The doorbell, rung while THL_MBX_CMD holds an opcode. -/
def State.ringFor (s : State) (op : Nat) (e : MbxEnv) : State := if s.mbxParam 1 1 = op then s.doorbell e else s

/-- Nothing fails. -/
def cleanEnv : MbxEnv := { readOk := true, writeOk := true, mecc := [], found := [] }

end Sys2Proof.Machine
end

