-- ==== Sys2Proof/Machine/Mailbox.lean ====
section
/-!
DEFINITION. The mailbox commands (R241 to R246): each is the doorbell rung while THL_MBX_CMD holds its opcode; what a command
does stands in MailboxOps. And the completion and the limit of a command.
-/

namespace Sys2Proof.Machine

/-- GET_INFO (R244). -/
def execGetInfo (s : State) : Host.Outcome State Fault Refusal := .next (s.ringFor 0x01 cleanEnv)

/-- GET_STATUS (R244). -/
def execGetStatus (s : State) : Host.Outcome State Fault Refusal := .next (s.ringFor 0x02 cleanEnv)

/-- CONFIGURE (R244, R396). -/
def execConfigure (readOk : Bool) (mecc : List MemEcc) (s : State) : Host.Outcome State Fault Refusal :=
  .next (s.ringFor 0x03 { cleanEnv with readOk, mecc })

/-- IMAGE_UPDATE (R244, R388, R401). -/
def execImageUpdate (readOk writeOk : Bool) (mecc : List MemEcc) (s : State) : Host.Outcome State Fault Refusal :=
  .next (s.ringFor 0x04 { cleanEnv with readOk, writeOk, mecc })

/-- MEM_TEST (R244, R434, R435). -/
def execMemTest (found : List PairBad) (s : State) : Host.Outcome State Fault Refusal :=
  .next (s.ringFor 0x05 { cleanEnv with found })

/-- DRAIN (R95, R244). -/
def execDrain (s : State) : Host.Outcome State Fault Refusal := .next (s.ringFor 0x06 cleanEnv)

/-- RESUME (R22, R244, R440). -/
def execResume (s : State) : Host.Outcome State Fault Refusal := .next (s.ringFor 0x07 cleanEnv)

/-- PARK (R22, R244). -/
def execPark (s : State) : Host.Outcome State Fault Refusal := .next (s.ringFor 0x08 cleanEnv)

/-- UNPARK (R22, R244, R298). -/
def execUnpark (s : State) : Host.Outcome State Fault Refusal := .next (s.ringFor 0x09 cleanEnv)

/-- REMOVE (R244, R466). -/
def execRemove (s : State) : Host.Outcome State Fault Refusal := .next (s.ringFor 0x0A cleanEnv)

/-- MEM_ALLOC (R244, R260). -/
def execMemAlloc (s : State) : Host.Outcome State Fault Refusal := .next (s.ringFor 0x0B cleanEnv)

/-- MEM_FREE (R244, R260). -/
def execMemFree (s : State) : Host.Outcome State Fault Refusal := .next (s.ringFor 0x0C cleanEnv)

/-- ATTEST (R244, R400). -/
def execAttest (s : State) : Host.Outcome State Fault Refusal := .next (s.ringFor 0x0D cleanEnv)

/-- CASK_READ (R244, R421). -/
def execCaskRead (s : State) : Host.Outcome State Fault Refusal := .next (s.ringFor 0x0E cleanEnv)

/-- KILN_HANDOVER (R244, R264). -/
def execKilnHandover (s : State) : Host.Outcome State Fault Refusal := .next (s.ringFor 0x0F cleanEnv)

/-- PARTNER_QUERY (R1, R244). -/
def execPartnerQuery (s : State) : Host.Outcome State Fault Refusal := .next (s.ringFor 0x10 cleanEnv)

/-- Is a report of the command still unacknowledged? -/
def State.reportPending (s : State) : Bool := s.thl.hmem.any fun e => e.kind == .report

/-- MBX_LONG_COMPLETE (R242): a long command that has run is answered, once its report has been acknowledged; a CONFIGURE passes
its commit point at the latest here. -/
def execMbxLongComplete (s : State) : Host.Outcome State Fault Refusal :=
  .next (if s.kilnActs && s.thl.mbxRun && s.getF (.thl .mbxStateState) == 2 && !s.reportPending then
    let s := s.configCommit
    match s.thl.mbxResult with
    | some (st, data) => (s.setF (.thl .mbxStateProgress) 0 100).mbxRespond st data
    | none => s
  else s)

/-- A command is ended at its limit (R242, R244): TIMEOUT with its undo; a CONFIGURE past its commit point completes OK, one that
has not reached it leaves the old configuration. An extent whose journal entry has not left is not entered. -/
def State.mbxTimeout (s : State) : State :=
  if s.getF (.thl .mbxStateOpcode) = 3 ∧ s.thl.mbxCommitted then s.mbxRespond 0 []
  else
    let s := s.mbxUndo
    let s := { s with kln := { s.kln with journal := s.kln.journal.filter fun e => e.kind ≠ extentEntry } }
    s.mbxRespond 8 []

/-- MBX_COMMAND_TIMEOUT (R242): a command reaches its limit, and the active Kiln ends it. -/
def execMbxCommandTimeout (s : State) : Host.Outcome State Fault Refusal :=
  .next (if s.kilnActs && s.thl.mbxRun then s.mbxTimeout else s)

end Sys2Proof.Machine
end

