-- ==== Sys2Proof/Machine/HostLink.lean ====
section
/-!
DEFINITION. The Tornath link (R233 to R240, R247 to R253): the host's register and memory requests, what the module writes into
host memory, training and link loss, the event ring, the interrupts, the host watchdog.
-/

namespace Sys2Proof.Machine

/-! ### The event ring and its registers (R247, R248, R252, R253) -/

/-- The THL commit: its code (R253). -/
def State.checkThl (s : State) : Nat :=
  let lg := s.getF (.thl .evqCfgSizeLog2)
  let base := s.getF (.thl .evqBaseLoBaseLo) * 2 ^ 12 + s.getF (.thl .evqBaseHiBaseHi) * 2 ^ 32
  if lg < 4 ∨ 16 < lg then 1
  else if base % max 4096 (16 * 2 ^ lg) ≠ 0 then 2
  else if s.liveFlag (.thl .evqCfgEnable) && s.flag (.thl .evqCfgEnable) &&
      (base != s.evqBase || s.changed (.thl .evqCfgSizeLog2)) then 3
  else 0

/-- A THL commit: enabling the ring sets CONS to PROD (R253). -/
def State.commitThl (s : State) : State :=
  let e := s.checkThl
  let was := s.liveFlag (.thl .evqCfgEnable)
  let s := s.setF (.thl .commitStatusErr) 0 e
  if e ≠ 0 then s
  else
    let s := s.commitAll [.thl .evqBaseLoBaseLo, .thl .evqBaseHiBaseHi, .thl .evqCfgSizeLog2, .thl .evqCfgEnable]
    if !was && s.liveFlag (.thl .evqCfgEnable) then s.setF (.thl .evqConsCons) 0 (s.getF (.thl .evqProdProd)) else s

/-- THL_COMMIT (R253). -/
def execThlCommit (s : State) : Host.Outcome State Fault Refusal := .next (if s.isOn .iod then s.commitThl else s)

/-- A write of THL_EVQ_CONS: discarded with CONS_ERR when it moves backwards or past PROD (R252). -/
def State.evqCons (s : State) (v : Nat) : State :=
  if seqBefore v (s.getF (.thl .evqConsCons)) || seqBefore (s.getF (.thl .evqProdProd)) v then
    s.setF (.thl .evqLostConsErr) 0 1
  else s.setF (.thl .evqConsCons) 0 v

/-- EVQ_CONS_WRITE (R252). -/
def execEvqConsWrite (value : Word) (s : State) : Host.Outcome State Fault Refusal :=
  .next (if s.isOn .iod then s.evqCons value.toNat else s)

/-- The OVERFLOW record for the events dropped, with its Cask record (R248, R407). -/
def State.writeOverflow (s : State) : State :=
  let n := s.thl.droppedSince
  let s := { s with thl := { s.thl with droppedSince := 0 } }
  (s.writeEvent ⟨9, 8, 1, n % 2 ^ 16⟩).post 9 8 1 (n % 2 ^ 16) false

/-- The oldest held event record is written. -/
def State.writeHeld (s : State) : State :=
  match s.thl.heldEvents with
  | [] => s
  | e :: t => ({ s with thl := { s.thl with heldEvents := t } } : State).writeEvent e

/-- HELD_EVENT_WRITE (R248): once a slot is free the oldest held record is written; the OVERFLOW record takes the next slot that
is free after a record held before the drop has left. -/
def execHeldEventWrite (s : State) : Host.Outcome State Fault Refusal :=
  .next (if !s.evqSlotFree then s
  else if s.thl.droppedSince ≠ 0 ∧ s.thl.heldEvents.length < 64 then s.writeOverflow
  else
    let s := s.writeHeld
    if s.thl.droppedSince ≠ 0 ∧ s.evqSlotFree then s.writeOverflow else s)

/-- IRQ_HOLDOFF_EXPIRY (R247): the interval of a vector ends; one that was raised in it and is still pending and enabled sends
its INT, which opens the next interval. -/
def execIrqHoldoffExpiry (v : Nat) (s : State) : Host.Outcome State Fault Refusal :=
  .next (if s.thl.holdoff.contains v then
    let waits := s.thl.irqWaiting.contains v
    let s := { s with thl := { s.thl with
      holdoff := s.thl.holdoff.filter fun x => x ≠ v, irqWaiting := s.thl.irqWaiting.filter fun x => x ≠ v } }
    if waits && (s.getF (.thl .irqStatusPending)).testBit v && (s.getF (.thl .irqEnEn)).testBit v then
      let s := s.sendHost (intPkt v)
      { s with thl := { s.thl with holdoff := s.thl.holdoff ++ [v] } }
    else s
  else s)

/-! ### Host silence (R250) -/

/-- HOST_WATCHDOG_EXPIRY: no write to THL_HOST_HB for TIMEOUT_S seconds. -/
def execHostWatchdogExpiry (s : State) : Host.Outcome State Fault Refusal :=
  .next (let t := s.getF (.thl .hostWdTimeoutS)
  if s.isOn .iod && t != 0 && !s.flag (.thl .statusHostSilent) then
    let s := (s.setF (.thl .statusHostSilent) 0 1).postMod 7 t
    if s.flag (.thl .hostWdAction) then s.parkCommand else s
  else s)

/-- A write to THL_HOST_HB: HOST_SILENT is cleared, and HOST_BACK sent if it was set (R250, R372). -/
def State.hostBeat (s : State) : State :=
  if s.flag (.thl .statusHostSilent) then (s.setF (.thl .statusHostSilent) 0 0).sendModuleEvent 3 0 0 else s

/-- HOST_HEARTBEAT. -/
def execHostHeartbeat (s : State) : Host.Outcome State Fault Refusal := .next (if s.isOn .iod then s.hostBeat else s)

/-! ### Training and loss of the link (R235, R251) -/

/-- The link leaves UP to retrain. -/
def State.thlRetrain (s : State) : State := if s.getF (.thl .statusState) = 2 then s.thlLeave 3 else s

/-- The refusal of a training (R235): NO_LANE, NO_COMMON_GEN, ROLE or TIMEOUT of R195; 0 where the link comes UP. -/
def thlErr (t : Train) (lanes : Nat) : Nat :=
  if t.late then 8
  else if (commonWidth lanes t.far).isNone then 2
  else if !(bits t.far 11 8).testBit 1 then 3
  else if bits t.far 19 18 ≠ 1 then 4
  else 0

/-- What the link shows of a training (R234, R252). -/
def State.thlTrained (s : State) (lanes err : Nat) (t : Train) : State :=
  let s := ((s.setF (.thl .ctrlRetrain) 0 0).setF (.thl .statusLanesOk) 0 lanes).setWidths 13 lanes
  if t.late ∨ err = 2 then s else (s.setF (.thl .farLoFarLo) 0 t.far).setF (.thl .farHiFarHi) 0 (t.far / 2 ^ 32)

/-- THL_TRAIN (R233 to R235). -/
def execThlTrain (t : Train) (s : State) : Host.Outcome State Fault Refusal :=
  .next (
    let st := s.getF (.thl .statusState)
    if s.isOn .iod && (st == 1 || st == 3) then
      let lanes := s.lockedLanes 13 4 t.lanes
      let err := thlErr t lanes
      let s := s.thlTrained lanes err t
      if err = 0 then
        let s := (s.setF (.thl .statusState) 0 2).setF (.thl .statusWidth) 0 ((commonWidth lanes t.far).getD 0)
        ({ s with thl := { s.thl with trainBackoff := 0 } } : State).linkTrained 13 lanes t (st == 3)
      else
        let s := (s.setF (.thl .statusState) 0 0).setF (.thl .statusTrainErr) 0 err
        { s with thl := { s.thl with trainBackoff := nextBackoff s.thl.trainBackoff } }
    else s)

/-- A write of THL_CTRL.RETRAIN (R195, R252). -/
def State.thlRetrainWrite (s : State) : State :=
  let s := s.setF (.thl .ctrlRetrain) 0 1
  if s.getF (.thl .statusState) = 0 then s.setF (.thl .statusState) 0 1 else s.thlRetrain

/-- THL_RETRAIN_WRITE. -/
def execThlRetrainWrite (s : State) : Host.Outcome State Fault Refusal :=
  .next (if s.isOn .iod then s.thlRetrainWrite else s)

/-- The tokens of a cluster on rings with host completions are stopped (R251): with the current one the cluster stops; a
prefetched one alone leaves. -/
def State.hostTokens (s : State) (c : Nat) : State :=
  match (s.cl c).tokens with
  | [] => s
  | t :: rest =>
    if s.cqHost t.ring then s.abortCluster c 0x0E
    else s.modCl c fun k => { k with tokens := t :: rest.filter fun x => !s.cqHost x.ring }

/-- Packets that wait for a credit of the link are lost with it (R251). -/
def State.dropHost (s : State) : State := (s.setWaiting 13 0 []).setWaiting 13 1 []

/-- HOST_LINK_LOSS (R251): the link has been out of UP for more than 20 ms. -/
def execHostLinkLoss (s : State) : Host.Outcome State Fault Refusal :=
  .next (if s.isOn .iod && s.getF (.thl .statusState) != 2 then
    let s := (if s.getF (.thl .statusState) = 3 then s.setF (.thl .statusState) 0 1 else s).dropHost
    let s := ((List.range 512).filter fun r => s.cqHost r && s.flag (.wiq .ringCtrlEnable) r).foldl (fun s r =>
      s.enableWrite r 0) s
    (s.clu.map (·.1)).foldl (fun s c => s.hostTokens c) s
  else s)

/-! ### Writes into host memory (R236, R240) -/

/-- The last packet of a report has been acknowledged: a short command that waited for it completes (R244). -/
def State.reportDone (s : State) : State :=
  if s.reportPending then s
  else match s.thl.mbxResult with
    | some (st, data) => if s.getF (.thl .mbxStateState) = 1 then s.mbxRespond st data else s
    | none => s

/-- A packet of a report is lost: the command ends with HOST_WRITE (R245). -/
def State.reportLost (s : State) : State :=
  match s.thl.mbxResult with
  | some _ =>
    if s.getF (.thl .mbxStateState) = 1 then s.mbxRespond 0x0B []
    else if s.getF (.thl .mbxStateState) = 2 then s.mbxRan 0x0B [] else s
  | none => s

/-- A write into host memory is refused or not acknowledged: the link retrains and the write counts as lost; a lost completion
record sets CQ_LOST and the ring's event bit (R240). -/
def State.hmemLost (s : State) (e : HmemPend) : State :=
  let s := s.thlRetrain
  match e.kind with
  | .completion r _ => (s.setF (.wiq .ringStatusCqLost) r 1).ringEvent r
  | .report => s.reportLost
  | .event _ => s
  | .oldReport => s

/-- The pending write with a TAG. -/
def State.findHmem (s : State) (tag : Nat) : Option HmemPend := s.thl.hmem.find? fun e => e.tag == tag

/-- Take the pending write with a TAG out. -/
def State.dropHmem (s : State) (tag : Nat) : State :=
  { s with thl := { s.thl with hmem := s.thl.hmem.filter fun e => e.tag ≠ tag } }

/-- Is a packet from the host well formed (R198, R201, R236): the type, DST and SRC 0, the virtual channel, LEN? MEM_WR has the
length of its byte count where that is one that R238 admits. -/
def hostOk (t : Nat) (p : Pkt) (len : Nat) : Bool :=
  p.sound && p.typ == t && p.dst == 0 && p.src == 0 && p.vc == (if t = 0x37 then 1 else 0) && p.len == len

/-- The adapter answers a write: acknowledged, or refused. -/
def State.hmemAnswer (s : State) (tag st : Nat) : State :=
  match s.findHmem tag with
  | none => s
  | some e =>
    let s := s.dropHmem tag
    if st ≠ 0 then s.hmemLost e
    else match e.kind with
      | .report => s.reportDone
      | _ => s

/-- HMEM_ACK (R236, R240): the adapter acknowledges or refuses the write with the TAG of the packet. -/
def execHmemAck (p : Pkt) (s : State) : Host.Outcome State Fault Refusal :=
  .next (if !s.linkLive 13 then s
  else if hostOk 0x37 p 0 && (p.status == 0 || p.status == 3) then (s.leaveBuffer 13 p).hmemAnswer p.tag p.status
  else s.leaveBuffer 13 p)

/-- HMEM_WR_TIMEOUT (R240): the write with a TAG has not been acknowledged for 5 ms. -/
def execHmemWrTimeout (tag : Nat) (s : State) : Host.Outcome State Fault Refusal := .next (s.hmemAnswer tag 3)

/-! ### Writing a register -/

/-- Does a write of the MBX command registers, the doorbell or another THL register act? -/
def State.writeThl (s : State) (r : RegRow) (k data : Nat) (f : Fld) : State :=
  match f with
  | .thl .ctrlRetrain => if data % 2 = 1 then s.thlRetrainWrite else s
  | .thl .commitCommit => if data % 2 = 1 then s.commitThl else s
  | .thl .evqConsCons => s.evqCons data
  | .thl .hostHbBeat => s.hostBeat
  | .thl .mbxDoorbellRing => if data % 2 = 1 then s.doorbell cleanEnv else s
  | .thl .mbxCmdBytes =>
    if s.getF (.thl .mbxStateState) = 1 ∨ s.getF (.thl .mbxStateState) = 2 then s else s.plainWrite r k data
  | _ => s.plainWrite r k data

/-- What a write does at a register of the KLN windows: k is the Kiln's (R279, R280). -/
def State.writeKln (s : State) (r : RegRow) (k data : Nat) (f : Fld) : State :=
  match f with
  | .kln .ctrlHandover =>
    let s := s.plainWrite r k data
    let w := if k = 0 then Kiln.ka else Kiln.kb
    let s := if data.testBit 0 then s.handoverWrite w else s
    if data.testBit 1 then s.restartWrite w else s
  | _ => s.plainWrite r k data

/-- What a write does at a coolant register that acts, or at another one of its block. A clear of LEAK takes every loop that
reads DRY for one that has done so for 60 s. -/
def State.writeCool (s : State) (a : Nat) (r : RegRow) (k data : Nat) (f : Fld) : State :=
  match f with
  | .cle .coolStatusState => if data.testBit 5 then s.leakClear ((List.range 4).all fun n => s.getF (.cle .leakState) n == 0) else s
  | .cle .sensQueryId =>
    if sensKnown (data % 2 ^ 16) then s.sensQuery (data % 2 ^ 16)
    else (s.setF (.cle .sensQueryId) 0 data).setF (.cle .sensResultReady) 0 0
  | _ => s.blockWrite 0xC a r k data

/-- A write of data to the register at an address, with every effect it has (R5 to R8, R474, R475). -/
def State.writeReg (s : State) (a data : Nat) : State :=
  match regAt a, blockOf a with
  | some (r, k), some b =>
    match r.flds with
    | [] => s
    | x :: _ =>
      match b with
      | 1 =>
        if !s.rowOn r k then s
        else if x.fld = .mod .removeRequest then (if data % 2 = 1 then s.startRemoval 1 else s)
        else s.plainWrite r k data
      | 0xA => if s.rowOn r k then s.writeThl r k data x.fld else s
      | 0xB => if s.rowOn r k then s.writeKln r k data x.fld else s
      | 0xC => if s.rowOn r k then s.writeCool a r k data x.fld else s
      | _ => s.blockWrite b a r k data
  | _, _ => s

/-- REGISTER_WRITE (R3 to R5): the write by itself. -/
def execRegisterWrite (addr data : Word) (s : State) : Host.Outcome State Fault Refusal :=
  .next (if addr.toNat % 4 = 0 then s.writeReg addr.toNat data.toNat else s)

/-! ### Reading a register -/

/-- A read of a low word latches the high word that follows it (R9). -/
def State.latchHigh (s : State) (a : Nat) : State :=
  match blockOf a with
  | some b => if isLoAddr a then { s with latch := s.latch.set b (a + 4, s.peek (a + 4)) } else s
  | none => s

/-- Is an address that of KLN_INV_DATA? -/
def isInvData (a : Nat) : Bool :=
  match regAt a with
  | some (r, _) => r.flds.any fun x => decide (x.fld = .kln .invDataWord)
  | none => false

/-- A read with its effects: a latched high word is returned once (R9), a low word latches, and KLN_INV_DATA moves on (R280). -/
def State.readReg (s : State) (a : Nat) : Nat × State :=
  match ((blockOf a).bind s.latch.get?).filter fun x => x.1 == a with
  | some x => (x.2, { s with latch := s.latch.erase ((blockOf a).getD 0) })
  | none =>
    let v := s.peek a
    let s := s.latchHigh a
    (v, if isInvData a then s.addWrap (.kln .invSelIndex) 0 1 else s)

/-- LO_WORD_READ (R9). -/
def execLoWordRead (addr : Word) (s : State) : Host.Outcome State Fault Refusal :=
  .next (if addr.toNat % 4 = 0 then s.latchHigh addr.toNat else s)

/-! ### Requests of the host (R236 to R239) -/

/-- STATUS of an access that alignment or the map refuses, MISALIGNED before UNMAPPED (R3, R4, R237); 0 for none. -/
def cfgRefusal (a be : Nat) : Nat :=
  if a % 4 ≠ 0 ∨ be ≠ 0xF then 0x10 else if (blockOf a).isNone then 0x11 else 0

/-- Does an access go to the active Kiln (R237)? -/
def kilnAddr (a : Nat) : Bool :=
  match blockOf a with
  | some b => decide (0xB ≤ b ∧ b ≤ 0x11)
  | none => false

/-- Is a register the commit register of a block that a configuration names? -/
def isCommitField (f : Fld) : Bool :=
  match f with
  | .grb .commitCommit | .mem .commitCommit | .mil .commitCommit | .ixf .commitCommit | .ptn .commitCommit
  | .cle .commitCommit | .row .commitCommit => true
  | _ => false

/-- Is a host write locked out by a CONFIGURE (R396): to an RWC or commit register of a block that its image names, or to the
commit register of CLE? -/
def State.configLocks (s : State) (a : Nat) : Bool :=
  decide (s.getF (.thl .mbxStateState) = 2 ∧ s.getF (.thl .mbxStateOpcode) = 3) && s.thl.mbxRun &&
    match regAt a, blockOf a with
    | some (r, _), some b =>
      (s.thl.locked.contains b && (r.hasRwc || r.flds.any fun x => isCommitField x.fld)) ||
        (r.flds.any fun x => decide (x.fld = .cle .commitCommit))
    | _, _ => false

/-- May a host memory access of n bytes at an address be made: 8 to 256 bytes in multiples of 8, aligned to 8, within one aligned
block of 256 bytes (R238)? -/
def memShape (a n : Nat) : Bool :=
  decide (8 ≤ n ∧ n ≤ 256) && n % 8 == 0 && a % 8 == 0 && decide (a / 256 = (a + n - 1) / 256)

/-- Address, byte enables and data of a CFG packet (R236). -/
def cfgAddr (p : Pkt) : Nat := p.addr % 2 ^ 32
/-- Byte enables of a CFG packet. -/
def cfgBe (p : Pkt) : Nat := p.aux % 16
/-- Data of a CFG_WR packet. -/
def cfgData (p : Pkt) : Nat := leNat (p.payload.take 4)
/-- Address of a MEM packet (R236). -/
def memAddr (p : Pkt) : Nat := p.addr % 2 ^ 40
/-- Byte count of a MEM packet. -/
def memCount (p : Pkt) : Nat := p.aux % 512

/-- Is a packet a CFG access that no refusal ends? -/
def cfgGood (p : Pkt) : Bool := (p.typ == 0x30 || p.typ == 0x31) && cfgRefusal (cfgAddr p) (cfgBe p) == 0

/-- Does a request wait for a Kiln to hold ACT_OWN (R237)? -/
def State.waitsKiln (s : State) (p : Pkt) : Bool := cfgGood p && kilnAddr (cfgAddr p) && s.active.isNone

/-- Does a write wait for a commit of its block that runs: to an RWC register, or a 1 to its COMMIT field (R7, R475)? -/
def State.waitsCommit (s : State) (p : Pkt) : Bool :=
  cfgGood p && p.typ == 0x31 &&
    match regAt (cfgAddr p), blockOf (cfgAddr p) with
    | some (r, _), some b =>
      s.blockBusy b && (r.hasRwc || ((r.flds.any fun x => isCommitField x.fld) && (cfgData p) % 2 == 1))
    | _, _ => false

/-- Does a write wait for the partner link to take it (R123)? -/
def State.waitsMirror (s : State) (p : Pkt) : Bool :=
  p.typ == 0x34 && memShape (memAddr p) (memCount p) && s.mirrorFull (memAddr p) (memCount p)

/-- Does a request of the host wait? -/
def State.reqWaits (s : State) (p : Pkt) : Bool := s.waitsKiln p || s.waitsCommit p || s.waitsMirror p

/-- Answer a CFG access. -/
def State.serveCfg (s : State) (p : Pkt) : State :=
  match cfgRefusal (cfgAddr p) (cfgBe p) with
  | 0 =>
    if p.typ = 0x30 then (s.readReg (cfgAddr p)).2.sendHost (cfgRsp p.tag 0 (s.readReg (cfgAddr p)).1)
    else if s.configLocks (cfgAddr p) then s.sendHost (cfgRsp p.tag 0x12 0)
    else (s.writeReg (cfgAddr p) (cfgData p)).sendHost (cfgRsp p.tag 0 0)
  | st => s.sendHost (cfgRsp p.tag st 0)

/-- Answer a MEM access; a write into a SYNC mirrored region is answered once the mirror writes are (R123). -/
def State.serveMem (s : State) (p : Pkt) (mecc : List MemEcc) : State :=
  if !memShape (memAddr p) (memCount p) then s.sendHost (memRsp p.tag 1 [])
  else if p.typ = 0x33 then
    match s.memRead (memAddr p) (memCount p) mecc with
    | (s, r, b) => s.sendHost (memRsp p.tag r.rsp b)
  else
    match s.memWrite (memAddr p) (p.payload.take (memCount p)) mecc with
    | (s, r, tags) =>
      if tags.isEmpty then s.sendHost (memRsp p.tag r.rsp [])
      else { s with ixf := { s.ixf with lateAcks := s.ixf.lateAcks ++ [⟨tags, 13, memRsp p.tag r.rsp []⟩] } }

/-- Serve a request (R237 to R239): it leaves its buffer. -/
def State.serveReq (s : State) (q : HostReq) : State :=
  (if q.pkt.typ = 0x30 ∨ q.pkt.typ = 0x31 then s.serveCfg q.pkt else s.serveMem q.pkt q.mecc).leaveBuffer 13 q.pkt

/-- Serve requests in order up to one that waits; from it on they are held. -/
def State.serveHost (s : State) : List HostReq → State
  | [] => s
  | q :: t => if s.reqWaits q.pkt then { s with thl := { s.thl with held := q :: t } } else (s.serveReq q).serveHost t

/-- Serve a list of requests in the place of those that are held, in order (R239). -/
def State.serveHosted (s : State) (l : List HostReq) : State :=
  ({ s with thl := { s.thl with held := [] } } : State).serveHost l

/-- Serve the requests that are held (R239). -/
def State.serveHeld (s : State) : State := s.serveHosted s.thl.held

/-- A request arrives (R237, R239): malformed ones are discarded (R201), any other is served after those held, or held. -/
def State.hostReq (s : State) (t len : Nat) (p : Pkt) (mecc : List MemEcc) : State :=
  if !s.linkLive 13 then s
  else if !hostOk t p len then s.leaveBuffer 13 p
  else s.serveHosted (s.thl.held ++ [⟨p, mecc⟩])

/-- CFG_RD (R3, R4, R9, R237). -/
def execCfgRd (p : Pkt) (s : State) : Host.Outcome State Fault Refusal := .next (s.hostReq 0x30 0 p [])

/-- CFG_WR (R3, R4, R7, R237, R475). -/
def execCfgWr (p : Pkt) (s : State) : Host.Outcome State Fault Refusal := .next (s.hostReq 0x31 1 p [])

/-- MEM_RD (R105, R111, R112, R124, R238). -/
def execMemRd (p : Pkt) (mecc : List MemEcc) (s : State) : Host.Outcome State Fault Refusal :=
  .next (s.hostReq 0x33 0 p mecc)

/-- MEM_WR (R105, R108, R123, R238): LEN is that of the byte count, where R238 admits that. -/
def execMemWr (p : Pkt) (mecc : List MemEcc) (s : State) : Host.Outcome State Fault Refusal :=
  .next (s.hostReq 0x34 (if memShape (memAddr p) (memCount p) then ((memCount p) + 63) / 64 else p.len) p mecc)

/-- KILN_ACCESS_RELEASE (R237): a Kiln holds ACT_OWN again, and what was held is served. -/
def execKilnAccessRelease (s : State) : Host.Outcome State Fault Refusal := .next s.serveHeld

/-- KILN_ACCESS_TIMEOUT (R237): no Kiln has held ACT_OWN for 5 ms: the access is answered NOT_READY and has no effect; those
behind it go on. -/
def execKilnAccessTimeout (s : State) : Host.Outcome State Fault Refusal :=
  .next (match s.thl.held with
    | [] => s
    | q :: t =>
      if s.waitsKiln q.pkt then ((s.sendHost (cfgRsp q.pkt.tag 0x12 0)).leaveBuffer 13 q.pkt).serveHosted t else s)

/-! ### What was held -/

/-- Take the first element that satisfies p out of a list. -/
def takeFirst {α : Type} (p : α → Bool) : List α → Option (α × List α)
  | [] => none
  | x :: t => if p x then some (x, t) else (takeFirst p t).map fun r => (r.1, x :: r.2)

/-- HELD_RWC_WRITE (R7): the first held write whose block commits no longer takes effect; requests of the host that waited are
served. -/
def execHeldRwcWrite (s : State) : Host.Outcome State Fault Refusal :=
  match takeFirst (fun w => !s.blockBusy w.1) s.heldWrites with
  | none => .next s.serveHeld
  | some (w, rest) =>
    let s := { s with heldWrites := rest }
    .next (match regAt w.2.1 with
      | some (r, k) => if s.rowOn r k then s.plainWrite r k w.2.2 else s
      | none => s).serveHeld

/-- HELD_COMMIT (R475): the first held commit whose block commits no longer commits the shadow set as it stands; requests of the
host that waited are served. -/
def execHeldCommit (s : State) : Host.Outcome State Fault Refusal :=
  match takeFirst (fun b => !s.blockBusy b) s.heldCommits with
  | none => .next s.serveHeld
  | some (b, rest) => .next (({ s with heldCommits := rest } : State).commitBlock b).serveHeld

/-! ### Flits (R191, R192, R203, R233) -/

/-- Ask the far end to replay what follows the last flit received intact (R192). -/
def State.askReplay (s : State) (k : Nat) : State :=
  (s.sendFlit k true true []).modEnd k fun e => { e with nakSent := true }

/-- Credits that a flit returns: packets that wait take them, then engines in order (R203). -/
def State.takeCredits (s : State) (k vc n : Nat) : State :=
  let s := s.gainCredits k (s.farCap k) vc n
  if vc = 0 ∧ k ≤ 12 then State.grantLinks n s k else s

/-- A flit in sequence: ACKSEQ, a replay that it asks for, the credits that it returns; ACKSEQ goes back at least every 64 flits
(R191, R192). -/
def State.acceptFlit (s : State) (k : Nat) (f : Flit) : State :=
  let s := s.modEnd k fun e => { e with rxSeq := f.fseq, acked := f.ackseq, nakSent := false, since := e.since + 1 }
  let s := if f.nak then (if k < 12 then s.addSat (.ixf .portReplayReplays) k 1 else s).replay k f.ackseq else s
  let s := s.takeCredits k f.crVc f.crCount
  if (s.linkEnd k).since ≥ 64 then s.sendFlit k false true [] else s

/-- Take a flit off a link that is UP: one that fails its CRC is discarded and a replay requested; one of a reserved kind is
discarded; one in sequence is accepted, one received before discarded, and a gap requests a replay once (R8, R191, R192; log
entry 172). -/
def State.takeFlit (s : State) (k : Nat) (f : Flit) : State :=
  if !f.intact then s.askReplay k
  else if !f.known then s
  else
    let e := s.linkEnd k
    let ahead := (f.fseq + 1024 - e.rxSeq) % 1024
    if ahead = 1 then s.acceptFlit k f
    else if ahead = 0 ∨ 512 ≤ ahead ∨ e.nakSent then s
    else s.askReplay k

/-- FLIT_RECEIVE (R191, R192, R203, R233): packets that waited for what it brings are served. -/
def execFlitReceive (k : Nat) (f : Flit) (corrected : Bool) (s : State) : Host.Outcome State Fault Refusal :=
  .next <|
    if !s.linkLive k then s
    else
      let s := if corrected && decide (k < 12) then s.addSat (.ixf .portFecCorrected) k 1 else s
      (s.takeFlit k f).serveRx.serveHeld

end Sys2Proof.Machine
end

