-- ==== Sys2Proof/Machine/Dispatch.lean ====
section
/-!
DEFINITION. The dispatch: one arm for each command, each a direct call of its meaning.
-/

namespace Sys2Proof.Machine

/-- The effect of a command on everything but the queue. -/
def exec (i : Instr) (s : State) : Host.Outcome State Fault Refusal :=
  match i with
  | .cfgRd p => Sys2Proof.Machine.execCfgRd p s
  | .cfgWr p => Sys2Proof.Machine.execCfgWr p s
  | .registerWrite addr data => Sys2Proof.Machine.execRegisterWrite addr data s
  | .loWordRead addr => Sys2Proof.Machine.execLoWordRead addr s
  | .heldRwcWrite => Sys2Proof.Machine.execHeldRwcWrite s
  | .heldCommit => Sys2Proof.Machine.execHeldCommit s
  | .memRd p mecc => Sys2Proof.Machine.execMemRd p mecc s
  | .memWr p mecc => Sys2Proof.Machine.execMemWr p mecc s
  | .hmemAck p => Sys2Proof.Machine.execHmemAck p s
  | .hmemWrTimeout tag => Sys2Proof.Machine.execHmemWrTimeout tag s
  | .kilnAccessRelease => Sys2Proof.Machine.execKilnAccessRelease s
  | .kilnAccessTimeout => Sys2Proof.Machine.execKilnAccessTimeout s
  | .auxPowerUp straps first loops => Sys2Proof.Machine.execAuxPowerUp straps first loops s
  | .pressureReached => Sys2Proof.Machine.execPressureReached s
  | .pressureWaitTimeout => Sys2Proof.Machine.execPressureWaitTimeout s
  | .pressureHoldEnd fall loops zeroBad carrier => Sys2Proof.Machine.execPressureHoldEnd fall loops zeroBad carrier s
  | .pressureTestRetry loops => Sys2Proof.Machine.execPressureTestRetry loops s
  | .prechargeDone => Sys2Proof.Machine.execPrechargeDone s
  | .prechargeTimeout => Sys2Proof.Machine.execPrechargeTimeout s
  | .prechargeRetry => Sys2Proof.Machine.execPrechargeRetry s
  | .bootFlowReady tests => Sys2Proof.Machine.execBootFlowReady tests s
  | .bootFlowTimeout => Sys2Proof.Machine.execBootFlowTimeout s
  | .bootStepTimeout => Sys2Proof.Machine.execBootStepTimeout s
  | .refclkLoss => Sys2Proof.Machine.execRefclkLoss s
  | .clockTreeRestored => Sys2Proof.Machine.execClockTreeRestored s
  | .domainFault d => Sys2Proof.Machine.execDomainFault d s
  | .scalarOp c fn useImm => Sys2Proof.Machine.execScalarOp c fn useImm s
  | .branch c cond => Sys2Proof.Machine.execBranch c cond s
  | .ldsSts c store ecc => Sys2Proof.Machine.execLdsSts c store ecc s
  | .illegalInstruction c reservedEnc => Sys2Proof.Machine.execIllegalInstruction c reservedEnc s
  | .fetchFault c ecc => Sys2Proof.Machine.execFetchFault c ecc s
  | .tb c ecc => Sys2Proof.Machine.execTb c ecc s
  | .tensorBlockStart c ecc => Sys2Proof.Machine.execTensorBlockStart c ecc s
  | .tensorBlockEnd c units => Sys2Proof.Machine.execTensorBlockEnd c units s
  | .spillDone c n => Sys2Proof.Machine.execSpillDone c n s
  | .tbwait c => Sys2Proof.Machine.execTbwait c s
  | .vop c op ecc => Sys2Proof.Machine.execVop c op ecc s
  | .copy c ecc => Sys2Proof.Machine.execCopy c ecc s
  | .fill c ecc => Sys2Proof.Machine.execFill c ecc s
  | .addF32 c ecc => Sys2Proof.Machine.execAddF32 c ecc s
  | .post c ecc => Sys2Proof.Machine.execPost c ecc s
  | .dmaDeferredAccept c ecc => Sys2Proof.Machine.execDmaDeferredAccept c ecc s
  | .dmaBurstIssue c j ecc mecc => Sys2Proof.Machine.execDmaBurstIssue c j ecc mecc s
  | .burstComplete c j n ecc => Sys2Proof.Machine.execBurstComplete c j n ecc s
  | .dmaRetire c => Sys2Proof.Machine.execDmaRetire c s
  | .creditIdleReturn c link key => Sys2Proof.Machine.execCreditIdleReturn c link key s
  | .memBurstTimeout c j n => Sys2Proof.Machine.execMemBurstTimeout c j n s
  | .linkCreditTimeout c j => Sys2Proof.Machine.execLinkCreditTimeout c j s
  | .remoteAckTimeout tag => Sys2Proof.Machine.execRemoteAckTimeout tag s
  | .dmawait c => Sys2Proof.Machine.execDmawait c s
  | .fence c => Sys2Proof.Machine.execFence c s
  | .claim c mecc => Sys2Proof.Machine.execClaim c mecc s
  | .claimServed ring mecc => Sys2Proof.Machine.execClaimServed ring mecc s
  | .done c => Sys2Proof.Machine.execDone c s
  | .step c spaced => Sys2Proof.Machine.execStep c spaced s
  | .cluSrSeedWrite c value => Sys2Proof.Machine.execCluSrSeedWrite c value s
  | .heldSeedLoad c => Sys2Proof.Machine.execHeldSeedLoad c s
  | .cluHaltWrite c value => Sys2Proof.Machine.execCluHaltWrite c value s
  | .steepLendTimer c => Sys2Proof.Machine.execSteepLendTimer c s
  | .ringProdWrite ring value mecc => Sys2Proof.Machine.execRingProdWrite ring value mecc s
  | .ringConsWrite ring value => Sys2Proof.Machine.execRingConsWrite ring value s
  | .ringEnableWrite ring value => Sys2Proof.Machine.execRingEnableWrite ring value s
  | .ringCancel ring => Sys2Proof.Machine.execRingCancel ring s
  | .cancelRecord ring => Sys2Proof.Machine.execCancelRecord ring s
  | .claimStopWrite value => Sys2Proof.Machine.execClaimStopWrite value s
  | .ringCommit ring => Sys2Proof.Machine.execRingCommit ring s
  | .postNumberClaimable ring => Sys2Proof.Machine.execPostNumberClaimable ring s
  | .descriptorTimeout c => Sys2Proof.Machine.execDescriptorTimeout c s
  | .completionRecord n => Sys2Proof.Machine.execCompletionRecord n s
  | .ringStall ring => Sys2Proof.Machine.execRingStall ring s
  | .drainComplete => Sys2Proof.Machine.execDrainComplete s
  | .drainLimitExpiry => Sys2Proof.Machine.execDrainLimitExpiry s
  | .parkComplete => Sys2Proof.Machine.execParkComplete s
  | .patrolScrub k lch q mecc passEnd => Sys2Proof.Machine.execPatrolScrub k lch q mecc passEnd s
  | .operatingHourTick => Sys2Proof.Machine.execOperatingHourTick s
  | .refreshRateRise k => Sys2Proof.Machine.execRefreshRateRise k s
  | .refreshRateFall k => Sys2Proof.Machine.execRefreshRateFall k s
  | .selfRefreshEntry k lch => Sys2Proof.Machine.execSelfRefreshEntry k lch s
  | .selfRefreshExit k lch => Sys2Proof.Machine.execSelfRefreshExit k lch s
  | .dqsTrack k lch ok => Sys2Proof.Machine.execDqsTrack k lch ok s
  | .spareStartWrite k lch => Sys2Proof.Machine.execSpareStartWrite k lch s
  | .sparingStart k => Sys2Proof.Machine.execSparingStart k s
  | .sparingCopyDone k bad => Sys2Proof.Machine.execSparingCopyDone k bad s
  | .channelUnresponsive k lch copied => Sys2Proof.Machine.execChannelUnresponsive k lch copied s
  | .memCommit => Sys2Proof.Machine.execMemCommit s
  | .milCommit => Sys2Proof.Machine.execMilCommit s
  | .milOldSetRetired => Sys2Proof.Machine.execMilOldSetRetired s
  | .gwait c => Sys2Proof.Machine.execGwait c s
  | .gsignal c => Sys2Proof.Machine.execGsignal c s
  | .gbar c => Sys2Proof.Machine.execGbar c s
  | .barrierFlipCascade g => Sys2Proof.Machine.execBarrierFlipCascade g s
  | .gbarWaitOnly c => Sys2Proof.Machine.execGbarWaitOnly c s
  | .gtest c => Sys2Proof.Machine.execGtest c s
  | .stgSignal value => Sys2Proof.Machine.execStgSignal value s
  | .gateCommit g => Sys2Proof.Machine.execGateCommit g s
  | .gateReset g => Sys2Proof.Machine.execGateReset g s
  | .remoteSignalSend n => Sys2Proof.Machine.execRemoteSignalSend n s
  | .mint n meters rail => Sys2Proof.Machine.execMint n meters rail s
  | .grainGrant n => Sys2Proof.Machine.execGrainGrant n s
  | .brakeHold n meters => Sys2Proof.Machine.execBrakeHold n meters s
  | .hotSpotLimiter n readings sourceMw => Sys2Proof.Machine.execHotSpotLimiter n readings sourceMw s
  | .dieHotTimeout n => Sys2Proof.Machine.execDieHotTimeout n s
  | .controlCycle m checks => Sys2Proof.Machine.execControlCycle m checks s
  | .stackHotEscalate k => Sys2Proof.Machine.execStackHotEscalate k s
  | .capHostWrite value => Sys2Proof.Machine.execCapHostWrite value s
  | .rackCap p frame => Sys2Proof.Machine.execRackCap p frame s
  | .rackCfgWrite value => Sys2Proof.Machine.execRackCfgWrite value s
  | .rackLeaseExpiry => Sys2Proof.Machine.execRackLeaseExpiry s
  | .protectionFall k capW dieW => Sys2Proof.Machine.execProtectionFall k capW dieW s
  | .dieCapStale n => Sys2Proof.Machine.execDieCapStale n s
  | .capStatusPeriodic => Sys2Proof.Machine.execCapStatusPeriodic s
  | .grbCommit => Sys2Proof.Machine.execGrbCommit s
  | .portTrain k t => Sys2Proof.Machine.execPortTrain k t s
  | .trainRetryTimer k => Sys2Proof.Machine.execTrainRetryTimer k s
  | .flitReceive k f corrected => Sys2Proof.Machine.execFlitReceive k f corrected s
  | .portRetrain k => Sys2Proof.Machine.execPortRetrain k s
  | .laneLoss k lane => Sys2Proof.Machine.execLaneLoss k lane s
  | .portRetrainWrite k => Sys2Proof.Machine.execPortRetrainWrite k s
  | .portEnableWrite k value => Sys2Proof.Machine.execPortEnableWrite k value s
  | .portParkWrite k value => Sys2Proof.Machine.execPortParkWrite k value s
  | .wrMem k p mecc => Sys2Proof.Machine.execWrMem k p mecc s
  | .wrClu k p => Sys2Proof.Machine.execWrClu k p s
  | .addClu k p ecc => Sys2Proof.Machine.execAddClu k p ecc s
  | .rdMem k p mecc => Sys2Proof.Machine.execRdMem k p mecc s
  | .rdClu k p ecc => Sys2Proof.Machine.execRdClu k p ecc s
  | .rdRsp k p ecc => Sys2Proof.Machine.execRdRsp k p ecc s
  | .wrAck k p => Sys2Proof.Machine.execWrAck k p s
  | .sig k p => Sys2Proof.Machine.execSig k p s
  | .sigAck k p => Sys2Proof.Machine.execSigAck k p s
  | .collReady k p mecc => Sys2Proof.Machine.execCollReady k p mecc s
  | .collData k p mecc => Sys2Proof.Machine.execCollData k p mecc s
  | .collAck k p => Sys2Proof.Machine.execCollAck k p s
  | .noticeDown k p => Sys2Proof.Machine.execNoticeDown k p s
  | .noticeUp k p => Sys2Proof.Machine.execNoticeUp k p s
  | .noticeUnreach k p => Sys2Proof.Machine.execNoticeUnreach k p s
  | .noticeParked k p => Sys2Proof.Machine.execNoticeParked k p s
  | .hashSetResume x => Sys2Proof.Machine.execHashSetResume x s
  | .fenceClr x => Sys2Proof.Machine.execFenceClr x s
  | .reachQuery x => Sys2Proof.Machine.execReachQuery x s
  | .ixfCommit => Sys2Proof.Machine.execIxfCommit s
  | .collStart ch mecc => Sys2Proof.Machine.execCollStart ch mecc s
  | .collComplete ch => Sys2Proof.Machine.execCollComplete ch s
  | .collTimeout ch => Sys2Proof.Machine.execCollTimeout ch s
  | .mirWr p mecc => Sys2Proof.Machine.execMirWr p mecc s
  | .mirAck p => Sys2Proof.Machine.execMirAck p s
  | .summary p => Sys2Proof.Machine.execSummary p s
  | .summaryTimeout => Sys2Proof.Machine.execSummaryTimeout s
  | .ptnTrain t => Sys2Proof.Machine.execPtnTrain t s
  | .ptnLinkDown retrain => Sys2Proof.Machine.execPtnLinkDown retrain s
  | .ptnRetrainWrite => Sys2Proof.Machine.execPtnRetrainWrite s
  | .ptnFenceClr => Sys2Proof.Machine.execPtnFenceClr s
  | .ptnCommit => Sys2Proof.Machine.execPtnCommit s
  | .partnerResync => Sys2Proof.Machine.execPartnerResync s
  | .resyncBlockDone => Sys2Proof.Machine.execResyncBlockDone s
  | .thlTrain t => Sys2Proof.Machine.execThlTrain t s
  | .thlRetrainWrite => Sys2Proof.Machine.execThlRetrainWrite s
  | .hostLinkLoss => Sys2Proof.Machine.execHostLinkLoss s
  | .thlCommit => Sys2Proof.Machine.execThlCommit s
  | .getInfo => Sys2Proof.Machine.execGetInfo s
  | .getStatus => Sys2Proof.Machine.execGetStatus s
  | .configure readOk mecc => Sys2Proof.Machine.execConfigure readOk mecc s
  | .imageUpdate readOk writeOk mecc => Sys2Proof.Machine.execImageUpdate readOk writeOk mecc s
  | .memTest found => Sys2Proof.Machine.execMemTest found s
  | .drain => Sys2Proof.Machine.execDrain s
  | .resume => Sys2Proof.Machine.execResume s
  | .park => Sys2Proof.Machine.execPark s
  | .unpark => Sys2Proof.Machine.execUnpark s
  | .remove => Sys2Proof.Machine.execRemove s
  | .memAlloc => Sys2Proof.Machine.execMemAlloc s
  | .memFree => Sys2Proof.Machine.execMemFree s
  | .attest => Sys2Proof.Machine.execAttest s
  | .caskRead => Sys2Proof.Machine.execCaskRead s
  | .kilnHandover => Sys2Proof.Machine.execKilnHandover s
  | .partnerQuery => Sys2Proof.Machine.execPartnerQuery s
  | .mbxLongComplete => Sys2Proof.Machine.execMbxLongComplete s
  | .mbxCommandTimeout => Sys2Proof.Machine.execMbxCommandTimeout s
  | .hostWatchdogExpiry => Sys2Proof.Machine.execHostWatchdogExpiry s
  | .hostHeartbeat => Sys2Proof.Machine.execHostHeartbeat s
  | .evqConsWrite value => Sys2Proof.Machine.execEvqConsWrite value s
  | .heldEventWrite => Sys2Proof.Machine.execHeldEventWrite s
  | .irqHoldoffExpiry v => Sys2Proof.Machine.execIrqHoldoffExpiry v s
  | .actOwnClaim ka kb => Sys2Proof.Machine.execActOwnClaim ka kb s
  | .actOwnRelease k => Sys2Proof.Machine.execActOwnRelease k s
  | .strobeTimeout => Sys2Proof.Machine.execStrobeTimeout s
  | .holderReset => Sys2Proof.Machine.execHolderReset s
  | .standbyClaim k => Sys2Proof.Machine.execStandbyClaim k s
  | .staleClaim k => Sys2Proof.Machine.execStaleClaim k s
  | .stateFrame verOk crcOk => Sys2Proof.Machine.execStateFrame verOk crcOk s
  | .healthWord bits => Sys2Proof.Machine.execHealthWord bits s
  | .kilnWatchdog k => Sys2Proof.Machine.execKilnWatchdog k s
  | .klnHandoverWrite k => Sys2Proof.Machine.execKlnHandoverWrite k s
  | .handoverClaimTimeout => Sys2Proof.Machine.execHandoverClaimTimeout s
  | .klnRestartWrite k => Sys2Proof.Machine.execKlnRestartWrite k s
  | .kilnRestart k => Sys2Proof.Machine.execKilnRestart k s
  | .standbyLostTimer => Sys2Proof.Machine.execStandbyLostTimer s
  | .divergence loop => Sys2Proof.Machine.execDivergence loop s
  | .protectConfirmTimeout => Sys2Proof.Machine.execProtectConfirmTimeout s
  | .noOwnerTimeout => Sys2Proof.Machine.execNoOwnerTimeout s
  | .dieHbStall d mesh => Sys2Proof.Machine.execDieHbStall d mesh s
  | .dieHbFail d mesh => Sys2Proof.Machine.execDieHbFail d mesh s
  | .dieFatal d mesh => Sys2Proof.Machine.execDieFatal d mesh s
  | .dieCe d => Sys2Proof.Machine.execDieCe d s
  | .klnInvDataRead => Sys2Proof.Machine.execKlnInvDataRead s
  | .sensorSubstitute ids why change silent => Sys2Proof.Machine.execSensorSubstitute ids why change silent s
  | .sensorRestore id => Sys2Proof.Machine.execSensorRestore id s
  | .sensorDisagree id diff => Sys2Proof.Machine.execSensorDisagree id diff s
  | .disagreeClear id => Sys2Proof.Machine.execDisagreeClear id s
  | .modelSuspectEnd z => Sys2Proof.Machine.execModelSuspectEnd z s
  | .leakSuspected n st => Sys2Proof.Machine.execLeakSuspected n st s
  | .leakSuspectEnd n => Sys2Proof.Machine.execLeakSuspectEnd n s
  | .leak n rpm => Sys2Proof.Machine.execLeak n rpm s
  | .leakClearWrite dry => Sys2Proof.Machine.execLeakClearWrite dry s
  | .condensation => Sys2Proof.Machine.execCondensation s
  | .condensationClear => Sys2Proof.Machine.execCondensationClear s
  | .flowLoss readings => Sys2Proof.Machine.execFlowLoss readings s
  | .flowLossQuiesce => Sys2Proof.Machine.execFlowLossQuiesce s
  | .flowLossPowerDown => Sys2Proof.Machine.execFlowLossPowerDown s
  | .flowReturned tests => Sys2Proof.Machine.execFlowReturned tests s
  | .quiesceLifted => Sys2Proof.Machine.execQuiesceLifted s
  | .coolantWarn bit => Sys2Proof.Machine.execCoolantWarn bit s
  | .coolantWarnClear bit => Sys2Proof.Machine.execCoolantWarnClear bit s
  | .coolantWarnRepeat => Sys2Proof.Machine.execCoolantWarnRepeat s
  | .overpressure kpa => Sys2Proof.Machine.execOverpressure kpa s
  | .hotN d stack => Sys2Proof.Machine.execHotN d stack s
  | .hotNClear => Sys2Proof.Machine.execHotNClear s
  | .sensQuery id => Sys2Proof.Machine.execSensQuery id s
  | .copperFastPeriod readings zoneMw shadow => Sys2Proof.Machine.execCopperFastPeriod readings zoneMw shadow s
  | .loopProgramRun l => Sys2Proof.Machine.execLoopProgramRun l s
  | .copperOutputPhase fast => Sys2Proof.Machine.execCopperOutputPhase fast s
  | .loopTableExit l => Sys2Proof.Machine.execLoopTableExit l s
  | .stepMarker next => Sys2Proof.Machine.execStepMarker next s
  | .rcMarkerTimeout z => Sys2Proof.Machine.execRcMarkerTimeout z s
  | .cleCommit => Sys2Proof.Machine.execCleCommit s
  | .cleCommitApply => Sys2Proof.Machine.execCleCommitApply s
  | .driveCommandFrame k f => Sys2Proof.Machine.execDriveCommandFrame k f s
  | .driveEcho f => Sys2Proof.Machine.execDriveEcho f s
  | .driveSafeTable ms => Sys2Proof.Machine.execDriveSafeTable ms s
  | .driveHoldTimer ms => Sys2Proof.Machine.execDriveHoldTimer ms s
  | .pullinStart v waitUs => Sys2Proof.Machine.execPullinStart v waitUs s
  | .pullinEnd v => Sys2Proof.Machine.execPullinEnd v s
  | .dutyCap v mj => Sys2Proof.Machine.execDutyCap v mj s
  | .dutyCapLift v mj => Sys2Proof.Machine.execDutyCapLift v mj s
  | .valveFault v code res ma => Sys2Proof.Machine.execValveFault v code res ma s
  | .valveRetry v => Sys2Proof.Machine.execValveRetry v s
  | .switchTrip k => Sys2Proof.Machine.execSwitchTrip k s
  | .switchRestart k => Sys2Proof.Machine.execSwitchRestart k s
  | .pumpKickSuccess p => Sys2Proof.Machine.execPumpKickSuccess p s
  | .pumpKickTimeout p => Sys2Proof.Machine.execPumpKickTimeout p s
  | .pumpRetryWaitEnd p => Sys2Proof.Machine.execPumpRetryWaitEnd p s
  | .pumpStall p => Sys2Proof.Machine.execPumpStall p s
  | .hallFault p => Sys2Proof.Machine.execHallFault p s
  | .hallRestore p => Sys2Proof.Machine.execHallRestore p s
  | .pumpEnableWrite p value => Sys2Proof.Machine.execPumpEnableWrite p value s
  | .pumpRetryWrite p => Sys2Proof.Machine.execPumpRetryWrite p s
  | .rateSweepTimeout p edges => Sys2Proof.Machine.execRateSweepTimeout p edges s
  | .brsWaitTimeout p => Sys2Proof.Machine.execBrsWaitTimeout p s
  | .rowFrameOther p frame => Sys2Proof.Machine.execRowFrameOther p frame s
  | .statusReq p frame => Sys2Proof.Machine.execStatusReq p frame s
  | .rowCommit => Sys2Proof.Machine.execRowCommit s
  | .frameTxDone p b => Sys2Proof.Machine.execFrameTxDone p b s
  | .frameTxError p b why => Sys2Proof.Machine.execFrameTxError p b why s
  | .busOffRecovery p => Sys2Proof.Machine.execBusOffRecovery p s
  | .urgentWaitTimeout p => Sys2Proof.Machine.execUrgentWaitTimeout p s
  | .rowStatusPeriodic => Sys2Proof.Machine.execRowStatusPeriodic s
  | .coolantAlarmRepeat => Sys2Proof.Machine.execCoolantAlarmRepeat s
  | .clashClr p => Sys2Proof.Machine.execClashClr p s
  | .txbCancel p b onBus => Sys2Proof.Machine.execTxbCancel p b onBus s
  | .imageConfirmTimer k => Sys2Proof.Machine.execImageConfirmTimer k s
  | .cskMark value => Sys2Proof.Machine.execCskMark value s
  | .cskRdSeq seq => Sys2Proof.Machine.execCskRdSeq seq s
  | .recordSeal seq => Sys2Proof.Machine.execRecordSeal seq s
  | .caskFlush => Sys2Proof.Machine.execCaskFlush s
  | .norWriteFail sector retryOk bad => Sys2Proof.Machine.execNorWriteFail sector retryOk bad s
  | .norTimeout => Sys2Proof.Machine.execNorTimeout s
  | .cskCommit => Sys2Proof.Machine.execCskCommit s
  | .caskRingErase => Sys2Proof.Machine.execCaskRingErase s
  | .pwrLoss => Sys2Proof.Machine.execPwrLoss s
  | .powerReturn => Sys2Proof.Machine.execPowerReturn s
  | .inputLow volt => Sys2Proof.Machine.execInputLow volt s
  | .inputHigh volt => Sys2Proof.Machine.execInputHigh volt s
  | .inputTrip => Sys2Proof.Machine.execInputTrip s
  | .inputRestored => Sys2Proof.Machine.execInputRestored s
  | .removeReqPin => Sys2Proof.Machine.execRemoveReqPin s
  | .modRemoveWrite => Sys2Proof.Machine.execModRemoveWrite s
  | .removalSyncEnd => Sys2Proof.Machine.execRemovalSyncEnd s
  | .removeReady => Sys2Proof.Machine.execRemoveReady s
  | .surpriseRemoval => Sys2Proof.Machine.execSurpriseRemoval s
  | .seatedReturn => Sys2Proof.Machine.execSeatedReturn s
  | .sliceStart kind unit => Sys2Proof.Machine.execSliceStart kind unit s
  | .sliceEnd kind unit pass bad => Sys2Proof.Machine.execSliceEnd kind unit pass bad s
  | .schedAging a => Sys2Proof.Machine.execSchedAging a s
  | .clusterAbsent c => Sys2Proof.Machine.execClusterAbsent c s
  | .clusterRemap l => Sys2Proof.Machine.execClusterRemap l s
  | .busIntegration p => Sys2Proof.Machine.execBusIntegration p s
  | .auxPowerLoss torn => Sys2Proof.Machine.execAuxPowerLoss torn s
  | .kilnEligible k => Sys2Proof.Machine.execKilnEligible k s

end Sys2Proof.Machine
end

