-- ==== Sys2Proof/Machine/Step.lean ====
section
/-!
DEFINITION. One step of the block: the command at the front of the queue, or an idle step (log entry 1); and the hook of the host's
table check, which puts the command of a table word in front.
-/

namespace Sys2Proof.Machine

/-- Take the command at the front of the queue and run it with the rest of the queue; idle on an empty queue (log entry 1). -/
def step (s : State) : Host.Outcome State Fault Refusal :=
  match s.pending with
  | [] => .next s
  | c :: rest => exec c { s with pending := rest }

/-- s with the command that a table word spells at the front of its queue; no row of the table gives bits, so s itself. -/
def State.withFetchWord (s : State) (nbits w : Nat) : State :=
  match Sys2Proof.decodeTableWord nbits w with
  | some c => { s with pending := c :: s.pending }
  | none => s

end Sys2Proof.Machine
end

