-- ==== Sys2Proof/WellFormed.lean ====
section
/-!
DEFINITION. Well-formed commands: operands that number a unit name one that the module has.
-/

namespace Sys2Proof

/-- Do the operands of a command name units of the module (R13, R16, R64, R101, R190, R234, R339, R362)? The environment sends
no other; a command that does changes nothing, or its operand is cut to its width (log entry 2). -/
def Instr.wf (i : Instr) : Bool :=
  match i with
  | .cfgRd _ | .cfgWr _ | .registerWrite _ _ | .loWordRead _ | .heldRwcWrite | .heldCommit | .memRd _ _ | .memWr _ _
  | .hmemAck _ | .hmemWrTimeout _ | .kilnAccessRelease | .kilnAccessTimeout | .auxPowerUp _ _ _ | .pressureReached
  | .pressureWaitTimeout | .pressureHoldEnd _ _ _ _ | .pressureTestRetry _ | .prechargeDone | .prechargeTimeout
  | .prechargeRetry | .bootFlowReady _ | .bootFlowTimeout | .bootStepTimeout | .refclkLoss | .clockTreeRestored
  | .domainFault _ | .remoteAckTimeout _ | .claimStopWrite _ | .completionRecord _ | .drainComplete
  | .drainLimitExpiry | .parkComplete | .operatingHourTick | .memCommit | .milCommit | .milOldSetRetired
  | .stgSignal _ | .remoteSignalSend _ | .controlCycle _ _ | .capHostWrite _ | .rackCfgWrite _ | .rackLeaseExpiry
  | .protectionFall _ _ _ | .capStatusPeriodic | .grbCommit | .ixfCommit | .mirWr _ _ | .mirAck _ | .summary _
  | .summaryTimeout | .ptnTrain _ | .ptnLinkDown _ | .ptnRetrainWrite | .ptnFenceClr | .ptnCommit | .partnerResync
  | .resyncBlockDone | .thlTrain _ | .thlRetrainWrite | .hostLinkLoss | .thlCommit | .getInfo | .getStatus
  | .configure _ _ | .imageUpdate _ _ _ | .memTest _ | .drain | .resume | .park | .unpark | .remove | .memAlloc
  | .memFree | .attest | .caskRead | .kilnHandover | .partnerQuery | .mbxLongComplete | .mbxCommandTimeout
  | .hostWatchdogExpiry | .hostHeartbeat | .evqConsWrite _ | .heldEventWrite | .actOwnClaim _ _ | .actOwnRelease _
  | .strobeTimeout | .holderReset | .standbyClaim _ | .staleClaim _ | .stateFrame _ _ | .healthWord _
  | .kilnWatchdog _ | .klnHandoverWrite _ | .handoverClaimTimeout | .klnRestartWrite _ | .kilnRestart _
  | .standbyLostTimer | .divergence _ | .protectConfirmTimeout | .noOwnerTimeout | .klnInvDataRead
  | .sensorSubstitute _ _ _ _ | .leakClearWrite _ | .condensation | .condensationClear | .flowLoss _
  | .flowLossQuiesce | .flowLossPowerDown | .flowReturned _ | .quiesceLifted | .coolantWarnRepeat | .overpressure _
  | .hotNClear | .copperFastPeriod _ _ _ | .copperOutputPhase _ | .stepMarker _ | .cleCommit | .cleCommitApply
  | .driveCommandFrame _ _ | .driveEcho _ | .driveSafeTable _ | .driveHoldTimer _ | .rowCommit | .rowStatusPeriodic
  | .coolantAlarmRepeat | .imageConfirmTimer _ | .cskMark _ | .cskRdSeq _ | .caskFlush | .norTimeout | .cskCommit
  | .caskRingErase | .pwrLoss | .powerReturn | .inputLow _ | .inputHigh _ | .inputTrip | .inputRestored
  | .removeReqPin | .modRemoveWrite | .removalSyncEnd | .removeReady | .surpriseRemoval | .seatedReturn
  | .sliceStart _ _ | .sliceEnd _ _ _ _ | .schedAging _ | .auxPowerLoss _ | .kilnEligible _ => true
  | .scalarOp c _ _ | .branch c _ | .ldsSts c _ _ | .illegalInstruction c _ | .fetchFault c _ | .tb c _
  | .tensorBlockStart c _ | .tensorBlockEnd c _ | .spillDone c _ | .tbwait c | .vop c _ _ | .copy c _ | .fill c _
  | .addF32 c _ | .post c _ | .dmaDeferredAccept c _ | .dmaBurstIssue c _ _ _ | .burstComplete c _ _ _ | .dmaRetire c
  | .creditIdleReturn c _ _ | .memBurstTimeout c _ _ | .linkCreditTimeout c _ | .dmawait c | .fence c | .claim c _
  | .done c | .step c _ | .cluSrSeedWrite c _ | .heldSeedLoad c | .cluHaltWrite c _ | .steepLendTimer c
  | .descriptorTimeout c | .gwait c | .gsignal c | .gbar c | .gbarWaitOnly c | .gtest c | .clusterAbsent c => decide (c < 832)
  | .claimServed ring _ | .ringProdWrite ring _ _ | .ringConsWrite ring _ | .ringEnableWrite ring _
  | .ringCancel ring | .cancelRecord ring | .ringCommit ring | .postNumberClaimable ring | .ringStall ring => decide (ring < 512)
  | .patrolScrub k lch _ _ _ | .selfRefreshEntry k lch | .selfRefreshExit k lch | .dqsTrack k lch _
  | .spareStartWrite k lch | .channelUnresponsive k lch _ => decide (k < 20 ∧ lch < 128)
  | .refreshRateRise k | .refreshRateFall k | .sparingStart k | .sparingCopyDone k _ | .stackHotEscalate k => decide (k < 20)
  | .barrierFlipCascade g | .gateCommit g | .gateReset g => decide (g < 2 ^ 16)
  | .mint n _ _ | .grainGrant n | .brakeHold n _ | .hotSpotLimiter n _ _ | .dieHotTimeout n | .dieCapStale n
  | .leakSuspected n _ | .leakSuspectEnd n | .leak n _ => decide (n < 4)
  | .rackCap p _ | .pumpKickSuccess p | .pumpKickTimeout p | .pumpRetryWaitEnd p | .pumpStall p | .hallFault p
  | .hallRestore p | .pumpEnableWrite p _ | .pumpRetryWrite p | .rateSweepTimeout p _ | .brsWaitTimeout p
  | .rowFrameOther p _ | .statusReq p _ | .busOffRecovery p | .urgentWaitTimeout p | .clashClr p | .busIntegration p => decide (p < 2)
  | .portTrain k _ | .portRetrainWrite k | .portEnableWrite k _ | .portParkWrite k _ => decide (k < 12)
  | .trainRetryTimer k | .flitReceive k _ _ | .portRetrain k | .laneLoss k _ => decide (k < 14)
  | .wrMem k _ _ | .wrClu k _ | .addClu k _ _ | .rdMem k _ _ | .rdClu k _ _ | .rdRsp k _ _ | .wrAck k _ | .sig k _
  | .sigAck k _ | .collReady k _ _ | .collData k _ _ | .collAck k _ | .noticeDown k _ | .noticeUp k _
  | .noticeUnreach k _ | .noticeParked k _ => decide (k < 13)
  | .hashSetResume x | .fenceClr x | .reachQuery x => decide (x < 2 ^ 14)
  | .collStart ch _ | .collComplete ch | .collTimeout ch => decide (ch < 16)
  | .irqHoldoffExpiry v => decide (v < 4)
  | .dieHbStall d _ | .dieHbFail d _ | .dieFatal d _ | .dieCe d => decide (d < 5)
  | .sensorRestore id | .sensorDisagree id _ | .disagreeClear id | .sensQuery id => decide (id < 2 ^ 16)
  | .modelSuspectEnd z | .rcMarkerTimeout z => decide (z < 8)
  | .coolantWarn bit | .coolantWarnClear bit => decide (bit < 8)
  | .hotN d _ => decide (d < 4)
  | .loopProgramRun l | .loopTableExit l => decide (l < 32)
  | .pullinStart v _ | .pullinEnd v | .dutyCap v _ | .dutyCapLift v _ | .valveFault v _ _ _ | .valveRetry v => decide (v < 8)
  | .switchTrip k | .switchRestart k => decide (k < 4)
  | .frameTxDone p b | .frameTxError p b _ | .txbCancel p b _ => decide (p < 2 ∧ b < 3)
  | .recordSeal seq => decide (seq < 2 ^ 32)
  | .norWriteFail sector _ _ => decide (sector < 128)
  | .clusterRemap l => decide (l < 800)

end Sys2Proof
end

