-- ==== Sys2Proof/Safety.lean ====
section
/-!
DEFINITION. What claims about runs are made of: the canonical forms of the state, and what a safe step is.
-/

namespace Sys2Proof.Machine

/-- Memory in its canonical form: the addresses of the bytes that have been written, strictly rising. An unlisted byte reads as a
free value (log entry 8), which no entry can be told equal to. -/
abbrev Memory.wf (m : List Host.Cell) : Bool := SMap.wf m

/-- The canonical forms of the state: keys of the register maps, of the committed values and of memory strictly rising. -/
def State.wf (s : State) : Bool := SMap.wf s.regs && SMap.wf s.live && Memory.wf s.mem.cells

/-- Every listed value of a register field fits the field's width, visible and in force: no bit outside a field is ever held. -/
def State.fits (s : State) : Prop :=
  ∀ f i v, ((Fld.key f i, v) ∈ s.regs ∨ (Fld.key f i, v) ∈ s.live) → v < 2 ^ f.width

/-- No domain is on while the one that it depends on is off (R20). -/
def State.supplyOk (s : State) : Prop := ∀ d, s.isOn d = true → s.supplied d = true

/-- A step is safe when the block goes on: it neither faults nor refuses. -/
def safeStep (s : State) : Prop := ∃ t, step s = .next t

/-! ### When a command has its own effect -/

/-- The cluster issues the instruction at its program counter: it fetches, holds its reserve, and fetches inside its store
(R57, R163). -/
def State.issues (s : State) (c : Nat) : Bool := s.fetching c && s.reserveOk c && s.fetchIn c

/-- A packet of type t is taken off port k and acted on: the link is UP, the packet well formed, its sender not fenced (R201,
R209, R224). -/
def State.takesPkt (s : State) (k t : Nat) (p : Pkt) : Bool :=
  s.portUp k && s.pktOk k t p && !s.fencedPkt k p

/-- The doorbell is accepted while THL_MBX_CMD holds this valid command and a Kiln is in control (R241). -/
def State.mbxTakes (s : State) (op : Nat) : Bool :=
  s.isOn .iod && (s.getF (.thl .mbxStateState) == 0 || s.getF (.thl .mbxStateState) == 3) && s.mbxParam 1 1 == op &&
    s.mbxBegun.kilnActs && s.mbxBegun.mbxValid

/-! ### What a command may reach: the commands that do not stand in a list leave that part of the module alone -/

/-- The commands whose meaning can change bytes of the module's memory: by storing, or by a loss of the stacks or a change of the die map. Commands that serve host accesses held meanwhile (R239) are among them. -/
def reachesMemory : Instr → Bool
  | .cfgRd .. => true
  | .cfgWr .. => true
  | .registerWrite .. => true
  | .heldRwcWrite .. => true
  | .heldCommit .. => true
  | .memRd .. => true
  | .memWr .. => true
  | .kilnAccessRelease .. => true
  | .kilnAccessTimeout .. => true
  | .auxPowerUp .. => true
  | .prechargeDone .. => true
  | .bootFlowReady .. => true
  | .refclkLoss .. => true
  | .clockTreeRestored .. => true
  | .domainFault .. => true
  | .dmaBurstIssue .. => true
  | .burstComplete .. => true
  | .creditIdleReturn .. => true
  | .memBurstTimeout .. => true
  | .remoteAckTimeout .. => true
  | .claim .. => true
  | .claimServed .. => true
  | .ringProdWrite .. => true
  | .ringConsWrite .. => true
  | .ringEnableWrite .. => true
  | .cancelRecord .. => true
  | .postNumberClaimable .. => true
  | .completionRecord .. => true
  | .ringStall .. => true
  | .parkComplete .. => true
  | .patrolScrub .. => true
  | .memCommit .. => true
  | .controlCycle .. => true
  | .flitReceive .. => true
  | .portRetrain .. => true
  | .laneLoss .. => true
  | .portRetrainWrite .. => true
  | .portEnableWrite .. => true
  | .portParkWrite .. => true
  | .wrMem .. => true
  | .wrClu .. => true
  | .addClu .. => true
  | .rdMem .. => true
  | .rdClu .. => true
  | .rdRsp .. => true
  | .sig .. => true
  | .collReady .. => true
  | .collData .. => true
  | .collAck .. => true
  | .noticeDown .. => true
  | .noticeUp .. => true
  | .noticeUnreach .. => true
  | .noticeParked .. => true
  | .fenceClr .. => true
  | .collStart .. => true
  | .collComplete .. => true
  | .collTimeout .. => true
  | .mirWr .. => true
  | .summary .. => true
  | .ptnLinkDown .. => true
  | .ptnRetrainWrite .. => true
  | .partnerResync .. => true
  | .hostLinkLoss .. => true
  | .getInfo .. => true
  | .getStatus .. => true
  | .configure .. => true
  | .imageUpdate .. => true
  | .memTest .. => true
  | .drain .. => true
  | .resume .. => true
  | .park .. => true
  | .unpark .. => true
  | .remove .. => true
  | .memAlloc .. => true
  | .memFree .. => true
  | .attest .. => true
  | .caskRead .. => true
  | .kilnHandover .. => true
  | .partnerQuery .. => true
  | .mbxLongComplete .. => true
  | .actOwnClaim .. => true
  | .standbyClaim .. => true
  | .staleClaim .. => true
  | .noOwnerTimeout .. => true
  | .dieHbStall .. => true
  | .dieHbFail .. => true
  | .dieFatal .. => true
  | .leak .. => true
  | .flowLossQuiesce .. => true
  | .flowLossPowerDown .. => true
  | .flowReturned .. => true
  | .hotN .. => true
  | .pwrLoss .. => true
  | .inputTrip .. => true
  | .removalSyncEnd .. => true
  | .auxPowerLoss .. => true
  | .kilnEligible .. => true
  | _ => false

/-- The commands whose meaning can turn a power domain on or off. Commands that serve host accesses held meanwhile (R239) are among them. -/
def reachesDomains : Instr → Bool
  | .cfgRd .. => true
  | .cfgWr .. => true
  | .registerWrite .. => true
  | .heldRwcWrite .. => true
  | .heldCommit .. => true
  | .memRd .. => true
  | .memWr .. => true
  | .kilnAccessRelease .. => true
  | .kilnAccessTimeout .. => true
  | .auxPowerUp .. => true
  | .prechargeDone .. => true
  | .bootFlowReady .. => true
  | .refclkLoss .. => true
  | .clockTreeRestored .. => true
  | .domainFault .. => true
  | .parkComplete .. => true
  | .controlCycle .. => true
  | .flitReceive .. => true
  | .portParkWrite .. => true
  | .getInfo .. => true
  | .getStatus .. => true
  | .configure .. => true
  | .imageUpdate .. => true
  | .memTest .. => true
  | .drain .. => true
  | .resume .. => true
  | .park .. => true
  | .unpark .. => true
  | .remove .. => true
  | .memAlloc .. => true
  | .memFree .. => true
  | .attest .. => true
  | .caskRead .. => true
  | .kilnHandover .. => true
  | .partnerQuery .. => true
  | .mbxLongComplete .. => true
  | .dieHbStall .. => true
  | .dieHbFail .. => true
  | .dieFatal .. => true
  | .flowLossPowerDown .. => true
  | .flowReturned .. => true
  | .pwrLoss .. => true
  | .inputTrip .. => true
  | .removalSyncEnd .. => true
  | .auxPowerLoss .. => true
  | _ => false

/-- The commands whose meaning can change a value in force: by a commit (R7), or by the reset of a domain. Commands that serve host accesses held meanwhile (R239) are among them. -/
def reachesLive : Instr → Bool
  | .cfgRd .. => true
  | .cfgWr .. => true
  | .registerWrite .. => true
  | .heldRwcWrite .. => true
  | .heldCommit .. => true
  | .memRd .. => true
  | .memWr .. => true
  | .kilnAccessRelease .. => true
  | .kilnAccessTimeout .. => true
  | .auxPowerUp .. => true
  | .prechargeDone .. => true
  | .bootFlowReady .. => true
  | .refclkLoss .. => true
  | .clockTreeRestored .. => true
  | .domainFault .. => true
  | .ringCommit .. => true
  | .memCommit .. => true
  | .milCommit .. => true
  | .gateCommit .. => true
  | .mint .. => true
  | .controlCycle .. => true
  | .flitReceive .. => true
  | .ixfCommit .. => true
  | .ptnCommit .. => true
  | .thlCommit .. => true
  | .getInfo .. => true
  | .getStatus .. => true
  | .configure .. => true
  | .imageUpdate .. => true
  | .memTest .. => true
  | .drain .. => true
  | .resume .. => true
  | .park .. => true
  | .unpark .. => true
  | .remove .. => true
  | .memAlloc .. => true
  | .memFree .. => true
  | .attest .. => true
  | .caskRead .. => true
  | .kilnHandover .. => true
  | .partnerQuery .. => true
  | .mbxLongComplete .. => true
  | .dieHbStall .. => true
  | .dieHbFail .. => true
  | .dieFatal .. => true
  | .flowLossPowerDown .. => true
  | .flowReturned .. => true
  | .cleCommitApply .. => true
  | .rowCommit .. => true
  | .cskCommit .. => true
  | .pwrLoss .. => true
  | .inputTrip .. => true
  | .removalSyncEnd .. => true
  | .auxPowerLoss .. => true
  | _ => false

/-- The commands whose meaning can change the holder of the interlock. Commands that serve host accesses held meanwhile (R239) are among them. -/
def reachesOwner : Instr → Bool
  | .auxPowerUp .. => true
  | .domainFault .. => true
  | .controlCycle .. => true
  | .actOwnClaim .. => true
  | .actOwnRelease .. => true
  | .strobeTimeout .. => true
  | .holderReset .. => true
  | .standbyClaim .. => true
  | .staleClaim .. => true
  | .kilnWatchdog .. => true
  | .handoverClaimTimeout .. => true
  | .auxPowerLoss .. => true
  | .kilnEligible .. => true
  | _ => false

/-- The commands whose meaning can program the one-time-programmable memory. Commands that serve host accesses held meanwhile (R239) are among them. -/
def reachesOtp : Instr → Bool
  | .cfgRd .. => true
  | .cfgWr .. => true
  | .registerWrite .. => true
  | .heldRwcWrite .. => true
  | .heldCommit .. => true
  | .memRd .. => true
  | .memWr .. => true
  | .kilnAccessRelease .. => true
  | .kilnAccessTimeout .. => true
  | .prechargeDone .. => true
  | .clockTreeRestored .. => true
  | .flitReceive .. => true
  | .getInfo .. => true
  | .getStatus .. => true
  | .configure .. => true
  | .imageUpdate .. => true
  | .memTest .. => true
  | .drain .. => true
  | .resume .. => true
  | .park .. => true
  | .unpark .. => true
  | .remove .. => true
  | .memAlloc .. => true
  | .memFree .. => true
  | .attest .. => true
  | .caskRead .. => true
  | .kilnHandover .. => true
  | .partnerQuery .. => true
  | _ => false

end Sys2Proof.Machine
end

