-- ==== Sys2Proof/Certificates/Slice0/Obligations.lean ====
section
/-!
DEFINITION. What is claimed of the module, for the provers: the rules of the whole machine first, then, family by family, that every
command answers a next state and which.
-/

open Sys2Proof Sys2Proof.Machine

/-- The block runs the command at the front of its queue on the state with the rest of the queue. The queue is the model's form of
the commands that come from outside (log entry 1). -/
def Obligations.StepRunsTheFrontCommand : Prop :=
  ∀ (s : State) (c : Instr) (rest : List Instr), s.pending = c :: rest → step s = exec c { s with pending := rest }

/-- With no command waiting the block idles (the model's choice, log entry 1). -/
def Obligations.EmptyQueueIdles : Prop :=
  ∀ s : State, s.pending = [] → step s = .next s

/-- A step takes exactly one command off the front of the queue, and no command's effect touches the queue (log entry 1). -/
def Obligations.StepTakesOneCommand : Prop :=
  (∀ s t : State, step s = .next t → t.pending = s.pending.tail) ∧
  ∀ (c : Instr) (s t : State), exec c s = .next t → t.pending = s.pending

/-- No command stops the block: in every state each step has a next state. The spec gives no command an undefined effect. -/
def Obligations.NoCommandStopsTheBlock : Prop :=
  (∀ s : State, safeStep s) ∧ ∀ (c : Instr) (s : State), ∃ t, exec c s = .next t

/-- The reset state is in its canonical forms, holds only values that fit their fields, and has no domain on without the one that it
depends on. -/
def Obligations.ResetMeetsTheInvariant : Prop :=
  State.reset.wf = true ∧ State.reset.fits ∧ State.reset.supplyOk ∧ State.reset.cask.perm.length ≤ 1024 ∧
    State.reset.power.on = [] ∧ State.reset.pending = []

/-- Every step keeps the invariant: canonical maps and memory, every register field (visible and in force) within its width, so that
reserved bits stay clear (R8), no domain on without the one it depends on (R20), and at most 1,024 permanent Cask records (R411). -/
def Obligations.EveryStepKeepsTheInvariant : Prop :=
  ∀ s t : State, s.wf = true → s.fits → s.supplyOk → s.cask.perm.length ≤ 1024 → step s = .next t →
    t.wf = true ∧ t.fits ∧ t.supplyOk ∧ t.cask.perm.length ≤ 1024

/-- A generation of the one-time-programmable memory that has been written is never changed again (R391, R399), whatever runs; and a
command outside the list of Safety leaves all of that memory alone. -/
def Obligations.WrittenGenerationsStay : Prop :=
  (∀ (s t : State) (g : Nat), step s = .next t → s.otpWritten g = true → t.otpGen g = s.otpGen g ∧ t.otpWritten g = true) ∧
  ∀ (c : Instr) (s t : State), reachesOtp c = false → exec c s = .next t → t.sec.otp = s.sec.otp

/-- The permanent area of the Cask only grows at its end, and never beyond 1,024 records (R411, R414). -/
def Obligations.PermanentRecordsOnlyGrow : Prop :=
  ∀ s t : State, step s = .next t →
    s.cask.perm <+: t.cask.perm ∧ (s.cask.perm.length ≤ 1024 → t.cask.perm.length ≤ 1024)

/-- The serial number, the identity key and the ordering code stay (R1, R276, R398); operating hours and power cycles never fall
(R404). -/
def Obligations.IdentityStaysAndCountsGrow : Prop :=
  ∀ s t : State, step s = .next t →
    t.sec.serial = s.sec.serial ∧ t.sec.identSeed = s.sec.identSeed ∧ t.sec.orderP = s.sec.orderP ∧
      s.power.opHours ≤ t.power.opHours ∧ s.power.powerCycles ≤ t.power.powerCycles

/-- Frame over the whole table: a command outside the list of Safety changes no byte of module memory. Where it also leaves the values
in force alone, every address of memory reads as before. -/
def Obligations.MemoryIsLeftAlone : Prop :=
  ∀ (c : Instr) (s t : State), reachesMemory c = false → exec c s = .next t →
    t.mem.cells = s.mem.cells ∧ t.mem.epochs = s.mem.epochs ∧
      (reachesLive c = false → ∀ a, t.memByte a = s.memByte a)

/-- Frame over the whole table: a command outside the list of Safety turns no power domain on or off. -/
def Obligations.DomainsAreLeftAlone : Prop :=
  ∀ (c : Instr) (s t : State), reachesDomains c = false → exec c s = .next t → ∀ d, t.isOn d = s.isOn d

/-- Frame over the whole table: the values in force change only by a commit, a power-up or a power loss (R7); a command outside the list
of Safety leaves them all. -/
def Obligations.ValuesInForceAreLeftAlone : Prop :=
  ∀ (c : Instr) (s t : State), reachesLive c = false → exec c s = .next t → ∀ f i, t.getLive f i = s.getLive f i

/-- Frame over the whole table: only the commands listed in Safety change the holder of ACT_OWN (R254). -/
def Obligations.HolderIsLeftAlone : Prop :=
  ∀ (c : Instr) (s t : State), reachesOwner c = false → exec c s = .next t → t.active = s.active

/-- Frame of the instructions of a sequencer that work inside their cluster: no other cluster, no register field of another unit, no
memory, no domain and no value in force changes. -/
def Obligations.SequencerStaysInItsCluster : Prop :=
  ∀ (c : Nat) (fn : ScalarFn) (im : Bool) (cond : BranchCond), ∀ i ∈ [Instr.scalarOp c fn im, .branch c cond, .tbwait c, .dmawait c, .fence c],
    ∀ s t : State, exec i s = .next t →
      (∀ d, d ≠ c → t.cl d = s.cl d) ∧
      (∀ f j, (∀ x, f = .clu x → j ≠ c) → t.getF f j = s.getF f j) ∧
      (∀ f j, t.getLive f j = s.getLive f j) ∧ t.mem = s.mem ∧ t.power = s.power ∧ t.wiq = s.wiq ∧ t.grn = s.grn ∧
      t.gates = s.gates ∧ t.ixf = s.ixf ∧ t.thl = s.thl ∧ t.cask = s.cask ∧
      (∀ a, (t.cl c).store.get? a = (s.cl c).store.get? a)

/-- A cluster without reserve, or in HOLD, issues nothing: it steeps with cause 4, and its program counter, registers and reserve stay
(R163, R167). -/
def Obligations.NoReserveSteeps : Prop :=
  ∀ (c : Nat) (fn : ScalarFn) (b : Bool) (cond : BranchCond) (e : StoreEcc) (m : List MemEcc) (op : VecOp), ∀ i ∈ [Instr.scalarOp c fn b,
      .branch c cond, .ldsSts c b e, .illegalInstruction c b, .tb c e, .tbwait c, .vop c op e, .copy c e, .fill c e, .addF32 c e,
      .post c e, .dmawait c, .fence c, .claim c m, .done c, .step c b, .gwait c, .gsignal c, .gbar c, .gbarWaitOnly c, .gtest c],
    ∀ s : State, s.fetching c = true → s.reserveOk c = false → ∃ t, exec i s = .next t ∧
      t.getF (.clu .statusSteeping) c = 1 ∧ t.getF (.clu .statusSteepCause) c = 4 ∧
      t.cl c = { s.cl c with wait := some .reserve } ∧ (∀ d, d ≠ c → t.cl d = s.cl d) ∧ t.mem = s.mem ∧ t.grn = s.grn

/-- R171, whole: the register keeps the value written; it is taken as 700 W below that and as the ceiling above it, and HOST_CLAMPED shows
that, with the event bit set; the reset value 0xFFFF is taken as the ceiling. -/
def Obligations.HostCapIsClamped : Prop :=
  (∀ (s : State) (v : Word) (w : Nat), s.isOn .aux = true → 700 ≤ s.ceilingW → w = v.toNat % 2 ^ 16 → ∃ t,
    exec (.capHostWrite v) s = .next t ∧ t.getF (.grb .capHostCapW) = w ∧ t.ceilingW = s.ceilingW ∧
    (w < 700 → t.hostCapW = 700 ∧ t.flag (.grb .capStatusHostClamped) = true ∧ t.flag (.grb .evtHostClamped) = true) ∧
    (s.ceilingW < w → t.hostCapW = s.ceilingW ∧ t.flag (.grb .capStatusHostClamped) = true ∧
      t.flag (.grb .evtHostClamped) = true) ∧
    (700 ≤ w → w ≤ s.ceilingW → t.hostCapW = w ∧ t.flag (.grb .capStatusHostClamped) = false)) ∧
  State.reset.getF (.grb .capHostCapW) = 0xFFFF ∧
  ∀ s : State, s.getF (.grb .capHostCapW) = 0xFFFF → s.ceilingW ≤ 0xFFFF → s.hostCapW = s.ceilingW

/-- R75, whole: DONE takes the status from SRCA[7:0]; 0x00, 0x04, 0x05 and 0x80 to 0xFF are recorded as given, any other value as
BAD_STATUS; the prefetched token becomes current; without a token DONE is ignored: only the program counter moves on. -/
def Obligations.DoneRecordsItsStatus : Prop :=
  (∀ (s : State) (c w : Nat) (k : Token) (l : List Token), s.issues c = true → s.fetchWord c = w → opc w = 0xA1 →
    (s.cl c).tokens = k :: l → ∃ t e, exec (.done c) s = .next t ∧ t.wiq.completions = s.wiq.completions ++ [e] ∧
      e.ring = k.ring ∧ e.seq = k.seq ∧ e.tag = k.tag ∧ (t.cl c).tokens = l ∧ (t.cl c).pc = (s.cl c).pc + 8 ∧
      (let v := s.sreg c (srcA w) % 2 ^ 8
       (v = 0x00 ∨ v = 0x04 ∨ v = 0x05 ∨ 0x80 ≤ v → e.status = v) ∧
       (v ≠ 0x00 → v ≠ 0x04 → v ≠ 0x05 → v < 0x80 → e.status = 0x0A))) ∧
  ∀ (s : State) (c : Nat), s.issues c = true → opc (s.fetchWord c) = 0xA1 → (s.cl c).tokens = [] →
    exec (.done c) s = .next (s.nextPc c)

/-- R63 and the load of R54: a write of CLU_SR_SEED_HI loads the generator, with 0 replaced; while an SR spill is in progress the
generator and the spills stay as they are and the seed is held; it is loaded once no such spill is left, and a spill that was begun
meanwhile draws from it. -/
def Obligations.SeedWriteWaitsForTheSpill : Prop :=
  (∀ (s : State) (c : Nat) (v : Word), s.cluWrites c = true → ∃ t, exec (.cluSrSeedWrite c v) s = .next t ∧
    (let seed := v.toNat * 2 ^ 32 + s.getF (.clu .srSeedLoSeedLo) c
     ((s.cl c).spills.any Spill.drawing = false → (∀ x ∈ (s.cl c).spills, x.ready = true) →
       (t.cl c).gen = (if seed = 0 then 0x9E3779B97F4A7C15 else seed) ∧ (t.cl c).heldSeed = none ∧
         (t.cl c).spills = (s.cl c).spills) ∧
     ((s.cl c).spills.any Spill.drawing = true → (t.cl c).gen = (s.cl c).gen ∧ (t.cl c).heldSeed = some seed ∧
       (t.cl c).spills = (s.cl c).spills))) ∧
  (∀ (s : State) (c : Nat), (s.cl c).spills.any Spill.drawing = true → exec (.heldSeedLoad c) s = .next s) ∧
  (∀ (s : State) (c n : Nat), (s.cl c).spills.any Spill.drawing = false → (∀ x ∈ (s.cl c).spills, x.ready = true) →
    (s.cl c).heldSeed = some n → ∃ t, exec (.heldSeedLoad c) s = .next t ∧ (t.cl c).heldSeed = none ∧
      (t.cl c).gen = (if n = 0 then 0x9E3779B97F4A7C15 else n) ∧ (t.cl c).spills = (s.cl c).spills) ∧
  ∀ (s : State) (c n : Nat) (x : Spill), (s.cl c).spills = [x] → x.ready = false → (s.cl c).heldSeed = some n →
    ∃ t, exec (.heldSeedLoad c) s = .next t ∧ (t.cl c).heldSeed = none ∧
      (t.cl c).spills = [{ x with gen := some (if n = 0 then 0x9E3779B97F4A7C15 else n) }]

/-- Signals at a counting gate nobody waits on (R139): the count rises to at most 255, a sum above 255 sets OVF, OVF stays set, and the
other gates stay as they are; a signal to a disabled gate or to a barrier moves no count and is recorded in STG_ERR; INC = 0 has no
effect (R158). -/
def Obligations.SignalsAddAndSaturate : Prop :=
  (∀ (s : State) (v : Word) (g inc : Nat), s.isOn .iod = true → g = bits v.toNat 15 0 → inc = bits v.toNat 23 16 → validGate g = true →
    s.gateOn g = true → s.isBarrier g = false → s.gateQueue g = [] → s.gateCount g ≤ 255 → ∃ t, exec (.stgSignal v) s = .next t ∧
      t.gateCount g = min 255 (s.gateCount g + inc) ∧
      (255 < s.gateCount g + inc → t.getF (.stg .gateStateOvf) g = 1) ∧
      (s.gateCount g + inc ≤ 255 → t.getF (.stg .gateStateOvf) g = s.getF (.stg .gateStateOvf) g) ∧
      (∀ h, h ≠ g → t.gateCount h = s.gateCount h) ∧ t.clu = s.clu) ∧
  (∀ (s : State) (v : Word), s.isOn .iod = true → bits v.toNat 23 16 = 0 → exec (.stgSignal v) s = .next s) ∧
  ∀ (s : State) (v : Word) (g : Nat), s.isOn .iod = true → g = bits v.toNat 15 0 → validGate g = true →
    bits v.toNat 23 16 ≠ 0 → s.gateOn g = false ∨ s.isBarrier g = true → ∃ t, exec (.stgSignal v) s = .next t ∧ (∀ h, t.gateCount h = s.gateCount h) ∧
      t.getF (.stg .errIdGateId) = g ∧ t.clu = s.clu ∧ t.gates = s.gates

/-- A mint adds what the die's cap gives in 10 µs, in units of 2^-16 grain, up to BANK_MAX; the rest lapses; a pool above BANK_MAX keeps
what it holds (R161, R165). The base charge of the period is settled first (R162). A set of the grain block that waits for the mint comes
into force before it (R188). Other dies stay as they are. -/
def Obligations.MintAddsTheDieCap : Prop :=
  ∀ (s : State) (n : Nat) (meters : List (Nat × Nat)) (rail : Nat), n < 4 → s.isOn (.core n) = true →
    ∃ t, exec (.mint n meters rail) s = .next t ∧
      (let u := s.takeGrbSet
       let m : Nat := (u.die n).capUw * 2 ^ 16 / 10 ^ 8
       let p : Int := (u.die n).pool - ((rail : Int) - ((u.chargeMeters n meters).die n).spent)
       let bank : Nat := u.getLive (.grb .bankMaxGrains) * 2 ^ 16
       (s.grn.setWaits = false → u = s) ∧ (t.die n).minted = m ∧ (t.die n).spent = 0 ∧ (t.die n).hold = false ∧
       (p + m ≤ bank → (t.die n).pool = p + m ∧ (t.die n).lapsed = (u.die n).lapsed) ∧
       ((bank : Int) < p + m → (t.die n).pool = max p bank ∧
         ((t.die n).lapsed : Int) = (u.die n).lapsed + (p + m - max p bank)) ∧
       ∀ d, d ≠ n → t.die d = u.die d)

/-- A read of the low word of a 64-bit quantity latches its high word, and the next read of the high word gives that value, whatever the
registers hold by then (R9). -/
def Obligations.HighWordIsLatched : Prop :=
  ∀ (s : State) (a : Word), a.toNat % 4 = 0 → isLoAddr a.toNat = true → blockOf (a.toNat + 4) = blockOf a.toNat →
    (blockOf a.toNat).isSome = true → ∃ t, exec (.loWordRead a) s = .next t ∧ t.regs = s.regs ∧
      (t.readReg (a.toNat + 4)).1 = s.peek (a.toNat + 4) ∧
      (∀ f i v, ((t.setF f i v).readReg (a.toNat + 4)).1 = s.peek (a.toNat + 4))

/-- A commit of the Mill set while its block is BUSY is held; while the block stays BUSY it goes on waiting; then it commits the shadow set as it
stands at that moment (R475, R129). -/
def Obligations.HeldCommitWaits : Prop :=
  (∀ s : State, s.isOn .iod = true → s.flag (.mil .commitStatusBusy) = true → (7 ∈ s.heldCommits → exec .milCommit s = .next s) ∧
    (7 ∉ s.heldCommits → exec .milCommit s = .next { s with heldCommits := s.heldCommits ++ [7] })) ∧
  (∀ s : State, s.heldCommits = [7] → s.flag (.mil .commitStatusBusy) = true → exec .heldCommit s = .next s.serveHeld) ∧
  (∀ s : State, s.heldCommits = [7] → s.flag (.mil .commitStatusBusy) = false →
    exec .heldCommit s = .next ({ s with heldCommits := [] } : State).commitMil.serveHeld) ∧
  ∀ s : State, s.thl.held = [] → s.serveHeld = s

/-- The interlock (R254): from NONE a claim of one Kiln gives it ACT_OWN, of both the one that did not hold it last, KA at first; a release
or a missed strobe leads to NONE; a claim while a Kiln holds ACT_OWN changes nothing. -/
def Obligations.InterlockTable : Prop :=
  (∀ s : State, s.canTake .ka = true → ∃ t, exec (.actOwnClaim true false) s = .next t ∧ t.active = some .ka) ∧
  (∀ s : State, s.canTake .kb = true → ∃ t, exec (.actOwnClaim false true) s = .next t ∧ t.active = some .kb) ∧
  (∀ s : State, s.canTake .ka = true → s.canTake .kb = true → ∃ t, exec (.actOwnClaim true true) s = .next t ∧
    t.active = if s.kln.lastOwner = some .ka then some .kb else some .ka) ∧
  (∀ (s : State) (k : Kiln), s.active = some k → ∃ t, exec (.actOwnRelease k) s = .next t ∧ t.active = none) ∧
  (∀ s : State, s.active.isSome = true → ∃ t, exec .strobeTimeout s = .next t ∧ t.active = none) ∧
  ∀ (s : State) (a b : Bool), s.active.isSome = true → exec (.actOwnClaim a b) s = .next s

/-- Register accesses of the host that are misaligned or do not name all four bytes get status 0x10, wherever they lie; aligned ones
outside every block get 0x11; the response holds data 0, and nothing but the state of the links changes (R3, R4, R237). A misaligned
write of the Kiln has no effect either. -/
def Obligations.BadAccessesAreAnswered : Prop :=
  (∀ (s : State) (p : Pkt) (st : Nat), s.linkLive 13 = true → s.thl.held = [] →
    ((p.addr % 2 ^ 32 % 4 ≠ 0 ∨ p.aux % 16 ≠ 0xF) ∧ st = 0x10 ∨
      p.addr % 2 ^ 32 % 4 = 0 ∧ p.aux % 16 = 0xF ∧ blockOf (p.addr % 2 ^ 32) = none ∧ st = 0x11) →
    ∃ t, t = (s.sendHost (cfgRsp p.tag st 0)).leaveBuffer 13 p ∧ t = { s with lnk := t.lnk } ∧
      (hostOk 0x30 p 0 = true → exec (.cfgRd p) s = .next t) ∧ (hostOk 0x31 p 1 = true → exec (.cfgWr p) s = .next t)) ∧
  ∀ (s : State) (a d : Word), a.toNat % 4 ≠ 0 → exec (.registerWrite a d) s = .next s

/-- A fault that removes a domain leaves it off, with every domain that depends on it, and turns none on (R20). -/
def Obligations.DomainFaultTakesDependants : Prop :=
  ∀ (s : State) (d : Domain), s.supplyOk → s.isOn d = true → ∃ t, exec (.domainFault d) s = .next t ∧ t.isOn d = false ∧
    (∀ e, domainUnder e d = true → t.isOn e = false) ∧ ∀ e, t.isOn e = true → s.isOn e = true

/-! ### Every command completes -/

/-- A register access of the host is served at once, answered with the status of its refusal, or held where it has to wait (R7, R123, R237); a memory
access is served or refused, its answer waiting for the mirror where that must acknowledge first, or it is held; a register write and a read of a
low word act. Each clause names one command, what it asks of the state and the operands, and the next state. -/
def Obligations.HostAccessesComplete : Prop :=
  (∀ (s : State) (p : Pkt), s.linkLive 13 = true → hostOk 0x30 p 0 = true → s.thl.held = [] → s.reqWaits p = false →
    cfgRefusal (cfgAddr p) (cfgBe p) = 0 →
    exec (.cfgRd p) s = .next (((s.readReg (cfgAddr p)).2.sendHost (cfgRsp p.tag 0 (s.readReg (cfgAddr p)).1)).leaveBuffer 13 p)) ∧
  (∀ (s : State) (p : Pkt) (st : Nat), s.linkLive 13 = true → hostOk 0x30 p 0 = true → s.thl.held = [] → s.reqWaits p = false → st ≠ 0 →
    cfgRefusal (cfgAddr p) (cfgBe p) = st → exec (.cfgRd p) s = .next ((s.sendHost (cfgRsp p.tag st 0)).leaveBuffer 13 p)) ∧
  (∀ (s : State) (p : Pkt), s.linkLive 13 = true → hostOk 0x30 p 0 = true → s.thl.held = [] → s.reqWaits p = true →
    exec (.cfgRd p) s = .next ({ s with thl := { s.thl with held := [⟨p, []⟩] } })) ∧
  (∀ (s : State) (p : Pkt), s.linkLive 13 = true → hostOk 0x31 p 1 = true → s.thl.held = [] → s.reqWaits p = false →
    cfgRefusal (cfgAddr p) (cfgBe p) = 0 → s.configLocks (cfgAddr p) = false →
    exec (.cfgWr p) s = .next (((s.writeReg (cfgAddr p) (cfgData p)).sendHost (cfgRsp p.tag 0 0)).leaveBuffer 13 p)) ∧
  (∀ (s : State) (p : Pkt) (st : Nat), s.linkLive 13 = true → hostOk 0x31 p 1 = true → s.thl.held = [] → s.reqWaits p = false → st ≠ 0 →
    cfgRefusal (cfgAddr p) (cfgBe p) = st → exec (.cfgWr p) s = .next ((s.sendHost (cfgRsp p.tag st 0)).leaveBuffer 13 p)) ∧
  (∀ (s : State) (p : Pkt), s.linkLive 13 = true → hostOk 0x31 p 1 = true → s.thl.held = [] → s.reqWaits p = false →
    cfgRefusal (cfgAddr p) (cfgBe p) = 0 → s.configLocks (cfgAddr p) = true →
    exec (.cfgWr p) s = .next ((s.sendHost (cfgRsp p.tag 0x12 0)).leaveBuffer 13 p)) ∧
  (∀ (s : State) (p : Pkt), s.linkLive 13 = true → hostOk 0x31 p 1 = true → s.thl.held = [] → s.reqWaits p = true →
    exec (.cfgWr p) s = .next ({ s with thl := { s.thl with held := [⟨p, []⟩] } })) ∧
  (∀ (s : State) (p : Pkt) (mecc : List MemEcc) (t : State) (r : MemRes) (b : List Byte), s.linkLive 13 = true → hostOk 0x33 p 0 = true →
    s.thl.held = [] → s.reqWaits p = false → memShape (memAddr p) (memCount p) = true → s.memRead (memAddr p) (memCount p) mecc = (t, r, b) →
    exec (.memRd p mecc) s = .next ((t.sendHost (memRsp p.tag r.rsp b)).leaveBuffer 13 p)) ∧
  (∀ (s : State) (p : Pkt) (mecc : List MemEcc), s.linkLive 13 = true → hostOk 0x33 p 0 = true → s.thl.held = [] → s.reqWaits p = false →
    memShape (memAddr p) (memCount p) = false → exec (.memRd p mecc) s = .next ((s.sendHost (memRsp p.tag 1 [])).leaveBuffer 13 p)) ∧
  (∀ (s : State) (p : Pkt) (mecc : List MemEcc) (t : State) (r : MemRes), s.linkLive 13 = true →
    hostOk 0x34 p (if memShape (memAddr p) (memCount p) then ((memCount p) + 63) / 64 else p.len) = true → s.thl.held = [] →
    s.reqWaits p = false → memShape (memAddr p) (memCount p) = true → s.memWrite (memAddr p) (p.payload.take (memCount p)) mecc = (t, r, []) →
    exec (.memWr p mecc) s = .next ((t.sendHost (memRsp p.tag r.rsp [])).leaveBuffer 13 p)) ∧
  (∀ (s : State) (p : Pkt) (mecc : List MemEcc) (t : State) (r : MemRes) (x : Nat) (l : List Nat), s.linkLive 13 = true →
    hostOk 0x34 p (if memShape (memAddr p) (memCount p) then ((memCount p) + 63) / 64 else p.len) = true → s.thl.held = [] →
    s.reqWaits p = false → memShape (memAddr p) (memCount p) = true → s.memWrite (memAddr p) (p.payload.take (memCount p)) mecc = (t, r, x :: l) →
    exec (.memWr p mecc) s = .next (
      ({ t with ixf := { t.ixf with lateAcks := t.ixf.lateAcks ++ [⟨x :: l, 13, memRsp p.tag r.rsp []⟩] } } : State).leaveBuffer 13 p)) ∧
  (∀ (s : State) (p : Pkt) (mecc : List MemEcc), s.linkLive 13 = true →
    hostOk 0x34 p (if memShape (memAddr p) (memCount p) then ((memCount p) + 63) / 64 else p.len) = true → s.thl.held = [] → s.reqWaits p = true →
    exec (.memWr p mecc) s = .next ({ s with thl := { s.thl with held := [⟨p, mecc⟩] } })) ∧
  (∀ (s : State) (addr : Word) (data : Word), addr.toNat % 4 = 0 → exec (.registerWrite addr data) s = .next (s.writeReg addr.toNat data.toNat)) ∧
  (∀ (s : State) (addr : Word), addr.toNat % 4 = 0 → exec (.loWordRead addr) s = .next (s.latchHigh addr.toNat))

/-- A held write or commit takes effect once its block is not busy, and the accesses that wait are then served; a host-memory write that is
acknowledged, refused or overdue leaves the list with its consequence; held accesses are served once they need not wait; the first one that waits
for a Kiln is answered NOT_READY at its limit. Each clause names one command, what it asks of the state and the operands, and the next state. -/
def Obligations.HeldAccessesComplete : Prop :=
  (∀ (s : State) (b a v : Nat) (rest : List (Nat × Nat × Nat)) (r : RegRow) (k : Nat), s.heldWrites = (b, a, v) :: rest → s.blockBusy b = false →
    regAt a = some (r, k) → ({ s with heldWrites := rest } : State).rowOn r k = true →
    exec .heldRwcWrite s = .next ((({ s with heldWrites := rest } : State).plainWrite r k v).serveHeld)) ∧
  (∀ (s : State) (b : Nat) (rest : List Nat), s.heldCommits = b :: rest → s.blockBusy b = false →
    exec .heldCommit s = .next ((({ s with heldCommits := rest } : State).commitBlock b).serveHeld)) ∧
  (∀ (s : State) (p : Pkt) (e : HmemPend), s.linkLive 13 = true → hostOk 0x37 p 0 = true → p.status = 0 →
    (s.leaveBuffer 13 p).findHmem p.tag = some e → e.kind = .report →
    exec (.hmemAck p) s = .next (((s.leaveBuffer 13 p).dropHmem p.tag).reportDone)) ∧
  (∀ (s : State) (p : Pkt) (e : HmemPend), s.linkLive 13 = true → hostOk 0x37 p 0 = true → p.status = 0 →
    (s.leaveBuffer 13 p).findHmem p.tag = some e → e.kind ≠ .report → exec (.hmemAck p) s = .next ((s.leaveBuffer 13 p).dropHmem p.tag)) ∧
  (∀ (s : State) (p : Pkt) (e : HmemPend), s.linkLive 13 = true → hostOk 0x37 p 0 = true → p.status = 3 →
    (s.leaveBuffer 13 p).findHmem p.tag = some e → exec (.hmemAck p) s = .next (((s.leaveBuffer 13 p).dropHmem p.tag).hmemLost e)) ∧
  (∀ (s : State) (tag : Nat) (e : HmemPend), s.findHmem tag = some e → exec (.hmemWrTimeout tag) s = .next ((s.dropHmem tag).hmemLost e)) ∧
  (∀ (s : State), exec .kilnAccessRelease s = .next (s.serveHosted s.thl.held)) ∧
  (∀ (s : State) (q : HostReq) (l : List HostReq), s.thl.held = q :: l → s.waitsKiln q.pkt = true →
    exec .kilnAccessTimeout s = .next (((s.sendHost (cfgRsp q.pkt.tag 0x12 0)).leaveBuffer 13 q.pkt).serveHosted l))

/-- AUX power-up runs with the first claim; each event of the coolant pressure test and of the 48 V pre-charge takes the start-up to its next step, its
retry or its failure. Each clause names one command, what it asks of the state and the operands, and the next state. -/
def Obligations.StartupBeginsAndPressureTest : Prop :=
  (∀ (s : State) (straps : Straps) (first : Kiln) (loops : List Nat) (p : State), s.isOn .aux = false →
    p = (({ s.turnOn .aux with power := { (s.turnOn .aux).power with powerCycles := (s.turnOn .aux).power.powerCycles + 1, modState := .starting } } : State).takeStraps straps).readOtp.showIdent.takeCeiling.caskDefaults →
    exec (.auxPowerUp straps first loops) s = .next (
      let b := (p.bootKiln .ka).bootKiln .kb
      (b.firstClaim first).elim (b.bootAt .rom) fun k => (b.takeOver k).kilnBoot loops)) ∧
  (∀ (s : State), s.kilnActs = true → s.power.boot = .pressureWait → exec .pressureReached s = .next (s.bootAt .pressureHold)) ∧
  (∀ (s : State), s.kilnActs = true → s.power.boot = .pressureWait → exec .pressureWaitTimeout s = .next (s.pressureFail)) ∧
  (∀ (s : State) (fall : Nat) (loops : List Nat) (zeroBad : List Nat) (carrier : Bool), s.kilnActs = true → s.power.boot = .pressureHold →
    badLoop loops = none → fall ≤ 5 →
    exec (.pressureHoldEnd fall loops zeroBad carrier) s = .next (
      let z := ((zeroBad.filter sensKnown).foldl (fun s id => s.zeroFail id) s).refresh.refactor
      let d := (z.selectClock carrier).commandDrive (allValves openCode) 0 3
      ((d.setRetried false).setF (.mod .pwrStatusMain) 0 1).bootAt .precharge)) ∧
  (∀ (s : State) (fall : Nat) (loops : List Nat) (zeroBad : List Nat) (carrier : Bool), s.kilnActs = true → s.power.boot = .pressureHold →
    badLoop loops = none → 5 < fall → exec (.pressureHoldEnd fall loops zeroBad carrier) s = .next (s.pressureFail)) ∧
  (∀ (s : State) (fall : Nat) (loops : List Nat) (zeroBad : List Nat) (carrier : Bool) (n st : Nat), s.kilnActs = true →
    s.power.boot = .pressureHold → badLoop loops = some (n, st) →
    exec (.pressureHoldEnd fall loops zeroBad carrier) s = .next ((s.holdEvent n st).step5Fail)) ∧
  (∀ (s : State) (loops : List Nat), s.kilnActs = true → s.power.boot = .pressureRetry →
    exec (.pressureTestRetry loops) s = .next ((s.setRetried true).step51 loops)) ∧
  (∀ (s : State), s.kilnActs = true → s.power.boot = .precharge → exec .prechargeDone s = .next ((s.setF (.mod .pwrStatusMain) 0 2).bootIod)) ∧
  (∀ (s : State), s.kilnActs = true → s.power.boot = .precharge → exec .prechargeTimeout s = .next (s.prechargeFail)) ∧
  (∀ (s : State), s.kilnActs = true → s.power.boot = .prechargeRetry →
    exec .prechargeRetry s = .next (((s.setRetried true).setF (.mod .pwrStatusMain) 0 1).bootAt .precharge))

/-- The end of the start-up, its limits, a loss of the reference clock and its return, a domain fault, a loss of AUX power and the return of the input
have their effects. Each clause names one command, what it asks of the state and the operands, and the next state. -/
def Obligations.StartupEndsAndSupplyLosses : Prop :=
  (∀ (s : State) (tests : PowerTests), s.kilnActs = true → s.power.boot = .flowWait →
    exec (.bootFlowReady tests) s = .next (if (s.computeOn tests).2 then (s.computeOn tests).1.bootDone else (s.computeOn tests).1)) ∧
  (∀ (s : State), s.kilnActs = true → s.power.boot = .flowWait → exec .bootFlowTimeout s = .next (s.flowFail)) ∧
  (∀ (s : State), s.kilnActs = true → (s.power.boot = .pressureWait ∨ s.power.boot = .pressureHold) →
    exec .bootStepTimeout s = .next (s.pressureFail)) ∧
  (∀ (s : State), s.kilnActs = true → s.power.boot = .precharge → exec .bootStepTimeout s = .next (s.prechargeFail)) ∧
  (∀ (s : State), s.kilnActs = true → s.power.boot = .flowWait → exec .bootStepTimeout s = .next (s.flowFail)) ∧
  (∀ (s : State), s.kilnActs = true → s.power.boot = .clockWait → exec .bootStepTimeout s = .next (s.clockFail)) ∧
  (∀ (s : State), s.isOn .aux = true → s.active.isSome = true →
    exec .refclkLoss s = .next (
      let t := (s.setHealthBit .ka 8 true).setHealthBit .kb 8 true
      (({ t with row := { t.row with measured := [] } } : State).alertSet 3).clockFault 0)) ∧
  (∀ (s : State), s.isOn .aux = true → s.active = none →
    exec .refclkLoss s = .next (
      let t := (s.setHealthBit .ka 8 true).setHealthBit .kb 8 true
      { t with row := { t.row with measured := [] } })) ∧
  (∀ (s : State), s.kilnActs = true → s.power.boot = .clockWait →
    exec .clockTreeRestored s = .next (
      let z := ((s.setHealthBit .ka 8 false).setHealthBit .kb 8 false).clearBit (.kln .dieHbFatal) 0 4
      let t := (z.setF (.sec .bootRefclkCarrier) 0 0).alertClear 3
      if t.power.boot = .clockWait then t.bootIod else t)) ∧
  (∀ (s : State) (d : Domain), d = .aux → s.isOn .aux = true → exec (.domainFault d) s = .next (s.auxOff)) ∧
  (∀ (s : State) (d : Domain), d ≠ .aux → s.isOn d = true →
    exec (.domainFault d) s = .next (
      let lost := (memDies d).filter fun n => s.isOn (.mem n)
      (lost.foldl (fun s n => (List.range 5).foldl (fun s i => s.stackFail (5 * n + i) 3) s) (s.domainOff d)).unnamedRecord)) ∧
  (∀ (s : State) (torn : Bool), s.isOn .aux = true → torn = false → exec (.auxPowerLoss torn) s = .next (s.auxOff)) ∧
  (∀ (s : State) (torn : Bool), s.isOn .aux = true → torn = true → exec (.auxPowerLoss torn) s = .next (s.tearSlot.auxOff)) ∧
  (∀ (s : State), s.kilnActs = true → s.power.boot = .inputWait →
    exec .inputRestored s = .next (((s.setRetried false).setF (.mod .pwrStatusMain) 0 1).bootAt .precharge))

/-- A cluster that issues the instruction writes its result and moves on, or branches; a store outside the cluster store is dropped; an illegal
instruction, a program counter outside the store and an uncorrectable error at a fetch fault the cluster; a correctable one is counted. Each clause
names one command, what it asks of the state and the operands, and the next state. -/
def Obligations.ScalarInstructionsComplete : Prop :=
  (∀ (s : State) (c : Nat) (fn : ScalarFn) (useImm : Bool) (w : Nat), s.issues c = true → s.fetchWord c = w → (0x01 ≤ opc w ∧ opc w ≤ 0x1F) →
    exec (.scalarOp c fn useImm) s = .next (
      (s.setSreg c (dstReg w) (scalarResult (opc w) fn (s.sreg c (srcA w)) (if useImm then unsigned 64 (immVal w) else s.sreg c (srcB w)))).nextPc c)) ∧
  (∀ (s : State) (c : Nat) (cond : BranchCond) (w : Nat), s.issues c = true → s.fetchWord c = w → (0x20 ≤ opc w ∧ opc w ≤ 0x27) →
    branchTaken (opc w) cond (s.sreg c (srcA w)) (s.sreg c (srcB w)) = true →
    exec (.branch c cond) s = .next (s.setPc c (branchTarget (s.cl c).pc w))) ∧
  (∀ (s : State) (c : Nat) (cond : BranchCond) (w : Nat), s.issues c = true → s.fetchWord c = w → (0x20 ≤ opc w ∧ opc w ≤ 0x27) →
    branchTaken (opc w) cond (s.sreg c (srcA w)) (s.sreg c (srcB w)) = false → exec (.branch c cond) s = .next (s.nextPc c)) ∧
  (∀ (s : State) (c : Nat) (store : Bool) (ecc : StoreEcc) (w : Nat), s.issues c = true → s.fetchWord c = w → opc w = 0x28 → store = true →
    s.effAddr c w + 8 ≤ storeSize →
    exec (.ldsSts c store ecc) s = .next ((s.putStore c (s.effAddr c w) (leBytes 8 (s.sreg c (srcB w)))).nextPc c)) ∧
  (∀ (s : State) (c : Nat) (store : Bool) (ecc : StoreEcc) (w : Nat), s.issues c = true → s.fetchWord c = w → opc w = 0x28 → store = false →
    ecc = .clean → s.effAddr c w + 8 ≤ storeSize →
    exec (.ldsSts c store ecc) s = .next ((s.setSreg c (dstReg w) (leNat (s.storeBytes c (s.effAddr c w) 8))).nextPc c)) ∧
  (∀ (s : State) (c : Nat) (store : Bool) (ecc : StoreEcc) (w : Nat), s.issues c = true → s.fetchWord c = w → opc w = 0x28 → store = true →
    storeSize < s.effAddr c w + 8 → exec (.ldsSts c store ecc) s = .next (s.nextPc c)) ∧
  (∀ (s : State) (c : Nat) (reservedEnc : Bool) (w : Nat), s.issues c = true → s.fetchWord c = w → s.opInvalid c w = true →
    exec (.illegalInstruction c reservedEnc) s = .next (s.faultStop c .opInvalid)) ∧
  (∀ (s : State) (c : Nat) (ecc : StoreEcc), s.fetching c = true → s.fetchIn c = false →
    exec (.fetchFault c ecc) s = .next (s.faultStop c .fetchRange)) ∧
  (∀ (s : State) (c : Nat) (ecc : StoreEcc) (t : State), s.fetching c = true → s.fetchIn c = true → s.storeEcc c ecc = (t, false) →
    exec (.fetchFault c ecc) s = .next (t.faultStop c .storeUe)) ∧
  (∀ (s : State) (c : Nat) (ecc : StoreEcc) (t : State), s.fetching c = true → s.fetchIn c = true → s.storeEcc c ecc = (t, true) →
    exec (.fetchFault c ecc) s = .next (t))

/-- TB queues a valid block, counts one with K = 0 at once, and faults on a bad address; a block starts, or waits for the reserve; it ends with or
without a spill; a spill that is ready is written; TBWAIT steeps while the tensor unit is busy; vector instructions act once their registers are
free. Each clause names one command, what it asks of the state and the operands, and the next state. -/
def Obligations.TensorAndVectorInstructionsComplete : Prop :=
  (∀ (s : State) (c : Nat) (ecc : StoreEcc) (w : Nat) (t : State) (b : List Byte), s.issues c = true → s.fetchWord c = w → opc w = 0x30 →
    (s.effAddr c w % 64 = 0 ∧ s.effAddr c w + 64 ≤ storeSize) → s.storeRead c (s.effAddr c w) 64 ecc = (t, some b) → tbOk b = true →
    (readTb b).k ≠ 0 → exec (.tb c ecc) s = .next ((t.modCl c fun k => { k with tbq := k.tbq ++ [⟨readTb b, false⟩] }).nextPc c)) ∧
  (∀ (s : State) (c : Nat) (ecc : StoreEcc) (w : Nat) (t : State) (b : List Byte), s.issues c = true → s.fetchWord c = w → opc w = 0x30 →
    (s.effAddr c w % 64 = 0 ∧ s.effAddr c w + 64 ≤ storeSize) → s.storeRead c (s.effAddr c w) 64 ecc = (t, some b) → tbOk b = true →
    (readTb b).k = 0 → exec (.tb c ecc) s = .next ((t.countBlock c).nextPc c)) ∧
  (∀ (s : State) (c : Nat) (ecc : StoreEcc) (w : Nat), s.issues c = true → s.fetchWord c = w → opc w = 0x30 →
    (s.effAddr c w % 64 ≠ 0 ∨ storeSize < s.effAddr c w + 64) → exec (.tb c ecc) s = .next (s.faultStop c .tbInvalid)) ∧
  (∀ (s : State) (c : Nat) (ecc : StoreEcc) (b : TBlk) (l : List TBlk) (t : State), (s.cl c).tbq = b :: l → (s.cl c).blockReady = true →
    s.gated c = false → s.power.hotN = false → c < 832 → s.reserveCovers c b.desc = true → s.storeEcc c ecc = (t, true) →
    exec (.tensorBlockStart c ecc) s = .next ((t.modCl c fun k => { k with tbq := { b with started := true } :: l }).showTbCause c)) ∧
  (∀ (s : State) (c : Nat) (ecc : StoreEcc) (b : TBlk) (l : List TBlk), (s.cl c).tbq = b :: l → (s.cl c).blockReady = true → s.gated c = false →
    s.power.hotN = false → c < 832 → s.reserveCovers c b.desc = false → exec (.tensorBlockStart c ecc) s = .next (s.showTbCause c)) ∧
  (∀ (s : State) (c : Nat) (units : Nat) (b : TBlk) (l : List TBlk), (s.cl c).tbq = b :: l → b.started = true → b.desc.spill = true →
    exec (.tensorBlockEnd c units) s = .next (
      let t := (s.loadHeldSeed c).modCl c fun k => Cluster.beginSpill { (k.setBank b.desc.acc (s.blockBank c b.desc)) with tbq := l } b.desc
      (((t.charge c units).countBlock c).unitWake c).showTbCause c)) ∧
  (∀ (s : State) (c : Nat) (units : Nat) (b : TBlk) (l : List TBlk), (s.cl c).tbq = b :: l → b.started = true → b.desc.spill = false →
    exec (.tensorBlockEnd c units) s = .next (
      let t := (s.loadHeldSeed c).modCl c fun k => { (k.setBank b.desc.acc (s.blockBank c b.desc)) with tbq := l }
      (((t.charge c units).countBlock c).unitWake c).showTbCause c)) ∧
  (∀ (s : State) (c : Nat) (n : Nat) (x : Spill) (t : State), t = s.loadHeldSeed c → (t.cl c).spills[n]? = some x → x.ready = true →
    exec (.spillDone c n) s = .next ((((t.writeSpill c x).modCl c fun k => { k with spills := k.spills.eraseIdx n }).unitWake c).showTbCause c)) ∧
  (∀ (s : State) (c : Nat) (w : Nat), s.issues c = true → s.fetchWord c = w → opc w = 0x31 → ((s.nextPc c).cl c).tensorBusy = true →
    exec (.tbwait c) s = .next (((s.nextPc c).steep c 7 .tensor).showTbCause c)) ∧
  (∀ (s : State) (c : Nat) (w : Nat), s.issues c = true → s.fetchWord c = w → opc w = 0x31 → ((s.nextPc c).cl c).tensorBusy = false →
    exec (.tbwait c) s = .next (s.nextPc c)) ∧
  (∀ (s : State) (c : Nat) (op : VecOp) (ecc : StoreEcc) (w : Nat) (t : State), s.issues c = true → s.fetchWord c = w →
    (0x40 ≤ opc w ∧ opc w ≤ 0x7F) → (s.cl c).vopReady op = true → vecInStore op = true → s.storeEcc c ecc = (t, true) → vecReads op ≠ [] →
    exec (.vop c op ecc) s = .next ((t.vectorOp c (dstReg w) op).nextPc c)) ∧
  (∀ (s : State) (c : Nat) (op : VecOp) (ecc : StoreEcc) (w : Nat), s.issues c = true → s.fetchWord c = w → (0x40 ≤ opc w ∧ opc w ≤ 0x7F) →
    (s.cl c).vopReady op = true → vecInStore op = true → vecReads op = [] →
    exec (.vop c op ecc) s = .next ((s.vectorOp c (dstReg w) op).nextPc c))

/-- COPY, FILL, ADD_F32 and POST enter the DMA queue where it has room, else the cluster steeps until a deferred acceptance; DMAWAIT and FENCE wait for
what is outstanding or move on. Each clause names one command, what it asks of the state and the operands, and the next state. -/
def Obligations.DmaInstructionsComplete : Prop :=
  (∀ (s : State) (c : Nat) (ecc : StoreEcc) (w : Nat), s.issues c = true → s.fetchWord c = w → opc w = 0x80 → dmaAddrOk (s.effAddr c w) = true →
    (readDma (s.storeBytes c (s.effAddr c w) 64)).op = 1 → (s.cl c).dmas.length < 16 → ecc = .clean →
    exec (.copy c ecc) s = .next ((s.nextPc c).acceptDma c (s.effAddr c w) .clean)) ∧
  (∀ (s : State) (c : Nat) (ecc : StoreEcc) (w : Nat), s.issues c = true → s.fetchWord c = w → opc w = 0x80 → dmaAddrOk (s.effAddr c w) = true →
    (readDma (s.storeBytes c (s.effAddr c w) 64)).op = 2 → (s.cl c).dmas.length < 16 → ecc = .clean →
    exec (.fill c ecc) s = .next ((s.nextPc c).acceptDma c (s.effAddr c w) .clean)) ∧
  (∀ (s : State) (c : Nat) (ecc : StoreEcc) (w : Nat), s.issues c = true → s.fetchWord c = w → opc w = 0x80 → dmaAddrOk (s.effAddr c w) = true →
    (readDma (s.storeBytes c (s.effAddr c w) 64)).op = 3 → (s.cl c).dmas.length < 16 → ecc = .clean →
    exec (.addF32 c ecc) s = .next ((s.nextPc c).acceptDma c (s.effAddr c w) .clean)) ∧
  (∀ (s : State) (c : Nat) (ecc : StoreEcc) (w : Nat), s.issues c = true → s.fetchWord c = w → opc w = 0x80 → dmaAddrOk (s.effAddr c w) = true →
    (readDma (s.storeBytes c (s.effAddr c w) 64)).op = 4 → (s.cl c).dmas.length < 16 → ecc = .clean →
    exec (.post c ecc) s = .next ((s.nextPc c).acceptDma c (s.effAddr c w) .clean)) ∧
  (∀ (s : State) (c : Nat) (ecc : StoreEcc) (w : Nat), s.issues c = true → s.fetchWord c = w → opc w = 0x80 → dmaAddrOk (s.effAddr c w) = true →
    (readDma (s.storeBytes c (s.effAddr c w) 64)).op = 1 → 16 ≤ (s.cl c).dmas.length →
    exec (.copy c ecc) s = .next ((s.nextPc c).steep c 6 (.dmaFull (s.effAddr c w)))) ∧
  (∀ (s : State) (c : Nat) (ecc : StoreEcc) (a : Nat), (s.cl c).wait = some (.dmaFull a) → (s.cl c).dmas.length < 16 →
    exec (.dmaDeferredAccept c ecc) s = .next ((s.wake c).acceptDma c a ecc)) ∧
  (∀ (s : State) (c : Nat) (w : Nat), s.issues c = true → s.fetchWord c = w → opc w = 0x81 → ((s.nextPc c).cl c).dmaRetired ≥ s.sreg c (srcB w) →
    exec (.dmawait c) s = .next (s.nextPc c)) ∧
  (∀ (s : State) (c : Nat) (w : Nat), s.issues c = true → s.fetchWord c = w → opc w = 0x81 → ((s.nextPc c).cl c).dmaRetired < s.sreg c (srcB w) →
    exec (.dmawait c) s = .next (((s.nextPc c).steep c 6 (.dma (s.sreg c (srcB w)))).showDmaCause c)) ∧
  (∀ (s : State) (c : Nat) (w : Nat), s.issues c = true → s.fetchWord c = w → opc w = 0xF0 → ((s.nextPc c).cl c).tensorBusy = false →
    ((s.nextPc c).cl c).dmas = [] → exec (.fence c) s = .next (s.nextPc c)) ∧
  (∀ (s : State) (c : Nat) (w : Nat), s.issues c = true → s.fetchWord c = w → opc w = 0xF0 →
    (((s.nextPc c).cl c).tensorBusy = true ∨ ((s.nextPc c).cl c).dmas ≠ []) →
    exec (.fence c) s = .next (((s.nextPc c).steep c 6 .fence).showDmaCause c))

/-- A piece is issued, a burst completes or times out, credits return, and a descriptor whose pieces are done retires. Each clause names one command,
what it asks of the state and the operands, and the next state. -/
def Obligations.DmaEngineCompletes : Prop :=
  (∀ (s : State) (c : Nat) (j : Nat) (ecc : StoreEcc) (mecc : List MemEcc),
    exec (.dmaBurstIssue c j ecc mecc) s = .next (s.issueBurst c j ecc mecc)) ∧
  (∀ (s : State) (c : Nat) (j : Nat) (i : Nat) (ecc : StoreEcc), exec (.burstComplete c j i ecc) s = .next ((s.burstDone c j i ecc).serveRx)) ∧
  (∀ (s : State) (c : Nat), exec (.dmaRetire c) s = .next ((s.retireDma c).showDmaCause c)) ∧
  (∀ (s : State) (c : Nat) (link : Bool) (key : Nat), link = true → (s.cl c).linkHeld.getD key 0 ≠ 0 →
    exec (.creditIdleReturn c link key) s = .next (
      (s.modCl c fun k => { k with linkHeld := k.linkHeld.put key ((s.cl c).linkHeld.getD key 0 - 1) 0 }).returnLinks key 1)) ∧
  (∀ (s : State) (c : Nat) (link : Bool) (key : Nat), link = false → (s.cl c).chanHeld.getD key 0 ≠ 0 →
    exec (.creditIdleReturn c link key) s = .next (
      ((s.modCl c fun k => { k with chanHeld := k.chanHeld.put key ((s.cl c).chanHeld.getD key 0 - 1) 0 }).returnChan key).serveRx)) ∧
  (∀ (s : State) (c : Nat) (j : Nat) (i : Nat) (d : Dma) (p : Piece), (s.cl c).dmas[j]? = some d → d.pieces[i]? = some p → p.channels ≠ [] →
    p.retried = false → exec (.memBurstTimeout c j i) s = .next (s.setPiece c j i { p with retried := true })) ∧
  (∀ (s : State) (c : Nat) (j : Nat) (i : Nat) (d : Dma) (p : Piece), (s.cl c).dmas[j]? = some d → d.pieces[i]? = some p → p.channels ≠ [] →
    p.retried = true → exec (.memBurstTimeout c j i) s = .next (((s.endPiece c j i p).failDma c j 5).serveRx)) ∧
  (∀ (s : State) (c : Nat) (j : Nat) (d : Dma), (s.cl c).dmas[j]? = some d → d.waits = 3 →
    exec (.linkCreditTimeout c j) s = .next (
      let t : State := { s with ixf := { s.ixf with linkQ := s.ixf.linkQ.mapVals [] fun q => q.filter fun x => x ≠ c } }
      (t.dmaWaits c j 0).failDma c j 4)) ∧
  (∀ (s : State) (tag : Nat) (r : RemReq), s.findReq tag = some r → exec (.remoteAckTimeout tag) s = .next (s.reqFail r))

/-- CLAIM takes work, is answered empty or waits behind the clusters that wait; with both token places taken it is refused; a served claim hands the
token to the cluster; DONE records a completion or is ignored without a token; STEP forwards its marker, drops it, or does neither for a reserved
code. Each clause names one command, what it asks of the state and the operands, and the next state. -/
def Obligations.WorkClaimsComplete : Prop :=
  (∀ (s : State) (c : Nat) (mecc : List MemEcc) (w r : Nat) (t : State) (h : Handed), s.issues c = true → s.fetchWord c = w → opc w = 0xA0 →
    s.reservedOk c w = true → s.sreg c (srcA w) % 2 ^ 9 = r → (s.cl c).tokens.length < 2 → s.claimDenied c r = false →
    (s.nextPc c).claimWaits r = false → (s.nextPc c).nextDescriptor r mecc = (t, some h) →
    exec (.claim c mecc) s = .next (t.deliver c r (dstReg w) (bits w 21 6 * 64) h)) ∧
  (∀ (s : State) (c : Nat) (mecc : List MemEcc) (w r : Nat), s.issues c = true → s.fetchWord c = w → opc w = 0xA0 → s.reservedOk c w = true →
    s.sreg c (srcA w) % 2 ^ 9 = r → (s.cl c).tokens.length < 2 → s.claimDenied c r = false → (s.nextPc c).claimWaits r = true →
    (immBits w).testBit 40 = true → exec (.claim c mecc) s = .next ((s.nextPc c).claimEmpty c r (dstReg w) (bits w 21 6 * 64) false false)) ∧
  (∀ (s : State) (c : Nat) (mecc : List MemEcc) (w r : Nat), s.issues c = true → s.fetchWord c = w → opc w = 0xA0 → s.reservedOk c w = true →
    s.sreg c (srcA w) % 2 ^ 9 = r → (s.cl c).tokens.length < 2 → s.claimDenied c r = false → (s.nextPc c).claimWaits r = true →
    (immBits w).testBit 40 = false →
    exec (.claim c mecc) s = .next (
      ((s.nextPc c).steep c 1 (.token r (dstReg w) (bits w 21 6 * 64))).modRing r fun x => { x with waiters := x.waiters ++ [⟨c, dstReg w, bits w 21 6 * 64⟩] })) ∧
  (∀ (s : State) (c : Nat) (mecc : List MemEcc) (w : Nat), s.issues c = true → s.fetchWord c = w → opc w = 0xA0 → s.reservedOk c w = true →
    2 ≤ (s.cl c).tokens.length → s.claimDenied c (s.sreg c (srcA w) % 2 ^ 9) = false →
    exec (.claim c mecc) s = .next ((s.nextPc c).claimEmpty c (s.sreg c (srcA w) % 2 ^ 9) (dstReg w) (bits w 21 6 * 64) true false)) ∧
  (∀ (s : State) (ring : Nat) (mecc : List MemEcc) (x : Claimer) (h : Handed) (t : State),
    ((s.ring (ring % 512)).waiters.find? fun x => !(s.cl x.cluster).inSlice) = some x → s.claimDenied x.cluster (ring % 512) = false →
    s.nextDescriptor (ring % 512) mecc = (t, some h) →
    exec (.claimServed ring mecc) s = .next (
      (t.modRing (ring % 512) fun k => { k with waiters := k.waiters.filter fun y => y.cluster ≠ x.cluster }).deliver x.cluster (ring % 512) x.dst x.landing h)) ∧
  (∀ (s : State) (c : Nat) (w : Nat) (t : Token) (l : List Token), s.issues c = true → s.fetchWord c = w → opc w = 0xA1 →
    (s.cl c).tokens = t :: l →
    exec (.done c) s = .next (((s.complete c t (doneStatus (s.sreg c (srcA w) % 2 ^ 8)) false).modCl c fun k => { k with tokens := l }).nextPc c)) ∧
  (∀ (s : State) (c : Nat) (w : Nat), s.issues c = true → s.fetchWord c = w → opc w = 0xA1 → (s.cl c).tokens = [] →
    exec (.done c) s = .next (s.nextPc c)) ∧
  (∀ (s : State) (c : Nat) (spaced : Bool) (w : Nat), s.issues c = true → s.fetchWord c = w → opc w = 0xB0 → (bits w 1 0 = 1 ∨ bits w 1 0 = 2) →
    spaced = true →
    exec (.step c spaced) s = .next (
      let t := s.addWrap (.clu .stepCountForwarded) c 1
      { t.nextPc c with cop := { t.cop with markers := t.cop.markers ++ [⟨c / 208, bits w 15 8, bits w 1 0 == 2⟩] } })) ∧
  (∀ (s : State) (c : Nat) (spaced : Bool) (w : Nat), s.issues c = true → s.fetchWord c = w → opc w = 0xB0 → (bits w 1 0 = 1 ∨ bits w 1 0 = 2) →
    spaced = false → exec (.step c spaced) s = .next ((s.addSat (.clu .stepCountDropped) c 1).nextPc c)) ∧
  (∀ (s : State) (c : Nat) (spaced : Bool) (w : Nat), s.issues c = true → s.fetchWord c = w → opc w = 0xB0 → (bits w 1 0 ≠ 1 ∧ bits w 1 0 ≠ 2) →
    exec (.step c spaced) s = .next (s.nextPc c))

/-- Writes of the seed, of HALT, of PROD, CONS, ENABLE, CANCEL, CLAIM_STOP and a ring commit have their effects, with what follows from them in time.
Each clause names one command, what it asks of the state and the operands, and the next state. -/
def Obligations.ClusterAndRingRegistersComplete : Prop :=
  (∀ (s : State) (c : Nat) (value : Word), s.cluWrites c = true → exec (.cluSrSeedWrite c value) s = .next (s.seedWrite c value.toNat)) ∧
  (∀ (s : State) (c : Nat) (n : Nat), (s.cl c).heldSeed = some n → ((s.cl c).spills.any Spill.drawing) = false →
    exec (.heldSeedLoad c) s = .next (
      s.modCl c fun k => { k with gen := (startDraws (s.cl c).spills (srSeed n)).2, heldSeed := none, spills := (startDraws (s.cl c).spills (srSeed n)).1 })) ∧
  (∀ (s : State) (c : Nat) (n : Nat), (s.cl c).heldSeed = some n → ((s.cl c).spills.any Spill.drawing) = true →
    exec (.heldSeedLoad c) s = .next (s)) ∧
  (∀ (s : State) (c : Nat) (value : Word), s.cluWrites c = true → value.toNat % 2 = 1 →
    exec (.cluHaltWrite c value) s = .next ((s.setF (.clu .ctrlHalt) c value.toNat).setF (.clu .statusRunning) c 0)) ∧
  (∀ (s : State) (c : Nat) (value : Word), s.cluWrites c = true → value.toNat % 2 = 0 →
    (s.setF (.clu .ctrlHalt) c value.toNat).flag (.clu .statusFaulted) c = false →
    exec (.cluHaltWrite c value) s = .next ((s.setF (.clu .ctrlHalt) c value.toNat).setF (.clu .statusRunning) c 1)) ∧
  (∀ (s : State) (c : Nat), s.flag (.clu .statusSteeping) c = true → s.getF (.clu .statusSteepCause) c ∈ [1, 2, 3, 5, 6] →
    exec (.steepLendTimer c) s = .next ((s.returnReserve c).modCl c fun k => { k with lent := true })) ∧
  (∀ (s : State) (ring : Nat) (value : Word) (mecc : List MemEcc), s.isOn .iod = true →
    exec (.ringProdWrite ring value mecc) s = .next (s.prodWrite (ring % 512) value.toNat mecc)) ∧
  (∀ (s : State) (ring : Nat) (value : Word), s.isOn .iod = true →
    exec (.ringConsWrite ring value) s = .next (s.consWrite (ring % 512) value.toNat)) ∧
  (∀ (s : State) (ring : Nat) (value : Word), s.isOn .iod = true →
    exec (.ringEnableWrite ring value) s = .next (s.enableWrite (ring % 512) value.toNat)) ∧
  (∀ (s : State) (ring : Nat), s.isOn .iod = true → exec (.ringCancel ring) s = .next (s.cancelRing (ring % 512))) ∧
  (∀ (s : State) (ring : Nat) (n : Nat), (s.ring (ring % 512)).cancels.find? (s.slotFree (ring % 512)) = some n →
    exec (.cancelRecord ring) s = .next (
      ((s.modRing (ring % 512) fun k => { k with cancels := k.cancels.filter (· ≠ n) }).writeUnheld (ring % 512) n 7).cancelCheck (ring % 512))) ∧
  (∀ (s : State) (value : Word), s.isOn .iod = true → exec (.claimStopWrite value) s = .next (s.claimStopWrite value.toNat)) ∧
  (∀ (s : State) (ring : Nat), s.isOn .iod = true → exec (.ringCommit ring) s = .next (s.commitRing (ring % 512)))

/-- Each takes the effect that its rule gives on the ring, the cluster or the drain. Each clause names one command, what it asks of the state and the
operands, and the next state. -/
def Obligations.WorkCompletionsAndLimits : Prop :=
  (∀ (s : State) (ring : Nat) (p : PostNum) (l : List PostNum), (s.ring (ring % 512)).posts = p :: l → p.committed = true → p.failed = false →
    exec (.postNumberClaimable ring) s = .next (
      (s.modRing (ring % 512) fun k => { k with posts := l }).setF (.wiq .ringProdProd) (ring % 512) ((p.seq + 1) % 2 ^ 32))) ∧
  (∀ (s : State) (ring : Nat) (p : PostNum) (l : List PostNum), (s.ring (ring % 512)).posts = p :: l → p.committed = true → p.failed = true →
    exec (.postNumberClaimable ring) s = .next (
      (((s.modRing (ring % 512) fun k => { k with posts := l }).setF (.wiq .ringProdProd) (ring % 512) ((p.seq + 1) % 2 ^ 32)).modRing (ring % 512) fun k => { k with failed := k.failed ++ [p.seq] }).settleFailed (ring % 512))) ∧
  (∀ (s : State) (c : Nat) (t : Token) (l : List Token), (s.cl c).tokens = t :: l → (s.cl c).abort = none →
    exec (.descriptorTimeout c) s = .next (((s.addSat (.wiq .timeoutCountCount) 0 1).addSat (.wiq .ringTimeoutsCount) t.ring 1).abortCluster c 3)) ∧
  (∀ (s : State) (n : Nat) (e : Completion), s.wiq.completions[n]? = some e → s.recordReady e = true → e.status ≠ 0x0E → e.abort = false →
    exec (.completionRecord n) s = .next (
      ({ s with wiq := { s.wiq with completions := s.wiq.completions.eraseIdx n } } : State).writeRecord e.ring e.seq e.status e.cluster e.tag e.irq e.gate)) ∧
  (∀ (s : State) (ring : Nat), s.flag (.wiq .ringCtrlEnable) (ring % 512) = true → s.flag (.wiq .ringCtrlCancel) (ring % 512) = false →
    s.posted (ring % 512) (s.nextClaim (ring % 512)) = true → s.slotFree (ring % 512) (s.nextClaim (ring % 512)) = true →
    ((s.setF (.wiq .ringStatusStalled) (ring % 512) 1).ringEvent (ring % 512)).liveFlag (.wiq .ringCfgStallFlush) (ring % 512) = false →
    exec (.ringStall ring) s = .next ((s.setF (.wiq .ringStatusStalled) (ring % 512) 1).ringEvent (ring % 512))) ∧
  (∀ (s : State), s.power.draining = true → s.heldTokens = 0 → s.getF (.mod .removePhase) ≠ 1 →
    exec .drainComplete s = .next (
      let t := ({ s with power := { s.power with draining := false } } : State).postMod 0x01 0
      (if t.getF (.mod .removePhase) = 1 then t.setF (.mod .removePhase) 0 2 else t).settle)) ∧
  (∀ (s : State), s.power.draining = true → exec .drainLimitExpiry s = .next (s.abortHeld)) ∧
  (∀ (s : State), (s.power.parkPlanned = true ∨ s.power.parkQuiesce = true) → s.power.draining = false → s.heldTokens = 0 → s.isOn .iod = true →
    exec .parkComplete s = .next (s.enterPark))

/-- The patrol scrub, the operating hour, refresh changes, self-refresh and DQS tracking have their effects. Each clause names one command, what it asks
of the state and the operands, and the next state. -/
def Obligations.MemoryCommandsComplete : Prop :=
  (∀ (s : State) (k : Nat) (lch : Nat) (q : Nat) (mecc : MemEcc) (passEnd : Bool) (pa : Nat) (t : State), s.stackServes k = true → lch < 128 →
    q < channelPairs → s.getF (.mem .scrubCfgPeriodH) k ≠ 0 → s.addrOf (s.pairPlace k lch q) = (pa, t) → passEnd = false →
    exec (.patrolScrub k lch q mecc passEnd) s = .next ((t.readPlace (s.pairPlace k lch q) pa mecc).1.served 2)) ∧
  (∀ (s : State) (k : Nat) (lch : Nat) (q : Nat) (mecc : MemEcc) (passEnd : Bool) (pa : Nat) (t : State), s.stackServes k = true → lch < 128 →
    q < channelPairs → s.getF (.mem .scrubCfgPeriodH) k ≠ 0 → s.addrOf (s.pairPlace k lch q) = (pa, t) → passEnd = true →
    exec (.patrolScrub k lch q mecc passEnd) s = .next (
      ((t.readPlace (s.pairPlace k lch q) pa mecc).1.served 2).addSat (.mem .scrubStatusPasses) k 1)) ∧
  (∀ (s : State),
    exec .operatingHourTick s = .next (
      (List.range 5).foldl (fun s d => s.setF (.kln .dieErrHbRestarts) d 0) (State.halveLeaky 2640 { s with power := { s.power with opHours := s.power.opHours + 1 } }))) ∧
  (∀ (s : State) (k : Nat), k < 20 → s.stackServes k = true → s.getF (.mem .statusRefreshRate) k < refreshRate (s.stackTemp k) →
    exec (.refreshRateRise k) s = .next (s.setF (.mem .statusRefreshRate) k (refreshRate (s.stackTemp k)))) ∧
  (∀ (s : State) (k : Nat), k < 20 → s.stackServes k = true → refreshRate (s.stackTemp k + 48) < s.getF (.mem .statusRefreshRate) k →
    exec (.refreshRateFall k) s = .next (s.setF (.mem .statusRefreshRate) k (refreshRate (s.stackTemp k + 48)))) ∧
  (∀ (s : State) (k : Nat) (lch : Nat), s.power.parked = true → s.stackPowered k = true → lch < 128 →
    (s.getF (.mem .statusState) k = 2 ∨ s.getF (.mem .statusState) k = 3) → s.mem.copies.get? k = none → s.channelIdle (k * 128 + lch) = true →
    k * 128 + lch ∉ s.mem.selfRefresh →
    exec (.selfRefreshEntry k lch) s = .next (
      ({ s with mem := { s.mem with selfRefresh := s.mem.selfRefresh ++ [k * 128 + lch] } } : State).srState k)) ∧
  (∀ (s : State) (k : Nat) (lch : Nat), lch < 128 → exec (.selfRefreshExit k lch) s = .next (s.srExit (k * 128 + lch))) ∧
  (∀ (s : State) (k : Nat) (lch : Nat) (ok : Bool), ok = false → s.stackServes k = true → lch < 128 →
    exec (.dqsTrack k lch ok) s = .next (s.spareTrigger k lch 3 false)) ∧
  (∀ (s : State) (k : Nat) (lch : Nat) (ok : Bool), ok = true → exec (.dqsTrack k lch ok) s = .next (s))

/-- A spare is requested, started and put in place; memory and Mill region sets are committed, refused or held. Each clause names one command, what it
asks of the state and the operands, and the next state. -/
def Obligations.SparingAndMemoryCommits : Prop :=
  (∀ (s : State) (k : Nat) (lch : Nat), k < 20 → s.isOn (.core (k / 5)) = true →
    exec (.spareStartWrite k lch) s = .next (s.spareStart k (lch % 128))) ∧
  (∀ (s : State) (k : Nat), s.stackServes k = true → s.mem.copies.get? k = none → exec (.sparingStart k) s = .next (s.sparingStart k)) ∧
  (∀ (s : State) (k : Nat) (bad : List Nat) (c : SpareCopy), s.mem.copies.get? k = some c → bad = [] →
    exec (.sparingCopyDone k bad) s = .next (s.copyDone k c)) ∧
  (∀ (s : State) (k : Nat) (lch : Nat) (copied : Nat) (c : SpareCopy), s.stackServes k = true → lch < 128 → s.mem.copies.get? k = some c →
    c.lch = lch →
    exec (.channelUnresponsive k lch copied) s = .next (
      (s.setF (.mem .chCeHardFail) (132 * k + s.getF (.mem .chMapPch) (128 * k + lch)) 1).poisonFrom k lch (max copied c.ptr))) ∧
  (∀ (s : State) (k : Nat) (lch : Nat) (copied : Nat) (c : SpareCopy) (t : State), s.stackServes k = true → lch < 128 →
    s.mem.copies.get? k = some c → c.lch ≠ lch → t = s.setF (.mem .chCeHardFail) (132 * k + s.getF (.mem .chMapPch) (128 * k + lch)) 1 →
    t.freeSpares k = [] → exec (.channelUnresponsive k lch copied) s = .next (t.stackFail k 2)) ∧
  (∀ (s : State) (k : Nat) (lch : Nat) (copied : Nat) (t : State), s.stackServes k = true → lch < 128 → s.mem.copies.get? k = none →
    t = s.setF (.mem .chCeHardFail) (132 * k + s.getF (.mem .chMapPch) (128 * k + lch)) 1 → t.freeSpares k = [] →
    exec (.channelUnresponsive k lch copied) s = .next (t.stackFail k 2)) ∧
  (∀ (s : State) (k : Nat) (lch : Nat) (copied : Nat) (t : State), s.stackServes k = true → lch < 128 → s.mem.copies.get? k = none →
    t = s.setF (.mem .chCeHardFail) (132 * k + s.getF (.mem .chMapPch) (128 * k + lch)) 1 → t.freeSpares k ≠ [] →
    exec (.channelUnresponsive k lch copied) s = .next (t.spareTrigger k lch 3 false)) ∧
  (∀ (s : State), s.isOn .iod = true → exec .memCommit s = .next (s.commitMem)) ∧
  (∀ (s : State), s.isOn .iod = true → s.flag (.mil .commitStatusBusy) = false → exec .milCommit s = .next (s.commitMil)) ∧
  (∀ (s : State), s.oldSetUsed = false → exec .milOldSetRetired s = .next (s.setF (.mil .commitStatusBusy) 0 0))

/-- A wait is served or the cluster steeps; signals and arrivals count; an instruction on a gate that is disabled or of the other kind fails with its
status. Each clause names one command, what it asks of the state and the operands, and the next state. -/
def Obligations.GateInstructionsComplete : Prop :=
  (∀ (s : State) (c : Nat) (w g : Nat), s.issues c = true → s.fetchWord c = w → opc w = 0x90 → s.reservedOk c w = true → s.sreg c (srcA w) = g →
    (s.nextPc c).waitStatus c g false = .ok → 0 < immBits w → (s.nextPc c).gateQueue g = [] → immBits w ≤ (s.nextPc c).gateCount g →
    exec (.gwait c) s = .next (
      let t := (s.nextPc c).setCount g ((s.nextPc c).gateCount g - immBits w)
      t.setSreg c (dstReg w) (t.gateWord g false .ok))) ∧
  (∀ (s : State) (c : Nat) (w g : Nat), s.issues c = true → s.fetchWord c = w → opc w = 0x90 → s.reservedOk c w = true → s.sreg c (srcA w) = g →
    (s.nextPc c).waitStatus c g false = .ok → (s.nextPc c).gateCount g < immBits w →
    exec (.gwait c) s = .next (((s.nextPc c).setQueue g ((s.nextPc c).gateQueue g ++ [c])).steep c 5 (.gate g (immBits w) (dstReg w)))) ∧
  (∀ (s : State) (c : Nat) (w g : Nat), s.issues c = true → s.fetchWord c = w → opc w = 0x90 → s.reservedOk c w = true → s.sreg c (srcA w) = g →
    (s.nextPc c).waitStatus c g false ≠ .ok →
    exec (.gwait c) s = .next ((s.nextPc c).setSreg c (dstReg w) ((s.nextPc c).refuseWord g ((s.nextPc c).waitStatus c g false)))) ∧
  (∀ (s : State) (c : Nat) (w : Nat) (t : State) (v : Nat), s.issues c = true → s.fetchWord c = w → opc w = 0x91 → s.reservedOk c w = true →
    (s.cl c).spillsLeft = false → w.testBit 40 = false → (s.nextPc c).gateSignal (s.sreg c (srcA w)) (bits w 7 0) = (t, v) →
    exec (.gsignal c) s = .next (t.setSreg c (dstReg w) v)) ∧
  (∀ (s : State) (c : Nat) (w : Nat), s.issues c = true → s.fetchWord c = w → opc w = 0x91 → s.reservedOk c w = true →
    (s.cl c).spillsLeft = true → exec (.gsignal c) s = .next (s.steep c 7 .spills)) ∧
  (∀ (s : State) (c : Nat) (w : Nat) (t : State), s.issues c = true → s.fetchWord c = w → opc w = 0x91 → s.reservedOk c w = true →
    (s.cl c).spillsLeft = false → w.testBit 40 = true → validGate (s.sreg c (srcA w)) = true → s.sreg c (srcB w) ≠ (s.nextPc c).moduleId →
    t = ((s.nextPc c).fresh 11).2.setSreg c (dstReg w) ((s.nextPc c).fresh 11).1.toNat →
    exec (.gsignal c) s = .next (
      t.sendSignal ⟨c, s.sreg c (srcB w), s.sreg c (srcA w), bits w 7 0, (((s.nextPc c).fresh 11).2.cl c).dmaAccepted⟩)) ∧
  (∀ (s : State) (c : Nat) (w : Nat), s.issues c = true → s.fetchWord c = w → opc w = 0x91 → s.reservedOk c w = true →
    (s.cl c).spillsLeft = false → w.testBit 40 = true → validGate (s.sreg c (srcA w)) = false → s.sreg c (srcB w) ≠ (s.nextPc c).moduleId →
    exec (.gsignal c) s = .next ((s.nextPc c).setSreg c (dstReg w) (errWord .badId))) ∧
  (∀ (s : State) (c : Nat) (w : Nat), s.issues c = true → s.fetchWord c = w → opc w = 0x92 → s.reservedOk c w = true → w.testBit 1 = false →
    (s.cl c).spillsLeft = false → (s.nextPc c).waitStatus c (s.sreg c (srcA w)) true = .ok →
    exec (.gbar c) s = .next ((s.nextPc c).barrier (.arrive c (s.sreg c (srcA w)) (dstReg w) (w.testBit 0)))) ∧
  (∀ (s : State) (c : Nat) (w g : Nat) (x : PortSlot), s.issues c = true → s.fetchWord c = w → opc w = 0x92 → s.reservedOk c w = true →
    w.testBit 1 = true → (s.cl c).spillsLeft = false → s.sreg c (srcA w) = g → (s.nextPc c).waitStatus c g true = .ok →
    (s.nextPc c).slotOf c g = some x → exec (.gbarWaitOnly c) s = .next ((s.nextPc c).steep c 5 (.round g (dstReg w) 1 ((s.nextPc c).epoch g)))) ∧
  (∀ (s : State) (c : Nat) (w g : Nat), s.issues c = true → s.fetchWord c = w → opc w = 0x92 → s.reservedOk c w = true → w.testBit 1 = true →
    (s.cl c).spillsLeft = false → s.sreg c (srcA w) = g → (s.nextPc c).waitStatus c g true = .ok → (s.nextPc c).slotOf c g = none →
    exec (.gbarWaitOnly c) s = .next ((s.nextPc c).setSreg c (dstReg w) ((s.nextPc c).gateWord g (!(s.nextPc c).epoch g) .ok))) ∧
  (∀ (s : State) (c : Nat) (w g : Nat) (t : State), s.issues c = true → s.fetchWord c = w → opc w = 0x93 → s.reservedOk c w = true →
    s.sreg c (srcA w) = g → t = s.nextPc c → validGate g = true → t.gateOn g = true → w.testBit 8 = false →
    exec (.gtest c) s = .next (t.setSreg c (dstReg w) (t.gateWord g (t.isBarrier g && t.epoch g) .ok))) ∧
  (∀ (s : State) (c : Nat) (w g : Nat) (t : State), s.issues c = true → s.fetchWord c = w → opc w = 0x93 → s.reservedOk c w = true →
    s.sreg c (srcA w) = g → t = s.nextPc c → validGate g = true → t.gateOn g = true → w.testBit 8 = true → t.isBarrier g = false →
    t.gateQueue g = [] → bits w 7 0 ≤ t.gateCount g →
    exec (.gtest c) s = .next (
      let u := t.setCount g (t.gateCount g - bits w 7 0)
      u.setSreg c (dstReg w) (u.gateWord g false .ok)))

/-- A signal from outside, a commit, a reset of gates, a cascaded flip and a remote signal have their effects. Each clause names one command, what it
asks of the state and the operands, and the next state. -/
def Obligations.GateCommandsComplete : Prop :=
  (∀ (s : State) (value : Word), s.isOn .iod = true → bits value.toNat 23 16 ≠ 0 →
    exec (.stgSignal value) s = .next ((s.gateSignal (bits value.toNat 15 0) (bits value.toNat 23 16)).1)) ∧
  (∀ (s : State) (value : Word), s.isOn .iod = true → bits value.toNat 23 16 = 0 → exec (.stgSignal value) s = .next (s)) ∧
  (∀ (s : State) (g : Nat), validGate g = true → s.gatePowered g = true → exec (.gateCommit g) s = .next (s.commitGate g)) ∧
  (∀ (s : State) (g : Nat), validGate g = true → s.gatePowered g = true → exec (.gateReset g) s = .next (s.resetGate g .reset)) ∧
  (∀ (s : State) (g : Nat), g ∈ s.gates.cascade →
    exec (.barrierFlipCascade g) s = .next (
      ({ s with gates := { s.gates with cascade := s.gates.cascade.filter fun x => x ≠ g } } : State).barrier (.flip g))) ∧
  (∀ (s : State) (n : Nat) (h : HeldSig) (t : State), s.ixf.sigHeld[n]? = some h → s.trySignal h = (t, true) →
    exec (.remoteSignalSend n) s = .next ({ t with ixf := { t.ixf with sigHeld := t.ixf.sigHeld.eraseIdx n } })) ∧
  (∀ (s : State) (n : Nat) (h : HeldSig) (t : State), s.ixf.sigHeld[n]? = some h → s.trySignal h = (t, false) →
    exec (.remoteSignalSend n) s = .next (t))

/-- A mint, a grant of grains, the hold of a die, the limiter of its pumps and the DIE_HOT limit have their effects. Each clause names one command, what
it asks of the state and the operands, and the next state. -/
def Obligations.GrainCommandsComplete : Prop :=
  (∀ (s : State) (n : Nat) (meters : List (Nat × Nat)) (rail : Nat) (t : State), n < 4 → s.isOn (.core n) = true →
    t = (s.takeGrbSet.chargeMeters n meters).updateDebt n rail ((s.takeGrbSet.chargeMeters n meters).die n).minted →
    exec (.mint n meters rail) s = .next (
      let base : Int := rail - ((s.takeGrbSet.chargeMeters n meters).die n).spent
      let u := t.add64 (.grb .dieSteepLoCountLo) (.grb .dieSteepHiCountHi) n ((t.dieClusters n).filter fun c => t.getF (.clu .statusSteepCause) c == 4).length
      let m := (u.die n).mintOf
      let p := mintPool ((u.die n).pool - base) m (u.getLive (.grb .bankMaxGrains) * grain)
      let v := u.modDie n fun d => { d with pool := p.1, lapsed := d.lapsed + p.2, minted := m, spent := 0, base := base, hold := false, limit := u.brakeLimit n m }
      let x := (v.dieClusters n).foldl (fun s c => s.modCl c fun k => { k with granted := false }) v
      (x.dieClusters n).foldl (fun s c => s.wakeReserve c) x)) ∧
  (∀ (s : State) (n : Nat) (l c : Nat) (a : Int), n < 4 → s.isOn (.core n) = true → (s.die n).hold = false → 0 < (s.die n).pool →
    s.nextServed n = some (l, c) → a = max (min (s.ceilOf c - (s.cl c).reserve) (s.die n).pool) 0 →
    exec (.grainGrant n) s = .next (
      ((s.modCl c fun k => { k with reserve := k.reserve + a, granted := true }).modDie n fun d => { d with pool := d.pool - a, lastServed := l }).wakeReserve c)) ∧
  (∀ (s : State) (n : Nat) (meters : List (Nat × Nat)) (t : State), n < 4 → s.isOn (.core n) = true → t = s.chargeMeters n meters →
    (t.die n).hold = false → (t.die n).limit ≤ (t.die n).spent + (t.die n).base →
    exec (.brakeHold n meters) s = .next (
      let u := (t.modDie n fun d => { d with hold := true }).addSat (.grb .dieHoldsCount) n 1
      (u.dieClusters n).foldl (fun s c => if s.fetching c then s.steep c 4 .reserve else s) u)) ∧
  (∀ (s : State) (n : Nat) (readings : List (Nat × Int)) (sourceMw : List (Nat × Nat)), n < 4 → s.isOn (.core n) = true →
    exec (.hotSpotLimiter n readings sourceMw) s = .next (s.hotSpots n readings sourceMw)) ∧
  (∀ (s : State) (n : Nat) (t : State) (v : BitVec 32), n < 4 → s.isOn (.core n) = true → s.dieTooHot n = true → s.fresh 32 = (v, t) →
    exec (.dieHotTimeout n) s = .next (
      let low := 25 * watt + v.toNat % ((t.die n).thermUw - 25 * watt)
      t.modDie n fun d => { d with hotUw := some low, thermUw := min d.thermUw low }))

/-- The control cycle of the active Kiln and of a module in NONE, the host cap, rack messages accepted, repeated or spoilt, leases, protection falls,
stale dies, CAP_STATUS and the commit of the grain set, at once or held, have their effects. Each clause names one command, what it asks of the
state and the operands, and the next state. -/
def Obligations.CapCommandsComplete : Prop :=
  (∀ (s : State) (m : Meas) (checks : Checks) (k : Kiln), s.isOn .aux = true → s.active = some k →
    exec (.controlCycle m checks) s = .next (
      let t := ((s.latchMeas m).offTimes.heartbeats m.moved).configCommit.showProgress
      let u := (t.copyMoves m.copied).beginPeriod false (t.takeReadings m.shadow).refresh
      ((List.range 8).foldl (fun s z => s.suspectZone z) u).thermalCycle.capCycle.ageCycle.sendSummary.rejectImages.endCycle k checks)) ∧
  (∀ (s : State) (m : Meas) (checks : Checks), s.isOn .aux = true → s.active = none →
    exec (.controlCycle m checks) s = .next (((s.ageCycle.ageCopy .ka).ageCopy .kb).beginPeriod false (s.takeReadings m.shadow).refresh)) ∧
  (∀ (s : State) (k : Nat) (c : StackCut), s.grn.stackCuts.get? k = some c → s.kilnActs = true → c.esc = false →
    exec (.stackHotEscalate k) s = .next ({ s with grn := { s.grn with stackCuts := s.grn.stackCuts.set k { c with esc := true } } })) ∧
  (∀ (s : State) (value : Word) (t : State), s.isOn .aux = true → t = s.setF (.grb .capHostCapW) 0 value.toNat →
    exec (.capHostWrite value) s = .next (
      let u := t.setFlag (.grb .capStatusHostClamped) 0 t.hostClamped
      if u.hostClamped then u.grbEvent 6 else u)) ∧
  (∀ (s : State) (p : Nat) (frame : RowFrame) (t u : State), s.rowHear p frame = (t, true) → t.forUs frame 0x20 = true →
    t.rowAccept p frame (((frame.data.take 8).drop 4).all (· == 0)) = (u, true) →
    exec (.rackCap p frame) s = .next (u.rackMessage p (leNat ((frame.data.drop 2).take 2)) (frame.data.getD 1 0).toNat)) ∧
  (∀ (s : State) (p : Nat) (frame : RowFrame) (t u : State), s.rowHear p frame = (t, true) → t.forUs frame 0x20 = true →
    t.rowAccept p frame (((frame.data.take 8).drop 4).all (· == 0)) = (u, false) → exec (.rackCap p frame) s = .next (u)) ∧
  (∀ (s : State) (p : Nat) (frame : RowFrame) (t : State), s.rowHear p frame = (t, false) → exec (.rackCap p frame) s = .next (t)) ∧
  (∀ (s : State) (value : Word), s.isOn .aux = true → exec (.rackCfgWrite value) s = .next (s.rackCfg value.toNat)) ∧
  (∀ (s : State), s.getF (.grb .rackCfgLeaseS) ≠ 0 → s.flag (.grb .capRackLeaseExpired) = false →
    exec .rackLeaseExpiry s = .next (
      let t := s.setF (.grb .capRackLeaseExpired) 0 1
      (t.setF (.grb .capRackCapW) 0 t.rackCapW).grbEvent 4)) ∧
  (∀ (s : State) (k : Kiln) (capW : Nat) (dieW : List Nat), s.isOn .aux = true → (s.kln.kiln k).up = true → s.active = some k →
    exec (.protectionFall k capW dieW) s = .next (s.protFall 5 (max 700 capW * watt) (dieW.map fun w => max 25 w * watt))) ∧
  (∀ (s : State) (k : Kiln) (capW : Nat) (dieW : List Nat) (a : Kiln), s.isOn .aux = true → (s.kln.kiln k).up = true → s.active = some a → a ≠ k →
    exec (.protectionFall k capW dieW) s = .next (
      ({ s with kln := { s.kln with unconfirmed := some k } } : State).protFall 4 (max 700 capW * watt) (dieW.map fun w => max 25 w * watt))) ∧
  (∀ (s : State) (n : Nat), s.active = none → s.isOn (.core n) = true →
    exec (.dieCapStale n) s = .next (s.modDie n fun d => { d with capUw := min d.capUw (175 * watt) })) ∧
  (∀ (s : State), s.active.isSome = true →
    exec .capStatusPeriodic s = .next (
      let t := (s.sendCapStatus false).served 3
      { t with grn := { t.grn with sentUw := t.grn.appliedUw } })) ∧
  (∀ (s : State), s.isOn .aux = true → s.flag (.grb .commitStatusBusy) = false → exec .grbCommit s = .next (s.commitGrb)) ∧
  (∀ (s : State), s.isOn .aux = true → s.flag (.grb .commitStatusBusy) = true → 2 ∉ s.heldCommits →
    exec .grbCommit s = .next ({ s with heldCommits := s.heldCommits ++ [2] }))

/-- A port trains, waits for its ID or fails, retries, retrains and loses lanes; a flit is taken on a link that is UP; the writes of RETRAIN, ENABLE and
PARK have their effects. Each clause names one command, what it asks of the state and the operands, and the next state. -/
def Obligations.PortCommandsComplete : Prop :=
  (∀ (s : State) (k : Nat) (t : Train), k < 12 → s.isOn .iod = true → s.isOn (.opt k) = true → s.flag (.ixf .portCtrlEnable) k = true →
    s.getF (.ixf .portStatusState) k = 1 → s.liveFlag (.ixf .moduleIdValid) = false →
    exec (.portTrain k t) s = .next (s.setF (.ixf .portStatusState) k 5)) ∧
  (∀ (s : State) (k : Nat) (t : Train) (lanes : Nat), k < 12 → s.isOn .iod = true → s.isOn (.opt k) = true →
    s.flag (.ixf .portCtrlEnable) k = true → s.getF (.ixf .portStatusState) k = 1 → s.liveFlag (.ixf .moduleIdValid) = true →
    lanes = s.lockedLanes k 8 t.lanes → trainErr t lanes 1 (some k) t.clash = 0 →
    exec (.portTrain k t) s = .next ((s.portTrained k lanes 0 t).portComesUp k lanes t)) ∧
  (∀ (s : State) (k : Nat) (t : Train) (lanes err : Nat), k < 12 → s.isOn .iod = true → s.isOn (.opt k) = true →
    s.flag (.ixf .portCtrlEnable) k = true → s.getF (.ixf .portStatusState) k = 1 → s.liveFlag (.ixf .moduleIdValid) = true →
    lanes = s.lockedLanes k 8 t.lanes → trainErr t lanes 1 (some k) t.clash = err → err ≠ 0 →
    exec (.portTrain k t) s = .next ((s.portTrained k lanes err t).portRefused k err)) ∧
  (∀ (s : State) (k : Nat), k < 12 → s.isOn .iod = true → s.isOn (.opt k) = true → s.flag (.ixf .portCtrlEnable) k = true →
    s.getF (.ixf .portStatusState) k = 0 → s.ixf.backoff.getD k 0 ≠ 0 →
    exec (.trainRetryTimer k) s = .next (s.setF (.ixf .portStatusState) k s.trainState)) ∧
  (∀ (s : State) (k : Nat), k = 12 → s.isOn .iod = true → s.flag (.ptn .ctrlEnable) = true → s.getF (.ptn .statusState) = 0 → s.ptn.backoff ≠ 0 →
    exec (.trainRetryTimer k) s = .next (s.setF (.ptn .statusState) 0 s.trainState)) ∧
  (∀ (s : State) (k : Nat), k = 13 → s.isOn .iod = true → s.getF (.thl .statusState) = 0 → s.thl.trainBackoff ≠ 0 →
    exec (.trainRetryTimer k) s = .next (s.setF (.thl .statusState) 0 1)) ∧
  (∀ (s : State) (k : Nat) (f : Flit) (corrected : Bool), s.linkLive k = true → k < 12 → corrected = true →
    exec (.flitReceive k f corrected) s = .next (((s.addSat (.ixf .portFecCorrected) k 1).takeFlit k f).serveRx.serveHeld)) ∧
  (∀ (s : State) (k : Nat) (f : Flit) (corrected : Bool), s.linkLive k = true → corrected = false →
    exec (.flitReceive k f corrected) s = .next ((s.takeFlit k f).serveRx.serveHeld)) ∧
  (∀ (s : State) (k : Nat), k < 12 → s.linkLive k = true →
    exec (.portRetrain k) s = .next ((s.addSat (.ixf .portReplayRetrains) k 1).retrainLink k)) ∧
  (∀ (s : State) (k : Nat), 12 ≤ k → s.linkLive k = true → exec (.portRetrain k) s = .next (s.retrainLink k)) ∧
  (∀ (s : State) (k : Nat) (lane : Nat), k ≠ 13 → lane < 8 → s.linkLive k = true → (s.lnk.group.getD k 0).testBit lane = true →
    exec (.laneLoss k lane) s = .next ((s.setLost k (s.lnk.lost.getD k 0 ||| 2 ^ lane)).retrainLink k)) ∧
  (∀ (s : State) (k : Nat) (lane : Nat), k ≠ 13 → lane < 8 → s.linkLive k = true → (s.lnk.group.getD k 0).testBit lane = false →
    exec (.laneLoss k lane) s = .next (s.setLost k (s.lnk.lost.getD k 0 ||| 2 ^ lane))) ∧
  (∀ (s : State) (k : Nat) (lane : Nat), k = 13 → lane < 4 → s.linkLive k = true → (s.lnk.group.getD k 0).testBit lane = true →
    exec (.laneLoss k lane) s = .next ((s.setLost k (s.lnk.lost.getD k 0 ||| 2 ^ lane)).retrainLink k)) ∧
  (∀ (s : State) (k : Nat), k < 12 → s.isOn .iod = true → exec (.portRetrainWrite k) s = .next (s.retrainWrite k)) ∧
  (∀ (s : State) (k : Nat) (value : Word), k < 12 → s.isOn .iod = true → exec (.portEnableWrite k value) s = .next (s.portEnable k value.toNat)) ∧
  (∀ (s : State) (k : Nat) (value : Word), k < 12 → s.isOn .iod = true → exec (.portParkWrite k value) s = .next (s.portPark k value.toNat))

/-- A request that is taken is served or refused, and leaves its buffer, or waits in the buffer where its channels or the mirror give no credit; an
answer finds its request and ends it. Each clause names one command, what it asks of the state and the operands, and the next state. -/
def Obligations.PacketCommandsComplete : Prop :=
  (∀ (s : State) (k : Nat) (p : Pkt) (mecc : List MemEcc) (t : State) (r : MemRes) (tags : List Nat), s.takesPkt k 1 p = true → s.lnk.rx = [] →
    s.windowGrants true p.src p.addr (pktWriteLen p) = true → (k = 12 ∨ s.mirrorFull p.addr (pktWriteLen p) = false) →
    s.chansGrant k 0 p.addr (pktWriteLen p) = true → s.memWrite p.addr (pktData p) mecc (k != 12) = (t, r, tags) →
    exec (.wrMem k p mecc) s = .next (((t.answer k p 7 r.rsp [] tags).leaveChans k p.vc).leaveBuffer k p)) ∧
  (∀ (s : State) (k : Nat) (p : Pkt) (mecc : List MemEcc), s.takesPkt k 1 p = true → s.lnk.rx = [] →
    s.windowGrants true p.src p.addr (pktWriteLen p) = false →
    exec (.wrMem k p mecc) s = .next (((s.refusePkt k p 7).leaveChans k p.vc).leaveBuffer k p)) ∧
  (∀ (s : State) (k : Nat) (p : Pkt) (mecc : List MemEcc), s.takesPkt k 1 p = true → s.lnk.rx = [] →
    s.windowGrants true p.src p.addr (pktWriteLen p) = true → k ≠ 12 → s.mirrorFull p.addr (pktWriteLen p) = true →
    exec (.wrMem k p mecc) s = .next (s.bufferPkt ⟨k, p, mecc, .clean⟩)) ∧
  (∀ (s : State) (k : Nat) (p : Pkt) (mecc : List MemEcc), s.takesPkt k 1 p = true → s.lnk.rx = [] →
    s.windowGrants true p.src p.addr (pktWriteLen p) = true → (k = 12 ∨ s.mirrorFull p.addr (pktWriteLen p) = false) →
    s.chansGrant k 0 p.addr (pktWriteLen p) = false →
    exec (.wrMem k p mecc) s = .next (
      ((s.burstChans p.addr (pktWriteLen p)).foldl (fun s x => s.joinChan k 0 x) s).bufferPkt ⟨k, p, mecc, .clean⟩)) ∧
  (∀ (s : State) (k : Nat) (p : Pkt) (c : Nat), s.takesPkt k 2 p = true → s.lnk.rx = [] → s.liveFlag (.ixf .ctrlClusterRx) = true →
    s.storeTarget p.addr (pktWriteLen p) = (0, c) →
    exec (.wrClu k p) s = .next ((((s.putStore c (offOf p.addr) (pktData p)).answer k p 7 0 []).leaveChans k p.vc).leaveBuffer k p)) ∧
  (∀ (s : State) (k : Nat) (p : Pkt), s.takesPkt k 2 p = true → s.lnk.rx = [] → s.liveFlag (.ixf .ctrlClusterRx) = false →
    exec (.wrClu k p) s = .next (((s.refusePkt k p 7).leaveChans k p.vc).leaveBuffer k p)) ∧
  (∀ (s : State) (k : Nat) (p : Pkt) (ecc : StoreEcc) (c : Nat) (t : State) (ok : Bool), s.takesPkt k 3 p = true → s.lnk.rx = [] →
    s.liveFlag (.ixf .ctrlClusterRx) = true → s.storeTarget p.addr (pktWriteLen p) = (0, c) →
    s.storeDeliver true c (offOf p.addr) (pktData p) ecc = (t, ok) →
    exec (.addClu k p ecc) s = .next (((t.answer k p 7 (if ok then 0 else 2) []).leaveChans k p.vc).leaveBuffer k p)) ∧
  (∀ (s : State) (k : Nat) (p : Pkt) (mecc : List MemEcc) (t : State) (r : MemRes) (b : List Byte), s.takesPkt k 4 p = true → s.lnk.rx = [] →
    s.windowGrants false p.src p.addr (pktReadLen p) = true → s.chansGrant k 0 p.addr (pktReadLen p) = true →
    s.memRead p.addr (pktReadLen p) mecc = (t, r, b) →
    exec (.rdMem k p mecc) s = .next (((t.answer k p 6 r.rsp b).leaveChans k p.vc).leaveBuffer k p)) ∧
  (∀ (s : State) (k : Nat) (p : Pkt) (mecc : List MemEcc), s.takesPkt k 4 p = true → s.lnk.rx = [] →
    s.windowGrants false p.src p.addr (pktReadLen p) = false →
    exec (.rdMem k p mecc) s = .next (((s.refusePkt k p 6).leaveChans k p.vc).leaveBuffer k p)) ∧
  (∀ (s : State) (k : Nat) (p : Pkt) (mecc : List MemEcc), s.takesPkt k 4 p = true → s.lnk.rx = [] →
    s.windowGrants false p.src p.addr (pktReadLen p) = true → s.chansGrant k 0 p.addr (pktReadLen p) = false →
    exec (.rdMem k p mecc) s = .next (
      ((s.burstChans p.addr (pktReadLen p)).foldl (fun s x => s.joinChan k 0 x) s).bufferPkt ⟨k, p, mecc, .clean⟩)) ∧
  (∀ (s : State) (k : Nat) (p : Pkt) (ecc : StoreEcc) (c : Nat) (t : State) (b : List Byte), s.takesPkt k 5 p = true → s.lnk.rx = [] →
    s.liveFlag (.ixf .ctrlClusterRx) = true → s.storeTarget p.addr (pktReadLen p) = (0, c) →
    s.storeRead c (offOf p.addr) (pktReadLen p) ecc = (t, some b) →
    exec (.rdClu k p ecc) s = .next (((t.answer k p 6 0 b).leaveChans k p.vc).leaveBuffer k p)) ∧
  (∀ (s : State) (k : Nat) (p : Pkt) (ecc : StoreEcc) (r : RemReq) (j i : Nat) (d : Dma) (q : Piece), s.takesPkt k 6 p = true →
    s.findReq p.tag = some r → r.kind = 0 → r.dst = p.src → p.status = 0 → ((s.dropReq p.tag).cl r.cluster).findTag p.tag = some (j, i) →
    ((s.dropReq p.tag).cl r.cluster).dmas[j]? = some d → d.pieces[i]? = some q →
    exec (.rdRsp k p ecc) s = .next (((s.dropReq p.tag).pieceData r.cluster j i q (p.payload.take q.len) ecc).leaveBuffer k p)) ∧
  (∀ (s : State) (k : Nat) (p : Pkt) (ecc : StoreEcc) (r : RemReq), s.takesPkt k 6 p = true → s.findReq p.tag = some r → r.kind = 0 →
    r.dst = p.src → p.status ≠ 0 →
    exec (.rdRsp k p ecc) s = .next (((s.dropReq p.tag).answerTag r.cluster p.tag (rspStatus p.status)).leaveBuffer k p)) ∧
  (∀ (s : State) (k : Nat) (p : Pkt) (r : RemReq), s.takesPkt k 7 p = true → s.findReq p.tag = some r → r.kind = 1 → r.dst = p.src →
    exec (.wrAck k p) s = .next (((s.dropReq p.tag).answerTag r.cluster p.tag (rspStatus p.status)).leaveBuffer k p)) ∧
  (∀ (s : State) (k : Nat) (p : Pkt) (t : State) (word : Nat), s.takesPkt k 8 p = true → s.lnk.rx = [] → validGate p.gate = true →
    s.liveFlag (.stg .gateCfgRemoteOk) p.gate = true → s.gateSignal p.gate (p.inc % 256) = (t, word) → word / 2 ^ 12 = 0 →
    exec (.sig k p) s = .next (((t.answer k p 9 0 []).leaveChans k p.vc).leaveBuffer k p)) ∧
  (∀ (s : State) (k : Nat) (p : Pkt), s.takesPkt k 8 p = true → s.lnk.rx = [] → validGate p.gate = false →
    exec (.sig k p) s = .next ((((s.gateErr (.stg .errRemoteRej) p.gate p.src).answer k p 9 3 []).leaveChans k p.vc).leaveBuffer k p)) ∧
  (∀ (s : State) (k : Nat) (p : Pkt) (r : RemReq), s.takesPkt k 9 p = true → s.findReq p.tag = some r → r.kind = 2 → r.dst = p.src →
    p.status = 0 → exec (.sigAck k p) s = .next ((s.dropReq p.tag).leaveBuffer k p)) ∧
  (∀ (s : State) (k : Nat) (p : Pkt) (r : RemReq), s.takesPkt k 9 p = true → s.findReq p.tag = some r → r.kind = 2 → r.dst = p.src →
    p.status = 3 → exec (.sigAck k p) s = .next (((s.dropReq p.tag).gateErr (.stg .errRemoteRej) r.aux r.dst).leaveBuffer k p)) ∧
  (∀ (s : State) (k : Nat) (p : Pkt) (r : RemReq), s.takesPkt k 9 p = true → s.findReq p.tag = some r → r.kind = 2 → r.dst = p.src →
    p.status ≠ 0 → p.status ≠ 3 → exec (.sigAck k p) s = .next (((s.dropReq p.tag).signalLost r.aux r.dst).leaveBuffer k p))

/-- READY, data and acknowledgements of a collective, its start, end and limit, and the notices of reach move the fabric state as their rules give, and
each packet leaves its buffer. Each clause names one command, what it asks of the state and the operands, and the next state. -/
def Obligations.CollectiveAndNoticeCommandsComplete : Prop :=
  (∀ (s : State) (k : Nat) (p : Pkt) (mecc : List MemEcc) (ch : Nat), s.takesPkt k 0x10 p = true → s.lnk.rx = [] →
    s.collOf (bits p.aux 21 16) (bits p.aux 15 0) = some ch →
    exec (.collReady k p mecc) s = .next (
      ((s.takeReady ch ⟨bits p.aux 21 16, bits p.aux 15 0, p.src, bits p.addr 34 32, bits p.addr 36 35, bits p.addr 31 0, bits p.addr 44 37⟩ mecc).leaveChans k p.vc).leaveBuffer k p)) ∧
  (∀ (s : State) (k : Nat) (p : Pkt) (mecc : List MemEcc), s.takesPkt k 0x10 p = true → s.lnk.rx = [] →
    s.collOf (bits p.aux 21 16) (bits p.aux 15 0) = none → (bits p.aux 15 0 + 2 ^ 16 - s.getF (.ixf .grpSeqSeq) (bits p.aux 21 16)) % 2 ^ 16 ≤ 1 →
    exec (.collReady k p mecc) s = .next (
      ((({ s with ixf := { s.ixf with readies := (s.ixf.readies.filter fun x => !(x.group == bits p.aux 21 16 && x.seq == bits p.aux 15 0 && x.src == p.src)) ++ [⟨bits p.aux 21 16, bits p.aux 15 0, p.src, bits p.addr 34 32, bits p.addr 36 35, bits p.addr 31 0, bits p.addr 44 37⟩] } } : State)).leaveChans k p.vc).leaveBuffer k p)) ∧
  (∀ (s : State) (k : Nat) (p : Pkt) (mecc : List MemEcc) (ch j a : Nat) (q : Coll) (add : Bool) (t : State) (b : List Byte) (tags : List Nat),
    s.takesPkt k 0x11 p = true → s.lnk.rx = [] → s.collOf (bits p.aux 21 16) (bits p.aux 15 0) = some ch → s.coll ch = some q →
    q.members.findIdx? (· == p.src) = some j → q.landing (p.status % 2) j (p.addr % 2 ^ 40) = some (a, add) → p.status % 2 = 0 →
    b = p.payload.take (min (64 * p.len) (q.count * q.es - p.addr % 2 ^ 40)) → s.mirrorFull a b.length = false →
    s.chansGrant k 2 a b.length = true → s.collApply a add b mecc = (t, true, tags) →
    exec (.collData k p mecc) s = .next (
      ((((t.setColl ch { q with got := q.got ++ (List.range p.len).map fun i => (p.addr % 2 ^ 40 / 64 + i, j) }).answer k p 0x12 0 [] tags).collPush ch []).leaveChans k p.vc).leaveBuffer k p)) ∧
  (∀ (s : State) (k : Nat) (p : Pkt) (mecc : List MemEcc) (ch j : Nat) (q : Coll), s.takesPkt k 0x11 p = true → s.lnk.rx = [] →
    s.collOf (bits p.aux 21 16) (bits p.aux 15 0) = some ch → s.coll ch = some q → q.members.findIdx? (· == p.src) = some j →
    q.landing (p.status % 2) j (p.addr % 2 ^ 40) = none →
    exec (.collData k p mecc) s = .next (((s.answer k p 0x12 1 []).leaveChans k p.vc).leaveBuffer k p)) ∧
  (∀ (s : State) (k : Nat) (p : Pkt) (r : RemReq) (q : Coll), s.takesPkt k 0x12 p = true → s.findReq p.tag = some r → r.kind = 3 → r.dst = p.src →
    p.status = 0 → (s.dropReq p.tag).coll r.aux = some q →
    exec (.collAck k p) s = .next (((s.dropReq p.tag).setColl r.aux { q with tags := q.tags.filter (· ≠ p.tag) }).leaveBuffer k p)) ∧
  (∀ (s : State) (k : Nat) (p : Pkt) (r : RemReq), s.takesPkt k 0x12 p = true → s.findReq p.tag = some r → r.kind = 3 → r.dst = p.src →
    p.status ≠ 0 → exec (.collAck k p) s = .next (((s.dropReq p.tag).collFinish r.aux 4).leaveBuffer k p)) ∧
  (∀ (s : State) (ch : Nat) (mecc : List MemEcc) (g addr : Nat) (t u : State) (b : List Byte), ch < 16 → s.isOn .iod = true →
    s.liveFlag (.ixf .collCfgEnable) ch = true → s.coll ch = none → g = s.getLive (.ixf .collCfgStartGate) ch → validGate g = true →
    s.gateOn g = true → s.isBarrier g = false → s.gateQueue g = [] → 1 ≤ s.gateCount g →
    t = (s.setCount g (s.gateCount g - 1)).addWrap (.ixf .collNextIndex) ch 1 →
    addr = t.getLive (.ixf .collQLoQLo) ch * 2 ^ 12 + t.getLive (.ixf .collQHiQHi) ch * 2 ^ 32 + 64 * ((s.setCount g (s.gateCount g - 1)).getF (.ixf .collNextIndex) ch % 2 ^ t.getLive (.ixf .collCfgQsizeLog2) ch) →
    t.memRead addr 64 mecc = (u, .ok, b) → exec (.collStart ch mecc) s = .next (u.collBegin ch addr b [])) ∧
  (∀ (s : State) (ch : Nat) (k : Coll), s.coll ch = some k → k.complete = true → exec (.collComplete ch) s = .next (s.collFinish ch 1)) ∧
  (∀ (s : State) (ch : Nat), exec (.collTimeout ch) s = .next (s.collFinish ch 6)) ∧
  (∀ (s : State) (k : Nat) (p : Pkt), s.takesPkt k 0x18 p = true → p.status = 1 →
    exec (.noticeDown k p) s = .next (
      ((((((s.setReach k p.src false).setDown k p.src true).holdChanged s).addSat (.ixf .portNoticeDown) k 1).declareDown p.src).collCheck).leaveBuffer k p)) ∧
  (∀ (s : State) (k : Nat) (p : Pkt), s.takesPkt k 0x18 p = true → p.status = 2 →
    exec (.noticeUp k p) s = .next ((((((s.setReach k p.src true).setDown k p.src false).holdChanged s)).collCheck).leaveBuffer k p)) ∧
  (∀ (s : State) (k : Nat) (p : Pkt), s.takesPkt k 0x18 p = true → p.status = 3 →
    exec (.noticeUnreach k p) s = .next (
      ((((((s.setReach k p.src false).setDown k p.src false).holdChanged s).addSat (.ixf .portNoticeUnreach) k 1).unreached p.src p.tag).collCheck).leaveBuffer k p)) ∧
  (∀ (s : State) (k : Nat) (p : Pkt), s.takesPkt k 0x18 p = true → p.status = 4 →
    exec (.noticeParked k p) s = .next ((((((s.setReach k p.src false).setDown k p.src false).holdChanged s)).collCheck).leaveBuffer k p)) ∧
  (∀ (s : State) (x : Nat), x ∉ s.hashedDsts →
    exec (.hashSetResume x) s = .next ({ s with ixf := { s.ixf with hashHeld := s.ixf.hashHeld.filter fun y => y ≠ x } })) ∧
  (∀ (s : State) (x : Nat), s.isOn .iod = true → exec (.fenceClr x) s = .next (s.fenceClear (x % 2 ^ 14))) ∧
  (∀ (s : State) (x : Nat), s.isOn .iod = true → exec (.reachQuery x) s = .next (s.reachQuery (x % 2 ^ 14))) ∧
  (∀ (s : State), s.isOn .iod = true → exec .ixfCommit s = .next (s.commitIxf))

/-- Mirrored writes, summaries, resynchronisation, training and loss of the partner link, fences and its commit have their effects. Each clause names
one command, what it asks of the state and the operands, and the next state. -/
def Obligations.PartnerCommandsComplete : Prop :=
  (∀ (s : State) (p : Pkt) (mecc : List MemEcc) (t : State) (r : MemRes) (tags : List Nat), s.takesPkt 12 0x20 p = true → s.lnk.rx = [] →
    s.rxWindow p.addr (pktWriteLen p) = true → s.chansGrant 12 0 p.addr (pktWriteLen p) = true →
    s.memWrite p.addr (pktData p) mecc false = (t, r, tags) →
    exec (.mirWr p mecc) s = .next (((t.answer 12 p 0x21 r.rsp []).leaveChans 12 p.vc).leaveBuffer 12 p)) ∧
  (∀ (s : State) (p : Pkt) (mecc : List MemEcc), s.takesPkt 12 0x20 p = true → s.lnk.rx = [] → s.rxWindow p.addr (pktWriteLen p) = false →
    exec (.mirWr p mecc) s = .next (((s.answer 12 p 0x21 3 []).leaveChans 12 p.vc).leaveBuffer 12 p)) ∧
  (∀ (s : State) (p : Pkt) (r : RemReq), s.takesPkt 12 0x21 p = true → s.findReq p.tag = some r → (r.kind = 4 ∨ r.kind = 5) → p.status = 0 →
    exec (.mirAck p) s = .next ((s.mirrorDone p.tag).leaveBuffer 12 p)) ∧
  (∀ (s : State) (p : Pkt) (r : RemReq), s.takesPkt 12 0x21 p = true → s.findReq p.tag = some r → (r.kind = 4 ∨ r.kind = 5) → p.status ≠ 0 →
    exec (.mirAck p) s = .next (((s.mirrorBad r.aux r.len p.status).mirrorDone p.tag).leaveBuffer 12 p)) ∧
  (∀ (s : State) (p : Pkt), s.takesPkt 12 0x22 p = true → s.lnk.rx = [] →
    exec (.summary p) s = .next (
      ((((List.range 16).foldl (fun s m => s.setF (.ptn .sumBytes) m (leNat ((p.payload.drop (4 * m)).take 4))) s).setF (.ptn .sumAgeMs) 0 0).leaveChans 12 p.vc).leaveBuffer 12 p)) ∧
  (∀ (s : State), s.portUp 12 = true → exec .summaryTimeout s = .next (s.partnerLost)) ∧
  (∀ (s : State) (t : Train), s.isOn .iod = true → s.sec.orderP = false → exec (.ptnTrain t) s = .next (s.setF (.ptn .statusState) 0 4)) ∧
  (∀ (s : State) (t : Train), s.isOn .iod = true → s.sec.orderP = true → s.flag (.ptn .ctrlEnable) = true → s.getF (.ptn .statusState) = 1 →
    s.liveFlag (.ixf .moduleIdValid) = false → exec (.ptnTrain t) s = .next (s.setF (.ptn .statusState) 0 5)) ∧
  (∀ (s : State) (t : Train) (lanes : Nat), s.isOn .iod = true → s.sec.orderP = true → s.flag (.ptn .ctrlEnable) = true →
    s.getF (.ptn .statusState) = 1 → s.liveFlag (.ixf .moduleIdValid) = true → lanes = s.lockedLanes 12 8 t.lanes →
    trainErr t lanes 2 none (t.farId == s.moduleId) = 0 → exec (.ptnTrain t) s = .next ((s.ptnTrained lanes 0 t).ptnComesUp lanes t 1)) ∧
  (∀ (s : State) (t : Train) (lanes err : Nat), s.isOn .iod = true → s.sec.orderP = true → s.flag (.ptn .ctrlEnable) = true →
    s.getF (.ptn .statusState) = 1 → s.liveFlag (.ixf .moduleIdValid) = true → lanes = s.lockedLanes 12 8 t.lanes →
    trainErr t lanes 2 none (t.farId == s.moduleId) = err → err ≠ 0 → exec (.ptnTrain t) s = .next ((s.ptnTrained lanes err t).ptnRefused err)) ∧
  (∀ (s : State) (retrain : Bool), s.portUp 12 = true → retrain = true → exec (.ptnLinkDown retrain) s = .next (s.ptnLeave 3)) ∧
  (∀ (s : State) (retrain : Bool), s.portUp 12 = true → retrain = false →
    exec (.ptnLinkDown retrain) s = .next (({ s with ptn := { s.ptn with backoff := nextBackoff s.ptn.backoff } } : State).ptnLeave 0)) ∧
  (∀ (s : State), s.isOn .iod = true → exec .ptnRetrainWrite s = .next (s.ptnRetrain)) ∧
  (∀ (s : State), s.isOn .iod = true → exec .ptnFenceClr s = .next (s.ptnFenceClear)) ∧
  (∀ (s : State), s.isOn .iod = true → exec .ptnCommit s = .next (s.commitPtn)) ∧
  (∀ (s : State) (b : Nat) (t : State), s.mirrorLink = true → s.sec.orderP = true → s.ptn.copy = none → s.nextDirty = some b →
    t = (({ s with ptn := { s.ptn with copy := some (b, false) } } : State).setF (.ptn .resyncRegion) 0 (b / 2 ^ 15)).setF (.ptn .resyncActive) 0 1 →
    exec .partnerResync s = .next (
      let u := t.setF (.ptn .resyncProgress) 0 (t.cleanPct (b / 2 ^ 15))
      State.copyPackets (2 ^ 21 / u.maxPayload 12) u (b / 2 ^ 15) (u.maxPayload 12) (u.getLive (.mem .mirCfgBaseGib) (b / 2 ^ 15) * 2 ^ 30 + b % 2 ^ 15 * 2 ^ 21))) ∧
  (∀ (s : State) (b : Nat) (t : State), s.ptn.copy = some (b, false) → (s.ixf.reqs.any fun r => r.kind == 5) = false →
    t = ({ s with ptn := { s.ptn with copy := none, dirty := s.ptn.dirty.filter fun x => x ≠ b } } : State).syncCheck (b / 2 ^ 15) →
    exec .resyncBlockDone s = .next (
      (t.setF (.ptn .resyncProgress) 0 (t.cleanPct (b / 2 ^ 15))).setFlag (.ptn .resyncActive) 0 t.nextDirty.isSome))

/-- Training and loss of the host link, its commit, the watchdog and heartbeat, event consumption and interrupt hold-off have their effects. Each clause
names one command, what it asks of the state and the operands, and the next state. -/
def Obligations.HostLinkCommandsComplete : Prop :=
  (∀ (s : State) (t : Train) (lanes : Nat), s.isOn .iod = true → s.getF (.thl .statusState) = 1 → lanes = s.lockedLanes 13 4 t.lanes →
    thlErr t lanes = 0 →
    exec (.thlTrain t) s = .next (
      let u := ((s.thlTrained lanes 0 t).setF (.thl .statusState) 0 2).setF (.thl .statusWidth) 0 ((commonWidth lanes t.far).getD 0)
      ({ u with thl := { u.thl with trainBackoff := 0 } } : State).linkTrained 13 lanes t false)) ∧
  (∀ (s : State) (t : Train) (lanes : Nat), s.isOn .iod = true → s.getF (.thl .statusState) = 3 → lanes = s.lockedLanes 13 4 t.lanes →
    thlErr t lanes = 0 →
    exec (.thlTrain t) s = .next (
      let u := ((s.thlTrained lanes 0 t).setF (.thl .statusState) 0 2).setF (.thl .statusWidth) 0 ((commonWidth lanes t.far).getD 0)
      ({ u with thl := { u.thl with trainBackoff := 0 } } : State).linkTrained 13 lanes t true)) ∧
  (∀ (s : State) (t : Train) (lanes err : Nat), s.isOn .iod = true → (s.getF (.thl .statusState) = 1 ∨ s.getF (.thl .statusState) = 3) →
    lanes = s.lockedLanes 13 4 t.lanes → thlErr t lanes = err → err ≠ 0 →
    exec (.thlTrain t) s = .next (
      let u := ((s.thlTrained lanes err t).setF (.thl .statusState) 0 0).setF (.thl .statusTrainErr) 0 err
      { u with thl := { u.thl with trainBackoff := nextBackoff u.thl.trainBackoff } })) ∧
  (∀ (s : State), s.isOn .iod = true → exec .thlRetrainWrite s = .next (s.thlRetrainWrite)) ∧
  (∀ (s : State), s.isOn .iod = true → s.getF (.thl .statusState) = 0 →
    exec .hostLinkLoss s = .next (
      let t := ((List.range 512).filter fun r => s.dropHost.cqHost r && s.dropHost.flag (.wiq .ringCtrlEnable) r).foldl (fun s r => s.enableWrite r 0) s.dropHost
      (t.clu.map (·.1)).foldl (fun s c => s.hostTokens c) t)) ∧
  (∀ (s : State) (u : State), s.isOn .iod = true → s.getF (.thl .statusState) = 3 → u = (s.setF (.thl .statusState) 0 1).dropHost →
    exec .hostLinkLoss s = .next (
      let t := ((List.range 512).filter fun r => u.cqHost r && u.flag (.wiq .ringCtrlEnable) r).foldl (fun s r => s.enableWrite r 0) u
      (t.clu.map (·.1)).foldl (fun s c => s.hostTokens c) t)) ∧
  (∀ (s : State), s.isOn .iod = true → exec .thlCommit s = .next (s.commitThl)) ∧
  (∀ (s : State) (t : State), s.isOn .iod = true → s.getF (.thl .hostWdTimeoutS) ≠ 0 → s.flag (.thl .statusHostSilent) = false →
    t = (s.setF (.thl .statusHostSilent) 0 1).postMod 7 (s.getF (.thl .hostWdTimeoutS)) →
    exec .hostWatchdogExpiry s = .next (if t.flag (.thl .hostWdAction) then t.parkCommand else t)) ∧
  (∀ (s : State), s.isOn .iod = true → exec .hostHeartbeat s = .next (s.hostBeat)) ∧
  (∀ (s : State) (value : Word), s.isOn .iod = true → exec (.evqConsWrite value) s = .next (s.evqCons value.toNat)) ∧
  (∀ (s : State), s.evqSlotFree = true → s.thl.droppedSince = 0 → s.writeHeld.thl.droppedSince = 0 → exec .heldEventWrite s = .next (s.writeHeld)) ∧
  (∀ (s : State), s.evqSlotFree = true → s.thl.droppedSince ≠ 0 → s.thl.heldEvents.length < 64 → exec .heldEventWrite s = .next (s.writeOverflow)) ∧
  (∀ (s : State) (v : Nat), v ∈ s.thl.holdoff → v ∉ s.thl.irqWaiting →
    exec (.irqHoldoffExpiry v) s = .next (
      { s with thl := { s.thl with holdoff := s.thl.holdoff.filter fun x => x ≠ v, irqWaiting := s.thl.irqWaiting.filter fun x => x ≠ v } })) ∧
  (∀ (s : State) (v : Nat) (t : State), v ∈ s.thl.holdoff → v ∈ s.thl.irqWaiting →
    t = ({ s with thl := { s.thl with holdoff := s.thl.holdoff.filter fun x => x ≠ v, irqWaiting := s.thl.irqWaiting.filter fun x => x ≠ v } } : State) →
    (t.getF (.thl .irqStatusPending)).testBit v = true → (t.getF (.thl .irqEnEn)).testBit v = true →
    exec (.irqHoldoffExpiry v) s = .next (
      let u := t.sendHost (intPkt v)
      { u with thl := { u.thl with holdoff := u.thl.holdoff ++ [v] } }))

/-- Each mailbox command runs on a doorbell that the mailbox takes, is refused where its rule says, and long commands end by their report. Each clause
names one command, what it asks of the state and the operands, and the next state. -/
def Obligations.MailboxCommandsComplete : Prop :=
  (∀ (s : State), s.mbxTakes 0x01 = true → exec .getInfo s = .next (s.mbxBegun.mbxRespond 0 s.mbxBegun.infoData)) ∧
  (∀ (s : State), s.mbxTakes 0x02 = true → exec .getStatus s = .next (s.mbxBegun.mbxRespond 0 s.mbxBegun.statusData)) ∧
  (∀ (s : State) (readOk : Bool) (mecc : List MemEcc), s.mbxTakes 0x03 = true →
    exec (.configure readOk mecc) s = .next (s.mbxBegun.configure readOk mecc)) ∧
  (∀ (s : State) (readOk : Bool) (writeOk : Bool) (mecc : List MemEcc), s.mbxTakes 0x04 = true →
    exec (.imageUpdate readOk writeOk mecc) s = .next (s.mbxBegun.imageUpdate readOk writeOk mecc)) ∧
  (∀ (s : State) (found : List PairBad), s.mbxTakes 0x05 = true → exec (.memTest found) s = .next (s.mbxBegun.memTest found)) ∧
  (∀ (s : State), s.mbxTakes 0x06 = true → exec .drain s = .next ((s.mbxBegun.startDrain s.mbxBegun.drainParam).mbxRespond 0 [])) ∧
  (∀ (s : State), s.mbxTakes 0x07 = true → s.mbxBegun.resumeBarred = false → exec .resume s = .next (s.mbxBegun.resume.mbxRespond 0 [])) ∧
  (∀ (s : State), s.mbxTakes 0x07 = true → s.mbxBegun.resumeBarred = true → exec .resume s = .next (s.mbxBegun.mbxRespond 2 [])) ∧
  (∀ (s : State), s.mbxTakes 0x08 = true → exec .park s = .next (s.mbxBegun.parkCommand.mbxRespond 0 [])) ∧
  (∀ (s : State), s.mbxTakes 0x09 = true → s.mbxBegun.resumeBarred = false → s.mbxBegun.power.parked = true →
    exec .unpark s = .next (s.mbxBegun.leavePark.mbxRespond 0 [])) ∧
  (∀ (s : State), s.mbxTakes 0x0A = true → s.mbxBegun.flag (.mod .removeRequest) = false →
    exec .remove s = .next ((s.mbxBegun.startRemoval 1).mbxRespond 0 [])) ∧
  (∀ (s : State), s.mbxTakes 0x0B = true → exec .memAlloc s = .next (s.mbxBegun.memAlloc)) ∧
  (∀ (s : State), s.mbxTakes 0x0C = true → (s.mbxBegun.thl.extents.any fun e => e.handle == s.mbxBegun.mbxParam 8 4) = true →
    exec .memFree s = .next ((s.mbxBegun.journalAdd ⟨extentEntry, [0x0C, s.mbxBegun.mbxParam 8 4]⟩).mbxRan 0 [])) ∧
  (∀ (s : State), s.mbxTakes 0x0C = true → (s.mbxBegun.thl.extents.any fun e => e.handle == s.mbxBegun.mbxParam 8 4) = false →
    exec .memFree s = .next (s.mbxBegun.mbxRespond 0xA [])) ∧
  (∀ (s : State), s.mbxTakes 0x0D = true → exec .attest s = .next (s.mbxBegun.attest)) ∧
  (∀ (s : State), s.mbxTakes 0x0E = true → exec .caskRead s = .next (s.mbxBegun.caskRead)) ∧
  (∀ (s : State), s.mbxTakes 0x0F = true → s.mbxBegun.standbyHealthy = true →
    exec .kilnHandover s = .next ((s.mbxBegun.mbxRespond 0 (leBytes 1 (1 - s.mbxBegun.activeIdx))).planHandover 1)) ∧
  (∀ (s : State), s.mbxTakes 0x0F = true → s.mbxBegun.standbyHealthy = false → exec .kilnHandover s = .next (s.mbxBegun.mbxRespond 2 [])) ∧
  (∀ (s : State), s.mbxTakes 0x10 = true → s.mbxBegun.sec.orderP = true →
    exec .partnerQuery s = .next (s.mbxBegun.mbxRespond 0 s.mbxBegun.partnerData)) ∧
  (∀ (s : State), s.mbxTakes 0x10 = true → s.mbxBegun.sec.orderP = false → exec .partnerQuery s = .next (s.mbxBegun.mbxRespond 3 [])) ∧
  (∀ (s : State) (st : Nat) (data : List Byte), s.kilnActs = true → s.thl.mbxRun = true → s.getF (.thl .mbxStateState) = 2 →
    s.reportPending = false → s.configCommit.thl.mbxResult = some (st, data) →
    exec .mbxLongComplete s = .next ((s.configCommit.setF (.thl .mbxStateProgress) 0 100).mbxRespond st data)) ∧
  (∀ (s : State), s.kilnActs = true → s.thl.mbxRun = true → exec .mbxCommandTimeout s = .next (s.mbxTimeout))

/-- A claim takes ACT_OWN, a release, a missed strobe and a reset give it up, and standby, stale and late claims act as their rules give. Each clause
names one command, what it asks of the state and the operands, and the next state. -/
def Obligations.InterlockCommandsComplete : Prop :=
  (∀ (s : State) (ka : Bool) (kb : Bool), ka = true → kb = true → s.canTake .ka = true → s.canTake .kb = true →
    exec (.actOwnClaim ka kb) s = .next (s.takeOver s.claimWinner)) ∧
  (∀ (s : State) (ka : Bool) (kb : Bool), ka = true → s.canTake .ka = true → (kb && s.canTake .kb) = false →
    exec (.actOwnClaim ka kb) s = .next (s.takeOver .ka)) ∧
  (∀ (s : State) (ka : Bool) (kb : Bool), kb = true → s.canTake .kb = true → (ka && s.canTake .ka) = false →
    exec (.actOwnClaim ka kb) s = .next (s.takeOver .kb)) ∧
  (∀ (s : State) (k : Kiln), s.kln.owner = some k →
    exec (.actOwnRelease k) s = .next (s.release k (if s.kln.planned = 0 then 3 else s.kln.planned))) ∧
  (∀ (s : State) (k : Kiln), s.active = some k → exec .strobeTimeout s = .next ((s.toNone 4).startRestart k 2)) ∧
  (∀ (s : State) (k : Kiln), s.active = some k → exec .holderReset s = .next ((s.toNone 5).startRestart k 2)) ∧
  (∀ (s : State) (k : Kiln), s.canTake k = true → s.healthy k = true → exec (.standbyClaim k) s = .next (s.takeOver k)) ∧
  (∀ (s : State) (k : Kiln), s.canTake k = true → s.staleFor k = true → exec (.staleClaim k) s = .next (s.takeOver k)) ∧
  (∀ (s : State) (k : Kiln), s.kln.lastOwner = some k → s.canTake k = true → (s.kln.noneCause = 1 ∨ s.kln.noneCause = 2) →
    exec .handoverClaimTimeout s = .next (
      (((((s.grantOwn k).caskTakeover k).postOwed).mbxHandover).setF (.kln .ctrlRestart) (kilnIdx k) 0).klnEvent 2 1 (kilnIdx k))) ∧
  (∀ (s : State) (k : Kiln), s.isOn .aux = true → (s.kln.kiln k).barred = true → (s.kln.kiln k).up = true → (s.kln.kiln k).been = true →
    exec (.kilnEligible k) s = .next (
      let t := (s.modKiln k fun n => { n with barred := false }).setF (.kln .roleEligible) (kilnIdx k) 1
      if t.active.isNone && !t.staleFor k then t.takeOver k else t)) ∧
  (∀ (s : State), s.isOn .aux = true → s.active = none → s.flag (.kln .ownerQuiesce) = false →
    exec .noOwnerTimeout s = .next (
      let t := [0, 1, 2, 3].foldl (fun s n => if s.isOn (.core n) then s.modDie n fun d => { d with capUw := min d.capUw (175 * watt) } else s) ((s.setF (.drv .statusMode) 0 2).applyDrive)
      ((t.setF (.kln .ownerQuiesce) 0 1).quiesceNow 2).setF (.row .alertAsserted) 0 1))

/-- State frames accepted and discarded, health words, watchdogs, restarts, divergence, die heartbeats with the failure at the third stall, and die
errors have their effects. Each clause names one command, what it asks of the state and the operands, and the next state. -/
def Obligations.KilnCommandsComplete : Prop :=
  (∀ (s : State) (verOk : Bool) (crcOk : Bool) (k : Kiln) (f : Frame), s.receiver = some k → s.kln.sent = some f → s.isOn .aux = true →
    (s.kln.kiln k).up = true → s.getF (.kln .roleRole) (kilnIdx k) = 1 → s.frameGood k f (verOk && crcOk) = false →
    exec (.stateFrame verOk crcOk) s = .next (s.discardFrame k)) ∧
  (∀ (s : State) (verOk : Bool) (crcOk : Bool) (k : Kiln) (f : Frame), s.receiver = some k → s.kln.sent = some f → s.isOn .aux = true →
    (s.kln.kiln k).up = true → s.getF (.kln .roleRole) (kilnIdx k) = 1 → s.frameGood k f (verOk && crcOk) = true →
    exec (.stateFrame verOk crcOk) s = .next (s.acceptFrame k f)) ∧
  (∀ (s : State) (bits : Nat) (k : Kiln), s.standby = some k → s.isOn .aux = true → (s.kln.kiln k).up = true →
    exec (.healthWord bits) s = .next (
      ((s.modKiln k fun n => { n with health := (bits &&& reportedBits) ||| (n.health &&& 0xD0) }).evalHealth k).showStandby k)) ∧
  (∀ (s : State) (k : Kiln), s.isOn .aux = true → (s.kln.kiln k).up = true → s.active = some k →
    exec (.kilnWatchdog k) s = .next ((s.toNone 5).startRestart k 1)) ∧
  (∀ (s : State) (k : Kiln), s.isOn .aux = true → (s.kln.kiln k).up = true → s.active ≠ some k →
    exec (.kilnWatchdog k) s = .next (s.startRestart k 1)) ∧
  (∀ (s : State) (k : Kiln), s.kilnActs = true → exec (.klnHandoverWrite k) s = .next (s.handoverWrite k)) ∧
  (∀ (s : State) (k : Kiln), s.kilnActs = true → exec (.klnRestartWrite k) s = .next (s.restartWrite k)) ∧
  (∀ (s : State) (k : Kiln), s.isOn .aux = true → s.getF (.kln .roleRole) (kilnIdx k) = 0 → exec (.kilnRestart k) s = .next (s.bootKiln k)) ∧
  (∀ (s : State) (k : Kiln), s.standby = some k → s.isOn .aux = true → s.shownHealthy k = false → s.kln.standbyLost = false →
    exec .standbyLostTimer s = .next (({ s with kln := { s.kln with standbyLost := true } } : State).klnEvent 3 1 (s.healthOf k) 9)) ∧
  (∀ (s : State) (loop : Nat) (k : Kiln), s.standby = some k → s.isOn .aux = true → (s.kln.kiln k).up = true →
    exec (.divergence loop) s = .next (
      (s.modKiln k fun n => { n with divLoop := loop % 256, divCount := min (n.divCount + 1) 65535 }).diverge k loop)) ∧
  (∀ (s : State) (k a : Kiln), s.active = some a → s.kln.unconfirmed = some k →
    exec .protectConfirmTimeout s = .next (
      (((({ s with kln := { s.kln with unconfirmed := none } } : State).dropProtect 4).diverge k 0xFF).setF (.kln .healthDiverge) (kilnIdx k) 1).setF (.kln .roleHealthy) (kilnIdx k) 0)) ∧
  (∀ (s : State) (d : Nat) (mesh : Bool) (t : State), s.kilnActs = true → s.dieOn d = true → s.dieFailed d = false →
    t = ((s.addSat (.kln .dieErrHbRestarts) d 1).clearBit (.kln .dieHbAlive) 0 d).klnEvent 8 1 d → t.getF (.kln .dieErrHbRestarts) d < 3 →
    exec (.dieHbStall d mesh) s = .next (t)) ∧
  (∀ (s : State) (d : Nat) (mesh : Bool) (t : State), s.kilnActs = true → s.dieOn d = true → s.dieFailed d = false →
    t = ((s.addSat (.kln .dieErrHbRestarts) d 1).clearBit (.kln .dieHbAlive) 0 d).klnEvent 8 1 d → 3 ≤ t.getF (.kln .dieErrHbRestarts) d →
    exec (.dieHbStall d mesh) s = .next (t.dieFails d 1 mesh)) ∧
  (∀ (s : State) (d : Nat) (mesh : Bool), s.kilnActs = true → s.dieOn d = true → s.dieFailed d = false →
    exec (.dieHbFail d mesh) s = .next (s.dieFails d 1 mesh)) ∧
  (∀ (s : State) (d : Nat) (mesh : Bool), s.kilnActs = true → s.dieOn d = true → d < 4 →
    exec (.dieFatal d mesh) s = .next ((s.setBit (.kln .dieHbFatal) 0 d).dieFails d 2 mesh)) ∧
  (∀ (s : State) (d : Nat) (mesh : Bool), s.kilnActs = true → s.dieOn d = true → d = 4 →
    exec (.dieFatal d mesh) s = .next ((s.setBit (.kln .dieHbFatal) 0 4).clockFault 2)) ∧
  (∀ (s : State) (d : Nat), s.kilnActs = true → d < 5 → exec (.dieCe d) s = .next (s.addSat (.kln .dieErrCeCount) d 1)) ∧
  (∀ (s : State), s.kilnActs = true → exec .klnInvDataRead s = .next (s.addWrap (.kln .invSelIndex) 0 1))

/-- Substituted, restored and disagreeing sensors, suspected and confirmed leaks, their clearing and the sensor query have their effects. Each clause
names one command, what it asks of the state and the operands, and the next state. -/
def Obligations.SensorAndLeakCommandsComplete : Prop :=
  (∀ (s : State) (ids : List Nat) (why : Nat) (change : Nat) (silent : Bool) (id : Nat) (l : List Nat), s.kilnActs = true → (why = 1 ∨ why = 2) →
    (ids.filter fun id => s.substitutable id why change silent) = id :: l → ((id :: l).any fun id => sensClass id == 8) = false →
    exec (.sensorSubstitute ids why change silent) s = .next (
      let t := (id :: l).foldl (fun s id => s.substitute id why) s
      ((id :: l).foldl (fun s id => s.sensEvent id why) t).refresh.refactor)) ∧
  (∀ (s : State) (ids : List Nat) (why : Nat) (change : Nat) (silent : Bool) (id : Nat) (l : List Nat), s.kilnActs = true → why = 3 →
    silent = true → (ids.filter fun id => s.substitutable id why change silent) = id :: l → ((id :: l).any fun id => sensClass id == 8) = false →
    exec (.sensorSubstitute ids why change silent) s = .next (
      (((id :: l).foldl (fun s id => s.substitute id why) s).coolEvent 3 1 (l.foldl min id + 2 ^ 16 * (id :: l).length)).refresh.refactor)) ∧
  (∀ (s : State) (ids : List Nat) (why : Nat) (change : Nat) (silent : Bool) (id : Nat) (l : List Nat), s.kilnActs = true → why = 3 →
    silent = false → (ids.filter fun id => s.substitutable id why change silent) = id :: l → ((id :: l).any fun id => sensClass id == 8) = false →
    exec (.sensorSubstitute ids why change silent) s = .next (
      let t := (id :: l).foldl (fun s id => s.substitute id why) s
      ((id :: l).foldl (fun s id => s.sensEvent id why) t).refresh.refactor)) ∧
  (∀ (s : State) (id : Nat), s.kilnActs = true → (s.sensRec id).state ≠ 0 → id ∉ s.bst.ptBad → s.implausible id = false →
    s.atRangeEnd id = false → (s.sensRec id).kept = false →
    exec (.sensorRestore id) s = .next (
      ((s.setSens id { s.sensRec id with state := 0, subst := false, masked := false }).coolEvent 5 0 id).refresh.refactor)) ∧
  (∀ (s : State) (id : Nat), s.kilnActs = true → (s.sensRec id).state ≠ 0 → id ∉ s.bst.ptBad → s.implausible id = false →
    s.atRangeEnd id = false → (s.sensRec id).kept = true → exec (.sensorRestore id) s = .next (s.coolEvent 5 0 (id + 2 ^ 16))) ∧
  (∀ (s : State) (id : Nat) (diff : Nat), s.kilnActs = true → comparedPair id = true → (s.sensRec id).disagree = false → s.subst id = false →
    s.subst (id + 1) = false → (if sensClass id = 3 then 50 else 64) < diff →
    exec (.sensorDisagree id diff) s = .next (
      ((s.setDisagree id true).addSat (.cle .sensCountDisagree) 0 1).coolEvent 4 1 (id + 2 ^ 16 * (diff % 2 ^ 16)))) ∧
  (∀ (s : State) (id : Nat), s.kilnActs = true → comparedPair id = true → (s.sensRec id).disagree = true →
    (s.rawOf id - s.rawOf (id + 1)).natAbs < (if sensClass id = 3 then 51 else 48) → exec (.disagreeClear id) s = .next (s.setDisagree id false)) ∧
  (∀ (s : State) (z : Nat), s.kilnActs = true → z ∈ s.cool.suspect → s.departing z true + s.departing z false < 4 →
    exec (.modelSuspectEnd z) s = .next (
      ({ s with cool := { s.cool with suspect := s.cool.suspect.filter fun x => x ≠ z } } : State).refresh.refactor)) ∧
  (∀ (s : State) (n : Nat) (st : Nat), s.kilnActs = true → n < 4 → (2 ≤ st ∧ st ≤ 4) → (s.getF (.cle .leakSuspect)).testBit n = false →
    exec (.leakSuspected n st) s = .next (
      ((((((s.setBit (.cle .leakSuspect) 0 n).setF (.cle .leakState) n st).setF (.cle .coolStatusLeakSuspected) 0 1).alertSet 0).refactor).coolEvent 7 2 (n + 16 * st)).alarmNow 1 n)) ∧
  (∀ (s : State) (n : Nat) (t : State), s.kilnActs = true → n < 4 → (s.getF (.cle .leakSuspect)).testBit n = true →
    t = (s.clearBit (.cle .leakSuspect) 0 n).setF (.cle .leakState) n 0 → t.getF (.cle .leakSuspect) = 0 →
    exec (.leakSuspectEnd n) s = .next (((t.setF (.cle .coolStatusLeakSuspected) 0 0).alertClear 0).refactor.allClear)) ∧
  (∀ (s : State) (n : Nat) (rpm : Nat), s.kilnActs = true → n < 4 → (s.getF (.cle .leakWet)).testBit n = false →
    s.flag (.cle .coolStatusLeak) = false →
    exec (.leak n rpm) s = .next (
      let codes := (List.range 8).map (s.getF (.drv .valveStatusCode))
      let t : State := { s with cool := { s.cool with leakRpm := rpm, leakValves := codes } }
      let u := ((t.setBit (.cle .leakWet) 0 n).setF (.cle .leakState) n 1).setF (.cle .coolStatusLeak) 0 1
      ((((((u.floorFall 2).commandDrive codes rpm 3).quiesceNow 4).alertSet 1).coolEvent 8 2 n).alarmNow 2 n))) ∧
  (∀ (s : State) (dry : Bool), s.kilnActs = true → exec (.leakClearWrite dry) s = .next (s.leakClear dry)) ∧
  (∀ (s : State) (id : Nat), s.kilnActs = true → sensKnown id = true → exec (.sensQuery id) s = .next (s.sensQuery id)) ∧
  (∀ (s : State) (id : Nat), s.kilnActs = true → sensKnown id = false →
    exec (.sensQuery id) s = .next ((s.setF (.cle .sensQueryId) 0 id).setF (.cle .sensResultReady) 0 0))

/-- Condensation, loss and return of flow with its limits, coolant warnings, overpressure and HOT_N have their effects. Each clause names one command,
what it asks of the state and the operands, and the next state. -/
def Obligations.CoolantProtectionCommandsComplete : Prop :=
  (∀ (s : State), s.kilnActs = true → s.warnHolds 6 = true → exec .condensation s = .next (s.warnSet 6)) ∧
  (∀ (s : State), s.kilnActs = true → s.warnGone 6 = true → exec .condensationClear s = .next (s.warnClear 6)) ∧
  (∀ (s : State) (readings : List (Nat × Int)) (t u : State), s.kilnActs = true → t = (s.takeReadings readings).refresh →
    t.flag (.cle .coolStatusProtectFlow) = false → 2 ≤ t.flowVotes (fun q => decide (q < t.flowLimit false)) →
    u = (({ t with cool := { t.cool with returned := false } } : State).floorFall 1).setF (.cle .coolStatusProtectFlow) 0 1 →
    exec (.flowLoss readings) s = .next (
      let v := if u.flag (.cle .coolStatusLeak) then u else u.commandDrive (List.replicate 8 openCode) 9000 3
      let x := ((if v.getF (.cle .coolStatusState) = 0 then v.setF (.cle .coolStatusState) 0 1 else v).addSat (.cle .flowLossesCount) 0 1).alertSet 2
      (x.coolEvent 9 2 x.flowData).alarmNow 3 0)) ∧
  (∀ (s : State), s.kilnActs = true → s.getF (.cle .coolStatusState) = 1 → s.flag (.cle .coolStatusProtectFlow) = true →
    exec .flowLossQuiesce s = .next (((s.setF (.cle .coolStatusState) 0 2).addSat (.cle .flowLossesQuiesces) 0 1).quiesceNow 1)) ∧
  (∀ (s : State), s.kilnActs = true → s.getF (.cle .coolStatusState) = 2 → s.flag (.cle .coolStatusProtectFlow) = true →
    exec .flowLossPowerDown s = .next ((s.setF (.cle .coolStatusState) 0 3).computeOff)) ∧
  (∀ (s : State) (tests : PowerTests) (t : State), s.kilnActs = true → s.flag (.cle .coolStatusProtectFlow) = true →
    2 ≤ s.flowVotes (fun q => decide (q > s.flowLimit true)) → t = (s.setF (.cle .coolStatusProtectFlow) 0 0).dropProtect 1 →
    ((t.coolEvent 0x0A 1 (t.getF (.cle .flowProt))).alarmNow 4 0).getF (.cle .coolStatusState) = 1 →
    exec (.flowReturned tests) s = .next (
      ((((t.coolEvent 0x0A 1 (t.getF (.cle .flowProt))).alarmNow 4 0).setF (.cle .coolStatusState) 0 0).alertClear 2).allClear)) ∧
  (∀ (s : State), s.kilnActs = true → 2 ≤ s.getF (.cle .coolStatusState) → s.cool.returned = true → s.flag (.cle .coolStatusProtectFlow) = false →
    exec .quiesceLifted s = .next (((s.setF (.cle .coolStatusState) 0 0).coolantLifted.alertClear 2).allClear)) ∧
  (∀ (s : State) (bit : Nat), s.kilnActs = true → s.warnHolds bit = true → exec (.coolantWarn bit) s = .next (s.warnSet bit)) ∧
  (∀ (s : State) (bit : Nat), s.kilnActs = true → s.warnGone bit = true → exec (.coolantWarnClear bit) s = .next (s.warnClear bit)) ∧
  (∀ (s : State), s.kilnActs = true → s.getF (.cle .coolStatusWarn) ≠ 0 → exec .coolantWarnRepeat s = .next (s.sendWarn.served 3)) ∧
  (∀ (s : State) (kpa : Nat), s.kilnActs = true → 600 < kpa → s.cool.overpressure = false → s.flag (.cle .coolStatusLeak) = false →
    exec (.overpressure kpa) s = .next (
      let t : State := { s with cool := { s.cool with overpressure := true } }
      ((t.commandDrive t.lastCodes 0 3).coolEvent 0x0F 2 (min kpa 4095)).alarmNow 7 0)) ∧
  (∀ (s : State) (d : Nat) (stack : Bool) (t : State), d < 4 → s.isOn (.core d) = true →
    t = ((s.setF (.cle .hotnDie) 0 d).setFlag (.cle .hotnStack) 0 stack).setF (.cle .coolStatusHotN) 0 1 →
    exec (.hotN d stack) s = .next (
      let u := ((({ t with power := { t.power with hotN := true } } : State).setF (.drv .statusHotN) 0 1).stopSlices fun _ => true).applyDrive
      if s.flag (.cle .coolStatusHotN) || u.active.isNone then u else u.hotNKiln d stack)) ∧
  (∀ (s : State) (t : State), s.kilnActs = true → s.flag (.cle .coolStatusHotN) = true →
    t = (s.setF (.cle .coolStatusHotN) 0 0).setF (.drv .statusHotN) 0 0 →
    exec .hotNClear s = .next (
      let u := (((({ t with power := { t.power with hotN := false } } : State).dropProtect 3).applyDrive).coolEvent 0x0E 1 0).alarmNow 6 0
      (if u.getF (.cle .coolStatusState) = 0 then u.coolantLifted else u).allClear))

/-- The fast period, the loop programs of the engine and of the standby, their outputs, tables, step markers and the commit of the loop configuration
have their effects. Each clause names one command, what it asks of the state and the operands, and the next state. -/
def Obligations.CopperCommandsComplete : Prop :=
  (∀ (s : State) (readings : List (Nat × Int)) (zoneMw : List Nat) (shadow : List (Nat × Int)) (t u : State), s.isOn .aux = true →
    s.active.isSome = true → t = (({ s with cop := { s.cop with clock := s.cop.clock + 100 } } : State).takeReadings readings).refresh →
    u = (List.range 8).foldl (fun s z => s.rcSample z (zoneMw.getD z 0)) ({ t with cool := { t.cool with zoneMw := zoneMw } } : State) →
    exec (.copperFastPeriod readings zoneMw shadow) s = .next (u.beginPeriod true (u.takeReadings shadow).refresh)) ∧
  (∀ (s : State) (readings : List (Nat × Int)) (zoneMw : List Nat) (shadow : List (Nat × Int)) (t : State), s.isOn .aux = true → s.active = none →
    t = ({ s with cop := { s.cop with clock := s.cop.clock + 100 } } : State) →
    exec (.copperFastPeriod readings zoneMw shadow) s = .next (t.beginPeriod true (t.takeReadings shadow).refresh)) ∧
  (∀ (s : State) (l : Nat), s.isOn .aux = true → s.loopOn l = true → (s.loop l).due = true → s.active.isSome = true → (s.loop l).staged = none →
    (s.runLoop l).shadowRuns = false → exec (.loopProgramRun l) s = .next (s.runLoop l)) ∧
  (∀ (s : State) (l : Nat) (t : State), s.isOn .aux = true → s.loopOn l = true → (s.loop l).due = true → s.active.isSome = true →
    (s.loop l).staged = none → t = s.runLoop l → t.shadowRuns = true → (t.loop l).shadowStaged = none →
    exec (.loopProgramRun l) s = .next (t.runShadow l)) ∧
  (∀ (s : State) (l : Nat), s.isOn .aux = true → s.loopOn l = true → (s.loop l).due = true → s.active = none → s.shadowRuns = true →
    (s.loop l).shadowStaged = none → exec (.loopProgramRun l) s = .next (s.runShadow l)) ∧
  (∀ (s : State) (fast : Bool), s.isOn .aux = true → s.active.isSome = true → s.driveHeld = false →
    exec (.copperOutputPhase fast) s = .next (s.outputPhase fast)) ∧
  (∀ (s : State) (fast : Bool) (f : DriveFrame), s.isOn .aux = true → s.active.isSome = true → s.driveHeld = true → s.cop.sent = some f →
    exec (.copperOutputPhase fast) s = .next (s.sendFrame (s.makeFrame f.valves f.rpm f.pumpEn))) ∧
  (∀ (s : State) (l : Nat), s.loopOn l = true → (s.loop l).inTable = true → (s.loop l).stuck = false → 1000 ≤ (s.loop l).good →
    exec (.loopTableExit l) s = .next (
      let t := s.modLoop l fun x => { x with inTable := false, good := 0 }
      t.setLoopState l (t.loopState l))) ∧
  (∀ (s : State) (next : Nat) (m : Marker) (l : List Marker), s.cop.markers = m :: l → s.isOn .aux = true → s.active.isSome = true →
    exec (.stepMarker next) s = .next (
      (List.range 8).foldl (fun s z => if s.rcWants z m then s.rcMarker z next else s) ({ s with cop := { s.cop with markers := l } } : State))) ∧
  (∀ (s : State) (z : Nat), z < 8 → s.rcLocked z = true → 2 * (s.rc z).p ≤ (s.rc z).since →
    exec (.rcMarkerTimeout z) s = .next (s.setF (.cle .rcStatusLocked) z 0)) ∧
  (∀ (s : State), s.isOn .aux = true → s.active.isSome = true → exec .cleCommit s = .next (s.startCleCommit)) ∧
  (∀ (s : State), s.isOn .aux = true → s.active.isSome = true → s.flag (.cle .commitStatusBusy) = true →
    exec .cleCommitApply s = .next (s.applyCle.setF (.cle .commitStatusBusy) 0 0))

/-- A command frame is taken or refused, echoes, the safe table, the hold timer and the duty caps have their effects. Each clause names one command,
what it asks of the state and the operands, and the next state. -/
def Obligations.DriveFrameCommandsComplete : Prop :=
  (∀ (s : State) (k : Kiln) (f : DriveFrame), s.isOn .aux = true → s.kln.owner = some k → f.sound = true →
    exec (.driveCommandFrame k f) s = .next (s.latchFrame f)) ∧
  (∀ (s : State) (k : Kiln) (f : DriveFrame), s.isOn .aux = true → s.kln.owner ≠ some k →
    exec (.driveCommandFrame k f) s = .next (s.rejectCommand)) ∧
  (∀ (s : State) (k : Kiln) (f : DriveFrame), s.isOn .aux = true → s.kln.owner = some k → f.sound = false →
    exec (.driveCommandFrame k f) s = .next (s.addSat (.drv .statusBadFrames) 0 1)) ∧
  (∀ (s : State) (f : DriveFrame) (c : DriveFrame) (a : Kiln), s.active = some a → s.cop.sent = some c → c.seq = f.seq →
    ((frameDiff c f).filter fun ch => !(s.getF (.drv .chFaultFault)).testBit ch) = [] →
    exec (.driveEcho f) s = .next (({ s with kln := { s.kln with rbSeen := [] } } : State).refactor)) ∧
  (∀ (s : State) (ms : Nat), s.isOn .aux = true → 10000 ≤ ms → s.driveSafe = false →
    exec (.driveSafeTable ms) s = .next (
      (((s.setF (.drv .statusMode) 0 2).setF (.drv .statusCmdAgeMs) 0 (min ms 65535)).drvEvent 8 2 0).applyDrive)) ∧
  (∀ (s : State) (ms : Nat), s.isOn .aux = true → 10 ≤ ms → s.driveSafe = false → s.getF (.drv .statusMode) = 1 →
    exec (.driveHoldTimer ms) s = .next ((s.setF (.drv .statusMode) 0 1).setF (.drv .statusCmdAgeMs) 0 (min ms 65535))) ∧
  (∀ (s : State) (ms : Nat), s.isOn .aux = true → 10 ≤ ms → s.driveSafe = false → s.getF (.drv .statusMode) = 0 → s.active.isSome = true →
    exec (.driveHoldTimer ms) s = .next (
      ((s.setF (.drv .statusMode) 0 1).setF (.drv .statusCmdAgeMs) 0 (min ms 65535)).drvEvent 7 1 (min ms 65535))) ∧
  (∀ (s : State) (v : Nat) (mj : Nat), s.isOn .aux = true → v < 8 → 44000 ≤ mj → v ∉ s.drive.capped →
    exec (.dutyCap v mj) s = .next (
      let t := s.setF (.drv .valveDutyEnergyMj) v (min mj 65535)
      ({ t with drive := { t.drive with capped := t.drive.capped ++ [v] } } : State).recap v)) ∧
  (∀ (s : State) (v : Nat) (mj : Nat), v ∈ s.drive.capped → mj < 42000 →
    exec (.dutyCapLift v mj) s = .next (
      let t := s.setF (.drv .valveDutyEnergyMj) v mj
      ({ t with drive := { t.drive with capped := t.drive.capped.filter fun x => x ≠ v } } : State).recap v))

/-- Pull-in, faults, retries, trips, restarts, kicks, stalls, Hall faults and the pump writes have their effects. Each clause names one command, what it
asks of the state and the operands, and the next state. -/
def Obligations.ValveAndPumpCommandsComplete : Prop :=
  (∀ (s : State) (v : Nat) (waitUs : Nat), s.getF (.drv .valveStatusState) v = 1 → (s.switchQueue (v / 2)).head? = some v →
    s.getF (.drv .valveStatusState) (partnerValve v) = 0 → s.flag (.drv .valveStatusOfftime) v = false →
    s.getF (.drv .valveDutyEnergyMj) v + 250 ≤ 45000 → v ∉ s.drive.counted →
    exec (.pullinStart v waitUs) s = .next (
      let u := ((s.setSwitchQueue (v / 2) ((s.switchQueue (v / 2)).drop 1)).uncount v).dutyLimited v
      let x := (u.setF (.drv .valveStatusState) v 2).addSat (.drv .valveCountPullins) v 1
      (x.setFlag (.drv .valveStatusReduced) v false).setF (.drv .valveStatusCurrent) v 150)) ∧
  (∀ (s : State) (v : Nat), s.getF (.drv .valveStatusState) v = 2 →
    exec (.pullinEnd v) s = .next ((s.setF (.drv .valveStatusState) v 3).setF (.drv .valveStatusCurrent) v (s.valveCurrent v))) ∧
  (∀ (s : State) (v : Nat) (code : Nat) (res : Nat) (ma : Nat) (t : State), v < 8 → s.coilFaulty v code res ma = true →
    (s.getF (.drv .valveStatusState) v = 2 ∨ s.getF (.drv .valveStatusState) v = 3) → t = s.setF (.drv .valveResRes) v (min res 65535) →
    v ∉ t.drive.retried →
    exec (.valveFault v code res ma) s = .next (
      ((({ t with drive := { t.drive with faulted := t.drive.faulted ++ [v] } } : State).setF (.drv .valveResFault) v code).applyValve v).drvEvent 4 1 (v + 16 * code))) ∧
  (∀ (s : State) (v : Nat) (code : Nat) (res : Nat) (ma : Nat) (t : State), v < 8 → s.coilFaulty v code res ma = true →
    (s.getF (.drv .valveStatusState) v = 2 ∨ s.getF (.drv .valveStatusState) v = 3) → t = s.setF (.drv .valveResRes) v (min res 65535) →
    v ∈ t.drive.retried → exec (.valveFault v code res ma) s = .next (((t.failValve v code).drvEvent 4 1 (v + 16 * code + 256)).kilnRefactor)) ∧
  (∀ (s : State) (v : Nat), v ∈ s.drive.faulted →
    exec (.valveRetry v) s = .next (
      ({ s with drive := { s.drive with faulted := s.drive.faulted.filter fun x => x ≠ v, retried := s.drive.retried ++ [v] } } : State).applyValve v)) ∧
  (∀ (s : State) (k : Nat) (t : State), s.isOn .aux = true → k < 4 → (s.getF (.drv .swStatusTrip)).testBit k = false →
    s.longSince (s.drive.tripMs.get? k) 60000 = true →
    t = ({ s with drive := { s.drive with tripMs := s.drive.tripMs.set k s.kln.upMs } } : State) →
    exec (.switchTrip k) s = .next (
      ((((t.setBit (.drv .swStatusTrip) 0 k).applyValve (2 * k)).applyValve (2 * k + 1)).drvEvent 5 1 (k + 256 * 0)).kilnRefactor)) ∧
  (∀ (s : State) (k : Nat), k < 4 → (s.getF (.drv .swStatusTrip)).testBit k = true → k ∉ s.drive.switchFailed →
    exec (.switchRestart k) s = .next ((((s.clearBit (.drv .swStatusTrip) 0 k).applyValve (2 * k)).applyValve (2 * k + 1)).kilnRefactor)) ∧
  (∀ (s : State) (p : Nat), p < 2 → s.getF (.drv .pumpStatusState) p = 1 →
    exec (.pumpKickSuccess p) s = .next (
      let t := (s.setF (.drv .pumpStatusState) p 2).setF (.drv .pumpStatusKicksFailed) p 0
      let u := if t.flag (.drv .pumpStatusHallFault) p then t.setF (.drv .pumpStatusBemf) p 1 else t
      (u.setF (.drv .pumpStatusSpeed) p (u.getF (.drv .pumpCmdRpm) p)).addSat (.drv .pumpCountStarts) p 1)) ∧
  (∀ (s : State) (p : Nat), p < 2 → s.getF (.drv .pumpStatusState) p = 1 → exec (.pumpKickTimeout p) s = .next (s.kickFail p)) ∧
  (∀ (s : State) (p : Nat), p < 2 → s.getF (.drv .pumpStatusState) p = 3 →
    exec (.pumpRetryWaitEnd p) s = .next (s.setF (.drv .pumpStatusState) p 1)) ∧
  (∀ (s : State) (p : Nat), p < 2 → s.getF (.drv .pumpStatusState) p = 2 → exec (.pumpStall p) s = .next (s.kickFail p)) ∧
  (∀ (s : State) (p : Nat), p < 2 → s.flag (.drv .pumpStatusBemf) p = false →
    (s.getF (.drv .pumpStatusState) p = 1 ∨ s.getF (.drv .pumpStatusState) p = 2) →
    exec (.hallFault p) s = .next (((s.setF (.drv .pumpStatusHallFault) p 1).setF (.drv .pumpStatusBemf) p 1).drvEvent 3 1 p)) ∧
  (∀ (s : State) (p : Nat), p < 2 → s.flag (.drv .pumpStatusBemf) p = true → exec (.hallRestore p) s = .next (s.setF (.drv .pumpStatusBemf) p 0)) ∧
  (∀ (s : State) (p : Nat) (value : Word), p < 2 → s.active.isSome = true →
    exec (.pumpEnableWrite p value) s = .next (s.pumpCtrlWrite p value.toNat)) ∧
  (∀ (s : State) (p : Nat), p < 2 → s.active.isSome = true → exec (.pumpRetryWrite p) s = .next (s.setF (.drv .pumpCtrlRetry) p 1))

/-- Rate search, frames of others with the clash of identities, status requests, commits, sent frames, errors, bus-off, periodic status, alarms and
clashes have their effects. Each clause names one command, what it asks of the state and the operands, and the next state. -/
def Obligations.RowBusCommandsComplete : Prop :=
  (∀ (s : State) (p : Nat) (edges : Bool), edges = false →
    exec (.rateSweepTimeout p edges) s = .next (
      s.bothRow fun s => if s.detecting p && !(s.portDet p).nomLocked then s.portActive p (s.getLive (.row .portCfgNomRate) p) (s.getLive (.row .portCfgDataRate) p) 1 else s)) ∧
  (∀ (s : State) (p : Nat) (edges : Bool), edges = true →
    exec (.rateSweepTimeout p edges) s = .next (
      s.bothRow fun s => if s.detecting p && !(s.portDet p).nomLocked then ({ s with row := { s.row with det := s.row.det.erase p } } : State).setF (.row .portStatusRateFail) p 1 else s)) ∧
  (∀ (s : State) (p : Nat),
    exec (.brsWaitTimeout p) s = .next (
      s.bothRow fun s => if s.detecting p && (s.portDet p).nomLocked then s.portActive p (s.portDet p).nom 0 0 else s)) ∧
  (∀ (s : State) (p : Nat) (frame : RowFrame) (t : State), s.rowHear p frame = (t, true) → t.clashes frame = true →
    exec (.rowFrameOther p frame) s = .next (t.clash p)) ∧
  (∀ (s : State) (p : Nat) (frame : RowFrame) (t : State), s.rowHear p frame = (t, true) → t.clashes frame = false →
    exec (.rowFrameOther p frame) s = .next (t)) ∧
  (∀ (s : State) (p : Nat) (frame : RowFrame) (t : State), s.rowHear p frame = (t, false) → exec (.rowFrameOther p frame) s = .next (t)) ∧
  (∀ (s : State) (p : Nat) (frame : RowFrame) (t u : State), s.rowHear p frame = (t, true) → t.forUs frame 0x21 = true →
    (frame.data.getD 2 0).toNat = 1 → t.rowAccept p frame (((frame.data.take 8).drop 3).all (· == 0)) = (u, true) →
    exec (.statusReq p frame) s = .next (u.rowAnswer p 1 5 2 (u.statusBody p))) ∧
  (∀ (s : State) (p : Nat) (frame : RowFrame) (t u : State), s.rowHear p frame = (t, true) → t.forUs frame 0x21 = true →
    (frame.data.getD 2 0).toNat = 2 → t.rowAccept p frame (((frame.data.take 8).drop 3).all (· == 0)) = (u, true) →
    exec (.statusReq p frame) s = .next (u.rowAnswer p 2 2 1 (u.capStatusBody false))) ∧
  (∀ (s : State) (p : Nat) (frame : RowFrame) (t u : State), s.rowHear p frame = (t, true) → t.forUs frame 0x21 = true →
    (frame.data.getD 2 0).toNat = 4 → t.rowAccept p frame (((frame.data.take 8).drop 3).all (· == 0)) = (u, true) →
    exec (.statusReq p frame) s = .next (u.rowAnswer p 4 4 1 u.warnBody)) ∧
  (∀ (s : State) (p : Nat),
    exec (.busIntegration p) s = .next (
      s.bothRow fun s => if s.getF (.row .portStatusState) p = 1 ∧ !s.liveFlag (.row .portCfgAuto) p then s.portActive p (s.getLive (.row .portCfgNomRate) p) (s.getLive (.row .portCfgDataRate) p) 1 else s)) ∧
  (∀ (s : State), s.isOn .aux = true → exec .rowCommit s = .next (s.commitRow)) ∧
  (∀ (s : State) (p : Nat) (b : Nat) (m : RowMsg) (q : List RowMsg) (t : State), s.rowQueue p b = m :: q → s.portSends p = true →
    t = (s.setRowQueue p b q).addSat (.row .portTxSent) p 1 →
    exec (.frameTxDone p b) s = .next (
      let u : State := { t with row := { t.row with sent := t.row.sent ++ [(p, t.rowWire p m)] } }
      ((u.setF (.row .portStatusTec) p (u.getF (.row .portStatusTec) p - 1)).errorState p).urgentCheck)) ∧
  (∀ (s : State) (p : Nat) (b : Nat) (why : TxFail), s.rowQueue p b ≠ [] → s.portSends p = true → why = .arbitration →
    exec (.frameTxError p b why) s = .next (s.setRowQueue p b (listModify (s.rowQueue p b) 0 fun m => { m with begun := false }))) ∧
  (∀ (s : State) (p : Nat) (b : Nat) (why : TxFail) (t : State), s.rowQueue p b ≠ [] → s.portSends p = true → why = .error false →
    t = s.setRowQueue p b (listModify (s.rowQueue p b) 0 fun m => { m with begun := false }) → t.getF (.row .portStatusTec) p + 8 ≤ 255 →
    exec (.frameTxError p b why) s = .next ((t.setF (.row .portStatusTec) p (t.getF (.row .portStatusTec) p + 8)).errorState p)) ∧
  (∀ (s : State) (p : Nat) (t : State), s.getF (.row .portStatusState) p = 4 →
    t = (s.setF (.row .portStatusTec) p 0).setF (.row .portStatusRec) p 0 →
    exec (.busOffRecovery p) s = .next (
      t.portActive p (t.getF (.row .portStatusNomDet) p) (t.getF (.row .portStatusDataDet) p) (t.getF (.row .portStatusBrs) p))) ∧
  (∀ (s : State) (p : Nat), s.urgentOn p = true → exec (.urgentWaitTimeout p) s = .next ((s.markMsgs p markLate).alertSet 6)) ∧
  (∀ (s : State), s.active.isSome = true → exec .rowStatusPeriodic s = .next (s.sendStatus.served 3)) ∧
  (∀ (s : State), s.alarmInForce = true → exec .coolantAlarmRepeat s = .next (s.sendAlarm s.row.lastAlarm.1 s.row.lastAlarm.2)) ∧
  (∀ (s : State) (p : Nat), s.isOn .aux = true → p < 2 → exec (.clashClr p) s = .next (s.clashClear p)) ∧
  (∀ (s : State) (p : Nat) (b : Nat) (onBus : Bool), s.isOn .aux = true → exec (.txbCancel p b onBus) s = .next (s.txbCancel p b onBus))

/-- Marks, reads by number, sealing, flushes, NOR failures, commits, erasure of the ring and the image confirmation have their effects. Each clause
names one command, what it asks of the state and the operands, and the next state. -/
def Obligations.CaskCommandsComplete : Prop :=
  (∀ (s : State) (value : Word), s.isOn .aux = true → exec (.cskMark value) s = .next (s.cskMark value.toNat)) ∧
  (∀ (s : State) (seq : Word), s.isOn .aux = true → exec (.cskRdSeq seq) s = .next (s.cskRdSeq seq.toNat)) ∧
  (∀ (s : State) (seq : Nat) (k : Kiln), s.active = some k →
    exec (.recordSeal seq) s = .next (
      { s with cask := s.cask.setBuf k ((s.cask.buf k).map fun e => if e.record.seq = seq then { e with record := { e.record with sealed := true } } else e) })) ∧
  (∀ (s : State) (k : Kiln) (r : CaskRec), s.active = some k → s.flag (.csk .commitStatusBusy) = false → s.flag (.csk .statusNorFailed) = false →
    lowestRec (((s.cask.buf k).filter fun e => e.record.sealed && e.framed && !e.inNor && s.norTakes e.record).map (·.record)) = some r →
    exec .caskFlush s = .next (
      ((s.norWrite r).markInNor k r.seq).lossEnd.served (if decide (r.severity < 2) && decide (s.unwritten < 384) then 0 else 4))) ∧
  (∀ (s : State) (sector : Nat) (retryOk : Bool) (bad : List Nat) (t : State) (sp : Nat), s.isOn .aux = true → retryOk = false →
    s.flag (.csk .statusNorFailed) = false → s.cask.failRow = [] → t = ({ s with cask := { s.cask with failRow := [sector] } } : State) →
    t.cask.freeSpare = some sp →
    exec (.norWriteFail sector retryOk bad) s = .next (
      (({ t with cask := { t.cask with retired := t.cask.retired.set sector sp }.storeHdr } : State).dropBad sector bad).post 0x08 0x02 1 (sector + 256 * sp))) ∧
  (∀ (s : State), s.isOn .aux = true → exec .norTimeout s = .next (s.norFail)) ∧
  (∀ (s : State), s.isOn .aux = true → s.flag (.csk .commitStatusBusy) = false → exec .cskCommit s = .next (s.commitCsk)) ∧
  (∀ (s : State), s.isOn .aux = true → s.flag (.csk .commitStatusBusy) = true → 0xF ∉ s.heldCommits →
    exec .cskCommit s = .next ({ s with heldCommits := s.heldCommits ++ [0xF] })) ∧
  (∀ (s : State), s.flag (.csk .commitStatusBusy) = true →
    exec .caskRingErase s = .next (
      (({ s with cask := { s.cask with circ := [], circHead := 0, torn := [], hdrSectors := s.circSectors }.storeHdr } : State).setF (.csk .commitStatusBusy) 0 0).post 0x08 0x05 1 s.circSectors)) ∧
  (∀ (s : State) (k : Kiln), s.kilnActs = true → s.active = some k → s.imageOf k < 2 → s.imgState (s.imageOf k) = 1 →
    exec (.imageConfirmTimer k) s = .next ((s.setImgState (s.imageOf k) 2).post 0x0B 3 0 ((s.setImgState (s.imageOf k) 2).imageOf k))) ∧
  (∀ (s : State) (k : Kiln), s.kilnActs = true → s.shownHealthy k = true → s.imageOf k < 2 → s.imgState (s.imageOf k) = 1 →
    exec (.imageConfirmTimer k) s = .next ((s.setImgState (s.imageOf k) 2).post 0x0B 3 0 ((s.setImgState (s.imageOf k) 2).imageOf k)))

/-- Power loss and return, input limits, and each step of a planned or surprising removal have their effects. Each clause names one command, what it
asks of the state and the operands, and the next state. -/
def Obligations.InputAndRemovalCommandsComplete : Prop :=
  (∀ (s : State), s.isOn .aux = true → exec .pwrLoss s = .next ((s.abandonImage.powerFlush.powerEvent 3 2 0).mainOpen)) ∧
  (∀ (s : State), s.isOn .aux = true → s.cask.stopped = true →
    exec .powerReturn s = .next (({ s with cask := { s.cask with stopped := false } } : State).setF (.mod .pwrStatusPwrLoss) 0 1)) ∧
  (∀ (s : State) (volt : Nat), s.isOn .aux = true → (3800 ≤ volt ∧ volt < 4000) → s.flag (.mod .pwrStatusInputLow) = false →
    exec (.inputLow volt) s = .next ((s.setF (.mod .pwrStatusInputLow) 0 1).powerEvent 1 1 volt)) ∧
  (∀ (s : State) (volt : Nat), s.isOn .aux = true → 6000 < volt → s.flag (.mod .pwrStatusInputHigh) = false →
    exec (.inputHigh volt) s = .next ((s.setF (.mod .pwrStatusInputHigh) 0 1).powerEvent 2 1 (volt % 2 ^ 16))) ∧
  (∀ (s : State), s.isOn .aux = true → exec .inputTrip s = .next (((s.setF (.mod .pwrStatusOvTrip) 0 1).powerEvent 3 2 1).mainOpen)) ∧
  (∀ (s : State), exec .removeReqPin s = .next (s.startRemoval 0)) ∧
  (∀ (s : State), exec .modRemoveWrite s = .next (s.startRemoval 1)) ∧
  (∀ (s : State), s.kilnActs = true → s.getF (.mod .removePhase) = 2 →
    exec .removalSyncEnd s = .next (
      ((List.range 12).foldl (fun s k => if s.isOn (.opt k) then s.portPark k 1 else s) ((((s.removeAt 3).setModState .removing).sendSummary).sendStatus)).iodOff.mainRelease)) ∧
  (∀ (s : State) (t : State), s.kilnActs = true → s.getF (.mod .removePhase) = 4 → s.flag (.drv .statusHotN) = false →
    t = (s.commandDrive (allValves openCode) 0 3).removeAt 5 →
    exec .removeReady s = .next (((t.powerEvent 5 0 (t.getF (.mod .removeSource))).sendStatus).indicate .steadyBlue)) ∧
  (∀ (s : State), s.isOn .aux = true → s.flag (.mod .pwrStatusSeated) = true →
    exec .surpriseRemoval s = .next (((s.setF (.mod .pwrStatusSeated) 0 0).powerEvent 6 2 0).abandonImage.powerFlush)) ∧
  (∀ (s : State), s.isOn .aux = true → s.flag (.mod .pwrStatusSeated) = false →
    exec .seatedReturn s = .next (
      ({ s with cask := { s.cask with stopped := s.cask.stopped && s.getF (.mod .pwrStatusMain) == 3 } } : State).setF (.mod .pwrStatusSeated) 0 1))

/-- A slice starts and ends, the schedule ages, and absent clusters are mapped out. Each clause names one command, what it asks of the state and the
operands, and the next state. -/
def Obligations.SelfTestCommandsComplete : Prop :=
  (∀ (s : State) (kind : Nat) (unit : Nat), s.kilnActs = true → s.sliceOk kind unit = true →
    exec (.sliceStart kind unit) s = .next (
      let t := ((if clusterSlice kind then s.enterSlice unit else s).served 1).markSlice (sliceDie kind unit)
      { t with bst := { t.bst with running := t.bst.running ++ [⟨kind, unit, false⟩] } })) ∧
  (∀ (s : State) (kind : Nat) (unit : Nat) (pass : Bool) (bad : List Nat) (x : Slice),
    (s.bst.running.find? fun x => x.kind == kind && x.unit == unit) = some x → pass = true →
    exec (.sliceEnd kind unit pass bad) s = .next (
      ((({ s with bst := { s.bst with running := s.bst.running.filter fun x => !(x.kind == kind && x.unit == unit) } } : State).addWrap (.bst .slicesDone) 0 1).slicePass kind unit bad).sliceLeft kind unit)) ∧
  (∀ (s : State) (a : Nat), s.kilnActs = true → a < 5 → s.getF (.bst .ageLevel) a < 6 →
    exec (.schedAging a) s = .next (s.setF (.bst .ageLevel) a (s.getF (.bst .ageLevel) a + 1))) ∧
  (∀ (s : State) (c : Nat) (l : Nat), s.logicalOf c = some l → s.kilnActs = true → s.isOn (.core (c / 208)) = true → (s.cl c).failed = true →
    (s.cl c).tokens = [] → (s.wiq.completions.all (·.phys != some c)) = true →
    exec (.clusterAbsent c) s = .next ((s.gateCluster c false).makeAbsent l c)) ∧
  (∀ (s : State) (l : Nat), s.kilnActs = true → s.isOn (.core (l / 200)) = true → l ∈ s.pendingRemaps (l / 200) →
    s.flag (.wiq .ctrlClaimStop) = true → s.heldTokens = 0 → exec (.clusterRemap l) s = .next (s.remap l))
end

