-- ==== Sys2Proof/Laws/Maps.lean ====
section
/-!
SUPPORT. The laws of sparse maps: a key reads what was stored last, every other key reads as before, and the canonical order of
the keys is kept.
-/

namespace Sys2Proof.Machine

variable {α : Type}

@[simp] theorem SMap.get?_nil (k : Nat) : SMap.get? ([] : SMap α) k = none := rfl

theorem SMap.get?_set_same (m : SMap α) (k : Nat) (v : α) : (m.set k v).get? k = some v := by
  induction m with
  | nil => simp [SMap.set, SMap.get?]
  | cons e t ih =>
    obtain ⟨a, w⟩ := e
    unfold SMap.set
    split
    · simp [SMap.get?]
    · split
      · simp [SMap.get?]
      · rename_i h
        simp [SMap.get?, h, ih]

theorem SMap.get?_set_ne (m : SMap α) {k j : Nat} (v : α) (h : j ≠ k) : (m.set k v).get? j = m.get? j := by
  induction m with
  | nil => simp [SMap.set, SMap.get?, h.symm]
  | cons e t ih =>
    obtain ⟨a, w⟩ := e
    unfold SMap.set
    split
    · simp [SMap.get?, h.symm]
    · split
      · rename_i h2
        subst h2
        simp [SMap.get?, h.symm]
      · simp [SMap.get?, ih]

theorem SMap.get?_erase_same (m : SMap α) (k : Nat) : (m.erase k).get? k = none := by
  induction m with
  | nil => rfl
  | cons e t ih =>
    obtain ⟨a, w⟩ := e
    simp only [SMap.erase, ne_eq, decide_not] at ih ⊢
    by_cases h : a = k
    · simp [List.filter, h, ih]
    · simp [List.filter, h, SMap.get?, ih]

theorem SMap.get?_erase_ne (m : SMap α) {k j : Nat} (h : j ≠ k) : (m.erase k).get? j = m.get? j := by
  induction m with
  | nil => rfl
  | cons e t ih =>
    obtain ⟨a, w⟩ := e
    simp only [SMap.erase, ne_eq, decide_not] at ih ⊢
    by_cases h2 : a = k
    · subst h2
      simp [List.filter, SMap.get?, ih, h.symm]
    · simp [List.filter, h2, SMap.get?, ih]

/-- A key reads what was put last. -/
theorem SMap.getD_put_same [DecidableEq α] (m : SMap α) (k : Nat) (v d : α) : (m.put k v d).getD k d = v := by
  unfold SMap.put SMap.getD
  split
  · rename_i h
    simp [SMap.get?_erase_same, h]
  · simp [SMap.get?_set_same]

/-- Every other key reads as before. -/
theorem SMap.getD_put_ne [DecidableEq α] (m : SMap α) {k j : Nat} (v d e : α) (h : j ≠ k) :
    (m.put k v d).getD j e = m.getD j e := by
  unfold SMap.put SMap.getD
  split
  · simp [SMap.get?_erase_ne m h]
  · simp [SMap.get?_set_ne m v h]

/-! ### The canonical order -/

theorem SMap.wf_nil : SMap.wf ([] : SMap α) = true := by simp [SMap.wf]

theorem SMap.wf_iff (m : SMap α) : m.wf = true ↔ (m.map Prod.fst).Pairwise (· < ·) := by simp [SMap.wf]

theorem SMap.mem_set {m : SMap α} {k : Nat} {v : α} {e : Nat × α} (h : e ∈ m.set k v) : e = (k, v) ∨ e ∈ m := by
  induction m with
  | nil => simpa [SMap.set] using h
  | cons x t ih =>
    obtain ⟨a, w⟩ := x
    unfold SMap.set at h
    split at h
    · simpa using h
    · split at h
      · rcases List.mem_cons.1 h with h | h
        · exact .inl h
        · exact .inr (List.mem_cons_of_mem _ h)
      · rcases List.mem_cons.1 h with h | h
        · exact .inr (by simp [h])
        · rcases ih h with h | h
          · exact .inl h
          · exact .inr (List.mem_cons_of_mem _ h)

theorem SMap.wf_set {m : SMap α} (h : m.wf = true) (k : Nat) (v : α) : (m.set k v).wf = true := by
  rw [SMap.wf_iff] at *
  induction m with
  | nil => simp [SMap.set]
  | cons x t ih =>
    obtain ⟨a, w⟩ := x
    simp only [List.map_cons, List.pairwise_cons] at h
    unfold SMap.set
    split
    · rename_i h1
      simp only [List.map_cons, List.pairwise_cons]
      refine ⟨?_, h⟩
      intro b hb
      rcases List.mem_cons.1 hb with rfl | hb
      · exact h1
      · exact lt_trans h1 (h.1 b hb)
    · split
      · rename_i h1 h2
        subst h2
        simp only [List.map_cons, List.pairwise_cons]
        exact h
      · rename_i h1 h2
        simp only [List.map_cons, List.pairwise_cons]
        refine ⟨?_, ih h.2⟩
        intro b hb
        obtain ⟨e, he, rfl⟩ := List.mem_map.1 hb
        rcases SMap.mem_set he with rfl | he
        · exact lt_of_le_of_ne (not_lt.1 h1) h2
        · exact h.1 _ (List.mem_map_of_mem he)

theorem SMap.wf_filter {m : SMap α} (h : m.wf = true) (p : Nat × α → Bool) : SMap.wf (m.filter p) = true := by
  rw [SMap.wf_iff] at *
  exact h.sublist (List.filter_sublist.map _)

theorem SMap.wf_erase {m : SMap α} (h : m.wf = true) (k : Nat) : (m.erase k).wf = true := SMap.wf_filter h _

theorem SMap.wf_put [DecidableEq α] {m : SMap α} (h : m.wf = true) (k : Nat) (v d : α) : (m.put k v d).wf = true := by
  unfold SMap.put
  split
  · exact SMap.wf_erase h k
  · exact SMap.wf_set h k v

theorem SMap.wf_foldl_set {β : Type} (l : List β) (f : β → Nat) (g : β → α) :
    ∀ {m : SMap α}, m.wf = true → SMap.wf (l.foldl (fun m x => m.set (f x) (g x)) m) = true := by
  induction l with
  | nil => exact fun h => h
  | cons x t ih => exact fun h => ih (SMap.wf_set h _ _)

end Sys2Proof.Machine
end

