-- ==== Sys2Proof/Laws/State.lean ====
section
/-!
SUPPORT. The laws of register fields: no two fields share a key, a field reads what was written to it last, cut to its width,
and a write to one field leaves every other field and every other part of the state as it was.
-/

namespace Sys2Proof.Machine

/-! ### Keys -/

theorem ModFld.ctorIdx_lt (f : ModFld) : f.ctorIdx < 256 := by cases f <;> decide
theorem GrbFld.ctorIdx_lt (f : GrbFld) : f.ctorIdx < 256 := by cases f <;> decide
theorem StgFld.ctorIdx_lt (f : StgFld) : f.ctorIdx < 256 := by cases f <;> decide
theorem WiqFld.ctorIdx_lt (f : WiqFld) : f.ctorIdx < 256 := by cases f <;> decide
theorem MemFld.ctorIdx_lt (f : MemFld) : f.ctorIdx < 256 := by cases f <;> decide
theorem MilFld.ctorIdx_lt (f : MilFld) : f.ctorIdx < 256 := by cases f <;> decide
theorem IxfFld.ctorIdx_lt (f : IxfFld) : f.ctorIdx < 256 := by cases f <;> decide
theorem PtnFld.ctorIdx_lt (f : PtnFld) : f.ctorIdx < 256 := by cases f <;> decide
theorem ThlFld.ctorIdx_lt (f : ThlFld) : f.ctorIdx < 256 := by cases f <;> decide
theorem KlnFld.ctorIdx_lt (f : KlnFld) : f.ctorIdx < 256 := by cases f <;> decide
theorem CleFld.ctorIdx_lt (f : CleFld) : f.ctorIdx < 256 := by cases f <;> decide
theorem DrvFld.ctorIdx_lt (f : DrvFld) : f.ctorIdx < 256 := by cases f <;> decide
theorem RowFld.ctorIdx_lt (f : RowFld) : f.ctorIdx < 256 := by cases f <;> decide
theorem CskFld.ctorIdx_lt (f : CskFld) : f.ctorIdx < 256 := by cases f <;> decide
theorem BstFld.ctorIdx_lt (f : BstFld) : f.ctorIdx < 256 := by cases f <;> decide
theorem SecFld.ctorIdx_lt (f : SecFld) : f.ctorIdx < 256 := by cases f <;> decide
theorem CluFld.ctorIdx_lt (f : CluFld) : f.ctorIdx < 256 := by cases f <;> decide

theorem ModFld.ctorIdx_inj {f g : ModFld} (h : f.ctorIdx = g.ctorIdx) : f = g := by
  rw [← ModFld.ofNat_ctorIdx f, ← ModFld.ofNat_ctorIdx g, h]
theorem GrbFld.ctorIdx_inj {f g : GrbFld} (h : f.ctorIdx = g.ctorIdx) : f = g := by
  rw [← GrbFld.ofNat_ctorIdx f, ← GrbFld.ofNat_ctorIdx g, h]
theorem StgFld.ctorIdx_inj {f g : StgFld} (h : f.ctorIdx = g.ctorIdx) : f = g := by
  rw [← StgFld.ofNat_ctorIdx f, ← StgFld.ofNat_ctorIdx g, h]
theorem WiqFld.ctorIdx_inj {f g : WiqFld} (h : f.ctorIdx = g.ctorIdx) : f = g := by
  rw [← WiqFld.ofNat_ctorIdx f, ← WiqFld.ofNat_ctorIdx g, h]
theorem MemFld.ctorIdx_inj {f g : MemFld} (h : f.ctorIdx = g.ctorIdx) : f = g := by
  rw [← MemFld.ofNat_ctorIdx f, ← MemFld.ofNat_ctorIdx g, h]
theorem MilFld.ctorIdx_inj {f g : MilFld} (h : f.ctorIdx = g.ctorIdx) : f = g := by
  rw [← MilFld.ofNat_ctorIdx f, ← MilFld.ofNat_ctorIdx g, h]
theorem IxfFld.ctorIdx_inj {f g : IxfFld} (h : f.ctorIdx = g.ctorIdx) : f = g := by
  rw [← IxfFld.ofNat_ctorIdx f, ← IxfFld.ofNat_ctorIdx g, h]
theorem PtnFld.ctorIdx_inj {f g : PtnFld} (h : f.ctorIdx = g.ctorIdx) : f = g := by
  rw [← PtnFld.ofNat_ctorIdx f, ← PtnFld.ofNat_ctorIdx g, h]
theorem ThlFld.ctorIdx_inj {f g : ThlFld} (h : f.ctorIdx = g.ctorIdx) : f = g := by
  rw [← ThlFld.ofNat_ctorIdx f, ← ThlFld.ofNat_ctorIdx g, h]
theorem KlnFld.ctorIdx_inj {f g : KlnFld} (h : f.ctorIdx = g.ctorIdx) : f = g := by
  rw [← KlnFld.ofNat_ctorIdx f, ← KlnFld.ofNat_ctorIdx g, h]
theorem CleFld.ctorIdx_inj {f g : CleFld} (h : f.ctorIdx = g.ctorIdx) : f = g := by
  rw [← CleFld.ofNat_ctorIdx f, ← CleFld.ofNat_ctorIdx g, h]
theorem DrvFld.ctorIdx_inj {f g : DrvFld} (h : f.ctorIdx = g.ctorIdx) : f = g := by
  rw [← DrvFld.ofNat_ctorIdx f, ← DrvFld.ofNat_ctorIdx g, h]
theorem RowFld.ctorIdx_inj {f g : RowFld} (h : f.ctorIdx = g.ctorIdx) : f = g := by
  rw [← RowFld.ofNat_ctorIdx f, ← RowFld.ofNat_ctorIdx g, h]
theorem CskFld.ctorIdx_inj {f g : CskFld} (h : f.ctorIdx = g.ctorIdx) : f = g := by
  rw [← CskFld.ofNat_ctorIdx f, ← CskFld.ofNat_ctorIdx g, h]
theorem BstFld.ctorIdx_inj {f g : BstFld} (h : f.ctorIdx = g.ctorIdx) : f = g := by
  rw [← BstFld.ofNat_ctorIdx f, ← BstFld.ofNat_ctorIdx g, h]
theorem SecFld.ctorIdx_inj {f g : SecFld} (h : f.ctorIdx = g.ctorIdx) : f = g := by
  rw [← SecFld.ofNat_ctorIdx f, ← SecFld.ofNat_ctorIdx g, h]
theorem CluFld.ctorIdx_inj {f g : CluFld} (h : f.ctorIdx = g.ctorIdx) : f = g := by
  rw [← CluFld.ofNat_ctorIdx f, ← CluFld.ofNat_ctorIdx g, h]

/-- The number of a field's block. -/
def Fld.blockNo (f : Fld) : Nat := f.code / 256

theorem Fld.code_lt (f : Fld) : f.code < 8192 := by
  cases f with
  | mod x => have := x.ctorIdx_lt; simp only [Fld.code]; omega
  | grb x => have := x.ctorIdx_lt; simp only [Fld.code]; omega
  | stg x => have := x.ctorIdx_lt; simp only [Fld.code]; omega
  | wiq x => have := x.ctorIdx_lt; simp only [Fld.code]; omega
  | mem x => have := x.ctorIdx_lt; simp only [Fld.code]; omega
  | mil x => have := x.ctorIdx_lt; simp only [Fld.code]; omega
  | ixf x => have := x.ctorIdx_lt; simp only [Fld.code]; omega
  | ptn x => have := x.ctorIdx_lt; simp only [Fld.code]; omega
  | thl x => have := x.ctorIdx_lt; simp only [Fld.code]; omega
  | kln x => have := x.ctorIdx_lt; simp only [Fld.code]; omega
  | cle x => have := x.ctorIdx_lt; simp only [Fld.code]; omega
  | drv x => have := x.ctorIdx_lt; simp only [Fld.code]; omega
  | row x => have := x.ctorIdx_lt; simp only [Fld.code]; omega
  | csk x => have := x.ctorIdx_lt; simp only [Fld.code]; omega
  | bst x => have := x.ctorIdx_lt; simp only [Fld.code]; omega
  | sec x => have := x.ctorIdx_lt; simp only [Fld.code]; omega
  | clu x => have := x.ctorIdx_lt; simp only [Fld.code]; omega

theorem Fld.code_inj {f g : Fld} (h : f.code = g.code) : f = g := by
  have hb : f.code / 256 = g.code / 256 := by rw [h]
  cases f with
  | mod x =>
    have hx := x.ctorIdx_lt
    cases g with
    | mod y => simp only [Fld.code] at h; exact congrArg Fld.mod (ModFld.ctorIdx_inj (by omega))
    | grb y => have hy := y.ctorIdx_lt; simp only [Fld.code] at hb; omega
    | stg y => have hy := y.ctorIdx_lt; simp only [Fld.code] at hb; omega
    | wiq y => have hy := y.ctorIdx_lt; simp only [Fld.code] at hb; omega
    | mem y => have hy := y.ctorIdx_lt; simp only [Fld.code] at hb; omega
    | mil y => have hy := y.ctorIdx_lt; simp only [Fld.code] at hb; omega
    | ixf y => have hy := y.ctorIdx_lt; simp only [Fld.code] at hb; omega
    | ptn y => have hy := y.ctorIdx_lt; simp only [Fld.code] at hb; omega
    | thl y => have hy := y.ctorIdx_lt; simp only [Fld.code] at hb; omega
    | kln y => have hy := y.ctorIdx_lt; simp only [Fld.code] at hb; omega
    | cle y => have hy := y.ctorIdx_lt; simp only [Fld.code] at hb; omega
    | drv y => have hy := y.ctorIdx_lt; simp only [Fld.code] at hb; omega
    | row y => have hy := y.ctorIdx_lt; simp only [Fld.code] at hb; omega
    | csk y => have hy := y.ctorIdx_lt; simp only [Fld.code] at hb; omega
    | bst y => have hy := y.ctorIdx_lt; simp only [Fld.code] at hb; omega
    | sec y => have hy := y.ctorIdx_lt; simp only [Fld.code] at hb; omega
    | clu y => have hy := y.ctorIdx_lt; simp only [Fld.code] at hb; omega
  | grb x =>
    have hx := x.ctorIdx_lt
    cases g with
    | mod y => have hy := y.ctorIdx_lt; simp only [Fld.code] at hb; omega
    | grb y => simp only [Fld.code] at h; exact congrArg Fld.grb (GrbFld.ctorIdx_inj (by omega))
    | stg y => have hy := y.ctorIdx_lt; simp only [Fld.code] at hb; omega
    | wiq y => have hy := y.ctorIdx_lt; simp only [Fld.code] at hb; omega
    | mem y => have hy := y.ctorIdx_lt; simp only [Fld.code] at hb; omega
    | mil y => have hy := y.ctorIdx_lt; simp only [Fld.code] at hb; omega
    | ixf y => have hy := y.ctorIdx_lt; simp only [Fld.code] at hb; omega
    | ptn y => have hy := y.ctorIdx_lt; simp only [Fld.code] at hb; omega
    | thl y => have hy := y.ctorIdx_lt; simp only [Fld.code] at hb; omega
    | kln y => have hy := y.ctorIdx_lt; simp only [Fld.code] at hb; omega
    | cle y => have hy := y.ctorIdx_lt; simp only [Fld.code] at hb; omega
    | drv y => have hy := y.ctorIdx_lt; simp only [Fld.code] at hb; omega
    | row y => have hy := y.ctorIdx_lt; simp only [Fld.code] at hb; omega
    | csk y => have hy := y.ctorIdx_lt; simp only [Fld.code] at hb; omega
    | bst y => have hy := y.ctorIdx_lt; simp only [Fld.code] at hb; omega
    | sec y => have hy := y.ctorIdx_lt; simp only [Fld.code] at hb; omega
    | clu y => have hy := y.ctorIdx_lt; simp only [Fld.code] at hb; omega
  | stg x =>
    have hx := x.ctorIdx_lt
    cases g with
    | mod y => have hy := y.ctorIdx_lt; simp only [Fld.code] at hb; omega
    | grb y => have hy := y.ctorIdx_lt; simp only [Fld.code] at hb; omega
    | stg y => simp only [Fld.code] at h; exact congrArg Fld.stg (StgFld.ctorIdx_inj (by omega))
    | wiq y => have hy := y.ctorIdx_lt; simp only [Fld.code] at hb; omega
    | mem y => have hy := y.ctorIdx_lt; simp only [Fld.code] at hb; omega
    | mil y => have hy := y.ctorIdx_lt; simp only [Fld.code] at hb; omega
    | ixf y => have hy := y.ctorIdx_lt; simp only [Fld.code] at hb; omega
    | ptn y => have hy := y.ctorIdx_lt; simp only [Fld.code] at hb; omega
    | thl y => have hy := y.ctorIdx_lt; simp only [Fld.code] at hb; omega
    | kln y => have hy := y.ctorIdx_lt; simp only [Fld.code] at hb; omega
    | cle y => have hy := y.ctorIdx_lt; simp only [Fld.code] at hb; omega
    | drv y => have hy := y.ctorIdx_lt; simp only [Fld.code] at hb; omega
    | row y => have hy := y.ctorIdx_lt; simp only [Fld.code] at hb; omega
    | csk y => have hy := y.ctorIdx_lt; simp only [Fld.code] at hb; omega
    | bst y => have hy := y.ctorIdx_lt; simp only [Fld.code] at hb; omega
    | sec y => have hy := y.ctorIdx_lt; simp only [Fld.code] at hb; omega
    | clu y => have hy := y.ctorIdx_lt; simp only [Fld.code] at hb; omega
  | wiq x =>
    have hx := x.ctorIdx_lt
    cases g with
    | mod y => have hy := y.ctorIdx_lt; simp only [Fld.code] at hb; omega
    | grb y => have hy := y.ctorIdx_lt; simp only [Fld.code] at hb; omega
    | stg y => have hy := y.ctorIdx_lt; simp only [Fld.code] at hb; omega
    | wiq y => simp only [Fld.code] at h; exact congrArg Fld.wiq (WiqFld.ctorIdx_inj (by omega))
    | mem y => have hy := y.ctorIdx_lt; simp only [Fld.code] at hb; omega
    | mil y => have hy := y.ctorIdx_lt; simp only [Fld.code] at hb; omega
    | ixf y => have hy := y.ctorIdx_lt; simp only [Fld.code] at hb; omega
    | ptn y => have hy := y.ctorIdx_lt; simp only [Fld.code] at hb; omega
    | thl y => have hy := y.ctorIdx_lt; simp only [Fld.code] at hb; omega
    | kln y => have hy := y.ctorIdx_lt; simp only [Fld.code] at hb; omega
    | cle y => have hy := y.ctorIdx_lt; simp only [Fld.code] at hb; omega
    | drv y => have hy := y.ctorIdx_lt; simp only [Fld.code] at hb; omega
    | row y => have hy := y.ctorIdx_lt; simp only [Fld.code] at hb; omega
    | csk y => have hy := y.ctorIdx_lt; simp only [Fld.code] at hb; omega
    | bst y => have hy := y.ctorIdx_lt; simp only [Fld.code] at hb; omega
    | sec y => have hy := y.ctorIdx_lt; simp only [Fld.code] at hb; omega
    | clu y => have hy := y.ctorIdx_lt; simp only [Fld.code] at hb; omega
  | mem x =>
    have hx := x.ctorIdx_lt
    cases g with
    | mod y => have hy := y.ctorIdx_lt; simp only [Fld.code] at hb; omega
    | grb y => have hy := y.ctorIdx_lt; simp only [Fld.code] at hb; omega
    | stg y => have hy := y.ctorIdx_lt; simp only [Fld.code] at hb; omega
    | wiq y => have hy := y.ctorIdx_lt; simp only [Fld.code] at hb; omega
    | mem y => simp only [Fld.code] at h; exact congrArg Fld.mem (MemFld.ctorIdx_inj (by omega))
    | mil y => have hy := y.ctorIdx_lt; simp only [Fld.code] at hb; omega
    | ixf y => have hy := y.ctorIdx_lt; simp only [Fld.code] at hb; omega
    | ptn y => have hy := y.ctorIdx_lt; simp only [Fld.code] at hb; omega
    | thl y => have hy := y.ctorIdx_lt; simp only [Fld.code] at hb; omega
    | kln y => have hy := y.ctorIdx_lt; simp only [Fld.code] at hb; omega
    | cle y => have hy := y.ctorIdx_lt; simp only [Fld.code] at hb; omega
    | drv y => have hy := y.ctorIdx_lt; simp only [Fld.code] at hb; omega
    | row y => have hy := y.ctorIdx_lt; simp only [Fld.code] at hb; omega
    | csk y => have hy := y.ctorIdx_lt; simp only [Fld.code] at hb; omega
    | bst y => have hy := y.ctorIdx_lt; simp only [Fld.code] at hb; omega
    | sec y => have hy := y.ctorIdx_lt; simp only [Fld.code] at hb; omega
    | clu y => have hy := y.ctorIdx_lt; simp only [Fld.code] at hb; omega
  | mil x =>
    have hx := x.ctorIdx_lt
    cases g with
    | mod y => have hy := y.ctorIdx_lt; simp only [Fld.code] at hb; omega
    | grb y => have hy := y.ctorIdx_lt; simp only [Fld.code] at hb; omega
    | stg y => have hy := y.ctorIdx_lt; simp only [Fld.code] at hb; omega
    | wiq y => have hy := y.ctorIdx_lt; simp only [Fld.code] at hb; omega
    | mem y => have hy := y.ctorIdx_lt; simp only [Fld.code] at hb; omega
    | mil y => simp only [Fld.code] at h; exact congrArg Fld.mil (MilFld.ctorIdx_inj (by omega))
    | ixf y => have hy := y.ctorIdx_lt; simp only [Fld.code] at hb; omega
    | ptn y => have hy := y.ctorIdx_lt; simp only [Fld.code] at hb; omega
    | thl y => have hy := y.ctorIdx_lt; simp only [Fld.code] at hb; omega
    | kln y => have hy := y.ctorIdx_lt; simp only [Fld.code] at hb; omega
    | cle y => have hy := y.ctorIdx_lt; simp only [Fld.code] at hb; omega
    | drv y => have hy := y.ctorIdx_lt; simp only [Fld.code] at hb; omega
    | row y => have hy := y.ctorIdx_lt; simp only [Fld.code] at hb; omega
    | csk y => have hy := y.ctorIdx_lt; simp only [Fld.code] at hb; omega
    | bst y => have hy := y.ctorIdx_lt; simp only [Fld.code] at hb; omega
    | sec y => have hy := y.ctorIdx_lt; simp only [Fld.code] at hb; omega
    | clu y => have hy := y.ctorIdx_lt; simp only [Fld.code] at hb; omega
  | ixf x =>
    have hx := x.ctorIdx_lt
    cases g with
    | mod y => have hy := y.ctorIdx_lt; simp only [Fld.code] at hb; omega
    | grb y => have hy := y.ctorIdx_lt; simp only [Fld.code] at hb; omega
    | stg y => have hy := y.ctorIdx_lt; simp only [Fld.code] at hb; omega
    | wiq y => have hy := y.ctorIdx_lt; simp only [Fld.code] at hb; omega
    | mem y => have hy := y.ctorIdx_lt; simp only [Fld.code] at hb; omega
    | mil y => have hy := y.ctorIdx_lt; simp only [Fld.code] at hb; omega
    | ixf y => simp only [Fld.code] at h; exact congrArg Fld.ixf (IxfFld.ctorIdx_inj (by omega))
    | ptn y => have hy := y.ctorIdx_lt; simp only [Fld.code] at hb; omega
    | thl y => have hy := y.ctorIdx_lt; simp only [Fld.code] at hb; omega
    | kln y => have hy := y.ctorIdx_lt; simp only [Fld.code] at hb; omega
    | cle y => have hy := y.ctorIdx_lt; simp only [Fld.code] at hb; omega
    | drv y => have hy := y.ctorIdx_lt; simp only [Fld.code] at hb; omega
    | row y => have hy := y.ctorIdx_lt; simp only [Fld.code] at hb; omega
    | csk y => have hy := y.ctorIdx_lt; simp only [Fld.code] at hb; omega
    | bst y => have hy := y.ctorIdx_lt; simp only [Fld.code] at hb; omega
    | sec y => have hy := y.ctorIdx_lt; simp only [Fld.code] at hb; omega
    | clu y => have hy := y.ctorIdx_lt; simp only [Fld.code] at hb; omega
  | ptn x =>
    have hx := x.ctorIdx_lt
    cases g with
    | mod y => have hy := y.ctorIdx_lt; simp only [Fld.code] at hb; omega
    | grb y => have hy := y.ctorIdx_lt; simp only [Fld.code] at hb; omega
    | stg y => have hy := y.ctorIdx_lt; simp only [Fld.code] at hb; omega
    | wiq y => have hy := y.ctorIdx_lt; simp only [Fld.code] at hb; omega
    | mem y => have hy := y.ctorIdx_lt; simp only [Fld.code] at hb; omega
    | mil y => have hy := y.ctorIdx_lt; simp only [Fld.code] at hb; omega
    | ixf y => have hy := y.ctorIdx_lt; simp only [Fld.code] at hb; omega
    | ptn y => simp only [Fld.code] at h; exact congrArg Fld.ptn (PtnFld.ctorIdx_inj (by omega))
    | thl y => have hy := y.ctorIdx_lt; simp only [Fld.code] at hb; omega
    | kln y => have hy := y.ctorIdx_lt; simp only [Fld.code] at hb; omega
    | cle y => have hy := y.ctorIdx_lt; simp only [Fld.code] at hb; omega
    | drv y => have hy := y.ctorIdx_lt; simp only [Fld.code] at hb; omega
    | row y => have hy := y.ctorIdx_lt; simp only [Fld.code] at hb; omega
    | csk y => have hy := y.ctorIdx_lt; simp only [Fld.code] at hb; omega
    | bst y => have hy := y.ctorIdx_lt; simp only [Fld.code] at hb; omega
    | sec y => have hy := y.ctorIdx_lt; simp only [Fld.code] at hb; omega
    | clu y => have hy := y.ctorIdx_lt; simp only [Fld.code] at hb; omega
  | thl x =>
    have hx := x.ctorIdx_lt
    cases g with
    | mod y => have hy := y.ctorIdx_lt; simp only [Fld.code] at hb; omega
    | grb y => have hy := y.ctorIdx_lt; simp only [Fld.code] at hb; omega
    | stg y => have hy := y.ctorIdx_lt; simp only [Fld.code] at hb; omega
    | wiq y => have hy := y.ctorIdx_lt; simp only [Fld.code] at hb; omega
    | mem y => have hy := y.ctorIdx_lt; simp only [Fld.code] at hb; omega
    | mil y => have hy := y.ctorIdx_lt; simp only [Fld.code] at hb; omega
    | ixf y => have hy := y.ctorIdx_lt; simp only [Fld.code] at hb; omega
    | ptn y => have hy := y.ctorIdx_lt; simp only [Fld.code] at hb; omega
    | thl y => simp only [Fld.code] at h; exact congrArg Fld.thl (ThlFld.ctorIdx_inj (by omega))
    | kln y => have hy := y.ctorIdx_lt; simp only [Fld.code] at hb; omega
    | cle y => have hy := y.ctorIdx_lt; simp only [Fld.code] at hb; omega
    | drv y => have hy := y.ctorIdx_lt; simp only [Fld.code] at hb; omega
    | row y => have hy := y.ctorIdx_lt; simp only [Fld.code] at hb; omega
    | csk y => have hy := y.ctorIdx_lt; simp only [Fld.code] at hb; omega
    | bst y => have hy := y.ctorIdx_lt; simp only [Fld.code] at hb; omega
    | sec y => have hy := y.ctorIdx_lt; simp only [Fld.code] at hb; omega
    | clu y => have hy := y.ctorIdx_lt; simp only [Fld.code] at hb; omega
  | kln x =>
    have hx := x.ctorIdx_lt
    cases g with
    | mod y => have hy := y.ctorIdx_lt; simp only [Fld.code] at hb; omega
    | grb y => have hy := y.ctorIdx_lt; simp only [Fld.code] at hb; omega
    | stg y => have hy := y.ctorIdx_lt; simp only [Fld.code] at hb; omega
    | wiq y => have hy := y.ctorIdx_lt; simp only [Fld.code] at hb; omega
    | mem y => have hy := y.ctorIdx_lt; simp only [Fld.code] at hb; omega
    | mil y => have hy := y.ctorIdx_lt; simp only [Fld.code] at hb; omega
    | ixf y => have hy := y.ctorIdx_lt; simp only [Fld.code] at hb; omega
    | ptn y => have hy := y.ctorIdx_lt; simp only [Fld.code] at hb; omega
    | thl y => have hy := y.ctorIdx_lt; simp only [Fld.code] at hb; omega
    | kln y => simp only [Fld.code] at h; exact congrArg Fld.kln (KlnFld.ctorIdx_inj (by omega))
    | cle y => have hy := y.ctorIdx_lt; simp only [Fld.code] at hb; omega
    | drv y => have hy := y.ctorIdx_lt; simp only [Fld.code] at hb; omega
    | row y => have hy := y.ctorIdx_lt; simp only [Fld.code] at hb; omega
    | csk y => have hy := y.ctorIdx_lt; simp only [Fld.code] at hb; omega
    | bst y => have hy := y.ctorIdx_lt; simp only [Fld.code] at hb; omega
    | sec y => have hy := y.ctorIdx_lt; simp only [Fld.code] at hb; omega
    | clu y => have hy := y.ctorIdx_lt; simp only [Fld.code] at hb; omega
  | cle x =>
    have hx := x.ctorIdx_lt
    cases g with
    | mod y => have hy := y.ctorIdx_lt; simp only [Fld.code] at hb; omega
    | grb y => have hy := y.ctorIdx_lt; simp only [Fld.code] at hb; omega
    | stg y => have hy := y.ctorIdx_lt; simp only [Fld.code] at hb; omega
    | wiq y => have hy := y.ctorIdx_lt; simp only [Fld.code] at hb; omega
    | mem y => have hy := y.ctorIdx_lt; simp only [Fld.code] at hb; omega
    | mil y => have hy := y.ctorIdx_lt; simp only [Fld.code] at hb; omega
    | ixf y => have hy := y.ctorIdx_lt; simp only [Fld.code] at hb; omega
    | ptn y => have hy := y.ctorIdx_lt; simp only [Fld.code] at hb; omega
    | thl y => have hy := y.ctorIdx_lt; simp only [Fld.code] at hb; omega
    | kln y => have hy := y.ctorIdx_lt; simp only [Fld.code] at hb; omega
    | cle y => simp only [Fld.code] at h; exact congrArg Fld.cle (CleFld.ctorIdx_inj (by omega))
    | drv y => have hy := y.ctorIdx_lt; simp only [Fld.code] at hb; omega
    | row y => have hy := y.ctorIdx_lt; simp only [Fld.code] at hb; omega
    | csk y => have hy := y.ctorIdx_lt; simp only [Fld.code] at hb; omega
    | bst y => have hy := y.ctorIdx_lt; simp only [Fld.code] at hb; omega
    | sec y => have hy := y.ctorIdx_lt; simp only [Fld.code] at hb; omega
    | clu y => have hy := y.ctorIdx_lt; simp only [Fld.code] at hb; omega
  | drv x =>
    have hx := x.ctorIdx_lt
    cases g with
    | mod y => have hy := y.ctorIdx_lt; simp only [Fld.code] at hb; omega
    | grb y => have hy := y.ctorIdx_lt; simp only [Fld.code] at hb; omega
    | stg y => have hy := y.ctorIdx_lt; simp only [Fld.code] at hb; omega
    | wiq y => have hy := y.ctorIdx_lt; simp only [Fld.code] at hb; omega
    | mem y => have hy := y.ctorIdx_lt; simp only [Fld.code] at hb; omega
    | mil y => have hy := y.ctorIdx_lt; simp only [Fld.code] at hb; omega
    | ixf y => have hy := y.ctorIdx_lt; simp only [Fld.code] at hb; omega
    | ptn y => have hy := y.ctorIdx_lt; simp only [Fld.code] at hb; omega
    | thl y => have hy := y.ctorIdx_lt; simp only [Fld.code] at hb; omega
    | kln y => have hy := y.ctorIdx_lt; simp only [Fld.code] at hb; omega
    | cle y => have hy := y.ctorIdx_lt; simp only [Fld.code] at hb; omega
    | drv y => simp only [Fld.code] at h; exact congrArg Fld.drv (DrvFld.ctorIdx_inj (by omega))
    | row y => have hy := y.ctorIdx_lt; simp only [Fld.code] at hb; omega
    | csk y => have hy := y.ctorIdx_lt; simp only [Fld.code] at hb; omega
    | bst y => have hy := y.ctorIdx_lt; simp only [Fld.code] at hb; omega
    | sec y => have hy := y.ctorIdx_lt; simp only [Fld.code] at hb; omega
    | clu y => have hy := y.ctorIdx_lt; simp only [Fld.code] at hb; omega
  | row x =>
    have hx := x.ctorIdx_lt
    cases g with
    | mod y => have hy := y.ctorIdx_lt; simp only [Fld.code] at hb; omega
    | grb y => have hy := y.ctorIdx_lt; simp only [Fld.code] at hb; omega
    | stg y => have hy := y.ctorIdx_lt; simp only [Fld.code] at hb; omega
    | wiq y => have hy := y.ctorIdx_lt; simp only [Fld.code] at hb; omega
    | mem y => have hy := y.ctorIdx_lt; simp only [Fld.code] at hb; omega
    | mil y => have hy := y.ctorIdx_lt; simp only [Fld.code] at hb; omega
    | ixf y => have hy := y.ctorIdx_lt; simp only [Fld.code] at hb; omega
    | ptn y => have hy := y.ctorIdx_lt; simp only [Fld.code] at hb; omega
    | thl y => have hy := y.ctorIdx_lt; simp only [Fld.code] at hb; omega
    | kln y => have hy := y.ctorIdx_lt; simp only [Fld.code] at hb; omega
    | cle y => have hy := y.ctorIdx_lt; simp only [Fld.code] at hb; omega
    | drv y => have hy := y.ctorIdx_lt; simp only [Fld.code] at hb; omega
    | row y => simp only [Fld.code] at h; exact congrArg Fld.row (RowFld.ctorIdx_inj (by omega))
    | csk y => have hy := y.ctorIdx_lt; simp only [Fld.code] at hb; omega
    | bst y => have hy := y.ctorIdx_lt; simp only [Fld.code] at hb; omega
    | sec y => have hy := y.ctorIdx_lt; simp only [Fld.code] at hb; omega
    | clu y => have hy := y.ctorIdx_lt; simp only [Fld.code] at hb; omega
  | csk x =>
    have hx := x.ctorIdx_lt
    cases g with
    | mod y => have hy := y.ctorIdx_lt; simp only [Fld.code] at hb; omega
    | grb y => have hy := y.ctorIdx_lt; simp only [Fld.code] at hb; omega
    | stg y => have hy := y.ctorIdx_lt; simp only [Fld.code] at hb; omega
    | wiq y => have hy := y.ctorIdx_lt; simp only [Fld.code] at hb; omega
    | mem y => have hy := y.ctorIdx_lt; simp only [Fld.code] at hb; omega
    | mil y => have hy := y.ctorIdx_lt; simp only [Fld.code] at hb; omega
    | ixf y => have hy := y.ctorIdx_lt; simp only [Fld.code] at hb; omega
    | ptn y => have hy := y.ctorIdx_lt; simp only [Fld.code] at hb; omega
    | thl y => have hy := y.ctorIdx_lt; simp only [Fld.code] at hb; omega
    | kln y => have hy := y.ctorIdx_lt; simp only [Fld.code] at hb; omega
    | cle y => have hy := y.ctorIdx_lt; simp only [Fld.code] at hb; omega
    | drv y => have hy := y.ctorIdx_lt; simp only [Fld.code] at hb; omega
    | row y => have hy := y.ctorIdx_lt; simp only [Fld.code] at hb; omega
    | csk y => simp only [Fld.code] at h; exact congrArg Fld.csk (CskFld.ctorIdx_inj (by omega))
    | bst y => have hy := y.ctorIdx_lt; simp only [Fld.code] at hb; omega
    | sec y => have hy := y.ctorIdx_lt; simp only [Fld.code] at hb; omega
    | clu y => have hy := y.ctorIdx_lt; simp only [Fld.code] at hb; omega
  | bst x =>
    have hx := x.ctorIdx_lt
    cases g with
    | mod y => have hy := y.ctorIdx_lt; simp only [Fld.code] at hb; omega
    | grb y => have hy := y.ctorIdx_lt; simp only [Fld.code] at hb; omega
    | stg y => have hy := y.ctorIdx_lt; simp only [Fld.code] at hb; omega
    | wiq y => have hy := y.ctorIdx_lt; simp only [Fld.code] at hb; omega
    | mem y => have hy := y.ctorIdx_lt; simp only [Fld.code] at hb; omega
    | mil y => have hy := y.ctorIdx_lt; simp only [Fld.code] at hb; omega
    | ixf y => have hy := y.ctorIdx_lt; simp only [Fld.code] at hb; omega
    | ptn y => have hy := y.ctorIdx_lt; simp only [Fld.code] at hb; omega
    | thl y => have hy := y.ctorIdx_lt; simp only [Fld.code] at hb; omega
    | kln y => have hy := y.ctorIdx_lt; simp only [Fld.code] at hb; omega
    | cle y => have hy := y.ctorIdx_lt; simp only [Fld.code] at hb; omega
    | drv y => have hy := y.ctorIdx_lt; simp only [Fld.code] at hb; omega
    | row y => have hy := y.ctorIdx_lt; simp only [Fld.code] at hb; omega
    | csk y => have hy := y.ctorIdx_lt; simp only [Fld.code] at hb; omega
    | bst y => simp only [Fld.code] at h; exact congrArg Fld.bst (BstFld.ctorIdx_inj (by omega))
    | sec y => have hy := y.ctorIdx_lt; simp only [Fld.code] at hb; omega
    | clu y => have hy := y.ctorIdx_lt; simp only [Fld.code] at hb; omega
  | sec x =>
    have hx := x.ctorIdx_lt
    cases g with
    | mod y => have hy := y.ctorIdx_lt; simp only [Fld.code] at hb; omega
    | grb y => have hy := y.ctorIdx_lt; simp only [Fld.code] at hb; omega
    | stg y => have hy := y.ctorIdx_lt; simp only [Fld.code] at hb; omega
    | wiq y => have hy := y.ctorIdx_lt; simp only [Fld.code] at hb; omega
    | mem y => have hy := y.ctorIdx_lt; simp only [Fld.code] at hb; omega
    | mil y => have hy := y.ctorIdx_lt; simp only [Fld.code] at hb; omega
    | ixf y => have hy := y.ctorIdx_lt; simp only [Fld.code] at hb; omega
    | ptn y => have hy := y.ctorIdx_lt; simp only [Fld.code] at hb; omega
    | thl y => have hy := y.ctorIdx_lt; simp only [Fld.code] at hb; omega
    | kln y => have hy := y.ctorIdx_lt; simp only [Fld.code] at hb; omega
    | cle y => have hy := y.ctorIdx_lt; simp only [Fld.code] at hb; omega
    | drv y => have hy := y.ctorIdx_lt; simp only [Fld.code] at hb; omega
    | row y => have hy := y.ctorIdx_lt; simp only [Fld.code] at hb; omega
    | csk y => have hy := y.ctorIdx_lt; simp only [Fld.code] at hb; omega
    | bst y => have hy := y.ctorIdx_lt; simp only [Fld.code] at hb; omega
    | sec y => simp only [Fld.code] at h; exact congrArg Fld.sec (SecFld.ctorIdx_inj (by omega))
    | clu y => have hy := y.ctorIdx_lt; simp only [Fld.code] at hb; omega
  | clu x =>
    have hx := x.ctorIdx_lt
    cases g with
    | mod y => have hy := y.ctorIdx_lt; simp only [Fld.code] at hb; omega
    | grb y => have hy := y.ctorIdx_lt; simp only [Fld.code] at hb; omega
    | stg y => have hy := y.ctorIdx_lt; simp only [Fld.code] at hb; omega
    | wiq y => have hy := y.ctorIdx_lt; simp only [Fld.code] at hb; omega
    | mem y => have hy := y.ctorIdx_lt; simp only [Fld.code] at hb; omega
    | mil y => have hy := y.ctorIdx_lt; simp only [Fld.code] at hb; omega
    | ixf y => have hy := y.ctorIdx_lt; simp only [Fld.code] at hb; omega
    | ptn y => have hy := y.ctorIdx_lt; simp only [Fld.code] at hb; omega
    | thl y => have hy := y.ctorIdx_lt; simp only [Fld.code] at hb; omega
    | kln y => have hy := y.ctorIdx_lt; simp only [Fld.code] at hb; omega
    | cle y => have hy := y.ctorIdx_lt; simp only [Fld.code] at hb; omega
    | drv y => have hy := y.ctorIdx_lt; simp only [Fld.code] at hb; omega
    | row y => have hy := y.ctorIdx_lt; simp only [Fld.code] at hb; omega
    | csk y => have hy := y.ctorIdx_lt; simp only [Fld.code] at hb; omega
    | bst y => have hy := y.ctorIdx_lt; simp only [Fld.code] at hb; omega
    | sec y => have hy := y.ctorIdx_lt; simp only [Fld.code] at hb; omega
    | clu y => simp only [Fld.code] at h; exact congrArg Fld.clu (CluFld.ctorIdx_inj (by omega))

theorem Fld.key_inj {f g : Fld} {i j : Nat} (h : f.key i = g.key j) : f = g ∧ i = j := by
  have hf := f.code_lt
  have hg := g.code_lt
  simp only [Fld.key] at h
  exact ⟨Fld.code_inj (by omega), by omega⟩

theorem Fld.key_eq_iff {f g : Fld} {i j : Nat} : f.key i = g.key j ↔ f = g ∧ i = j :=
  ⟨Fld.key_inj, fun h => by rw [h.1, h.2]⟩

/-! ### Reading what was written -/

/-- A field reads what was written to it last, cut to its width; every other field reads as before. -/
@[simp] theorem State.getF_setF (s : State) (f g : Fld) (i j v : Nat) :
    (s.setF f i v).getF g j = if g = f ∧ j = i then v % 2 ^ f.width else s.getF g j := by
  unfold State.getF State.setF
  split
  · rename_i h
    rw [h.1, h.2, SMap.getD_put_same]
  · rename_i h
    exact SMap.getD_put_ne _ _ _ _ fun e => h (Fld.key_inj e)

/-- A write to the visible set leaves the committed set. -/
@[simp] theorem State.getLive_setF (s : State) (f g : Fld) (i j v : Nat) :
    (s.setF f i v).getLive g j = s.getLive g j := rfl

/-- A committed field reads what was put in force last; every other one reads as before. -/
@[simp] theorem State.getLive_setLive (s : State) (f g : Fld) (i j v : Nat) :
    (s.setLive f i v).getLive g j = if g = f ∧ j = i then v % 2 ^ f.width else s.getLive g j := by
  unfold State.getLive State.setLive
  split
  · rename_i h
    rw [h.1, h.2, SMap.getD_put_same]
  · rename_i h
    exact SMap.getD_put_ne _ _ _ _ fun e => h (Fld.key_inj e)

/-- Putting a value in force leaves the visible set. -/
@[simp] theorem State.getF_setLive (s : State) (f g : Fld) (i j v : Nat) :
    (s.setLive f i v).getF g j = s.getF g j := rfl

@[simp] theorem State.flag_setF (s : State) (f g : Fld) (i j v : Nat) :
    (s.setF f i v).flag g j = if g = f ∧ j = i then v % 2 ^ f.width != 0 else s.flag g j := by
  unfold State.flag
  rw [State.getF_setF]
  split <;> rfl

@[simp] theorem State.liveFlag_setF (s : State) (f g : Fld) (i j v : Nat) :
    (s.setF f i v).liveFlag g j = s.liveFlag g j := rfl

/-! ### What a write leaves -/

@[simp] theorem State.setF_pending (s : State) (f : Fld) (i v : Nat) : (s.setF f i v).pending = s.pending := rfl
@[simp] theorem State.setF_freeCtr (s : State) (f : Fld) (i v : Nat) : (s.setF f i v).freeCtr = s.freeCtr := rfl
@[simp] theorem State.setF_live (s : State) (f : Fld) (i v : Nat) : (s.setF f i v).live = s.live := rfl
@[simp] theorem State.setF_latch (s : State) (f : Fld) (i v : Nat) : (s.setF f i v).latch = s.latch := rfl
@[simp] theorem State.setF_heldWrites (s : State) (f : Fld) (i v : Nat) : (s.setF f i v).heldWrites = s.heldWrites := rfl
@[simp] theorem State.setF_heldCommits (s : State) (f : Fld) (i v : Nat) : (s.setF f i v).heldCommits = s.heldCommits := rfl
@[simp] theorem State.setF_power (s : State) (f : Fld) (i v : Nat) : (s.setF f i v).power = s.power := rfl
@[simp] theorem State.setF_cask (s : State) (f : Fld) (i v : Nat) : (s.setF f i v).cask = s.cask := rfl
@[simp] theorem State.setF_row (s : State) (f : Fld) (i v : Nat) : (s.setF f i v).row = s.row := rfl
@[simp] theorem State.setF_thl (s : State) (f : Fld) (i v : Nat) : (s.setF f i v).thl = s.thl := rfl
@[simp] theorem State.setF_kln (s : State) (f : Fld) (i v : Nat) : (s.setF f i v).kln = s.kln := rfl
@[simp] theorem State.setF_sec (s : State) (f : Fld) (i v : Nat) : (s.setF f i v).sec = s.sec := rfl
@[simp] theorem State.setF_cool (s : State) (f : Fld) (i v : Nat) : (s.setF f i v).cool = s.cool := rfl
@[simp] theorem State.setF_cop (s : State) (f : Fld) (i v : Nat) : (s.setF f i v).cop = s.cop := rfl
@[simp] theorem State.setF_drive (s : State) (f : Fld) (i v : Nat) : (s.setF f i v).drive = s.drive := rfl
@[simp] theorem State.setF_clu (s : State) (f : Fld) (i v : Nat) : (s.setF f i v).clu = s.clu := rfl
@[simp] theorem State.setF_spareMap (s : State) (f : Fld) (i v : Nat) : (s.setF f i v).spareMap = s.spareMap := rfl
@[simp] theorem State.setF_wiq (s : State) (f : Fld) (i v : Nat) : (s.setF f i v).wiq = s.wiq := rfl
@[simp] theorem State.setF_mem (s : State) (f : Fld) (i v : Nat) : (s.setF f i v).mem = s.mem := rfl
@[simp] theorem State.setF_gates (s : State) (f : Fld) (i v : Nat) : (s.setF f i v).gates = s.gates := rfl
@[simp] theorem State.setF_grn (s : State) (f : Fld) (i v : Nat) : (s.setF f i v).grn = s.grn := rfl
@[simp] theorem State.setF_lnk (s : State) (f : Fld) (i v : Nat) : (s.setF f i v).lnk = s.lnk := rfl
@[simp] theorem State.setF_ixf (s : State) (f : Fld) (i v : Nat) : (s.setF f i v).ixf = s.ixf := rfl
@[simp] theorem State.setF_ptn (s : State) (f : Fld) (i v : Nat) : (s.setF f i v).ptn = s.ptn := rfl
@[simp] theorem State.setF_bst (s : State) (f : Fld) (i v : Nat) : (s.setF f i v).bst = s.bst := rfl

@[simp] theorem State.setLive_pending (s : State) (f : Fld) (i v : Nat) : (s.setLive f i v).pending = s.pending := rfl
@[simp] theorem State.setLive_freeCtr (s : State) (f : Fld) (i v : Nat) : (s.setLive f i v).freeCtr = s.freeCtr := rfl
@[simp] theorem State.setLive_regs (s : State) (f : Fld) (i v : Nat) : (s.setLive f i v).regs = s.regs := rfl
@[simp] theorem State.setLive_latch (s : State) (f : Fld) (i v : Nat) : (s.setLive f i v).latch = s.latch := rfl
@[simp] theorem State.setLive_heldWrites (s : State) (f : Fld) (i v : Nat) : (s.setLive f i v).heldWrites = s.heldWrites := rfl
@[simp] theorem State.setLive_heldCommits (s : State) (f : Fld) (i v : Nat) : (s.setLive f i v).heldCommits = s.heldCommits := rfl
@[simp] theorem State.setLive_power (s : State) (f : Fld) (i v : Nat) : (s.setLive f i v).power = s.power := rfl
@[simp] theorem State.setLive_cask (s : State) (f : Fld) (i v : Nat) : (s.setLive f i v).cask = s.cask := rfl
@[simp] theorem State.setLive_row (s : State) (f : Fld) (i v : Nat) : (s.setLive f i v).row = s.row := rfl
@[simp] theorem State.setLive_thl (s : State) (f : Fld) (i v : Nat) : (s.setLive f i v).thl = s.thl := rfl
@[simp] theorem State.setLive_kln (s : State) (f : Fld) (i v : Nat) : (s.setLive f i v).kln = s.kln := rfl
@[simp] theorem State.setLive_sec (s : State) (f : Fld) (i v : Nat) : (s.setLive f i v).sec = s.sec := rfl
@[simp] theorem State.setLive_cool (s : State) (f : Fld) (i v : Nat) : (s.setLive f i v).cool = s.cool := rfl
@[simp] theorem State.setLive_cop (s : State) (f : Fld) (i v : Nat) : (s.setLive f i v).cop = s.cop := rfl
@[simp] theorem State.setLive_drive (s : State) (f : Fld) (i v : Nat) : (s.setLive f i v).drive = s.drive := rfl
@[simp] theorem State.setLive_clu (s : State) (f : Fld) (i v : Nat) : (s.setLive f i v).clu = s.clu := rfl
@[simp] theorem State.setLive_spareMap (s : State) (f : Fld) (i v : Nat) : (s.setLive f i v).spareMap = s.spareMap := rfl
@[simp] theorem State.setLive_wiq (s : State) (f : Fld) (i v : Nat) : (s.setLive f i v).wiq = s.wiq := rfl
@[simp] theorem State.setLive_mem (s : State) (f : Fld) (i v : Nat) : (s.setLive f i v).mem = s.mem := rfl
@[simp] theorem State.setLive_gates (s : State) (f : Fld) (i v : Nat) : (s.setLive f i v).gates = s.gates := rfl
@[simp] theorem State.setLive_grn (s : State) (f : Fld) (i v : Nat) : (s.setLive f i v).grn = s.grn := rfl
@[simp] theorem State.setLive_lnk (s : State) (f : Fld) (i v : Nat) : (s.setLive f i v).lnk = s.lnk := rfl
@[simp] theorem State.setLive_ixf (s : State) (f : Fld) (i v : Nat) : (s.setLive f i v).ixf = s.ixf := rfl
@[simp] theorem State.setLive_ptn (s : State) (f : Fld) (i v : Nat) : (s.setLive f i v).ptn = s.ptn := rfl
@[simp] theorem State.setLive_bst (s : State) (f : Fld) (i v : Nat) : (s.setLive f i v).bst = s.bst := rfl

@[simp] theorem State.isOn_setF (s : State) (f : Fld) (i v : Nat) (d : Domain) : (s.setF f i v).isOn d = s.isOn d := rfl
@[simp] theorem State.active_setF (s : State) (f : Fld) (i v : Nat) : (s.setF f i v).active = s.active := rfl

/-! ### The free values -/

@[simp] theorem State.fresh_pending (s : State) (w : Nat) : (s.fresh w).2.pending = s.pending := rfl
@[simp] theorem State.fresh_regs (s : State) (w : Nat) : (s.fresh w).2.regs = s.regs := rfl
@[simp] theorem State.fresh_live (s : State) (w : Nat) : (s.fresh w).2.live = s.live := rfl
@[simp] theorem State.fresh_latch (s : State) (w : Nat) : (s.fresh w).2.latch = s.latch := rfl
@[simp] theorem State.fresh_heldWrites (s : State) (w : Nat) : (s.fresh w).2.heldWrites = s.heldWrites := rfl
@[simp] theorem State.fresh_heldCommits (s : State) (w : Nat) : (s.fresh w).2.heldCommits = s.heldCommits := rfl
@[simp] theorem State.fresh_power (s : State) (w : Nat) : (s.fresh w).2.power = s.power := rfl
@[simp] theorem State.fresh_cask (s : State) (w : Nat) : (s.fresh w).2.cask = s.cask := rfl
@[simp] theorem State.fresh_row (s : State) (w : Nat) : (s.fresh w).2.row = s.row := rfl
@[simp] theorem State.fresh_thl (s : State) (w : Nat) : (s.fresh w).2.thl = s.thl := rfl
@[simp] theorem State.fresh_kln (s : State) (w : Nat) : (s.fresh w).2.kln = s.kln := rfl
@[simp] theorem State.fresh_sec (s : State) (w : Nat) : (s.fresh w).2.sec = s.sec := rfl
@[simp] theorem State.fresh_cool (s : State) (w : Nat) : (s.fresh w).2.cool = s.cool := rfl
@[simp] theorem State.fresh_cop (s : State) (w : Nat) : (s.fresh w).2.cop = s.cop := rfl
@[simp] theorem State.fresh_drive (s : State) (w : Nat) : (s.fresh w).2.drive = s.drive := rfl
@[simp] theorem State.fresh_clu (s : State) (w : Nat) : (s.fresh w).2.clu = s.clu := rfl
@[simp] theorem State.fresh_spareMap (s : State) (w : Nat) : (s.fresh w).2.spareMap = s.spareMap := rfl
@[simp] theorem State.fresh_wiq (s : State) (w : Nat) : (s.fresh w).2.wiq = s.wiq := rfl
@[simp] theorem State.fresh_mem (s : State) (w : Nat) : (s.fresh w).2.mem = s.mem := rfl
@[simp] theorem State.fresh_gates (s : State) (w : Nat) : (s.fresh w).2.gates = s.gates := rfl
@[simp] theorem State.fresh_grn (s : State) (w : Nat) : (s.fresh w).2.grn = s.grn := rfl
@[simp] theorem State.fresh_lnk (s : State) (w : Nat) : (s.fresh w).2.lnk = s.lnk := rfl
@[simp] theorem State.fresh_ixf (s : State) (w : Nat) : (s.fresh w).2.ixf = s.ixf := rfl
@[simp] theorem State.fresh_ptn (s : State) (w : Nat) : (s.fresh w).2.ptn = s.ptn := rfl
@[simp] theorem State.fresh_bst (s : State) (w : Nat) : (s.fresh w).2.bst = s.bst := rfl

/-- A free value is drawn, and the counter moves past it (log entry 3). -/
theorem State.fresh_ctr (s : State) (w : Nat) : (s.fresh w).2.freeCtr = s.freeCtr + 1 := rfl

@[simp] theorem State.getF_fresh (s : State) (w : Nat) (f : Fld) (i : Nat) : (s.fresh w).2.getF f i = s.getF f i := rfl

end Sys2Proof.Machine
end

