-- ==== Sys2Proof/Laws/Told.lean ====
section
/-!
SUPPORT. What telling the world of an event can change: the host link with its packets and flits, the Cask and the row bus, and
nothing else. Posting an event, with all that it writes, has one lemma here (State.post_told), so that no proof about a command unfolds
the event path.
-/

namespace Sys2Proof.Machine

/-- The register fields that an event may move: those of the host link, the Cask and the row bus. -/
def Fld.tells : Fld → Bool
  | .thl _ => true
  | .csk _ => true
  | .row _ => true
  | _ => false

/-- t differs from s only in what an event may move. -/
structure Told (s t : State) : Prop where
  rest : t = { s with regs := t.regs, thl := t.thl, cask := t.cask, row := t.row, lnk := t.lnk }
  reg : ∀ f i, f.tells = false → t.getF f i = s.getF f i

theorem Told.refl (s : State) : Told s s := ⟨rfl, fun _ _ _ => rfl⟩

theorem Told.trans {a b c : State} (h : Told a b) (k : Told b c) : Told a c := by
  refine ⟨?_, fun f i x => (k.reg f i x).trans (h.reg f i x)⟩
  have e := k.rest
  rw [h.rest] at e
  exact e

/-- Changes of the host link, the Cask, the row bus and the links themselves. -/
theorem Told.parts (s : State) (a : Thl) (b : Cask) (c : Row) (l : Lnk) :
    Told s { s with thl := a, cask := b, row := c, lnk := l } :=
  ⟨rfl, fun _ _ _ => rfl⟩

theorem Told.setF (s : State) (f : Fld) (i v : Nat) (h : f.tells = true) : Told s (s.setF f i v) := by
  refine ⟨rfl, fun g j x => ?_⟩
  rw [State.getF_setF, if_neg]
  rintro ⟨rfl, -⟩
  rw [h] at x
  cases x

theorem Told.grn {s t : State} (h : Told s t) : t.grn = s.grn := by rw [h.rest]
theorem Told.clu {s t : State} (h : Told s t) : t.clu = s.clu := by rw [h.rest]
theorem Told.live {s t : State} (h : Told s t) : t.live = s.live := by rw [h.rest]
theorem Told.mem {s t : State} (h : Told s t) : t.mem = s.mem := by rw [h.rest]
theorem Told.power {s t : State} (h : Told s t) : t.power = s.power := by rw [h.rest]
theorem Told.kln {s t : State} (h : Told s t) : t.kln = s.kln := by rw [h.rest]
theorem Told.wiq {s t : State} (h : Told s t) : t.wiq = s.wiq := by rw [h.rest]
theorem Told.ixf {s t : State} (h : Told s t) : t.ixf = s.ixf := by rw [h.rest]

theorem Told.sendFlit (s : State) (k : Nat) (n i : Bool) (d : List Byte) : Told s (s.sendFlit k n i d) := Told.parts s s.thl s.cask s.row _

theorem Told.sendFlits (n : Nat) : ∀ (s : State) (k : Nat) (d : List Byte), Told s (State.sendFlits n s k d) := by
  induction n with
  | zero => exact fun s _ _ => Told.refl s
  | succ n ih =>
    intro s k d
    unfold State.sendFlits
    split
    · exact Told.refl s
    · exact (Told.sendFlit ..).trans (ih ..)

theorem Told.sendPkt (s : State) (k : Nat) (p : Pkt) : Told s (s.sendPkt k p) := by
  unfold State.sendPkt State.transmit
  dsimp only
  split
  · exact (Told.parts s s.thl s.cask s.row _).trans (Told.sendFlits ..)
  · exact Told.parts s s.thl s.cask s.row _

theorem Told.sendHost (s : State) (p : Pkt) : Told s (s.sendHost p) := by
  unfold State.sendHost
  split
  · exact Told.sendPkt ..
  · exact Told.refl s

theorem Told.raiseIrq (s : State) (v : Nat) : Told s (s.raiseIrq v) := by
  unfold State.raiseIrq State.setBit
  have h := Told.setF s (.thl .irqStatusPending) 0 (s.getF (.thl .irqStatusPending) ||| 2 ^ v) rfl
  dsimp only
  split
  · exact Told.refl s
  · split
    · split
      · exact h.trans (Told.sendHost ..)
      · split
        · exact h.trans (Told.parts ..)
        · exact (h.trans (Told.sendHost ..)).trans (Told.parts ..)
    · exact h

theorem Told.hostWrite (s : State) (a : Nat) (d : List Byte) (k : HmemKind) : Told s (s.hostWrite a d k) :=
  (Told.sendHost ..).trans (Told.parts ..)

theorem Told.writeEvent (s : State) (e : EventRec) : Told s (s.writeEvent e) := by
  unfold State.writeEvent State.addWrap
  dsimp only
  split
  · exact (((Told.hostWrite ..).trans (Told.setF _ _ _ _ rfl)).trans (Told.raiseIrq ..)).trans (Told.raiseIrq ..)
  · exact ((Told.hostWrite ..).trans (Told.setF _ _ _ _ rfl)).trans (Told.raiseIrq ..)

theorem Told.hostEvent (s : State) (e : EventRec) : Told s (s.hostEvent e) := by
  unfold State.hostEvent State.addSat
  split
  · exact Told.writeEvent ..
  · split
    · exact Told.parts ..
    · exact (Told.setF _ _ _ _ rfl).trans (Told.parts ..)

theorem Told.caskAdd (s : State) (k : Kiln) (e : CaskEntry) : Told s (s.caskAdd k e).1 := by
  unfold State.caskAdd
  dsimp only
  repeat' split
  all_goals exact Told.parts ..

theorem Told.caskPut (s : State) (k : Kiln) (a b c d : Nat) : Told s (s.caskPut k a b c d).1 := by
  unfold State.caskPut
  dsimp only
  split
  · exact Told.parts ..
  · exact (Told.setF _ _ _ _ rfl).trans (Told.caskAdd ..)

theorem Told.rowQueueOn (s : State) (p b : Nat) (m : RowMsg) : Told s (s.rowQueueOn p b m) := by
  unfold State.rowQueueOn State.addSat State.setRowQueue State.alertSet State.setBit
  split
  · dsimp only
    have h : ∀ r v, Told s (State.setF { s with row := r } (.row .portTxDropped) p v) := fun r v =>
      (Told.parts s s.thl s.cask r s.lnk).trans (Told.setF _ (.row .portTxDropped) p v rfl)
    split
    · exact ((h _ _).trans (Told.setF _ (.row .alertCause) 0 _ rfl)).trans (Told.setF _ (.row .alertAsserted) 0 _ rfl)
    · exact h _ _
  · exact Told.refl s

theorem Told.rowSend (s : State) (a b c d e : Nat) (f : Nat → List Byte) : Told s (s.rowSend a b c d e f) := by
  unfold State.rowSend State.takeRowSeq
  split
  · exact Told.refl s
  · exact ((Told.parts s s.thl s.cask _ s.lnk).trans (Told.rowQueueOn ..)).trans (Told.rowQueueOn ..)

theorem Told.sendModuleEvent (s : State) (a b c : Nat) : Told s (s.sendModuleEvent a b c) := by
  unfold State.sendModuleEvent
  split <;> exact Told.rowSend ..

theorem Told.logLoss (s : State) (k : Kiln) (l : Option CaskRec) : Told s (s.logLoss k l) := by
  unfold State.logLoss State.addSat
  split
  · exact Told.refl s
  · dsimp only
    have losing : ∀ v, Told s ((s.setF (.csk .lostCount) 0 v).setF (.csk .statusLosing) 0 1) := fun v =>
      (Told.setF s (.csk .lostCount) 0 v rfl).trans (Told.setF _ (.csk .statusLosing) 0 1 rfl)
    split
    · exact Told.setF _ _ _ _ rfl
    · split
      · exact losing _
      · refine Told.trans ?_ (Told.sendModuleEvent ..)
        refine Told.trans ?_ (Told.hostEvent ..)
        split
        · exact ((losing _).trans (Told.caskPut ..)).trans (Told.setF _ (.csk .lostCount) 0 _ rfl)
        · exact (losing _).trans (Told.caskPut ..)

/-- Everything that posting an event may change. -/
theorem State.post_told (s : State) (source code severity data : Nat) (toHost : Bool) (rowCode : Nat) :
    Told s (s.post source code severity data toHost rowCode) := by
  unfold State.post
  split
  · exact Told.parts ..
  · dsimp only
    have h := (Told.caskPut s ‹_› source code severity data).trans (Told.logLoss _ ‹_› (s.caskPut ‹_› source code severity data).2)
    split
    · split
      · exact h.trans (Told.hostEvent ..)
      · exact h
    · split
      · exact (h.trans (Told.hostEvent ..)).trans (Told.sendModuleEvent ..)
      · exact h.trans (Told.sendModuleEvent ..)

end Sys2Proof.Machine
end

