-- ==== Sys2Proof/Laws/Begin.lean ====
section
/-!
SUPPORT. How commands begin: what the shared gates of the sequencer, of the packet receiver, of the notices and of the doorbell
come to once their conditions hold; and how clusters and dies read after they were changed. Completion statements cite these
lemmas in place of unfolding the gates.
-/

namespace Sys2Proof.Machine

/-! ### The shared gates -/

/-- A cluster that issues runs the instruction at its program counter (R57, R163). -/
theorem State.issue_of_issues {s : State} {c : Nat} {f : State → Nat → State} (h : s.issues c = true) :
    s.issue c f = f s (s.fetchWord c) := by
  simp only [State.issues, Bool.and_eq_true] at h
  simp [State.issue, h]

/-- Without reserve, or in HOLD, it steeps with cause 4 (R163, R167). -/
theorem State.issue_of_no_reserve {s : State} {c : Nat} {f : State → Nat → State} (h : s.fetching c = true)
    (k : s.reserveOk c = false) : s.issue c f = s.steep c 4 .reserve := by
  simp [State.issue, h, k]

/-- A cluster that does not fetch is left as it is. -/
theorem State.issue_of_not_fetching {s : State} {c : Nat} {f : State → Nat → State} (h : s.fetching c = false) :
    s.issue c f = s := by
  simp [State.issue, h]

/-- An answer or notice that is taken is acted on, and leaves its buffer (R201, R204, R209, R224). -/
theorem State.receive_of_takes {s : State} {k t : Nat} {p : Pkt} {f : State → State} (h : s.takesPkt k t p = true) :
    s.receive k t p f = (f s).leaveBuffer k p := by
  simp only [State.takesPkt, Bool.and_eq_true, Bool.not_eq_true'] at h
  simp [State.receive, State.sift, h]

/-- A request that is taken while none waits and that can be acted on is, and leaves its buffer (R204). -/
theorem State.takeRx_of_takes {s u : State} {k t : Nat} {p : Pkt} {mecc : List MemEcc} {ecc : StoreEcc}
    (h : s.takesPkt k t p = true) (e : s.lnk.rx = []) (d : s.tryPkt ⟨k, p, mecc, ecc⟩ = (u, true)) :
    s.takeRx k t p mecc ecc = (u.leaveChans k p.vc).leaveBuffer k p := by
  simp only [State.takesPkt, Bool.and_eq_true, Bool.not_eq_true'] at h
  have i : ({ s with lnk := { s.lnk with rx := [] } } : State) = s := by
    rw [← e]
  simp [State.takeRx, State.sift, h, State.bufferPkt, State.serveRx, State.serveBuffers, State.servePkt, e, i, d]

/-- A request that is taken while none waits and that cannot be acted on waits (R83, R204). -/
theorem State.takeRx_of_waits {s u : State} {k t : Nat} {p : Pkt} {mecc : List MemEcc} {ecc : StoreEcc}
    (h : s.takesPkt k t p = true) (e : s.lnk.rx = []) (d : s.tryPkt ⟨k, p, mecc, ecc⟩ = (u, false)) :
    s.takeRx k t p mecc ecc = u.bufferPkt ⟨k, p, mecc, ecc⟩ := by
  simp only [State.takesPkt, Bool.and_eq_true, Bool.not_eq_true'] at h
  have i : ({ s with lnk := { s.lnk with rx := [] } } : State) = s := by
    rw [← e]
  simp [State.takeRx, State.sift, h, State.bufferPkt, State.serveRx, State.serveBuffers, State.servePkt, e, i, d]

/-- A notice that is taken updates the reach table, and the collectives that lose a member end (R208, R218). -/
theorem State.notice_of_takes {s : State} {k sub : Nat} {p : Pkt} {f : State → State} (h : s.takesPkt k 0x18 p = true)
    (e : p.status = sub) :
    s.notice k sub p f =
      ((f (((s.setReach k p.src (sub == 2)).setDown k p.src (sub == 1)).holdChanged s)).collCheck).leaveBuffer k p := by
  subst e
  simp [State.notice, State.receive_of_takes h]

/-- A request of the host that comes on a link that is UP while none is held, and need not wait, is served at once (R239). -/
theorem State.hostReq_served {s : State} {t len : Nat} {p : Pkt} {mecc : List MemEcc} (h : s.linkLive 13 = true)
    (k : hostOk t p len = true) (e : s.thl.held = []) (w : s.reqWaits p = false) :
    s.hostReq t len p mecc = s.serveReq ⟨p, mecc⟩ := by
  have i : ({ s with thl := { s.thl with held := [] } } : State) = s := by
    rw [← e]
  simp [State.hostReq, h, k, e, State.serveHosted, State.serveHost, i, w]

/-- A request that has to wait is held (R7, R123, R237). -/
theorem State.hostReq_held {s : State} {t len : Nat} {p : Pkt} {mecc : List MemEcc} (h : s.linkLive 13 = true)
    (k : hostOk t p len = true) (e : s.thl.held = []) (w : s.reqWaits p = true) :
    s.hostReq t len p mecc = { s with thl := { s.thl with held := [⟨p, mecc⟩] } } := by
  have i : ({ s with thl := { s.thl with held := [] } } : State) = s := by
    rw [← e]
  simp [State.hostReq, h, k, e, State.serveHosted, State.serveHost, i, w]

/-- The type of a packet of the host that is well formed (R236). -/
theorem hostOk_typ {t len : Nat} {p : Pkt} (h : hostOk t p len = true) : p.typ = t := by
  simp only [hostOk, Bool.and_eq_true, beq_iff_eq] at h
  exact h.1.1.1.1.2

/-- A doorbell that finds a valid command runs it (R241). -/
theorem State.ringFor_of_takes {s : State} {op : Nat} {e : MbxEnv} (h : s.mbxTakes op = true) :
    s.ringFor op e = s.mbxBegun.mbxExecute op e := by
  simp only [State.mbxTakes, Bool.and_eq_true, Bool.or_eq_true, beq_iff_eq] at h
  obtain ⟨⟨⟨⟨h1, h2⟩, h3⟩, h4⟩, h5⟩ := h
  simp [State.ringFor, State.doorbell, State.mbxStart, h1, h2, h3, h4, h5]

/-- The health a Kiln shows leaves the one that acts as it was. -/
theorem State.active_showHealth (s : State) (k : Kiln) (w : Nat) : (s.showHealth k w).active = s.active := by
  unfold State.showHealth
  generalize healthFields.zipIdx = l
  induction l generalizing s with
  | nil => rfl
  | cons x l ih =>
    rw [List.foldl_cons, ih]
    rfl

/-- A health bit leaves the Kiln that acts as it was. -/
@[simp] theorem State.active_setHealthBit (s : State) (k : Kiln) (b : Nat) (v : Bool) :
    (s.setHealthBit k b v).active = s.active := by
  have h (f : KilnState → KilnState) : (s.modKiln k f).active = s.active := by cases k <;> rfl
  unfold State.setHealthBit
  dsimp only
  split
  · rw [State.active_showHealth, h]
  · exact h _

/-! ### Clusters and dies after a change -/

@[simp] theorem State.cl_setCl (s : State) (c d : Nat) (k : Cluster) : (s.setCl c k).cl d = if d = c then k else s.cl d := by
  unfold State.cl State.setCl
  split
  · rename_i h
    subst h
    exact SMap.getD_put_same ..
  · rename_i h
    exact SMap.getD_put_ne _ _ _ _ h

@[simp] theorem State.cl_modCl (s : State) (c d : Nat) (f : Cluster → Cluster) :
    (s.modCl c f).cl d = if d = c then f (s.cl c) else s.cl d := State.cl_setCl ..

@[simp] theorem State.cl_setF (s : State) (f : Fld) (i v d : Nat) : (s.setF f i v).cl d = s.cl d := rfl

@[simp] theorem State.getF_modCl (s : State) (c : Nat) (f : Cluster → Cluster) (g : Fld) (j : Nat) :
    (s.modCl c f).getF g j = s.getF g j := rfl

@[simp] theorem State.die_modDie (s : State) (n d : Nat) (f : DieGrn → DieGrn) :
    (s.modDie n f).die d = if d = n then f (s.die n) else s.die d := by
  unfold State.die State.modDie
  split
  · rename_i h
    subst h
    exact SMap.getD_put_same ..
  · rename_i h
    exact SMap.getD_put_ne _ _ _ _ h

@[simp] theorem State.die_modCl (s : State) (c : Nat) (f : Cluster → Cluster) (d : Nat) : (s.modCl c f).die d = s.die d := rfl

@[simp] theorem State.die_setF (s : State) (f : Fld) (i v d : Nat) : (s.setF f i v).die d = s.die d := rfl

end Sys2Proof.Machine
end

