-- ==== Sys2Proof/Laws/Keep.lean ====
section
/-!
SUPPORT. What no operation of the module breaks: the queue is left alone, the maps keep their canonical form, every register
field holds a value of its width, no domain is on while the one that it depends on is off (R20), written generations of the
one-time-programmable memory stay as they are (R391), the module's identity stays, its counts of hours and power cycles only
grow (R404), and the permanent area of the Cask only grows, up to its 1,024 records (R411). Every operation of the model has its lemma, in
these files, that it keeps all of this; the steps through a definition's text are the lemmas of this file.
-/

namespace Sys2Proof.Machine

/-- What is kept from a state to a later one. -/
structure Keep (s t : State) : Prop where
  pending : t.pending = s.pending
  wf : s.wf = true → t.wf = true
  fits : s.fits → t.fits
  supply : s.supplyOk → t.supplyOk
  otp : ∀ g, s.otpWritten g = true → t.otpGen g = s.otpGen g
  serial : t.sec.serial = s.sec.serial
  seed : t.sec.identSeed = s.sec.identSeed
  orderP : t.sec.orderP = s.sec.orderP
  hours : s.power.opHours ≤ t.power.opHours
  cycles : s.power.powerCycles ≤ t.power.powerCycles
  perm : s.cask.perm <+: t.cask.perm
  permLen : s.cask.perm.length ≤ 1024 → t.cask.perm.length ≤ 1024

theorem Keep.refl (s : State) : Keep s s where
  pending := rfl
  wf := id
  fits := id
  supply := id
  otp := fun _ _ => rfl
  serial := rfl
  seed := rfl
  orderP := rfl
  hours := le_refl _
  cycles := le_refl _
  perm := List.prefix_refl _
  permLen := id

theorem Keep.trans {a b c : State} (h : Keep a b) (k : Keep b c) : Keep a c where
  pending := k.pending.trans h.pending
  wf := fun x => k.wf (h.wf x)
  fits := fun x => k.fits (h.fits x)
  supply := fun x => k.supply (h.supply x)
  otp := fun g x => by
    have e := h.otp g x
    rw [k.otp g (by simp only [State.otpWritten, e] at *; exact x), e]
  serial := k.serial.trans h.serial
  seed := k.seed.trans h.seed
  orderP := k.orderP.trans h.orderP
  hours := h.hours.trans k.hours
  cycles := h.cycles.trans k.cycles
  perm := h.perm.trans k.perm
  permLen := fun x => k.permLen (h.permLen x)

/-- An update of parts that nothing here speaks of. -/
theorem Keep.upd {s0 s t : State} (h : Keep s0 s) (e1 : t.pending = s.pending) (e2 : t.regs = s.regs) (e3 : t.live = s.live)
    (e4 : t.mem.cells = s.mem.cells) (e5 : t.power.on = s.power.on) (e6 : t.sec.otp = s.sec.otp)
    (e7 : t.sec.serial = s.sec.serial) (e8 : t.sec.identSeed = s.sec.identSeed) (e9 : t.sec.orderP = s.sec.orderP)
    (e10 : t.power.opHours = s.power.opHours) (e11 : t.power.powerCycles = s.power.powerCycles)
    (e12 : t.cask.perm = s.cask.perm) : Keep s0 t :=
  h.trans
    { pending := e1
      wf := fun x => by simpa only [State.wf, e2, e3, e4] using x
      fits := fun x => by simpa only [State.fits, e2, e3] using x
      supply := fun x => by
        unfold State.supplyOk State.supplied State.isOn at *
        rw [e5]
        exact x
      otp := fun g _ => by simp only [State.otpGen, e6]
      serial := e7
      seed := e8
      orderP := e9
      hours := le_of_eq e10.symm
      cycles := le_of_eq e11.symm
      perm := e12 ▸ List.prefix_refl _
      permLen := fun x => e12 ▸ x }

/-- An update that moves the counts of hours and power cycles on. -/
theorem Keep.counts {s t : State} (e1 : t.pending = s.pending) (e2 : t.regs = s.regs) (e3 : t.live = s.live)
    (e4 : t.mem = s.mem) (e5 : t.power.on = s.power.on) (e6 : t.sec = s.sec) (e7 : t.cask = s.cask)
    (e10 : s.power.opHours ≤ t.power.opHours) (e11 : s.power.powerCycles ≤ t.power.powerCycles) : Keep s t where
  pending := e1
  wf := fun x => by simpa only [State.wf, e2, e3, e4] using x
  fits := fun x => by simpa only [State.fits, e2, e3] using x
  supply := fun x => by
    unfold State.supplyOk State.supplied State.isOn at *
    rw [e5]
    exact x
  otp := fun g _ => by simp only [State.otpGen, e6]
  serial := by rw [e6]
  seed := by rw [e6]
  orderP := by rw [e6]
  hours := e10
  cycles := e11
  perm := e7 ▸ List.prefix_refl _
  permLen := fun x => e7 ▸ x

/-- The same for a record update as it is written out. -/
theorem Keep.record {s0 s : State} {c l hw hc p k r t n e o q d u m w mm g gr ln ix pt b} (h : Keep s0 s) (e4 : mm.cells = s.mem.cells)
    (e5 : p.on = s.power.on) (e6 : e.otp = s.sec.otp) (e7 : e.serial = s.sec.serial) (e8 : e.identSeed = s.sec.identSeed)
    (e9 : e.orderP = s.sec.orderP) (e10 : p.opHours = s.power.opHours) (e11 : p.powerCycles = s.power.powerCycles)
    (e12 : k.perm = s.cask.perm) :
    Keep s0 ⟨s.pending, c, s.regs, s.live, l, hw, hc, p, k, r, t, n, e, o, q, d, u, m, w, mm, g, gr, ln, ix, pt, b⟩ :=
  h.upd rfl rfl rfl e4 e5 e6 e7 e8 e9 e10 e11 e12

/-! ### Steps through a definition -/

/-- The state of a pair's first part is kept. -/
@[irreducible] def KeepF {α : Type} (s0 : State) (p : State × α) : Prop := Keep s0 p.1

/-- The state of a pair's second part is kept. -/
@[irreducible] def KeepG {α : Type} (s0 : State) (p : α × State) : Prop := Keep s0 p.2

/-- The state in an option, if any, is kept. -/
@[irreducible] def KeepO (s0 : State) (p : Option State) : Prop := ∀ t, p = some t → Keep s0 t

/-- The state beside a number in an option, if any, is kept. -/
@[irreducible] def KeepP (s0 : State) (p : Option (Nat × State)) : Prop := ∀ t n, p = some (n, t) → Keep s0 t

/-- The next state of an outcome, if any, is kept. -/
@[irreducible] def KeepX (s0 : State) (p : Host.Outcome State Fault Refusal) : Prop := ∀ t, p = .next t → Keep s0 t

theorem Keep.letVar {s0 y v : State} {P : Prop} (e : y = v) (h : Keep s0 v) (k : Keep s0 y → P) : P := k (e ▸ h)
theorem Keep.letF {α : Type} {s0 : State} {y v : State × α} {P : Prop} (e : y = v) (h : KeepF s0 v) (k : KeepF s0 y → P) : P :=
  k (e ▸ h)
theorem Keep.letG {α : Type} {s0 : State} {y v : α × State} {P : Prop} (e : y = v) (h : KeepG s0 v) (k : KeepG s0 y → P) : P :=
  k (e ▸ h)

theorem Keep.ite {s0 a b : State} {c : Prop} [Decidable c] (h : Keep s0 a) (k : Keep s0 b) : Keep s0 (if c then a else b) := by
  split <;> assumption
theorem Keep.iteF {α : Type} {s0 : State} {a b : State × α} {c : Prop} [Decidable c] (h : KeepF s0 a) (k : KeepF s0 b) :
    KeepF s0 (if c then a else b) := by
  split <;> assumption

theorem Keep.mkF {α : Type} {s0 a : State} {x : α} (h : Keep s0 a) : KeepF s0 (a, x) := by
  unfold KeepF
  exact h
theorem Keep.mkG {α : Type} {s0 a : State} {x : α} (h : Keep s0 a) : KeepG s0 (x, a) := by
  unfold KeepG
  exact h
theorem Keep.ofF {α : Type} {s0 : State} {p : State × α} (h : KeepF s0 p) : Keep s0 p.1 := by
  unfold KeepF at h
  exact h
theorem Keep.ofG {α : Type} {s0 : State} {p : α × State} (h : KeepG s0 p) : Keep s0 p.2 := by
  unfold KeepG at h
  exact h
theorem Keep.eqF {α : Type} {s0 t : State} {p : State × α} {x : α} (e : p = (t, x)) (h : KeepF s0 p) : Keep s0 t := by
  subst e
  exact Keep.ofF h
theorem Keep.eqG {α : Type} {s0 t : State} {p : α × State} {x : α} (e : p = (x, t)) (h : KeepG s0 p) : Keep s0 t := by
  subst e
  exact Keep.ofG h
theorem Keep.rwF {α : Type} {s0 : State} {p q : State × α} (e : p = q) (h : KeepF s0 p) : KeepF s0 q := e ▸ h
theorem Keep.rwG {α : Type} {s0 : State} {p q : α × State} (e : p = q) (h : KeepG s0 p) : KeepG s0 q := e ▸ h
theorem Keep.rwX {s0 : State} {p q : Host.Outcome State Fault Refusal} (e : p = q) (h : KeepX s0 p) : KeepX s0 q := e ▸ h
theorem Keep.someO {s0 a : State} (h : Keep s0 a) : KeepO s0 (some a) := by
  unfold KeepO
  exact fun _ e => Option.some.inj e ▸ h
theorem Keep.noneO {s0 : State} : KeepO s0 none := by
  unfold KeepO
  exact fun _ e => nomatch e
theorem Keep.eqO {s0 t : State} {p : Option State} (e : p = some t) (h : KeepO s0 p) : Keep s0 t := by
  unfold KeepO at h
  exact h t e
theorem Keep.someP {s0 a : State} {n : Nat} (h : Keep s0 a) : KeepP s0 (some (n, a)) := by
  unfold KeepP
  exact fun _ _ e => (Prod.mk.inj (Option.some.inj e)).2 ▸ h
theorem Keep.noneP {s0 : State} : KeepP s0 none := by
  unfold KeepP
  exact fun _ _ e => nomatch e
theorem Keep.eqP {s0 t : State} {n : Nat} {p : Option (Nat × State)} (e : p = some (n, t)) (h : KeepP s0 p) : Keep s0 t := by
  unfold KeepP at h
  exact h t n e
theorem Keep.getO {s0 a : State} {p : Option State} (h : KeepO s0 p) (k : Keep s0 a) : Keep s0 (p.getD a) := by
  cases p with
  | none => exact k
  | some t => exact Keep.eqO rfl h
theorem Keep.next {s0 a : State} (h : Keep s0 a) : KeepX s0 (.next a) := by
  unfold KeepX
  exact fun _ e => Host.Outcome.next.inj e ▸ h
theorem Keep.eqX {s0 t : State} {p : Host.Outcome State Fault Refusal} (e : p = .next t) (h : KeepX s0 p) : Keep s0 t := by
  unfold KeepX at h
  exact h t e

theorem Keep.foldl {α : Type} {s0 s : State} {f : State → α → State} {l : List α} (h : Keep s0 s)
    (k : ∀ t x, Keep s0 t → Keep s0 (f t x)) : Keep s0 (l.foldl f s) := by
  induction l generalizing s with
  | nil => exact h
  | cons x t ih => exact ih (k s x h)
theorem Keep.foldlF {α β : Type} {s0 : State} {p : State × β} {f : State × β → α → State × β} {l : List α} (h : KeepF s0 p)
    (k : ∀ t x, KeepF s0 t → KeepF s0 (f t x)) : KeepF s0 (l.foldl f p) := by
  induction l generalizing p with
  | nil => exact h
  | cons x t ih => exact ih (k p x h)
theorem Keep.foldlG {α β : Type} {s0 : State} {p : β × State} {f : β × State → α → β × State} {l : List α} (h : KeepG s0 p)
    (k : ∀ t x, KeepG s0 t → KeepG s0 (f t x)) : KeepG s0 (l.foldl f p) := by
  induction l generalizing p with
  | nil => exact h
  | cons x t ih => exact ih (k p x h)

/-! ### The primitives -/

theorem ModFld.resetAt_zero_lt (f : ModFld) : f.resetAt 0 < 2 ^ f.width := by cases f <;> decide
theorem ModFld.resetAt_lt (f : ModFld) (i : Nat) : f.resetAt i < 2 ^ f.width := by
  have e : f.resetAt i = f.resetAt 0 := by cases f <;> rfl
  rw [e]
  exact f.resetAt_zero_lt
theorem GrbFld.resetAt_zero_lt (f : GrbFld) : f.resetAt 0 < 2 ^ f.width := by cases f <;> decide
theorem GrbFld.resetAt_lt (f : GrbFld) (i : Nat) : f.resetAt i < 2 ^ f.width := by
  have e : f.resetAt i = f.resetAt 0 := by cases f <;> rfl
  rw [e]
  exact f.resetAt_zero_lt
theorem StgFld.resetAt_zero_lt (f : StgFld) : f.resetAt 0 < 2 ^ f.width := by cases f <;> decide
theorem StgFld.resetAt_lt (f : StgFld) (i : Nat) : f.resetAt i < 2 ^ f.width := by
  have e : f.resetAt i = f.resetAt 0 := by cases f <;> rfl
  rw [e]
  exact f.resetAt_zero_lt
theorem WiqFld.resetAt_zero_lt (f : WiqFld) : f.resetAt 0 < 2 ^ f.width := by cases f <;> decide
theorem WiqFld.resetAt_lt (f : WiqFld) (i : Nat) : f.resetAt i < 2 ^ f.width := by
  have e : f.resetAt i = f.resetAt 0 := by cases f <;> rfl
  rw [e]
  exact f.resetAt_zero_lt
theorem MemFld.resetAt_zero_lt (f : MemFld) : f.resetAt 0 < 2 ^ f.width := by cases f <;> decide
theorem MemFld.resetAt_const (f : MemFld) (h : f ≠ .chMapPch) (i : Nat) : f.resetAt i = f.resetAt 0 := by
  cases f <;> first | rfl | exact absurd rfl h
theorem MemFld.resetAt_lt (f : MemFld) (i : Nat) : f.resetAt i < 2 ^ f.width := by
  by_cases h : f = .chMapPch
  · subst h
    exact lt_trans (Nat.mod_lt _ (by decide)) (by decide)
  · rw [MemFld.resetAt_const f h]
    exact f.resetAt_zero_lt
theorem MilFld.resetAt_zero_lt (f : MilFld) : f.resetAt 0 < 2 ^ f.width := by cases f <;> decide
theorem MilFld.resetAt_lt (f : MilFld) (i : Nat) : f.resetAt i < 2 ^ f.width := by
  have e : f.resetAt i = f.resetAt 0 := by cases f <;> rfl
  rw [e]
  exact f.resetAt_zero_lt
theorem IxfFld.resetAt_zero_lt (f : IxfFld) : f.resetAt 0 < 2 ^ f.width := by cases f <;> decide
theorem IxfFld.resetAt_const (f : IxfFld) (h : f ≠ .portCapHiLocalHi) (i : Nat) : f.resetAt i = f.resetAt 0 := by
  cases f <;> first | rfl | exact absurd rfl h
theorem IxfFld.resetAt_lt (f : IxfFld) (i : Nat) : f.resetAt i < 2 ^ f.width := by
  by_cases h : f = .portCapHiLocalHi
  · subst h
    simp only [IxfFld.resetAt, IxfFld.width]
    omega
  · rw [IxfFld.resetAt_const f h]
    exact f.resetAt_zero_lt
theorem PtnFld.resetAt_zero_lt (f : PtnFld) : f.resetAt 0 < 2 ^ f.width := by cases f <;> decide
theorem PtnFld.resetAt_lt (f : PtnFld) (i : Nat) : f.resetAt i < 2 ^ f.width := by
  have e : f.resetAt i = f.resetAt 0 := by cases f <;> rfl
  rw [e]
  exact f.resetAt_zero_lt
theorem ThlFld.resetAt_zero_lt (f : ThlFld) : f.resetAt 0 < 2 ^ f.width := by cases f <;> decide
theorem ThlFld.resetAt_lt (f : ThlFld) (i : Nat) : f.resetAt i < 2 ^ f.width := by
  have e : f.resetAt i = f.resetAt 0 := by cases f <;> rfl
  rw [e]
  exact f.resetAt_zero_lt
theorem KlnFld.resetAt_zero_lt (f : KlnFld) : f.resetAt 0 < 2 ^ f.width := by cases f <;> decide
theorem KlnFld.resetAt_lt (f : KlnFld) (i : Nat) : f.resetAt i < 2 ^ f.width := by
  have e : f.resetAt i = f.resetAt 0 := by cases f <;> rfl
  rw [e]
  exact f.resetAt_zero_lt
theorem CleFld.resetAt_zero_lt (f : CleFld) : f.resetAt 0 < 2 ^ f.width := by cases f <;> decide
theorem CleFld.resetAt_lt (f : CleFld) (i : Nat) : f.resetAt i < 2 ^ f.width := by
  have e : f.resetAt i = f.resetAt 0 := by cases f <;> rfl
  rw [e]
  exact f.resetAt_zero_lt
theorem DrvFld.resetAt_zero_lt (f : DrvFld) : f.resetAt 0 < 2 ^ f.width := by cases f <;> decide
theorem DrvFld.resetAt_lt (f : DrvFld) (i : Nat) : f.resetAt i < 2 ^ f.width := by
  have e : f.resetAt i = f.resetAt 0 := by cases f <;> rfl
  rw [e]
  exact f.resetAt_zero_lt
theorem RowFld.resetAt_zero_lt (f : RowFld) : f.resetAt 0 < 2 ^ f.width := by cases f <;> decide
theorem RowFld.resetAt_lt (f : RowFld) (i : Nat) : f.resetAt i < 2 ^ f.width := by
  have e : f.resetAt i = f.resetAt 0 := by cases f <;> rfl
  rw [e]
  exact f.resetAt_zero_lt
theorem CskFld.resetAt_zero_lt (f : CskFld) : f.resetAt 0 < 2 ^ f.width := by cases f <;> decide
theorem CskFld.resetAt_lt (f : CskFld) (i : Nat) : f.resetAt i < 2 ^ f.width := by
  have e : f.resetAt i = f.resetAt 0 := by cases f <;> rfl
  rw [e]
  exact f.resetAt_zero_lt
theorem BstFld.resetAt_zero_lt (f : BstFld) : f.resetAt 0 < 2 ^ f.width := by cases f <;> decide
theorem BstFld.resetAt_const (f : BstFld) (h : f ≠ .ageLevel) (i : Nat) : f.resetAt i = f.resetAt 0 := by
  cases f <;> first | rfl | exact absurd rfl h
theorem BstFld.resetAt_lt (f : BstFld) (i : Nat) : f.resetAt i < 2 ^ f.width := by
  by_cases h : f = .ageLevel
  · subst h
    simp only [BstFld.resetAt, BstFld.width, bstBaseLevel]
    rcases i with _ | _ | _ | _ | _ | i <;> simp
  · rw [BstFld.resetAt_const f h]
    exact f.resetAt_zero_lt
theorem SecFld.resetAt_zero_lt (f : SecFld) : f.resetAt 0 < 2 ^ f.width := by cases f <;> decide
theorem SecFld.resetAt_lt (f : SecFld) (i : Nat) : f.resetAt i < 2 ^ f.width := by
  have e : f.resetAt i = f.resetAt 0 := by cases f <;> rfl
  rw [e]
  exact f.resetAt_zero_lt
theorem CluFld.resetAt_zero_lt (f : CluFld) : f.resetAt 0 < 2 ^ f.width := by cases f <;> decide
theorem CluFld.resetAt_lt (f : CluFld) (i : Nat) : f.resetAt i < 2 ^ f.width := by
  have e : f.resetAt i = f.resetAt 0 := by cases f <;> rfl
  rw [e]
  exact f.resetAt_zero_lt

/-- Reset values fit their fields. -/
theorem Fld.resetAt_lt (f : Fld) (i : Nat) : f.resetAt i < 2 ^ f.width := by
  cases f with
  | mod f => exact f.resetAt_lt i
  | grb f => exact f.resetAt_lt i
  | stg f => exact f.resetAt_lt i
  | wiq f => exact f.resetAt_lt i
  | mem f => exact f.resetAt_lt i
  | mil f => exact f.resetAt_lt i
  | ixf f => exact f.resetAt_lt i
  | ptn f => exact f.resetAt_lt i
  | thl f => exact f.resetAt_lt i
  | kln f => exact f.resetAt_lt i
  | cle f => exact f.resetAt_lt i
  | drv f => exact f.resetAt_lt i
  | row f => exact f.resetAt_lt i
  | csk f => exact f.resetAt_lt i
  | bst f => exact f.resetAt_lt i
  | sec f => exact f.resetAt_lt i
  | clu f => exact f.resetAt_lt i

/-- The primitive updates: what each touches keeps its form. -/
theorem Keep.store {s0 s t : State} (h : Keep s0 s) (e1 : t.pending = s.pending) (w : s.wf = true → t.wf = true)
    (f : s.fits → t.fits) (e5 : t.power = s.power) (e6 : t.sec = s.sec) (e7 : t.cask = s.cask) : Keep s0 t :=
  h.trans
    { pending := e1
      wf := w
      fits := f
      supply := fun x => by
        unfold State.supplyOk State.supplied State.isOn at *
        rw [e5]
        exact x
      otp := fun g _ => by simp only [State.otpGen, e6]
      serial := by rw [e6]
      seed := by rw [e6]
      orderP := by rw [e6]
      hours := le_of_eq (by rw [e5])
      cycles := le_of_eq (by rw [e5])
      perm := e7 ▸ List.prefix_refl _
      permLen := fun x => e7 ▸ x }

theorem State.wf_iff (s : State) : s.wf = true ↔ SMap.wf s.regs = true ∧ SMap.wf s.live = true ∧ Memory.wf s.mem.cells = true := by
  simp [State.wf, and_assoc]

theorem SMap.mem_put {α : Type} [DecidableEq α] {m : SMap α} {k : Nat} {v d : α} {e : Nat × α} (h : e ∈ m.put k v d) :
    e = (k, v) ∨ e ∈ m := by
  unfold SMap.put at h
  split at h
  · exact .inr (List.mem_of_mem_filter h)
  · exact SMap.mem_set h

theorem SMap.mem_of_get? {α : Type} {m : SMap α} {k : Nat} {v : α} (h : m.get? k = some v) : (k, v) ∈ m := by
  induction m with
  | nil => simp at h
  | cons e t ih =>
    obtain ⟨a, w⟩ := e
    unfold SMap.get? at h
    split at h
    · rename_i e
      subst e
      cases h
      exact List.mem_cons_self
    · exact List.mem_cons_of_mem _ (ih h)

/-- A field that fits reads a value of its width. -/
theorem State.fits.getF_lt {s : State} (h : s.fits) (f : Fld) (i : Nat) : s.getF f i < 2 ^ f.width := by
  unfold State.getF SMap.getD
  cases e : SMap.get? s.regs (f.key i) with
  | none => exact f.resetAt_lt i
  | some v => exact h f i v (.inl (SMap.mem_of_get? e))

theorem State.fits.getLive_lt {s : State} (h : s.fits) (f : Fld) (i : Nat) : s.getLive f i < 2 ^ f.width := by
  unfold State.getLive SMap.getD
  cases e : SMap.get? s.live (f.key i) with
  | none => exact f.resetAt_lt i
  | some v => exact h f i v (.inr (SMap.mem_of_get? e))

theorem State.setF_keep {s0 s : State} {f : Fld} {i v : Nat} (h : Keep s0 s) : Keep s0 (s.setF f i v) := by
  refine h.store rfl (fun x => ?_) (fun x g j w m => ?_) rfl rfl rfl
  · rw [State.wf_iff] at *
    exact ⟨SMap.wf_put x.1 _ _ _, x.2⟩
  · rcases m with m | m
    · rcases SMap.mem_put m with m | m
      · obtain ⟨rfl, rfl⟩ := Fld.key_inj (congrArg Prod.fst m)
        rw [show w = _ from congrArg Prod.snd m]
        exact Nat.mod_lt _ (Nat.two_pow_pos _)
      · exact x g j w (.inl m)
    · exact x g j w (.inr m)

theorem State.setLive_keep {s0 s : State} {f : Fld} {i v : Nat} (h : Keep s0 s) : Keep s0 (s.setLive f i v) := by
  refine h.store rfl (fun x => ?_) (fun x g j w m => ?_) rfl rfl rfl
  · rw [State.wf_iff] at *
    exact ⟨x.1, SMap.wf_put x.2.1 _ _ _, x.2.2⟩
  · rcases m with m | m
    · exact x g j w (.inl m)
    · rcases SMap.mem_put m with m | m
      · obtain ⟨rfl, rfl⟩ := Fld.key_inj (congrArg Prod.fst m)
        rw [show w = _ from congrArg Prod.snd m]
        exact Nat.mod_lt _ (Nat.two_pow_pos _)
      · exact x g j w (.inr m)

theorem State.commitWhole_keep {s0 s : State} {fs : List Fld} (h : Keep s0 s) : Keep s0 (s.commitWhole fs) := by
  have mem : ∀ (l m : SMap Nat) (e : Nat × Nat), e ∈ l.foldl (fun m e => m.set e.1 e.2) m → e ∈ l ∨ e ∈ m := by
    intro l
    induction l with
    | nil => exact fun m e h => .inr h
    | cons x t ih =>
      intro m e h
      rcases ih _ _ h with h | h
      · exact .inl (List.mem_cons_of_mem _ h)
      · rcases SMap.mem_set h with h | h
        · exact .inl (h ▸ List.mem_cons_self)
        · exact .inr h
  refine h.store rfl (fun x => ?_) (fun x g j w m => ?_) rfl rfl rfl
  · rw [State.wf_iff] at *
    exact ⟨x.1, SMap.wf_foldl_set _ _ _ (SMap.wf_filter x.2.1 _), x.2.2⟩
  · rcases m with m | m
    · exact x g j w (.inl m)
    · rcases mem _ _ _ m with m | m
      · exact x g j w (.inl (List.mem_of_mem_filter m))
      · exact x g j w (.inr (List.mem_of_mem_filter m))

theorem State.clearRegs_keep {s0 s : State} {d : Domain} (h : Keep s0 s) : Keep s0 (s.clearRegs d) := by
  refine h.store rfl (fun x => ?_) (fun x g j w m => x g j w (m.imp List.mem_of_mem_filter List.mem_of_mem_filter)) rfl rfl rfl
  rw [State.wf_iff] at *
  exact ⟨SMap.wf_filter x.1 _, SMap.wf_filter x.2.1 _, x.2.2⟩

theorem State.dropRegs_keep {s0 s : State} {fs : List Fld} (h : Keep s0 s) : Keep s0 (s.dropRegs fs) := by
  refine h.store rfl (fun x => ?_) (fun x g j w m => x g j w (m.imp_left List.mem_of_mem_filter)) rfl rfl rfl
  rw [State.wf_iff] at *
  exact ⟨SMap.wf_filter x.1 _, x.2⟩

theorem State.clearClu_keep {s0 s : State} {c : Nat} (h : Keep s0 s) : Keep s0 (s.clearClu c) := by
  refine h.store rfl (fun x => ?_) (fun x g j w m => x g j w (m.imp_left List.mem_of_mem_filter)) rfl rfl rfl
  rw [State.wf_iff] at *
  exact ⟨SMap.wf_filter x.1 _, x.2⟩

/-- Bytes written one after another keep memory's canonical form. -/
theorem storeCells_wf (l : List Byte) : ∀ (m : List Host.Cell) (pa : Nat), Memory.wf m = true → Memory.wf (storeCells m pa l) = true := by
  induction l with
  | nil => exact fun _ _ h => h
  | cons b t ih => exact fun m pa h => ih _ _ (SMap.wf_set h pa b)

theorem State.putBytes_keep {s0 s : State} {pa : Nat} {data : List Byte} (h : Keep s0 s) : Keep s0 (s.putBytes pa data) := by
  refine h.store rfl (fun x => ?_) (fun x => x) rfl rfl rfl
  rw [State.wf_iff] at *
  exact ⟨x.1, x.2.1, storeCells_wf _ _ _ x.2.2⟩

theorem State.loseStacks_keep {s0 s : State} {gone : Nat → Bool} (h : Keep s0 s) : Keep s0 (s.loseStacks gone) := by
  refine h.store rfl (fun x => ?_) (fun x => x) rfl rfl rfl
  rw [State.wf_iff] at *
  exact ⟨x.1, x.2.1, SMap.wf_filter x.2.2 _⟩

theorem State.remapMemory_keep {s0 s : State} (h : Keep s0 s) : Keep s0 s.remapMemory := by
  refine h.store rfl (fun x => ?_) (fun x => x) rfl rfl rfl
  rw [State.wf_iff] at *
  exact ⟨x.1, x.2.1, SMap.wf_nil⟩

/-- An update of the domains that are on. -/
theorem Keep.domains {s0 s t : State} (h : Keep s0 s) (e1 : t.pending = s.pending) (e2 : t.regs = s.regs)
    (e3 : t.live = s.live) (e4 : t.mem = s.mem) (k : s.supplyOk → t.supplyOk) (e6 : t.sec = s.sec) (e7 : t.cask = s.cask)
    (e10 : t.power.opHours = s.power.opHours) (e11 : t.power.powerCycles = s.power.powerCycles) : Keep s0 t :=
  h.trans
    { pending := e1
      wf := fun x => by simpa only [State.wf, e2, e3, e4] using x
      fits := fun x => by simpa only [State.fits, e2, e3] using x
      supply := k
      otp := fun g _ => by simp only [State.otpGen, e6]
      serial := by rw [e6]
      seed := by rw [e6]
      orderP := by rw [e6]
      hours := le_of_eq e10.symm
      cycles := le_of_eq e11.symm
      perm := e7 ▸ List.prefix_refl _
      permLen := fun x => e7 ▸ x }

theorem State.turnOn_keep {s0 s : State} {d : Domain} (h : Keep s0 s) : Keep s0 (s.turnOn d) := by
  unfold State.turnOn
  split
  · exact h
  · rename_i c
    simp only [Bool.or_eq_true, not_or, Bool.not_eq_true', Bool.not_eq_true] at c
    refine h.domains rfl rfl rfl rfl (fun x e he => ?_) rfl rfl rfl rfl
    have up : ∀ y, s.isOn y = true → State.isOn { s with power := { s.power with on := s.power.on ++ [d] } } y = true := by
      intro y hy
      simp only [State.isOn, List.contains_eq_mem, decide_eq_true_eq, List.mem_append] at *
      exact .inl hy
    have key : s.supplied e = true := by
      by_cases hs : s.isOn e = true
      · exact x e hs
      · simp only [State.isOn, List.contains_eq_mem, decide_eq_true_eq, List.mem_append, List.mem_singleton] at he hs
        rcases he with he | he
        · exact absurd he hs
        · subst he
          simpa using c.2
    unfold State.supplied at *
    cases hd : domainNeeds e with
    | none => rfl
    | some y =>
      rw [hd] at key
      exact up y key

theorem State.turnOff_keep {s0 s : State} {d : Domain} (h : Keep s0 s) : Keep s0 (s.turnOff d) := by
  refine h.domains rfl rfl rfl rfl (fun x e he => ?_) rfl rfl rfl rfl
  have on : ∀ y, (s.turnOff d).isOn y = true ↔ s.isOn y = true ∧ y ≠ d ∧ domainUnder y d = false := by
    intro y
    simp [State.isOn, State.turnOff]
  obtain ⟨h1, h2, h3⟩ := (on e).1 he
  have k := x e h1
  unfold State.supplied at *
  cases hd : domainNeeds e with
  | none => rfl
  | some y =>
    rw [hd] at k
    refine (on y).2 ⟨k, ?_, ?_⟩
    · rintro rfl
      cases e <;> cases y <;> simp_all [domainNeeds, domainUnder]
    · cases e <;> cases y <;> cases d <;> simp_all [domainNeeds, domainUnder]

/-! ### The permanent area of the Cask -/

theorem Cask.setBuf_perm (c : Cask) (k : Kiln) (b : List CaskEntry) : (c.setBuf k b).perm = c.perm := by cases k <;> rfl

theorem Cask.advance_perm (c : Cask) (n : Nat) : (c.advance n).perm = c.perm := by
  unfold Cask.advance
  dsimp only
  split <;> rfl

theorem Cask.circWrite_perm (c : Cask) (n : Nat) (r : CaskRec) : (c.circWrite n r).perm = c.perm := Cask.advance_perm _ _

theorem State.tearSlot_keep {s0 s : State} (h : Keep s0 s) : Keep s0 s.tearSlot := by
  unfold State.tearSlot
  dsimp only
  split
  · exact h
  · exact Keep.record h rfl rfl rfl rfl rfl rfl rfl rfl (Cask.advance_perm _ _)

theorem State.norWrite_keep {s0 s : State} {r : CaskRec} (h : Keep s0 s) : Keep s0 (s.norWrite r) := by
  unfold State.norWrite
  split
  · exact h
  · have base : ∀ c : Cask, c.perm = s.cask.perm → Keep s0 { s with cask := { c with failRow := [] } } :=
      fun c e => Keep.record h rfl rfl rfl rfl rfl rfl rfl rfl e
    have e : (if s.circSectors = 0 then s.cask else s.cask.circWrite s.circSectors { r with permanent := false }).perm
        = s.cask.perm := by
      split
      · rfl
      · exact Cask.circWrite_perm _ _ _
    dsimp only
    split
    · rename_i b
      have b : s.cask.perm.length < 1024 := by
        simp only [State.boundPerm, decide_eq_true_eq] at b
        exact b.2
      have up : ∀ c : Cask, s.cask.perm <+: c.perm → c.perm.length ≤ 1024 → Keep s0 { s with cask := { c with failRow := [] } } :=
        fun c e1 e2 => h.trans
          { pending := rfl, wf := id, fits := id, supply := id, otp := fun _ _ => rfl, serial := rfl, seed := rfl,
            orderP := rfl, hours := le_refl _, cycles := le_refl _, perm := e1, permLen := fun _ => e2 }
      refine up _ ⟨_, by dsimp only [Cask.storeHdr]; rw [e]⟩ ?_
      simp only [Cask.storeHdr, List.length_append, List.length_singleton]
      rw [e]
      omega
    · exact base _ e

end Sys2Proof.Machine
end

