-- ==== Sys2Proof/Laws/KeepOps.lean ====
section
/-!
SUPPORT. Registers, events, the Cask, packets and memory keep what Laws/Keep.lean names.
-/

namespace Sys2Proof.Machine

set_option linter.all false

/-! ### Ops -/

theorem State.withRegs_keep {s0 s : State} {fs m : _} (h : Keep s0 s) :
    Keep s0 (State.withRegs s fs m) := by
  unfold State.withRegs
  repeat' first
    | with_reducible first | assumption | apply State.setF_keep | apply State.dropRegs_keep | refine Keep.foldl ?_ fun _ _ _ => ?_
    | split

theorem State.commitF_keep {s0 s : State} {f i : _} (h : Keep s0 s) :
    Keep s0 (State.commitF s f i) := by
  unfold State.commitF
  repeat' with_reducible first | assumption | apply State.setLive_keep

theorem State.commitAll_keep {s0 s : State} {fs i : _} (h : Keep s0 s) :
    Keep s0 (State.commitAll s fs i) := by
  unfold State.commitAll
  repeat' with_reducible first | assumption | apply State.commitF_keep | refine Keep.foldl ?_ fun _ _ _ => ?_

theorem State.commitRange_keep {s0 s : State} {fs n : _} (h : Keep s0 s) :
    Keep s0 (State.commitRange s fs n) := by
  unfold State.commitRange
  repeat' with_reducible first | assumption | apply State.commitAll_keep | refine Keep.foldl ?_ fun _ _ _ => ?_

theorem State.setFlag_keep {s0 s : State} {f i b : _} (h : Keep s0 s) :
    Keep s0 (State.setFlag s f i b) := by
  unfold State.setFlag
  repeat' with_reducible first | assumption | apply State.setF_keep

theorem State.setBit_keep {s0 s : State} {f i b : _} (h : Keep s0 s) :
    Keep s0 (State.setBit s f i b) := by
  unfold State.setBit
  repeat' with_reducible first | assumption | apply State.setF_keep

theorem State.clearBit_keep {s0 s : State} {f i b : _} (h : Keep s0 s) :
    Keep s0 (State.clearBit s f i b) := by
  unfold State.clearBit
  repeat' with_reducible first | assumption | apply State.setF_keep

theorem State.addWrap_keep {s0 s : State} {f i n : _} (h : Keep s0 s) :
    Keep s0 (State.addWrap s f i n) := by
  unfold State.addWrap
  repeat' with_reducible first | assumption | apply State.setF_keep

theorem State.addSat_keep {s0 s : State} {f i n : _} (h : Keep s0 s) :
    Keep s0 (State.addSat s f i n) := by
  unfold State.addSat
  repeat' with_reducible first | assumption | apply State.setF_keep

theorem State.add64_keep {s0 s : State} {lo hi i n : _} (h : Keep s0 s) :
    Keep s0 (State.add64 s lo hi i n) := by
  unfold State.add64
  repeat' first
    | ((fail_if_success (conv => arg 2; fun)); extract_lets +onlyGivenNames y)
    | with_reducible first | assumption | apply State.setF_keep

theorem State.served_keep {s0 s : State} {a : _} (h : Keep s0 s) :
    Keep s0 (State.served s a) := by
  unfold State.served
  repeat' with_reducible first | assumption | apply State.setF_keep

theorem State.fresh_keep {s0 s : State} {w : _} (h : Keep s0 s) :
    KeepG s0 (State.fresh s w) := by
  unfold State.fresh
  repeat' with_reducible first | assumption | refine Keep.record ?_ rfl rfl rfl rfl rfl rfl rfl rfl rfl | apply Keep.mkG

theorem State.freshBytes_keep {s0 s : State} {z0 : _} (h : Keep s0 s) :
    KeepG s0 (State.freshBytes z0 s) := by
  induction z0 generalizing s with
  | zero =>
    unfold State.freshBytes
    repeat' first
      | ((fail_if_success (conv => arg 2; fun)); extract_lets +onlyGivenNames y)
      | with_reducible first | assumption | apply State.fresh_keep | apply ih | refine Keep.eqG (by assumption) ?_
      | with_reducible (refine Keep.record ?_ rfl rfl rfl rfl rfl rfl rfl rfl rfl; first | assumption | apply State.fresh_keep | apply ih | refine Keep.eqG (by assumption) ?_)
      | split
      | with_reducible apply Keep.mkG
  | succ n ih =>
    unfold State.freshBytes
    repeat' first
      | ((fail_if_success (conv => arg 2; fun)); extract_lets +onlyGivenNames y)
      | with_reducible first | assumption | apply State.fresh_keep | apply ih | refine Keep.eqG (by assumption) ?_
      | with_reducible (refine Keep.record ?_ rfl rfl rfl rfl rfl rfl rfl rfl rfl; first | assumption | apply State.fresh_keep | apply ih | refine Keep.eqG (by assumption) ?_)
      | split
      | with_reducible apply Keep.mkG

/-! ### Link -/

theorem State.modEnd_keep {s0 s : State} {k f : _} (h : Keep s0 s) :
    Keep s0 (State.modEnd s k f) := by
  unfold State.modEnd
  repeat' with_reducible first | assumption | refine Keep.record ?_ rfl rfl rfl rfl rfl rfl rfl rfl rfl

theorem State.sendFlit_keep {s0 s : State} {k nak idle data : _} (h : Keep s0 s) :
    Keep s0 (State.sendFlit s k nak idle data) := by
  unfold State.sendFlit
  repeat' first
    | ((fail_if_success (conv => arg 2; fun)); extract_lets +onlyGivenNames y; clear_value (e : y = _); refine Keep.letVar (s0 := s0) e ?_ fun _ => ?_)
    | ((fail_if_success (conv => arg 2; fun)); extract_lets +onlyGivenNames y)
    | with_reducible first | assumption | apply State.modEnd_keep | refine Keep.record ?_ rfl rfl rfl rfl rfl rfl rfl rfl rfl

theorem State.sendFlits_keep {s0 s : State} {z0 z2 z3 : _} (h : Keep s0 s) :
    Keep s0 (State.sendFlits z0 s z2 z3) := by
  induction z0 generalizing s z2 z3 with
  | zero =>
    unfold State.sendFlits
    repeat' first
      | with_reducible first | assumption | apply State.sendFlit_keep | apply ih
      | split
  | succ n ih =>
    unfold State.sendFlits
    repeat' first
      | with_reducible first | assumption | apply State.sendFlit_keep | apply ih
      | split

theorem State.owe_keep {s0 s : State} {k vc : _} (h : Keep s0 s) :
    Keep s0 (State.owe s k vc) := by
  unfold State.owe
  repeat' first
    | with_reducible first | assumption | apply State.modEnd_keep
    | split

theorem State.payCredits_keep {s0 s : State} {k : _} (h : Keep s0 s) :
    Keep s0 (State.payCredits s k) := by
  unfold State.payCredits
  repeat' first
    | with_reducible first | assumption | apply State.sendFlit_keep
    | split

theorem State.replay_keep {s0 s : State} {k ack : _} (h : Keep s0 s) :
    Keep s0 (State.replay s k ack) := by
  unfold State.replay
  repeat' first
    | ((fail_if_success (conv => arg 2; fun)); extract_lets +onlyGivenNames y)
    | with_reducible first | assumption | refine Keep.record ?_ rfl rfl rfl rfl rfl rfl rfl rfl rfl

theorem State.setCredits_keep {s0 s : State} {port vc n : _} (h : Keep s0 s) :
    Keep s0 (State.setCredits s port vc n) := by
  unfold State.setCredits
  repeat' with_reducible first | assumption | refine Keep.record ?_ rfl rfl rfl rfl rfl rfl rfl rfl rfl

theorem State.transmit_keep {s0 s : State} {port p : _} (h : Keep s0 s) :
    Keep s0 (State.transmit s port p) := by
  unfold State.transmit
  repeat' with_reducible first | assumption | apply State.sendFlits_keep | refine Keep.record ?_ rfl rfl rfl rfl rfl rfl rfl rfl rfl

theorem State.setWaiting_keep {s0 s : State} {port vc l : _} (h : Keep s0 s) :
    Keep s0 (State.setWaiting s port vc l) := by
  unfold State.setWaiting
  repeat' with_reducible first | assumption | refine Keep.record ?_ rfl rfl rfl rfl rfl rfl rfl rfl rfl

theorem State.sendPkt_keep {s0 s : State} {port p : _} (h : Keep s0 s) :
    Keep s0 (State.sendPkt s port p) := by
  unfold State.sendPkt
  repeat' first
    | ((fail_if_success (conv => arg 2; fun)); extract_lets +onlyGivenNames y)
    | with_reducible first | assumption | apply State.setCredits_keep | apply State.transmit_keep | apply State.setWaiting_keep
    | split

theorem State.sendWaiting_keep {s0 s : State} {port vc z3 : _} (h : Keep s0 s) :
    Keep s0 (State.sendWaiting s port vc z3) := by
  induction z3 generalizing s port vc with
  | nil =>
    unfold State.sendWaiting
    repeat' first
      | with_reducible first | assumption | apply State.setCredits_keep | apply State.transmit_keep | apply State.setWaiting_keep | apply ih
      | split
  | cons hd tl ih =>
    unfold State.sendWaiting
    repeat' first
      | with_reducible first | assumption | apply State.setCredits_keep | apply State.transmit_keep | apply State.setWaiting_keep | apply ih
      | split

theorem State.gainCredits_keep {s0 s : State} {k far vc n : _} (h : Keep s0 s) :
    Keep s0 (State.gainCredits s k far vc n) := by
  unfold State.gainCredits
  repeat' first
    | ((fail_if_success (conv => arg 2; fun)); extract_lets +onlyGivenNames y; clear_value (e : y = _); refine Keep.letVar (s0 := s0) e ?_ fun _ => ?_)
    | with_reducible first | assumption | apply State.setCredits_keep | apply State.sendWaiting_keep

theorem State.loadCredits_keep {s0 s : State} {k far : _} (h : Keep s0 s) :
    Keep s0 (State.loadCredits s k far) := by
  unfold State.loadCredits
  repeat' with_reducible first | assumption | apply State.setCredits_keep | apply State.gainCredits_keep | refine Keep.foldl ?_ fun _ _ _ => ?_

theorem State.clearCredits_keep {s0 s : State} {k : _} (h : Keep s0 s) :
    Keep s0 (State.clearCredits s k) := by
  unfold State.clearCredits
  repeat' with_reducible first | assumption | apply State.setCredits_keep | refine Keep.foldl ?_ fun _ _ _ => ?_

theorem State.endTrained_keep {s0 s : State} {k retrained ms : _} (h : Keep s0 s) :
    Keep s0 (State.endTrained s k retrained ms) := by
  unfold State.endTrained
  repeat' first
    | with_reducible first | assumption | apply State.modEnd_keep | apply State.replay_keep
    | split

theorem State.setLost_keep {s0 s : State} {k l : _} (h : Keep s0 s) :
    Keep s0 (State.setLost s k l) := by
  unfold State.setLost
  repeat' with_reducible first | assumption | refine Keep.record ?_ rfl rfl rfl rfl rfl rfl rfl rfl rfl

theorem State.setGroup_keep {s0 s : State} {k l : _} (h : Keep s0 s) :
    Keep s0 (State.setGroup s k l) := by
  unfold State.setGroup
  repeat' with_reducible first | assumption | refine Keep.record ?_ rfl rfl rfl rfl rfl rfl rfl rfl rfl

theorem State.setWidths_keep {s0 s : State} {k lanes : _} (h : Keep s0 s) :
    Keep s0 (State.setWidths s k lanes) := by
  unfold State.setWidths
  repeat' with_reducible first | assumption | refine Keep.record ?_ rfl rfl rfl rfl rfl rfl rfl rfl rfl

theorem State.linkTrained_keep {s0 s : State} {k lanes t3 retrained : _} (h : Keep s0 s) :
    Keep s0 (State.linkTrained s k lanes t3 retrained) := by
  unfold State.linkTrained
  repeat' first
    | ((fail_if_success (conv => arg 2; fun)); extract_lets +onlyGivenNames y; clear_value (e : y = _); refine Keep.letVar (s0 := s0) e ?_ fun _ => ?_)
    | with_reducible first | assumption | apply State.loadCredits_keep | apply State.endTrained_keep | apply State.setLost_keep | apply State.setGroup_keep

theorem State.thlLeave_keep {s0 s : State} {st : _} (h : Keep s0 s) :
    Keep s0 (State.thlLeave s st) := by
  unfold State.thlLeave
  repeat' with_reducible first | assumption | apply State.setF_keep | apply State.clearCredits_keep

/-! ### Events -/

theorem State.sendHost_keep {s0 s : State} {p : _} (h : Keep s0 s) :
    Keep s0 (State.sendHost s p) := by
  unfold State.sendHost
  repeat' first
    | with_reducible first | assumption | apply State.sendPkt_keep
    | split

theorem State.raiseIrq_keep {s0 s : State} {v : _} (h : Keep s0 s) :
    Keep s0 (State.raiseIrq s v) := by
  unfold State.raiseIrq
  repeat' first
    | ((fail_if_success (conv => arg 2; fun)); extract_lets +onlyGivenNames y; clear_value (e : y = _); refine Keep.letVar (s0 := s0) e ?_ fun _ => ?_)
    | with_reducible first | assumption | apply State.setBit_keep | apply State.sendHost_keep
    | with_reducible (refine Keep.record ?_ rfl rfl rfl rfl rfl rfl rfl rfl rfl; first | assumption | apply State.setBit_keep | apply State.sendHost_keep)
    | split

theorem State.hostWrite_keep {s0 s : State} {addr data k : _} (h : Keep s0 s) :
    Keep s0 (State.hostWrite s addr data k) := by
  unfold State.hostWrite
  repeat' first
    | ((fail_if_success (conv => arg 2; fun)); extract_lets +onlyGivenNames y; clear_value (e : y = _); refine Keep.letVar (s0 := s0) e ?_ fun _ => ?_)
    | ((fail_if_success (conv => arg 2; fun)); extract_lets +onlyGivenNames y)
    | with_reducible first | assumption | apply State.sendHost_keep | refine Keep.record ?_ rfl rfl rfl rfl rfl rfl rfl rfl rfl

theorem State.writeEvent_keep {s0 s : State} {e : _} (h : Keep s0 s) :
    Keep s0 (State.writeEvent s e) := by
  unfold State.writeEvent
  repeat' first
    | ((fail_if_success (conv => arg 2; fun)); extract_lets +onlyGivenNames y; clear_value (e : y = _); refine Keep.letVar (s0 := s0) e ?_ fun _ => ?_)
    | ((fail_if_success (conv => arg 2; fun)); extract_lets +onlyGivenNames y)
    | with_reducible first | assumption | apply State.addWrap_keep | apply State.raiseIrq_keep | apply State.hostWrite_keep
    | split

theorem State.hostEvent_keep {s0 s : State} {e : _} (h : Keep s0 s) :
    Keep s0 (State.hostEvent s e) := by
  unfold State.hostEvent
  repeat' first
    | ((fail_if_success (conv => arg 2; fun)); extract_lets +onlyGivenNames y; clear_value (e : y = _); refine Keep.letVar (s0 := s0) e ?_ fun _ => ?_)
    | with_reducible first | assumption | apply State.addSat_keep | apply State.writeEvent_keep
    | with_reducible (refine Keep.record ?_ rfl rfl rfl rfl rfl rfl rfl rfl rfl; first | assumption | apply State.addSat_keep | apply State.writeEvent_keep)
    | split

theorem State.caskAdd_keep {s0 s : State} {k e : _} (h : Keep s0 s) :
    KeepF s0 (State.caskAdd s k e) := by
  unfold State.caskAdd
  repeat' first
    | ((fail_if_success (conv => arg 2; fun)); extract_lets +onlyGivenNames y; clear_value (e : y = _); refine Keep.letVar (s0 := s0) e ?_ fun _ => ?_)
    | ((fail_if_success (conv => arg 2; fun)); extract_lets +onlyGivenNames y)
    | with_reducible first | assumption
    | with_reducible (refine Keep.record ?_ rfl rfl rfl rfl rfl rfl rfl rfl (Cask.setBuf_perm _ _ _); first | assumption)
    | split
    | with_reducible apply Keep.mkF

theorem State.caskPut_keep {s0 s : State} {k source code severity data : _} (h : Keep s0 s) :
    KeepF s0 (State.caskPut s k source code severity data) := by
  unfold State.caskPut
  repeat' first
    | ((fail_if_success (conv => arg 2; fun)); extract_lets +onlyGivenNames y; clear_value (e : y = _); refine Keep.letVar (s0 := s0) e ?_ fun _ => ?_)
    | ((fail_if_success (conv => arg 2; fun)); extract_lets +onlyGivenNames y)
    | with_reducible first | assumption | apply State.setF_keep | apply State.caskAdd_keep
    | with_reducible (refine Keep.record ?_ rfl rfl rfl rfl rfl rfl rfl rfl (Cask.setBuf_perm _ _ _); first | assumption | apply State.setF_keep | apply State.caskAdd_keep)
    | split
    | with_reducible apply Keep.mkF

theorem State.alertSet_keep {s0 s : State} {b : _} (h : Keep s0 s) :
    Keep s0 (State.alertSet s b) := by
  unfold State.alertSet
  repeat' with_reducible first | assumption | apply State.setF_keep | apply State.setBit_keep

theorem State.alertClear_keep {s0 s : State} {b : _} (h : Keep s0 s) :
    Keep s0 (State.alertClear s b) := by
  unfold State.alertClear
  repeat' first
    | ((fail_if_success (conv => arg 2; fun)); extract_lets +onlyGivenNames y; clear_value (e : y = _); refine Keep.letVar (s0 := s0) e ?_ fun _ => ?_)
    | with_reducible first | assumption | apply State.setF_keep | apply State.clearBit_keep

theorem State.setRowQueue_keep {s0 s : State} {p b q : _} (h : Keep s0 s) :
    Keep s0 (State.setRowQueue s p b q) := by
  unfold State.setRowQueue
  repeat' with_reducible first | assumption | refine Keep.record ?_ rfl rfl rfl rfl rfl rfl rfl rfl rfl

theorem State.rowQueueOn_keep {s0 s : State} {p b m : _} (h : Keep s0 s) :
    Keep s0 (State.rowQueueOn s p b m) := by
  unfold State.rowQueueOn
  repeat' first
    | ((fail_if_success (conv => arg 2; fun)); extract_lets +onlyGivenNames y; clear_value (e : y = _); refine Keep.letVar (s0 := s0) e ?_ fun _ => ?_)
    | ((fail_if_success (conv => arg 2; fun)); extract_lets +onlyGivenNames y)
    | with_reducible first | assumption | apply State.addSat_keep | apply State.alertSet_keep | apply State.setRowQueue_keep
    | split

theorem State.takeRowSeq_keep {s0 s : State} {t1 : _} (h : Keep s0 s) :
    KeepG s0 (State.takeRowSeq s t1) := by
  unfold State.takeRowSeq
  repeat' first
    | ((fail_if_success (conv => arg 2; fun)); extract_lets +onlyGivenNames y)
    | with_reducible first | assumption | refine Keep.record ?_ rfl rfl rfl rfl rfl rfl rfl rfl rfl | apply Keep.mkG

theorem State.rowSend_keep {s0 s : State} {mtype prio buf code severity body : _} (h : Keep s0 s) :
    Keep s0 (State.rowSend s mtype prio buf code severity body) := by
  unfold State.rowSend
  repeat' first
    | with_reducible first | assumption | apply State.rowQueueOn_keep | refine Keep.ofG (State.takeRowSeq_keep ?_)
    | split

theorem State.sendStatus_keep {s0 s : State} (h : Keep s0 s) :
    Keep s0 (State.sendStatus s) := by
  unfold State.sendStatus
  repeat' with_reducible first | assumption | apply State.rowSend_keep

theorem State.sendCapStatus_keep {s0 s : State} {reply : _} (h : Keep s0 s) :
    Keep s0 (State.sendCapStatus s reply) := by
  unfold State.sendCapStatus
  repeat' with_reducible first | assumption | apply State.rowSend_keep

theorem State.sendAlarm_keep {s0 s : State} {alarm detail : _} (h : Keep s0 s) :
    Keep s0 (State.sendAlarm s alarm detail) := by
  unfold State.sendAlarm
  repeat' with_reducible first | assumption | apply State.rowSend_keep

theorem State.sendWarn_keep {s0 s : State} (h : Keep s0 s) :
    Keep s0 (State.sendWarn s) := by
  unfold State.sendWarn
  repeat' with_reducible first | assumption | apply State.rowSend_keep

theorem State.sendModuleEvent_keep {s0 s : State} {code severity data : _} (h : Keep s0 s) :
    Keep s0 (State.sendModuleEvent s code severity data) := by
  unfold State.sendModuleEvent
  repeat' first
    | with_reducible first | assumption | apply State.rowSend_keep
    | split

theorem State.moduleEventOn_keep {s0 s : State} {p code severity data : _} (h : Keep s0 s) :
    Keep s0 (State.moduleEventOn s p code severity data) := by
  unfold State.moduleEventOn
  repeat' first
    | with_reducible first | assumption | apply State.rowQueueOn_keep | refine Keep.ofG (State.takeRowSeq_keep ?_)
    | split

theorem State.logLoss_keep {s0 s : State} {k lost : _} (h : Keep s0 s) :
    Keep s0 (State.logLoss s k lost) := by
  unfold State.logLoss
  repeat' first
    | ((fail_if_success (conv => arg 2; fun)); extract_lets +onlyGivenNames y; clear_value (e : y = _); refine Keep.letVar (s0 := s0) e ?_ fun _ => ?_)
    | with_reducible first | assumption | apply State.setF_keep | apply State.addSat_keep | apply State.hostEvent_keep | refine Keep.ofF (State.caskPut_keep ?_) | apply State.sendModuleEvent_keep
    | split

theorem State.post_keep {s0 s : State} {source code severity data toHost rowCode : _} (h : Keep s0 s) :
    Keep s0 (State.post s source code severity data toHost rowCode) := by
  unfold State.post
  repeat' first
    | ((fail_if_success (conv => arg 2; fun)); extract_lets +onlyGivenNames y; clear_value (e : y = _); refine Keep.letVar (s0 := s0) e ?_ fun _ => ?_)
    | ((fail_if_success (conv => arg 2; fun)); extract_lets +onlyGivenNames y)
    | with_reducible first | assumption | apply State.hostEvent_keep | apply State.caskPut_keep | apply State.sendModuleEvent_keep | apply State.logLoss_keep | refine Keep.eqF (by assumption) ?_
    | with_reducible (refine Keep.record ?_ rfl rfl rfl rfl rfl rfl rfl rfl rfl; first | assumption | apply State.hostEvent_keep | apply State.caskPut_keep | apply State.sendModuleEvent_keep | apply State.logLoss_keep | refine Keep.eqF (by assumption) ?_)
    | split

theorem State.postMod_keep {s0 s : State} {code data : _} (h : Keep s0 s) :
    Keep s0 (State.postMod s code data) := by
  unfold State.postMod
  repeat' first
    | with_reducible first | assumption | apply State.post_keep
    | split

theorem State.postBit_keep {s0 s : State} {source bit severity data fld en : _} (h : Keep s0 s) :
    Keep s0 (State.postBit s source bit severity data fld en) := by
  unfold State.postBit
  repeat' first
    | ((fail_if_success (conv => arg 2; fun)); extract_lets +onlyGivenNames y; clear_value (e : y = _); refine Keep.letVar (s0 := s0) e ?_ fun _ => ?_)
    | with_reducible first | assumption | apply State.setF_keep | apply State.post_keep

/-! ### CaskLog -/

theorem State.markInNor_keep {s0 s : State} {k seq : _} (h : Keep s0 s) :
    Keep s0 (State.markInNor s k seq) := by
  unfold State.markInNor
  repeat' with_reducible first | assumption | refine Keep.record ?_ rfl rfl rfl rfl rfl rfl rfl rfl (Cask.setBuf_perm _ _ _)

theorem State.lossEnd_keep {s0 s : State} (h : Keep s0 s) :
    Keep s0 (State.lossEnd s) := by
  unfold State.lossEnd
  repeat' first
    | with_reducible first | assumption | apply State.setF_keep
    | split

theorem execCaskFlush_keep {s0 s : State} (h : Keep s0 s) :
    KeepX s0 (execCaskFlush s) := by
  unfold execCaskFlush
  repeat' first
    | with_reducible first | assumption | apply State.served_keep | apply State.norWrite_keep | apply State.markInNor_keep | apply State.lossEnd_keep | apply Keep.next
    | split

theorem execRecordSeal_keep {s0 s : State} {seq : _} (h : Keep s0 s) :
    KeepX s0 (execRecordSeal seq s) := by
  unfold execRecordSeal
  repeat' first
    | with_reducible first | assumption | apply Keep.next
    | with_reducible (refine Keep.record ?_ rfl rfl rfl rfl rfl rfl rfl rfl (Cask.setBuf_perm _ _ _); first | assumption | apply Keep.next)
    | split

theorem State.cskMark_keep {s0 s : State} {v : _} (h : Keep s0 s) :
    Keep s0 (State.cskMark s v) := by
  unfold State.cskMark
  repeat' with_reducible first | assumption | apply State.post_keep

theorem execCskMark_keep {s0 s : State} {value : _} (h : Keep s0 s) :
    KeepX s0 (execCskMark value s) := by
  unfold execCskMark
  repeat' first
    | with_reducible first | assumption | apply State.cskMark_keep | apply Keep.next
    | split

theorem State.norFail_keep {s0 s : State} (h : Keep s0 s) :
    Keep s0 (State.norFail s) := by
  unfold State.norFail
  repeat' first
    | ((fail_if_success (conv => arg 2; fun)); extract_lets +onlyGivenNames y)
    | with_reducible first | assumption | apply State.setF_keep | apply State.post_keep
    | split

theorem State.dropBad_keep {s0 s : State} {sector bad : _} (h : Keep s0 s) :
    Keep s0 (State.dropBad s sector bad) := by
  unfold State.dropBad
  repeat' first
    | ((fail_if_success (conv => arg 2; fun)); extract_lets +onlyGivenNames y)
    | with_reducible first | assumption | apply State.addSat_keep | refine Keep.record ?_ rfl rfl rfl rfl rfl rfl rfl rfl rfl

theorem execNorWriteFail_keep {s0 s : State} {sector retryOk bad : _} (h : Keep s0 s) :
    KeepX s0 (execNorWriteFail sector retryOk bad s) := by
  unfold execNorWriteFail
  repeat' first
    | ((fail_if_success (conv => arg 2; fun)); extract_lets +onlyGivenNames y; clear_value (e : y = _); refine Keep.letVar (s0 := s0) e ?_ fun _ => ?_)
    | ((fail_if_success (conv => arg 2; fun)); extract_lets +onlyGivenNames y)
    | with_reducible first | assumption | apply State.post_keep | apply State.norFail_keep | apply State.dropBad_keep | apply Keep.next
    | with_reducible (refine Keep.record ?_ rfl rfl rfl rfl rfl rfl rfl rfl rfl; first | assumption | apply State.post_keep | apply State.norFail_keep | apply State.dropBad_keep | apply Keep.next)
    | split

theorem execNorTimeout_keep {s0 s : State} (h : Keep s0 s) :
    KeepX s0 (execNorTimeout s) := by
  unfold execNorTimeout
  repeat' first
    | with_reducible first | assumption | apply State.norFail_keep | apply Keep.next
    | split

theorem State.commitCsk_keep {s0 s : State} (h : Keep s0 s) :
    Keep s0 (State.commitCsk s) := by
  unfold State.commitCsk
  repeat' first
    | ((fail_if_success (conv => arg 2; fun)); extract_lets +onlyGivenNames y; clear_value (e : y = _); refine Keep.letVar (s0 := s0) e ?_ fun _ => ?_)
    | ((fail_if_success (conv => arg 2; fun)); extract_lets +onlyGivenNames y)
    | with_reducible first | assumption | apply State.setF_keep | apply State.commitF_keep | apply State.commitRange_keep
    | split

theorem execCskCommit_keep {s0 s : State} (h : Keep s0 s) :
    KeepX s0 (execCskCommit s) := by
  unfold execCskCommit
  repeat' first
    | with_reducible first | assumption | apply State.commitCsk_keep | apply Keep.next
    | with_reducible (refine Keep.record ?_ rfl rfl rfl rfl rfl rfl rfl rfl rfl; first | assumption | apply State.commitCsk_keep | apply Keep.next)
    | split

theorem execCaskRingErase_keep {s0 s : State} (h : Keep s0 s) :
    KeepX s0 (execCaskRingErase s) := by
  unfold execCaskRingErase
  repeat' first
    | ((fail_if_success (conv => arg 2; fun)); extract_lets +onlyGivenNames y; clear_value (e : y = _); refine Keep.letVar (s0 := s0) e ?_ fun _ => ?_)
    | ((fail_if_success (conv => arg 2; fun)); extract_lets +onlyGivenNames y)
    | with_reducible first | assumption | apply State.setF_keep | apply State.post_keep | apply Keep.next
    | with_reducible (refine Keep.record ?_ rfl rfl rfl rfl rfl rfl rfl rfl rfl; first | assumption | apply State.setF_keep | apply State.post_keep | apply Keep.next)
    | split

theorem State.loadRdData_keep {s0 s : State} {r : _} (h : Keep s0 s) :
    Keep s0 (State.loadRdData s r) := by
  unfold State.loadRdData
  repeat' first
    | ((fail_if_success (conv => arg 2; fun)); extract_lets +onlyGivenNames y)
    | with_reducible first | assumption | apply State.setF_keep | refine Keep.foldl ?_ fun _ _ _ => ?_

theorem State.cskRdSeq_keep {s0 s : State} {q : _} (h : Keep s0 s) :
    Keep s0 (State.cskRdSeq s q) := by
  unfold State.cskRdSeq
  repeat' first
    | ((fail_if_success (conv => arg 2; fun)); extract_lets +onlyGivenNames y; clear_value (e : y = _); refine Keep.letVar (s0 := s0) e ?_ fun _ => ?_)
    | with_reducible first | assumption | apply State.setF_keep | apply State.loadRdData_keep
    | split

theorem execCskRdSeq_keep {s0 s : State} {seq : _} (h : Keep s0 s) :
    KeepX s0 (execCskRdSeq seq s) := by
  unfold execCskRdSeq
  repeat' first
    | with_reducible first | assumption | apply State.cskRdSeq_keep | apply Keep.next
    | split

theorem State.powerFlush_keep {s0 s : State} (h : Keep s0 s) :
    Keep s0 (State.powerFlush s) := by
  unfold State.powerFlush
  repeat' first
    | ((fail_if_success (conv => arg 2; fun)); extract_lets +onlyGivenNames y; clear_value (e : y = _); refine Keep.letVar (s0 := s0) e ?_ fun _ => ?_)
    | ((fail_if_success (conv => arg 2; fun)); extract_lets +onlyGivenNames y)
    | with_reducible first | assumption | apply State.hostEvent_keep | apply State.caskPut_keep | apply State.logLoss_keep | apply State.norWrite_keep | refine Keep.foldl ?_ fun _ _ _ => ?_ | refine Keep.eqF (by assumption) ?_
    | with_reducible (refine Keep.record ?_ rfl rfl rfl rfl rfl rfl rfl rfl rfl; first | assumption | apply State.hostEvent_keep | apply State.caskPut_keep | apply State.logLoss_keep | apply State.norWrite_keep | refine Keep.foldl ?_ fun _ _ _ => ?_ | refine Keep.eqF (by assumption) ?_)
    | with_reducible (refine Keep.record ?_ rfl rfl rfl rfl rfl rfl rfl rfl (Cask.setBuf_perm _ _ _); first | assumption | apply State.hostEvent_keep | apply State.caskPut_keep | apply State.logLoss_keep | apply State.norWrite_keep | refine Keep.foldl ?_ fun _ _ _ => ?_ | refine Keep.eqF (by assumption) ?_)
    | split

theorem State.caskTakeover_keep {s0 s : State} {k : _} (h : Keep s0 s) :
    Keep s0 (State.caskTakeover s k) := by
  unfold State.caskTakeover
  repeat' first
    | ((fail_if_success (conv => arg 2; fun)); extract_lets +onlyGivenNames y; clear_value (e : y = _); refine Keep.letVar (s0 := s0) e ?_ fun _ => ?_)
    | ((fail_if_success (conv => arg 2; fun)); extract_lets +onlyGivenNames y)
    | with_reducible first | assumption | apply State.setF_keep | refine Keep.ofF (State.caskPut_keep ?_) | apply State.logLoss_keep | apply State.norWrite_keep | apply State.markInNor_keep | refine Keep.foldl ?_ fun _ _ _ => ?_
    | split

theorem State.postOwed_keep {s0 s : State} (h : Keep s0 s) :
    Keep s0 (State.postOwed s) := by
  unfold State.postOwed
  repeat' first
    | ((fail_if_success (conv => arg 2; fun)); extract_lets +onlyGivenNames y; clear_value (e : y = _); refine Keep.letVar (s0 := s0) e ?_ fun _ => ?_)
    | ((fail_if_success (conv => arg 2; fun)); extract_lets +onlyGivenNames y)
    | with_reducible first | assumption | apply State.post_keep | refine Keep.foldl ?_ fun _ _ _ => ?_ | refine Keep.record ?_ rfl rfl rfl rfl rfl rfl rfl rfl rfl

/-! ### FabricOps -/

theorem State.takeTag_keep {s0 s : State} (h : Keep s0 s) :
    KeepG s0 (State.takeTag s) := by
  unfold State.takeTag
  repeat' with_reducible first | assumption | refine Keep.record ?_ rfl rfl rfl rfl rfl rfl rfl rfl rfl | apply Keep.mkG

theorem State.addReq_keep {s0 s : State} {r : _} (h : Keep s0 s) :
    Keep s0 (State.addReq s r) := by
  unfold State.addReq
  repeat' with_reducible first | assumption | refine Keep.record ?_ rfl rfl rfl rfl rfl rfl rfl rfl rfl

theorem State.dropReq_keep {s0 s : State} {tag : _} (h : Keep s0 s) :
    Keep s0 (State.dropReq s tag) := by
  unfold State.dropReq
  repeat' with_reducible first | assumption | refine Keep.record ?_ rfl rfl rfl rfl rfl rfl rfl rfl rfl

theorem State.ixfEvent_keep {s0 s : State} {bit data : _} (h : Keep s0 s) :
    Keep s0 (State.ixfEvent s bit data) := by
  unfold State.ixfEvent
  repeat' first
    | ((fail_if_success (conv => arg 2; fun)); extract_lets +onlyGivenNames y)
    | with_reducible first | assumption | apply State.postBit_keep

theorem State.ptnEvent_keep {s0 s : State} {bit : _} (h : Keep s0 s) :
    Keep s0 (State.ptnEvent s bit) := by
  unfold State.ptnEvent
  repeat' first
    | ((fail_if_success (conv => arg 2; fun)); extract_lets +onlyGivenNames y)
    | with_reducible first | assumption | apply State.postBit_keep

/-! ### MemOps -/

theorem State.srState_keep {s0 s : State} {k : _} (h : Keep s0 s) :
    Keep s0 (State.srState s k) := by
  unfold State.srState
  repeat' first
    | ((fail_if_success (conv => arg 2; fun)); extract_lets +onlyGivenNames y)
    | with_reducible first | assumption | apply State.setF_keep
    | split

theorem State.srExit_keep {s0 s : State} {chan : _} (h : Keep s0 s) :
    Keep s0 (State.srExit s chan) := by
  unfold State.srExit
  repeat' first
    | ((fail_if_success (conv => arg 2; fun)); extract_lets +onlyGivenNames y; clear_value (e : y = _); refine Keep.letVar (s0 := s0) e ?_ fun _ => ?_)
    | ((fail_if_success (conv => arg 2; fun)); extract_lets +onlyGivenNames y)
    | with_reducible first | assumption | apply State.srState_keep
    | with_reducible (refine Keep.record ?_ rfl rfl rfl rfl rfl rfl rfl rfl rfl; first | assumption | apply State.srState_keep)
    | split

theorem State.memEvent_keep {s0 s : State} {code data : _} (h : Keep s0 s) :
    Keep s0 (State.memEvent s code data) := by
  unfold State.memEvent
  repeat' with_reducible first | assumption | apply State.post_keep

theorem State.showStart_keep {s0 s : State} {k : _} (h : Keep s0 s) :
    Keep s0 (State.showStart s k) := by
  unfold State.showStart
  repeat' first
    | ((fail_if_success (conv => arg 2; fun)); extract_lets +onlyGivenNames y)
    | with_reducible first | assumption | apply State.setFlag_keep

theorem State.queueSpare_keep {s0 s : State} {k lch cause requested : _} (h : Keep s0 s) :
    Keep s0 (State.queueSpare s k lch cause requested) := by
  unfold State.queueSpare
  repeat' first
    | ((fail_if_success (conv => arg 2; fun)); extract_lets +onlyGivenNames y)
    | with_reducible first | assumption | refine Keep.record ?_ rfl rfl rfl rfl rfl rfl rfl rfl rfl

theorem State.spareTrigger_keep {s0 s : State} {k lch cause requested : _} (h : Keep s0 s) :
    Keep s0 (State.spareTrigger s k lch cause requested) := by
  unfold State.spareTrigger
  repeat' first
    | with_reducible first | assumption | apply State.queueSpare_keep
    | with_reducible (refine Keep.record ?_ rfl rfl rfl rfl rfl rfl rfl rfl rfl; first | assumption | apply State.queueSpare_keep)
    | split

theorem State.stackFail_keep {s0 s : State} {k cause : _} (h : Keep s0 s) :
    Keep s0 (State.stackFail s k cause) := by
  unfold State.stackFail
  repeat' first
    | ((fail_if_success (conv => arg 2; fun)); extract_lets +onlyGivenNames y; clear_value (e : y = _); refine Keep.letVar (s0 := s0) e ?_ fun _ => ?_)
    | ((fail_if_success (conv => arg 2; fun)); extract_lets +onlyGivenNames y)
    | with_reducible first | assumption | apply State.setF_keep | apply State.setBit_keep | apply State.memEvent_keep
    | with_reducible (refine Keep.record ?_ rfl rfl rfl rfl rfl rfl rfl rfl rfl; first | assumption | apply State.setF_keep | apply State.setBit_keep | apply State.memEvent_keep)
    | split

theorem State.ueAddr_keep {s0 s : State} {p pa poisoned : _} (h : Keep s0 s) :
    Keep s0 (State.ueAddr s p pa poisoned) := by
  unfold State.ueAddr
  repeat' first
    | ((fail_if_success (conv => arg 2; fun)); extract_lets +onlyGivenNames y; clear_value (e : y = _); refine Keep.letVar (s0 := s0) e ?_ fun _ => ?_)
    | with_reducible first | assumption | apply State.setF_keep | apply State.setFlag_keep

theorem State.correctedRead_keep {s0 s : State} {p : _} (h : Keep s0 s) :
    Keep s0 (State.correctedRead s p) := by
  unfold State.correctedRead
  repeat' first
    | ((fail_if_success (conv => arg 2; fun)); extract_lets +onlyGivenNames y; clear_value (e : y = _); refine Keep.letVar (s0 := s0) e ?_ fun _ => ?_)
    | ((fail_if_success (conv => arg 2; fun)); extract_lets +onlyGivenNames y)
    | with_reducible first | assumption | apply State.addSat_keep | apply State.spareTrigger_keep
    | split

theorem State.poisonPair_keep {s0 s : State} {key : _} (h : Keep s0 s) :
    Keep s0 (State.poisonPair s key) := by
  unfold State.poisonPair
  repeat' first
    | with_reducible first | assumption
    | with_reducible (refine Keep.record ?_ rfl rfl rfl rfl rfl rfl rfl rfl rfl; first | assumption)
    | split

theorem State.uncorrectable_keep {s0 s : State} {p pa : _} (h : Keep s0 s) :
    Keep s0 (State.uncorrectable s p pa) := by
  unfold State.uncorrectable
  repeat' first
    | ((fail_if_success (conv => arg 2; fun)); extract_lets +onlyGivenNames y; clear_value (e : y = _); refine Keep.letVar (s0 := s0) e ?_ fun _ => ?_)
    | with_reducible first | assumption | apply State.addSat_keep | apply State.memEvent_keep | apply State.spareTrigger_keep | apply State.ueAddr_keep | apply State.poisonPair_keep

theorem State.scramble_keep {s0 s : State} {pa : _} (h : Keep s0 s) :
    Keep s0 (State.scramble s pa) := by
  unfold State.scramble
  repeat' with_reducible first | assumption | refine Keep.ofG (State.freshBytes_keep ?_) | apply State.putBytes_keep

theorem State.readPlace_keep {s0 s : State} {p pa ecc : _} (h : Keep s0 s) :
    KeepF s0 (State.readPlace s p pa ecc) := by
  unfold State.readPlace
  repeat' first
    | ((fail_if_success (conv => arg 2; fun)); extract_lets +onlyGivenNames y; clear_value (e : y = _); refine Keep.letVar (s0 := s0) e ?_ fun _ => ?_)
    | with_reducible first | assumption | apply State.addSat_keep | apply State.srExit_keep | apply State.ueAddr_keep | apply State.correctedRead_keep | apply State.uncorrectable_keep | apply State.scramble_keep
    | split
    | with_reducible apply Keep.mkF

theorem State.readPair_keep {s0 s : State} {u ecc : _} (h : Keep s0 s) :
    KeepF s0 (State.readPair s u ecc) := by
  unfold State.readPair
  repeat' first
    | with_reducible first | assumption | apply State.readPlace_keep
    | split
    | with_reducible apply Keep.mkF

theorem State.readPairs_keep {s0 s : State} {z1 z2 : _} (h : Keep s0 s) :
    KeepF s0 (State.readPairs s z1 z2) := by
  induction z1 generalizing s z2 with
  | nil =>
    unfold State.readPairs
    repeat' first
      | ((fail_if_success (conv => arg 2; fun)); extract_lets +onlyGivenNames y)
      | with_reducible first | assumption | apply State.readPair_keep | apply ih | refine Keep.eqF (by assumption) ?_
      | with_reducible (refine Keep.record ?_ rfl rfl rfl rfl rfl rfl rfl rfl rfl; first | assumption | apply State.readPair_keep | apply ih | refine Keep.eqF (by assumption) ?_)
      | split
      | with_reducible apply Keep.mkF
  | cons hd tl ih =>
    unfold State.readPairs
    repeat' first
      | ((fail_if_success (conv => arg 2; fun)); extract_lets +onlyGivenNames y)
      | with_reducible first | assumption | apply State.readPair_keep | apply ih | refine Keep.eqF (by assumption) ?_
      | with_reducible (refine Keep.record ?_ rfl rfl rfl rfl rfl rfl rfl rfl rfl; first | assumption | apply State.readPair_keep | apply ih | refine Keep.eqF (by assumption) ?_)
      | split
      | with_reducible apply Keep.mkF

theorem State.memRead_keep {s0 s : State} {pa n ecc : _} (h : Keep s0 s) :
    KeepF s0 (State.memRead s pa n ecc) := by
  unfold State.memRead
  repeat' first
    | ((fail_if_success (conv => arg 2; fun)); extract_lets +onlyGivenNames y)
    | with_reducible first | assumption | apply State.readPairs_keep | refine Keep.eqF (by assumption) ?_
    | with_reducible (refine Keep.record ?_ rfl rfl rfl rfl rfl rfl rfl rfl rfl; first | assumption | apply State.readPairs_keep | refine Keep.eqF (by assumption) ?_)
    | split
    | with_reducible apply Keep.mkF

theorem State.writePair_keep {s0 s : State} {pa data ecc : _} (h : Keep s0 s) :
    KeepF s0 (State.writePair s pa data ecc) := by
  unfold State.writePair
  repeat' first
    | ((fail_if_success (conv => arg 2; fun)); extract_lets +onlyGivenNames y; clear_value (e : y = _); refine Keep.letVar (s0 := s0) e ?_ fun _ => ?_)
    | ((fail_if_success (conv => arg 2; fun)); extract_lets +onlyGivenNames y)
    | with_reducible first | assumption | apply State.putBytes_keep | apply State.srExit_keep | apply State.readPair_keep | refine Keep.eqF (by assumption) ?_
    | with_reducible (refine Keep.record ?_ rfl rfl rfl rfl rfl rfl rfl rfl rfl; first | assumption | apply State.putBytes_keep | apply State.srExit_keep | apply State.readPair_keep | refine Keep.eqF (by assumption) ?_)
    | split
    | with_reducible apply Keep.mkF

theorem State.writePairs_keep {s0 s : State} {z0 z2 z3 z4 : _} (h : Keep s0 s) :
    KeepF s0 (State.writePairs z0 s z2 z3 z4) := by
  induction z0 generalizing s z2 z3 z4 with
  | zero =>
    unfold State.writePairs
    repeat' first
      | ((fail_if_success (conv => arg 2; fun)); extract_lets +onlyGivenNames y)
      | with_reducible first | assumption | apply State.writePair_keep | apply ih | refine Keep.eqF (by assumption) ?_
      | with_reducible (refine Keep.record ?_ rfl rfl rfl rfl rfl rfl rfl rfl rfl; first | assumption | apply State.writePair_keep | apply ih | refine Keep.eqF (by assumption) ?_)
      | split
      | with_reducible apply Keep.mkF
  | succ n ih =>
    unfold State.writePairs
    repeat' first
      | ((fail_if_success (conv => arg 2; fun)); extract_lets +onlyGivenNames y)
      | with_reducible first | assumption | apply State.writePair_keep | apply ih | refine Keep.eqF (by assumption) ?_
      | with_reducible (refine Keep.record ?_ rfl rfl rfl rfl rfl rfl rfl rfl rfl; first | assumption | apply State.writePair_keep | apply ih | refine Keep.eqF (by assumption) ?_)
      | split
      | with_reducible apply Keep.mkF

theorem State.markDirty_keep {s0 s : State} {r pa n : _} (h : Keep s0 s) :
    Keep s0 (State.markDirty s r pa n) := by
  unfold State.markDirty
  repeat' first
    | ((fail_if_success (conv => arg 2; fun)); extract_lets +onlyGivenNames y; clear_value (e : y = _); refine Keep.letVar (s0 := s0) e ?_ fun _ => ?_)
    | ((fail_if_success (conv => arg 2; fun)); extract_lets +onlyGivenNames y)
    | with_reducible first | assumption | apply State.setF_keep | refine Keep.record ?_ rfl rfl rfl rfl rfl rfl rfl rfl rfl

theorem State.allDirty_keep {s0 s : State} {r : _} (h : Keep s0 s) :
    Keep s0 (State.allDirty s r) := by
  unfold State.allDirty
  repeat' first
    | ((fail_if_success (conv => arg 2; fun)); extract_lets +onlyGivenNames y; clear_value (e : y = _); refine Keep.letVar (s0 := s0) e ?_ fun _ => ?_)
    | ((fail_if_success (conv => arg 2; fun)); extract_lets +onlyGivenNames y)
    | with_reducible first | assumption | apply State.setF_keep | refine Keep.record ?_ rfl rfl rfl rfl rfl rfl rfl rfl rfl

theorem State.sendMirror_keep {s0 s : State} {kind r pa data : _} (h : Keep s0 s) :
    KeepF s0 (State.sendMirror s kind r pa data) := by
  unfold State.sendMirror
  repeat' first
    | ((fail_if_success (conv => arg 2; fun)); extract_lets +onlyGivenNames y; clear_value (e : y = _); refine Keep.letVar (s0 := s0) e ?_ fun _ => ?_)
    | ((fail_if_success (conv => arg 2; fun)); extract_lets +onlyGivenNames y)
    | with_reducible first | assumption | apply State.sendPkt_keep | apply State.takeTag_keep | apply State.addReq_keep | refine Keep.eqG (by assumption) ?_
    | with_reducible (refine Keep.record ?_ rfl rfl rfl rfl rfl rfl rfl rfl rfl; first | assumption | apply State.sendPkt_keep | apply State.takeTag_keep | apply State.addReq_keep | refine Keep.eqG (by assumption) ?_)
    | split
    | with_reducible apply Keep.mkF

theorem State.sendMirrors_keep {s0 s : State} {z0 z2 z3 z4 z5 : _} (h : Keep s0 s) :
    KeepF s0 (State.sendMirrors z0 s z2 z3 z4 z5) := by
  induction z0 generalizing s z2 z3 z4 z5 with
  | zero =>
    unfold State.sendMirrors
    repeat' first
      | ((fail_if_success (conv => arg 2; fun)); extract_lets +onlyGivenNames y)
      | with_reducible first | assumption | apply State.sendMirror_keep | apply ih | refine Keep.eqF (by assumption) ?_
      | with_reducible (refine Keep.record ?_ rfl rfl rfl rfl rfl rfl rfl rfl rfl; first | assumption | apply State.sendMirror_keep | apply ih | refine Keep.eqF (by assumption) ?_)
      | split
      | with_reducible apply Keep.mkF
  | succ n ih =>
    unfold State.sendMirrors
    repeat' first
      | ((fail_if_success (conv => arg 2; fun)); extract_lets +onlyGivenNames y)
      | with_reducible first | assumption | apply State.sendMirror_keep | apply ih | refine Keep.eqF (by assumption) ?_
      | with_reducible (refine Keep.record ?_ rfl rfl rfl rfl rfl rfl rfl rfl rfl; first | assumption | apply State.sendMirror_keep | apply ih | refine Keep.eqF (by assumption) ?_)
      | split
      | with_reducible apply Keep.mkF

theorem State.mirrorParts_keep {s0 s : State} {z1 : _} (h : Keep s0 s) :
    KeepF s0 (State.mirrorParts s z1) := by
  induction z1 generalizing s with
  | nil =>
    unfold State.mirrorParts
    repeat' first
      | ((fail_if_success (conv => arg 2; fun)); extract_lets +onlyGivenNames y)
      | with_reducible first | assumption | apply State.markDirty_keep | apply State.sendMirrors_keep | apply ih | refine Keep.eqF (by assumption) ?_
      | with_reducible (refine Keep.record ?_ rfl rfl rfl rfl rfl rfl rfl rfl rfl; first | assumption | apply State.markDirty_keep | apply State.sendMirrors_keep | apply ih | refine Keep.eqF (by assumption) ?_)
      | split
      | with_reducible apply Keep.mkF
  | cons hd tl ih =>
    unfold State.mirrorParts
    repeat' first
      | ((fail_if_success (conv => arg 2; fun)); extract_lets +onlyGivenNames y)
      | with_reducible first | assumption | apply State.markDirty_keep | apply State.sendMirrors_keep | apply ih | refine Keep.eqF (by assumption) ?_
      | with_reducible (refine Keep.record ?_ rfl rfl rfl rfl rfl rfl rfl rfl rfl; first | assumption | apply State.markDirty_keep | apply State.sendMirrors_keep | apply ih | refine Keep.eqF (by assumption) ?_)
      | split
      | with_reducible apply Keep.mkF

theorem State.mirrorPass_keep {s0 s : State} {runs : _} (h : Keep s0 s) :
    KeepF s0 (State.mirrorPass s runs) := by
  unfold State.mirrorPass
  repeat' with_reducible first | assumption | apply State.mirrorParts_keep

theorem State.memWrite_keep {s0 s : State} {pa data ecc mirror : _} (h : Keep s0 s) :
    KeepF s0 (State.memWrite s pa data ecc mirror) := by
  unfold State.memWrite
  repeat' first
    | ((fail_if_success (conv => arg 2; fun)); extract_lets +onlyGivenNames y)
    | with_reducible first | assumption | apply State.writePairs_keep | apply State.mirrorPass_keep | refine Keep.eqF (by assumption) ?_
    | with_reducible (refine Keep.record ?_ rfl rfl rfl rfl rfl rfl rfl rfl rfl; first | assumption | apply State.writePairs_keep | apply State.mirrorPass_keep | refine Keep.eqF (by assumption) ?_)
    | split
    | with_reducible apply Keep.mkF

/-! ### RowBus -/

theorem State.rowOnlyRecord_keep {s0 s : State} {code severity data : _} (h : Keep s0 s) :
    Keep s0 (State.rowOnlyRecord s code severity data) := by
  unfold State.rowOnlyRecord
  repeat' with_reducible first | assumption | refine Keep.ofG (State.fresh_keep ?_) | apply State.post_keep

theorem State.busUp_keep {s0 s : State} {p : _} (h : Keep s0 s) :
    Keep s0 (State.busUp s p) := by
  unfold State.busUp
  repeat' first
    | ((fail_if_success (conv => arg 2; fun)); extract_lets +onlyGivenNames y)
    | with_reducible first | assumption | apply State.sendModuleEvent_keep | apply State.rowOnlyRecord_keep

theorem State.portActive_keep {s0 s : State} {p nom data brs : _} (h : Keep s0 s) :
    Keep s0 (State.portActive s p nom data brs) := by
  unfold State.portActive
  repeat' first
    | ((fail_if_success (conv => arg 2; fun)); extract_lets +onlyGivenNames y; clear_value (e : y = _); refine Keep.letVar (s0 := s0) e ?_ fun _ => ?_)
    | with_reducible first | assumption | apply State.setF_keep | apply State.busUp_keep
    | split

theorem State.portRestart_keep {s0 s : State} {p : _} (h : Keep s0 s) :
    Keep s0 (State.portRestart s p) := by
  unfold State.portRestart
  repeat' first
    | ((fail_if_success (conv => arg 2; fun)); extract_lets +onlyGivenNames y; clear_value (e : y = _); refine Keep.letVar (s0 := s0) e ?_ fun _ => ?_)
    | ((fail_if_success (conv => arg 2; fun)); extract_lets +onlyGivenNames y)
    | with_reducible first | assumption | apply State.setF_keep | refine Keep.record ?_ rfl rfl rfl rfl rfl rfl rfl rfl rfl

theorem State.withRowCtl_keep {s0 s : State} {c : _} (h : Keep s0 s) :
    Keep s0 (State.withRowCtl s c) := by
  unfold State.withRowCtl
  repeat' with_reducible first | assumption | apply State.withRegs_keep | refine Keep.record ?_ rfl rfl rfl rfl rfl rfl rfl rfl rfl

theorem State.otherRow_keep {s0 s : State} {f : _} (h : Keep s0 s) (hf : ∀ t, Keep s0 t → Keep s0 (f t)) :
    Keep s0 (State.otherRow s f) := by
  unfold State.otherRow
  repeat' first
    | ((fail_if_success (conv => arg 2; fun)); extract_lets +onlyGivenNames y)
    | with_reducible first | assumption
    | with_reducible (refine Keep.record ?_ rfl rfl rfl rfl rfl rfl rfl rfl rfl; first | assumption)
    | split

theorem State.restartOther_keep {s0 s : State} (h : Keep s0 s) :
    Keep s0 (State.restartOther s) := by
  unfold State.restartOther
  repeat' with_reducible first | assumption | apply State.portRestart_keep | refine State.otherRow_keep ?_ (fun _ _ => ?_) | refine Keep.foldl ?_ fun _ _ _ => ?_

theorem State.bothRow_keep {s0 s : State} {f : _} (h : Keep s0 s) (hf : ∀ t, Keep s0 t → Keep s0 (f t)) :
    Keep s0 (State.bothRow s f) := by
  unfold State.bothRow
  repeat' with_reducible first | assumption | refine State.otherRow_keep ?_ (fun _ _ => ?_) | apply hf

theorem State.setPortDet_keep {s0 s : State} {p d : _} (h : Keep s0 s) :
    Keep s0 (State.setPortDet s p d) := by
  unfold State.setPortDet
  repeat' with_reducible first | assumption | refine Keep.record ?_ rfl rfl rfl rfl rfl rfl rfl rfl rfl

theorem State.brsFrame_keep {s0 s : State} {p ok : _} (h : Keep s0 s) :
    KeepF s0 (State.brsFrame s p ok) := by
  unfold State.brsFrame
  repeat' first
    | ((fail_if_success (conv => arg 2; fun)); extract_lets +onlyGivenNames y)
    | with_reducible first | assumption | apply State.setPortDet_keep
    | split
    | with_reducible apply Keep.mkF

theorem State.clash_keep {s0 s : State} {p : _} (h : Keep s0 s) :
    Keep s0 (State.clash s p) := by
  unfold State.clash
  repeat' first
    | ((fail_if_success (conv => arg 2; fun)); extract_lets +onlyGivenNames y; clear_value (e : y = _); refine Keep.letVar (s0 := s0) e ?_ fun _ => ?_)
    | ((fail_if_success (conv => arg 2; fun)); extract_lets +onlyGivenNames y)
    | with_reducible first | assumption | apply State.setF_keep | apply State.addSat_keep | apply State.alertSet_keep | apply State.moduleEventOn_keep | apply State.rowOnlyRecord_keep
    | with_reducible (refine Keep.record ?_ rfl rfl rfl rfl rfl rfl rfl rfl rfl; first | assumption | apply State.setF_keep | apply State.addSat_keep | apply State.alertSet_keep | apply State.moduleEventOn_keep | apply State.rowOnlyRecord_keep)
    | split

theorem State.rowAccept_keep {s0 s : State} {p f reservedOk : _} (h : Keep s0 s) :
    KeepF s0 (State.rowAccept s p f reservedOk) := by
  unfold State.rowAccept
  repeat' first
    | ((fail_if_success (conv => arg 2; fun)); extract_lets +onlyGivenNames y; clear_value (e : y = _); refine Keep.letVar (s0 := s0) e ?_ fun _ => ?_)
    | ((fail_if_success (conv => arg 2; fun)); extract_lets +onlyGivenNames y)
    | with_reducible first | assumption | apply State.addSat_keep
    | with_reducible (refine Keep.record ?_ rfl rfl rfl rfl rfl rfl rfl rfl rfl; first | assumption | apply State.addSat_keep)
    | split
    | with_reducible apply Keep.mkF

theorem State.rowAnswer_keep {s0 s : State} {p mtype prio buf body : _} (h : Keep s0 s) :
    Keep s0 (State.rowAnswer s p mtype prio buf body) := by
  unfold State.rowAnswer
  repeat' first
    | with_reducible first | assumption | apply State.rowQueueOn_keep | refine Keep.ofG (State.takeRowSeq_keep ?_)
    | split

theorem State.urgentCheck_keep {s0 s : State} (h : Keep s0 s) :
    Keep s0 (State.urgentCheck s) := by
  unfold State.urgentCheck
  repeat' first
    | with_reducible first | assumption | apply State.alertClear_keep
    | split

theorem State.markMsgs_keep {s0 s : State} {p f : _} (h : Keep s0 s) :
    Keep s0 (State.markMsgs s p f) := by
  unfold State.markMsgs
  repeat' with_reducible first | assumption | apply State.setRowQueue_keep | refine Keep.foldl ?_ fun _ _ _ => ?_

theorem State.errorState_keep {s0 s : State} {p : _} (h : Keep s0 s) :
    Keep s0 (State.errorState s p) := by
  unfold State.errorState
  repeat' first
    | ((fail_if_success (conv => arg 2; fun)); extract_lets +onlyGivenNames y)
    | with_reducible first | assumption | apply State.setF_keep
    | split

theorem State.countRx_keep {s0 s : State} {p bad : _} (h : Keep s0 s) :
    Keep s0 (State.countRx s p bad) := by
  unfold State.countRx
  repeat' first
    | ((fail_if_success (conv => arg 2; fun)); extract_lets +onlyGivenNames y)
    | with_reducible first | assumption | apply State.setF_keep | apply State.errorState_keep
    | split

theorem execRateSweepTimeout_keep {s0 s : State} {p edges : _} (h : Keep s0 s) :
    KeepX s0 (execRateSweepTimeout p edges s) := by
  unfold execRateSweepTimeout
  repeat' first
    | with_reducible first | assumption | apply State.setF_keep | apply State.portActive_keep | refine State.bothRow_keep ?_ (fun _ _ => ?_) | apply Keep.next
    | with_reducible (refine Keep.record ?_ rfl rfl rfl rfl rfl rfl rfl rfl rfl; first | assumption | apply State.setF_keep | apply State.portActive_keep | refine State.bothRow_keep ?_ (fun _ _ => ?_) | apply Keep.next)
    | split

theorem execBrsWaitTimeout_keep {s0 s : State} {p : _} (h : Keep s0 s) :
    KeepX s0 (execBrsWaitTimeout p s) := by
  unfold execBrsWaitTimeout
  repeat' first
    | with_reducible first | assumption | apply State.portActive_keep | refine State.bothRow_keep ?_ (fun _ _ => ?_) | apply Keep.next
    | split

theorem State.rowDetect_keep {s0 s : State} {p nom brs dataOk : _} (h : Keep s0 s) :
    Keep s0 (State.rowDetect s p nom brs dataOk) := by
  unfold State.rowDetect
  repeat' first
    | ((fail_if_success (conv => arg 2; fun)); extract_lets +onlyGivenNames y)
    | with_reducible first | assumption | apply State.setF_keep | apply State.portActive_keep | apply State.setPortDet_keep | apply State.brsFrame_keep | refine Keep.eqF (by assumption) ?_
    | with_reducible (refine Keep.record ?_ rfl rfl rfl rfl rfl rfl rfl rfl rfl; first | assumption | apply State.setF_keep | apply State.portActive_keep | apply State.setPortDet_keep | apply State.brsFrame_keep | refine Keep.eqF (by assumption) ?_)
    | split

theorem State.rowHear_keep {s0 s : State} {p f : _} (h : Keep s0 s) :
    KeepF s0 (State.rowHear s p f) := by
  unfold State.rowHear
  repeat' first
    | ((fail_if_success (conv => arg 2; fun)); extract_lets +onlyGivenNames y; clear_value (e : y = _); refine Keep.letVar (s0 := s0) e ?_ fun _ => ?_)
    | ((fail_if_success (conv => arg 2; fun)); extract_lets +onlyGivenNames y)
    | with_reducible first | assumption | refine State.bothRow_keep ?_ (fun _ _ => ?_) | apply State.countRx_keep | apply State.rowDetect_keep
    | with_reducible (refine Keep.record ?_ rfl rfl rfl rfl rfl rfl rfl rfl rfl; first | assumption | refine State.bothRow_keep ?_ (fun _ _ => ?_) | apply State.countRx_keep | apply State.rowDetect_keep)
    | split
    | with_reducible apply Keep.mkF

theorem execRowFrameOther_keep {s0 s : State} {p frame : _} (h : Keep s0 s) :
    KeepX s0 (execRowFrameOther p frame s) := by
  unfold execRowFrameOther
  repeat' first
    | ((fail_if_success (conv => arg 2; fun)); extract_lets +onlyGivenNames y)
    | with_reducible first | assumption | apply State.clash_keep | apply State.rowHear_keep | apply Keep.next | refine Keep.eqF (by assumption) ?_
    | with_reducible (refine Keep.record ?_ rfl rfl rfl rfl rfl rfl rfl rfl rfl; first | assumption | apply State.clash_keep | apply State.rowHear_keep | apply Keep.next | refine Keep.eqF (by assumption) ?_)
    | split

theorem execStatusReq_keep {s0 s : State} {p frame : _} (h : Keep s0 s) :
    KeepX s0 (execStatusReq p frame s) := by
  unfold execStatusReq
  repeat' first
    | ((fail_if_success (conv => arg 2; fun)); extract_lets +onlyGivenNames y)
    | with_reducible first | assumption | apply State.rowAccept_keep | apply State.rowAnswer_keep | apply State.rowHear_keep | apply Keep.next | refine Keep.eqF (by assumption) ?_
    | with_reducible (refine Keep.record ?_ rfl rfl rfl rfl rfl rfl rfl rfl rfl; first | assumption | apply State.rowAccept_keep | apply State.rowAnswer_keep | apply State.rowHear_keep | apply Keep.next | refine Keep.eqF (by assumption) ?_)
    | split

theorem State.commitRow_keep {s0 s : State} (h : Keep s0 s) :
    Keep s0 (State.commitRow s) := by
  unfold State.commitRow
  repeat' first
    | ((fail_if_success (conv => arg 2; fun)); extract_lets +onlyGivenNames y; clear_value (e : y = _); refine Keep.letVar (s0 := s0) e ?_ fun _ => ?_)
    | ((fail_if_success (conv => arg 2; fun)); extract_lets +onlyGivenNames y)
    | with_reducible first | assumption | apply State.setF_keep | apply State.commitRange_keep | apply State.portRestart_keep | refine State.bothRow_keep ?_ (fun _ _ => ?_) | refine Keep.foldl ?_ fun _ _ _ => ?_
    | split

theorem execRowCommit_keep {s0 s : State} (h : Keep s0 s) :
    KeepX s0 (execRowCommit s) := by
  unfold execRowCommit
  repeat' first
    | with_reducible first | assumption | apply State.commitRow_keep | apply Keep.next
    | split

theorem execFrameTxDone_keep {s0 s : State} {p b : _} (h : Keep s0 s) :
    KeepX s0 (execFrameTxDone p b s) := by
  unfold execFrameTxDone
  repeat' first
    | ((fail_if_success (conv => arg 2; fun)); extract_lets +onlyGivenNames y; clear_value (e : y = _); refine Keep.letVar (s0 := s0) e ?_ fun _ => ?_)
    | ((fail_if_success (conv => arg 2; fun)); extract_lets +onlyGivenNames y)
    | with_reducible first | assumption | apply State.setF_keep | apply State.addSat_keep | apply State.setRowQueue_keep | apply State.urgentCheck_keep | apply State.errorState_keep | apply Keep.next
    | with_reducible (refine Keep.record ?_ rfl rfl rfl rfl rfl rfl rfl rfl rfl; first | assumption | apply State.setF_keep | apply State.addSat_keep | apply State.setRowQueue_keep | apply State.urgentCheck_keep | apply State.errorState_keep | apply Keep.next)
    | split

theorem execFrameTxError_keep {s0 s : State} {p b why : _} (h : Keep s0 s) :
    KeepX s0 (execFrameTxError p b why s) := by
  unfold execFrameTxError
  repeat' first
    | ((fail_if_success (conv => arg 2; fun)); extract_lets +onlyGivenNames y; clear_value (e : y = _); refine Keep.letVar (s0 := s0) e ?_ fun _ => ?_)
    | ((fail_if_success (conv => arg 2; fun)); extract_lets +onlyGivenNames y)
    | with_reducible first | assumption | apply State.setF_keep | apply State.addSat_keep | apply State.alertSet_keep | apply State.setRowQueue_keep | apply State.clash_keep | apply State.markMsgs_keep | apply State.errorState_keep | apply Keep.next
    | split

theorem execBusOffRecovery_keep {s0 s : State} {p : _} (h : Keep s0 s) :
    KeepX s0 (execBusOffRecovery p s) := by
  unfold execBusOffRecovery
  repeat' first
    | ((fail_if_success (conv => arg 2; fun)); extract_lets +onlyGivenNames y; clear_value (e : y = _); refine Keep.letVar (s0 := s0) e ?_ fun _ => ?_)
    | with_reducible first | assumption | apply State.setF_keep | apply State.portActive_keep | apply Keep.next
    | split

theorem execUrgentWaitTimeout_keep {s0 s : State} {p : _} (h : Keep s0 s) :
    KeepX s0 (execUrgentWaitTimeout p s) := by
  unfold execUrgentWaitTimeout
  repeat' first
    | with_reducible first | assumption | apply State.alertSet_keep | apply State.markMsgs_keep | apply Keep.next
    | split

theorem execRowStatusPeriodic_keep {s0 s : State} (h : Keep s0 s) :
    KeepX s0 (execRowStatusPeriodic s) := by
  unfold execRowStatusPeriodic
  repeat' first
    | with_reducible first | assumption | apply State.served_keep | apply State.sendStatus_keep | apply Keep.next
    | split

theorem State.alarmNow_keep {s0 s : State} {alarm detail : _} (h : Keep s0 s) :
    Keep s0 (State.alarmNow s alarm detail) := by
  unfold State.alarmNow
  repeat' first
    | ((fail_if_success (conv => arg 2; fun)); extract_lets +onlyGivenNames y; clear_value (e : y = _); refine Keep.letVar (s0 := s0) e ?_ fun _ => ?_)
    | ((fail_if_success (conv => arg 2; fun)); extract_lets +onlyGivenNames y)
    | with_reducible first | assumption | apply State.sendAlarm_keep | refine Keep.record ?_ rfl rfl rfl rfl rfl rfl rfl rfl rfl

theorem State.allClear_keep {s0 s : State} (h : Keep s0 s) :
    Keep s0 (State.allClear s) := by
  unfold State.allClear
  repeat' first
    | with_reducible first | assumption | apply State.alarmNow_keep
    | split

theorem execCoolantAlarmRepeat_keep {s0 s : State} (h : Keep s0 s) :
    KeepX s0 (execCoolantAlarmRepeat s) := by
  unfold execCoolantAlarmRepeat
  repeat' first
    | with_reducible first | assumption | apply State.sendAlarm_keep | apply Keep.next
    | split

theorem State.clashClear_keep {s0 s : State} {p : _} (h : Keep s0 s) :
    Keep s0 (State.clashClear s p) := by
  unfold State.clashClear
  repeat' first
    | ((fail_if_success (conv => arg 2; fun)); extract_lets +onlyGivenNames y; clear_value (e : y = _); refine Keep.letVar (s0 := s0) e ?_ fun _ => ?_)
    | ((fail_if_success (conv => arg 2; fun)); extract_lets +onlyGivenNames y)
    | with_reducible first | assumption | apply State.alertClear_keep | apply State.portActive_keep
    | with_reducible (refine Keep.record ?_ rfl rfl rfl rfl rfl rfl rfl rfl rfl; first | assumption | apply State.alertClear_keep | apply State.portActive_keep)
    | split

theorem execClashClr_keep {s0 s : State} {p : _} (h : Keep s0 s) :
    KeepX s0 (execClashClr p s) := by
  unfold execClashClr
  repeat' first
    | with_reducible first | assumption | apply State.clashClear_keep | apply Keep.next
    | split

theorem State.txbCancel_keep {s0 s : State} {p b onBus : _} (h : Keep s0 s) :
    Keep s0 (State.txbCancel s p b onBus) := by
  unfold State.txbCancel
  repeat' first
    | with_reducible first | assumption | apply State.setF_keep | apply State.setRowQueue_keep | apply State.urgentCheck_keep
    | split

theorem execTxbCancel_keep {s0 s : State} {p b onBus : _} (h : Keep s0 s) :
    KeepX s0 (execTxbCancel p b onBus s) := by
  unfold execTxbCancel
  repeat' first
    | with_reducible first | assumption | apply State.txbCancel_keep | apply Keep.next
    | split

theorem execBusIntegration_keep {s0 s : State} {p : _} (h : Keep s0 s) :
    KeepX s0 (execBusIntegration p s) := by
  unfold execBusIntegration
  repeat' first
    | with_reducible first | assumption | apply State.portActive_keep | refine State.bothRow_keep ?_ (fun _ _ => ?_) | apply Keep.next
    | split

end Sys2Proof.Machine
end

