-- ==== Sys2Proof/Laws/KeepWork.lean ====
section
/-!
SUPPORT. Clusters, gates, work rings and transfers keep what Laws/Keep.lean names.
-/

namespace Sys2Proof.Machine

set_option linter.all false

/-! ### ClusterOps -/

theorem State.setCl_keep {s0 s : State} {c k : _} (h : Keep s0 s) :
    Keep s0 (State.setCl s c k) := by
  unfold State.setCl
  repeat' with_reducible first | assumption | refine Keep.record ?_ rfl rfl rfl rfl rfl rfl rfl rfl rfl

theorem State.modCl_keep {s0 s : State} {c f : _} (h : Keep s0 s) :
    Keep s0 (State.modCl s c f) := by
  unfold State.modCl
  repeat' with_reducible first | assumption | apply State.setCl_keep

theorem State.modDie_keep {s0 s : State} {n f : _} (h : Keep s0 s) :
    Keep s0 (State.modDie s n f) := by
  unfold State.modDie
  repeat' with_reducible first | assumption | refine Keep.record ?_ rfl rfl rfl rfl rfl rfl rfl rfl rfl

theorem State.modRing_keep {s0 s : State} {r f : _} (h : Keep s0 s) :
    Keep s0 (State.modRing s r f) := by
  unfold State.modRing
  repeat' with_reducible first | assumption | refine Keep.record ?_ rfl rfl rfl rfl rfl rfl rfl rfl rfl

theorem State.putStore_keep {s0 s : State} {c a data : _} (h : Keep s0 s) :
    Keep s0 (State.putStore s c a data) := by
  unfold State.putStore
  repeat' with_reducible first | assumption | apply State.modCl_keep

theorem State.storeCe_keep {s0 s : State} {c a : _} (h : Keep s0 s) :
    Keep s0 (State.storeCe s c a) := by
  unfold State.storeCe
  repeat' with_reducible first | assumption | apply State.setF_keep | apply State.addSat_keep

theorem State.storeEcc_keep {s0 s : State} {c ecc : _} (h : Keep s0 s) :
    KeepF s0 (State.storeEcc s c ecc) := by
  unfold State.storeEcc
  repeat' first
    | with_reducible first | assumption | apply State.storeCe_keep | refine Keep.foldl ?_ fun _ _ _ => ?_
    | split
    | with_reducible apply Keep.mkF

theorem State.storeRead_keep {s0 s : State} {c a n ecc : _} (h : Keep s0 s) :
    KeepF s0 (State.storeRead s c a n ecc) := by
  unfold State.storeRead
  repeat' first
    | ((fail_if_success (conv => arg 2; fun)); extract_lets +onlyGivenNames y)
    | with_reducible first | assumption | apply State.storeEcc_keep | refine Keep.eqF (by assumption) ?_
    | with_reducible (refine Keep.record ?_ rfl rfl rfl rfl rfl rfl rfl rfl rfl; first | assumption | apply State.storeEcc_keep | refine Keep.eqF (by assumption) ?_)
    | split
    | with_reducible apply Keep.mkF

theorem State.loseStore_keep {s0 s : State} {c : _} (h : Keep s0 s) :
    Keep s0 (State.loseStore s c) := by
  unfold State.loseStore
  repeat' with_reducible first | assumption | apply State.modCl_keep

theorem State.setSreg_keep {s0 s : State} {c r v : _} (h : Keep s0 s) :
    Keep s0 (State.setSreg s c r v) := by
  unfold State.setSreg
  repeat' with_reducible first | assumption | apply State.modCl_keep

theorem State.setPc_keep {s0 s : State} {c pc : _} (h : Keep s0 s) :
    Keep s0 (State.setPc s c pc) := by
  unfold State.setPc
  repeat' with_reducible first | assumption | apply State.modCl_keep

theorem State.nextPc_keep {s0 s : State} {c : _} (h : Keep s0 s) :
    Keep s0 (State.nextPc s c) := by
  unfold State.nextPc
  repeat' with_reducible first | assumption | apply State.setPc_keep

theorem State.returnReserve_keep {s0 s : State} {c : _} (h : Keep s0 s) :
    Keep s0 (State.returnReserve s c) := by
  unfold State.returnReserve
  repeat' first
    | ((fail_if_success (conv => arg 2; fun)); extract_lets +onlyGivenNames y)
    | with_reducible first | assumption | apply State.modCl_keep | apply State.modDie_keep

theorem State.steep_keep {s0 s : State} {c cause w : _} (h : Keep s0 s) :
    Keep s0 (State.steep s c cause w) := by
  unfold State.steep
  repeat' with_reducible first | assumption | apply State.setF_keep | apply State.modCl_keep

theorem State.wake_keep {s0 s : State} {c : _} (h : Keep s0 s) :
    Keep s0 (State.wake s c) := by
  unfold State.wake
  repeat' with_reducible first | assumption | apply State.setF_keep | apply State.modCl_keep

theorem State.wakeWith_keep {s0 s : State} {c dst v : _} (h : Keep s0 s) :
    Keep s0 (State.wakeWith s c dst v) := by
  unfold State.wakeWith
  repeat' with_reducible first | assumption | apply State.setSreg_keep | apply State.wake_keep

theorem State.issue_keep {s0 s : State} {c f : _} (h : Keep s0 s) (hf : ∀ t w1, Keep s0 t → Keep s0 (f t w1)) :
    Keep s0 (State.issue s c f) := by
  unfold State.issue
  repeat' first
    | with_reducible first | assumption | apply State.steep_keep | apply hf
    | split

theorem State.closeGate_keep {s0 s : State} {c keepStore : _} (h : Keep s0 s) :
    Keep s0 (State.closeGate s c keepStore) := by
  unfold State.closeGate
  repeat' first
    | ((fail_if_success (conv => arg 2; fun)); extract_lets +onlyGivenNames y; clear_value (e : y = _); refine Keep.letVar (s0 := s0) e ?_ fun _ => ?_)
    | with_reducible first | assumption | apply State.setF_keep | apply State.modCl_keep | apply State.returnReserve_keep | apply State.clearClu_keep

theorem State.leaveSlice_keep {s0 s : State} {c : _} (h : Keep s0 s) :
    Keep s0 (State.leaveSlice s c) := by
  unfold State.leaveSlice
  repeat' first
    | ((fail_if_success (conv => arg 2; fun)); extract_lets +onlyGivenNames y; clear_value (e : y = _); refine Keep.letVar (s0 := s0) e ?_ fun _ => ?_)
    | with_reducible first | assumption | apply State.modCl_keep | apply State.closeGate_keep
    | split

theorem State.stopSlices_keep {s0 s : State} {p : _} (h : Keep s0 s) :
    Keep s0 (State.stopSlices s p) := by
  unfold State.stopSlices
  repeat' first
    | ((fail_if_success (conv => arg 2; fun)); extract_lets +onlyGivenNames y; clear_value (e : y = _); refine Keep.letVar (s0 := s0) e ?_ fun _ => ?_)
    | ((fail_if_success (conv => arg 2; fun)); extract_lets +onlyGivenNames y)
    | with_reducible first | assumption | apply State.leaveSlice_keep | refine Keep.foldl ?_ fun _ _ _ => ?_ | refine Keep.record ?_ rfl rfl rfl rfl rfl rfl rfl rfl rfl

/-! ### GateOps -/

theorem State.setQueue_keep {s0 s : State} {g q : _} (h : Keep s0 s) :
    Keep s0 (State.setQueue s g q) := by
  unfold State.setQueue
  repeat' with_reducible first | assumption | refine Keep.record ?_ rfl rfl rfl rfl rfl rfl rfl rfl rfl

theorem State.setCount_keep {s0 s : State} {g n : _} (h : Keep s0 s) :
    Keep s0 (State.setCount s g n) := by
  unfold State.setCount
  repeat' with_reducible first | assumption | apply State.setF_keep

theorem State.gateErr_keep {s0 s : State} {fld g module : _} (h : Keep s0 s) :
    Keep s0 (State.gateErr s fld g module) := by
  unfold State.gateErr
  repeat' with_reducible first | assumption | apply State.setF_keep

theorem State.serveList_keep {s0 s : State} {g z2 : _} (h : Keep s0 s) :
    Keep s0 (State.serveList s g z2) := by
  induction z2 generalizing s g with
  | nil =>
    unfold State.serveList
    repeat' first
      | ((fail_if_success (conv => arg 2; fun)); extract_lets +onlyGivenNames y; clear_value (e : y = _); refine Keep.letVar (s0 := s0) e ?_ fun _ => ?_)
      | with_reducible first | assumption | apply State.wakeWith_keep | apply State.setQueue_keep | apply State.setCount_keep | apply ih
      | split
  | cons hd tl ih =>
    unfold State.serveList
    repeat' first
      | ((fail_if_success (conv => arg 2; fun)); extract_lets +onlyGivenNames y; clear_value (e : y = _); refine Keep.letVar (s0 := s0) e ?_ fun _ => ?_)
      | with_reducible first | assumption | apply State.wakeWith_keep | apply State.setQueue_keep | apply State.setCount_keep | apply ih
      | split

theorem State.serveGate_keep {s0 s : State} {g : _} (h : Keep s0 s) :
    Keep s0 (State.serveGate s g) := by
  unfold State.serveGate
  repeat' with_reducible first | assumption | apply State.serveList_keep

theorem State.addCount_keep {s0 s : State} {g inc : _} (h : Keep s0 s) :
    Keep s0 (State.addCount s g inc) := by
  unfold State.addCount
  repeat' first
    | with_reducible first | assumption | apply State.setF_keep | apply State.setCount_keep
    | split

theorem State.gateSignal_keep {s0 s : State} {g inc : _} (h : Keep s0 s) :
    KeepF s0 (State.gateSignal s g inc) := by
  unfold State.gateSignal
  repeat' first
    | ((fail_if_success (conv => arg 2; fun)); extract_lets +onlyGivenNames y; clear_value (e : y = _); refine Keep.letVar (s0 := s0) e ?_ fun _ => ?_)
    | with_reducible first | assumption | apply State.gateErr_keep | apply State.serveGate_keep | apply State.addCount_keep
    | split
    | with_reducible apply Keep.mkF

theorem State.signalOne_keep {s0 s : State} {g : _} (h : Keep s0 s) :
    Keep s0 (State.signalOne s g) := by
  unfold State.signalOne
  repeat' with_reducible first | assumption | refine Keep.ofF (State.gateSignal_keep ?_)

theorem State.setSlot_keep {s0 s : State} {c x : _} (h : Keep s0 s) :
    Keep s0 (State.setSlot s c x) := by
  unfold State.setSlot
  repeat' with_reducible first | assumption | apply State.modCl_keep

theorem State.countArrival_keep {s0 s : State} {c g dst thenWait : _} (h : Keep s0 s) :
    Keep s0 (State.countArrival s c g dst thenWait) := by
  unfold State.countArrival
  repeat' first
    | ((fail_if_success (conv => arg 2; fun)); extract_lets +onlyGivenNames y; clear_value (e : y = _); refine Keep.letVar (s0 := s0) e ?_ fun _ => ?_)
    | ((fail_if_success (conv => arg 2; fun)); extract_lets +onlyGivenNames y)
    | with_reducible first | assumption | apply State.addWrap_keep | apply State.steep_keep | apply State.wakeWith_keep | apply State.setCount_keep | apply State.setSlot_keep
    | split

theorem State.portFlip_keep {s0 s : State} {g c : _} (h : Keep s0 s) :
    Keep s0 (State.portFlip s g c) := by
  unfold State.portFlip
  repeat' first
    | ((fail_if_success (conv => arg 2; fun)); extract_lets +onlyGivenNames y; clear_value (e : y = _); refine Keep.letVar (s0 := s0) e ?_ fun _ => ?_)
    | with_reducible first | assumption | apply State.steep_keep | apply State.wakeWith_keep | apply State.setSlot_keep
    | split

theorem State.flipGate_keep {s0 s : State} {g : _} (h : Keep s0 s) :
    Keep s0 (State.flipGate s g) := by
  unfold State.flipGate
  repeat' first
    | ((fail_if_success (conv => arg 2; fun)); extract_lets +onlyGivenNames y; clear_value (e : y = _); refine Keep.letVar (s0 := s0) e ?_ fun _ => ?_)
    | with_reducible first | assumption | apply State.setF_keep | apply State.setFlag_keep | apply State.setCount_keep | apply State.portFlip_keep | refine Keep.foldl ?_ fun _ _ _ => ?_
    | with_reducible (refine Keep.record ?_ rfl rfl rfl rfl rfl rfl rfl rfl rfl; first | assumption | apply State.setF_keep | apply State.setFlag_keep | apply State.setCount_keep | apply State.portFlip_keep | refine Keep.foldl ?_ fun _ _ _ => ?_)
    | split

theorem State.barrierRun_keep {s0 s : State} {z0 z2 : _} (h : Keep s0 s) :
    Keep s0 (State.barrierRun z0 s z2) := by
  induction z0 generalizing s z2 with
  | zero =>
    unfold State.barrierRun
    exact h
  | succ n ih =>
    cases z2 with
    | nil =>
      unfold State.barrierRun
      exact h
    | cons x t =>
      cases x with
      | arrive c g d w =>
        unfold State.barrierRun
        dsimp only
        split
        · exact ih (State.steep_keep h)
        · exact ih (State.countArrival_keep h)
      | flip g =>
        unfold State.barrierRun
        exact ih (State.flipGate_keep h)

theorem State.barrier_keep {s0 s : State} {op : _} (h : Keep s0 s) :
    Keep s0 (State.barrier s op) := by
  unfold State.barrier
  repeat' with_reducible first | assumption | apply State.barrierRun_keep

theorem State.resetPort_keep {s0 s : State} {g st c : _} (h : Keep s0 s) :
    Keep s0 (State.resetPort s g st c) := by
  unfold State.resetPort
  repeat' first
    | ((fail_if_success (conv => arg 2; fun)); extract_lets +onlyGivenNames y; clear_value (e : y = _); refine Keep.letVar (s0 := s0) e ?_ fun _ => ?_)
    | with_reducible first | assumption | apply State.modCl_keep | apply State.wakeWith_keep
    | split

theorem State.resetGate_keep {s0 s : State} {g st : _} (h : Keep s0 s) :
    Keep s0 (State.resetGate s g st) := by
  unfold State.resetGate
  repeat' first
    | ((fail_if_success (conv => arg 2; fun)); extract_lets +onlyGivenNames y; clear_value (e : y = _); refine Keep.letVar (s0 := s0) e ?_ fun _ => ?_)
    | ((fail_if_success (conv => arg 2; fun)); extract_lets +onlyGivenNames y)
    | with_reducible first | assumption | apply State.setF_keep | apply State.setQueue_keep | apply State.setCount_keep | apply State.barrierRun_keep | apply State.resetPort_keep | refine Keep.foldl ?_ fun _ _ _ => ?_ | refine Keep.record ?_ rfl rfl rfl rfl rfl rfl rfl rfl rfl

/-! ### StopOps -/

theorem State.returnToken_keep {s0 s : State} {t1 : _} (h : Keep s0 s) :
    Keep s0 (State.returnToken s t1) := by
  unfold State.returnToken
  repeat' with_reducible first | assumption | apply State.modRing_keep

theorem State.commitPost_keep {s0 s : State} {r n failed : _} (h : Keep s0 s) :
    Keep s0 (State.commitPost s r n failed) := by
  unfold State.commitPost
  repeat' with_reducible first | assumption | apply State.modRing_keep

theorem State.complete_keep {s0 s : State} {c t2 status abort : _} (h : Keep s0 s) :
    Keep s0 (State.complete s c t2 status abort) := by
  unfold State.complete
  repeat' first
    | ((fail_if_success (conv => arg 2; fun)); extract_lets +onlyGivenNames y)
    | with_reducible first | assumption | refine Keep.record ?_ rfl rfl rfl rfl rfl rfl rfl rfl rfl

theorem State.endCurrent_keep {s0 s : State} {c status : _} (h : Keep s0 s) :
    Keep s0 (State.endCurrent s c status) := by
  unfold State.endCurrent
  repeat' first
    | with_reducible first | assumption | apply State.modCl_keep | apply State.complete_keep
    | split

theorem State.leaveWaits_keep {s0 s : State} {c : _} (h : Keep s0 s) :
    Keep s0 (State.leaveWaits s c) := by
  unfold State.leaveWaits
  repeat' first
    | ((fail_if_success (conv => arg 2; fun)); extract_lets +onlyGivenNames y; clear_value (e : y = _); refine Keep.letVar (s0 := s0) e ?_ fun _ => ?_)
    | ((fail_if_success (conv => arg 2; fun)); extract_lets +onlyGivenNames y; clear_value y)
    | with_reducible first | assumption | apply State.modCl_keep | apply State.wake_keep | apply State.setQueue_keep | apply State.serveGate_keep
    | with_reducible (refine Keep.record ?_ rfl rfl rfl rfl rfl rfl rfl rfl rfl; first | assumption | apply State.modCl_keep | apply State.wake_keep | apply State.setQueue_keep | apply State.serveGate_keep)
    | split

theorem State.countUe_keep {s0 s : State} {c f : _} (h : Keep s0 s) :
    Keep s0 (State.countUe s c f) := by
  unfold State.countUe
  repeat' first
    | with_reducible first | assumption | apply State.modCl_keep
    | split

theorem State.faultStop_keep {s0 s : State} {c f : _} (h : Keep s0 s) :
    Keep s0 (State.faultStop s c f) := by
  unfold State.faultStop
  repeat' first
    | ((fail_if_success (conv => arg 2; fun)); extract_lets +onlyGivenNames y; clear_value (e : y = _); refine Keep.letVar (s0 := s0) e ?_ fun _ => ?_)
    | with_reducible first | assumption | apply State.setF_keep | apply State.returnReserve_keep | apply State.stopSlices_keep | apply State.endCurrent_keep | apply State.leaveWaits_keep | apply State.countUe_keep

theorem State.abortCluster_keep {s0 s : State} {c status : _} (h : Keep s0 s) :
    Keep s0 (State.abortCluster s c status) := by
  unfold State.abortCluster
  repeat' first
    | ((fail_if_success (conv => arg 2; fun)); extract_lets +onlyGivenNames y; clear_value (e : y = _); refine Keep.letVar (s0 := s0) e ?_ fun _ => ?_)
    | ((fail_if_success (conv => arg 2; fun)); extract_lets +onlyGivenNames y)
    | with_reducible first | assumption | refine Keep.ofG (State.fresh_keep ?_) | apply State.modCl_keep | apply State.commitPost_keep | apply State.endCurrent_keep | apply State.leaveWaits_keep | refine Keep.foldl ?_ fun _ _ _ => ?_

/-! ### WiqOps -/

theorem State.ringEvent_keep {s0 s : State} {r : _} (h : Keep s0 s) :
    Keep s0 (State.ringEvent s r) := by
  unfold State.ringEvent
  repeat' first
    | ((fail_if_success (conv => arg 2; fun)); extract_lets +onlyGivenNames y; clear_value (e : y = _); refine Keep.letVar (s0 := s0) e ?_ fun _ => ?_)
    | with_reducible first | assumption | apply State.setBit_keep | apply State.post_keep

theorem State.markDone_keep {s0 s : State} {r seq : _} (h : Keep s0 s) :
    Keep s0 (State.markDone s r seq) := by
  unfold State.markDone
  repeat' first
    | ((fail_if_success (conv => arg 2; fun)); extract_lets +onlyGivenNames y; clear_value (e : y = _); refine Keep.letVar (s0 := s0) e ?_ fun _ => ?_)
    | ((fail_if_success (conv => arg 2; fun)); extract_lets +onlyGivenNames y)
    | with_reducible first | assumption | apply State.setF_keep | apply State.addWrap_keep | apply State.modRing_keep

theorem State.writeRecord_keep {s0 s : State} {r seq status cluster tag irq gate : _} (h : Keep s0 s) :
    Keep s0 (State.writeRecord s r seq status cluster tag irq gate) := by
  unfold State.writeRecord
  repeat' first
    | ((fail_if_success (conv => arg 2; fun)); extract_lets +onlyGivenNames y; clear_value (e : y = _); refine Keep.letVar (s0 := s0) e ?_ fun _ => ?_)
    | ((fail_if_success (conv => arg 2; fun)); extract_lets +onlyGivenNames y)
    | with_reducible first | assumption | apply State.setBit_keep | apply State.raiseIrq_keep | apply State.hostWrite_keep | refine Keep.ofF (State.memWrite_keep ?_) | apply State.signalOne_keep | apply State.markDone_keep
    | split

theorem State.writeErrorRecord_keep {s0 s : State} {r seq : _} (h : Keep s0 s) :
    Keep s0 (State.writeErrorRecord s r seq) := by
  unfold State.writeErrorRecord
  repeat' with_reducible first | assumption | refine Keep.ofG (State.fresh_keep ?_) | apply State.writeRecord_keep

theorem State.writeUnheld_keep {s0 s : State} {r seq status : _} (h : Keep s0 s) :
    Keep s0 (State.writeUnheld s r seq status) := by
  unfold State.writeUnheld
  repeat' first
    | ((fail_if_success (conv => arg 2; fun)); extract_lets +onlyGivenNames y; clear_value (e : y = _); refine Keep.letF (s0 := s0) e ?_ fun _ => ?_)
    | ((fail_if_success (conv => arg 2; fun)); extract_lets +onlyGivenNames y; clear_value (e : y = _); refine Keep.letG (s0 := s0) e ?_ fun _ => ?_)
    | ((fail_if_success (conv => arg 2; fun)); extract_lets +onlyGivenNames y)
    | with_reducible first | assumption | apply State.fresh_keep | apply State.memRead_keep | apply State.writeRecord_keep | exact Keep.ofF (by assumption) | exact Keep.ofG (by assumption)
    | split

theorem State.passNext_keep {s0 s : State} {r : _} (h : Keep s0 s) :
    Keep s0 (State.passNext s r) := by
  unfold State.passNext
  repeat' first
    | ((fail_if_success (conv => arg 2; fun)); extract_lets +onlyGivenNames y)
    | with_reducible first | assumption | apply State.addWrap_keep | apply State.modRing_keep
    | split

theorem State.passUnread_keep {s0 s : State} {r n : _} (h : Keep s0 s) :
    KeepO s0 (State.passUnread s r n) := by
  unfold State.passUnread
  repeat' first
    | with_reducible first | assumption | apply State.modRing_keep | apply State.writeErrorRecord_keep | apply State.passNext_keep | apply Keep.someO | apply Keep.noneO
    | split

theorem State.handOut_keep {s0 s : State} {z0 z2 z3 : _} (h : Keep s0 s) :
    KeepF s0 (State.handOut z0 s z2 z3) := by
  induction z0 generalizing s z2 z3 with
  | zero =>
    unfold State.handOut
    repeat' first
      | ((fail_if_success (conv => arg 2; fun)); extract_lets +onlyGivenNames y; clear_value (e : y = _); refine Keep.letF (s0 := s0) e ?_ fun _ => ?_)
      | ((fail_if_success (conv => arg 2; fun)); extract_lets +onlyGivenNames y)
      | with_reducible first | assumption | apply State.memRead_keep | apply State.writeRecord_keep | apply State.writeErrorRecord_keep | apply State.passNext_keep | apply State.passUnread_keep | exact Keep.ofF (by assumption) | apply ih | refine Keep.eqO (by assumption) ?_
      | with_reducible (refine Keep.record ?_ rfl rfl rfl rfl rfl rfl rfl rfl rfl; first | assumption | apply State.memRead_keep | apply State.writeRecord_keep | apply State.writeErrorRecord_keep | apply State.passNext_keep | apply State.passUnread_keep | exact Keep.ofF (by assumption) | apply ih | refine Keep.eqO (by assumption) ?_)
      | split
      | with_reducible apply Keep.mkF
  | succ n ih =>
    unfold State.handOut
    repeat' first
      | ((fail_if_success (conv => arg 2; fun)); extract_lets +onlyGivenNames y; clear_value (e : y = _); refine Keep.letF (s0 := s0) e ?_ fun _ => ?_)
      | ((fail_if_success (conv => arg 2; fun)); extract_lets +onlyGivenNames y)
      | with_reducible first | assumption | apply State.memRead_keep | apply State.writeRecord_keep | apply State.writeErrorRecord_keep | apply State.passNext_keep | apply State.passUnread_keep | exact Keep.ofF (by assumption) | apply ih | refine Keep.eqO (by assumption) ?_
      | with_reducible (refine Keep.record ?_ rfl rfl rfl rfl rfl rfl rfl rfl rfl; first | assumption | apply State.memRead_keep | apply State.writeRecord_keep | apply State.writeErrorRecord_keep | apply State.passNext_keep | apply State.passUnread_keep | exact Keep.ofF (by assumption) | apply ih | refine Keep.eqO (by assumption) ?_)
      | split
      | with_reducible apply Keep.mkF

theorem State.nextDescriptor_keep {s0 s : State} {r ecc : _} (h : Keep s0 s) :
    KeepF s0 (State.nextDescriptor s r ecc) := by
  unfold State.nextDescriptor
  repeat' with_reducible first | assumption | apply State.handOut_keep

theorem State.deliver_keep {s0 s : State} {c r dst landing h5 : _} (h : Keep s0 s) :
    Keep s0 (State.deliver s c r dst landing h5) := by
  unfold State.deliver
  repeat' first
    | ((fail_if_success (conv => arg 2; fun)); extract_lets +onlyGivenNames y; clear_value (e : y = _); refine Keep.letVar (s0 := s0) e ?_ fun _ => ?_)
    | ((fail_if_success (conv => arg 2; fun)); extract_lets +onlyGivenNames y)
    | with_reducible first | assumption | apply State.modCl_keep | apply State.putStore_keep | apply State.wakeWith_keep

theorem State.claimEmpty_keep {s0 s : State} {c r dst landing limit denied : _} (h : Keep s0 s) :
    Keep s0 (State.claimEmpty s c r dst landing limit denied) := by
  unfold State.claimEmpty
  repeat' with_reducible first | assumption | refine Keep.ofG (State.fresh_keep ?_) | refine Keep.ofG (State.freshBytes_keep ?_) | apply State.putStore_keep | apply State.wakeWith_keep

theorem State.releaseClaims_keep {s0 s : State} {r : _} (h : Keep s0 s) :
    Keep s0 (State.releaseClaims s r) := by
  unfold State.releaseClaims
  repeat' first
    | ((fail_if_success (conv => arg 2; fun)); extract_lets +onlyGivenNames y; clear_value (e : y = _); refine Keep.letVar (s0 := s0) e ?_ fun _ => ?_)
    | ((fail_if_success (conv => arg 2; fun)); extract_lets +onlyGivenNames y)
    | with_reducible first | assumption | apply State.modRing_keep | apply State.claimEmpty_keep | refine Keep.foldl ?_ fun _ _ _ => ?_

theorem State.claimStop_keep {s0 s : State} (h : Keep s0 s) :
    Keep s0 (State.claimStop s) := by
  unfold State.claimStop
  repeat' first
    | ((fail_if_success (conv => arg 2; fun)); extract_lets +onlyGivenNames y; clear_value (e : y = _); refine Keep.letVar (s0 := s0) e ?_ fun _ => ?_)
    | with_reducible first | assumption | apply State.setF_keep | apply State.releaseClaims_keep | refine Keep.foldl ?_ fun _ _ _ => ?_

theorem State.cancelCheck_keep {s0 s : State} {r : _} (h : Keep s0 s) :
    Keep s0 (State.cancelCheck s r) := by
  unfold State.cancelCheck
  repeat' first
    | ((fail_if_success (conv => arg 2; fun)); extract_lets +onlyGivenNames y; clear_value (e : y = _); refine Keep.letVar (s0 := s0) e ?_ fun _ => ?_)
    | with_reducible first | assumption | apply State.setF_keep | apply State.ringEvent_keep
    | split

theorem State.settleFailed_keep {s0 s : State} {r : _} (h : Keep s0 s) :
    Keep s0 (State.settleFailed s r) := by
  unfold State.settleFailed
  repeat' first
    | ((fail_if_success (conv => arg 2; fun)); extract_lets +onlyGivenNames y)
    | with_reducible first | assumption | apply State.modRing_keep | apply State.writeErrorRecord_keep | refine Keep.foldl ?_ fun _ _ _ => ?_

theorem State.reservePost_keep {s0 s : State} {r : _} (h : Keep s0 s) :
    KeepP s0 (State.reservePost s r) := by
  unfold State.reservePost
  repeat' first
    | ((fail_if_success (conv => arg 2; fun)); extract_lets +onlyGivenNames y)
    | with_reducible first | assumption | apply State.modRing_keep | apply Keep.someP | apply Keep.noneP
    | split

/-! ### DmaOps -/

theorem State.acceptDma_keep {s0 s : State} {c a ecc : _} (h : Keep s0 s) :
    Keep s0 (State.acceptDma s c a ecc) := by
  unfold State.acceptDma
  repeat' first
    | ((fail_if_success (conv => arg 2; fun)); extract_lets +onlyGivenNames y)
    | with_reducible first | assumption | apply State.modCl_keep | apply State.putStore_keep | apply State.storeRead_keep | apply State.faultStop_keep | apply State.reservePost_keep | refine Keep.eqF (by assumption) ?_ | refine Keep.eqP (by assumption) ?_
    | with_reducible (refine Keep.record ?_ rfl rfl rfl rfl rfl rfl rfl rfl rfl; first | assumption | apply State.modCl_keep | apply State.putStore_keep | apply State.storeRead_keep | apply State.faultStop_keep | apply State.reservePost_keep | refine Keep.eqF (by assumption) ?_ | refine Keep.eqP (by assumption) ?_)
    | split

theorem State.countGroup_keep {s0 s : State} {pa bad sat : _} (h : Keep s0 s) :
    Keep s0 (State.countGroup s pa bad sat) := by
  unfold State.countGroup
  repeat' first
    | ((fail_if_success (conv => arg 2; fun)); extract_lets +onlyGivenNames y; clear_value (e : y = _); refine Keep.letVar (s0 := s0) e ?_ fun _ => ?_)
    | ((fail_if_success (conv => arg 2; fun)); extract_lets +onlyGivenNames y)
    | with_reducible first | assumption | apply State.addSat_keep | apply State.add64_keep

theorem State.millRun_keep {s0 s : State} {z0 z2 z3 z4 z5 : _} (h : Keep s0 s) :
    KeepF s0 (State.millRun z0 s z2 z3 z4 z5) := by
  induction z0 generalizing s z2 z3 z4 z5 with
  | zero =>
    unfold State.millRun
    repeat' first
      | ((fail_if_success (conv => arg 2; fun)); extract_lets +onlyGivenNames y; clear_value (e : y = _); refine Keep.letVar (s0 := s0) e ?_ fun _ => ?_)
      | ((fail_if_success (conv => arg 2; fun)); extract_lets +onlyGivenNames y)
      | with_reducible first | assumption | apply State.countGroup_keep | apply ih | refine Keep.eqF (by assumption) ?_
      | with_reducible (refine Keep.record ?_ rfl rfl rfl rfl rfl rfl rfl rfl rfl; first | assumption | apply State.countGroup_keep | apply ih | refine Keep.eqF (by assumption) ?_)
      | split
      | with_reducible apply Keep.mkF
  | succ n ih =>
    unfold State.millRun
    repeat' first
      | ((fail_if_success (conv => arg 2; fun)); extract_lets +onlyGivenNames y; clear_value (e : y = _); refine Keep.letVar (s0 := s0) e ?_ fun _ => ?_)
      | ((fail_if_success (conv => arg 2; fun)); extract_lets +onlyGivenNames y)
      | with_reducible first | assumption | apply State.countGroup_keep | apply ih | refine Keep.eqF (by assumption) ?_
      | with_reducible (refine Keep.record ?_ rfl rfl rfl rfl rfl rfl rfl rfl rfl; first | assumption | apply State.countGroup_keep | apply ih | refine Keep.eqF (by assumption) ?_)
      | split
      | with_reducible apply Keep.mkF

theorem State.takeChan_keep {s0 s : State} {c got key : _} (h : Keep s0 s) :
    KeepF s0 (State.takeChan s c got key) := by
  unfold State.takeChan
  repeat' first
    | ((fail_if_success (conv => arg 2; fun)); extract_lets +onlyGivenNames y)
    | with_reducible first | assumption | apply State.modCl_keep
    | with_reducible (refine Keep.record ?_ rfl rfl rfl rfl rfl rfl rfl rfl rfl; first | assumption | apply State.modCl_keep)
    | split
    | with_reducible apply Keep.mkF

theorem State.takeChans_keep {s0 s : State} {c z2 z3 : _} (h : Keep s0 s) :
    KeepF s0 (State.takeChans s c z2 z3) := by
  induction z2 generalizing s c z3 with
  | nil =>
    unfold State.takeChans
    repeat' first
      | ((fail_if_success (conv => arg 2; fun)); extract_lets +onlyGivenNames y)
      | with_reducible first | assumption | apply State.modCl_keep | apply State.takeChan_keep | apply ih | refine Keep.eqF (by assumption) ?_
      | with_reducible (refine Keep.record ?_ rfl rfl rfl rfl rfl rfl rfl rfl rfl; first | assumption | apply State.modCl_keep | apply State.takeChan_keep | apply ih | refine Keep.eqF (by assumption) ?_)
      | split
      | with_reducible apply Keep.mkF
  | cons hd tl ih =>
    unfold State.takeChans
    repeat' first
      | ((fail_if_success (conv => arg 2; fun)); extract_lets +onlyGivenNames y)
      | with_reducible first | assumption | apply State.modCl_keep | apply State.takeChan_keep | apply ih | refine Keep.eqF (by assumption) ?_
      | with_reducible (refine Keep.record ?_ rfl rfl rfl rfl rfl rfl rfl rfl rfl; first | assumption | apply State.modCl_keep | apply State.takeChan_keep | apply ih | refine Keep.eqF (by assumption) ?_)
      | split
      | with_reducible apply Keep.mkF

theorem State.grantChan_keep {s0 s : State} {key z2 : _} (h : Keep s0 s) :
    Keep s0 (State.grantChan s key z2) := by
  induction z2 generalizing s key with
  | nil =>
    unfold State.grantChan
    repeat' first
      | ((fail_if_success (conv => arg 2; fun)); extract_lets +onlyGivenNames y; clear_value (e : y = _); refine Keep.letVar (s0 := s0) e ?_ fun _ => ?_)
      | ((fail_if_success (conv => arg 2; fun)); extract_lets +onlyGivenNames y)
      | with_reducible first | assumption | apply State.modCl_keep | apply ih
      | with_reducible (refine Keep.record ?_ rfl rfl rfl rfl rfl rfl rfl rfl rfl; first | assumption | apply State.modCl_keep | apply ih)
      | split
  | cons hd tl ih =>
    unfold State.grantChan
    repeat' first
      | ((fail_if_success (conv => arg 2; fun)); extract_lets +onlyGivenNames y; clear_value (e : y = _); refine Keep.letVar (s0 := s0) e ?_ fun _ => ?_)
      | ((fail_if_success (conv => arg 2; fun)); extract_lets +onlyGivenNames y)
      | with_reducible first | assumption | apply State.modCl_keep | apply ih
      | with_reducible (refine Keep.record ?_ rfl rfl rfl rfl rfl rfl rfl rfl rfl; first | assumption | apply State.modCl_keep | apply ih)
      | split

theorem State.returnChan_keep {s0 s : State} {key : _} (h : Keep s0 s) :
    Keep s0 (State.returnChan s key) := by
  unfold State.returnChan
  repeat' with_reducible first | assumption | apply State.grantChan_keep

theorem State.returnChans_keep {s0 s : State} {l : _} (h : Keep s0 s) :
    Keep s0 (State.returnChans s l) := by
  unfold State.returnChans
  repeat' with_reducible first | assumption | apply State.returnChan_keep | refine Keep.foldl ?_ fun _ _ _ => ?_

theorem State.takeLink_keep {s0 s : State} {c port : _} (h : Keep s0 s) :
    KeepF s0 (State.takeLink s c port) := by
  unfold State.takeLink
  repeat' first
    | ((fail_if_success (conv => arg 2; fun)); extract_lets +onlyGivenNames y)
    | with_reducible first | assumption | apply State.setCredits_keep | apply State.modCl_keep
    | with_reducible (refine Keep.record ?_ rfl rfl rfl rfl rfl rfl rfl rfl rfl; first | assumption | apply State.setCredits_keep | apply State.modCl_keep)
    | split
    | with_reducible apply Keep.mkF

theorem State.grantLinks_keep {s0 s : State} {z0 z2 : _} (h : Keep s0 s) :
    Keep s0 (State.grantLinks z0 s z2) := by
  induction z0 generalizing s z2 with
  | zero =>
    unfold State.grantLinks
    repeat' first
      | ((fail_if_success (conv => arg 2; fun)); extract_lets +onlyGivenNames y; clear_value (e : y = _); refine Keep.letVar (s0 := s0) e ?_ fun _ => ?_)
      | ((fail_if_success (conv => arg 2; fun)); extract_lets +onlyGivenNames y)
      | with_reducible first | assumption | apply State.setCredits_keep | apply State.modCl_keep | apply ih
      | with_reducible (refine Keep.record ?_ rfl rfl rfl rfl rfl rfl rfl rfl rfl; first | assumption | apply State.setCredits_keep | apply State.modCl_keep | apply ih)
      | split
  | succ n ih =>
    unfold State.grantLinks
    repeat' first
      | ((fail_if_success (conv => arg 2; fun)); extract_lets +onlyGivenNames y; clear_value (e : y = _); refine Keep.letVar (s0 := s0) e ?_ fun _ => ?_)
      | ((fail_if_success (conv => arg 2; fun)); extract_lets +onlyGivenNames y)
      | with_reducible first | assumption | apply State.setCredits_keep | apply State.modCl_keep | apply ih
      | with_reducible (refine Keep.record ?_ rfl rfl rfl rfl rfl rfl rfl rfl rfl; first | assumption | apply State.setCredits_keep | apply State.modCl_keep | apply ih)
      | split

theorem State.returnLinks_keep {s0 s : State} {port n : _} (h : Keep s0 s) :
    Keep s0 (State.returnLinks s port n) := by
  unfold State.returnLinks
  repeat' first
    | ((fail_if_success (conv => arg 2; fun)); extract_lets +onlyGivenNames y; clear_value (e : y = _); refine Keep.letVar (s0 := s0) e ?_ fun _ => ?_)
    | with_reducible first | assumption | apply State.setCredits_keep | apply State.sendWaiting_keep | apply State.grantLinks_keep

theorem State.modDma_keep {s0 s : State} {c j f : _} (h : Keep s0 s) :
    Keep s0 (State.modDma s c j f) := by
  unfold State.modDma
  repeat' with_reducible first | assumption | apply State.modCl_keep

theorem State.failDma_keep {s0 s : State} {c j st : _} (h : Keep s0 s) :
    Keep s0 (State.failDma s c j st) := by
  unfold State.failDma
  repeat' first
    | ((fail_if_success (conv => arg 2; fun)); extract_lets +onlyGivenNames y; clear_value (e : y = _); refine Keep.letVar (s0 := s0) e ?_ fun _ => ?_)
    | ((fail_if_success (conv => arg 2; fun)); extract_lets +onlyGivenNames y)
    | with_reducible first | assumption | apply State.commitPost_keep | apply State.modDma_keep
    | split

theorem State.dmaWaits_keep {s0 s : State} {c j n : _} (h : Keep s0 s) :
    Keep s0 (State.dmaWaits s c j n) := by
  unfold State.dmaWaits
  repeat' first
    | ((fail_if_success (conv => arg 2; fun)); extract_lets +onlyGivenNames y; clear_value (e : y = _); refine Keep.letVar (s0 := s0) e ?_ fun _ => ?_)
    | with_reducible first | assumption | apply State.setF_keep | apply State.modDma_keep
    | split

theorem State.burstIssued_keep {s0 s : State} {c j : _} (h : Keep s0 s) :
    Keep s0 (State.burstIssued s c j) := by
  unfold State.burstIssued
  repeat' with_reducible first | assumption | apply State.modDma_keep | apply State.dmaWaits_keep

theorem State.addPiece_keep {s0 s : State} {c j p : _} (h : Keep s0 s) :
    Keep s0 (State.addPiece s c j p) := by
  unfold State.addPiece
  repeat' with_reducible first | assumption | apply State.modDma_keep

theorem State.setPiece_keep {s0 s : State} {c j i p : _} (h : Keep s0 s) :
    Keep s0 (State.setPiece s c j i p) := by
  unfold State.setPiece
  repeat' with_reducible first | assumption | apply State.modDma_keep

theorem State.dropPiece_keep {s0 s : State} {c j i : _} (h : Keep s0 s) :
    Keep s0 (State.dropPiece s c j i) := by
  unfold State.dropPiece
  repeat' with_reducible first | assumption | apply State.modDma_keep

theorem State.endPiece_keep {s0 s : State} {c j i p : _} (h : Keep s0 s) :
    Keep s0 (State.endPiece s c j i p) := by
  unfold State.endPiece
  repeat' with_reducible first | assumption | apply State.returnChans_keep | apply State.dropPiece_keep

theorem State.storeDeliver_keep {s0 s : State} {add p a data ecc : _} (h : Keep s0 s) :
    KeepF s0 (State.storeDeliver s add p a data ecc) := by
  unfold State.storeDeliver
  repeat' first
    | ((fail_if_success (conv => arg 2; fun)); extract_lets +onlyGivenNames y)
    | with_reducible first | assumption | apply State.putStore_keep | apply State.storeRead_keep | refine Keep.eqF (by assumption) ?_
    | with_reducible (refine Keep.record ?_ rfl rfl rfl rfl rfl rfl rfl rfl rfl; first | assumption | apply State.putStore_keep | apply State.storeRead_keep | refine Keep.eqF (by assumption) ?_)
    | split
    | with_reducible apply Keep.mkF

theorem State.storeLines_keep {s0 s : State} {c j add q a row ecc z8 : _} (h : Keep s0 s) :
    KeepF s0 (State.storeLines s c j add q a row ecc z8) := by
  induction z8 generalizing s c j add q a row ecc with
  | nil =>
    unfold State.storeLines
    repeat' first
      | ((fail_if_success (conv => arg 2; fun)); extract_lets +onlyGivenNames y; clear_value (e : y = _); refine Keep.letVar (s0 := s0) e ?_ fun _ => ?_)
      | ((fail_if_success (conv => arg 2; fun)); extract_lets +onlyGivenNames y)
      | with_reducible first | assumption | apply State.modDma_keep | apply State.storeDeliver_keep | apply ih | refine Keep.eqF (by assumption) ?_
      | with_reducible (refine Keep.record ?_ rfl rfl rfl rfl rfl rfl rfl rfl rfl; first | assumption | apply State.modDma_keep | apply State.storeDeliver_keep | apply ih | refine Keep.eqF (by assumption) ?_)
      | split
      | with_reducible apply Keep.mkF
  | cons hd tl ih =>
    unfold State.storeLines
    repeat' first
      | ((fail_if_success (conv => arg 2; fun)); extract_lets +onlyGivenNames y; clear_value (e : y = _); refine Keep.letVar (s0 := s0) e ?_ fun _ => ?_)
      | ((fail_if_success (conv => arg 2; fun)); extract_lets +onlyGivenNames y)
      | with_reducible first | assumption | apply State.modDma_keep | apply State.storeDeliver_keep | apply ih | refine Keep.eqF (by assumption) ?_
      | with_reducible (refine Keep.record ?_ rfl rfl rfl rfl rfl rfl rfl rfl rfl; first | assumption | apply State.modDma_keep | apply State.storeDeliver_keep | apply ih | refine Keep.eqF (by assumption) ?_)
      | split
      | with_reducible apply Keep.mkF

theorem State.pieceToMem_keep {s0 s : State} {c j i p a mecc : _} (h : Keep s0 s) :
    Keep s0 (State.pieceToMem s c j i p a mecc) := by
  unfold State.pieceToMem
  repeat' first
    | ((fail_if_success (conv => arg 2; fun)); extract_lets +onlyGivenNames y; clear_value (e : y = _); refine Keep.letVar (s0 := s0) e ?_ fun _ => ?_)
    | ((fail_if_success (conv => arg 2; fun)); extract_lets +onlyGivenNames y)
    | with_reducible first | assumption | apply State.memWrite_keep | apply State.takeChans_keep | apply State.returnChans_keep | apply State.failDma_keep | apply State.dmaWaits_keep | apply State.burstIssued_keep | apply State.setPiece_keep | apply State.dropPiece_keep | refine Keep.eqF (by assumption) ?_
    | with_reducible (refine Keep.record ?_ rfl rfl rfl rfl rfl rfl rfl rfl rfl; first | assumption | apply State.memWrite_keep | apply State.takeChans_keep | apply State.returnChans_keep | apply State.failDma_keep | apply State.dmaWaits_keep | apply State.burstIssued_keep | apply State.setPiece_keep | apply State.dropPiece_keep | refine Keep.eqF (by assumption) ?_)
    | split

theorem State.splitPiece_keep {s0 s : State} {c j i p n : _} (h : Keep s0 s) :
    Keep s0 (State.splitPiece s c j i p n) := by
  unfold State.splitPiece
  repeat' first
    | with_reducible first | assumption | apply State.modDma_keep
    | split

theorem State.pieceToPort_keep {s0 s : State} {c j i p port x typ addr : _} (h : Keep s0 s) :
    Keep s0 (State.pieceToPort s c j i p port x typ addr) := by
  unfold State.pieceToPort
  repeat' first
    | ((fail_if_success (conv => arg 2; fun)); extract_lets +onlyGivenNames y; clear_value (e : y = _); refine Keep.letVar (s0 := s0) e ?_ fun _ => ?_)
    | ((fail_if_success (conv => arg 2; fun)); extract_lets +onlyGivenNames y)
    | with_reducible first | assumption | apply State.sendPkt_keep | refine Keep.ofG (State.takeTag_keep ?_) | apply State.addReq_keep | apply State.takeLink_keep | apply State.dmaWaits_keep | apply State.burstIssued_keep | apply State.setPiece_keep | apply State.splitPiece_keep | refine Keep.eqF (by assumption) ?_
    | with_reducible (refine Keep.record ?_ rfl rfl rfl rfl rfl rfl rfl rfl rfl; first | assumption | apply State.sendPkt_keep | refine Keep.ofG (State.takeTag_keep ?_) | apply State.addReq_keep | apply State.takeLink_keep | apply State.dmaWaits_keep | apply State.burstIssued_keep | apply State.setPiece_keep | apply State.splitPiece_keep | refine Keep.eqF (by assumption) ?_)
    | split

theorem State.pieceToStore_keep {s0 s : State} {c j i d p q a ecc : _} (h : Keep s0 s) :
    Keep s0 (State.pieceToStore s c j i d p q a ecc) := by
  unfold State.pieceToStore
  repeat' first
    | ((fail_if_success (conv => arg 2; fun)); extract_lets +onlyGivenNames y; clear_value (e : y = _); refine Keep.letVar (s0 := s0) e ?_ fun _ => ?_)
    | ((fail_if_success (conv => arg 2; fun)); extract_lets +onlyGivenNames y; clear_value (e : y = _); refine Keep.letF (s0 := s0) e ?_ fun _ => ?_)
    | ((fail_if_success (conv => arg 2; fun)); extract_lets +onlyGivenNames y)
    | with_reducible first | assumption | apply State.modDma_keep | apply State.failDma_keep | apply State.burstIssued_keep | apply State.endPiece_keep | apply State.storeDeliver_keep | apply State.storeLines_keep | exact Keep.ofF (by assumption)
    | split

theorem State.writePhase_keep {s0 s : State} {c j i ecc mecc : _} (h : Keep s0 s) :
    Keep s0 (State.writePhase s c j i ecc mecc) := by
  unfold State.writePhase
  repeat' first
    | ((fail_if_success (conv => arg 2; fun)); extract_lets +onlyGivenNames y)
    | with_reducible first | assumption | apply State.failDma_keep | apply State.endPiece_keep | apply State.pieceToMem_keep | apply State.pieceToPort_keep | apply State.pieceToStore_keep
    | split

theorem State.pieceFrom_keep {s0 s : State} {c j p port x typ addr hashed : _} (h : Keep s0 s) :
    Keep s0 (State.pieceFrom s c j p port x typ addr hashed) := by
  unfold State.pieceFrom
  repeat' first
    | ((fail_if_success (conv => arg 2; fun)); extract_lets +onlyGivenNames y; clear_value (e : y = _); refine Keep.letVar (s0 := s0) e ?_ fun _ => ?_)
    | ((fail_if_success (conv => arg 2; fun)); extract_lets +onlyGivenNames y)
    | with_reducible first | assumption | apply State.sendPkt_keep | refine Keep.ofG (State.takeTag_keep ?_) | apply State.addReq_keep | apply State.takeLink_keep | apply State.dmaWaits_keep | apply State.burstIssued_keep | apply State.addPiece_keep | refine Keep.eqF (by assumption) ?_
    | with_reducible (refine Keep.record ?_ rfl rfl rfl rfl rfl rfl rfl rfl rfl; first | assumption | apply State.sendPkt_keep | refine Keep.ofG (State.takeTag_keep ?_) | apply State.addReq_keep | apply State.takeLink_keep | apply State.dmaWaits_keep | apply State.burstIssued_keep | apply State.addPiece_keep | refine Keep.eqF (by assumption) ?_)
    | split

theorem State.millRead_keep {s0 s : State} {r base p mecc : _} (h : Keep s0 s) :
    KeepF s0 (State.millRead s r base p mecc) := by
  unfold State.millRead
  repeat' first
    | ((fail_if_success (conv => arg 2; fun)); extract_lets +onlyGivenNames y)
    | with_reducible first | assumption | apply State.memRead_keep | apply State.millRun_keep | refine Keep.eqF (by assumption) ?_
    | with_reducible (refine Keep.record ?_ rfl rfl rfl rfl rfl rfl rfl rfl rfl; first | assumption | apply State.memRead_keep | apply State.millRun_keep | refine Keep.eqF (by assumption) ?_)
    | split
    | with_reducible apply Keep.mkF

theorem State.pieceFromMem_keep {s0 s : State} {c j d p a mecc : _} (h : Keep s0 s) :
    Keep s0 (State.pieceFromMem s c j d p a mecc) := by
  unfold State.pieceFromMem
  repeat' first
    | ((fail_if_success (conv => arg 2; fun)); extract_lets +onlyGivenNames y; clear_value (e : y = _); refine Keep.letVar (s0 := s0) e ?_ fun _ => ?_)
    | ((fail_if_success (conv => arg 2; fun)); extract_lets +onlyGivenNames y; clear_value (e : y = _); refine Keep.letF (s0 := s0) e ?_ fun _ => ?_)
    | ((fail_if_success (conv => arg 2; fun)); extract_lets +onlyGivenNames y)
    | with_reducible first | assumption | apply State.memRead_keep | apply State.takeChans_keep | apply State.returnChans_keep | apply State.failDma_keep | apply State.dmaWaits_keep | apply State.burstIssued_keep | apply State.addPiece_keep | apply State.millRead_keep | exact Keep.ofF (by assumption) | refine Keep.eqF (by assumption) ?_
    | with_reducible (refine Keep.record ?_ rfl rfl rfl rfl rfl rfl rfl rfl rfl; first | assumption | apply State.memRead_keep | apply State.takeChans_keep | apply State.returnChans_keep | apply State.failDma_keep | apply State.dmaWaits_keep | apply State.burstIssued_keep | apply State.addPiece_keep | apply State.millRead_keep | exact Keep.ofF (by assumption) | refine Keep.eqF (by assumption) ?_)
    | split
    | with_reducible apply Keep.mkF

theorem State.newPiece_keep {s0 s : State} {c j d ecc mecc : _} (h : Keep s0 s) :
    Keep s0 (State.newPiece s c j d ecc mecc) := by
  unfold State.newPiece
  repeat' first
    | ((fail_if_success (conv => arg 2; fun)); extract_lets +onlyGivenNames y; clear_value (e : y = _); refine Keep.letVar (s0 := s0) e ?_ fun _ => ?_)
    | ((fail_if_success (conv => arg 2; fun)); extract_lets +onlyGivenNames y; clear_value y)
    | with_reducible first | assumption | apply State.storeRead_keep | apply State.modDma_keep | apply State.failDma_keep | apply State.addPiece_keep | apply State.writePhase_keep | apply State.pieceFrom_keep | apply State.pieceFromMem_keep | refine Keep.eqF (by assumption) ?_
    | with_reducible (refine Keep.record ?_ rfl rfl rfl rfl rfl rfl rfl rfl rfl; first | assumption | apply State.storeRead_keep | apply State.modDma_keep | apply State.failDma_keep | apply State.addPiece_keep | apply State.writePhase_keep | apply State.pieceFrom_keep | apply State.pieceFromMem_keep | refine Keep.eqF (by assumption) ?_)
    | split

theorem State.startDma_keep {s0 s : State} {c j d : _} (h : Keep s0 s) :
    Keep s0 (State.startDma s c j d) := by
  unfold State.startDma
  repeat' first
    | ((fail_if_success (conv => arg 2; fun)); extract_lets +onlyGivenNames y)
    | with_reducible first | assumption | apply State.modDma_keep

theorem State.issueBurst_keep {s0 s : State} {c j ecc mecc : _} (h : Keep s0 s) :
    Keep s0 (State.issueBurst s c j ecc mecc) := by
  unfold State.issueBurst
  repeat' first
    | ((fail_if_success (conv => arg 2; fun)); extract_lets +onlyGivenNames y; clear_value (e : y = _); refine Keep.letVar (s0 := s0) e ?_ fun _ => ?_)
    | with_reducible first | assumption | apply State.writePhase_keep | apply State.newPiece_keep | apply State.startDma_keep
    | split

theorem State.pieceData_keep {s0 s : State} {c j i p data ecc : _} (h : Keep s0 s) :
    Keep s0 (State.pieceData s c j i p data ecc) := by
  unfold State.pieceData
  repeat' first
    | ((fail_if_success (conv => arg 2; fun)); extract_lets +onlyGivenNames y; clear_value (e : y = _); refine Keep.letVar (s0 := s0) e ?_ fun _ => ?_)
    | with_reducible first | assumption | apply State.modDma_keep | apply State.setPiece_keep | apply State.dropPiece_keep | apply State.writePhase_keep
    | split

theorem State.burstDone_keep {s0 s : State} {c j i ecc : _} (h : Keep s0 s) :
    Keep s0 (State.burstDone s c j i ecc) := by
  unfold State.burstDone
  repeat' first
    | ((fail_if_success (conv => arg 2; fun)); extract_lets +onlyGivenNames y; clear_value (e : y = _); refine Keep.letVar (s0 := s0) e ?_ fun _ => ?_)
    | with_reducible first | assumption | apply State.commitPost_keep | apply State.returnChans_keep | apply State.endPiece_keep | apply State.pieceData_keep
    | split

theorem State.answerTag_keep {s0 s : State} {c tag st : _} (h : Keep s0 s) :
    Keep s0 (State.answerTag s c tag st) := by
  unfold State.answerTag
  repeat' first
    | ((fail_if_success (conv => arg 2; fun)); extract_lets +onlyGivenNames y; clear_value (e : y = _); refine Keep.letVar (s0 := s0) e ?_ fun _ => ?_)
    | ((fail_if_success (conv => arg 2; fun)); extract_lets +onlyGivenNames y)
    | with_reducible first | assumption | apply State.failDma_keep | apply State.setPiece_keep | apply State.dropPiece_keep
    | split

theorem State.unitWake_keep {s0 s : State} {c : _} (h : Keep s0 s) :
    Keep s0 (State.unitWake s c) := by
  unfold State.unitWake
  repeat' first
    | ((fail_if_success (conv => arg 2; fun)); extract_lets +onlyGivenNames y)
    | with_reducible first | assumption | apply State.wake_keep
    | split

theorem State.retireDma_keep {s0 s : State} {c : _} (h : Keep s0 s) :
    Keep s0 (State.retireDma s c) := by
  unfold State.retireDma
  repeat' first
    | ((fail_if_success (conv => arg 2; fun)); extract_lets +onlyGivenNames y; clear_value (e : y = _); refine Keep.letVar (s0 := s0) e ?_ fun _ => ?_)
    | ((fail_if_success (conv => arg 2; fun)); extract_lets +onlyGivenNames y)
    | with_reducible first | assumption | apply State.modCl_keep | apply State.putStore_keep | apply State.signalOne_keep | apply State.unitWake_keep
    | split

/-! ### Tensor -/

theorem State.raiseIf_keep {s0 s : State} {f i b : _} (h : Keep s0 s) :
    Keep s0 (State.raiseIf s f i b) := by
  unfold State.raiseIf
  repeat' first
    | with_reducible first | assumption | apply State.setF_keep
    | split

theorem State.raiseFlags_keep {s0 s : State} {c f : _} (h : Keep s0 s) :
    Keep s0 (State.raiseFlags s c f) := by
  unfold State.raiseFlags
  repeat' with_reducible first | assumption | apply State.raiseIf_keep

theorem State.spillRows_keep {s0 s : State} {c d draws bank z5 : _} (h : Keep s0 s) :
    Keep s0 (State.spillRows s c d draws bank z5) := by
  induction z5 generalizing s c d draws bank with
  | nil =>
    unfold State.spillRows
    repeat' first
      | ((fail_if_success (conv => arg 2; fun)); extract_lets +onlyGivenNames y)
      | with_reducible first | assumption | apply State.putStore_keep | apply State.raiseFlags_keep | apply ih
  | cons hd tl ih =>
    unfold State.spillRows
    repeat' first
      | ((fail_if_success (conv => arg 2; fun)); extract_lets +onlyGivenNames y)
      | with_reducible first | assumption | apply State.putStore_keep | apply State.raiseFlags_keep | apply ih

theorem State.loadHeldSeed_keep {s0 s : State} {c : _} (h : Keep s0 s) :
    Keep s0 (State.loadHeldSeed s c) := by
  unfold State.loadHeldSeed
  repeat' first
    | ((fail_if_success (conv => arg 2; fun)); extract_lets +onlyGivenNames y)
    | with_reducible first | assumption | apply State.modCl_keep
    | split

theorem State.writeSpill_keep {s0 s : State} {c x : _} (h : Keep s0 s) :
    Keep s0 (State.writeSpill s c x) := by
  unfold State.writeSpill
  repeat' first
    | ((fail_if_success (conv => arg 2; fun)); extract_lets +onlyGivenNames y)
    | with_reducible first | assumption | apply State.spillRows_keep

theorem State.countBlock_keep {s0 s : State} {c : _} (h : Keep s0 s) :
    Keep s0 (State.countBlock s c) := by
  unfold State.countBlock
  repeat' with_reducible first | assumption | apply State.add64_keep

theorem State.charge_keep {s0 s : State} {c units : _} (h : Keep s0 s) :
    Keep s0 (State.charge s c units) := by
  unfold State.charge
  repeat' with_reducible first | assumption | apply State.modCl_keep | apply State.modDie_keep

theorem State.showTbCause_keep {s0 s : State} {c : _} (h : Keep s0 s) :
    Keep s0 (State.showTbCause s c) := by
  unfold State.showTbCause
  repeat' first
    | with_reducible first | assumption | apply State.setF_keep
    | split

theorem execTb_keep {s0 s : State} {c ecc : _} (h : Keep s0 s) :
    KeepX s0 (execTb c ecc s) := by
  unfold execTb
  repeat' first
    | ((fail_if_success (conv => arg 2; fun)); extract_lets +onlyGivenNames y)
    | with_reducible first | assumption | apply State.modCl_keep | apply State.storeRead_keep | apply State.nextPc_keep | refine State.issue_keep ?_ (fun _ _ _ => ?_) | apply State.faultStop_keep | apply State.countBlock_keep | apply Keep.next | refine Keep.eqF (by assumption) ?_
    | with_reducible (refine Keep.record ?_ rfl rfl rfl rfl rfl rfl rfl rfl rfl; first | assumption | apply State.modCl_keep | apply State.storeRead_keep | apply State.nextPc_keep | refine State.issue_keep ?_ (fun _ _ _ => ?_) | apply State.faultStop_keep | apply State.countBlock_keep | apply Keep.next | refine Keep.eqF (by assumption) ?_)
    | split

theorem execTensorBlockStart_keep {s0 s : State} {c ecc : _} (h : Keep s0 s) :
    KeepX s0 (execTensorBlockStart c ecc s) := by
  unfold execTensorBlockStart
  repeat' first
    | ((fail_if_success (conv => arg 2; fun)); extract_lets +onlyGivenNames y)
    | with_reducible first | assumption | apply State.modCl_keep | apply State.storeEcc_keep | apply State.faultStop_keep | apply State.showTbCause_keep | apply Keep.next | refine Keep.eqF (by assumption) ?_
    | with_reducible (refine Keep.record ?_ rfl rfl rfl rfl rfl rfl rfl rfl rfl; first | assumption | apply State.modCl_keep | apply State.storeEcc_keep | apply State.faultStop_keep | apply State.showTbCause_keep | apply Keep.next | refine Keep.eqF (by assumption) ?_)
    | split

theorem execTensorBlockEnd_keep {s0 s : State} {c units : _} (h : Keep s0 s) :
    KeepX s0 (execTensorBlockEnd c units s) := by
  unfold execTensorBlockEnd
  repeat' first
    | ((fail_if_success (conv => arg 2; fun)); extract_lets +onlyGivenNames y; clear_value (e : y = _); refine Keep.letVar (s0 := s0) e ?_ fun _ => ?_)
    | ((fail_if_success (conv => arg 2; fun)); extract_lets +onlyGivenNames y)
    | with_reducible first | assumption | apply State.modCl_keep | apply State.unitWake_keep | apply State.loadHeldSeed_keep | apply State.countBlock_keep | apply State.charge_keep | apply State.showTbCause_keep | apply Keep.next
    | split

theorem execSpillDone_keep {s0 s : State} {c n : _} (h : Keep s0 s) :
    KeepX s0 (execSpillDone c n s) := by
  unfold execSpillDone
  repeat' first
    | ((fail_if_success (conv => arg 2; fun)); extract_lets +onlyGivenNames y; clear_value (e : y = _); refine Keep.letVar (s0 := s0) e ?_ fun _ => ?_)
    | with_reducible first | assumption | apply State.modCl_keep | apply State.unitWake_keep | apply State.loadHeldSeed_keep | apply State.writeSpill_keep | apply State.showTbCause_keep | apply Keep.next
    | split

theorem execTbwait_keep {s0 s : State} {c : _} (h : Keep s0 s) :
    KeepX s0 (execTbwait c s) := by
  unfold execTbwait
  repeat' first
    | ((fail_if_success (conv => arg 2; fun)); extract_lets +onlyGivenNames y; clear_value (e : y = _); refine Keep.letVar (s0 := s0) e ?_ fun _ => ?_)
    | with_reducible first | assumption | apply State.nextPc_keep | apply State.steep_keep | refine State.issue_keep ?_ (fun _ _ _ => ?_) | apply State.showTbCause_keep | apply Keep.next
    | split

/-! ### Vector -/

theorem State.setVreg_keep {s0 s : State} {c v r : _} (h : Keep s0 s) :
    Keep s0 (State.setVreg s c v r) := by
  unfold State.setVreg
  repeat' with_reducible first | assumption | apply State.modCl_keep

theorem State.vresult_keep {s0 s : State} {c d l : _} (h : Keep s0 s) :
    Keep s0 (State.vresult s c d l) := by
  unfold State.vresult
  repeat' with_reducible first | assumption | apply State.raiseFlags_keep | apply State.setVreg_keep

theorem State.lanes2_keep {s0 s : State} {c d a b f : _} (h : Keep s0 s) :
    Keep s0 (State.lanes2 s c d a b f) := by
  unfold State.lanes2
  repeat' with_reducible first | assumption | apply State.vresult_keep

theorem State.vectorOp_keep {s0 s : State} {c dst op : _} (h : Keep s0 s) :
    Keep s0 (State.vectorOp s c dst op) := by
  unfold State.vectorOp
  repeat' first
    | ((fail_if_success (conv => arg 2; fun)); extract_lets +onlyGivenNames y)
    | with_reducible first | assumption | apply State.putStore_keep | apply State.setSreg_keep | apply State.raiseFlags_keep | apply State.setVreg_keep | apply State.vresult_keep | apply State.lanes2_keep
    | split

theorem State.vectorOut_keep {s0 s : State} {c op : _} (h : Keep s0 s) :
    Keep s0 (State.vectorOut s c op) := by
  unfold State.vectorOut
  repeat' first
    | with_reducible first | assumption | apply State.setVreg_keep
    | split

theorem execVop_keep {s0 s : State} {c op ecc : _} (h : Keep s0 s) :
    KeepX s0 (execVop c op ecc s) := by
  unfold execVop
  repeat' first
    | ((fail_if_success (conv => arg 2; fun)); extract_lets +onlyGivenNames y)
    | with_reducible first | assumption | apply State.storeEcc_keep | apply State.nextPc_keep | refine State.issue_keep ?_ (fun _ _ _ => ?_) | apply State.faultStop_keep | apply State.vectorOp_keep | apply State.vectorOut_keep | apply Keep.next | refine Keep.eqF (by assumption) ?_
    | with_reducible (refine Keep.record ?_ rfl rfl rfl rfl rfl rfl rfl rfl rfl; first | assumption | apply State.storeEcc_keep | apply State.nextPc_keep | refine State.issue_keep ?_ (fun _ _ _ => ?_) | apply State.faultStop_keep | apply State.vectorOp_keep | apply State.vectorOut_keep | apply Keep.next | refine Keep.eqF (by assumption) ?_)
    | split

/-! ### Sequencer -/

theorem execScalarOp_keep {s0 s : State} {c fn useImm : _} (h : Keep s0 s) :
    KeepX s0 (execScalarOp c fn useImm s) := by
  unfold execScalarOp
  repeat' first
    | ((fail_if_success (conv => arg 2; fun)); extract_lets +onlyGivenNames y)
    | with_reducible first | assumption | apply State.setSreg_keep | apply State.nextPc_keep | refine State.issue_keep ?_ (fun _ _ _ => ?_) | apply Keep.next
    | split

theorem execBranch_keep {s0 s : State} {c cond : _} (h : Keep s0 s) :
    KeepX s0 (execBranch c cond s) := by
  unfold execBranch
  repeat' first
    | with_reducible first | assumption | apply State.setPc_keep | apply State.nextPc_keep | refine State.issue_keep ?_ (fun _ _ _ => ?_) | apply Keep.next
    | split

theorem execLdsSts_keep {s0 s : State} {c store ecc : _} (h : Keep s0 s) :
    KeepX s0 (execLdsSts c store ecc s) := by
  unfold execLdsSts
  repeat' first
    | ((fail_if_success (conv => arg 2; fun)); extract_lets +onlyGivenNames y)
    | with_reducible first | assumption | apply State.putStore_keep | apply State.storeRead_keep | apply State.setSreg_keep | apply State.nextPc_keep | refine State.issue_keep ?_ (fun _ _ _ => ?_) | apply State.faultStop_keep | apply Keep.next | refine Keep.eqF (by assumption) ?_
    | with_reducible (refine Keep.record ?_ rfl rfl rfl rfl rfl rfl rfl rfl rfl; first | assumption | apply State.putStore_keep | apply State.storeRead_keep | apply State.setSreg_keep | apply State.nextPc_keep | refine State.issue_keep ?_ (fun _ _ _ => ?_) | apply State.faultStop_keep | apply Keep.next | refine Keep.eqF (by assumption) ?_)
    | split

theorem execIllegalInstruction_keep {s0 s : State} {c reservedEnc : _} (h : Keep s0 s) :
    KeepX s0 (execIllegalInstruction c reservedEnc s) := by
  unfold execIllegalInstruction
  repeat' first
    | with_reducible first | assumption | refine State.issue_keep ?_ (fun _ _ _ => ?_) | apply State.faultStop_keep | apply Keep.next
    | split

theorem execFetchFault_keep {s0 s : State} {c ecc : _} (h : Keep s0 s) :
    KeepX s0 (execFetchFault c ecc s) := by
  unfold execFetchFault
  repeat' first
    | ((fail_if_success (conv => arg 2; fun)); extract_lets +onlyGivenNames y)
    | with_reducible first | assumption | apply State.storeEcc_keep | apply State.faultStop_keep | apply Keep.next | refine Keep.eqF (by assumption) ?_
    | with_reducible (refine Keep.record ?_ rfl rfl rfl rfl rfl rfl rfl rfl rfl; first | assumption | apply State.storeEcc_keep | apply State.faultStop_keep | apply Keep.next | refine Keep.eqF (by assumption) ?_)
    | split

theorem execStep_keep {s0 s : State} {c spaced : _} (h : Keep s0 s) :
    KeepX s0 (execStep c spaced s) := by
  unfold execStep
  repeat' first
    | ((fail_if_success (conv => arg 2; fun)); extract_lets +onlyGivenNames y; clear_value (e : y = _); refine Keep.letVar (s0 := s0) e ?_ fun _ => ?_)
    | ((fail_if_success (conv => arg 2; fun)); extract_lets +onlyGivenNames y)
    | with_reducible first | assumption | apply State.addWrap_keep | apply State.addSat_keep | apply State.nextPc_keep | refine State.issue_keep ?_ (fun _ _ _ => ?_) | apply Keep.next
    | with_reducible (refine Keep.record ?_ rfl rfl rfl rfl rfl rfl rfl rfl rfl; first | assumption | apply State.addWrap_keep | apply State.addSat_keep | apply State.nextPc_keep | refine State.issue_keep ?_ (fun _ _ _ => ?_) | apply Keep.next)
    | split

theorem State.seedWrite_keep {s0 s : State} {c v : _} (h : Keep s0 s) :
    Keep s0 (State.seedWrite s c v) := by
  unfold State.seedWrite
  repeat' first
    | ((fail_if_success (conv => arg 2; fun)); extract_lets +onlyGivenNames y; clear_value (e : y = _); refine Keep.letVar (s0 := s0) e ?_ fun _ => ?_)
    | ((fail_if_success (conv => arg 2; fun)); extract_lets +onlyGivenNames y)
    | with_reducible first | assumption | apply State.setF_keep | apply State.modCl_keep | apply State.loadHeldSeed_keep

theorem execCluSrSeedWrite_keep {s0 s : State} {c value : _} (h : Keep s0 s) :
    KeepX s0 (execCluSrSeedWrite c value s) := by
  unfold execCluSrSeedWrite
  repeat' first
    | with_reducible first | assumption | apply State.seedWrite_keep | apply Keep.next
    | split

theorem execHeldSeedLoad_keep {s0 s : State} {c : _} (h : Keep s0 s) :
    KeepX s0 (execHeldSeedLoad c s) := by
  unfold execHeldSeedLoad
  repeat' with_reducible first | assumption | apply State.loadHeldSeed_keep | apply Keep.next

theorem State.haltWrite_keep {s0 s : State} {c v : _} (h : Keep s0 s) :
    Keep s0 (State.haltWrite s c v) := by
  unfold State.haltWrite
  repeat' first
    | ((fail_if_success (conv => arg 2; fun)); extract_lets +onlyGivenNames y; clear_value (e : y = _); refine Keep.letVar (s0 := s0) e ?_ fun _ => ?_)
    | with_reducible first | assumption | apply State.setF_keep
    | split

theorem execCluHaltWrite_keep {s0 s : State} {c value : _} (h : Keep s0 s) :
    KeepX s0 (execCluHaltWrite c value s) := by
  unfold execCluHaltWrite
  repeat' first
    | with_reducible first | assumption | apply State.haltWrite_keep | apply Keep.next
    | split

theorem execSteepLendTimer_keep {s0 s : State} {c : _} (h : Keep s0 s) :
    KeepX s0 (execSteepLendTimer c s) := by
  unfold execSteepLendTimer
  repeat' first
    | with_reducible first | assumption | apply State.modCl_keep | apply State.returnReserve_keep | apply Keep.next
    | split

/-! ### DmaUnit -/

theorem State.dmaInstr_keep {s0 s : State} {c ecc isOp : _} (h : Keep s0 s) :
    Keep s0 (State.dmaInstr s c ecc isOp) := by
  unfold State.dmaInstr
  repeat' first
    | ((fail_if_success (conv => arg 2; fun)); extract_lets +onlyGivenNames y)
    | with_reducible first | assumption | apply State.nextPc_keep | apply State.steep_keep | refine State.issue_keep ?_ (fun _ _ _ => ?_) | apply State.acceptDma_keep
    | split

theorem execCopy_keep {s0 s : State} {c ecc : _} (h : Keep s0 s) :
    KeepX s0 (execCopy c ecc s) := by
  unfold execCopy
  repeat' with_reducible first | assumption | apply State.dmaInstr_keep | apply Keep.next

theorem execFill_keep {s0 s : State} {c ecc : _} (h : Keep s0 s) :
    KeepX s0 (execFill c ecc s) := by
  unfold execFill
  repeat' with_reducible first | assumption | apply State.dmaInstr_keep | apply Keep.next

theorem execAddF32_keep {s0 s : State} {c ecc : _} (h : Keep s0 s) :
    KeepX s0 (execAddF32 c ecc s) := by
  unfold execAddF32
  repeat' with_reducible first | assumption | apply State.dmaInstr_keep | apply Keep.next

theorem execPost_keep {s0 s : State} {c ecc : _} (h : Keep s0 s) :
    KeepX s0 (execPost c ecc s) := by
  unfold execPost
  repeat' with_reducible first | assumption | apply State.dmaInstr_keep | apply Keep.next

theorem execDmaDeferredAccept_keep {s0 s : State} {c ecc : _} (h : Keep s0 s) :
    KeepX s0 (execDmaDeferredAccept c ecc s) := by
  unfold execDmaDeferredAccept
  repeat' first
    | with_reducible first | assumption | apply State.wake_keep | apply State.acceptDma_keep | apply Keep.next
    | split

theorem State.showDmaCause_keep {s0 s : State} {c : _} (h : Keep s0 s) :
    Keep s0 (State.showDmaCause s c) := by
  unfold State.showDmaCause
  repeat' first
    | ((fail_if_success (conv => arg 2; fun)); extract_lets +onlyGivenNames y)
    | with_reducible first | assumption | apply State.setF_keep
    | split

theorem execDmaBurstIssue_keep {s0 s : State} {c j ecc mecc : _} (h : Keep s0 s) :
    KeepX s0 (execDmaBurstIssue c j ecc mecc s) := by
  unfold execDmaBurstIssue
  repeat' with_reducible first | assumption | apply State.issueBurst_keep | apply Keep.next

theorem execDmaRetire_keep {s0 s : State} {c : _} (h : Keep s0 s) :
    KeepX s0 (execDmaRetire c s) := by
  unfold execDmaRetire
  repeat' with_reducible first | assumption | apply State.retireDma_keep | apply State.showDmaCause_keep | apply Keep.next

theorem execLinkCreditTimeout_keep {s0 s : State} {c j : _} (h : Keep s0 s) :
    KeepX s0 (execLinkCreditTimeout c j s) := by
  unfold execLinkCreditTimeout
  repeat' first
    | ((fail_if_success (conv => arg 2; fun)); extract_lets +onlyGivenNames y; clear_value (e : y = _); refine Keep.letVar (s0 := s0) e ?_ fun _ => ?_)
    | ((fail_if_success (conv => arg 2; fun)); extract_lets +onlyGivenNames y)
    | with_reducible first | assumption | apply State.failDma_keep | apply State.dmaWaits_keep | apply Keep.next
    | with_reducible (refine Keep.record ?_ rfl rfl rfl rfl rfl rfl rfl rfl rfl; first | assumption | apply State.failDma_keep | apply State.dmaWaits_keep | apply Keep.next)
    | split

theorem execDmawait_keep {s0 s : State} {c : _} (h : Keep s0 s) :
    KeepX s0 (execDmawait c s) := by
  unfold execDmawait
  repeat' first
    | ((fail_if_success (conv => arg 2; fun)); extract_lets +onlyGivenNames y; clear_value (e : y = _); refine Keep.letVar (s0 := s0) e ?_ fun _ => ?_)
    | ((fail_if_success (conv => arg 2; fun)); extract_lets +onlyGivenNames y)
    | with_reducible first | assumption | apply State.nextPc_keep | apply State.steep_keep | refine State.issue_keep ?_ (fun _ _ _ => ?_) | apply State.showDmaCause_keep | apply Keep.next
    | split

theorem execFence_keep {s0 s : State} {c : _} (h : Keep s0 s) :
    KeepX s0 (execFence c s) := by
  unfold execFence
  repeat' first
    | ((fail_if_success (conv => arg 2; fun)); extract_lets +onlyGivenNames y; clear_value (e : y = _); refine Keep.letVar (s0 := s0) e ?_ fun _ => ?_)
    | with_reducible first | assumption | apply State.nextPc_keep | apply State.steep_keep | refine State.issue_keep ?_ (fun _ _ _ => ?_) | apply State.showDmaCause_keep | apply Keep.next
    | split

/-! ### WorkIssue -/

theorem execClaim_keep {s0 s : State} {c mecc : _} (h : Keep s0 s) :
    KeepX s0 (execClaim c mecc s) := by
  unfold execClaim
  repeat' first
    | ((fail_if_success (conv => arg 2; fun)); extract_lets +onlyGivenNames y; clear_value (e : y = _); refine Keep.letVar (s0 := s0) e ?_ fun _ => ?_)
    | ((fail_if_success (conv => arg 2; fun)); extract_lets +onlyGivenNames y)
    | with_reducible first | assumption | apply State.modRing_keep | apply State.nextPc_keep | apply State.steep_keep | refine State.issue_keep ?_ (fun _ _ _ => ?_) | apply State.nextDescriptor_keep | apply State.deliver_keep | apply State.claimEmpty_keep | apply Keep.next | refine Keep.eqF (by assumption) ?_
    | with_reducible (refine Keep.record ?_ rfl rfl rfl rfl rfl rfl rfl rfl rfl; first | assumption | apply State.modRing_keep | apply State.nextPc_keep | apply State.steep_keep | refine State.issue_keep ?_ (fun _ _ _ => ?_) | apply State.nextDescriptor_keep | apply State.deliver_keep | apply State.claimEmpty_keep | apply Keep.next | refine Keep.eqF (by assumption) ?_)
    | split
    | with_reducible apply Keep.mkF

theorem execClaimServed_keep {s0 s : State} {ring mecc : _} (h : Keep s0 s) :
    KeepX s0 (execClaimServed ring mecc s) := by
  unfold execClaimServed
  repeat' first
    | ((fail_if_success (conv => arg 2; fun)); extract_lets +onlyGivenNames y)
    | with_reducible first | assumption | apply State.modRing_keep | apply State.nextDescriptor_keep | apply State.deliver_keep | apply Keep.next | refine Keep.eqF (by assumption) ?_
    | with_reducible (refine Keep.record ?_ rfl rfl rfl rfl rfl rfl rfl rfl rfl; first | assumption | apply State.modRing_keep | apply State.nextDescriptor_keep | apply State.deliver_keep | apply Keep.next | refine Keep.eqF (by assumption) ?_)
    | split

theorem execDone_keep {s0 s : State} {c : _} (h : Keep s0 s) :
    KeepX s0 (execDone c s) := by
  unfold execDone
  repeat' first
    | ((fail_if_success (conv => arg 2; fun)); extract_lets +onlyGivenNames y; clear_value (e : y = _); refine Keep.letVar (s0 := s0) e ?_ fun _ => ?_)
    | with_reducible first | assumption | apply State.modCl_keep | apply State.nextPc_keep | refine State.issue_keep ?_ (fun _ _ _ => ?_) | apply State.complete_keep | apply Keep.next
    | split

theorem State.screen_keep {s0 s : State} {z0 z2 z3 : _} (h : Keep s0 s) :
    Keep s0 (State.screen z0 s z2 z3) := by
  induction z0 generalizing s z2 z3 with
  | zero =>
    unfold State.screen
    repeat' first
      | ((fail_if_success (conv => arg 2; fun)); extract_lets +onlyGivenNames y; clear_value (e : y = _); refine Keep.letF (s0 := s0) e ?_ fun _ => ?_)
      | ((fail_if_success (conv => arg 2; fun)); extract_lets +onlyGivenNames y)
      | with_reducible first | assumption | apply State.memRead_keep | apply State.writeRecord_keep | apply State.writeErrorRecord_keep | apply State.passNext_keep | apply State.passUnread_keep | exact Keep.ofF (by assumption) | apply ih | refine Keep.eqO (by assumption) ?_
      | with_reducible (refine Keep.record ?_ rfl rfl rfl rfl rfl rfl rfl rfl rfl; first | assumption | apply State.memRead_keep | apply State.writeRecord_keep | apply State.writeErrorRecord_keep | apply State.passNext_keep | apply State.passUnread_keep | exact Keep.ofF (by assumption) | apply ih | refine Keep.eqO (by assumption) ?_)
      | split
  | succ n ih =>
    unfold State.screen
    repeat' first
      | ((fail_if_success (conv => arg 2; fun)); extract_lets +onlyGivenNames y; clear_value (e : y = _); refine Keep.letF (s0 := s0) e ?_ fun _ => ?_)
      | ((fail_if_success (conv => arg 2; fun)); extract_lets +onlyGivenNames y)
      | with_reducible first | assumption | apply State.memRead_keep | apply State.writeRecord_keep | apply State.writeErrorRecord_keep | apply State.passNext_keep | apply State.passUnread_keep | exact Keep.ofF (by assumption) | apply ih | refine Keep.eqO (by assumption) ?_
      | with_reducible (refine Keep.record ?_ rfl rfl rfl rfl rfl rfl rfl rfl rfl; first | assumption | apply State.memRead_keep | apply State.writeRecord_keep | apply State.writeErrorRecord_keep | apply State.passNext_keep | apply State.passUnread_keep | exact Keep.ofF (by assumption) | apply ih | refine Keep.eqO (by assumption) ?_)
      | split

theorem State.prodWrite_keep {s0 s : State} {r v ecc : _} (h : Keep s0 s) :
    Keep s0 (State.prodWrite s r v ecc) := by
  unfold State.prodWrite
  repeat' first
    | ((fail_if_success (conv => arg 2; fun)); extract_lets +onlyGivenNames y; clear_value (e : y = _); refine Keep.letVar (s0 := s0) e ?_ fun _ => ?_)
    | with_reducible first | assumption | apply State.setF_keep | apply State.ringEvent_keep | apply State.screen_keep
    | split

theorem execRingProdWrite_keep {s0 s : State} {ring value mecc : _} (h : Keep s0 s) :
    KeepX s0 (execRingProdWrite ring value mecc s) := by
  unfold execRingProdWrite
  repeat' first
    | with_reducible first | assumption | apply State.prodWrite_keep | apply Keep.next
    | split

theorem State.consWrite_keep {s0 s : State} {r v : _} (h : Keep s0 s) :
    Keep s0 (State.consWrite s r v) := by
  unfold State.consWrite
  repeat' first
    | with_reducible first | assumption | apply State.setF_keep | apply State.ringEvent_keep | apply State.settleFailed_keep
    | split

theorem execRingConsWrite_keep {s0 s : State} {ring value : _} (h : Keep s0 s) :
    KeepX s0 (execRingConsWrite ring value s) := by
  unfold execRingConsWrite
  repeat' first
    | with_reducible first | assumption | apply State.consWrite_keep | apply Keep.next
    | split

theorem State.enableWrite_keep {s0 s : State} {r v : _} (h : Keep s0 s) :
    Keep s0 (State.enableWrite s r v) := by
  unfold State.enableWrite
  repeat' first
    | ((fail_if_success (conv => arg 2; fun)); extract_lets +onlyGivenNames y; clear_value (e : y = _); refine Keep.letVar (s0 := s0) e ?_ fun _ => ?_)
    | with_reducible first | assumption | apply State.setF_keep | apply State.releaseClaims_keep | apply State.settleFailed_keep
    | split

theorem execRingEnableWrite_keep {s0 s : State} {ring value : _} (h : Keep s0 s) :
    KeepX s0 (execRingEnableWrite ring value s) := by
  unfold execRingEnableWrite
  repeat' first
    | with_reducible first | assumption | apply State.enableWrite_keep | apply Keep.next
    | split

theorem State.cancelRing_keep {s0 s : State} {r : _} (h : Keep s0 s) :
    Keep s0 (State.cancelRing s r) := by
  unfold State.cancelRing
  repeat' first
    | ((fail_if_success (conv => arg 2; fun)); extract_lets +onlyGivenNames y; clear_value (e : y = _); refine Keep.letVar (s0 := s0) e ?_ fun _ => ?_)
    | ((fail_if_success (conv => arg 2; fun)); extract_lets +onlyGivenNames y)
    | with_reducible first | assumption | apply State.setF_keep | apply State.modRing_keep | apply State.releaseClaims_keep | apply State.cancelCheck_keep
    | split

theorem execRingCancel_keep {s0 s : State} {ring : _} (h : Keep s0 s) :
    KeepX s0 (execRingCancel ring s) := by
  unfold execRingCancel
  repeat' first
    | with_reducible first | assumption | apply State.cancelRing_keep | apply Keep.next
    | split

theorem execCancelRecord_keep {s0 s : State} {ring : _} (h : Keep s0 s) :
    KeepX s0 (execCancelRecord ring s) := by
  unfold execCancelRecord
  repeat' first
    | ((fail_if_success (conv => arg 2; fun)); extract_lets +onlyGivenNames y)
    | with_reducible first | assumption | apply State.modRing_keep | apply State.writeUnheld_keep | apply State.cancelCheck_keep | apply Keep.next
    | split

theorem State.claimStopWrite_keep {s0 s : State} {v : _} (h : Keep s0 s) :
    Keep s0 (State.claimStopWrite s v) := by
  unfold State.claimStopWrite
  repeat' first
    | with_reducible first | assumption | apply State.setF_keep | apply State.claimStop_keep
    | split

theorem execClaimStopWrite_keep {s0 s : State} {value : _} (h : Keep s0 s) :
    KeepX s0 (execClaimStopWrite value s) := by
  unfold execClaimStopWrite
  repeat' first
    | with_reducible first | assumption | apply State.claimStopWrite_keep | apply Keep.next
    | split

theorem State.commitRing_keep {s0 s : State} {r : _} (h : Keep s0 s) :
    Keep s0 (State.commitRing s r) := by
  unfold State.commitRing
  repeat' first
    | ((fail_if_success (conv => arg 2; fun)); extract_lets +onlyGivenNames y; clear_value (e : y = _); refine Keep.letVar (s0 := s0) e ?_ fun _ => ?_)
    | ((fail_if_success (conv => arg 2; fun)); extract_lets +onlyGivenNames y)
    | with_reducible first | assumption | apply State.setF_keep | apply State.commitAll_keep | apply State.modRing_keep | apply State.ringEvent_keep
    | split

theorem execRingCommit_keep {s0 s : State} {ring : _} (h : Keep s0 s) :
    KeepX s0 (execRingCommit ring s) := by
  unfold execRingCommit
  repeat' first
    | with_reducible first | assumption | apply State.commitRing_keep | apply Keep.next
    | split

theorem execPostNumberClaimable_keep {s0 s : State} {ring : _} (h : Keep s0 s) :
    KeepX s0 (execPostNumberClaimable ring s) := by
  unfold execPostNumberClaimable
  repeat' first
    | ((fail_if_success (conv => arg 2; fun)); extract_lets +onlyGivenNames y; clear_value (e : y = _); refine Keep.letVar (s0 := s0) e ?_ fun _ => ?_)
    | ((fail_if_success (conv => arg 2; fun)); extract_lets +onlyGivenNames y)
    | with_reducible first | assumption | apply State.setF_keep | apply State.modRing_keep | apply State.settleFailed_keep | apply Keep.next
    | split

theorem execDescriptorTimeout_keep {s0 s : State} {c : _} (h : Keep s0 s) :
    KeepX s0 (execDescriptorTimeout c s) := by
  unfold execDescriptorTimeout
  repeat' first
    | ((fail_if_success (conv => arg 2; fun)); extract_lets +onlyGivenNames y; clear_value (e : y = _); refine Keep.letVar (s0 := s0) e ?_ fun _ => ?_)
    | with_reducible first | assumption | apply State.addSat_keep | apply State.abortCluster_keep | apply Keep.next
    | split

theorem State.endPrefetched_keep {s0 s : State} {st cluster z3 : _} (h : Keep s0 s) :
    Keep s0 (State.endPrefetched s st cluster z3) := by
  induction z3 generalizing s st cluster with
  | nil =>
    unfold State.endPrefetched
    repeat' first
      | ((fail_if_success (conv => arg 2; fun)); extract_lets +onlyGivenNames y; clear_value (e : y = _); refine Keep.letVar (s0 := s0) e ?_ fun _ => ?_)
      | with_reducible first | assumption | apply State.returnToken_keep | apply State.writeRecord_keep | apply ih
      | split
  | cons hd tl ih =>
    unfold State.endPrefetched
    repeat' first
      | ((fail_if_success (conv => arg 2; fun)); extract_lets +onlyGivenNames y; clear_value (e : y = _); refine Keep.letVar (s0 := s0) e ?_ fun _ => ?_)
      | with_reducible first | assumption | apply State.returnToken_keep | apply State.writeRecord_keep | apply ih
      | split

theorem State.endAbort_keep {s0 s : State} {c e : _} (h : Keep s0 s) :
    Keep s0 (State.endAbort s c e) := by
  unfold State.endAbort
  repeat' first
    | ((fail_if_success (conv => arg 2; fun)); extract_lets +onlyGivenNames y; clear_value (e : y = _); refine Keep.letVar (s0 := s0) e ?_ fun _ => ?_)
    | with_reducible first | assumption | apply State.setFlag_keep | apply State.modCl_keep | apply State.endPrefetched_keep
    | split

theorem execCompletionRecord_keep {s0 s : State} {n : _} (h : Keep s0 s) :
    KeepX s0 (execCompletionRecord n s) := by
  unfold execCompletionRecord
  repeat' first
    | ((fail_if_success (conv => arg 2; fun)); extract_lets +onlyGivenNames y; clear_value (e : y = _); refine Keep.letVar (s0 := s0) e ?_ fun _ => ?_)
    | ((fail_if_success (conv => arg 2; fun)); extract_lets +onlyGivenNames y)
    | with_reducible first | assumption | apply State.writeRecord_keep | apply State.endAbort_keep | apply Keep.next
    | with_reducible (refine Keep.record ?_ rfl rfl rfl rfl rfl rfl rfl rfl rfl; first | assumption | apply State.writeRecord_keep | apply State.endAbort_keep | apply Keep.next)
    | split

theorem State.flushRing_keep {s0 s : State} {z0 z2 : _} (h : Keep s0 s) :
    Keep s0 (State.flushRing z0 s z2) := by
  induction z0 generalizing s z2 with
  | zero =>
    unfold State.flushRing
    repeat' first
      | ((fail_if_success (conv => arg 2; fun)); extract_lets +onlyGivenNames y)
      | with_reducible first | assumption | apply State.writeUnheld_keep | apply State.passNext_keep | apply State.passUnread_keep | apply ih | refine Keep.eqO (by assumption) ?_
      | with_reducible (refine Keep.record ?_ rfl rfl rfl rfl rfl rfl rfl rfl rfl; first | assumption | apply State.writeUnheld_keep | apply State.passNext_keep | apply State.passUnread_keep | apply ih | refine Keep.eqO (by assumption) ?_)
      | split
  | succ n ih =>
    unfold State.flushRing
    repeat' first
      | ((fail_if_success (conv => arg 2; fun)); extract_lets +onlyGivenNames y)
      | with_reducible first | assumption | apply State.writeUnheld_keep | apply State.passNext_keep | apply State.passUnread_keep | apply ih | refine Keep.eqO (by assumption) ?_
      | with_reducible (refine Keep.record ?_ rfl rfl rfl rfl rfl rfl rfl rfl rfl; first | assumption | apply State.writeUnheld_keep | apply State.passNext_keep | apply State.passUnread_keep | apply ih | refine Keep.eqO (by assumption) ?_)
      | split

theorem execRingStall_keep {s0 s : State} {ring : _} (h : Keep s0 s) :
    KeepX s0 (execRingStall ring s) := by
  unfold execRingStall
  repeat' first
    | ((fail_if_success (conv => arg 2; fun)); extract_lets +onlyGivenNames y; clear_value (e : y = _); refine Keep.letVar (s0 := s0) e ?_ fun _ => ?_)
    | ((fail_if_success (conv => arg 2; fun)); extract_lets +onlyGivenNames y)
    | with_reducible first | assumption | apply State.setF_keep | apply State.ringEvent_keep | apply State.enableWrite_keep | apply State.flushRing_keep | apply Keep.next
    | split

end Sys2Proof.Machine
end

