-- ==== Sys2Proof/Laws/KeepFabric.lean ====
section
/-!
SUPPORT. The upkeep of memory, gate commands, collectives, ports and the partner link keep what Laws/Keep.lean names.
-/

namespace Sys2Proof.Machine

set_option linter.all false

/-! ### Repair -/

theorem State.journalAdd_keep {s0 s : State} {e : _} (h : Keep s0 s) :
    Keep s0 (State.journalAdd s e) := by
  unfold State.journalAdd
  repeat' with_reducible first | assumption | refine Keep.record ?_ rfl rfl rfl rfl rfl rfl rfl rfl rfl

theorem State.storeInventory_keep {s0 s : State} (h : Keep s0 s) :
    Keep s0 (State.storeInventory s) := by
  unfold State.storeInventory
  repeat' first
    | ((fail_if_success (conv => arg 2; fun)); extract_lets +onlyGivenNames y)
    | with_reducible first | assumption
    | with_reducible (refine Keep.record ?_ rfl rfl rfl rfl rfl rfl rfl rfl rfl; first | assumption)
    | split

theorem State.keepRepair_keep {s0 s : State} {rtype cause unit word1 word2 : _} (h : Keep s0 s) :
    Keep s0 (State.keepRepair s rtype cause unit word1 word2) := by
  unfold State.keepRepair
  repeat' first
    | ((fail_if_success (conv => arg 2; fun)); extract_lets +onlyGivenNames y; clear_value (e : y = _); refine Keep.letVar (s0 := s0) e ?_ fun _ => ?_)
    | ((fail_if_success (conv => arg 2; fun)); extract_lets +onlyGivenNames y)
    | with_reducible first | assumption | apply State.setF_keep | apply State.journalAdd_keep
    | with_reducible (refine Keep.record ?_ rfl rfl rfl rfl rfl rfl rfl rfl rfl; first | assumption | apply State.setF_keep | apply State.journalAdd_keep)
    | split

theorem State.addRepair_keep {s0 s : State} {rtype cause unit word1 word2 : _} (h : Keep s0 s) :
    Keep s0 (State.addRepair s rtype cause unit word1 word2) := by
  unfold State.addRepair
  repeat' with_reducible first | assumption | apply State.storeInventory_keep | apply State.keepRepair_keep

theorem State.dropRepairs_keep {s0 s : State} {p : _} (h : Keep s0 s) :
    Keep s0 (State.dropRepairs s p) := by
  unfold State.dropRepairs
  repeat' first
    | ((fail_if_success (conv => arg 2; fun)); extract_lets +onlyGivenNames y; clear_value (e : y = _); refine Keep.letVar (s0 := s0) e ?_ fun _ => ?_)
    | with_reducible first | assumption | apply State.journalAdd_keep | apply State.storeInventory_keep | refine Keep.foldl ?_ fun _ _ _ => ?_ | refine Keep.record ?_ rfl rfl rfl rfl rfl rfl rfl rfl rfl

theorem State.testEvent_keep {s0 s : State} {code severity data : _} (h : Keep s0 s) :
    Keep s0 (State.testEvent s code severity data) := by
  unfold State.testEvent
  repeat' with_reducible first | assumption | apply State.post_keep

/-! ### Memory -/

theorem State.addrOf_keep {s0 s : State} {p : _} (h : Keep s0 s) :
    KeepG s0 (State.addrOf s p) := by
  unfold State.addrOf
  repeat' first
    | ((fail_if_success (conv => arg 2; fun)); extract_lets +onlyGivenNames y)
    | with_reducible first | assumption | apply State.fresh_keep | refine Keep.eqG (by assumption) ?_
    | with_reducible (refine Keep.record ?_ rfl rfl rfl rfl rfl rfl rfl rfl rfl; first | assumption | apply State.fresh_keep | refine Keep.eqG (by assumption) ?_)
    | split
    | with_reducible apply Keep.mkG

theorem State.halveLeaky_keep {s0 s : State} {z0 : _} (h : Keep s0 s) :
    Keep s0 (State.halveLeaky z0 s) := by
  induction z0 generalizing s with
  | zero =>
    unfold State.halveLeaky
    repeat' with_reducible first | assumption | apply State.setF_keep | apply ih
  | succ n ih =>
    unfold State.halveLeaky
    repeat' with_reducible first | assumption | apply State.setF_keep | apply ih

theorem execOperatingHourTick_keep {s0 s : State} (h : Keep s0 s) :
    KeepX s0 (execOperatingHourTick s) := by
  unfold execOperatingHourTick
  refine Keep.next ?_
  dsimp only
  refine Keep.foldl (State.halveLeaky_keep (h.trans ?_)) fun _ _ k => State.setF_keep k
  exact Keep.counts rfl rfl rfl rfl rfl rfl rfl (Nat.le_succ _) (le_refl _)

theorem execSelfRefreshEntry_keep {s0 s : State} {k lch : _} (h : Keep s0 s) :
    KeepX s0 (execSelfRefreshEntry k lch s) := by
  unfold execSelfRefreshEntry
  repeat' first
    | ((fail_if_success (conv => arg 2; fun)); extract_lets +onlyGivenNames y)
    | with_reducible first | assumption | apply State.srState_keep | apply Keep.next
    | with_reducible (refine Keep.record ?_ rfl rfl rfl rfl rfl rfl rfl rfl rfl; first | assumption | apply State.srState_keep | apply Keep.next)
    | split

theorem execSelfRefreshExit_keep {s0 s : State} {k lch : _} (h : Keep s0 s) :
    KeepX s0 (execSelfRefreshExit k lch s) := by
  unfold execSelfRefreshExit
  repeat' first
    | with_reducible first | assumption | apply State.srExit_keep | apply Keep.next
    | split

theorem execPatrolScrub_keep {s0 s : State} {k lch q mecc passEnd : _} (h : Keep s0 s) :
    KeepX s0 (execPatrolScrub k lch q mecc passEnd s) := by
  unfold execPatrolScrub
  repeat' first
    | ((fail_if_success (conv => arg 2; fun)); extract_lets +onlyGivenNames y; clear_value (e : y = _); refine Keep.letVar (s0 := s0) e ?_ fun _ => ?_)
    | ((fail_if_success (conv => arg 2; fun)); extract_lets +onlyGivenNames y)
    | with_reducible first | assumption | apply State.addSat_keep | apply State.served_keep | refine Keep.ofF (State.readPlace_keep ?_) | apply State.addrOf_keep | apply Keep.next | refine Keep.eqG (by assumption) ?_
    | with_reducible (refine Keep.record ?_ rfl rfl rfl rfl rfl rfl rfl rfl rfl; first | assumption | apply State.addSat_keep | apply State.served_keep | refine Keep.ofF (State.readPlace_keep ?_) | apply State.addrOf_keep | apply Keep.next | refine Keep.eqG (by assumption) ?_)
    | split

theorem execDqsTrack_keep {s0 s : State} {k lch ok : _} (h : Keep s0 s) :
    KeepX s0 (execDqsTrack k lch ok s) := by
  unfold execDqsTrack
  repeat' first
    | with_reducible first | assumption | apply State.spareTrigger_keep | apply Keep.next
    | split

theorem State.spareStart_keep {s0 s : State} {k lch : _} (h : Keep s0 s) :
    Keep s0 (State.spareStart s k lch) := by
  unfold State.spareStart
  repeat' first
    | ((fail_if_success (conv => arg 2; fun)); extract_lets +onlyGivenNames y; clear_value (e : y = _); refine Keep.letVar (s0 := s0) e ?_ fun _ => ?_)
    | with_reducible first | assumption | apply State.setF_keep | apply State.showStart_keep | apply State.spareTrigger_keep
    | split

theorem execSpareStartWrite_keep {s0 s : State} {k lch : _} (h : Keep s0 s) :
    KeepX s0 (execSpareStartWrite k lch s) := by
  unfold execSpareStartWrite
  repeat' first
    | with_reducible first | assumption | apply State.spareStart_keep | apply Keep.next
    | split

theorem State.poisonFrom_keep {s0 s : State} {k lch q : _} (h : Keep s0 s) :
    Keep s0 (State.poisonFrom s k lch q) := by
  unfold State.poisonFrom
  repeat' first
    | ((fail_if_success (conv => arg 2; fun)); extract_lets +onlyGivenNames y)
    | with_reducible first | assumption | refine Keep.record ?_ rfl rfl rfl rfl rfl rfl rfl rfl rfl

theorem State.sparingStart_keep {s0 s : State} {k : _} (h : Keep s0 s) :
    Keep s0 (State.sparingStart s k) := by
  unfold State.sparingStart
  repeat' first
    | ((fail_if_success (conv => arg 2; fun)); extract_lets +onlyGivenNames y; clear_value (e : y = _); refine Keep.letVar (s0 := s0) e ?_ fun _ => ?_)
    | ((fail_if_success (conv => arg 2; fun)); extract_lets +onlyGivenNames y)
    | with_reducible first | assumption | apply State.setF_keep | apply State.showStart_keep | apply State.stackFail_keep | apply State.poisonFrom_keep
    | with_reducible (refine Keep.record ?_ rfl rfl rfl rfl rfl rfl rfl rfl rfl; first | assumption | apply State.setF_keep | apply State.showStart_keep | apply State.stackFail_keep | apply State.poisonFrom_keep)
    | split

theorem execSparingStart_keep {s0 s : State} {k : _} (h : Keep s0 s) :
    KeepX s0 (execSparingStart k s) := by
  unfold execSparingStart
  repeat' first
    | with_reducible first | assumption | apply State.sparingStart_keep | apply Keep.next
    | split

theorem State.copyDone_keep {s0 s : State} {k c : _} (h : Keep s0 s) :
    Keep s0 (State.copyDone s k c) := by
  unfold State.copyDone
  repeat' first
    | ((fail_if_success (conv => arg 2; fun)); extract_lets +onlyGivenNames y; clear_value (e : y = _); refine Keep.letVar (s0 := s0) e ?_ fun _ => ?_)
    | ((fail_if_success (conv => arg 2; fun)); extract_lets +onlyGivenNames y)
    | with_reducible first | assumption | apply State.setF_keep | apply State.memEvent_keep | apply State.showStart_keep | apply State.addRepair_keep | apply State.testEvent_keep
    | with_reducible (refine Keep.record ?_ rfl rfl rfl rfl rfl rfl rfl rfl rfl; first | assumption | apply State.setF_keep | apply State.memEvent_keep | apply State.showStart_keep | apply State.addRepair_keep | apply State.testEvent_keep)
    | split

theorem execSparingCopyDone_keep {s0 s : State} {k bad : _} (h : Keep s0 s) :
    KeepX s0 (execSparingCopyDone k bad s) := by
  unfold execSparingCopyDone
  repeat' first
    | ((fail_if_success (conv => arg 2; fun)); extract_lets +onlyGivenNames y; clear_value (e : y = _); refine Keep.letVar (s0 := s0) e ?_ fun _ => ?_)
    | with_reducible first | assumption | apply State.poisonPair_keep | apply State.copyDone_keep | apply Keep.next | refine Keep.foldl ?_ fun _ _ _ => ?_
    | split

theorem State.copyMoves_keep {s0 s : State} {l : _} (h : Keep s0 s) :
    Keep s0 (State.copyMoves s l) := by
  unfold State.copyMoves
  repeat' first
    | ((fail_if_success (conv => arg 2; fun)); extract_lets +onlyGivenNames y; clear_value (e : y = _); refine Keep.letVar (s0 := s0) e ?_ fun _ => ?_)
    | ((fail_if_success (conv => arg 2; fun)); extract_lets +onlyGivenNames y)
    | with_reducible first | assumption | apply State.setF_keep | refine Keep.foldl ?_ fun _ _ _ => ?_
    | with_reducible (refine Keep.record ?_ rfl rfl rfl rfl rfl rfl rfl rfl rfl; first | assumption | apply State.setF_keep | refine Keep.foldl ?_ fun _ _ _ => ?_)
    | split

theorem execChannelUnresponsive_keep {s0 s : State} {k lch copied : _} (h : Keep s0 s) :
    KeepX s0 (execChannelUnresponsive k lch copied s) := by
  unfold execChannelUnresponsive
  repeat' first
    | ((fail_if_success (conv => arg 2; fun)); extract_lets +onlyGivenNames y; clear_value (e : y = _); refine Keep.letVar (s0 := s0) e ?_ fun _ => ?_)
    | with_reducible first | assumption | apply State.setF_keep | apply State.spareTrigger_keep | apply State.stackFail_keep | apply State.poisonFrom_keep | apply Keep.next
    | split

theorem State.showTop_keep {s0 s : State} (h : Keep s0 s) :
    Keep s0 (State.showTop s) := by
  unfold State.showTop
  repeat' with_reducible first | assumption | apply State.setF_keep

theorem State.millTopCheck_keep {s0 s : State} (h : Keep s0 s) :
    Keep s0 (State.millTopCheck s) := by
  unfold State.millTopCheck
  repeat' first
    | with_reducible first | assumption | apply State.setBit_keep | apply State.clearBit_keep | refine Keep.foldl ?_ fun _ _ _ => ?_
    | split

theorem State.mirAfter_keep {s0 s : State} {old r : _} (h : Keep s0 s) :
    Keep s0 (State.mirAfter s old r) := by
  unfold State.mirAfter
  repeat' first
    | ((fail_if_success (conv => arg 2; fun)); extract_lets +onlyGivenNames y; clear_value (e : y = _); refine Keep.letVar (s0 := s0) e ?_ fun _ => ?_)
    | with_reducible first | assumption | apply State.setF_keep | apply State.allDirty_keep
    | with_reducible (refine Keep.record ?_ rfl rfl rfl rfl rfl rfl rfl rfl rfl; first | assumption | apply State.setF_keep | apply State.allDirty_keep)
    | split

theorem State.commitMem_keep {s0 s : State} (h : Keep s0 s) :
    Keep s0 (State.commitMem s) := by
  unfold State.commitMem
  repeat' first
    | ((fail_if_success (conv => arg 2; fun)); extract_lets +onlyGivenNames y; clear_value (e : y = _); refine Keep.letVar (s0 := s0) e ?_ fun _ => ?_)
    | ((fail_if_success (conv => arg 2; fun)); extract_lets +onlyGivenNames y)
    | with_reducible first | assumption | apply State.setF_keep | apply State.commitAll_keep | apply State.commitRange_keep | apply State.remapMemory_keep | apply State.showTop_keep | apply State.millTopCheck_keep | apply State.mirAfter_keep | refine Keep.foldl ?_ fun _ _ _ => ?_
    | split

theorem execMemCommit_keep {s0 s : State} (h : Keep s0 s) :
    KeepX s0 (execMemCommit s) := by
  unfold execMemCommit
  repeat' first
    | with_reducible first | assumption | apply State.commitMem_keep | apply Keep.next
    | split

theorem State.commitMil_keep {s0 s : State} (h : Keep s0 s) :
    Keep s0 (State.commitMil s) := by
  unfold State.commitMil
  repeat' first
    | ((fail_if_success (conv => arg 2; fun)); extract_lets +onlyGivenNames y; clear_value (e : y = _); refine Keep.letVar (s0 := s0) e ?_ fun _ => ?_)
    | ((fail_if_success (conv => arg 2; fun)); extract_lets +onlyGivenNames y)
    | with_reducible first | assumption | apply State.setF_keep | apply State.commitRange_keep | apply State.setFlag_keep
    | with_reducible (refine Keep.record ?_ rfl rfl rfl rfl rfl rfl rfl rfl rfl; first | assumption | apply State.setF_keep | apply State.commitRange_keep | apply State.setFlag_keep)
    | split

theorem execMilCommit_keep {s0 s : State} (h : Keep s0 s) :
    KeepX s0 (execMilCommit s) := by
  unfold execMilCommit
  repeat' first
    | with_reducible first | assumption | apply State.commitMil_keep | apply Keep.next
    | with_reducible (refine Keep.record ?_ rfl rfl rfl rfl rfl rfl rfl rfl rfl; first | assumption | apply State.commitMil_keep | apply Keep.next)
    | split

theorem execMilOldSetRetired_keep {s0 s : State} (h : Keep s0 s) :
    KeepX s0 (execMilOldSetRetired s) := by
  unfold execMilOldSetRetired
  repeat' first
    | with_reducible first | assumption | apply State.setF_keep | apply Keep.next
    | split

/-! ### Gates -/

theorem State.signalLost_keep {s0 s : State} {g x : _} (h : Keep s0 s) :
    Keep s0 (State.signalLost s g x) := by
  unfold State.signalLost
  repeat' with_reducible first | assumption | apply State.addSat_keep | apply State.gateErr_keep

theorem State.trySignal_keep {s0 s : State} {h1 : _} (h : Keep s0 s) :
    KeepF s0 (State.trySignal s h1) := by
  unfold State.trySignal
  repeat' first
    | ((fail_if_success (conv => arg 2; fun)); extract_lets +onlyGivenNames y; clear_value (e : y = _); refine Keep.letVar (s0 := s0) e ?_ fun _ => ?_)
    | ((fail_if_success (conv => arg 2; fun)); extract_lets +onlyGivenNames y)
    | with_reducible first | assumption | apply State.sendPkt_keep | apply State.takeTag_keep | apply State.addReq_keep | apply State.signalLost_keep | refine Keep.eqG (by assumption) ?_
    | with_reducible (refine Keep.record ?_ rfl rfl rfl rfl rfl rfl rfl rfl rfl; first | assumption | apply State.sendPkt_keep | apply State.takeTag_keep | apply State.addReq_keep | apply State.signalLost_keep | refine Keep.eqG (by assumption) ?_)
    | split
    | with_reducible apply Keep.mkF

theorem State.sendSignal_keep {s0 s : State} {h1 : _} (h : Keep s0 s) :
    Keep s0 (State.sendSignal s h1) := by
  unfold State.sendSignal
  repeat' first
    | with_reducible first | assumption | apply State.trySignal_keep | refine Keep.eqF (by assumption) ?_
    | with_reducible (refine Keep.record ?_ rfl rfl rfl rfl rfl rfl rfl rfl rfl; first | assumption | apply State.trySignal_keep | refine Keep.eqF (by assumption) ?_)
    | split

theorem execRemoteSignalSend_keep {s0 s : State} {n : _} (h : Keep s0 s) :
    KeepX s0 (execRemoteSignalSend n s) := by
  unfold execRemoteSignalSend
  repeat' first
    | with_reducible first | assumption | apply State.trySignal_keep | apply Keep.next | refine Keep.eqF (by assumption) ?_
    | with_reducible (refine Keep.record ?_ rfl rfl rfl rfl rfl rfl rfl rfl rfl; first | assumption | apply State.trySignal_keep | apply Keep.next | refine Keep.eqF (by assumption) ?_)
    | split

theorem execGwait_keep {s0 s : State} {c : _} (h : Keep s0 s) :
    KeepX s0 (execGwait c s) := by
  unfold execGwait
  repeat' first
    | ((fail_if_success (conv => arg 2; fun)); extract_lets +onlyGivenNames y; clear_value (e : y = _); refine Keep.letVar (s0 := s0) e ?_ fun _ => ?_)
    | ((fail_if_success (conv => arg 2; fun)); extract_lets +onlyGivenNames y)
    | with_reducible first | assumption | apply State.setSreg_keep | apply State.nextPc_keep | apply State.steep_keep | refine State.issue_keep ?_ (fun _ _ _ => ?_) | apply State.setQueue_keep | apply State.setCount_keep | apply Keep.next
    | split

theorem execGsignal_keep {s0 s : State} {c : _} (h : Keep s0 s) :
    KeepX s0 (execGsignal c s) := by
  unfold execGsignal
  repeat' first
    | ((fail_if_success (conv => arg 2; fun)); extract_lets +onlyGivenNames y; clear_value (e : y = _); refine Keep.letVar (s0 := s0) e ?_ fun _ => ?_)
    | ((fail_if_success (conv => arg 2; fun)); extract_lets +onlyGivenNames y)
    | with_reducible first | assumption | refine Keep.ofG (State.fresh_keep ?_) | apply State.setSreg_keep | apply State.nextPc_keep | apply State.steep_keep | refine State.issue_keep ?_ (fun _ _ _ => ?_) | refine Keep.ofF (State.gateSignal_keep ?_) | apply State.sendSignal_keep | apply Keep.next
    | split

theorem execGbar_keep {s0 s : State} {c : _} (h : Keep s0 s) :
    KeepX s0 (execGbar c s) := by
  unfold execGbar
  repeat' first
    | ((fail_if_success (conv => arg 2; fun)); extract_lets +onlyGivenNames y; clear_value (e : y = _); refine Keep.letVar (s0 := s0) e ?_ fun _ => ?_)
    | ((fail_if_success (conv => arg 2; fun)); extract_lets +onlyGivenNames y)
    | with_reducible first | assumption | apply State.setSreg_keep | apply State.nextPc_keep | apply State.steep_keep | refine State.issue_keep ?_ (fun _ _ _ => ?_) | apply State.barrier_keep | apply Keep.next
    | split

theorem execGbarWaitOnly_keep {s0 s : State} {c : _} (h : Keep s0 s) :
    KeepX s0 (execGbarWaitOnly c s) := by
  unfold execGbarWaitOnly
  repeat' first
    | ((fail_if_success (conv => arg 2; fun)); extract_lets +onlyGivenNames y; clear_value (e : y = _); refine Keep.letVar (s0 := s0) e ?_ fun _ => ?_)
    | ((fail_if_success (conv => arg 2; fun)); extract_lets +onlyGivenNames y)
    | with_reducible first | assumption | apply State.setSreg_keep | apply State.nextPc_keep | apply State.steep_keep | refine State.issue_keep ?_ (fun _ _ _ => ?_) | apply Keep.next
    | split

theorem execGtest_keep {s0 s : State} {c : _} (h : Keep s0 s) :
    KeepX s0 (execGtest c s) := by
  unfold execGtest
  repeat' first
    | ((fail_if_success (conv => arg 2; fun)); extract_lets +onlyGivenNames y; clear_value (e : y = _); refine Keep.letVar (s0 := s0) e ?_ fun _ => ?_)
    | ((fail_if_success (conv => arg 2; fun)); extract_lets +onlyGivenNames y)
    | with_reducible first | assumption | apply State.setSreg_keep | apply State.nextPc_keep | refine State.issue_keep ?_ (fun _ _ _ => ?_) | apply State.setCount_keep | apply Keep.next
    | split

theorem execBarrierFlipCascade_keep {s0 s : State} {g : _} (h : Keep s0 s) :
    KeepX s0 (execBarrierFlipCascade g s) := by
  unfold execBarrierFlipCascade
  repeat' first
    | with_reducible first | assumption | apply State.barrier_keep | apply Keep.next
    | with_reducible (refine Keep.record ?_ rfl rfl rfl rfl rfl rfl rfl rfl rfl; first | assumption | apply State.barrier_keep | apply Keep.next)
    | split

theorem State.stgSignal_keep {s0 s : State} {v : _} (h : Keep s0 s) :
    Keep s0 (State.stgSignal s v) := by
  unfold State.stgSignal
  repeat' first
    | with_reducible first | assumption | refine Keep.ofF (State.gateSignal_keep ?_)
    | split

theorem execStgSignal_keep {s0 s : State} {value : _} (h : Keep s0 s) :
    KeepX s0 (execStgSignal value s) := by
  unfold execStgSignal
  repeat' first
    | with_reducible first | assumption | apply State.stgSignal_keep | apply Keep.next
    | split

theorem State.commitGate_keep {s0 s : State} {g : _} (h : Keep s0 s) :
    Keep s0 (State.commitGate s g) := by
  unfold State.commitGate
  repeat' first
    | ((fail_if_success (conv => arg 2; fun)); extract_lets +onlyGivenNames y; clear_value (e : y = _); refine Keep.letVar (s0 := s0) e ?_ fun _ => ?_)
    | ((fail_if_success (conv => arg 2; fun)); extract_lets +onlyGivenNames y)
    | with_reducible first | assumption | apply State.setF_keep | apply State.commitAll_keep | apply State.resetGate_keep
    | split

theorem execGateCommit_keep {s0 s : State} {g : _} (h : Keep s0 s) :
    KeepX s0 (execGateCommit g s) := by
  unfold execGateCommit
  repeat' first
    | with_reducible first | assumption | apply State.commitGate_keep | apply Keep.next
    | split

theorem execGateReset_keep {s0 s : State} {g : _} (h : Keep s0 s) :
    KeepX s0 (execGateReset g s) := by
  unfold execGateReset
  repeat' first
    | with_reducible first | assumption | apply State.resetGate_keep | apply Keep.next
    | split

/-! ### Collective -/

theorem State.setColl_keep {s0 s : State} {ch k : _} (h : Keep s0 s) :
    Keep s0 (State.setColl s ch k) := by
  unfold State.setColl
  repeat' with_reducible first | assumption | refine Keep.record ?_ rfl rfl rfl rfl rfl rfl rfl rfl rfl

theorem State.collShow_keep {s0 s : State} {ch st : _} (h : Keep s0 s) :
    Keep s0 (State.collShow s ch st) := by
  unfold State.collShow
  repeat' first
    | ((fail_if_success (conv => arg 2; fun)); extract_lets +onlyGivenNames y; clear_value (e : y = _); refine Keep.letVar (s0 := s0) e ?_ fun _ => ?_)
    | with_reducible first | assumption | apply State.setF_keep | apply State.addWrap_keep | apply State.ixfEvent_keep
    | split

theorem State.grpAfter_keep {s0 s : State} {g st : _} (h : Keep s0 s) :
    Keep s0 (State.grpAfter s g st) := by
  unfold State.grpAfter
  repeat' first
    | ((fail_if_success (conv => arg 2; fun)); extract_lets +onlyGivenNames y; clear_value (e : y = _); refine Keep.letVar (s0 := s0) e ?_ fun _ => ?_)
    | with_reducible first | assumption | apply State.setF_keep | apply State.addWrap_keep
    | split

theorem State.collReport_keep {s0 s : State} {addr st gate : _} (h : Keep s0 s) :
    Keep s0 (State.collReport s addr st gate) := by
  unfold State.collReport
  repeat' first
    | ((fail_if_success (conv => arg 2; fun)); extract_lets +onlyGivenNames y; clear_value (e : y = _); refine Keep.letVar (s0 := s0) e ?_ fun _ => ?_)
    | with_reducible first | assumption | refine Keep.ofF (State.memWrite_keep ?_) | apply State.signalOne_keep
    | split

theorem State.dropCollPkts_keep {s0 s : State} {aux : _} (h : Keep s0 s) :
    Keep s0 (State.dropCollPkts s aux) := by
  unfold State.dropCollPkts
  repeat' first
    | ((fail_if_success (conv => arg 2; fun)); extract_lets +onlyGivenNames y)
    | with_reducible first | assumption | refine Keep.record ?_ rfl rfl rfl rfl rfl rfl rfl rfl rfl

theorem State.collFinish_keep {s0 s : State} {ch st : _} (h : Keep s0 s) :
    Keep s0 (State.collFinish s ch st) := by
  unfold State.collFinish
  repeat' first
    | ((fail_if_success (conv => arg 2; fun)); extract_lets +onlyGivenNames y; clear_value (e : y = _); refine Keep.letVar (s0 := s0) e ?_ fun _ => ?_)
    | ((fail_if_success (conv => arg 2; fun)); extract_lets +onlyGivenNames y)
    | with_reducible first | assumption | apply State.collShow_keep | apply State.grpAfter_keep | apply State.collReport_keep | apply State.dropCollPkts_keep
    | with_reducible (refine Keep.record ?_ rfl rfl rfl rfl rfl rfl rfl rfl rfl; first | assumption | apply State.collShow_keep | apply State.grpAfter_keep | apply State.collReport_keep | apply State.dropCollPkts_keep)
    | split

theorem State.collPacket_keep {s0 s : State} {ch port k typ j phase addr data : _} (h : Keep s0 s) :
    Keep s0 (State.collPacket s ch port k typ j phase addr data) := by
  unfold State.collPacket
  repeat' first
    | ((fail_if_success (conv => arg 2; fun)); extract_lets +onlyGivenNames y; clear_value (e : y = _); refine Keep.letVar (s0 := s0) e ?_ fun _ => ?_)
    | ((fail_if_success (conv => arg 2; fun)); extract_lets +onlyGivenNames y)
    | with_reducible first | assumption | apply State.sendPkt_keep | apply State.takeTag_keep | apply State.addReq_keep | apply State.setColl_keep | refine Keep.eqG (by assumption) ?_
    | with_reducible (refine Keep.record ?_ rfl rfl rfl rfl rfl rfl rfl rfl rfl; first | assumption | apply State.sendPkt_keep | apply State.takeTag_keep | apply State.addReq_keep | apply State.setColl_keep | refine Keep.eqG (by assumption) ?_)
    | split

theorem State.sendReadies_keep {s0 s : State} {ch k z3 : _} (h : Keep s0 s) :
    KeepO s0 (State.sendReadies s ch k z3) := by
  induction z3 generalizing s ch k with
  | nil =>
    unfold State.sendReadies
    repeat' first
      | with_reducible first | assumption | apply State.collPacket_keep | apply ih | apply Keep.someO | apply Keep.noneO
      | split
  | cons hd tl ih =>
    unfold State.sendReadies
    repeat' first
      | with_reducible first | assumption | apply State.collPacket_keep | apply ih | apply Keep.someO | apply Keep.noneO
      | split

theorem State.collBytes_keep {s0 s : State} {z0 z2 z3 z4 z5 z6 z7 z8 z9 z10 : _} (h : Keep s0 s) :
    KeepF s0 (State.collBytes z0 s z2 z3 z4 z5 z6 z7 z8 z9 z10) := by
  induction z0 generalizing s z2 z3 z4 z5 z6 z7 z8 z9 z10 with
  | zero =>
    unfold State.collBytes
    repeat' first
      | ((fail_if_success (conv => arg 2; fun)); extract_lets +onlyGivenNames y; clear_value (e : y = _); refine Keep.letF (s0 := s0) e ?_ fun _ => ?_)
      | ((fail_if_success (conv => arg 2; fun)); extract_lets +onlyGivenNames y)
      | with_reducible first | assumption | apply State.memRead_keep | apply State.collPacket_keep | exact Keep.ofF (by assumption) | apply ih
      | split
      | with_reducible apply Keep.mkF
  | succ n ih =>
    unfold State.collBytes
    repeat' first
      | ((fail_if_success (conv => arg 2; fun)); extract_lets +onlyGivenNames y; clear_value (e : y = _); refine Keep.letF (s0 := s0) e ?_ fun _ => ?_)
      | ((fail_if_success (conv => arg 2; fun)); extract_lets +onlyGivenNames y)
      | with_reducible first | assumption | apply State.memRead_keep | apply State.collPacket_keep | exact Keep.ofF (by assumption) | apply ih
      | split
      | with_reducible apply Keep.mkF

theorem State.pushRank_keep {s0 s : State} {ch j ecc : _} (h : Keep s0 s) :
    Keep s0 (State.pushRank s ch j ecc) := by
  unfold State.pushRank
  repeat' first
    | ((fail_if_success (conv => arg 2; fun)); extract_lets +onlyGivenNames y; clear_value (e : y = _); refine Keep.letVar (s0 := s0) e ?_ fun _ => ?_)
    | ((fail_if_success (conv => arg 2; fun)); extract_lets +onlyGivenNames y)
    | with_reducible first | assumption | apply State.setColl_keep | apply State.collFinish_keep | apply State.collBytes_keep | refine Keep.eqF (by assumption) ?_
    | with_reducible (refine Keep.record ?_ rfl rfl rfl rfl rfl rfl rfl rfl rfl; first | assumption | apply State.setColl_keep | apply State.collFinish_keep | apply State.collBytes_keep | refine Keep.eqF (by assumption) ?_)
    | split
    | with_reducible apply Keep.mkF

theorem State.collPush_keep {s0 s : State} {ch ecc : _} (h : Keep s0 s) :
    Keep s0 (State.collPush s ch ecc) := by
  unfold State.collPush
  repeat' first
    | with_reducible first | assumption | apply State.pushRank_keep | refine Keep.foldl ?_ fun _ _ _ => ?_
    | split

theorem State.takeReady_keep {s0 s : State} {ch r ecc : _} (h : Keep s0 s) :
    Keep s0 (State.takeReady s ch r ecc) := by
  unfold State.takeReady
  repeat' first
    | with_reducible first | assumption | apply State.setColl_keep | apply State.collFinish_keep | apply State.collPush_keep
    | split

theorem State.collCopy_keep {s0 s : State} {src dst n ecc : _} (h : Keep s0 s) :
    KeepF s0 (State.collCopy s src dst n ecc) := by
  unfold State.collCopy
  repeat' first
    | ((fail_if_success (conv => arg 2; fun)); extract_lets +onlyGivenNames y)
    | with_reducible first | assumption | apply State.memRead_keep | apply State.memWrite_keep | refine Keep.eqF (by assumption) ?_
    | with_reducible (refine Keep.record ?_ rfl rfl rfl rfl rfl rfl rfl rfl rfl; first | assumption | apply State.memRead_keep | apply State.memWrite_keep | refine Keep.eqF (by assumption) ?_)
    | split
    | with_reducible apply Keep.mkF

theorem State.ownCopy_keep {s0 s : State} {k ecc : _} (h : Keep s0 s) :
    KeepF s0 (State.ownCopy s k ecc) := by
  unfold State.ownCopy
  repeat' first
    | ((fail_if_success (conv => arg 2; fun)); extract_lets +onlyGivenNames y)
    | with_reducible first | assumption | apply State.collCopy_keep
    | split
    | with_reducible apply Keep.mkF

theorem State.keepShare_keep {s0 s : State} {k ecc : _} (h : Keep s0 s) :
    KeepF s0 (State.keepShare s k ecc) := by
  unfold State.keepShare
  repeat' first
    | ((fail_if_success (conv => arg 2; fun)); extract_lets +onlyGivenNames y)
    | with_reducible first | assumption | apply State.memRead_keep | refine Keep.eqF (by assumption) ?_
    | with_reducible (refine Keep.record ?_ rfl rfl rfl rfl rfl rfl rfl rfl rfl; first | assumption | apply State.memRead_keep | refine Keep.eqF (by assumption) ?_)
    | split
    | with_reducible apply Keep.mkF

theorem State.collRun_keep {s0 s : State} {ch k ecc : _} (h : Keep s0 s) :
    Keep s0 (State.collRun s ch k ecc) := by
  unfold State.collRun
  repeat' first
    | ((fail_if_success (conv => arg 2; fun)); extract_lets +onlyGivenNames y; clear_value (e : y = _); refine Keep.letVar (s0 := s0) e ?_ fun _ => ?_)
    | ((fail_if_success (conv => arg 2; fun)); extract_lets +onlyGivenNames y)
    | with_reducible first | assumption | apply State.setF_keep | apply State.setColl_keep | apply State.collFinish_keep | apply State.sendReadies_keep | apply State.takeReady_keep | apply State.ownCopy_keep | apply State.keepShare_keep | refine Keep.foldl ?_ fun _ _ _ => ?_ | refine Keep.eqF (by assumption) ?_ | refine Keep.eqO (by assumption) ?_
    | with_reducible (refine Keep.record ?_ rfl rfl rfl rfl rfl rfl rfl rfl rfl; first | assumption | apply State.setF_keep | apply State.setColl_keep | apply State.collFinish_keep | apply State.sendReadies_keep | apply State.takeReady_keep | apply State.ownCopy_keep | apply State.keepShare_keep | refine Keep.foldl ?_ fun _ _ _ => ?_ | refine Keep.eqF (by assumption) ?_ | refine Keep.eqO (by assumption) ?_)
    | split

theorem State.collRefuse_keep {s0 s : State} {ch addr st d : _} (h : Keep s0 s) :
    Keep s0 (State.collRefuse s ch addr st d) := by
  unfold State.collRefuse
  repeat' with_reducible first | assumption | apply State.collShow_keep | apply State.grpAfter_keep | apply State.collReport_keep

theorem State.collBegin_keep {s0 s : State} {ch addr b ecc : _} (h : Keep s0 s) :
    Keep s0 (State.collBegin s ch addr b ecc) := by
  unfold State.collBegin
  repeat' first
    | ((fail_if_success (conv => arg 2; fun)); extract_lets +onlyGivenNames y; clear_value (e : y = _); refine Keep.letVar (s0 := s0) e ?_ fun _ => ?_)
    | ((fail_if_success (conv => arg 2; fun)); extract_lets +onlyGivenNames y)
    | with_reducible first | assumption | apply State.memRead_keep | refine Keep.ofF (State.memWrite_keep ?_) | apply State.collRun_keep | apply State.collRefuse_keep | refine Keep.eqF (by assumption) ?_
    | with_reducible (refine Keep.record ?_ rfl rfl rfl rfl rfl rfl rfl rfl rfl; first | assumption | apply State.memRead_keep | refine Keep.ofF (State.memWrite_keep ?_) | apply State.collRun_keep | apply State.collRefuse_keep | refine Keep.eqF (by assumption) ?_)
    | split

theorem execCollStart_keep {s0 s : State} {ch mecc : _} (h : Keep s0 s) :
    KeepX s0 (execCollStart ch mecc s) := by
  unfold execCollStart
  repeat' first
    | ((fail_if_success (conv => arg 2; fun)); extract_lets +onlyGivenNames y; clear_value (e : y = _); refine Keep.letVar (s0 := s0) e ?_ fun _ => ?_)
    | ((fail_if_success (conv => arg 2; fun)); extract_lets +onlyGivenNames y)
    | with_reducible first | assumption | apply State.addWrap_keep | apply State.memRead_keep | apply State.setCount_keep | apply State.collShow_keep | apply State.collReport_keep | apply State.collBegin_keep | apply Keep.next | refine Keep.eqF (by assumption) ?_
    | with_reducible (refine Keep.record ?_ rfl rfl rfl rfl rfl rfl rfl rfl rfl; first | assumption | apply State.addWrap_keep | apply State.memRead_keep | apply State.setCount_keep | apply State.collShow_keep | apply State.collReport_keep | apply State.collBegin_keep | apply Keep.next | refine Keep.eqF (by assumption) ?_)
    | split

theorem execCollComplete_keep {s0 s : State} {ch : _} (h : Keep s0 s) :
    KeepX s0 (execCollComplete ch s) := by
  unfold execCollComplete
  repeat' first
    | with_reducible first | assumption | apply State.collFinish_keep | apply Keep.next
    | split

theorem execCollTimeout_keep {s0 s : State} {ch : _} (h : Keep s0 s) :
    KeepX s0 (execCollTimeout ch s) := by
  unfold execCollTimeout
  repeat' with_reducible first | assumption | apply State.collFinish_keep | apply Keep.next

/-! ### FabricUnit -/

theorem State.sendLate_keep {s0 s : State} {a : _} (h : Keep s0 s) :
    Keep s0 (State.sendLate s a) := by
  unfold State.sendLate
  repeat' first
    | with_reducible first | assumption | apply State.sendPkt_keep | apply State.sendHost_keep
    | split

theorem State.sendLates_keep {s0 s : State} {z1 : _} (h : Keep s0 s) :
    Keep s0 (State.sendLates s z1) := by
  induction z1 generalizing s with
  | nil =>
    unfold State.sendLates
    repeat' first
      | with_reducible first | assumption | apply State.sendLate_keep | apply ih
      | split
  | cons hd tl ih =>
    unfold State.sendLates
    repeat' first
      | with_reducible first | assumption | apply State.sendLate_keep | apply ih
      | split

theorem State.mirrorDone_keep {s0 s : State} {tag : _} (h : Keep s0 s) :
    Keep s0 (State.mirrorDone s tag) := by
  unfold State.mirrorDone
  repeat' first
    | ((fail_if_success (conv => arg 2; fun)); extract_lets +onlyGivenNames y; clear_value (e : y = _); refine Keep.letVar (s0 := s0) e ?_ fun _ => ?_)
    | ((fail_if_success (conv => arg 2; fun)); extract_lets +onlyGivenNames y)
    | with_reducible first | assumption | apply State.dropReq_keep | apply State.answerTag_keep | apply State.sendLates_keep | refine Keep.foldl ?_ fun _ _ _ => ?_ | refine Keep.record ?_ rfl rfl rfl rfl rfl rfl rfl rfl rfl

theorem State.dirtyAt_keep {s0 s : State} {pa n : _} (h : Keep s0 s) :
    Keep s0 (State.dirtyAt s pa n) := by
  unfold State.dirtyAt
  repeat' with_reducible first | assumption | apply State.markDirty_keep | refine Keep.foldl ?_ fun _ _ _ => ?_

theorem State.copyFailed_keep {s0 s : State} (h : Keep s0 s) :
    Keep s0 (State.copyFailed s) := by
  unfold State.copyFailed
  repeat' with_reducible first | assumption | refine Keep.record ?_ rfl rfl rfl rfl rfl rfl rfl rfl rfl

theorem State.mirrorBad_keep {s0 s : State} {pa n st : _} (h : Keep s0 s) :
    Keep s0 (State.mirrorBad s pa n st) := by
  unfold State.mirrorBad
  repeat' first
    | ((fail_if_success (conv => arg 2; fun)); extract_lets +onlyGivenNames y; clear_value (e : y = _); refine Keep.letVar (s0 := s0) e ?_ fun _ => ?_)
    | ((fail_if_success (conv => arg 2; fun)); extract_lets +onlyGivenNames y)
    | with_reducible first | assumption | apply State.ptnEvent_keep | apply State.dirtyAt_keep | apply State.copyFailed_keep
    | split

theorem State.reqFail_keep {s0 s : State} {r : _} (h : Keep s0 s) :
    Keep s0 (State.reqFail s r) := by
  unfold State.reqFail
  repeat' first
    | ((fail_if_success (conv => arg 2; fun)); extract_lets +onlyGivenNames y; clear_value (e : y = _); refine Keep.letVar (s0 := s0) e ?_ fun _ => ?_)
    | with_reducible first | assumption | apply State.dropReq_keep | apply State.answerTag_keep | apply State.signalLost_keep | apply State.collFinish_keep | apply State.mirrorDone_keep | apply State.mirrorBad_keep
    | split

theorem State.failReqs_keep {s0 s : State} {p : _} (h : Keep s0 s) :
    Keep s0 (State.failReqs s p) := by
  unfold State.failReqs
  repeat' first
    | with_reducible first | assumption | apply State.reqFail_keep | refine Keep.foldl ?_ fun _ _ _ => ?_
    | split

theorem State.failSignals_keep {s0 s : State} {p : _} (h : Keep s0 s) :
    Keep s0 (State.failSignals s p) := by
  unfold State.failSignals
  repeat' first
    | ((fail_if_success (conv => arg 2; fun)); extract_lets +onlyGivenNames y; clear_value (e : y = _); refine Keep.letVar (s0 := s0) e ?_ fun _ => ?_)
    | ((fail_if_success (conv => arg 2; fun)); extract_lets +onlyGivenNames y)
    | with_reducible first | assumption | apply State.signalLost_keep | refine Keep.foldl ?_ fun _ _ _ => ?_ | refine Keep.record ?_ rfl rfl rfl rfl rfl rfl rfl rfl rfl

theorem State.collCheck_keep {s0 s : State} (h : Keep s0 s) :
    Keep s0 (State.collCheck s) := by
  unfold State.collCheck
  repeat' with_reducible first | assumption | apply State.collFinish_keep | refine Keep.foldl ?_ fun _ _ _ => ?_

theorem State.takeWaiting_keep {s0 s : State} {k : _} (h : Keep s0 s) :
    KeepG s0 (State.takeWaiting s k) := by
  unfold State.takeWaiting
  repeat' with_reducible first | assumption | apply State.setWaiting_keep | refine Keep.foldl ?_ fun _ _ _ => ?_ | apply Keep.mkG

theorem State.reroute_keep {s0 s : State} {p : _} (h : Keep s0 s) :
    Keep s0 (State.reroute s p) := by
  unfold State.reroute
  repeat' first
    | with_reducible first | assumption | apply State.sendPkt_keep
    | split

theorem State.dropWaiting_keep {s0 s : State} {x : _} (h : Keep s0 s) :
    Keep s0 (State.dropWaiting s x) := by
  unfold State.dropWaiting
  repeat' with_reducible first | assumption | refine Keep.record ?_ rfl rfl rfl rfl rfl rfl rfl rfl rfl

theorem State.holdChanged_keep {s0 s : State} {old : _} (h : Keep s0 s) :
    Keep s0 (State.holdChanged s old) := by
  unfold State.holdChanged
  repeat' first
    | ((fail_if_success (conv => arg 2; fun)); extract_lets +onlyGivenNames y)
    | with_reducible first | assumption | refine Keep.record ?_ rfl rfl rfl rfl rfl rfl rfl rfl rfl

theorem State.partnerLost_keep {s0 s : State} (h : Keep s0 s) :
    Keep s0 (State.partnerLost s) := by
  unfold State.partnerLost
  repeat' first
    | ((fail_if_success (conv => arg 2; fun)); extract_lets +onlyGivenNames y; clear_value (e : y = _); refine Keep.letVar (s0 := s0) e ?_ fun _ => ?_)
    | ((fail_if_success (conv => arg 2; fun)); extract_lets +onlyGivenNames y)
    | with_reducible first | assumption | apply State.setF_keep | apply State.ptnEvent_keep
    | with_reducible (refine Keep.record ?_ rfl rfl rfl rfl rfl rfl rfl rfl rfl; first | assumption | apply State.setF_keep | apply State.ptnEvent_keep)
    | split

theorem State.lostCheck_keep {s0 s : State} (h : Keep s0 s) :
    Keep s0 (State.lostCheck s) := by
  unfold State.lostCheck
  repeat' first
    | with_reducible first | assumption | apply State.partnerLost_keep
    | split

theorem State.dropCredits_keep {s0 s : State} {k : _} (h : Keep s0 s) :
    Keep s0 (State.dropCredits s k) := by
  unfold State.dropCredits
  repeat' first
    | ((fail_if_success (conv => arg 2; fun)); extract_lets +onlyGivenNames y; clear_value (e : y = _); refine Keep.letVar (s0 := s0) e ?_ fun _ => ?_)
    | ((fail_if_success (conv => arg 2; fun)); extract_lets +onlyGivenNames y)
    | with_reducible first | assumption | apply State.clearCredits_keep | refine Keep.record ?_ rfl rfl rfl rfl rfl rfl rfl rfl rfl

theorem State.ptnLeave_keep {s0 s : State} {st : _} (h : Keep s0 s) :
    Keep s0 (State.ptnLeave s st) := by
  unfold State.ptnLeave
  repeat' first
    | ((fail_if_success (conv => arg 2; fun)); extract_lets +onlyGivenNames y; clear_value (e : y = _); refine Keep.letVar (s0 := s0) e ?_ fun _ => ?_)
    | ((fail_if_success (conv => arg 2; fun)); extract_lets +onlyGivenNames y)
    | with_reducible first | assumption | apply State.setF_keep | apply State.ptnEvent_keep | apply State.failReqs_keep | apply State.takeWaiting_keep | apply State.reroute_keep | apply State.lostCheck_keep | apply State.dropCredits_keep | refine Keep.foldl ?_ fun _ _ _ => ?_ | refine Keep.eqG (by assumption) ?_
    | with_reducible (refine Keep.record ?_ rfl rfl rfl rfl rfl rfl rfl rfl rfl; first | assumption | apply State.setF_keep | apply State.ptnEvent_keep | apply State.failReqs_keep | apply State.takeWaiting_keep | apply State.reroute_keep | apply State.lostCheck_keep | apply State.dropCredits_keep | refine Keep.foldl ?_ fun _ _ _ => ?_ | refine Keep.eqG (by assumption) ?_)
    | split

theorem State.declareDown_keep {s0 s : State} {x : _} (h : Keep s0 s) :
    Keep s0 (State.declareDown s x) := by
  unfold State.declareDown
  repeat' first
    | ((fail_if_success (conv => arg 2; fun)); extract_lets +onlyGivenNames y; clear_value (e : y = _); refine Keep.letVar (s0 := s0) e ?_ fun _ => ?_)
    | ((fail_if_success (conv => arg 2; fun)); extract_lets +onlyGivenNames y)
    | with_reducible first | assumption | apply State.setF_keep | apply State.addSat_keep | apply State.ixfEvent_keep | apply State.failReqs_keep | apply State.failSignals_keep | apply State.collCheck_keep | apply State.dropWaiting_keep | apply State.lostCheck_keep
    | with_reducible (refine Keep.record ?_ rfl rfl rfl rfl rfl rfl rfl rfl rfl; first | assumption | apply State.setF_keep | apply State.addSat_keep | apply State.ixfEvent_keep | apply State.failReqs_keep | apply State.failSignals_keep | apply State.collCheck_keep | apply State.dropWaiting_keep | apply State.lostCheck_keep)
    | split

theorem State.declareAll_keep {s0 s : State} (h : Keep s0 s) :
    Keep s0 (State.declareAll s) := by
  unfold State.declareAll
  repeat' with_reducible first | assumption | apply State.declareDown_keep | refine Keep.foldl ?_ fun _ _ _ => ?_

theorem State.isolated_keep {s0 s : State} (h : Keep s0 s) :
    Keep s0 (State.isolated s) := by
  unfold State.isolated
  repeat' first
    | with_reducible first | assumption | apply State.ixfEvent_keep | apply State.failReqs_keep | apply State.failSignals_keep | apply State.collCheck_keep
    | split

theorem State.portLeave_keep {s0 s : State} {k st : _} (h : Keep s0 s) :
    Keep s0 (State.portLeave s k st) := by
  unfold State.portLeave
  repeat' first
    | ((fail_if_success (conv => arg 2; fun)); extract_lets +onlyGivenNames y; clear_value (e : y = _); refine Keep.letVar (s0 := s0) e ?_ fun _ => ?_)
    | ((fail_if_success (conv => arg 2; fun)); extract_lets +onlyGivenNames y)
    | with_reducible first | assumption | apply State.setF_keep | apply State.clearBit_keep | apply State.ixfEvent_keep | apply State.collCheck_keep | refine Keep.ofG (State.takeWaiting_keep ?_) | apply State.reroute_keep | apply State.holdChanged_keep | apply State.dropCredits_keep | apply State.declareAll_keep | apply State.isolated_keep | refine Keep.foldl ?_ fun _ _ _ => ?_
    | split

theorem State.discard_keep {s0 s : State} {k : _} (h : Keep s0 s) :
    Keep s0 (State.discard s k) := by
  unfold State.discard
  repeat' first
    | with_reducible first | assumption | apply State.addSat_keep | apply State.ixfEvent_keep
    | split

theorem State.discardFenced_keep {s0 s : State} {k : _} (h : Keep s0 s) :
    Keep s0 (State.discardFenced s k) := by
  unfold State.discardFenced
  repeat' first
    | with_reducible first | assumption | apply State.addSat_keep
    | split

theorem State.answer_keep {s0 s : State} {k p typ st data tags : _} (h : Keep s0 s) :
    Keep s0 (State.answer s k p typ st data tags) := by
  unfold State.answer
  repeat' first
    | ((fail_if_success (conv => arg 2; fun)); extract_lets +onlyGivenNames y)
    | with_reducible first | assumption | apply State.sendLate_keep
    | with_reducible (refine Keep.record ?_ rfl rfl rfl rfl rfl rfl rfl rfl rfl; first | assumption | apply State.sendLate_keep)
    | split

theorem State.refuseFenced_keep {s0 s : State} {k p : _} (h : Keep s0 s) :
    Keep s0 (State.refuseFenced s k p) := by
  unfold State.refuseFenced
  repeat' first
    | ((fail_if_success (conv => arg 2; fun)); extract_lets +onlyGivenNames y; clear_value (e : y = _); refine Keep.letVar (s0 := s0) e ?_ fun _ => ?_)
    | with_reducible first | assumption | apply State.discardFenced_keep | apply State.answer_keep
    | split

theorem State.leaveBuffer_keep {s0 s : State} {k p : _} (h : Keep s0 s) :
    Keep s0 (State.leaveBuffer s k p) := by
  unfold State.leaveBuffer
  repeat' first
    | with_reducible first | assumption | apply State.owe_keep | apply State.payCredits_keep
    | split

theorem State.sift_keep {s0 s : State} {k t2 p act : _} (h : Keep s0 s) (hact : ∀ t, Keep s0 t → Keep s0 (act t)) :
    Keep s0 (State.sift s k t2 p act) := by
  unfold State.sift
  repeat' first
    | with_reducible first | assumption | apply State.discard_keep | apply State.refuseFenced_keep | apply State.leaveBuffer_keep | apply hact
    | split

theorem State.receive_keep {s0 s : State} {k t2 p act : _} (h : Keep s0 s) (hact : ∀ t, Keep s0 t → Keep s0 (act t)) :
    Keep s0 (State.receive s k t2 p act) := by
  unfold State.receive
  repeat' with_reducible first | assumption | apply State.leaveBuffer_keep | refine State.sift_keep ?_ (fun _ _ => ?_) | apply hact

theorem State.refusePkt_keep {s0 s : State} {k p typ : _} (h : Keep s0 s) :
    Keep s0 (State.refusePkt s k p typ) := by
  unfold State.refusePkt
  repeat' with_reducible first | assumption | apply State.ixfEvent_keep | apply State.answer_keep

/-! ### Ports -/

theorem State.setBackoff_keep {s0 s : State} {k b : _} (h : Keep s0 s) :
    Keep s0 (State.setBackoff s k b) := by
  unfold State.setBackoff
  repeat' with_reducible first | assumption | refine Keep.record ?_ rfl rfl rfl rfl rfl rfl rfl rfl rfl

theorem State.reachPlane_keep {s0 s : State} {k : _} (h : Keep s0 s) :
    Keep s0 (State.reachPlane s k) := by
  unfold State.reachPlane
  repeat' first
    | ((fail_if_success (conv => arg 2; fun)); extract_lets +onlyGivenNames y)
    | with_reducible first | assumption | refine Keep.record ?_ rfl rfl rfl rfl rfl rfl rfl rfl rfl

theorem State.portComesUp_keep {s0 s : State} {k lanes t3 : _} (h : Keep s0 s) :
    Keep s0 (State.portComesUp s k lanes t3) := by
  unfold State.portComesUp
  repeat' first
    | ((fail_if_success (conv => arg 2; fun)); extract_lets +onlyGivenNames y; clear_value (e : y = _); refine Keep.letVar (s0 := s0) e ?_ fun _ => ?_)
    | with_reducible first | assumption | apply State.setF_keep | apply State.setBit_keep | apply State.linkTrained_keep | apply State.ixfEvent_keep | apply State.holdChanged_keep | apply State.setBackoff_keep | apply State.reachPlane_keep

theorem State.portRefused_keep {s0 s : State} {k err : _} (h : Keep s0 s) :
    Keep s0 (State.portRefused s k err) := by
  unfold State.portRefused
  repeat' first
    | ((fail_if_success (conv => arg 2; fun)); extract_lets +onlyGivenNames y; clear_value (e : y = _); refine Keep.letVar (s0 := s0) e ?_ fun _ => ?_)
    | with_reducible first | assumption | apply State.setF_keep | apply State.setBackoff_keep

theorem State.portTrained_keep {s0 s : State} {k lanes err t4 : _} (h : Keep s0 s) :
    Keep s0 (State.portTrained s k lanes err t4) := by
  unfold State.portTrained
  repeat' first
    | ((fail_if_success (conv => arg 2; fun)); extract_lets +onlyGivenNames y; clear_value (e : y = _); refine Keep.letVar (s0 := s0) e ?_ fun _ => ?_)
    | with_reducible first | assumption | apply State.setF_keep | apply State.setFlag_keep | apply State.setWidths_keep
    | split

theorem execPortTrain_keep {s0 s : State} {k t1 : _} (h : Keep s0 s) :
    KeepX s0 (execPortTrain k t1 s) := by
  unfold execPortTrain
  repeat' first
    | ((fail_if_success (conv => arg 2; fun)); extract_lets +onlyGivenNames y; clear_value (e : y = _); refine Keep.letVar (s0 := s0) e ?_ fun _ => ?_)
    | ((fail_if_success (conv => arg 2; fun)); extract_lets +onlyGivenNames y)
    | with_reducible first | assumption | apply State.setF_keep | apply State.portComesUp_keep | apply State.portRefused_keep | apply State.portTrained_keep | apply Keep.next
    | split

theorem execTrainRetryTimer_keep {s0 s : State} {k : _} (h : Keep s0 s) :
    KeepX s0 (execTrainRetryTimer k s) := by
  unfold execTrainRetryTimer
  repeat' first
    | with_reducible first | assumption | apply State.setF_keep | apply Keep.next
    | split

theorem State.retrainLink_keep {s0 s : State} {k : _} (h : Keep s0 s) :
    Keep s0 (State.retrainLink s k) := by
  unfold State.retrainLink
  repeat' first
    | with_reducible first | assumption | apply State.thlLeave_keep | apply State.ptnLeave_keep | apply State.portLeave_keep
    | split

theorem execPortRetrain_keep {s0 s : State} {k : _} (h : Keep s0 s) :
    KeepX s0 (execPortRetrain k s) := by
  unfold execPortRetrain
  repeat' first
    | with_reducible first | assumption | apply State.addSat_keep | apply State.retrainLink_keep | apply Keep.next
    | split

theorem execLaneLoss_keep {s0 s : State} {k lane : _} (h : Keep s0 s) :
    KeepX s0 (execLaneLoss k lane s) := by
  unfold execLaneLoss
  repeat' first
    | ((fail_if_success (conv => arg 2; fun)); extract_lets +onlyGivenNames y; clear_value (e : y = _); refine Keep.letVar (s0 := s0) e ?_ fun _ => ?_)
    | with_reducible first | assumption | apply State.setLost_keep | apply State.retrainLink_keep | apply Keep.next
    | split

theorem State.retrainWrite_keep {s0 s : State} {k : _} (h : Keep s0 s) :
    Keep s0 (State.retrainWrite s k) := by
  unfold State.retrainWrite
  repeat' first
    | ((fail_if_success (conv => arg 2; fun)); extract_lets +onlyGivenNames y; clear_value (e : y = _); refine Keep.letVar (s0 := s0) e ?_ fun _ => ?_)
    | ((fail_if_success (conv => arg 2; fun)); extract_lets +onlyGivenNames y)
    | with_reducible first | assumption | apply State.setF_keep | apply State.portLeave_keep
    | split

theorem execPortRetrainWrite_keep {s0 s : State} {k : _} (h : Keep s0 s) :
    KeepX s0 (execPortRetrainWrite k s) := by
  unfold execPortRetrainWrite
  repeat' first
    | with_reducible first | assumption | apply State.retrainWrite_keep | apply Keep.next
    | split

theorem State.portEnable_keep {s0 s : State} {k v : _} (h : Keep s0 s) :
    Keep s0 (State.portEnable s k v) := by
  unfold State.portEnable
  repeat' first
    | ((fail_if_success (conv => arg 2; fun)); extract_lets +onlyGivenNames y; clear_value (e : y = _); refine Keep.letVar (s0 := s0) e ?_ fun _ => ?_)
    | ((fail_if_success (conv => arg 2; fun)); extract_lets +onlyGivenNames y)
    | with_reducible first | assumption | apply State.setF_keep | apply State.portLeave_keep | apply State.setBackoff_keep
    | split

theorem execPortEnableWrite_keep {s0 s : State} {k value : _} (h : Keep s0 s) :
    KeepX s0 (execPortEnableWrite k value s) := by
  unfold execPortEnableWrite
  repeat' first
    | with_reducible first | assumption | apply State.portEnable_keep | apply Keep.next
    | split

theorem State.portPark_keep {s0 s : State} {k v : _} (h : Keep s0 s) :
    Keep s0 (State.portPark s k v) := by
  unfold State.portPark
  repeat' first
    | ((fail_if_success (conv => arg 2; fun)); extract_lets +onlyGivenNames y; clear_value (e : y = _); refine Keep.letVar (s0 := s0) e ?_ fun _ => ?_)
    | with_reducible first | assumption | apply State.setF_keep | apply State.portLeave_keep | apply State.turnOn_keep | apply State.turnOff_keep
    | split

theorem execPortParkWrite_keep {s0 s : State} {k value : _} (h : Keep s0 s) :
    KeepX s0 (execPortParkWrite k value s) := by
  unfold execPortParkWrite
  repeat' first
    | with_reducible first | assumption | apply State.portPark_keep | apply Keep.next
    | split

theorem State.setReach_keep {s0 s : State} {k x on : _} (h : Keep s0 s) :
    Keep s0 (State.setReach s k x on) := by
  unfold State.setReach
  repeat' first
    | ((fail_if_success (conv => arg 2; fun)); extract_lets +onlyGivenNames y)
    | with_reducible first | assumption | refine Keep.record ?_ rfl rfl rfl rfl rfl rfl rfl rfl rfl

theorem State.setDown_keep {s0 s : State} {k x on : _} (h : Keep s0 s) :
    Keep s0 (State.setDown s k x on) := by
  unfold State.setDown
  repeat' first
    | ((fail_if_success (conv => arg 2; fun)); extract_lets +onlyGivenNames y)
    | with_reducible first | assumption | refine Keep.record ?_ rfl rfl rfl rfl rfl rfl rfl rfl rfl

theorem State.notice_keep {s0 s : State} {k sub p after : _} (h : Keep s0 s) (hafter : ∀ t, Keep s0 t → Keep s0 (after t)) :
    Keep s0 (State.notice s k sub p after) := by
  unfold State.notice
  repeat' first
    | with_reducible first | assumption | apply State.collCheck_keep | apply State.holdChanged_keep | refine State.receive_keep ?_ (fun _ _ => ?_) | apply State.setReach_keep | apply State.setDown_keep | apply hafter
    | split

theorem execNoticeDown_keep {s0 s : State} {k p : _} (h : Keep s0 s) :
    KeepX s0 (execNoticeDown k p s) := by
  unfold execNoticeDown
  repeat' with_reducible first | assumption | apply State.addSat_keep | apply State.declareDown_keep | refine State.notice_keep ?_ (fun _ _ => ?_) | apply Keep.next

theorem execNoticeUp_keep {s0 s : State} {k p : _} (h : Keep s0 s) :
    KeepX s0 (execNoticeUp k p s) := by
  unfold execNoticeUp
  exact Keep.next (State.notice_keep h fun _ k => k)

theorem State.unreached_keep {s0 s : State} {x tag : _} (h : Keep s0 s) :
    Keep s0 (State.unreached s x tag) := by
  unfold State.unreached
  repeat' first
    | with_reducible first | assumption | apply State.collFinish_keep | apply State.reqFail_keep
    | split

theorem execNoticeUnreach_keep {s0 s : State} {k p : _} (h : Keep s0 s) :
    KeepX s0 (execNoticeUnreach k p s) := by
  unfold execNoticeUnreach
  repeat' with_reducible first | assumption | apply State.addSat_keep | refine State.notice_keep ?_ (fun _ _ => ?_) | apply State.unreached_keep | apply Keep.next

theorem execNoticeParked_keep {s0 s : State} {k p : _} (h : Keep s0 s) :
    KeepX s0 (execNoticeParked k p s) := by
  unfold execNoticeParked
  exact Keep.next (State.notice_keep h fun _ k => k)

theorem execHashSetResume_keep {s0 s : State} {x : _} (h : Keep s0 s) :
    KeepX s0 (execHashSetResume x s) := by
  unfold execHashSetResume
  repeat' first
    | with_reducible first | assumption | apply Keep.next
    | with_reducible (refine Keep.record ?_ rfl rfl rfl rfl rfl rfl rfl rfl rfl; first | assumption | apply Keep.next)
    | split

theorem State.fenceClear_keep {s0 s : State} {x : _} (h : Keep s0 s) :
    Keep s0 (State.fenceClear s x) := by
  unfold State.fenceClear
  repeat' with_reducible first | assumption | apply State.declareDown_keep | refine Keep.record ?_ rfl rfl rfl rfl rfl rfl rfl rfl rfl

theorem execFenceClr_keep {s0 s : State} {x : _} (h : Keep s0 s) :
    KeepX s0 (execFenceClr x s) := by
  unfold execFenceClr
  repeat' first
    | with_reducible first | assumption | apply State.fenceClear_keep | apply Keep.next
    | split

theorem State.reachQuery_keep {s0 s : State} {x : _} (h : Keep s0 s) :
    Keep s0 (State.reachQuery s x) := by
  unfold State.reachQuery
  repeat' with_reducible first | assumption | apply State.setF_keep | apply State.setFlag_keep

theorem execReachQuery_keep {s0 s : State} {x : _} (h : Keep s0 s) :
    KeepX s0 (execReachQuery x s) := by
  unfold execReachQuery
  repeat' first
    | with_reducible first | assumption | apply State.reachQuery_keep | apply Keep.next
    | split

theorem execRemoteAckTimeout_keep {s0 s : State} {tag : _} (h : Keep s0 s) :
    KeepX s0 (execRemoteAckTimeout tag s) := by
  unfold execRemoteAckTimeout
  repeat' first
    | with_reducible first | assumption | apply State.reqFail_keep | apply Keep.next
    | split

theorem State.grpCommit_keep {s0 s : State} {g : _} (h : Keep s0 s) :
    Keep s0 (State.grpCommit s g) := by
  unfold State.grpCommit
  repeat' first
    | ((fail_if_success (conv => arg 2; fun)); extract_lets +onlyGivenNames y; clear_value (e : y = _); refine Keep.letVar (s0 := s0) e ?_ fun _ => ?_)
    | with_reducible first | assumption | apply State.setF_keep
    | with_reducible (refine Keep.record ?_ rfl rfl rfl rfl rfl rfl rfl rfl rfl; first | assumption | apply State.setF_keep)
    | split

theorem State.idValid_keep {s0 s : State} (h : Keep s0 s) :
    Keep s0 (State.idValid s) := by
  unfold State.idValid
  repeat' first
    | ((fail_if_success (conv => arg 2; fun)); extract_lets +onlyGivenNames y; clear_value (e : y = _); refine Keep.letVar (s0 := s0) e ?_ fun _ => ?_)
    | with_reducible first | assumption | apply State.setF_keep | refine Keep.foldl ?_ fun _ _ _ => ?_
    | split

theorem State.commitIxf_keep {s0 s : State} (h : Keep s0 s) :
    Keep s0 (State.commitIxf s) := by
  unfold State.commitIxf
  repeat' first
    | ((fail_if_success (conv => arg 2; fun)); extract_lets +onlyGivenNames y; clear_value (e : y = _); refine Keep.letVar (s0 := s0) e ?_ fun _ => ?_)
    | ((fail_if_success (conv => arg 2; fun)); extract_lets +onlyGivenNames y)
    | with_reducible first | assumption | apply State.setF_keep | apply State.commitAll_keep | apply State.commitRange_keep | apply State.grpCommit_keep | apply State.idValid_keep | refine Keep.foldl ?_ fun _ _ _ => ?_
    | split

theorem execIxfCommit_keep {s0 s : State} (h : Keep s0 s) :
    KeepX s0 (execIxfCommit s) := by
  unfold execIxfCommit
  repeat' first
    | with_reducible first | assumption | apply State.commitIxf_keep | apply Keep.next
    | split

/-! ### Packets -/

theorem State.drainChan_keep {s0 s : State} {z0 z2 : _} (h : Keep s0 s) :
    Keep s0 (State.drainChan z0 s z2) := by
  induction z0 generalizing s z2 with
  | zero =>
    unfold State.drainChan
    repeat' first
      | with_reducible first | assumption | apply State.returnChan_keep | apply ih
      | with_reducible (refine Keep.record ?_ rfl rfl rfl rfl rfl rfl rfl rfl rfl; first | assumption | apply State.returnChan_keep | apply ih)
      | split
  | succ n ih =>
    unfold State.drainChan
    repeat' first
      | with_reducible first | assumption | apply State.returnChan_keep | apply ih
      | with_reducible (refine Keep.record ?_ rfl rfl rfl rfl rfl rfl rfl rfl rfl; first | assumption | apply State.returnChan_keep | apply ih)
      | split

theorem State.joinChan_keep {s0 s : State} {port vc key : _} (h : Keep s0 s) :
    Keep s0 (State.joinChan s port vc key) := by
  unfold State.joinChan
  repeat' first
    | ((fail_if_success (conv => arg 2; fun)); extract_lets +onlyGivenNames y)
    | with_reducible first | assumption
    | with_reducible (refine Keep.record ?_ rfl rfl rfl rfl rfl rfl rfl rfl rfl; first | assumption)
    | split

theorem State.leaveChans_keep {s0 s : State} {port vc : _} (h : Keep s0 s) :
    Keep s0 (State.leaveChans s port vc) := by
  unfold State.leaveChans
  repeat' first
    | ((fail_if_success (conv => arg 2; fun)); extract_lets +onlyGivenNames y; clear_value (e : y = _); refine Keep.letVar (s0 := s0) e ?_ fun _ => ?_)
    | ((fail_if_success (conv => arg 2; fun)); extract_lets +onlyGivenNames y)
    | with_reducible first | assumption | apply State.drainChan_keep | refine Keep.foldl ?_ fun _ _ _ => ?_ | refine Keep.record ?_ rfl rfl rfl rfl rfl rfl rfl rfl rfl

theorem State.withChans_keep {s0 s : State} {port vc a n act : _} (h : Keep s0 s) (hact : ∀ t, Keep s0 t → Keep s0 (act t)) :
    KeepF s0 (State.withChans s port vc a n act) := by
  unfold State.withChans
  repeat' first
    | with_reducible first | assumption | apply State.joinChan_keep | apply hact | refine Keep.foldl ?_ fun _ _ _ => ?_
    | split
    | with_reducible apply Keep.mkF

theorem State.doWrMem_keep {s0 s : State} {k p mecc : _} (h : Keep s0 s) :
    KeepF s0 (State.doWrMem s k p mecc) := by
  unfold State.doWrMem
  repeat' first
    | ((fail_if_success (conv => arg 2; fun)); extract_lets +onlyGivenNames y)
    | with_reducible first | assumption | refine Keep.ofF (State.memWrite_keep ?_) | apply State.answer_keep | apply State.refusePkt_keep | refine State.withChans_keep ?_ (fun _ _ => ?_)
    | split
    | with_reducible apply Keep.mkF

theorem State.doWrClu_keep {s0 s : State} {k p : _} (h : Keep s0 s) :
    Keep s0 (State.doWrClu s k p) := by
  unfold State.doWrClu
  repeat' first
    | with_reducible first | assumption | apply State.putStore_keep | apply State.answer_keep | apply State.refusePkt_keep
    | split

theorem State.doAddClu_keep {s0 s : State} {k p ecc : _} (h : Keep s0 s) :
    Keep s0 (State.doAddClu s k p ecc) := by
  unfold State.doAddClu
  repeat' first
    | with_reducible first | assumption | refine Keep.ofF (State.storeDeliver_keep ?_) | apply State.answer_keep | apply State.refusePkt_keep
    | split

theorem State.doRdMem_keep {s0 s : State} {k p mecc : _} (h : Keep s0 s) :
    KeepF s0 (State.doRdMem s k p mecc) := by
  unfold State.doRdMem
  repeat' first
    | ((fail_if_success (conv => arg 2; fun)); extract_lets +onlyGivenNames y)
    | with_reducible first | assumption | refine Keep.ofF (State.memRead_keep ?_) | apply State.answer_keep | apply State.refusePkt_keep | refine State.withChans_keep ?_ (fun _ _ => ?_)
    | split
    | with_reducible apply Keep.mkF

theorem State.doRdClu_keep {s0 s : State} {k p ecc : _} (h : Keep s0 s) :
    Keep s0 (State.doRdClu s k p ecc) := by
  unfold State.doRdClu
  repeat' first
    | ((fail_if_success (conv => arg 2; fun)); extract_lets +onlyGivenNames y)
    | with_reducible first | assumption | apply State.storeRead_keep | apply State.answer_keep | apply State.refusePkt_keep | refine Keep.eqF (by assumption) ?_
    | with_reducible (refine Keep.record ?_ rfl rfl rfl rfl rfl rfl rfl rfl rfl; first | assumption | apply State.storeRead_keep | apply State.answer_keep | apply State.refusePkt_keep | refine Keep.eqF (by assumption) ?_)
    | split

theorem State.doSig_keep {s0 s : State} {k p : _} (h : Keep s0 s) :
    Keep s0 (State.doSig s k p) := by
  unfold State.doSig
  repeat' first
    | ((fail_if_success (conv => arg 2; fun)); extract_lets +onlyGivenNames y; clear_value (e : y = _); refine Keep.letVar (s0 := s0) e ?_ fun _ => ?_)
    | ((fail_if_success (conv => arg 2; fun)); extract_lets +onlyGivenNames y)
    | with_reducible first | assumption | apply State.setF_keep | apply State.gateErr_keep | refine Keep.ofF (State.gateSignal_keep ?_) | apply State.answer_keep
    | split

theorem State.doMirWr_keep {s0 s : State} {p mecc : _} (h : Keep s0 s) :
    KeepF s0 (State.doMirWr s p mecc) := by
  unfold State.doMirWr
  repeat' first
    | with_reducible first | assumption | refine Keep.ofF (State.memWrite_keep ?_) | apply State.answer_keep | refine State.withChans_keep ?_ (fun _ _ => ?_)
    | split
    | with_reducible apply Keep.mkF

theorem State.doSummary_keep {s0 s : State} {p : _} (h : Keep s0 s) :
    Keep s0 (State.doSummary s p) := by
  unfold State.doSummary
  repeat' first
    | ((fail_if_success (conv => arg 2; fun)); extract_lets +onlyGivenNames y; clear_value (e : y = _); refine Keep.letVar (s0 := s0) e ?_ fun _ => ?_)
    | with_reducible first | assumption | apply State.setF_keep | refine Keep.foldl ?_ fun _ _ _ => ?_

theorem State.doCollReady_keep {s0 s : State} {p mecc : _} (h : Keep s0 s) :
    Keep s0 (State.doCollReady s p mecc) := by
  unfold State.doCollReady
  repeat' first
    | ((fail_if_success (conv => arg 2; fun)); extract_lets +onlyGivenNames y)
    | with_reducible first | assumption | apply State.addSat_keep | apply State.takeReady_keep
    | with_reducible (refine Keep.record ?_ rfl rfl rfl rfl rfl rfl rfl rfl rfl; first | assumption | apply State.addSat_keep | apply State.takeReady_keep)
    | split

theorem State.collApply_keep {s0 s : State} {a add b ecc : _} (h : Keep s0 s) :
    KeepF s0 (State.collApply s a add b ecc) := by
  unfold State.collApply
  repeat' first
    | ((fail_if_success (conv => arg 2; fun)); extract_lets +onlyGivenNames y)
    | with_reducible first | assumption | apply State.memRead_keep | apply State.memWrite_keep | refine Keep.eqF (by assumption) ?_
    | with_reducible (refine Keep.record ?_ rfl rfl rfl rfl rfl rfl rfl rfl rfl; first | assumption | apply State.memRead_keep | apply State.memWrite_keep | refine Keep.eqF (by assumption) ?_)
    | split
    | with_reducible apply Keep.mkF

theorem State.doCollData_keep {s0 s : State} {k p mecc : _} (h : Keep s0 s) :
    KeepF s0 (State.doCollData s k p mecc) := by
  unfold State.doCollData
  repeat' first
    | ((fail_if_success (conv => arg 2; fun)); extract_lets +onlyGivenNames y)
    | with_reducible first | assumption | apply State.setColl_keep | apply State.collFinish_keep | apply State.collPush_keep | apply State.discard_keep | apply State.answer_keep | refine State.withChans_keep ?_ (fun _ _ => ?_) | apply State.collApply_keep | refine Keep.eqF (by assumption) ?_
    | with_reducible (refine Keep.record ?_ rfl rfl rfl rfl rfl rfl rfl rfl rfl; first | assumption | apply State.setColl_keep | apply State.collFinish_keep | apply State.collPush_keep | apply State.discard_keep | apply State.answer_keep | refine State.withChans_keep ?_ (fun _ _ => ?_) | apply State.collApply_keep | refine Keep.eqF (by assumption) ?_)
    | split
    | with_reducible apply Keep.mkF

theorem State.tryPkt_keep {s0 s : State} {r : _} (h : Keep s0 s) :
    KeepF s0 (State.tryPkt s r) := by
  unfold State.tryPkt
  repeat' first
    | with_reducible first | assumption | apply State.doWrMem_keep | apply State.doWrClu_keep | apply State.doAddClu_keep | apply State.doRdMem_keep | apply State.doRdClu_keep | apply State.doSig_keep | apply State.doMirWr_keep | apply State.doSummary_keep | apply State.doCollReady_keep | apply State.doCollData_keep
    | split
    | with_reducible apply Keep.mkF

theorem State.bufferPkt_keep {s0 s : State} {r : _} (h : Keep s0 s) :
    Keep s0 (State.bufferPkt s r) := by
  unfold State.bufferPkt
  repeat' with_reducible first | assumption | refine Keep.record ?_ rfl rfl rfl rfl rfl rfl rfl rfl rfl

theorem State.servePkt_keep {s0 s : State} {r : _} (h : Keep s0 s) :
    KeepF s0 (State.servePkt s r) := by
  unfold State.servePkt
  repeat' first
    | ((fail_if_success (conv => arg 2; fun)); extract_lets +onlyGivenNames y)
    | with_reducible first | assumption | apply State.refuseFenced_keep | apply State.leaveBuffer_keep | apply State.leaveChans_keep | apply State.tryPkt_keep | apply State.bufferPkt_keep | refine Keep.eqF (by assumption) ?_
    | with_reducible (refine Keep.record ?_ rfl rfl rfl rfl rfl rfl rfl rfl rfl; first | assumption | apply State.refuseFenced_keep | apply State.leaveBuffer_keep | apply State.leaveChans_keep | apply State.tryPkt_keep | apply State.bufferPkt_keep | refine Keep.eqF (by assumption) ?_)
    | split
    | with_reducible apply Keep.mkF

theorem State.serveBuffers_keep {s0 s : State} {held z2 : _} (h : Keep s0 s) :
    Keep s0 (State.serveBuffers s held z2) := by
  induction z2 generalizing s held with
  | nil =>
    unfold State.serveBuffers
    repeat' first
      | ((fail_if_success (conv => arg 2; fun)); extract_lets +onlyGivenNames y)
      | with_reducible first | assumption | apply State.bufferPkt_keep | apply State.servePkt_keep | apply ih | refine Keep.eqF (by assumption) ?_
      | with_reducible (refine Keep.record ?_ rfl rfl rfl rfl rfl rfl rfl rfl rfl; first | assumption | apply State.bufferPkt_keep | apply State.servePkt_keep | apply ih | refine Keep.eqF (by assumption) ?_)
      | split
  | cons hd tl ih =>
    unfold State.serveBuffers
    repeat' first
      | ((fail_if_success (conv => arg 2; fun)); extract_lets +onlyGivenNames y)
      | with_reducible first | assumption | apply State.bufferPkt_keep | apply State.servePkt_keep | apply ih | refine Keep.eqF (by assumption) ?_
      | with_reducible (refine Keep.record ?_ rfl rfl rfl rfl rfl rfl rfl rfl rfl; first | assumption | apply State.bufferPkt_keep | apply State.servePkt_keep | apply ih | refine Keep.eqF (by assumption) ?_)
      | split

theorem State.serveRx_keep {s0 s : State} (h : Keep s0 s) :
    Keep s0 (State.serveRx s) := by
  unfold State.serveRx
  repeat' with_reducible first | assumption | apply State.serveBuffers_keep | refine Keep.record ?_ rfl rfl rfl rfl rfl rfl rfl rfl rfl

theorem State.takeRx_keep {s0 s : State} {k t2 p mecc ecc : _} (h : Keep s0 s) :
    Keep s0 (State.takeRx s k t2 p mecc ecc) := by
  unfold State.takeRx
  repeat' with_reducible first | assumption | refine State.sift_keep ?_ (fun _ _ => ?_) | apply State.bufferPkt_keep | apply State.serveRx_keep

theorem execWrMem_keep {s0 s : State} {k p mecc : _} (h : Keep s0 s) :
    KeepX s0 (execWrMem k p mecc s) := by
  unfold execWrMem
  repeat' with_reducible first | assumption | apply State.takeRx_keep | apply Keep.next

theorem execWrClu_keep {s0 s : State} {k p : _} (h : Keep s0 s) :
    KeepX s0 (execWrClu k p s) := by
  unfold execWrClu
  repeat' with_reducible first | assumption | apply State.takeRx_keep | apply Keep.next

theorem execAddClu_keep {s0 s : State} {k p ecc : _} (h : Keep s0 s) :
    KeepX s0 (execAddClu k p ecc s) := by
  unfold execAddClu
  repeat' with_reducible first | assumption | apply State.takeRx_keep | apply Keep.next

theorem execRdMem_keep {s0 s : State} {k p mecc : _} (h : Keep s0 s) :
    KeepX s0 (execRdMem k p mecc s) := by
  unfold execRdMem
  repeat' with_reducible first | assumption | apply State.takeRx_keep | apply Keep.next

theorem execRdClu_keep {s0 s : State} {k p ecc : _} (h : Keep s0 s) :
    KeepX s0 (execRdClu k p ecc s) := by
  unfold execRdClu
  repeat' with_reducible first | assumption | apply State.takeRx_keep | apply Keep.next

theorem execSig_keep {s0 s : State} {k p : _} (h : Keep s0 s) :
    KeepX s0 (execSig k p s) := by
  unfold execSig
  repeat' with_reducible first | assumption | apply State.takeRx_keep | apply Keep.next

theorem execCollReady_keep {s0 s : State} {k p mecc : _} (h : Keep s0 s) :
    KeepX s0 (execCollReady k p mecc s) := by
  unfold execCollReady
  repeat' with_reducible first | assumption | apply State.takeRx_keep | apply Keep.next

theorem execCollData_keep {s0 s : State} {k p mecc : _} (h : Keep s0 s) :
    KeepX s0 (execCollData k p mecc s) := by
  unfold execCollData
  repeat' with_reducible first | assumption | apply State.takeRx_keep | apply Keep.next

theorem execMirWr_keep {s0 s : State} {p mecc : _} (h : Keep s0 s) :
    KeepX s0 (execMirWr p mecc s) := by
  unfold execMirWr
  repeat' with_reducible first | assumption | apply State.takeRx_keep | apply Keep.next

theorem execSummary_keep {s0 s : State} {p : _} (h : Keep s0 s) :
    KeepX s0 (execSummary p s) := by
  unfold execSummary
  repeat' with_reducible first | assumption | apply State.takeRx_keep | apply Keep.next

theorem execRdRsp_keep {s0 s : State} {k p ecc : _} (h : Keep s0 s) :
    KeepX s0 (execRdRsp k p ecc s) := by
  unfold execRdRsp
  repeat' first
    | ((fail_if_success (conv => arg 2; fun)); extract_lets +onlyGivenNames y; clear_value (e : y = _); refine Keep.letVar (s0 := s0) e ?_ fun _ => ?_)
    | with_reducible first | assumption | apply State.dropReq_keep | apply State.pieceData_keep | apply State.answerTag_keep | refine State.receive_keep ?_ (fun _ _ => ?_) | apply Keep.next
    | split

theorem execWrAck_keep {s0 s : State} {k p : _} (h : Keep s0 s) :
    KeepX s0 (execWrAck k p s) := by
  unfold execWrAck
  repeat' first
    | with_reducible first | assumption | apply State.dropReq_keep | apply State.answerTag_keep | refine State.receive_keep ?_ (fun _ _ => ?_) | apply Keep.next
    | split

theorem execSigAck_keep {s0 s : State} {k p : _} (h : Keep s0 s) :
    KeepX s0 (execSigAck k p s) := by
  unfold execSigAck
  repeat' first
    | ((fail_if_success (conv => arg 2; fun)); extract_lets +onlyGivenNames y; clear_value (e : y = _); refine Keep.letVar (s0 := s0) e ?_ fun _ => ?_)
    | with_reducible first | assumption | apply State.dropReq_keep | apply State.gateErr_keep | apply State.signalLost_keep | refine State.receive_keep ?_ (fun _ _ => ?_) | apply Keep.next
    | split

theorem execCollAck_keep {s0 s : State} {k p : _} (h : Keep s0 s) :
    KeepX s0 (execCollAck k p s) := by
  unfold execCollAck
  repeat' first
    | ((fail_if_success (conv => arg 2; fun)); extract_lets +onlyGivenNames y; clear_value (e : y = _); refine Keep.letVar (s0 := s0) e ?_ fun _ => ?_)
    | with_reducible first | assumption | apply State.dropReq_keep | apply State.setColl_keep | apply State.collFinish_keep | refine State.receive_keep ?_ (fun _ _ => ?_) | apply Keep.next
    | split

theorem execMirAck_keep {s0 s : State} {p : _} (h : Keep s0 s) :
    KeepX s0 (execMirAck p s) := by
  unfold execMirAck
  repeat' first
    | ((fail_if_success (conv => arg 2; fun)); extract_lets +onlyGivenNames y; clear_value (e : y = _); refine Keep.letVar (s0 := s0) e ?_ fun _ => ?_)
    | with_reducible first | assumption | apply State.mirrorDone_keep | apply State.mirrorBad_keep | refine State.receive_keep ?_ (fun _ _ => ?_) | apply Keep.next
    | split

theorem execBurstComplete_keep {s0 s : State} {c j i ecc : _} (h : Keep s0 s) :
    KeepX s0 (execBurstComplete c j i ecc s) := by
  unfold execBurstComplete
  repeat' with_reducible first | assumption | apply State.burstDone_keep | apply State.serveRx_keep | apply Keep.next

theorem execCreditIdleReturn_keep {s0 s : State} {c link key : _} (h : Keep s0 s) :
    KeepX s0 (execCreditIdleReturn c link key s) := by
  unfold execCreditIdleReturn
  repeat' first
    | ((fail_if_success (conv => arg 2; fun)); extract_lets +onlyGivenNames y; clear_value (e : y = _); refine Keep.letVar (s0 := s0) e ?_ fun _ => ?_)
    | ((fail_if_success (conv => arg 2; fun)); extract_lets +onlyGivenNames y)
    | with_reducible first | assumption | apply State.modCl_keep | apply State.returnChan_keep | apply State.returnLinks_keep | apply State.serveRx_keep | apply Keep.next
    | split

theorem execMemBurstTimeout_keep {s0 s : State} {c j i : _} (h : Keep s0 s) :
    KeepX s0 (execMemBurstTimeout c j i s) := by
  unfold execMemBurstTimeout
  repeat' first
    | with_reducible first | assumption | apply State.failDma_keep | apply State.setPiece_keep | apply State.endPiece_keep | apply State.serveRx_keep | apply Keep.next
    | split

/-! ### Partner -/

theorem State.sendSummary_keep {s0 s : State} (h : Keep s0 s) :
    Keep s0 (State.sendSummary s) := by
  unfold State.sendSummary
  repeat' first
    | with_reducible first | assumption | apply State.sendPkt_keep | refine Keep.ofG (State.takeTag_keep ?_)
    | with_reducible (refine Keep.record ?_ rfl rfl rfl rfl rfl rfl rfl rfl rfl; first | assumption | apply State.sendPkt_keep | refine Keep.ofG (State.takeTag_keep ?_))
    | split

theorem execSummaryTimeout_keep {s0 s : State} (h : Keep s0 s) :
    KeepX s0 (execSummaryTimeout s) := by
  unfold execSummaryTimeout
  repeat' first
    | with_reducible first | assumption | apply State.partnerLost_keep | apply Keep.next
    | split

theorem State.ptnTrained_keep {s0 s : State} {lanes err t3 : _} (h : Keep s0 s) :
    Keep s0 (State.ptnTrained s lanes err t3) := by
  unfold State.ptnTrained
  repeat' first
    | ((fail_if_success (conv => arg 2; fun)); extract_lets +onlyGivenNames y; clear_value (e : y = _); refine Keep.letVar (s0 := s0) e ?_ fun _ => ?_)
    | with_reducible first | assumption | apply State.setF_keep | apply State.setWidths_keep
    | split

theorem State.ptnComesUp_keep {s0 s : State} {lanes t2 st : _} (h : Keep s0 s) :
    Keep s0 (State.ptnComesUp s lanes t2 st) := by
  unfold State.ptnComesUp
  repeat' first
    | ((fail_if_success (conv => arg 2; fun)); extract_lets +onlyGivenNames y; clear_value (e : y = _); refine Keep.letVar (s0 := s0) e ?_ fun _ => ?_)
    | ((fail_if_success (conv => arg 2; fun)); extract_lets +onlyGivenNames y)
    | with_reducible first | assumption | apply State.setF_keep | apply State.linkTrained_keep | apply State.ptnEvent_keep | refine Keep.record ?_ rfl rfl rfl rfl rfl rfl rfl rfl rfl

theorem State.ptnRefused_keep {s0 s : State} {err : _} (h : Keep s0 s) :
    Keep s0 (State.ptnRefused s err) := by
  unfold State.ptnRefused
  repeat' first
    | ((fail_if_success (conv => arg 2; fun)); extract_lets +onlyGivenNames y; clear_value (e : y = _); refine Keep.letVar (s0 := s0) e ?_ fun _ => ?_)
    | with_reducible first | assumption | apply State.setF_keep | apply State.lostCheck_keep | refine Keep.record ?_ rfl rfl rfl rfl rfl rfl rfl rfl rfl

theorem execPtnTrain_keep {s0 s : State} {t0 : _} (h : Keep s0 s) :
    KeepX s0 (execPtnTrain t0 s) := by
  unfold execPtnTrain
  repeat' first
    | ((fail_if_success (conv => arg 2; fun)); extract_lets +onlyGivenNames y; clear_value (e : y = _); refine Keep.letVar (s0 := s0) e ?_ fun _ => ?_)
    | ((fail_if_success (conv => arg 2; fun)); extract_lets +onlyGivenNames y)
    | with_reducible first | assumption | apply State.setF_keep | apply State.ptnTrained_keep | apply State.ptnComesUp_keep | apply State.ptnRefused_keep | apply Keep.next
    | split

theorem execPtnLinkDown_keep {s0 s : State} {retrain : _} (h : Keep s0 s) :
    KeepX s0 (execPtnLinkDown retrain s) := by
  unfold execPtnLinkDown
  repeat' first
    | with_reducible first | assumption | apply State.ptnLeave_keep | apply Keep.next
    | with_reducible (refine Keep.record ?_ rfl rfl rfl rfl rfl rfl rfl rfl rfl; first | assumption | apply State.ptnLeave_keep | apply Keep.next)
    | split

theorem State.ptnRetrain_keep {s0 s : State} (h : Keep s0 s) :
    Keep s0 (State.ptnRetrain s) := by
  unfold State.ptnRetrain
  repeat' first
    | ((fail_if_success (conv => arg 2; fun)); extract_lets +onlyGivenNames y; clear_value (e : y = _); refine Keep.letVar (s0 := s0) e ?_ fun _ => ?_)
    | ((fail_if_success (conv => arg 2; fun)); extract_lets +onlyGivenNames y)
    | with_reducible first | assumption | apply State.setF_keep | apply State.ptnLeave_keep
    | split

theorem execPtnRetrainWrite_keep {s0 s : State} (h : Keep s0 s) :
    KeepX s0 (execPtnRetrainWrite s) := by
  unfold execPtnRetrainWrite
  repeat' first
    | with_reducible first | assumption | apply State.ptnRetrain_keep | apply Keep.next
    | split

theorem State.ptnEnable_keep {s0 s : State} {v : _} (h : Keep s0 s) :
    Keep s0 (State.ptnEnable s v) := by
  unfold State.ptnEnable
  repeat' first
    | ((fail_if_success (conv => arg 2; fun)); extract_lets +onlyGivenNames y; clear_value (e : y = _); refine Keep.letVar (s0 := s0) e ?_ fun _ => ?_)
    | ((fail_if_success (conv => arg 2; fun)); extract_lets +onlyGivenNames y)
    | with_reducible first | assumption | apply State.setF_keep | apply State.ptnLeave_keep
    | with_reducible (refine Keep.record ?_ rfl rfl rfl rfl rfl rfl rfl rfl rfl; first | assumption | apply State.setF_keep | apply State.ptnLeave_keep)
    | split

theorem State.ptnFenceClear_keep {s0 s : State} (h : Keep s0 s) :
    Keep s0 (State.ptnFenceClear s) := by
  unfold State.ptnFenceClear
  repeat' with_reducible first | assumption | apply State.setF_keep | apply State.lostCheck_keep | refine Keep.record ?_ rfl rfl rfl rfl rfl rfl rfl rfl rfl

theorem execPtnFenceClr_keep {s0 s : State} (h : Keep s0 s) :
    KeepX s0 (execPtnFenceClr s) := by
  unfold execPtnFenceClr
  repeat' first
    | with_reducible first | assumption | apply State.ptnFenceClear_keep | apply Keep.next
    | split

theorem State.commitPtn_keep {s0 s : State} (h : Keep s0 s) :
    Keep s0 (State.commitPtn s) := by
  unfold State.commitPtn
  repeat' first
    | ((fail_if_success (conv => arg 2; fun)); extract_lets +onlyGivenNames y; clear_value (e : y = _); refine Keep.letVar (s0 := s0) e ?_ fun _ => ?_)
    | ((fail_if_success (conv => arg 2; fun)); extract_lets +onlyGivenNames y)
    | with_reducible first | assumption | apply State.setF_keep | apply State.commitRange_keep | apply State.allDirty_keep | refine Keep.foldl ?_ fun _ _ _ => ?_
    | split

theorem execPtnCommit_keep {s0 s : State} (h : Keep s0 s) :
    KeepX s0 (execPtnCommit s) := by
  unfold execPtnCommit
  repeat' first
    | with_reducible first | assumption | apply State.commitPtn_keep | apply Keep.next
    | split

theorem State.copyPackets_keep {s0 s : State} {z0 z2 z3 z4 : _} (h : Keep s0 s) :
    Keep s0 (State.copyPackets z0 s z2 z3 z4) := by
  induction z0 generalizing s z2 z3 z4 with
  | zero =>
    unfold State.copyPackets
    repeat' first
      | ((fail_if_success (conv => arg 2; fun)); extract_lets +onlyGivenNames y; clear_value (e : y = _); refine Keep.letVar (s0 := s0) e ?_ fun _ => ?_)
      | ((fail_if_success (conv => arg 2; fun)); extract_lets +onlyGivenNames y)
      | with_reducible first | assumption | apply State.memRead_keep | refine Keep.ofF (State.sendMirror_keep ?_) | apply State.copyFailed_keep | apply ih | refine Keep.eqF (by assumption) ?_
      | with_reducible (refine Keep.record ?_ rfl rfl rfl rfl rfl rfl rfl rfl rfl; first | assumption | apply State.memRead_keep | refine Keep.ofF (State.sendMirror_keep ?_) | apply State.copyFailed_keep | apply ih | refine Keep.eqF (by assumption) ?_)
      | split
  | succ n ih =>
    unfold State.copyPackets
    repeat' first
      | ((fail_if_success (conv => arg 2; fun)); extract_lets +onlyGivenNames y; clear_value (e : y = _); refine Keep.letVar (s0 := s0) e ?_ fun _ => ?_)
      | ((fail_if_success (conv => arg 2; fun)); extract_lets +onlyGivenNames y)
      | with_reducible first | assumption | apply State.memRead_keep | refine Keep.ofF (State.sendMirror_keep ?_) | apply State.copyFailed_keep | apply ih | refine Keep.eqF (by assumption) ?_
      | with_reducible (refine Keep.record ?_ rfl rfl rfl rfl rfl rfl rfl rfl rfl; first | assumption | apply State.memRead_keep | refine Keep.ofF (State.sendMirror_keep ?_) | apply State.copyFailed_keep | apply ih | refine Keep.eqF (by assumption) ?_)
      | split

theorem execPartnerResync_keep {s0 s : State} (h : Keep s0 s) :
    KeepX s0 (execPartnerResync s) := by
  unfold execPartnerResync
  repeat' first
    | ((fail_if_success (conv => arg 2; fun)); extract_lets +onlyGivenNames y; clear_value (e : y = _); refine Keep.letVar (s0 := s0) e ?_ fun _ => ?_)
    | ((fail_if_success (conv => arg 2; fun)); extract_lets +onlyGivenNames y)
    | with_reducible first | assumption | apply State.setF_keep | apply State.copyPackets_keep | apply Keep.next
    | with_reducible (refine Keep.record ?_ rfl rfl rfl rfl rfl rfl rfl rfl rfl; first | assumption | apply State.setF_keep | apply State.copyPackets_keep | apply Keep.next)
    | split

theorem State.syncCheck_keep {s0 s : State} {r : _} (h : Keep s0 s) :
    Keep s0 (State.syncCheck s r) := by
  unfold State.syncCheck
  repeat' first
    | with_reducible first | assumption | apply State.setF_keep | apply State.ptnEvent_keep
    | split

theorem execResyncBlockDone_keep {s0 s : State} (h : Keep s0 s) :
    KeepX s0 (execResyncBlockDone s) := by
  unfold execResyncBlockDone
  repeat' first
    | ((fail_if_success (conv => arg 2; fun)); extract_lets +onlyGivenNames y; clear_value (e : y = _); refine Keep.letVar (s0 := s0) e ?_ fun _ => ?_)
    | ((fail_if_success (conv => arg 2; fun)); extract_lets +onlyGivenNames y)
    | with_reducible first | assumption | apply State.setF_keep | apply State.setFlag_keep | apply State.syncCheck_keep | apply Keep.next
    | with_reducible (refine Keep.record ?_ rfl rfl rfl rfl rfl rfl rfl rfl rfl; first | assumption | apply State.setF_keep | apply State.setFlag_keep | apply State.syncCheck_keep | apply Keep.next)
    | split

end Sys2Proof.Machine
end

