-- ==== Sys2Proof/Laws/KeepGrains.lean ====
section
/-!
SUPPORT. The grain budget, the row bus, power, the drive stage and Copper keep what Laws/Keep.lean names.
-/

namespace Sys2Proof.Machine

set_option linter.all false

/-! ### GrainOps -/

theorem State.grbEvent_keep {s0 s : State} {bit : _} (h : Keep s0 s) :
    Keep s0 (State.grbEvent s bit) := by
  unfold State.grbEvent
  repeat' first
    | ((fail_if_success (conv => arg 2; fun)); extract_lets +onlyGivenNames y)
    | with_reducible first | assumption | apply State.postBit_keep

theorem State.setApplied_keep {s0 s : State} {uw : _} (h : Keep s0 s) :
    Keep s0 (State.setApplied s uw) := by
  unfold State.setApplied
  repeat' first
    | ((fail_if_success (conv => arg 2; fun)); extract_lets +onlyGivenNames y; clear_value (e : y = _); refine Keep.letVar (s0 := s0) e ?_ fun _ => ?_)
    | ((fail_if_success (conv => arg 2; fun)); extract_lets +onlyGivenNames y)
    | with_reducible first | assumption | apply State.setF_keep | apply State.setFlag_keep | refine Keep.record ?_ rfl rfl rfl rfl rfl rfl rfl rfl rfl

theorem State.setThermal_keep {s0 s : State} {uw : _} (h : Keep s0 s) :
    Keep s0 (State.setThermal s uw) := by
  unfold State.setThermal
  repeat' with_reducible first | assumption | apply State.setF_keep | refine Keep.record ?_ rfl rfl rfl rfl rfl rfl rfl rfl rfl

theorem State.divideCaps_keep {s0 s : State} (h : Keep s0 s) :
    Keep s0 (State.divideCaps s) := by
  unfold State.divideCaps
  repeat' first
    | ((fail_if_success (conv => arg 2; fun)); extract_lets +onlyGivenNames y; clear_value (e : y = _); refine Keep.letVar (s0 := s0) e ?_ fun _ => ?_)
    | ((fail_if_success (conv => arg 2; fun)); extract_lets +onlyGivenNames y)
    | with_reducible first | assumption | apply State.setF_keep | apply State.setFlag_keep | apply State.modDie_keep | apply State.grbEvent_keep | refine Keep.foldl ?_ fun _ _ _ => ?_
    | split

theorem State.bindingCheck_keep {s0 s : State} (h : Keep s0 s) :
    Keep s0 (State.bindingCheck s) := by
  unfold State.bindingCheck
  repeat' first
    | ((fail_if_success (conv => arg 2; fun)); extract_lets +onlyGivenNames y; clear_value (e : y = _); refine Keep.letVar (s0 := s0) e ?_ fun _ => ?_)
    | ((fail_if_success (conv => arg 2; fun)); extract_lets +onlyGivenNames y)
    | with_reducible first | assumption | apply State.setF_keep | apply State.sendCapStatus_keep | apply State.grbEvent_keep
    | with_reducible (refine Keep.record ?_ rfl rfl rfl rfl rfl rfl rfl rfl rfl; first | assumption | apply State.setF_keep | apply State.sendCapStatus_keep | apply State.grbEvent_keep)
    | split

theorem State.clipReserve_keep {s0 s : State} {c ceil : _} (h : Keep s0 s) :
    Keep s0 (State.clipReserve s c ceil) := by
  unfold State.clipReserve
  repeat' first
    | ((fail_if_success (conv => arg 2; fun)); extract_lets +onlyGivenNames y)
    | with_reducible first | assumption | apply State.modCl_keep | apply State.modDie_keep
    | split

theorem State.wakeReserve_keep {s0 s : State} {c : _} (h : Keep s0 s) :
    Keep s0 (State.wakeReserve s c) := by
  unfold State.wakeReserve
  repeat' first
    | with_reducible first | assumption | apply State.wake_keep
    | split

theorem State.clipDie_keep {s0 s : State} {n : _} (h : Keep s0 s) :
    Keep s0 (State.clipDie s n) := by
  unfold State.clipDie
  repeat' first
    | ((fail_if_success (conv => arg 2; fun)); extract_lets +onlyGivenNames y; clear_value (e : y = _); refine Keep.letVar (s0 := s0) e ?_ fun _ => ?_)
    | ((fail_if_success (conv => arg 2; fun)); extract_lets +onlyGivenNames y)
    | with_reducible first | assumption | apply State.modDie_keep | apply State.clipReserve_keep | refine Keep.foldl ?_ fun _ _ _ => ?_

theorem State.addProtect_keep {s0 s : State} {c : _} (h : Keep s0 s) :
    Keep s0 (State.addProtect s c) := by
  unfold State.addProtect
  repeat' first
    | with_reducible first | assumption
    | with_reducible (refine Keep.record ?_ rfl rfl rfl rfl rfl rfl rfl rfl rfl; first | assumption)
    | split

theorem State.dropProtect_keep {s0 s : State} {c : _} (h : Keep s0 s) :
    Keep s0 (State.dropProtect s c) := by
  unfold State.dropProtect
  repeat' first
    | ((fail_if_success (conv => arg 2; fun)); extract_lets +onlyGivenNames y; clear_value (e : y = _); refine Keep.letVar (s0 := s0) e ?_ fun _ => ?_)
    | ((fail_if_success (conv => arg 2; fun)); extract_lets +onlyGivenNames y)
    | with_reducible first | assumption | apply State.setFlag_keep | refine Keep.record ?_ rfl rfl rfl rfl rfl rfl rfl rfl rfl

theorem State.protFall_keep {s0 s : State} {cause capUw dieUw : _} (h : Keep s0 s) :
    Keep s0 (State.protFall s cause capUw dieUw) := by
  unfold State.protFall
  repeat' first
    | ((fail_if_success (conv => arg 2; fun)); extract_lets +onlyGivenNames y; clear_value (e : y = _); refine Keep.letVar (s0 := s0) e ?_ fun _ => ?_)
    | ((fail_if_success (conv => arg 2; fun)); extract_lets +onlyGivenNames y)
    | with_reducible first | assumption | apply State.setF_keep | apply State.modDie_keep | apply State.stopSlices_keep | apply State.grbEvent_keep | apply State.setApplied_keep | apply State.setThermal_keep | apply State.divideCaps_keep | apply State.bindingCheck_keep | apply State.clipDie_keep | apply State.addProtect_keep | refine Keep.foldl ?_ fun _ _ _ => ?_
    | with_reducible (refine Keep.record ?_ rfl rfl rfl rfl rfl rfl rfl rfl rfl; first | assumption | apply State.setF_keep | apply State.modDie_keep | apply State.stopSlices_keep | apply State.grbEvent_keep | apply State.setApplied_keep | apply State.setThermal_keep | apply State.divideCaps_keep | apply State.bindingCheck_keep | apply State.clipDie_keep | apply State.addProtect_keep | refine Keep.foldl ?_ fun _ _ _ => ?_)
    | split

theorem State.floorFall_keep {s0 s : State} {cause : _} (h : Keep s0 s) :
    Keep s0 (State.floorFall s cause) := by
  unfold State.floorFall
  repeat' with_reducible first | assumption | apply State.protFall_keep

/-! ### CoolOps -/

theorem State.sensCounts_keep {s0 s : State} (h : Keep s0 s) :
    Keep s0 (State.sensCounts s) := by
  unfold State.sensCounts
  repeat' with_reducible first | assumption | apply State.setF_keep

theorem State.setSens_keep {s0 s : State} {id r : _} (h : Keep s0 s) :
    Keep s0 (State.setSens s id r) := by
  unfold State.setSens
  repeat' with_reducible first | assumption | apply State.sensCounts_keep | refine Keep.record ?_ rfl rfl rfl rfl rfl rfl rfl rfl rfl

theorem State.takeReadings_keep {s0 s : State} {rs : _} (h : Keep s0 s) :
    Keep s0 (State.takeReadings s rs) := by
  unfold State.takeReadings
  repeat' with_reducible first | assumption | refine Keep.record ?_ rfl rfl rfl rfl rfl rfl rfl rfl rfl

theorem State.takeSources_keep {s0 s : State} {src : _} (h : Keep s0 s) :
    Keep s0 (State.takeSources s src) := by
  unfold State.takeSources
  repeat' with_reducible first | assumption | refine Keep.record ?_ rfl rfl rfl rfl rfl rfl rfl rfl rfl

theorem State.refresh_keep {s0 s : State} (h : Keep s0 s) :
    Keep s0 (State.refresh s) := by
  unfold State.refresh
  repeat' first
    | ((fail_if_success (conv => arg 2; fun)); extract_lets +onlyGivenNames y; clear_value (e : y = _); refine Keep.letVar (s0 := s0) e ?_ fun _ => ?_)
    | ((fail_if_success (conv => arg 2; fun)); extract_lets +onlyGivenNames y)
    | with_reducible first | assumption | apply State.setF_keep | refine Keep.foldl ?_ fun _ _ _ => ?_
    | with_reducible (refine Keep.record ?_ rfl rfl rfl rfl rfl rfl rfl rfl rfl; first | assumption | apply State.setF_keep | refine Keep.foldl ?_ fun _ _ _ => ?_)
    | split

theorem State.refreshLeak_keep {s0 s : State} (h : Keep s0 s) :
    Keep s0 (State.refreshLeak s) := by
  unfold State.refreshLeak
  repeat' first
    | with_reducible first | assumption | apply State.setF_keep | refine Keep.foldl ?_ fun _ _ _ => ?_
    | split

theorem State.refactor_keep {s0 s : State} (h : Keep s0 s) :
    Keep s0 (State.refactor s) := by
  unfold State.refactor
  repeat' first
    | ((fail_if_success (conv => arg 2; fun)); extract_lets +onlyGivenNames y; clear_value (e : y = _); refine Keep.letVar (s0 := s0) e ?_ fun _ => ?_)
    | ((fail_if_success (conv => arg 2; fun)); extract_lets +onlyGivenNames y)
    | with_reducible first | assumption | apply State.setF_keep | apply State.dropProtect_keep | apply State.protFall_keep | refine Keep.foldl ?_ fun _ _ _ => ?_
    | with_reducible (refine Keep.record ?_ rfl rfl rfl rfl rfl rfl rfl rfl rfl; first | assumption | apply State.setF_keep | apply State.dropProtect_keep | apply State.protFall_keep | refine Keep.foldl ?_ fun _ _ _ => ?_)
    | split

/-! ### Grains -/

theorem State.grbSettled_keep {s0 s : State} (h : Keep s0 s) :
    Keep s0 (State.grbSettled s) := by
  unfold State.grbSettled
  repeat' first
    | with_reducible first | assumption | apply State.setF_keep
    | split

theorem State.takeGrbSet_keep {s0 s : State} (h : Keep s0 s) :
    Keep s0 (State.takeGrbSet s) := by
  unfold State.takeGrbSet
  repeat' first
    | ((fail_if_success (conv => arg 2; fun)); extract_lets +onlyGivenNames y; clear_value (e : y = _); refine Keep.letVar (s0 := s0) e ?_ fun _ => ?_)
    | ((fail_if_success (conv => arg 2; fun)); extract_lets +onlyGivenNames y)
    | with_reducible first | assumption | apply State.commitAll_keep | apply State.modCl_keep | apply State.clipReserve_keep | apply State.grbSettled_keep | refine Keep.foldl ?_ fun _ _ _ => ?_
    | with_reducible (refine Keep.record ?_ rfl rfl rfl rfl rfl rfl rfl rfl rfl; first | assumption | apply State.commitAll_keep | apply State.modCl_keep | apply State.clipReserve_keep | apply State.grbSettled_keep | refine Keep.foldl ?_ fun _ _ _ => ?_)
    | split

theorem State.takeWeights_keep {s0 s : State} (h : Keep s0 s) :
    Keep s0 (State.takeWeights s) := by
  unfold State.takeWeights
  repeat' first
    | with_reducible first | assumption | apply State.commitRange_keep | apply State.grbSettled_keep
    | with_reducible (refine Keep.record ?_ rfl rfl rfl rfl rfl rfl rfl rfl rfl; first | assumption | apply State.commitRange_keep | apply State.grbSettled_keep)
    | split

theorem State.commitGrb_keep {s0 s : State} (h : Keep s0 s) :
    Keep s0 (State.commitGrb s) := by
  unfold State.commitGrb
  repeat' first
    | ((fail_if_success (conv => arg 2; fun)); extract_lets +onlyGivenNames y; clear_value (e : y = _); refine Keep.letVar (s0 := s0) e ?_ fun _ => ?_)
    | ((fail_if_success (conv => arg 2; fun)); extract_lets +onlyGivenNames y)
    | with_reducible first | assumption | apply State.setF_keep
    | with_reducible (refine Keep.record ?_ rfl rfl rfl rfl rfl rfl rfl rfl rfl; first | assumption | apply State.setF_keep)
    | split

theorem execGrbCommit_keep {s0 s : State} (h : Keep s0 s) :
    KeepX s0 (execGrbCommit s) := by
  unfold execGrbCommit
  repeat' first
    | with_reducible first | assumption | apply State.commitGrb_keep | apply Keep.next
    | with_reducible (refine Keep.record ?_ rfl rfl rfl rfl rfl rfl rfl rfl rfl; first | assumption | apply State.commitGrb_keep | apply Keep.next)
    | split

theorem State.chargeMeters_keep {s0 s : State} {n meters : _} (h : Keep s0 s) :
    Keep s0 (State.chargeMeters s n meters) := by
  unfold State.chargeMeters
  repeat' with_reducible first | assumption | apply State.modCl_keep | apply State.modDie_keep | refine Keep.foldl ?_ fun _ _ _ => ?_

theorem State.updateDebt_keep {s0 s : State} {n spend minted : _} (h : Keep s0 s) :
    Keep s0 (State.updateDebt s n spend minted) := by
  unfold State.updateDebt
  repeat' first
    | ((fail_if_success (conv => arg 2; fun)); extract_lets +onlyGivenNames y; clear_value (e : y = _); refine Keep.letVar (s0 := s0) e ?_ fun _ => ?_)
    | ((fail_if_success (conv => arg 2; fun)); extract_lets +onlyGivenNames y)
    | with_reducible first | assumption | apply State.setF_keep | apply State.modDie_keep | apply State.grbEvent_keep
    | split

theorem execMint_keep {s0 s : State} {n meters rail : _} (h : Keep s0 s) :
    KeepX s0 (execMint n meters rail s) := by
  unfold execMint
  repeat' first
    | ((fail_if_success (conv => arg 2; fun)); extract_lets +onlyGivenNames y; clear_value (e : y = _); refine Keep.letVar (s0 := s0) e ?_ fun _ => ?_)
    | ((fail_if_success (conv => arg 2; fun)); extract_lets +onlyGivenNames y)
    | with_reducible first | assumption | apply State.add64_keep | apply State.modCl_keep | apply State.modDie_keep | apply State.wakeReserve_keep | apply State.takeGrbSet_keep | apply State.chargeMeters_keep | apply State.updateDebt_keep | apply Keep.next | refine Keep.foldl ?_ fun _ _ _ => ?_
    | split

theorem execGrainGrant_keep {s0 s : State} {n : _} (h : Keep s0 s) :
    KeepX s0 (execGrainGrant n s) := by
  unfold execGrainGrant
  repeat' first
    | ((fail_if_success (conv => arg 2; fun)); extract_lets +onlyGivenNames y; clear_value (e : y = _); refine Keep.letVar (s0 := s0) e ?_ fun _ => ?_)
    | ((fail_if_success (conv => arg 2; fun)); extract_lets +onlyGivenNames y)
    | with_reducible first | assumption | apply State.modCl_keep | apply State.modDie_keep | apply State.wakeReserve_keep | apply Keep.next
    | split

theorem execBrakeHold_keep {s0 s : State} {n meters : _} (h : Keep s0 s) :
    KeepX s0 (execBrakeHold n meters s) := by
  unfold execBrakeHold
  repeat' first
    | ((fail_if_success (conv => arg 2; fun)); extract_lets +onlyGivenNames y; clear_value (e : y = _); refine Keep.letVar (s0 := s0) e ?_ fun _ => ?_)
    | ((fail_if_success (conv => arg 2; fun)); extract_lets +onlyGivenNames y)
    | with_reducible first | assumption | apply State.addSat_keep | apply State.modDie_keep | apply State.steep_keep | apply State.chargeMeters_keep | apply Keep.next | refine Keep.foldl ?_ fun _ _ _ => ?_
    | split

theorem State.setCeil_keep {s0 s : State} {c v : _} (h : Keep s0 s) :
    Keep s0 (State.setCeil s c v) := by
  unfold State.setCeil
  repeat' first
    | ((fail_if_success (conv => arg 2; fun)); extract_lets +onlyGivenNames y)
    | with_reducible first | assumption | apply State.modCl_keep | apply State.clipReserve_keep

theorem State.hotSpots_keep {s0 s : State} {n readings sourceMw : _} (h : Keep s0 s) :
    Keep s0 (State.hotSpots s n readings sourceMw) := by
  unfold State.hotSpots
  repeat' first
    | ((fail_if_success (conv => arg 2; fun)); extract_lets +onlyGivenNames y; clear_value (e : y = _); refine Keep.letVar (s0 := s0) e ?_ fun _ => ?_)
    | ((fail_if_success (conv => arg 2; fun)); extract_lets +onlyGivenNames y)
    | with_reducible first | assumption | apply State.setF_keep | apply State.modCl_keep | apply State.takeReadings_keep | apply State.takeSources_keep | apply State.setCeil_keep | refine Keep.foldl ?_ fun _ _ _ => ?_
    | split

theorem execHotSpotLimiter_keep {s0 s : State} {n readings sourceMw : _} (h : Keep s0 s) :
    KeepX s0 (execHotSpotLimiter n readings sourceMw s) := by
  unfold execHotSpotLimiter
  repeat' first
    | with_reducible first | assumption | apply State.hotSpots_keep | apply Keep.next
    | split

theorem execDieHotTimeout_keep {s0 s : State} {n : _} (h : Keep s0 s) :
    KeepX s0 (execDieHotTimeout n s) := by
  unfold execDieHotTimeout
  repeat' first
    | with_reducible first | assumption | refine Keep.ofG (State.fresh_keep ?_) | apply State.modDie_keep | apply Keep.next
    | split

theorem State.capHost_keep {s0 s : State} {v : _} (h : Keep s0 s) :
    Keep s0 (State.capHost s v) := by
  unfold State.capHost
  repeat' first
    | ((fail_if_success (conv => arg 2; fun)); extract_lets +onlyGivenNames y; clear_value (e : y = _); refine Keep.letVar (s0 := s0) e ?_ fun _ => ?_)
    | with_reducible first | assumption | apply State.setF_keep | apply State.setFlag_keep | apply State.grbEvent_keep
    | split

theorem execCapHostWrite_keep {s0 s : State} {value : _} (h : Keep s0 s) :
    KeepX s0 (execCapHostWrite value s) := by
  unfold execCapHostWrite
  repeat' first
    | with_reducible first | assumption | apply State.capHost_keep | apply Keep.next
    | split

theorem State.rackMessage_keep {s0 s : State} {p w q : _} (h : Keep s0 s) :
    Keep s0 (State.rackMessage s p w q) := by
  unfold State.rackMessage
  repeat' first
    | ((fail_if_success (conv => arg 2; fun)); extract_lets +onlyGivenNames y; clear_value (e : y = _); refine Keep.letVar (s0 := s0) e ?_ fun _ => ?_)
    | ((fail_if_success (conv => arg 2; fun)); extract_lets +onlyGivenNames y)
    | with_reducible first | assumption | apply State.setF_keep | apply State.grbEvent_keep
    | with_reducible (refine Keep.record ?_ rfl rfl rfl rfl rfl rfl rfl rfl rfl; first | assumption | apply State.setF_keep | apply State.grbEvent_keep)
    | split

theorem execRackCap_keep {s0 s : State} {p frame : _} (h : Keep s0 s) :
    KeepX s0 (execRackCap p frame s) := by
  unfold execRackCap
  repeat' first
    | ((fail_if_success (conv => arg 2; fun)); extract_lets +onlyGivenNames y)
    | with_reducible first | assumption | apply State.rowAccept_keep | apply State.rowHear_keep | apply State.rackMessage_keep | apply Keep.next | refine Keep.eqF (by assumption) ?_
    | with_reducible (refine Keep.record ?_ rfl rfl rfl rfl rfl rfl rfl rfl rfl; first | assumption | apply State.rowAccept_keep | apply State.rowHear_keep | apply State.rackMessage_keep | apply Keep.next | refine Keep.eqF (by assumption) ?_)
    | split

theorem State.rackCfg_keep {s0 s : State} {v : _} (h : Keep s0 s) :
    Keep s0 (State.rackCfg s v) := by
  unfold State.rackCfg
  repeat' first
    | ((fail_if_success (conv => arg 2; fun)); extract_lets +onlyGivenNames y; clear_value (e : y = _); refine Keep.letVar (s0 := s0) e ?_ fun _ => ?_)
    | with_reducible first | assumption | apply State.setF_keep
    | split

theorem execRackCfgWrite_keep {s0 s : State} {value : _} (h : Keep s0 s) :
    KeepX s0 (execRackCfgWrite value s) := by
  unfold execRackCfgWrite
  repeat' first
    | with_reducible first | assumption | apply State.rackCfg_keep | apply Keep.next
    | split

theorem execRackLeaseExpiry_keep {s0 s : State} (h : Keep s0 s) :
    KeepX s0 (execRackLeaseExpiry s) := by
  unfold execRackLeaseExpiry
  repeat' first
    | ((fail_if_success (conv => arg 2; fun)); extract_lets +onlyGivenNames y; clear_value (e : y = _); refine Keep.letVar (s0 := s0) e ?_ fun _ => ?_)
    | with_reducible first | assumption | apply State.setF_keep | apply State.grbEvent_keep | apply Keep.next
    | split

theorem execProtectionFall_keep {s0 s : State} {k capW dieW : _} (h : Keep s0 s) :
    KeepX s0 (execProtectionFall k capW dieW s) := by
  unfold execProtectionFall
  repeat' first
    | ((fail_if_success (conv => arg 2; fun)); extract_lets +onlyGivenNames y; clear_value (e : y = _); refine Keep.letVar (s0 := s0) e ?_ fun _ => ?_)
    | ((fail_if_success (conv => arg 2; fun)); extract_lets +onlyGivenNames y)
    | with_reducible first | assumption | apply State.protFall_keep | apply Keep.next
    | with_reducible (refine Keep.record ?_ rfl rfl rfl rfl rfl rfl rfl rfl rfl; first | assumption | apply State.protFall_keep | apply Keep.next)
    | split

theorem execDieCapStale_keep {s0 s : State} {n : _} (h : Keep s0 s) :
    KeepX s0 (execDieCapStale n s) := by
  unfold execDieCapStale
  repeat' first
    | with_reducible first | assumption | apply State.modDie_keep | apply Keep.next
    | split

theorem execCapStatusPeriodic_keep {s0 s : State} (h : Keep s0 s) :
    KeepX s0 (execCapStatusPeriodic s) := by
  unfold execCapStatusPeriodic
  repeat' first
    | ((fail_if_success (conv => arg 2; fun)); extract_lets +onlyGivenNames y; clear_value (e : y = _); refine Keep.letVar (s0 := s0) e ?_ fun _ => ?_)
    | with_reducible first | assumption | apply State.served_keep | apply State.sendCapStatus_keep | apply Keep.next
    | with_reducible (refine Keep.record ?_ rfl rfl rfl rfl rfl rfl rfl rfl rfl; first | assumption | apply State.served_keep | apply State.sendCapStatus_keep | apply Keep.next)
    | split

/-! ### PowerOps -/

theorem State.forgetCluster_keep {s0 s : State} {c : _} (h : Keep s0 s) :
    Keep s0 (State.forgetCluster s c) := by
  unfold State.forgetCluster
  repeat' first
    | ((fail_if_success (conv => arg 2; fun)); extract_lets +onlyGivenNames y; clear_value (e : y = _); refine Keep.letVar (s0 := s0) e ?_ fun _ => ?_)
    | ((fail_if_success (conv => arg 2; fun)); extract_lets +onlyGivenNames y)
    | with_reducible first | assumption | apply State.leaveWaits_keep | apply State.returnChan_keep | apply State.returnChans_keep | apply State.returnLinks_keep | refine Keep.foldl ?_ fun _ _ _ => ?_ | refine Keep.record ?_ rfl rfl rfl rfl rfl rfl rfl rfl rfl

theorem State.freeCompletions_keep {s0 s : State} {c : _} (h : Keep s0 s) :
    Keep s0 (State.freeCompletions s c) := by
  unfold State.freeCompletions
  repeat' first
    | ((fail_if_success (conv => arg 2; fun)); extract_lets +onlyGivenNames y)
    | with_reducible first | assumption | refine Keep.record ?_ rfl rfl rfl rfl rfl rfl rfl rfl rfl

theorem State.gateCluster_keep {s0 s : State} {c keepStore : _} (h : Keep s0 s) :
    Keep s0 (State.gateCluster s c keepStore) := by
  unfold State.gateCluster
  repeat' with_reducible first | assumption | apply State.closeGate_keep | apply State.forgetCluster_keep | apply State.freeCompletions_keep

theorem State.ungateCluster_keep {s0 s : State} {c run : _} (h : Keep s0 s) :
    Keep s0 (State.ungateCluster s c run) := by
  unfold State.ungateCluster
  repeat' first
    | ((fail_if_success (conv => arg 2; fun)); extract_lets +onlyGivenNames y; clear_value (e : y = _); refine Keep.letVar (s0 := s0) e ?_ fun _ => ?_)
    | with_reducible first | assumption | apply State.setF_keep | apply State.clearClu_keep
    | split

theorem State.optOff_keep {s0 s : State} {k : _} (h : Keep s0 s) :
    Keep s0 (State.optOff s k) := by
  unfold State.optOff
  repeat' first
    | with_reducible first | assumption | apply State.portLeave_keep | apply State.turnOff_keep
    | split

theorem State.loseBursts_keep {s0 s : State} {n c : _} (h : Keep s0 s) :
    Keep s0 (State.loseBursts s n c) := by
  unfold State.loseBursts
  repeat' first
    | ((fail_if_success (conv => arg 2; fun)); extract_lets +onlyGivenNames y; clear_value (e : y = _); refine Keep.letVar (s0 := s0) e ?_ fun _ => ?_)
    | ((fail_if_success (conv => arg 2; fun)); extract_lets +onlyGivenNames y)
    | with_reducible first | assumption | apply State.returnChans_keep | apply State.modDma_keep | apply State.failDma_keep | refine Keep.foldl ?_ fun _ _ _ => ?_
    | split

theorem State.loseTokens_keep {s0 s : State} {c : _} (h : Keep s0 s) :
    Keep s0 (State.loseTokens s c) := by
  unfold State.loseTokens
  repeat' first
    | ((fail_if_success (conv => arg 2; fun)); extract_lets +onlyGivenNames y; clear_value (e : y = _); refine Keep.letVar (s0 := s0) e ?_ fun _ => ?_)
    | ((fail_if_success (conv => arg 2; fun)); extract_lets +onlyGivenNames y)
    | with_reducible first | assumption | apply State.setFlag_keep | apply State.modCl_keep
    | with_reducible (refine Keep.record ?_ rfl rfl rfl rfl rfl rfl rfl rfl rfl; first | assumption | apply State.setFlag_keep | apply State.modCl_keep)
    | split

theorem State.memOff_keep {s0 s : State} {n : _} (h : Keep s0 s) :
    Keep s0 (State.memOff s n) := by
  unfold State.memOff
  repeat' first
    | ((fail_if_success (conv => arg 2; fun)); extract_lets +onlyGivenNames y; clear_value (e : y = _); refine Keep.letVar (s0 := s0) e ?_ fun _ => ?_)
    | ((fail_if_success (conv => arg 2; fun)); extract_lets +onlyGivenNames y)
    | with_reducible first | assumption | apply State.setF_keep | apply State.showStart_keep | apply State.loseStacks_keep | apply State.turnOff_keep | apply State.loseBursts_keep | apply State.loseTokens_keep | refine Keep.foldl ?_ fun _ _ _ => ?_
    | with_reducible (refine Keep.record ?_ rfl rfl rfl rfl rfl rfl rfl rfl rfl; first | assumption | apply State.setF_keep | apply State.showStart_keep | apply State.loseStacks_keep | apply State.turnOff_keep | apply State.loseBursts_keep | apply State.loseTokens_keep | refine Keep.foldl ?_ fun _ _ _ => ?_)
    | split

theorem State.coreOff_keep {s0 s : State} {n : _} (h : Keep s0 s) :
    Keep s0 (State.coreOff s n) := by
  unfold State.coreOff
  repeat' first
    | ((fail_if_success (conv => arg 2; fun)); extract_lets +onlyGivenNames y; clear_value (e : y = _); refine Keep.letVar (s0 := s0) e ?_ fun _ => ?_)
    | ((fail_if_success (conv => arg 2; fun)); extract_lets +onlyGivenNames y)
    | with_reducible first | assumption | apply State.clearBit_keep | apply State.modCl_keep | apply State.stopSlices_keep | apply State.turnOff_keep | apply State.clearRegs_keep | apply State.forgetCluster_keep | apply State.memOff_keep | refine Keep.foldl ?_ fun _ _ _ => ?_
    | with_reducible (refine Keep.record ?_ rfl rfl rfl rfl rfl rfl rfl rfl rfl; first | assumption | apply State.clearBit_keep | apply State.modCl_keep | apply State.stopSlices_keep | apply State.turnOff_keep | apply State.clearRegs_keep | apply State.forgetCluster_keep | apply State.memOff_keep | refine Keep.foldl ?_ fun _ _ _ => ?_)
    | split

theorem State.computeOff_keep {s0 s : State} (h : Keep s0 s) :
    Keep s0 (State.computeOff s) := by
  unfold State.computeOff
  repeat' first
    | ((fail_if_success (conv => arg 2; fun)); extract_lets +onlyGivenNames y; clear_value (e : y = _); refine Keep.letVar (s0 := s0) e ?_ fun _ => ?_)
    | with_reducible first | assumption | apply State.optOff_keep | apply State.memOff_keep | apply State.coreOff_keep | refine Keep.foldl ?_ fun _ _ _ => ?_

theorem State.iodOff_keep {s0 s : State} (h : Keep s0 s) :
    Keep s0 (State.iodOff s) := by
  unfold State.iodOff
  repeat' first
    | ((fail_if_success (conv => arg 2; fun)); extract_lets +onlyGivenNames y; clear_value (e : y = _); refine Keep.letVar (s0 := s0) e ?_ fun _ => ?_)
    | ((fail_if_success (conv => arg 2; fun)); extract_lets +onlyGivenNames y)
    | with_reducible first | assumption | apply State.clearBit_keep | apply State.turnOff_keep | apply State.clearRegs_keep | apply State.computeOff_keep
    | with_reducible (refine Keep.record ?_ rfl rfl rfl rfl rfl rfl rfl rfl rfl; first | assumption | apply State.clearBit_keep | apply State.turnOff_keep | apply State.clearRegs_keep | apply State.computeOff_keep)
    | split

theorem State.domainOff_keep {s0 s : State} {d : _} (h : Keep s0 s) :
    Keep s0 (State.domainOff s d) := by
  unfold State.domainOff
  repeat' first
    | with_reducible first | assumption | apply State.optOff_keep | apply State.memOff_keep | apply State.coreOff_keep | apply State.iodOff_keep
    | split

theorem State.applySpares_keep {s0 s : State} {k : _} (h : Keep s0 s) :
    Keep s0 (State.applySpares s k) := by
  unfold State.applySpares
  repeat' first
    | ((fail_if_success (conv => arg 2; fun)); extract_lets +onlyGivenNames y; clear_value (e : y = _); refine Keep.letVar (s0 := s0) e ?_ fun _ => ?_)
    | with_reducible first | assumption | apply State.setF_keep | refine Keep.foldl ?_ fun _ _ _ => ?_

theorem State.coreOn_keep {s0 s : State} {n : _} (h : Keep s0 s) :
    Keep s0 (State.coreOn s n) := by
  unfold State.coreOn
  repeat' first
    | ((fail_if_success (conv => arg 2; fun)); extract_lets +onlyGivenNames y; clear_value (e : y = _); refine Keep.letVar (s0 := s0) e ?_ fun _ => ?_)
    | with_reducible first | assumption | apply State.setF_keep | apply State.setBit_keep | apply State.turnOn_keep | apply State.applySpares_keep | refine Keep.foldl ?_ fun _ _ _ => ?_
    | split

theorem State.memOn_keep {s0 s : State} {n : _} (h : Keep s0 s) :
    Keep s0 (State.memOn s n) := by
  unfold State.memOn
  repeat' first
    | ((fail_if_success (conv => arg 2; fun)); extract_lets +onlyGivenNames y; clear_value (e : y = _); refine Keep.letVar (s0 := s0) e ?_ fun _ => ?_)
    | ((fail_if_success (conv => arg 2; fun)); extract_lets +onlyGivenNames y)
    | with_reducible first | assumption | apply State.setF_keep | apply State.allDirty_keep | apply State.turnOn_keep | refine Keep.foldl ?_ fun _ _ _ => ?_
    | split

theorem State.optOn_keep {s0 s : State} {k : _} (h : Keep s0 s) :
    Keep s0 (State.optOn s k) := by
  unfold State.optOn
  repeat' first
    | with_reducible first | assumption | apply State.setF_keep | apply State.turnOn_keep
    | split

theorem State.settle_keep {s0 s : State} (h : Keep s0 s) :
    Keep s0 (State.settle s) := by
  unfold State.settle
  repeat' first
    | ((fail_if_success (conv => arg 2; fun)); extract_lets +onlyGivenNames y)
    | with_reducible first | assumption
    | with_reducible (refine Keep.record ?_ rfl rfl rfl rfl rfl rfl rfl rfl rfl; first | assumption)
    | split

theorem State.setModState_keep {s0 s : State} {st : _} (h : Keep s0 s) :
    Keep s0 (State.setModState s st) := by
  unfold State.setModState
  repeat' with_reducible first | assumption | refine Keep.record ?_ rfl rfl rfl rfl rfl rfl rfl rfl rfl

theorem State.endAllPrefetched_keep {s0 s : State} (h : Keep s0 s) :
    Keep s0 (State.endAllPrefetched s) := by
  unfold State.endAllPrefetched
  repeat' first
    | ((fail_if_success (conv => arg 2; fun)); extract_lets +onlyGivenNames y; clear_value (e : y = _); refine Keep.letVar (s0 := s0) e ?_ fun _ => ?_)
    | with_reducible first | assumption | apply State.modCl_keep | apply State.complete_keep | refine Keep.foldl ?_ fun _ _ _ => ?_

theorem State.startDrain_keep {s0 s : State} {limitMs : _} (h : Keep s0 s) :
    Keep s0 (State.startDrain s limitMs) := by
  unfold State.startDrain
  repeat' first
    | ((fail_if_success (conv => arg 2; fun)); extract_lets +onlyGivenNames y; clear_value (e : y = _); refine Keep.letVar (s0 := s0) e ?_ fun _ => ?_)
    | ((fail_if_success (conv => arg 2; fun)); extract_lets +onlyGivenNames y)
    | with_reducible first | assumption | apply State.claimStop_keep | apply State.settle_keep | apply State.setModState_keep | apply State.endAllPrefetched_keep
    | with_reducible (refine Keep.record ?_ rfl rfl rfl rfl rfl rfl rfl rfl rfl; first | assumption | apply State.claimStop_keep | apply State.settle_keep | apply State.setModState_keep | apply State.endAllPrefetched_keep)
    | split

theorem State.abortHeld_keep {s0 s : State} (h : Keep s0 s) :
    Keep s0 (State.abortHeld s) := by
  unfold State.abortHeld
  repeat' first
    | ((fail_if_success (conv => arg 2; fun)); extract_lets +onlyGivenNames y; clear_value (e : y = _); refine Keep.letVar (s0 := s0) e ?_ fun _ => ?_)
    | with_reducible first | assumption | apply State.abortCluster_keep | apply State.endAllPrefetched_keep | refine Keep.foldl ?_ fun _ _ _ => ?_
    | split

theorem State.postQuiesced_keep {s0 s : State} {cause : _} (h : Keep s0 s) :
    Keep s0 (State.postQuiesced s cause) := by
  unfold State.postQuiesced
  repeat' first
    | ((fail_if_success (conv => arg 2; fun)); extract_lets +onlyGivenNames y; clear_value (e : y = _); refine Keep.letVar (s0 := s0) e ?_ fun _ => ?_)
    | ((fail_if_success (conv => arg 2; fun)); extract_lets +onlyGivenNames y)
    | with_reducible first | assumption | apply State.hostEvent_keep | apply State.postMod_keep
    | with_reducible (refine Keep.record ?_ rfl rfl rfl rfl rfl rfl rfl rfl rfl; first | assumption | apply State.hostEvent_keep | apply State.postMod_keep)
    | split

theorem State.quiesceNow_keep {s0 s : State} {cause : _} (h : Keep s0 s) :
    Keep s0 (State.quiesceNow s cause) := by
  unfold State.quiesceNow
  repeat' first
    | ((fail_if_success (conv => arg 2; fun)); extract_lets +onlyGivenNames y; clear_value (e : y = _); refine Keep.letVar (s0 := s0) e ?_ fun _ => ?_)
    | ((fail_if_success (conv => arg 2; fun)); extract_lets +onlyGivenNames y)
    | with_reducible first | assumption | apply State.claimStop_keep | apply State.collFinish_keep | apply State.settle_keep | apply State.abortHeld_keep | apply State.postQuiesced_keep | refine Keep.foldl ?_ fun _ _ _ => ?_
    | with_reducible (refine Keep.record ?_ rfl rfl rfl rfl rfl rfl rfl rfl rfl; first | assumption | apply State.claimStop_keep | apply State.collFinish_keep | apply State.settle_keep | apply State.abortHeld_keep | apply State.postQuiesced_keep | refine Keep.foldl ?_ fun _ _ _ => ?_)
    | split

theorem State.liftQuiesce_keep {s0 s : State} {cause : _} (h : Keep s0 s) :
    Keep s0 (State.liftQuiesce s cause) := by
  unfold State.liftQuiesce
  repeat' with_reducible first | assumption | apply State.settle_keep | refine Keep.record ?_ rfl rfl rfl rfl rfl rfl rfl rfl rfl

theorem State.parkClusters_keep {s0 s : State} (h : Keep s0 s) :
    Keep s0 (State.parkClusters s) := by
  unfold State.parkClusters
  repeat' first
    | with_reducible first | assumption | apply State.modCl_keep | apply State.gateCluster_keep | refine Keep.foldl ?_ fun _ _ _ => ?_
    | split

theorem State.parkPorts_keep {s0 s : State} (h : Keep s0 s) :
    Keep s0 (State.parkPorts s) := by
  unfold State.parkPorts
  repeat' first
    | ((fail_if_success (conv => arg 2; fun)); extract_lets +onlyGivenNames y; clear_value (e : y = _); refine Keep.letVar (s0 := s0) e ?_ fun _ => ?_)
    | ((fail_if_success (conv => arg 2; fun)); extract_lets +onlyGivenNames y)
    | with_reducible first | assumption | apply State.portPark_keep | refine Keep.foldl ?_ fun _ _ _ => ?_ | refine Keep.record ?_ rfl rfl rfl rfl rfl rfl rfl rfl rfl

theorem State.unparkPorts_keep {s0 s : State} (h : Keep s0 s) :
    Keep s0 (State.unparkPorts s) := by
  unfold State.unparkPorts
  repeat' first
    | ((fail_if_success (conv => arg 2; fun)); extract_lets +onlyGivenNames y)
    | with_reducible first | assumption | apply State.portPark_keep | refine Keep.foldl ?_ fun _ _ _ => ?_ | refine Keep.record ?_ rfl rfl rfl rfl rfl rfl rfl rfl rfl

theorem State.showParked_keep {s0 s : State} (h : Keep s0 s) :
    Keep s0 (State.showParked s) := by
  unfold State.showParked
  repeat' first
    | ((fail_if_success (conv => arg 2; fun)); extract_lets +onlyGivenNames y; clear_value (e : y = _); refine Keep.letVar (s0 := s0) e ?_ fun _ => ?_)
    | ((fail_if_success (conv => arg 2; fun)); extract_lets +onlyGivenNames y)
    | with_reducible first | assumption | apply State.setF_keep | apply State.postMod_keep
    | with_reducible (refine Keep.record ?_ rfl rfl rfl rfl rfl rfl rfl rfl rfl; first | assumption | apply State.setF_keep | apply State.postMod_keep)
    | split

theorem State.enterPark_keep {s0 s : State} (h : Keep s0 s) :
    Keep s0 (State.enterPark s) := by
  unfold State.enterPark
  repeat' with_reducible first | assumption | apply State.stopSlices_keep | apply State.settle_keep | apply State.parkClusters_keep | apply State.parkPorts_keep | apply State.showParked_keep

theorem State.leavePark_keep {s0 s : State} (h : Keep s0 s) :
    Keep s0 (State.leavePark s) := by
  unfold State.leavePark
  repeat' first
    | ((fail_if_success (conv => arg 2; fun)); extract_lets +onlyGivenNames y; clear_value (e : y = _); refine Keep.letVar (s0 := s0) e ?_ fun _ => ?_)
    | ((fail_if_success (conv => arg 2; fun)); extract_lets +onlyGivenNames y)
    | with_reducible first | assumption | apply State.postMod_keep | apply State.srExit_keep | apply State.modCl_keep | apply State.ungateCluster_keep | apply State.settle_keep | apply State.unparkPorts_keep | refine Keep.foldl ?_ fun _ _ _ => ?_
    | with_reducible (refine Keep.record ?_ rfl rfl rfl rfl rfl rfl rfl rfl rfl; first | assumption | apply State.postMod_keep | apply State.srExit_keep | apply State.modCl_keep | apply State.ungateCluster_keep | apply State.settle_keep | apply State.unparkPorts_keep | refine Keep.foldl ?_ fun _ _ _ => ?_)
    | split

theorem State.setAbsent_keep {s0 s : State} {l on : _} (h : Keep s0 s) :
    Keep s0 (State.setAbsent s l on) := by
  unfold State.setAbsent
  repeat' first
    | with_reducible first | assumption | apply State.setBit_keep | apply State.clearBit_keep
    | split

theorem State.degEvent_keep {s0 s : State} {code severity data : _} (h : Keep s0 s) :
    Keep s0 (State.degEvent s code severity data) := by
  unfold State.degEvent
  repeat' with_reducible first | assumption | apply State.post_keep

theorem State.norRefuse_keep {s0 s : State} {row : _} (h : Keep s0 s) :
    Keep s0 (State.norRefuse s row) := by
  unfold State.norRefuse
  repeat' first
    | with_reducible first | assumption | apply State.degEvent_keep
    | with_reducible (refine Keep.record ?_ rfl rfl rfl rfl rfl rfl rfl rfl rfl; first | assumption | apply State.degEvent_keep)
    | split

theorem State.failDie_keep {s0 s : State} {n cause mesh : _} (h : Keep s0 s) :
    Keep s0 (State.failDie s n cause mesh) := by
  unfold State.failDie
  repeat' first
    | ((fail_if_success (conv => arg 2; fun)); extract_lets +onlyGivenNames y; clear_value (e : y = _); refine Keep.letVar (s0 := s0) e ?_ fun _ => ?_)
    | ((fail_if_success (conv => arg 2; fun)); extract_lets +onlyGivenNames y)
    | with_reducible first | assumption | apply State.setF_keep | apply State.setBit_keep | apply State.clearBit_keep | apply State.post_keep | apply State.stackFail_keep | apply State.returnToken_keep | apply State.coreOff_keep | apply State.setAbsent_keep | refine Keep.foldl ?_ fun _ _ _ => ?_
    | with_reducible (refine Keep.record ?_ rfl rfl rfl rfl rfl rfl rfl rfl rfl; first | assumption | apply State.setF_keep | apply State.setBit_keep | apply State.clearBit_keep | apply State.post_keep | apply State.stackFail_keep | apply State.returnToken_keep | apply State.coreOff_keep | apply State.setAbsent_keep | refine Keep.foldl ?_ fun _ _ _ => ?_)
    | split

/-! ### Drive -/

theorem State.drvEvent_keep {s0 s : State} {code severity data : _} (h : Keep s0 s) :
    Keep s0 (State.drvEvent s code severity data) := by
  unfold State.drvEvent
  repeat' with_reducible first | assumption | apply State.post_keep

theorem State.kilnRefactor_keep {s0 s : State} (h : Keep s0 s) :
    Keep s0 (State.kilnRefactor s) := by
  unfold State.kilnRefactor
  repeat' first
    | with_reducible first | assumption | apply State.refactor_keep
    | split

theorem State.setSwitchQueue_keep {s0 s : State} {k q : _} (h : Keep s0 s) :
    Keep s0 (State.setSwitchQueue s k q) := by
  unfold State.setSwitchQueue
  repeat' with_reducible first | assumption | refine Keep.record ?_ rfl rfl rfl rfl rfl rfl rfl rfl rfl

theorem State.uncount_keep {s0 s : State} {v : _} (h : Keep s0 s) :
    Keep s0 (State.uncount s v) := by
  unfold State.uncount
  repeat' with_reducible first | assumption | refine Keep.record ?_ rfl rfl rfl rfl rfl rfl rfl rfl rfl

theorem State.dutyLimited_keep {s0 s : State} {v : _} (h : Keep s0 s) :
    Keep s0 (State.dutyLimited s v) := by
  unfold State.dutyLimited
  repeat' with_reducible first | assumption | apply State.setFlag_keep

theorem State.coilOff_keep {s0 s : State} {v : _} (h : Keep s0 s) :
    Keep s0 (State.coilOff s v) := by
  unfold State.coilOff
  repeat' first
    | ((fail_if_success (conv => arg 2; fun)); extract_lets +onlyGivenNames y; clear_value (e : y = _); refine Keep.letVar (s0 := s0) e ?_ fun _ => ?_)
    | ((fail_if_success (conv => arg 2; fun)); extract_lets +onlyGivenNames y)
    | with_reducible first | assumption | apply State.setF_keep | apply State.setSwitchQueue_keep | apply State.uncount_keep | apply State.dutyLimited_keep
    | with_reducible (refine Keep.record ?_ rfl rfl rfl rfl rfl rfl rfl rfl rfl; first | assumption | apply State.setF_keep | apply State.setSwitchQueue_keep | apply State.uncount_keep | apply State.dutyLimited_keep)
    | split

theorem State.requestPullin_keep {s0 s : State} {v : _} (h : Keep s0 s) :
    Keep s0 (State.requestPullin s v) := by
  unfold State.requestPullin
  repeat' first
    | ((fail_if_success (conv => arg 2; fun)); extract_lets +onlyGivenNames y; clear_value (e : y = _); refine Keep.letVar (s0 := s0) e ?_ fun _ => ?_)
    | ((fail_if_success (conv => arg 2; fun)); extract_lets +onlyGivenNames y)
    | with_reducible first | assumption | apply State.setF_keep | apply State.addSat_keep | apply State.setSwitchQueue_keep
    | with_reducible (refine Keep.record ?_ rfl rfl rfl rfl rfl rfl rfl rfl rfl; first | assumption | apply State.setF_keep | apply State.addSat_keep | apply State.setSwitchQueue_keep)
    | split

theorem State.applyValve_keep {s0 s : State} {v : _} (h : Keep s0 s) :
    Keep s0 (State.applyValve s v) := by
  unfold State.applyValve
  repeat' first
    | ((fail_if_success (conv => arg 2; fun)); extract_lets +onlyGivenNames y; clear_value (e : y = _); refine Keep.letVar (s0 := s0) e ?_ fun _ => ?_)
    | ((fail_if_success (conv => arg 2; fun)); extract_lets +onlyGivenNames y)
    | with_reducible first | assumption | apply State.setF_keep | apply State.coilOff_keep | apply State.requestPullin_keep
    | split

theorem State.applyPump_keep {s0 s : State} {p : _} (h : Keep s0 s) :
    Keep s0 (State.applyPump s p) := by
  unfold State.applyPump
  repeat' first
    | ((fail_if_success (conv => arg 2; fun)); extract_lets +onlyGivenNames y; clear_value (e : y = _); refine Keep.letVar (s0 := s0) e ?_ fun _ => ?_)
    | ((fail_if_success (conv => arg 2; fun)); extract_lets +onlyGivenNames y)
    | with_reducible first | assumption | apply State.setF_keep
    | split

theorem State.applyDrive_keep {s0 s : State} (h : Keep s0 s) :
    Keep s0 (State.applyDrive s) := by
  unfold State.applyDrive
  repeat' with_reducible first | assumption | apply State.applyValve_keep | apply State.applyPump_keep | refine Keep.foldl ?_ fun _ _ _ => ?_

theorem State.kickFail_keep {s0 s : State} {p : _} (h : Keep s0 s) :
    Keep s0 (State.kickFail s p) := by
  unfold State.kickFail
  repeat' first
    | ((fail_if_success (conv => arg 2; fun)); extract_lets +onlyGivenNames y; clear_value (e : y = _); refine Keep.letVar (s0 := s0) e ?_ fun _ => ?_)
    | ((fail_if_success (conv => arg 2; fun)); extract_lets +onlyGivenNames y)
    | with_reducible first | assumption | apply State.setF_keep | apply State.addSat_keep | apply State.drvEvent_keep
    | split

theorem State.latchFrame_keep {s0 s : State} {f : _} (h : Keep s0 s) :
    Keep s0 (State.latchFrame s f) := by
  unfold State.latchFrame
  repeat' first
    | ((fail_if_success (conv => arg 2; fun)); extract_lets +onlyGivenNames y; clear_value (e : y = _); refine Keep.letVar (s0 := s0) e ?_ fun _ => ?_)
    | ((fail_if_success (conv => arg 2; fun)); extract_lets +onlyGivenNames y)
    | with_reducible first | assumption | apply State.setF_keep | apply State.applyDrive_keep | refine Keep.foldl ?_ fun _ _ _ => ?_
    | with_reducible (refine Keep.record ?_ rfl rfl rfl rfl rfl rfl rfl rfl rfl; first | assumption | apply State.setF_keep | apply State.applyDrive_keep | refine Keep.foldl ?_ fun _ _ _ => ?_)
    | split

theorem State.sendFrame_keep {s0 s : State} {f : _} (h : Keep s0 s) :
    Keep s0 (State.sendFrame s f) := by
  unfold State.sendFrame
  repeat' with_reducible first | assumption | refine Keep.record ?_ rfl rfl rfl rfl rfl rfl rfl rfl rfl

theorem State.commandDrive_keep {s0 s : State} {valves rpm pumpEn : _} (h : Keep s0 s) :
    Keep s0 (State.commandDrive s valves rpm pumpEn) := by
  unfold State.commandDrive
  repeat' first
    | ((fail_if_success (conv => arg 2; fun)); extract_lets +onlyGivenNames y)
    | with_reducible first | assumption | apply State.latchFrame_keep | apply State.sendFrame_keep
    | split

theorem State.rejectCommand_keep {s0 s : State} (h : Keep s0 s) :
    Keep s0 (State.rejectCommand s) := by
  unfold State.rejectCommand
  repeat' first
    | ((fail_if_success (conv => arg 2; fun)); extract_lets +onlyGivenNames y; clear_value (e : y = _); refine Keep.letVar (s0 := s0) e ?_ fun _ => ?_)
    | with_reducible first | assumption | apply State.addSat_keep | apply State.post_keep

theorem execDriveCommandFrame_keep {s0 s : State} {k f : _} (h : Keep s0 s) :
    KeepX s0 (execDriveCommandFrame k f s) := by
  unfold execDriveCommandFrame
  repeat' first
    | with_reducible first | assumption | apply State.addSat_keep | apply State.latchFrame_keep | apply State.rejectCommand_keep | apply Keep.next
    | split

theorem State.channelFault_keep {s0 s : State} {ch : _} (h : Keep s0 s) :
    Keep s0 (State.channelFault s ch) := by
  unfold State.channelFault
  repeat' first
    | ((fail_if_success (conv => arg 2; fun)); extract_lets +onlyGivenNames y; clear_value (e : y = _); refine Keep.letVar (s0 := s0) e ?_ fun _ => ?_)
    | with_reducible first | assumption | apply State.setF_keep | apply State.setBit_keep | apply State.drvEvent_keep | apply State.applyDrive_keep
    | split

theorem execDriveEcho_keep {s0 s : State} {f : _} (h : Keep s0 s) :
    KeepX s0 (execDriveEcho f s) := by
  unfold execDriveEcho
  repeat' first
    | ((fail_if_success (conv => arg 2; fun)); extract_lets +onlyGivenNames y; clear_value (e : y = _); refine Keep.letVar (s0 := s0) e ?_ fun _ => ?_)
    | ((fail_if_success (conv => arg 2; fun)); extract_lets +onlyGivenNames y)
    | with_reducible first | assumption | apply State.refactor_keep | apply State.channelFault_keep | apply Keep.next | refine Keep.foldl ?_ fun _ _ _ => ?_
    | with_reducible (refine Keep.record ?_ rfl rfl rfl rfl rfl rfl rfl rfl rfl; first | assumption | apply State.refactor_keep | apply State.channelFault_keep | apply Keep.next | refine Keep.foldl ?_ fun _ _ _ => ?_)
    | split

theorem execDriveSafeTable_keep {s0 s : State} {ms : _} (h : Keep s0 s) :
    KeepX s0 (execDriveSafeTable ms s) := by
  unfold execDriveSafeTable
  repeat' first
    | ((fail_if_success (conv => arg 2; fun)); extract_lets +onlyGivenNames y; clear_value (e : y = _); refine Keep.letVar (s0 := s0) e ?_ fun _ => ?_)
    | with_reducible first | assumption | apply State.setF_keep | apply State.drvEvent_keep | apply State.applyDrive_keep | apply Keep.next
    | split

theorem execDriveHoldTimer_keep {s0 s : State} {ms : _} (h : Keep s0 s) :
    KeepX s0 (execDriveHoldTimer ms s) := by
  unfold execDriveHoldTimer
  repeat' first
    | ((fail_if_success (conv => arg 2; fun)); extract_lets +onlyGivenNames y; clear_value (e : y = _); refine Keep.letVar (s0 := s0) e ?_ fun _ => ?_)
    | ((fail_if_success (conv => arg 2; fun)); extract_lets +onlyGivenNames y)
    | with_reducible first | assumption | apply State.setF_keep | apply State.drvEvent_keep | apply Keep.next
    | split

theorem State.refusedEvent_keep {s0 s : State} {v : _} (h : Keep s0 s) :
    Keep s0 (State.refusedEvent s v) := by
  unfold State.refusedEvent
  repeat' first
    | ((fail_if_success (conv => arg 2; fun)); extract_lets +onlyGivenNames y; clear_value (e : y = _); refine Keep.letVar (s0 := s0) e ?_ fun _ => ?_)
    | ((fail_if_success (conv => arg 2; fun)); extract_lets +onlyGivenNames y)
    | with_reducible first | assumption | apply State.drvEvent_keep
    | with_reducible (refine Keep.record ?_ rfl rfl rfl rfl rfl rfl rfl rfl rfl; first | assumption | apply State.drvEvent_keep)
    | split

theorem execPullinStart_keep {s0 s : State} {v waitUs : _} (h : Keep s0 s) :
    KeepX s0 (execPullinStart v waitUs s) := by
  unfold execPullinStart
  repeat' first
    | ((fail_if_success (conv => arg 2; fun)); extract_lets +onlyGivenNames y; clear_value (e : y = _); refine Keep.letVar (s0 := s0) e ?_ fun _ => ?_)
    | ((fail_if_success (conv => arg 2; fun)); extract_lets +onlyGivenNames y)
    | with_reducible first | assumption | apply State.setF_keep | apply State.setFlag_keep | apply State.addSat_keep | apply State.setSwitchQueue_keep | apply State.uncount_keep | apply State.dutyLimited_keep | apply State.refusedEvent_keep | apply Keep.next
    | with_reducible (refine Keep.record ?_ rfl rfl rfl rfl rfl rfl rfl rfl rfl; first | assumption | apply State.setF_keep | apply State.setFlag_keep | apply State.addSat_keep | apply State.setSwitchQueue_keep | apply State.uncount_keep | apply State.dutyLimited_keep | apply State.refusedEvent_keep | apply Keep.next)
    | split

theorem execPullinEnd_keep {s0 s : State} {v : _} (h : Keep s0 s) :
    KeepX s0 (execPullinEnd v s) := by
  unfold execPullinEnd
  repeat' first
    | with_reducible first | assumption | apply State.setF_keep | apply Keep.next
    | split

theorem State.recap_keep {s0 s : State} {v : _} (h : Keep s0 s) :
    Keep s0 (State.recap s v) := by
  unfold State.recap
  repeat' first
    | ((fail_if_success (conv => arg 2; fun)); extract_lets +onlyGivenNames y; clear_value (e : y = _); refine Keep.letVar (s0 := s0) e ?_ fun _ => ?_)
    | with_reducible first | assumption | apply State.setF_keep | apply State.dutyLimited_keep
    | split

theorem execDutyCap_keep {s0 s : State} {v mj : _} (h : Keep s0 s) :
    KeepX s0 (execDutyCap v mj s) := by
  unfold execDutyCap
  repeat' first
    | ((fail_if_success (conv => arg 2; fun)); extract_lets +onlyGivenNames y; clear_value (e : y = _); refine Keep.letVar (s0 := s0) e ?_ fun _ => ?_)
    | with_reducible first | assumption | apply State.setF_keep | apply State.recap_keep | apply Keep.next
    | with_reducible (refine Keep.record ?_ rfl rfl rfl rfl rfl rfl rfl rfl rfl; first | assumption | apply State.setF_keep | apply State.recap_keep | apply Keep.next)
    | split

theorem execDutyCapLift_keep {s0 s : State} {v mj : _} (h : Keep s0 s) :
    KeepX s0 (execDutyCapLift v mj s) := by
  unfold execDutyCapLift
  repeat' first
    | ((fail_if_success (conv => arg 2; fun)); extract_lets +onlyGivenNames y; clear_value (e : y = _); refine Keep.letVar (s0 := s0) e ?_ fun _ => ?_)
    | with_reducible first | assumption | apply State.setF_keep | apply State.recap_keep | apply Keep.next
    | with_reducible (refine Keep.record ?_ rfl rfl rfl rfl rfl rfl rfl rfl rfl; first | assumption | apply State.setF_keep | apply State.recap_keep | apply Keep.next)
    | split

theorem State.failValve_keep {s0 s : State} {v code : _} (h : Keep s0 s) :
    Keep s0 (State.failValve s v code) := by
  unfold State.failValve
  repeat' first
    | ((fail_if_success (conv => arg 2; fun)); extract_lets +onlyGivenNames y; clear_value (e : y = _); refine Keep.letVar (s0 := s0) e ?_ fun _ => ?_)
    | with_reducible first | assumption | apply State.setF_keep | apply State.coilOff_keep

theorem execValveFault_keep {s0 s : State} {v code res ma : _} (h : Keep s0 s) :
    KeepX s0 (execValveFault v code res ma s) := by
  unfold execValveFault
  repeat' first
    | ((fail_if_success (conv => arg 2; fun)); extract_lets +onlyGivenNames y; clear_value (e : y = _); refine Keep.letVar (s0 := s0) e ?_ fun _ => ?_)
    | ((fail_if_success (conv => arg 2; fun)); extract_lets +onlyGivenNames y)
    | with_reducible first | assumption | apply State.setF_keep | apply State.drvEvent_keep | apply State.kilnRefactor_keep | apply State.applyValve_keep | apply State.failValve_keep | apply Keep.next
    | with_reducible (refine Keep.record ?_ rfl rfl rfl rfl rfl rfl rfl rfl rfl; first | assumption | apply State.setF_keep | apply State.drvEvent_keep | apply State.kilnRefactor_keep | apply State.applyValve_keep | apply State.failValve_keep | apply Keep.next)
    | split

theorem execValveRetry_keep {s0 s : State} {v : _} (h : Keep s0 s) :
    KeepX s0 (execValveRetry v s) := by
  unfold execValveRetry
  repeat' first
    | ((fail_if_success (conv => arg 2; fun)); extract_lets +onlyGivenNames y; clear_value (e : y = _); refine Keep.letVar (s0 := s0) e ?_ fun _ => ?_)
    | ((fail_if_success (conv => arg 2; fun)); extract_lets +onlyGivenNames y)
    | with_reducible first | assumption | apply State.applyValve_keep | apply Keep.next
    | with_reducible (refine Keep.record ?_ rfl rfl rfl rfl rfl rfl rfl rfl rfl; first | assumption | apply State.applyValve_keep | apply Keep.next)
    | split

theorem execSwitchTrip_keep {s0 s : State} {k : _} (h : Keep s0 s) :
    KeepX s0 (execSwitchTrip k s) := by
  unfold execSwitchTrip
  repeat' first
    | ((fail_if_success (conv => arg 2; fun)); extract_lets +onlyGivenNames y; clear_value (e : y = _); refine Keep.letVar (s0 := s0) e ?_ fun _ => ?_)
    | ((fail_if_success (conv => arg 2; fun)); extract_lets +onlyGivenNames y)
    | with_reducible first | assumption | apply State.setBit_keep | apply State.drvEvent_keep | apply State.kilnRefactor_keep | apply State.applyValve_keep | apply State.failValve_keep | apply Keep.next
    | with_reducible (refine Keep.record ?_ rfl rfl rfl rfl rfl rfl rfl rfl rfl; first | assumption | apply State.setBit_keep | apply State.drvEvent_keep | apply State.kilnRefactor_keep | apply State.applyValve_keep | apply State.failValve_keep | apply Keep.next)
    | split

theorem execSwitchRestart_keep {s0 s : State} {k : _} (h : Keep s0 s) :
    KeepX s0 (execSwitchRestart k s) := by
  unfold execSwitchRestart
  repeat' first
    | with_reducible first | assumption | apply State.clearBit_keep | apply State.kilnRefactor_keep | apply State.applyValve_keep | apply Keep.next
    | split

theorem execPumpKickSuccess_keep {s0 s : State} {p : _} (h : Keep s0 s) :
    KeepX s0 (execPumpKickSuccess p s) := by
  unfold execPumpKickSuccess
  repeat' first
    | ((fail_if_success (conv => arg 2; fun)); extract_lets +onlyGivenNames y; clear_value (e : y = _); refine Keep.letVar (s0 := s0) e ?_ fun _ => ?_)
    | with_reducible first | assumption | apply State.setF_keep | apply State.addSat_keep | apply Keep.next
    | split

theorem execPumpKickTimeout_keep {s0 s : State} {p : _} (h : Keep s0 s) :
    KeepX s0 (execPumpKickTimeout p s) := by
  unfold execPumpKickTimeout
  repeat' first
    | with_reducible first | assumption | apply State.kickFail_keep | apply Keep.next
    | split

theorem execPumpRetryWaitEnd_keep {s0 s : State} {p : _} (h : Keep s0 s) :
    KeepX s0 (execPumpRetryWaitEnd p s) := by
  unfold execPumpRetryWaitEnd
  repeat' first
    | with_reducible first | assumption | apply State.setF_keep | apply Keep.next
    | split

theorem execPumpStall_keep {s0 s : State} {p : _} (h : Keep s0 s) :
    KeepX s0 (execPumpStall p s) := by
  unfold execPumpStall
  repeat' first
    | with_reducible first | assumption | apply State.kickFail_keep | apply Keep.next
    | split

theorem execHallFault_keep {s0 s : State} {p : _} (h : Keep s0 s) :
    KeepX s0 (execHallFault p s) := by
  unfold execHallFault
  repeat' first
    | with_reducible first | assumption | apply State.setF_keep | apply State.drvEvent_keep | apply Keep.next
    | split

theorem execHallRestore_keep {s0 s : State} {p : _} (h : Keep s0 s) :
    KeepX s0 (execHallRestore p s) := by
  unfold execHallRestore
  repeat' first
    | with_reducible first | assumption | apply State.setF_keep | apply Keep.next
    | split

theorem State.pumpCtrlWrite_keep {s0 s : State} {p v : _} (h : Keep s0 s) :
    Keep s0 (State.pumpCtrlWrite s p v) := by
  unfold State.pumpCtrlWrite
  repeat' first
    | ((fail_if_success (conv => arg 2; fun)); extract_lets +onlyGivenNames y; clear_value (e : y = _); refine Keep.letVar (s0 := s0) e ?_ fun _ => ?_)
    | with_reducible first | assumption | apply State.setF_keep | apply State.applyPump_keep
    | split

theorem execPumpEnableWrite_keep {s0 s : State} {p value : _} (h : Keep s0 s) :
    KeepX s0 (execPumpEnableWrite p value s) := by
  unfold execPumpEnableWrite
  repeat' first
    | with_reducible first | assumption | apply State.pumpCtrlWrite_keep | apply Keep.next
    | split

theorem execPumpRetryWrite_keep {s0 s : State} {p : _} (h : Keep s0 s) :
    KeepX s0 (execPumpRetryWrite p s) := by
  unfold execPumpRetryWrite
  repeat' first
    | with_reducible first | assumption | apply State.setF_keep | apply Keep.next
    | split

/-! ### Copper -/

theorem State.setData_keep {s0 s : State} {a x : _} (h : Keep s0 s) :
    Keep s0 (State.setData s a x) := by
  unfold State.setData
  repeat' with_reducible first | assumption | apply State.setF_keep

theorem State.setShadow_keep {s0 s : State} {a x : _} (h : Keep s0 s) :
    Keep s0 (State.setShadow s a x) := by
  unfold State.setShadow
  repeat' with_reducible first | assumption | refine Keep.record ?_ rfl rfl rfl rfl rfl rfl rfl rfl rfl

theorem State.modLoop_keep {s0 s : State} {l f : _} (h : Keep s0 s) :
    Keep s0 (State.modLoop s l f) := by
  unfold State.modLoop
  repeat' with_reducible first | assumption | refine Keep.record ?_ rfl rfl rfl rfl rfl rfl rfl rfl rfl

theorem State.spValue_keep {s0 s : State} {l : _} (h : Keep s0 s) :
    KeepG s0 (State.spValue s l) := by
  unfold State.spValue
  repeat' first
    | ((fail_if_success (conv => arg 2; fun)); extract_lets +onlyGivenNames y)
    | with_reducible first | assumption | apply State.fresh_keep | refine Keep.eqG (by assumption) ?_
    | with_reducible (refine Keep.record ?_ rfl rfl rfl rfl rfl rfl rfl rfl rfl; first | assumption | apply State.fresh_keep | refine Keep.eqG (by assumption) ?_)
    | split
    | with_reducible apply Keep.mkG

theorem State.beginPeriod_keep {s0 s : State} {fast own : _} (h : Keep s0 s) :
    Keep s0 (State.beginPeriod s fast own) := by
  unfold State.beginPeriod
  repeat' with_reducible first | assumption | apply State.modLoop_keep | refine Keep.foldl ?_ fun _ _ _ => ?_

theorem State.gainWords_keep {s0 s : State} {l : Nat} {x : LoopIn} (h : Keep s0 s) : Keep s0 (s.gainWords l x).2.2 := by
  unfold State.gainWords
  split
  · exact h
  · have k := Keep.ofG (State.fresh_keep (w := 16) (Keep.ofG (State.fresh_keep (w := 16) h)))
    exact k

theorem State.frameWords_keep {s0 s : State} {l : Nat} {x : LoopIn} {uPrev : Int} (h : Keep s0 s) :
    KeepG s0 (s.frameWords l x uPrev) := by
  unfold State.frameWords
  exact Keep.mkG (State.gainWords_keep (Keep.ofG (State.spValue_keep h)))

theorem State.runLoop_keep {s0 s : State} {l : _} (h : Keep s0 s) :
    Keep s0 (State.runLoop s l) := by
  unfold State.runLoop
  repeat' first
    | ((fail_if_success (conv => arg 2; fun)); extract_lets +onlyGivenNames y; clear_value (e : y = _); refine Keep.letVar (s0 := s0) e ?_ fun _ => ?_)
    | ((fail_if_success (conv => arg 2; fun)); extract_lets +onlyGivenNames y)
    | with_reducible first | assumption | apply State.setBit_keep | apply State.setData_keep | apply State.modLoop_keep | apply State.frameWords_keep | refine Keep.foldl ?_ fun _ _ _ => ?_ | refine Keep.eqG (by assumption) ?_
    | with_reducible (refine Keep.record ?_ rfl rfl rfl rfl rfl rfl rfl rfl rfl; first | assumption | apply State.setBit_keep | apply State.setData_keep | apply State.modLoop_keep | apply State.frameWords_keep | refine Keep.foldl ?_ fun _ _ _ => ?_ | refine Keep.eqG (by assumption) ?_)
    | split

theorem State.runShadow_keep {s0 s : State} {l : _} (h : Keep s0 s) :
    Keep s0 (State.runShadow s l) := by
  unfold State.runShadow
  repeat' with_reducible first | assumption | apply State.setShadow_keep | apply State.modLoop_keep | refine Keep.ofG (State.frameWords_keep ?_) | refine Keep.foldl ?_ fun _ _ _ => ?_

theorem execLoopProgramRun_keep {s0 s : State} {l : _} (h : Keep s0 s) :
    KeepX s0 (execLoopProgramRun l s) := by
  unfold execLoopProgramRun
  repeat' first
    | ((fail_if_success (conv => arg 2; fun)); extract_lets +onlyGivenNames y; clear_value (e : y = _); refine Keep.letVar (s0 := s0) e ?_ fun _ => ?_)
    | with_reducible first | assumption | apply State.runLoop_keep | apply State.runShadow_keep | apply Keep.next
    | split

theorem State.modRc_keep {s0 s : State} {z f : _} (h : Keep s0 s) :
    Keep s0 (State.modRc s z f) := by
  unfold State.modRc
  repeat' with_reducible first | assumption | refine Keep.record ?_ rfl rfl rfl rfl rfl rfl rfl rfl rfl

theorem State.setCell_keep {s0 s : State} {z k x : _} (h : Keep s0 s) :
    Keep s0 (State.setCell s z k x) := by
  unfold State.setCell
  repeat' with_reducible first | assumption | apply State.setF_keep

theorem State.clearCells_keep {s0 s : State} {z : _} (h : Keep s0 s) :
    Keep s0 (State.clearCells s z) := by
  unfold State.clearCells
  repeat' with_reducible first | assumption | apply State.setCell_keep | refine Keep.foldl ?_ fun _ _ _ => ?_

theorem State.rcSample_keep {s0 s : State} {z mw : _} (h : Keep s0 s) :
    Keep s0 (State.rcSample s z mw) := by
  unfold State.rcSample
  repeat' first
    | ((fail_if_success (conv => arg 2; fun)); extract_lets +onlyGivenNames y; clear_value (e : y = _); refine Keep.letVar (s0 := s0) e ?_ fun _ => ?_)
    | ((fail_if_success (conv => arg 2; fun)); extract_lets +onlyGivenNames y)
    | with_reducible first | assumption | apply State.modRc_keep
    | split

theorem execCopperFastPeriod_keep {s0 s : State} {readings zoneMw shadow : _} (h : Keep s0 s) :
    KeepX s0 (execCopperFastPeriod readings zoneMw shadow s) := by
  unfold execCopperFastPeriod
  repeat' first
    | ((fail_if_success (conv => arg 2; fun)); extract_lets +onlyGivenNames y; clear_value (e : y = _); refine Keep.letVar (s0 := s0) e ?_ fun _ => ?_)
    | ((fail_if_success (conv => arg 2; fun)); extract_lets +onlyGivenNames y)
    | with_reducible first | assumption | apply State.takeReadings_keep | apply State.refresh_keep | apply State.beginPeriod_keep | apply State.rcSample_keep | apply Keep.next | refine Keep.foldl ?_ fun _ _ _ => ?_
    | with_reducible (refine Keep.record ?_ rfl rfl rfl rfl rfl rfl rfl rfl rfl; first | assumption | apply State.takeReadings_keep | apply State.refresh_keep | apply State.beginPeriod_keep | apply State.rcSample_keep | apply Keep.next | refine Keep.foldl ?_ fun _ _ _ => ?_)
    | split

theorem State.rcLearn_keep {s0 s : State} {z : _} (h : Keep s0 s) :
    Keep s0 (State.rcLearn s z) := by
  unfold State.rcLearn
  repeat' first
    | ((fail_if_success (conv => arg 2; fun)); extract_lets +onlyGivenNames y; clear_value (e : y = _); refine Keep.letVar (s0 := s0) e ?_ fun _ => ?_)
    | ((fail_if_success (conv => arg 2; fun)); extract_lets +onlyGivenNames y)
    | with_reducible first | assumption | apply State.modRc_keep | apply State.setCell_keep | refine Keep.foldl ?_ fun _ _ _ => ?_

theorem State.rcLock_keep {s0 s : State} {z oldP iv : _} (h : Keep s0 s) :
    Keep s0 (State.rcLock s z oldP iv) := by
  unfold State.rcLock
  repeat' first
    | ((fail_if_success (conv => arg 2; fun)); extract_lets +onlyGivenNames y; clear_value (e : y = _); refine Keep.letVar (s0 := s0) e ?_ fun _ => ?_)
    | ((fail_if_success (conv => arg 2; fun)); extract_lets +onlyGivenNames y)
    | with_reducible first | assumption | apply State.setF_keep | apply State.modRc_keep | apply State.clearCells_keep
    | split

theorem State.rcMarker_keep {s0 s : State} {z next : _} (h : Keep s0 s) :
    Keep s0 (State.rcMarker s z next) := by
  unfold State.rcMarker
  repeat' first
    | ((fail_if_success (conv => arg 2; fun)); extract_lets +onlyGivenNames y; clear_value (e : y = _); refine Keep.letVar (s0 := s0) e ?_ fun _ => ?_)
    | ((fail_if_success (conv => arg 2; fun)); extract_lets +onlyGivenNames y)
    | with_reducible first | assumption | apply State.setF_keep | apply State.addWrap_keep | apply State.addSat_keep | apply State.modRc_keep | apply State.rcLearn_keep | apply State.rcLock_keep
    | split

theorem execStepMarker_keep {s0 s : State} {next : _} (h : Keep s0 s) :
    KeepX s0 (execStepMarker next s) := by
  unfold execStepMarker
  repeat' first
    | ((fail_if_success (conv => arg 2; fun)); extract_lets +onlyGivenNames y; clear_value (e : y = _); refine Keep.letVar (s0 := s0) e ?_ fun _ => ?_)
    | ((fail_if_success (conv => arg 2; fun)); extract_lets +onlyGivenNames y)
    | with_reducible first | assumption | apply State.rcMarker_keep | apply Keep.next | refine Keep.foldl ?_ fun _ _ _ => ?_
    | with_reducible (refine Keep.record ?_ rfl rfl rfl rfl rfl rfl rfl rfl rfl; first | assumption | apply State.rcMarker_keep | apply Keep.next | refine Keep.foldl ?_ fun _ _ _ => ?_)
    | split

theorem execRcMarkerTimeout_keep {s0 s : State} {z : _} (h : Keep s0 s) :
    KeepX s0 (execRcMarkerTimeout z s) := by
  unfold execRcMarkerTimeout
  repeat' first
    | with_reducible first | assumption | apply State.setF_keep | apply Keep.next
    | split

theorem State.rcFade_keep {s0 s : State} (h : Keep s0 s) :
    Keep s0 (State.rcFade s) := by
  unfold State.rcFade
  repeat' first
    | ((fail_if_success (conv => arg 2; fun)); extract_lets +onlyGivenNames y)
    | with_reducible first | assumption | apply State.setF_keep | refine Keep.foldl ?_ fun _ _ _ => ?_

theorem State.unnamedRecord_keep {s0 s : State} (h : Keep s0 s) :
    Keep s0 (State.unnamedRecord s) := by
  unfold State.unnamedRecord
  repeat' with_reducible first | assumption | refine Keep.ofG (State.fresh_keep ?_) | apply State.post_keep

theorem State.enterTable_keep {s0 s : State} {l : _} (h : Keep s0 s) :
    Keep s0 (State.enterTable s l) := by
  unfold State.enterTable
  repeat' first
    | ((fail_if_success (conv => arg 2; fun)); extract_lets +onlyGivenNames y; clear_value (e : y = _); refine Keep.letVar (s0 := s0) e ?_ fun _ => ?_)
    | ((fail_if_success (conv => arg 2; fun)); extract_lets +onlyGivenNames y)
    | with_reducible first | assumption | apply State.setF_keep | apply State.addSat_keep | apply State.modLoop_keep | apply State.unnamedRecord_keep
    | split

theorem State.setLoopState_keep {s0 s : State} {l st : _} (h : Keep s0 s) :
    Keep s0 (State.setLoopState s l st) := by
  unfold State.setLoopState
  repeat' first
    | ((fail_if_success (conv => arg 2; fun)); extract_lets +onlyGivenNames y; clear_value (e : y = _); refine Keep.letVar (s0 := s0) e ?_ fun _ => ?_)
    | with_reducible first | assumption | apply State.setF_keep | apply State.setBit_keep | apply State.clearBit_keep | apply State.modLoop_keep
    | split

theorem State.tickLoop_keep {s0 s : State} {l : _} (h : Keep s0 s) :
    Keep s0 (State.tickLoop s l) := by
  unfold State.tickLoop
  repeat' first
    | ((fail_if_success (conv => arg 2; fun)); extract_lets +onlyGivenNames y; clear_value (e : y = _); refine Keep.letVar (s0 := s0) e ?_ fun _ => ?_)
    | ((fail_if_success (conv => arg 2; fun)); extract_lets +onlyGivenNames y)
    | with_reducible first | assumption | apply State.setF_keep | apply State.addSat_keep | apply State.modLoop_keep | apply State.enterTable_keep | apply State.setLoopState_keep
    | split

theorem State.setLoopCap_keep {s0 s : State} {n c : _} (h : Keep s0 s) :
    Keep s0 (State.setLoopCap s n c) := by
  unfold State.setLoopCap
  repeat' first
    | ((fail_if_success (conv => arg 2; fun)); extract_lets +onlyGivenNames y; clear_value (e : y = _); refine Keep.letVar (s0 := s0) e ?_ fun _ => ?_)
    | ((fail_if_success (conv => arg 2; fun)); extract_lets +onlyGivenNames y)
    | with_reducible first | assumption | apply State.modDie_keep

theorem State.writeGroup_keep {s0 s : State} {ms fast : _} (h : Keep s0 s) :
    Keep s0 (State.writeGroup s ms fast) := by
  unfold State.writeGroup
  repeat' first
    | ((fail_if_success (conv => arg 2; fun)); extract_lets +onlyGivenNames y; clear_value (e : y = _); refine Keep.letVar (s0 := s0) e ?_ fun _ => ?_)
    | ((fail_if_success (conv => arg 2; fun)); extract_lets +onlyGivenNames y)
    | with_reducible first | assumption | apply State.setF_keep | apply State.setFlag_keep | apply State.setBit_keep | apply State.modLoop_keep | apply State.setLoopCap_keep | refine Keep.foldl ?_ fun _ _ _ => ?_
    | split

theorem State.outputPhase_keep {s0 s : State} {fast : _} (h : Keep s0 s) :
    Keep s0 (State.outputPhase s fast) := by
  unfold State.outputPhase
  repeat' first
    | ((fail_if_success (conv => arg 2; fun)); extract_lets +onlyGivenNames y; clear_value (e : y = _); refine Keep.letVar (s0 := s0) e ?_ fun _ => ?_)
    | ((fail_if_success (conv => arg 2; fun)); extract_lets +onlyGivenNames y)
    | with_reducible first | assumption | apply State.sendFrame_keep | apply State.rcFade_keep | apply State.tickLoop_keep | apply State.writeGroup_keep | refine Keep.foldl ?_ fun _ _ _ => ?_
    | split

theorem execCopperOutputPhase_keep {s0 s : State} {fast : _} (h : Keep s0 s) :
    KeepX s0 (execCopperOutputPhase fast s) := by
  unfold execCopperOutputPhase
  repeat' first
    | with_reducible first | assumption | apply State.sendFrame_keep | apply State.outputPhase_keep | apply Keep.next
    | split

theorem execLoopTableExit_keep {s0 s : State} {l : _} (h : Keep s0 s) :
    KeepX s0 (execLoopTableExit l s) := by
  unfold execLoopTableExit
  repeat' first
    | ((fail_if_success (conv => arg 2; fun)); extract_lets +onlyGivenNames y; clear_value (e : y = _); refine Keep.letVar (s0 := s0) e ?_ fun _ => ?_)
    | with_reducible first | assumption | apply State.modLoop_keep | apply State.setLoopState_keep | apply Keep.next
    | split

theorem State.freshLoop_keep {s0 s : State} {l : _} (h : Keep s0 s) :
    Keep s0 (State.freshLoop s l) := by
  unfold State.freshLoop
  repeat' first
    | ((fail_if_success (conv => arg 2; fun)); extract_lets +onlyGivenNames y; clear_value (e : y = _); refine Keep.letVar (s0 := s0) e ?_ fun _ => ?_)
    | ((fail_if_success (conv => arg 2; fun)); extract_lets +onlyGivenNames y)
    | with_reducible first | assumption | apply State.setF_keep | apply State.setShadow_keep | apply State.modLoop_keep | apply State.setLoopState_keep | refine Keep.foldl ?_ fun _ _ _ => ?_
    | split

theorem State.copperConstants_keep {s0 s : State} (h : Keep s0 s) :
    Keep s0 (State.copperConstants s) := by
  unfold State.copperConstants
  repeat' with_reducible first | assumption | apply State.setData_keep | apply State.setShadow_keep | refine Keep.foldl ?_ fun _ _ _ => ?_

theorem State.applyCle_keep {s0 s : State} (h : Keep s0 s) :
    Keep s0 (State.applyCle s) := by
  unfold State.applyCle
  repeat' first
    | ((fail_if_success (conv => arg 2; fun)); extract_lets +onlyGivenNames y; clear_value (e : y = _); refine Keep.letVar (s0 := s0) e ?_ fun _ => ?_)
    | ((fail_if_success (conv => arg 2; fun)); extract_lets +onlyGivenNames y)
    | with_reducible first | assumption | apply State.setF_keep | apply State.clearCells_keep | apply State.commitWhole_keep | apply State.freshLoop_keep | apply State.copperConstants_keep | refine Keep.foldl ?_ fun _ _ _ => ?_

theorem State.startCleCommit_keep {s0 s : State} (h : Keep s0 s) :
    Keep s0 (State.startCleCommit s) := by
  unfold State.startCleCommit
  repeat' first
    | with_reducible first | assumption | apply State.setF_keep
    | with_reducible (refine Keep.record ?_ rfl rfl rfl rfl rfl rfl rfl rfl rfl; first | assumption | apply State.setF_keep)
    | split

theorem execCleCommit_keep {s0 s : State} (h : Keep s0 s) :
    KeepX s0 (execCleCommit s) := by
  unfold execCleCommit
  repeat' first
    | with_reducible first | assumption | apply State.startCleCommit_keep | apply Keep.next
    | split

theorem execCleCommitApply_keep {s0 s : State} (h : Keep s0 s) :
    KeepX s0 (execCleCommitApply s) := by
  unfold execCleCommitApply
  repeat' first
    | with_reducible first | assumption | apply State.setF_keep | apply State.applyCle_keep | apply Keep.next
    | split

end Sys2Proof.Machine
end

