-- ==== Sys2Proof/Laws/KeepBoot.lean ====
section
/-!
SUPPORT. Register commands, images, start-up and the coolant loop keep what Laws/Keep.lean names.
-/

namespace Sys2Proof.Machine

set_option linter.all false

/-! ### RegWrite -/

theorem State.clearOnes_keep {s0 s : State} {f i v : _} (h : Keep s0 s) :
    Keep s0 (State.clearOnes s f i v) := by
  unfold State.clearOnes
  repeat' with_reducible first | assumption | apply State.setF_keep

theorem State.writeField_keep {s0 s : State} {k data x : _} (h : Keep s0 s) :
    Keep s0 (State.writeField s k data x) := by
  unfold State.writeField
  repeat' first
    | ((fail_if_success (conv => arg 2; fun)); extract_lets +onlyGivenNames y)
    | with_reducible first | assumption | apply State.setF_keep | apply State.clearOnes_keep
    | split

theorem State.plainWrite_keep {s0 s : State} {r k data : _} (h : Keep s0 s) :
    Keep s0 (State.plainWrite s r k data) := by
  unfold State.plainWrite
  repeat' with_reducible first | assumption | apply State.writeField_keep | refine Keep.foldl ?_ fun _ _ _ => ?_

theorem State.commitBlock_keep {s0 s : State} {b : _} (h : Keep s0 s) :
    Keep s0 (State.commitBlock s b) := by
  unfold State.commitBlock
  repeat' first
    | with_reducible first | assumption | apply State.commitCsk_keep | apply State.commitMem_keep | apply State.commitMil_keep | apply State.commitIxf_keep | apply State.commitPtn_keep | apply State.commitRow_keep | apply State.commitGrb_keep | apply State.startCleCommit_keep
    | with_reducible (refine Keep.record ?_ rfl rfl rfl rfl rfl rfl rfl rfl rfl; first | assumption | apply State.commitCsk_keep | apply State.commitMem_keep | apply State.commitMil_keep | apply State.commitIxf_keep | apply State.commitPtn_keep | apply State.commitRow_keep | apply State.commitGrb_keep | apply State.startCleCommit_keep)
    | split

theorem State.writeCompute_keep {s0 s : State} {r k data f : _} (h : Keep s0 s) :
    Keep s0 (State.writeCompute s r k data f) := by
  unfold State.writeCompute
  repeat' first
    | ((fail_if_success (conv => arg 2; fun)); extract_lets +onlyGivenNames y; clear_value (e : y = _); refine Keep.letVar (s0 := s0) e ?_ fun _ => ?_)
    | with_reducible first | assumption | apply State.resetGate_keep | apply State.prodWrite_keep | apply State.consWrite_keep | apply State.enableWrite_keep | apply State.cancelRing_keep | apply State.claimStopWrite_keep | apply State.commitRing_keep | apply State.spareStart_keep | apply State.stgSignal_keep | apply State.commitGate_keep | apply State.capHost_keep | apply State.rackCfg_keep | apply State.plainWrite_keep | apply State.commitBlock_keep
    | split

theorem State.writeFabric_keep {s0 s : State} {r k data f : _} (h : Keep s0 s) :
    Keep s0 (State.writeFabric s r k data f) := by
  unfold State.writeFabric
  repeat' first
    | ((fail_if_success (conv => arg 2; fun)); extract_lets +onlyGivenNames y; clear_value (e : y = _); refine Keep.letVar (s0 := s0) e ?_ fun _ => ?_)
    | with_reducible first | assumption | apply State.seedWrite_keep | apply State.haltWrite_keep | apply State.retrainWrite_keep | apply State.portEnable_keep | apply State.portPark_keep | apply State.fenceClear_keep | apply State.reachQuery_keep | apply State.ptnRetrain_keep | apply State.ptnEnable_keep | apply State.ptnFenceClear_keep | apply State.plainWrite_keep | apply State.commitBlock_keep
    | split

theorem State.writeKilnBlock_keep {s0 s : State} {r k data f : _} (h : Keep s0 s) :
    Keep s0 (State.writeKilnBlock s r k data f) := by
  unfold State.writeKilnBlock
  repeat' first
    | ((fail_if_success (conv => arg 2; fun)); extract_lets +onlyGivenNames y; clear_value (e : y = _); refine Keep.letVar (s0 := s0) e ?_ fun _ => ?_)
    | with_reducible first | assumption | apply State.cskMark_keep | apply State.cskRdSeq_keep | apply State.clashClear_keep | apply State.txbCancel_keep | apply State.pumpCtrlWrite_keep | apply State.plainWrite_keep | apply State.commitBlock_keep | refine Keep.foldl ?_ fun _ _ _ => ?_
    | split

theorem State.holdWrite_keep {s0 s : State} {b a data : _} (h : Keep s0 s) :
    Keep s0 (State.holdWrite s b a data) := by
  unfold State.holdWrite
  repeat' with_reducible first | assumption | refine Keep.record ?_ rfl rfl rfl rfl rfl rfl rfl rfl rfl

theorem State.blockWrite_keep {s0 s : State} {b a r k data : _} (h : Keep s0 s) :
    Keep s0 (State.blockWrite s b a r k data) := by
  unfold State.blockWrite
  repeat' first
    | with_reducible first | assumption | apply State.writeCompute_keep | apply State.writeFabric_keep | apply State.writeKilnBlock_keep | apply State.holdWrite_keep
    | split

/-! ### Images -/

theorem State.showWritten_keep {s0 s : State} (h : Keep s0 s) :
    Keep s0 (State.showWritten s) := by
  unfold State.showWritten
  repeat' with_reducible first | assumption | apply State.setF_keep | apply State.setFlag_keep

theorem State.readOtp_keep {s0 s : State} (h : Keep s0 s) :
    Keep s0 (State.readOtp s) := by
  unfold State.readOtp
  repeat' first
    | ((fail_if_success (conv => arg 2; fun)); extract_lets +onlyGivenNames y; clear_value (e : y = _); refine Keep.letVar (s0 := s0) e ?_ fun _ => ?_)
    | ((fail_if_success (conv => arg 2; fun)); extract_lets +onlyGivenNames y)
    | with_reducible first | assumption | apply State.setF_keep | apply State.setFlag_keep | apply State.showWritten_keep

theorem State.lastVerify_keep {s0 s : State} {part check sect blockErr : _} (h : Keep s0 s) :
    Keep s0 (State.lastVerify s part check sect blockErr) := by
  unfold State.lastVerify
  repeat' first
    | ((fail_if_success (conv => arg 2; fun)); extract_lets +onlyGivenNames y; clear_value (e : y = _); refine Keep.letVar (s0 := s0) e ?_ fun _ => ?_)
    | with_reducible first | assumption | apply State.setF_keep

theorem State.verified_keep {s0 s : State} {part check : _} (h : Keep s0 s) :
    Keep s0 (State.verified s part check) := by
  unfold State.verified
  repeat' first
    | ((fail_if_success (conv => arg 2; fun)); extract_lets +onlyGivenNames y; clear_value (e : y = _); refine Keep.letVar (s0 := s0) e ?_ fun _ => ?_)
    | with_reducible first | assumption | apply State.addSat_keep | apply State.lastVerify_keep
    | split

theorem State.verifiedEvent_keep {s0 s : State} {part check : _} (h : Keep s0 s) :
    Keep s0 (State.verifiedEvent s part check) := by
  unfold State.verifiedEvent
  repeat' first
    | ((fail_if_success (conv => arg 2; fun)); extract_lets +onlyGivenNames y; clear_value (e : y = _); refine Keep.letVar (s0 := s0) e ?_ fun _ => ?_)
    | with_reducible first | assumption | apply State.post_keep | apply State.verified_keep
    | split

theorem State.setImgState_keep {s0 s : State} {x v : _} (h : Keep s0 s) :
    Keep s0 (State.setImgState s x v) := by
  unfold State.setImgState
  repeat' first
    | ((fail_if_success (conv => arg 2; fun)); extract_lets +onlyGivenNames y)
    | with_reducible first | assumption | refine Keep.record ?_ rfl rfl rfl rfl rfl rfl rfl rfl rfl

theorem State.modKiln_keep {s0 s : State} {k f : _} (h : Keep s0 s) :
    Keep s0 (State.modKiln s k f) := by
  unfold State.modKiln
  repeat' first
    | with_reducible first | assumption
    | with_reducible (refine Keep.record ?_ rfl rfl rfl rfl rfl rfl rfl rfl rfl; first | assumption)
    | split

theorem State.romLoad_keep {s0 s : State} {k : _} (h : Keep s0 s) :
    Keep s0 (State.romLoad s k) := by
  unfold State.romLoad
  repeat' first
    | ((fail_if_success (conv => arg 2; fun)); extract_lets +onlyGivenNames y; clear_value (e : y = _); refine Keep.letVar (s0 := s0) e ?_ fun _ => ?_)
    | ((fail_if_success (conv => arg 2; fun)); extract_lets +onlyGivenNames y)
    | with_reducible first | assumption | apply State.setF_keep | apply State.addSat_keep | apply State.verified_keep | apply State.modKiln_keep | refine Keep.foldl ?_ fun _ _ _ => ?_
    | with_reducible (refine Keep.record ?_ rfl rfl rfl rfl rfl rfl rfl rfl rfl; first | assumption | apply State.setF_keep | apply State.addSat_keep | apply State.verified_keep | apply State.modKiln_keep | refine Keep.foldl ?_ fun _ _ _ => ?_)
    | split

theorem listSet_getD_ne {α : Type} (d : α) : ∀ (l : List α) (n j : Nat) (v : α), j ≠ n → (listSet l n v).getD j d = l.getD j d := by
  intro l
  induction l with
  | nil => exact fun _ _ _ _ => rfl
  | cons a t ih =>
    intro n j v e
    cases n with
    | zero =>
      cases j with
      | zero => exact absurd rfl e
      | succ j => rfl
    | succ n =>
      cases j with
      | zero => rfl
      | succ j =>
        have := ih n j v (fun x => e (congrArg Nat.succ x))
        simpa [listSet] using this

/-- Only an unwritten generation passes the checks of an OTP section (R399). -/
theorem State.goodOtp_unwritten {s : State} {d : List Byte} (h : s.goodOtp d = true) : s.otpWritten (field (d.take 384) 1 1) = false := by
  unfold State.goodOtp at h
  simp only [Bool.and_eq_true] at h
  have e := eq_of_beq h.1.1.1.1.1.1.1.1.1.1.1.1.1.2
  simpa using List.find?_some e

theorem State.programOtp_keep {s0 s : State} {d : List Byte} (h : Keep s0 s) (u : s.otpWritten (field (d.take 384) 1 1) = false) :
    Keep s0 (s.programOtp d) := by
  unfold State.programOtp
  dsimp only
  refine State.post_keep (State.showWritten_keep (h.trans ?_))
  exact
    { pending := rfl
      wf := id
      fits := id
      supply := id
      otp := fun g e => by
        refine listSet_getD_ne _ _ _ _ _ ?_
        rintro rfl
        rw [u] at e
        cases e
      serial := rfl
      seed := rfl
      orderP := rfl
      hours := le_refl _
      cycles := le_refl _
      perm := List.prefix_refl _
      permLen := id }

theorem State.writeShadow_keep {s0 s : State} {l : _} (h : Keep s0 s) :
    Keep s0 (State.writeShadow s l) := by
  unfold State.writeShadow
  repeat' first
    | with_reducible first | assumption | apply State.plainWrite_keep | refine Keep.foldl ?_ fun _ _ _ => ?_
    | split

theorem State.writeDirect_keep {s0 s : State} {l : _} (h : Keep s0 s) :
    Keep s0 (State.writeDirect s l) := by
  unfold State.writeDirect
  repeat' first
    | with_reducible first | assumption | apply State.blockWrite_keep | refine Keep.foldl ?_ fun _ _ _ => ?_
    | split

theorem State.commitSection_keep {s0 s : State} {typ : _} (h : Keep s0 s) :
    KeepF s0 (State.commitSection s typ) := by
  unfold State.commitSection
  repeat' first
    | ((fail_if_success (conv => arg 2; fun)); extract_lets +onlyGivenNames y; clear_value (e : y = _); refine Keep.letVar (s0 := s0) e ?_ fun _ => ?_)
    | with_reducible first | assumption | apply State.setF_keep | apply State.commitMem_keep | apply State.commitMil_keep | apply State.commitIxf_keep | apply State.commitPtn_keep | apply State.commitRow_keep | apply State.commitGrb_keep | apply State.applyCle_keep
    | split
    | with_reducible apply Keep.mkF

theorem State.applyModule_keep {s0 s : State} {d : _} (h : Keep s0 s) :
    KeepF s0 (State.applyModule s d) := by
  unfold State.applyModule
  repeat' first
    | ((fail_if_success (conv => arg 2; fun)); extract_lets +onlyGivenNames y; clear_value (e : y = _); refine Keep.letVar (s0 := s0) e ?_ fun _ => ?_)
    | ((fail_if_success (conv => arg 2; fun)); extract_lets +onlyGivenNames y)
    | with_reducible first | assumption | apply State.setF_keep | apply State.commitAll_keep | apply State.idValid_keep
    | with_reducible (refine Keep.record ?_ rfl rfl rfl rfl rfl rfl rfl rfl rfl; first | assumption | apply State.setF_keep | apply State.commitAll_keep | apply State.idValid_keep)
    | split
    | with_reducible apply Keep.mkF

theorem State.applySection_keep {s0 s : State} {typ d sel : _} (h : Keep s0 s) :
    KeepF s0 (State.applySection s typ d sel) := by
  unfold State.applySection
  repeat' first
    | ((fail_if_success (conv => arg 2; fun)); extract_lets +onlyGivenNames y; clear_value (e : y = _); refine Keep.letVar (s0 := s0) e ?_ fun _ => ?_)
    | ((fail_if_success (conv => arg 2; fun)); extract_lets +onlyGivenNames y)
    | with_reducible first | assumption | apply State.takeGrbSet_keep | apply State.takeWeights_keep | apply State.writeShadow_keep | apply State.writeDirect_keep | apply State.commitSection_keep | apply State.applyModule_keep | refine Keep.eqF (by assumption) ?_ | refine Keep.rwF (by assumption) ?_
    | with_reducible (refine Keep.record ?_ rfl rfl rfl rfl rfl rfl rfl rfl rfl; first | assumption | apply State.takeGrbSet_keep | apply State.takeWeights_keep | apply State.writeShadow_keep | apply State.writeDirect_keep | apply State.commitSection_keep | apply State.applyModule_keep | refine Keep.eqF (by assumption) ?_ | refine Keep.rwF (by assumption) ?_)
    | split
    | with_reducible apply Keep.mkF

theorem State.applyOrder_keep {s0 s : State} {l sel z3 : _} (h : Keep s0 s) :
    KeepF s0 (State.applyOrder s l sel z3) := by
  induction z3 generalizing s l sel with
  | nil =>
    unfold State.applyOrder
    repeat' first
      | ((fail_if_success (conv => arg 2; fun)); extract_lets +onlyGivenNames y)
      | with_reducible first | assumption | apply State.applySection_keep | apply ih | refine Keep.eqF (by assumption) ?_
      | with_reducible (refine Keep.record ?_ rfl rfl rfl rfl rfl rfl rfl rfl rfl; first | assumption | apply State.applySection_keep | apply ih | refine Keep.eqF (by assumption) ?_)
      | split
      | with_reducible apply Keep.mkF
  | cons hd tl ih =>
    unfold State.applyOrder
    repeat' first
      | ((fail_if_success (conv => arg 2; fun)); extract_lets +onlyGivenNames y)
      | with_reducible first | assumption | apply State.applySection_keep | apply ih | refine Keep.eqF (by assumption) ?_
      | with_reducible (refine Keep.record ?_ rfl rfl rfl rfl rfl rfl rfl rfl rfl; first | assumption | apply State.applySection_keep | apply ih | refine Keep.eqF (by assumption) ?_)
      | split
      | with_reducible apply Keep.mkF

theorem State.applyConfig_keep {s0 s : State} {l sel order part : _} (h : Keep s0 s) :
    KeepF s0 (State.applyConfig s l sel order part) := by
  unfold State.applyConfig
  repeat' first
    | ((fail_if_success (conv => arg 2; fun)); extract_lets +onlyGivenNames y)
    | with_reducible first | assumption | apply State.setF_keep | apply State.lastVerify_keep | apply State.applyOrder_keep | refine Keep.eqF (by assumption) ?_
    | with_reducible (refine Keep.record ?_ rfl rfl rfl rfl rfl rfl rfl rfl rfl; first | assumption | apply State.setF_keep | apply State.lastVerify_keep | apply State.applyOrder_keep | refine Keep.eqF (by assumption) ?_)
    | split
    | with_reducible apply Keep.mkF

theorem State.bootOtp_keep {s0 s : State} {l part : _} (h : Keep s0 s) :
    KeepF s0 (State.bootOtp s l part) := by
  unfold State.bootOtp
  split
  · exact Keep.mkF h
  · split
    · exact Keep.mkF h
    · split
      · exact Keep.mkF (State.programOtp_keep h (State.goodOtp_unwritten (by assumption)))
      · exact Keep.mkF (State.lastVerify_keep h)

/-! ### BootOps -/

theorem State.clustersGone_keep {s0 s : State} {n : _} (h : Keep s0 s) :
    Keep s0 (State.clustersGone s n) := by
  unfold State.clustersGone
  repeat' first
    | with_reducible first | assumption | apply State.testEvent_keep
    | split

theorem State.makeAbsent_keep {s0 s : State} {l c : _} (h : Keep s0 s) :
    Keep s0 (State.makeAbsent s l c) := by
  unfold State.makeAbsent
  repeat' first
    | ((fail_if_success (conv => arg 2; fun)); extract_lets +onlyGivenNames y; clear_value (e : y = _); refine Keep.letVar (s0 := s0) e ?_ fun _ => ?_)
    | ((fail_if_success (conv => arg 2; fun)); extract_lets +onlyGivenNames y)
    | with_reducible first | assumption | apply State.setAbsent_keep | apply State.degEvent_keep | refine Keep.record ?_ rfl rfl rfl rfl rfl rfl rfl rfl rfl

theorem State.assignSpare_keep {s0 s : State} {l old c cause : _} (h : Keep s0 s) :
    Keep s0 (State.assignSpare s l old c cause) := by
  unfold State.assignSpare
  repeat' first
    | ((fail_if_success (conv => arg 2; fun)); extract_lets +onlyGivenNames y; clear_value (e : y = _); refine Keep.letVar (s0 := s0) e ?_ fun _ => ?_)
    | with_reducible first | assumption | apply State.modCl_keep | apply State.addRepair_keep | apply State.ungateCluster_keep | apply State.setAbsent_keep | apply State.degEvent_keep | apply State.clustersGone_keep | refine Keep.record ?_ rfl rfl rfl rfl rfl rfl rfl rfl rfl

theorem State.remapCause_keep {s0 s : State} {old : _} (h : Keep s0 s) :
    KeepG s0 (State.remapCause s old) := by
  unfold State.remapCause
  repeat' first
    | with_reducible first | assumption | refine Keep.ofG (State.fresh_keep ?_)
    | split
    | with_reducible apply Keep.mkG

theorem State.remap_keep {s0 s : State} {l : _} (h : Keep s0 s) :
    Keep s0 (State.remap s l) := by
  unfold State.remap
  repeat' first
    | ((fail_if_success (conv => arg 2; fun)); extract_lets +onlyGivenNames y)
    | with_reducible first | assumption | apply State.addRepair_keep | apply State.assignSpare_keep | apply State.remapCause_keep | refine Keep.eqG (by assumption) ?_
    | with_reducible (refine Keep.record ?_ rfl rfl rfl rfl rfl rfl rfl rfl rfl; first | assumption | apply State.addRepair_keep | apply State.assignSpare_keep | apply State.remapCause_keep | refine Keep.eqG (by assumption) ?_)
    | split

theorem State.remapDie_keep {s0 s : State} {n : _} (h : Keep s0 s) :
    Keep s0 (State.remapDie s n) := by
  unfold State.remapDie
  repeat' with_reducible first | assumption | apply State.remap_keep | refine Keep.foldl ?_ fun _ _ _ => ?_

theorem State.startupFail_keep {s0 s : State} {c : _} (h : Keep s0 s) :
    Keep s0 (State.startupFail s c) := by
  unfold State.startupFail
  repeat' first
    | ((fail_if_success (conv => arg 2; fun)); extract_lets +onlyGivenNames y; clear_value (e : y = _); refine Keep.letVar (s0 := s0) e ?_ fun _ => ?_)
    | ((fail_if_success (conv => arg 2; fun)); extract_lets +onlyGivenNames y; clear_value y)
    | with_reducible first | assumption | apply State.setF_keep | apply State.fresh_keep | apply State.modCl_keep | apply State.addRepair_keep | apply State.testEvent_keep | apply State.clustersGone_keep | apply State.makeAbsent_keep | refine Keep.eqG (by assumption) ?_
    | with_reducible (refine Keep.record ?_ rfl rfl rfl rfl rfl rfl rfl rfl rfl; first | assumption | apply State.setF_keep | apply State.fresh_keep | apply State.modCl_keep | apply State.addRepair_keep | apply State.testEvent_keep | apply State.clustersGone_keep | apply State.makeAbsent_keep | refine Keep.eqG (by assumption) ?_)
    | split

theorem State.testClusters_keep {s0 s : State} {n bad : _} (h : Keep s0 s) :
    Keep s0 (State.testClusters s n bad) := by
  unfold State.testClusters
  repeat' first
    | ((fail_if_success (conv => arg 2; fun)); extract_lets +onlyGivenNames y; clear_value (e : y = _); refine Keep.letVar (s0 := s0) e ?_ fun _ => ?_)
    | ((fail_if_success (conv => arg 2; fun)); extract_lets +onlyGivenNames y)
    | with_reducible first | assumption | apply State.modCl_keep | apply State.startupFail_keep | refine Keep.foldl ?_ fun _ _ _ => ?_

theorem State.loadDieFirmware_keep {s0 s : State} (h : Keep s0 s) :
    Keep s0 (State.loadDieFirmware s) := by
  unfold State.loadDieFirmware
  repeat' first
    | ((fail_if_success (conv => arg 2; fun)); extract_lets +onlyGivenNames y)
    | with_reducible first | assumption | apply State.setF_keep | refine Keep.record ?_ rfl rfl rfl rfl rfl rfl rfl rfl rfl

theorem State.dieFirmware_keep {s0 s : State} (h : Keep s0 s) :
    KeepF s0 (State.dieFirmware s) := by
  unfold State.dieFirmware
  generalize s.partCheck 2 = c
  split
  · exact Keep.mkF (State.norRefuse_keep h)
  · dsimp only
    have h1 := State.verifiedEvent_keep (part := 2) (check := c) h
    generalize s.verifiedEvent 2 c = t at h1 ⊢
    split
    · exact Keep.mkF (State.loadDieFirmware_keep h1)
    · split
      · exact Keep.mkF h1
      · have h3 : Keep s0 { t with sec := { t.sec with parts := t.sec.parts.set 2 (t.part 5), reflashed := t.sec.reflashed ++ [2] } } :=
          Keep.record h1 rfl rfl rfl rfl rfl rfl rfl rfl rfl
        generalize ({ t with sec := { t.sec with parts := t.sec.parts.set 2 (t.part 5), reflashed := t.sec.reflashed ++ [2] } } : State) = v at h3 ⊢
        have h4 := State.setF_keep (f := .kln .reflashLast) (i := 0) (v := 2) (State.addSat_keep (f := .kln .reflashCount) (i := 0) (n := 1) h3)
        generalize State.setF _ (.kln .reflashLast) 0 2 = w at h4 ⊢
        generalize w.partCheck 2 = e
        have h5 := State.verifiedEvent_keep (part := 2) (check := e) h4
        generalize w.verifiedEvent 2 e = x at h5 ⊢
        split
        · exact Keep.mkF (State.loadDieFirmware_keep (State.post_keep h5))
        · exact Keep.mkF (State.post_keep h5)

theorem State.replaceChannel_keep {s0 s : State} {k p cause failCause : _} (h : Keep s0 s) :
    Keep s0 (State.replaceChannel s k p cause failCause) := by
  unfold State.replaceChannel
  repeat' first
    | ((fail_if_success (conv => arg 2; fun)); extract_lets +onlyGivenNames y; clear_value (e : y = _); refine Keep.letVar (s0 := s0) e ?_ fun _ => ?_)
    | with_reducible first | assumption | apply State.setF_keep | apply State.memEvent_keep | apply State.stackFail_keep | apply State.addRepair_keep | apply State.testEvent_keep
    | split

theorem State.trainStack_keep {s0 s : State} {k bad : _} (h : Keep s0 s) :
    Keep s0 (State.trainStack s k bad) := by
  unfold State.trainStack
  repeat' first
    | ((fail_if_success (conv => arg 2; fun)); extract_lets +onlyGivenNames y; clear_value (e : y = _); refine Keep.letVar (s0 := s0) e ?_ fun _ => ?_)
    | with_reducible first | assumption | apply State.setF_keep | apply State.applySpares_keep | apply State.replaceChannel_keep | refine Keep.foldl ?_ fun _ _ _ => ?_
    | split

theorem State.dropPending_keep {s0 s : State} {k w : _} (h : Keep s0 s) :
    Keep s0 (State.dropPending s k w) := by
  unfold State.dropPending
  repeat' with_reducible first | assumption | apply State.dropRepairs_keep

theorem State.showLeft_keep {s0 s : State} {k : _} (h : Keep s0 s) :
    Keep s0 (State.showLeft s k) := by
  unfold State.showLeft
  repeat' with_reducible first | assumption | apply State.setF_keep

theorem State.leaveRow_keep {s0 s : State} {k w cause : _} (h : Keep s0 s) :
    Keep s0 (State.leaveRow s k w cause) := by
  unfold State.leaveRow
  repeat' first
    | ((fail_if_success (conv => arg 2; fun)); extract_lets +onlyGivenNames y; clear_value (e : y = _); refine Keep.letVar (s0 := s0) e ?_ fun _ => ?_)
    | with_reducible first | assumption | apply State.addRepair_keep | apply State.testEvent_keep | apply State.dropPending_keep | apply State.showLeft_keep
    | split

theorem State.noSpareRow_keep {s0 s : State} {r : _} (h : Keep s0 s) :
    Keep s0 (State.noSpareRow s r) := by
  unfold State.noSpareRow
  repeat' first
    | ((fail_if_success (conv => arg 2; fun)); extract_lets +onlyGivenNames y)
    | with_reducible first | assumption | apply State.replaceChannel_keep | apply State.dropPending_keep | apply State.leaveRow_keep
    | split

theorem State.fitRow_keep {s0 s : State} {r : _} (h : Keep s0 s) :
    Keep s0 (State.fitRow s r) := by
  unfold State.fitRow
  dsimp only
  have h1 : Keep s0 { s with sec := { s.sec with ppr := s.sec.ppr ++ [spareRowKey r.stack r.pch r.bank] } } :=
    Keep.record h rfl rfl rfl rfl rfl rfl rfl rfl rfl
  generalize ({ s with sec := { s.sec with ppr := s.sec.ppr ++ [spareRowKey r.stack r.pch r.bank] } } : State) = t at h1 ⊢
  generalize rowWord r.pch r.bank r.row = w
  split
  · have h2 := State.addSat_keep (f := .bst .memRepaired) (i := r.stack) (n := 1)
      (State.addRepair_keep (rtype := 2) (cause := 6) (unit := r.stack) (word1 := w) (word2 := 0) (State.dropPending_keep (k := r.stack) (w := w) h1))
    have h3 := State.testEvent_keep (code := 3) (severity := 0) (data := rowData r.stack r.pch r.bank r.row) h2
    generalize State.testEvent _ 3 0 _ = u at h3 ⊢
    exact Keep.ite (State.testEvent_keep h3) h3
  · exact State.noSpareRow_keep h1

theorem State.handleRow_keep {s0 s : State} {done unc r : _} (h : Keep s0 s) :
    KeepF s0 (State.handleRow s done unc r) := by
  unfold State.handleRow
  repeat' first
    | ((fail_if_success (conv => arg 2; fun)); extract_lets +onlyGivenNames y)
    | with_reducible first | assumption | apply State.addRepair_keep | apply State.replaceChannel_keep | apply State.leaveRow_keep | apply State.noSpareRow_keep | apply State.fitRow_keep
    | split
    | with_reducible apply Keep.mkF

theorem State.repairRows_keep {s0 s : State} {k rows : _} (h : Keep s0 s) :
    Keep s0 (State.repairRows s k rows) := by
  unfold State.repairRows
  repeat' first
    | ((fail_if_success (conv => arg 2; fun)); extract_lets +onlyGivenNames y; clear_value (e : y = _); refine Keep.letVar (s0 := s0) e ?_ fun _ => ?_)
    | ((fail_if_success (conv => arg 2; fun)); extract_lets +onlyGivenNames y)
    | with_reducible first | assumption | apply State.setF_keep | apply State.showLeft_keep | apply State.handleRow_keep | exact Keep.ofF (by assumption) | refine Keep.ofF (Keep.foldlF ?_ fun _ _ _ => ?_) | apply Keep.mkF

theorem State.iodOn_keep {s0 s : State} (h : Keep s0 s) :
    Keep s0 (State.iodOn s) := by
  unfold State.iodOn
  repeat' first
    | ((fail_if_success (conv => arg 2; fun)); extract_lets +onlyGivenNames y; clear_value (e : y = _); refine Keep.letVar (s0 := s0) e ?_ fun _ => ?_)
    | with_reducible first | assumption | apply State.setF_keep | apply State.setBit_keep | apply State.turnOn_keep
    | split

theorem State.bootFail_keep {s0 s : State} (h : Keep s0 s) :
    Keep s0 (State.bootFail s) := by
  unfold State.bootFail
  repeat' first
    | ((fail_if_success (conv => arg 2; fun)); extract_lets +onlyGivenNames y; clear_value (e : y = _); refine Keep.letVar (s0 := s0) e ?_ fun _ => ?_)
    | ((fail_if_success (conv => arg 2; fun)); extract_lets +onlyGivenNames y)
    | with_reducible first | assumption | apply State.sendStatus_keep | apply State.iodOff_keep | apply State.setModState_keep | apply State.commandDrive_keep | refine Keep.record ?_ rfl rfl rfl rfl rfl rfl rfl rfl rfl

theorem State.diesFail_keep {s0 s : State} (h : Keep s0 s) :
    Keep s0 (State.diesFail s) := by
  unfold State.diesFail
  repeat' first
    | ((fail_if_success (conv => arg 2; fun)); extract_lets +onlyGivenNames y; clear_value (e : y = _); refine Keep.letVar (s0 := s0) e ?_ fun _ => ?_)
    | ((fail_if_success (conv => arg 2; fun)); extract_lets +onlyGivenNames y)
    | with_reducible first | assumption | apply State.sendStatus_keep | apply State.computeOff_keep | apply State.setModState_keep | refine Keep.record ?_ rfl rfl rfl rfl rfl rfl rfl rfl rfl

theorem State.computeOn_keep {s0 s : State} {t1 : _} (h : Keep s0 s) :
    KeepF s0 (State.computeOn s t1) := by
  unfold State.computeOn
  repeat' first
    | ((fail_if_success (conv => arg 2; fun)); extract_lets +onlyGivenNames y; clear_value (e : y = _); refine Keep.letVar (s0 := s0) e ?_ fun _ => ?_)
    | ((fail_if_success (conv => arg 2; fun)); extract_lets +onlyGivenNames y)
    | with_reducible first | assumption | apply State.setFlag_keep | apply State.setApplied_keep | apply State.divideCaps_keep | apply State.coreOn_keep | apply State.memOn_keep | apply State.optOn_keep | apply State.failDie_keep | apply State.applyConfig_keep | apply State.remapDie_keep | apply State.testClusters_keep | apply State.dieFirmware_keep | apply State.trainStack_keep | apply State.repairRows_keep | apply State.bootFail_keep | apply State.diesFail_keep | refine Keep.foldl ?_ fun _ _ _ => ?_ | refine Keep.eqF (by assumption) ?_
    | with_reducible (refine Keep.record ?_ rfl rfl rfl rfl rfl rfl rfl rfl rfl; first | assumption | apply State.setFlag_keep | apply State.setApplied_keep | apply State.divideCaps_keep | apply State.coreOn_keep | apply State.memOn_keep | apply State.optOn_keep | apply State.failDie_keep | apply State.applyConfig_keep | apply State.remapDie_keep | apply State.testClusters_keep | apply State.dieFirmware_keep | apply State.trainStack_keep | apply State.repairRows_keep | apply State.bootFail_keep | apply State.diesFail_keep | refine Keep.foldl ?_ fun _ _ _ => ?_ | refine Keep.eqF (by assumption) ?_)
    | split
    | with_reducible apply Keep.mkF

/-! ### KilnOps -/

theorem State.klnEvent_keep {s0 s : State} {code severity data rowCode : _} (h : Keep s0 s) :
    Keep s0 (State.klnEvent s code severity data rowCode) := by
  unfold State.klnEvent
  repeat' with_reducible first | assumption | apply State.post_keep

theorem State.showHealth_keep {s0 s : State} {k w : _} (h : Keep s0 s) :
    Keep s0 (State.showHealth s k w) := by
  unfold State.showHealth
  repeat' with_reducible first | assumption | apply State.setFlag_keep | refine Keep.foldl ?_ fun _ _ _ => ?_

theorem State.setHealthBit_keep {s0 s : State} {k b v : _} (h : Keep s0 s) :
    Keep s0 (State.setHealthBit s k b v) := by
  unfold State.setHealthBit
  repeat' first
    | ((fail_if_success (conv => arg 2; fun)); extract_lets +onlyGivenNames y; clear_value (e : y = _); refine Keep.letVar (s0 := s0) e ?_ fun _ => ?_)
    | with_reducible first | assumption | apply State.modKiln_keep | apply State.showHealth_keep
    | split

theorem State.evalHealth_keep {s0 s : State} {k : _} (h : Keep s0 s) :
    Keep s0 (State.evalHealth s k) := by
  unfold State.evalHealth
  repeat' first
    | with_reducible first | assumption | apply State.modKiln_keep
    | split

theorem State.setAge_keep {s0 s : State} {k age : _} (h : Keep s0 s) :
    Keep s0 (State.setAge s k age) := by
  unfold State.setAge
  repeat' with_reducible first | assumption | apply State.modKiln_keep | apply State.setHealthBit_keep

theorem State.showStandby_keep {s0 s : State} {k : _} (h : Keep s0 s) :
    Keep s0 (State.showStandby s k) := by
  unfold State.showStandby
  repeat' first
    | ((fail_if_success (conv => arg 2; fun)); extract_lets +onlyGivenNames y; clear_value (e : y = _); refine Keep.letVar (s0 := s0) e ?_ fun _ => ?_)
    | ((fail_if_success (conv => arg 2; fun)); extract_lets +onlyGivenNames y)
    | with_reducible first | assumption | apply State.setF_keep | apply State.setFlag_keep | apply State.klnEvent_keep | apply State.showHealth_keep
    | with_reducible (refine Keep.record ?_ rfl rfl rfl rfl rfl rfl rfl rfl rfl; first | assumption | apply State.setF_keep | apply State.setFlag_keep | apply State.klnEvent_keep | apply State.showHealth_keep)
    | split

theorem State.becomeStandby_keep {s0 s : State} {k : _} (h : Keep s0 s) :
    Keep s0 (State.becomeStandby s k) := by
  unfold State.becomeStandby
  repeat' first
    | ((fail_if_success (conv => arg 2; fun)); extract_lets +onlyGivenNames y; clear_value (e : y = _); refine Keep.letVar (s0 := s0) e ?_ fun _ => ?_)
    | with_reducible first | assumption | apply State.setF_keep | apply State.modKiln_keep

theorem State.loseEngine_keep {s0 s : State} {k : _} (h : Keep s0 s) :
    Keep s0 (State.loseEngine s k) := by
  unfold State.loseEngine
  repeat' first
    | ((fail_if_success (conv => arg 2; fun)); extract_lets +onlyGivenNames y; clear_value (e : y = _); refine Keep.letVar (s0 := s0) e ?_ fun _ => ?_)
    | with_reducible first | assumption | apply State.withRegs_keep | apply State.withRowCtl_keep
    | with_reducible (refine Keep.record ?_ rfl rfl rfl rfl rfl rfl rfl rfl rfl; first | assumption | apply State.withRegs_keep | apply State.withRowCtl_keep)
    | split

theorem State.startRestart_keep {s0 s : State} {k cause : _} (h : Keep s0 s) :
    Keep s0 (State.startRestart s k cause) := by
  unfold State.startRestart
  repeat' first
    | ((fail_if_success (conv => arg 2; fun)); extract_lets +onlyGivenNames y; clear_value (e : y = _); refine Keep.letVar (s0 := s0) e ?_ fun _ => ?_)
    | ((fail_if_success (conv => arg 2; fun)); extract_lets +onlyGivenNames y)
    | with_reducible first | assumption | apply State.setF_keep | apply State.addSat_keep | apply State.modKiln_keep | apply State.klnEvent_keep | apply State.showHealth_keep | apply State.loseEngine_keep | refine Keep.record ?_ rfl rfl rfl rfl rfl rfl rfl rfl (Cask.setBuf_perm _ _ _)

theorem State.mbxRespond_keep {s0 s : State} {status data : _} (h : Keep s0 s) :
    Keep s0 (State.mbxRespond s status data) := by
  unfold State.mbxRespond
  repeat' first
    | ((fail_if_success (conv => arg 2; fun)); extract_lets +onlyGivenNames y; clear_value (e : y = _); refine Keep.letVar (s0 := s0) e ?_ fun _ => ?_)
    | ((fail_if_success (conv => arg 2; fun)); extract_lets +onlyGivenNames y)
    | with_reducible first | assumption | apply State.setF_keep | apply State.raiseIrq_keep | refine Keep.foldl ?_ fun _ _ _ => ?_ | refine Keep.record ?_ rfl rfl rfl rfl rfl rfl rfl rfl rfl

theorem State.mbxRan_keep {s0 s : State} {status data : _} (h : Keep s0 s) :
    Keep s0 (State.mbxRan s status data) := by
  unfold State.mbxRan
  repeat' with_reducible first | assumption | refine Keep.record ?_ rfl rfl rfl rfl rfl rfl rfl rfl rfl

theorem State.configShown_keep {s0 s : State} {src hdr : _} (h : Keep s0 s) :
    Keep s0 (State.configShown s src hdr) := by
  unfold State.configShown
  repeat' first
    | ((fail_if_success (conv => arg 2; fun)); extract_lets +onlyGivenNames y; clear_value (e : y = _); refine Keep.letVar (s0 := s0) e ?_ fun _ => ?_)
    | ((fail_if_success (conv => arg 2; fun)); extract_lets +onlyGivenNames y)
    | with_reducible first | assumption | apply State.setF_keep | refine Keep.record ?_ rfl rfl rfl rfl rfl rfl rfl rfl rfl

theorem State.configCommit_keep {s0 s : State} (h : Keep s0 s) :
    Keep s0 (State.configCommit s) := by
  unfold State.configCommit
  repeat' first
    | ((fail_if_success (conv => arg 2; fun)); extract_lets +onlyGivenNames y; clear_value (e : y = _); refine Keep.letVar (s0 := s0) e ?_ fun _ => ?_)
    | ((fail_if_success (conv => arg 2; fun)); extract_lets +onlyGivenNames y)
    | with_reducible first | assumption | apply State.applyConfig_keep | apply State.mbxRan_keep | apply State.configShown_keep | refine Keep.eqF (by assumption) ?_
    | with_reducible (refine Keep.record ?_ rfl rfl rfl rfl rfl rfl rfl rfl rfl; first | assumption | apply State.applyConfig_keep | apply State.mbxRan_keep | apply State.configShown_keep | refine Keep.eqF (by assumption) ?_)
    | split

theorem State.showProgress_keep {s0 s : State} (h : Keep s0 s) :
    Keep s0 (State.showProgress s) := by
  unfold State.showProgress
  repeat' first
    | ((fail_if_success (conv => arg 2; fun)); extract_lets +onlyGivenNames y)
    | with_reducible first | assumption | apply State.setF_keep | refine Keep.ofG (State.fresh_keep ?_)
    | split

theorem State.mbxUndo_keep {s0 s : State} (h : Keep s0 s) :
    Keep s0 (State.mbxUndo s) := by
  unfold State.mbxUndo
  repeat' first
    | with_reducible first | assumption
    | with_reducible (refine Keep.record ?_ rfl rfl rfl rfl rfl rfl rfl rfl rfl; first | assumption)
    | split

theorem State.mbxHandover_keep {s0 s : State} (h : Keep s0 s) :
    Keep s0 (State.mbxHandover s) := by
  unfold State.mbxHandover
  repeat' first
    | with_reducible first | assumption | apply State.mbxRespond_keep | apply State.mbxUndo_keep
    | split

theorem State.hotNKiln_keep {s0 s : State} {d stack : _} (h : Keep s0 s) :
    Keep s0 (State.hotNKiln s d stack) := by
  unfold State.hotNKiln
  repeat' first
    | ((fail_if_success (conv => arg 2; fun)); extract_lets +onlyGivenNames y; clear_value (e : y = _); refine Keep.letVar (s0 := s0) e ?_ fun _ => ?_)
    | with_reducible first | assumption | apply State.post_keep | apply State.floorFall_keep | apply State.alarmNow_keep | apply State.quiesceNow_keep

theorem State.hotNPending_keep {s0 s : State} (h : Keep s0 s) :
    Keep s0 (State.hotNPending s) := by
  unfold State.hotNPending
  repeat' first
    | with_reducible first | assumption | apply State.hotNKiln_keep
    | split

theorem State.cutFrames_keep {s0 s : State} (h : Keep s0 s) :
    Keep s0 (State.cutFrames s) := by
  unfold State.cutFrames
  repeat' with_reducible first | assumption | refine Keep.record ?_ rfl rfl rfl rfl rfl rfl rfl rfl rfl

theorem State.toNone_keep {s0 s : State} {cause : _} (h : Keep s0 s) :
    Keep s0 (State.toNone s cause) := by
  unfold State.toNone
  repeat' first
    | ((fail_if_success (conv => arg 2; fun)); extract_lets +onlyGivenNames y; clear_value (e : y = _); refine Keep.letVar (s0 := s0) e ?_ fun _ => ?_)
    | ((fail_if_success (conv => arg 2; fun)); extract_lets +onlyGivenNames y)
    | with_reducible first | assumption | apply State.stopSlices_keep | apply State.cutFrames_keep
    | with_reducible (refine Keep.record ?_ rfl rfl rfl rfl rfl rfl rfl rfl rfl; first | assumption | apply State.stopSlices_keep | apply State.cutFrames_keep)
    | split

theorem State.goStale_keep {s0 s : State} {k : _} (h : Keep s0 s) :
    Keep s0 (State.goStale s k) := by
  unfold State.goStale
  repeat' first
    | ((fail_if_success (conv => arg 2; fun)); extract_lets +onlyGivenNames y; clear_value (e : y = _); refine Keep.letVar (s0 := s0) e ?_ fun _ => ?_)
    | ((fail_if_success (conv => arg 2; fun)); extract_lets +onlyGivenNames y)
    | with_reducible first | assumption | apply State.setApplied_keep | apply State.divideCaps_keep | apply State.enterTable_keep | refine Keep.foldl ?_ fun _ _ _ => ?_
    | split

theorem State.cleHandover_keep {s0 s : State} {k : _} (h : Keep s0 s) :
    Keep s0 (State.cleHandover s k) := by
  unfold State.cleHandover
  repeat' first
    | with_reducible first | assumption | apply State.setF_keep
    | split

theorem State.noOwnerEnd_keep {s0 s : State} (h : Keep s0 s) :
    Keep s0 (State.noOwnerEnd s) := by
  unfold State.noOwnerEnd
  repeat' first
    | with_reducible first | assumption | apply State.setF_keep | refine Keep.ofG (State.fresh_keep ?_) | apply State.liftQuiesce_keep | apply State.klnEvent_keep
    | split

theorem State.grantOwn_keep {s0 s : State} {k : _} (h : Keep s0 s) :
    Keep s0 (State.grantOwn s k) := by
  unfold State.grantOwn
  repeat' first
    | ((fail_if_success (conv => arg 2; fun)); extract_lets +onlyGivenNames y; clear_value (e : y = _); refine Keep.letVar (s0 := s0) e ?_ fun _ => ?_)
    | ((fail_if_success (conv => arg 2; fun)); extract_lets +onlyGivenNames y)
    | with_reducible first | assumption | apply State.setF_keep | apply State.alertClear_keep | apply State.showHealth_keep | apply State.setAge_keep | refine Keep.record ?_ rfl rfl rfl rfl rfl rfl rfl rfl rfl

theorem State.swapEngines_keep {s0 s : State} (h : Keep s0 s) :
    Keep s0 (State.swapEngines s) := by
  unfold State.swapEngines
  repeat' first
    | ((fail_if_success (conv => arg 2; fun)); extract_lets +onlyGivenNames y; clear_value (e : y = _); refine Keep.letVar (s0 := s0) e ?_ fun _ => ?_)
    | ((fail_if_success (conv => arg 2; fun)); extract_lets +onlyGivenNames y)
    | with_reducible first | assumption | apply State.withRegs_keep | refine Keep.record ?_ rfl rfl rfl rfl rfl rfl rfl rfl rfl

theorem State.swapRows_keep {s0 s : State} {buffers : _} (h : Keep s0 s) :
    Keep s0 (State.swapRows s buffers) := by
  unfold State.swapRows
  repeat' first
    | ((fail_if_success (conv => arg 2; fun)); extract_lets +onlyGivenNames y; clear_value (e : y = _); refine Keep.letVar (s0 := s0) e ?_ fun _ => ?_)
    | ((fail_if_success (conv => arg 2; fun)); extract_lets +onlyGivenNames y)
    | with_reducible first | assumption | apply State.withRowCtl_keep | refine Keep.record ?_ rfl rfl rfl rfl rfl rfl rfl rfl rfl

theorem State.loopsFrom_keep {s0 s : State} {f : _} (h : Keep s0 s) :
    Keep s0 (State.loopsFrom s f) := by
  unfold State.loopsFrom
  repeat' first
    | ((fail_if_success (conv => arg 2; fun)); extract_lets +onlyGivenNames y; clear_value (e : y = _); refine Keep.letVar (s0 := s0) e ?_ fun _ => ?_)
    | with_reducible first | assumption | apply State.setF_keep | apply State.modLoop_keep | refine Keep.foldl ?_ fun _ _ _ => ?_

theorem State.tablesFrom_keep {s0 s : State} {f cells : _} (h : Keep s0 s) :
    Keep s0 (State.tablesFrom s f cells) := by
  unfold State.tablesFrom
  repeat' first
    | ((fail_if_success (conv => arg 2; fun)); extract_lets +onlyGivenNames y)
    | with_reducible first | assumption | apply State.withRegs_keep | refine Keep.record ?_ rfl rfl rfl rfl rfl rfl rfl rfl rfl

theorem State.capsFrom_keep {s0 s : State} {f : _} (h : Keep s0 s) :
    Keep s0 (State.capsFrom s f) := by
  unfold State.capsFrom
  repeat' first
    | ((fail_if_success (conv => arg 2; fun)); extract_lets +onlyGivenNames y; clear_value (e : y = _); refine Keep.letVar (s0 := s0) e ?_ fun _ => ?_)
    | ((fail_if_success (conv => arg 2; fun)); extract_lets +onlyGivenNames y)
    | with_reducible first | assumption | apply State.modDie_keep | apply State.setApplied_keep | apply State.setThermal_keep | refine Keep.foldl ?_ fun _ _ _ => ?_
    | split

theorem State.drainFrom_keep {s0 s : State} {f : _} (h : Keep s0 s) :
    Keep s0 (State.drainFrom s f) := by
  unfold State.drainFrom
  repeat' first
    | with_reducible first | assumption | apply State.settle_keep
    | with_reducible (refine Keep.record ?_ rfl rfl rfl rfl rfl rfl rfl rfl rfl; first | assumption | apply State.settle_keep)
    | split

theorem State.fromFrame_keep {s0 s : State} {k : _} (h : Keep s0 s) :
    Keep s0 (State.fromFrame s k) := by
  unfold State.fromFrame
  repeat' first
    | ((fail_if_success (conv => arg 2; fun)); extract_lets +onlyGivenNames y; clear_value (e : y = _); refine Keep.letVar (s0 := s0) e ?_ fun _ => ?_)
    | ((fail_if_success (conv => arg 2; fun)); extract_lets +onlyGivenNames y)
    | with_reducible first | assumption | apply State.withRegs_keep | apply State.sensCounts_keep | apply State.refactor_keep | apply State.swapRows_keep | apply State.loopsFrom_keep | apply State.tablesFrom_keep | apply State.capsFrom_keep | apply State.drainFrom_keep
    | with_reducible (refine Keep.record ?_ rfl rfl rfl rfl rfl rfl rfl rfl rfl; first | assumption | apply State.withRegs_keep | apply State.sensCounts_keep | apply State.refactor_keep | apply State.swapRows_keep | apply State.loopsFrom_keep | apply State.tablesFrom_keep | apply State.capsFrom_keep | apply State.drainFrom_keep)
    | split

theorem State.takeOver_keep {s0 s : State} {k : _} (h : Keep s0 s) :
    Keep s0 (State.takeOver s k) := by
  unfold State.takeOver
  repeat' first
    | ((fail_if_success (conv => arg 2; fun)); extract_lets +onlyGivenNames y; clear_value (e : y = _); refine Keep.letVar (s0 := s0) e ?_ fun _ => ?_)
    | ((fail_if_success (conv => arg 2; fun)); extract_lets +onlyGivenNames y)
    | with_reducible first | assumption | apply State.setF_keep | apply State.addSat_keep | apply State.caskTakeover_keep | apply State.postOwed_keep | apply State.refactor_keep | apply State.klnEvent_keep | apply State.startRestart_keep | apply State.mbxHandover_keep | apply State.hotNPending_keep | apply State.goStale_keep | apply State.cleHandover_keep | apply State.noOwnerEnd_keep | apply State.grantOwn_keep | apply State.swapEngines_keep | apply State.fromFrame_keep
    | split

theorem State.release_keep {s0 s : State} {k cause : _} (h : Keep s0 s) :
    Keep s0 (State.release s k cause) := by
  unfold State.release
  repeat' first
    | ((fail_if_success (conv => arg 2; fun)); extract_lets +onlyGivenNames y; clear_value (e : y = _); refine Keep.letVar (s0 := s0) e ?_ fun _ => ?_)
    | with_reducible first | assumption | apply State.setF_keep | apply State.modKiln_keep | apply State.becomeStandby_keep | apply State.startRestart_keep | apply State.toNone_keep
    | split

theorem State.startRows_keep {s0 s : State} {k : _} (h : Keep s0 s) :
    Keep s0 (State.startRows s k) := by
  unfold State.startRows
  repeat' first
    | with_reducible first | assumption | apply State.portRestart_keep | apply State.restartOther_keep | refine Keep.foldl ?_ fun _ _ _ => ?_
    | split

theorem State.bootKiln_keep {s0 s : State} {k : _} (h : Keep s0 s) :
    Keep s0 (State.bootKiln s k) := by
  unfold State.bootKiln
  repeat' first
    | ((fail_if_success (conv => arg 2; fun)); extract_lets +onlyGivenNames y; clear_value (e : y = _); refine Keep.letVar (s0 := s0) e ?_ fun _ => ?_)
    | with_reducible first | assumption | apply State.setF_keep | apply State.setFlag_keep | apply State.post_keep | apply State.modKiln_keep | apply State.romLoad_keep | apply State.showHealth_keep | apply State.becomeStandby_keep | apply State.startRows_keep
    | split

/-! ### Coolant -/

theorem State.coolEvent_keep {s0 s : State} {code severity data : _} (h : Keep s0 s) :
    Keep s0 (State.coolEvent s code severity data) := by
  unfold State.coolEvent
  repeat' with_reducible first | assumption | apply State.post_keep

theorem State.warnChanged_keep {s0 s : State} (h : Keep s0 s) :
    Keep s0 (State.warnChanged s) := by
  unfold State.warnChanged
  repeat' with_reducible first | assumption | apply State.sendWarn_keep | apply State.coolEvent_keep

theorem State.warnSet_keep {s0 s : State} {b : _} (h : Keep s0 s) :
    Keep s0 (State.warnSet s b) := by
  unfold State.warnSet
  repeat' first
    | with_reducible first | assumption | apply State.setBit_keep | apply State.warnChanged_keep
    | split

theorem State.warnClear_keep {s0 s : State} {b : _} (h : Keep s0 s) :
    Keep s0 (State.warnClear s b) := by
  unfold State.warnClear
  repeat' first
    | with_reducible first | assumption | apply State.clearBit_keep | apply State.warnChanged_keep
    | split

theorem State.substitute_keep {s0 s : State} {id why : _} (h : Keep s0 s) :
    Keep s0 (State.substitute s id why) := by
  unfold State.substitute
  repeat' first
    | ((fail_if_success (conv => arg 2; fun)); extract_lets +onlyGivenNames y; clear_value (e : y = _); refine Keep.letVar (s0 := s0) e ?_ fun _ => ?_)
    | ((fail_if_success (conv => arg 2; fun)); extract_lets +onlyGivenNames y)
    | with_reducible first | assumption | apply State.setSens_keep
    | split

theorem State.sensEvent_keep {s0 s : State} {id why : _} (h : Keep s0 s) :
    Keep s0 (State.sensEvent s id why) := by
  unfold State.sensEvent
  repeat' first
    | with_reducible first | assumption | apply State.coolEvent_keep
    | split

theorem execSensorSubstitute_keep {s0 s : State} {ids why change silent : _} (h : Keep s0 s) :
    KeepX s0 (execSensorSubstitute ids why change silent s) := by
  unfold execSensorSubstitute
  repeat' first
    | ((fail_if_success (conv => arg 2; fun)); extract_lets +onlyGivenNames y; clear_value (e : y = _); refine Keep.letVar (s0 := s0) e ?_ fun _ => ?_)
    | ((fail_if_success (conv => arg 2; fun)); extract_lets +onlyGivenNames y)
    | with_reducible first | assumption | apply State.refresh_keep | apply State.refactor_keep | apply State.coolEvent_keep | apply State.warnSet_keep | apply State.substitute_keep | apply State.sensEvent_keep | apply Keep.next | refine Keep.foldl ?_ fun _ _ _ => ?_
    | split

theorem execSensorRestore_keep {s0 s : State} {id : _} (h : Keep s0 s) :
    KeepX s0 (execSensorRestore id s) := by
  unfold execSensorRestore
  repeat' first
    | ((fail_if_success (conv => arg 2; fun)); extract_lets +onlyGivenNames y)
    | with_reducible first | assumption | apply State.setSens_keep | apply State.refresh_keep | apply State.refactor_keep | apply State.coolEvent_keep | apply Keep.next
    | split

theorem State.setDisagree_keep {s0 s : State} {id b : _} (h : Keep s0 s) :
    Keep s0 (State.setDisagree s id b) := by
  unfold State.setDisagree
  repeat' with_reducible first | assumption | apply State.setSens_keep | refine Keep.foldl ?_ fun _ _ _ => ?_

theorem execSensorDisagree_keep {s0 s : State} {id diff : _} (h : Keep s0 s) :
    KeepX s0 (execSensorDisagree id diff s) := by
  unfold execSensorDisagree
  repeat' first
    | with_reducible first | assumption | apply State.addSat_keep | apply State.coolEvent_keep | apply State.setDisagree_keep | apply Keep.next
    | split

theorem execDisagreeClear_keep {s0 s : State} {id : _} (h : Keep s0 s) :
    KeepX s0 (execDisagreeClear id s) := by
  unfold execDisagreeClear
  repeat' first
    | with_reducible first | assumption | apply State.setDisagree_keep | apply Keep.next
    | split

theorem execModelSuspectEnd_keep {s0 s : State} {z : _} (h : Keep s0 s) :
    KeepX s0 (execModelSuspectEnd z s) := by
  unfold execModelSuspectEnd
  repeat' first
    | with_reducible first | assumption | apply State.refresh_keep | apply State.refactor_keep | apply Keep.next
    | with_reducible (refine Keep.record ?_ rfl rfl rfl rfl rfl rfl rfl rfl rfl; first | assumption | apply State.refresh_keep | apply State.refactor_keep | apply Keep.next)
    | split

theorem State.sensQuery_keep {s0 s : State} {id : _} (h : Keep s0 s) :
    Keep s0 (State.sensQuery s id) := by
  unfold State.sensQuery
  repeat' first
    | ((fail_if_success (conv => arg 2; fun)); extract_lets +onlyGivenNames y; clear_value (e : y = _); refine Keep.letVar (s0 := s0) e ?_ fun _ => ?_)
    | ((fail_if_success (conv => arg 2; fun)); extract_lets +onlyGivenNames y)
    | with_reducible first | assumption | apply State.setF_keep | apply State.setFlag_keep

theorem execSensQuery_keep {s0 s : State} {id : _} (h : Keep s0 s) :
    KeepX s0 (execSensQuery id s) := by
  unfold execSensQuery
  repeat' first
    | with_reducible first | assumption | apply State.setF_keep | apply State.sensQuery_keep | apply Keep.next
    | split

theorem execLeakSuspected_keep {s0 s : State} {n st : _} (h : Keep s0 s) :
    KeepX s0 (execLeakSuspected n st s) := by
  unfold execLeakSuspected
  repeat' first
    | ((fail_if_success (conv => arg 2; fun)); extract_lets +onlyGivenNames y; clear_value (e : y = _); refine Keep.letVar (s0 := s0) e ?_ fun _ => ?_)
    | with_reducible first | assumption | apply State.setF_keep | apply State.setBit_keep | apply State.alertSet_keep | apply State.refactor_keep | apply State.alarmNow_keep | apply State.coolEvent_keep | apply Keep.next
    | split

theorem execLeakSuspectEnd_keep {s0 s : State} {n : _} (h : Keep s0 s) :
    KeepX s0 (execLeakSuspectEnd n s) := by
  unfold execLeakSuspectEnd
  repeat' first
    | ((fail_if_success (conv => arg 2; fun)); extract_lets +onlyGivenNames y; clear_value (e : y = _); refine Keep.letVar (s0 := s0) e ?_ fun _ => ?_)
    | with_reducible first | assumption | apply State.setF_keep | apply State.clearBit_keep | apply State.alertClear_keep | apply State.refactor_keep | apply State.allClear_keep | apply Keep.next
    | split

theorem execLeak_keep {s0 s : State} {n rpm : _} (h : Keep s0 s) :
    KeepX s0 (execLeak n rpm s) := by
  unfold execLeak
  repeat' first
    | ((fail_if_success (conv => arg 2; fun)); extract_lets +onlyGivenNames y; clear_value (e : y = _); refine Keep.letVar (s0 := s0) e ?_ fun _ => ?_)
    | ((fail_if_success (conv => arg 2; fun)); extract_lets +onlyGivenNames y)
    | with_reducible first | assumption | apply State.setF_keep | apply State.setBit_keep | apply State.alertSet_keep | apply State.floorFall_keep | apply State.alarmNow_keep | apply State.quiesceNow_keep | apply State.commandDrive_keep | apply State.coolEvent_keep | apply Keep.next
    | with_reducible (refine Keep.record ?_ rfl rfl rfl rfl rfl rfl rfl rfl rfl; first | assumption | apply State.setF_keep | apply State.setBit_keep | apply State.alertSet_keep | apply State.floorFall_keep | apply State.alarmNow_keep | apply State.quiesceNow_keep | apply State.commandDrive_keep | apply State.coolEvent_keep | apply Keep.next)
    | split

theorem State.leakClear_keep {s0 s : State} {dry : _} (h : Keep s0 s) :
    Keep s0 (State.leakClear s dry) := by
  unfold State.leakClear
  repeat' first
    | ((fail_if_success (conv => arg 2; fun)); extract_lets +onlyGivenNames y; clear_value (e : y = _); refine Keep.letVar (s0 := s0) e ?_ fun _ => ?_)
    | with_reducible first | assumption | apply State.setF_keep | apply State.alertClear_keep | apply State.dropProtect_keep | apply State.allClear_keep | apply State.liftQuiesce_keep
    | split

theorem execLeakClearWrite_keep {s0 s : State} {dry : _} (h : Keep s0 s) :
    KeepX s0 (execLeakClearWrite dry s) := by
  unfold execLeakClearWrite
  repeat' first
    | with_reducible first | assumption | apply State.leakClear_keep | apply Keep.next
    | split

theorem execRefreshRateRise_keep {s0 s : State} {k : _} (h : Keep s0 s) :
    KeepX s0 (execRefreshRateRise k s) := by
  unfold execRefreshRateRise
  repeat' first
    | with_reducible first | assumption | apply State.setF_keep | apply Keep.next
    | split

theorem execRefreshRateFall_keep {s0 s : State} {k : _} (h : Keep s0 s) :
    KeepX s0 (execRefreshRateFall k s) := by
  unfold execRefreshRateFall
  repeat' first
    | with_reducible first | assumption | apply State.setF_keep | apply Keep.next
    | split

theorem execFlowLoss_keep {s0 s : State} {readings : _} (h : Keep s0 s) :
    KeepX s0 (execFlowLoss readings s) := by
  unfold execFlowLoss
  refine Keep.next (Keep.ite ?_ h)
  have h1 := State.refresh_keep (State.takeReadings_keep (rs := readings) h)
  generalize State.refresh _ = t at h1 ⊢
  dsimp only
  refine Keep.ite h1 ?_
  have h2 : Keep s0 { t with cool := { t.cool with returned := false } } := Keep.record h1 rfl rfl rfl rfl rfl rfl rfl rfl rfl
  have h3 := State.setF_keep (f := .cle .coolStatusProtectFlow) (i := 0) (v := 1) (State.floorFall_keep (cause := 1) h2)
  generalize State.setF _ (.cle .coolStatusProtectFlow) 0 1 = u at h3 ⊢
  have h4 := Keep.ite (c := u.flag (.cle .coolStatusLeak) = true) h3
    (State.commandDrive_keep (valves := List.replicate 8 openCode) (rpm := 9000) (pumpEn := 3) h3)
  generalize (if u.flag (.cle .coolStatusLeak) = true then u else _) = v at h4 ⊢
  have h5 := Keep.ite (c := v.getF (.cle .coolStatusState) = 0) (State.setF_keep (f := .cle .coolStatusState) (i := 0) (v := 1) h4) h4
  generalize (if v.getF (.cle .coolStatusState) = 0 then _ else v) = w at h5 ⊢
  exact State.alarmNow_keep (State.coolEvent_keep (State.alertSet_keep (State.addSat_keep h5)))

theorem execFlowLossQuiesce_keep {s0 s : State} (h : Keep s0 s) :
    KeepX s0 (execFlowLossQuiesce s) := by
  unfold execFlowLossQuiesce
  repeat' first
    | with_reducible first | assumption | apply State.setF_keep | apply State.addSat_keep | apply State.quiesceNow_keep | apply Keep.next
    | split

theorem execFlowLossPowerDown_keep {s0 s : State} (h : Keep s0 s) :
    KeepX s0 (execFlowLossPowerDown s) := by
  unfold execFlowLossPowerDown
  repeat' first
    | with_reducible first | assumption | apply State.setF_keep | apply State.computeOff_keep | apply Keep.next
    | split

theorem execFlowReturned_keep {s0 s : State} {tests : _} (h : Keep s0 s) :
    KeepX s0 (execFlowReturned tests s) := by
  unfold execFlowReturned
  repeat' first
    | ((fail_if_success (conv => arg 2; fun)); extract_lets +onlyGivenNames y; clear_value (e : y = _); refine Keep.letVar (s0 := s0) e ?_ fun _ => ?_)
    | ((fail_if_success (conv => arg 2; fun)); extract_lets +onlyGivenNames y)
    | with_reducible first | assumption | apply State.setF_keep | apply State.alertClear_keep | apply State.dropProtect_keep | apply State.alarmNow_keep | apply State.allClear_keep | refine Keep.ofF (State.computeOn_keep ?_) | apply State.coolEvent_keep | apply Keep.next
    | with_reducible (refine Keep.record ?_ rfl rfl rfl rfl rfl rfl rfl rfl rfl; first | assumption | apply State.setF_keep | apply State.alertClear_keep | apply State.dropProtect_keep | apply State.alarmNow_keep | apply State.allClear_keep | refine Keep.ofF (State.computeOn_keep ?_) | apply State.coolEvent_keep | apply Keep.next)
    | split

theorem State.coolantLifted_keep {s0 s : State} (h : Keep s0 s) :
    Keep s0 (State.coolantLifted s) := by
  unfold State.coolantLifted
  repeat' first
    | ((fail_if_success (conv => arg 2; fun)); extract_lets +onlyGivenNames y; clear_value (e : y = _); refine Keep.letVar (s0 := s0) e ?_ fun _ => ?_)
    | with_reducible first | assumption | apply State.liftQuiesce_keep | apply State.coolEvent_keep
    | split

theorem execQuiesceLifted_keep {s0 s : State} (h : Keep s0 s) :
    KeepX s0 (execQuiesceLifted s) := by
  unfold execQuiesceLifted
  repeat' first
    | with_reducible first | assumption | apply State.setF_keep | apply State.alertClear_keep | apply State.allClear_keep | apply State.coolantLifted_keep | apply Keep.next
    | split

theorem execCoolantWarn_keep {s0 s : State} {bit : _} (h : Keep s0 s) :
    KeepX s0 (execCoolantWarn bit s) := by
  unfold execCoolantWarn
  repeat' first
    | with_reducible first | assumption | apply State.warnSet_keep | apply Keep.next
    | split

theorem execCoolantWarnClear_keep {s0 s : State} {bit : _} (h : Keep s0 s) :
    KeepX s0 (execCoolantWarnClear bit s) := by
  unfold execCoolantWarnClear
  repeat' first
    | with_reducible first | assumption | apply State.warnClear_keep | apply Keep.next
    | split

theorem execCoolantWarnRepeat_keep {s0 s : State} (h : Keep s0 s) :
    KeepX s0 (execCoolantWarnRepeat s) := by
  unfold execCoolantWarnRepeat
  repeat' first
    | with_reducible first | assumption | apply State.served_keep | apply State.sendWarn_keep | apply Keep.next
    | split

theorem execCondensation_keep {s0 s : State} (h : Keep s0 s) :
    KeepX s0 (execCondensation s) := by
  unfold execCondensation
  repeat' first
    | with_reducible first | assumption | apply State.warnSet_keep | apply Keep.next
    | split

theorem execCondensationClear_keep {s0 s : State} (h : Keep s0 s) :
    KeepX s0 (execCondensationClear s) := by
  unfold execCondensationClear
  repeat' first
    | with_reducible first | assumption | apply State.warnClear_keep | apply Keep.next
    | split

theorem execOverpressure_keep {s0 s : State} {kpa : _} (h : Keep s0 s) :
    KeepX s0 (execOverpressure kpa s) := by
  unfold execOverpressure
  repeat' first
    | ((fail_if_success (conv => arg 2; fun)); extract_lets +onlyGivenNames y; clear_value (e : y = _); refine Keep.letVar (s0 := s0) e ?_ fun _ => ?_)
    | ((fail_if_success (conv => arg 2; fun)); extract_lets +onlyGivenNames y)
    | with_reducible first | assumption | apply State.alarmNow_keep | apply State.commandDrive_keep | apply State.coolEvent_keep | apply Keep.next
    | with_reducible (refine Keep.record ?_ rfl rfl rfl rfl rfl rfl rfl rfl rfl; first | assumption | apply State.alarmNow_keep | apply State.commandDrive_keep | apply State.coolEvent_keep | apply Keep.next)
    | split

theorem execHotN_keep {s0 s : State} {d stack : _} (h : Keep s0 s) :
    KeepX s0 (execHotN d stack s) := by
  unfold execHotN
  repeat' first
    | ((fail_if_success (conv => arg 2; fun)); extract_lets +onlyGivenNames y; clear_value (e : y = _); refine Keep.letVar (s0 := s0) e ?_ fun _ => ?_)
    | ((fail_if_success (conv => arg 2; fun)); extract_lets +onlyGivenNames y)
    | with_reducible first | assumption | apply State.setF_keep | apply State.setFlag_keep | apply State.stopSlices_keep | apply State.applyDrive_keep | apply State.hotNKiln_keep | apply Keep.next
    | with_reducible (refine Keep.record ?_ rfl rfl rfl rfl rfl rfl rfl rfl rfl; first | assumption | apply State.setF_keep | apply State.setFlag_keep | apply State.stopSlices_keep | apply State.applyDrive_keep | apply State.hotNKiln_keep | apply Keep.next)
    | split

theorem execHotNClear_keep {s0 s : State} (h : Keep s0 s) :
    KeepX s0 (execHotNClear s) := by
  unfold execHotNClear
  repeat' first
    | ((fail_if_success (conv => arg 2; fun)); extract_lets +onlyGivenNames y; clear_value (e : y = _); refine Keep.letVar (s0 := s0) e ?_ fun _ => ?_)
    | ((fail_if_success (conv => arg 2; fun)); extract_lets +onlyGivenNames y)
    | with_reducible first | assumption | apply State.setF_keep | apply State.dropProtect_keep | apply State.alarmNow_keep | apply State.allClear_keep | apply State.applyDrive_keep | apply State.coolEvent_keep | apply State.coolantLifted_keep | apply Keep.next
    | with_reducible (refine Keep.record ?_ rfl rfl rfl rfl rfl rfl rfl rfl rfl; first | assumption | apply State.setF_keep | apply State.dropProtect_keep | apply State.alarmNow_keep | apply State.allClear_keep | apply State.applyDrive_keep | apply State.coolEvent_keep | apply State.coolantLifted_keep | apply Keep.next)
    | split

/-! ### Power -/

theorem State.bootAt_keep {s0 s : State} {b : _} (h : Keep s0 s) :
    Keep s0 (State.bootAt s b) := by
  unfold State.bootAt
  repeat' with_reducible first | assumption | refine Keep.record ?_ rfl rfl rfl rfl rfl rfl rfl rfl rfl

theorem State.setRetried_keep {s0 s : State} {b : _} (h : Keep s0 s) :
    Keep s0 (State.setRetried s b) := by
  unfold State.setRetried
  repeat' with_reducible first | assumption | refine Keep.record ?_ rfl rfl rfl rfl rfl rfl rfl rfl rfl

theorem State.powerEvent_keep {s0 s : State} {code severity data : _} (h : Keep s0 s) :
    Keep s0 (State.powerEvent s code severity data) := by
  unfold State.powerEvent
  repeat' with_reducible first | assumption | apply State.post_keep

theorem State.setBoth_keep {s0 s : State} {f i v : _} (h : Keep s0 s) :
    Keep s0 (State.setBoth s f i v) := by
  unfold State.setBoth
  repeat' with_reducible first | assumption | apply State.setF_keep | apply State.setLive_keep

theorem State.takeStraps_keep {s0 s : State} {p : _} (h : Keep s0 s) :
    Keep s0 (State.takeStraps s p) := by
  unfold State.takeStraps
  repeat' first
    | ((fail_if_success (conv => arg 2; fun)); extract_lets +onlyGivenNames y; clear_value (e : y = _); refine Keep.letVar (s0 := s0) e ?_ fun _ => ?_)
    | ((fail_if_success (conv => arg 2; fun)); extract_lets +onlyGivenNames y)
    | with_reducible first | assumption | apply State.setF_keep | apply State.setFlag_keep | apply State.alertSet_keep | apply State.unnamedRecord_keep
    | split

theorem State.takeCeiling_keep {s0 s : State} (h : Keep s0 s) :
    Keep s0 (State.takeCeiling s) := by
  unfold State.takeCeiling
  repeat' first
    | ((fail_if_success (conv => arg 2; fun)); extract_lets +onlyGivenNames y)
    | with_reducible first | assumption | apply State.setF_keep

theorem State.showIdent_keep {s0 s : State} (h : Keep s0 s) :
    Keep s0 (State.showIdent s) := by
  unfold State.showIdent
  repeat' first
    | ((fail_if_success (conv => arg 2; fun)); extract_lets +onlyGivenNames y)
    | with_reducible first | assumption | apply State.setF_keep | refine Keep.foldl ?_ fun _ _ _ => ?_

theorem State.caskDefaults_keep {s0 s : State} (h : Keep s0 s) :
    Keep s0 (State.caskDefaults s) := by
  unfold State.caskDefaults
  repeat' first
    | ((fail_if_success (conv => arg 2; fun)); extract_lets +onlyGivenNames y; clear_value (e : y = _); refine Keep.letVar (s0 := s0) e ?_ fun _ => ?_)
    | with_reducible first | assumption | apply State.setBoth_keep | refine Keep.foldl ?_ fun _ _ _ => ?_ | refine Keep.record ?_ rfl rfl rfl rfl rfl rfl rfl rfl rfl

theorem State.readInventory_keep {s0 s : State} (h : Keep s0 s) :
    Keep s0 (State.readInventory s) := by
  unfold State.readInventory
  repeat' first
    | ((fail_if_success (conv => arg 2; fun)); extract_lets +onlyGivenNames y; clear_value (e : y = _); refine Keep.letVar (s0 := s0) e ?_ fun _ => ?_)
    | ((fail_if_success (conv => arg 2; fun)); extract_lets +onlyGivenNames y)
    | with_reducible first | assumption | apply State.modCl_keep | apply State.setAbsent_keep | apply State.showLeft_keep | refine Keep.foldl ?_ fun _ _ _ => ?_ | refine Keep.record ?_ rfl rfl rfl rfl rfl rfl rfl rfl rfl

theorem State.tryConfig_keep {s0 s : State} {p : _} (h : Keep s0 s) :
    KeepF s0 (State.tryConfig s p) := by
  unfold State.tryConfig
  repeat' first
    | ((fail_if_success (conv => arg 2; fun)); extract_lets +onlyGivenNames y; clear_value (e : y = _); refine Keep.letVar (s0 := s0) e ?_ fun _ => ?_)
    | ((fail_if_success (conv => arg 2; fun)); extract_lets +onlyGivenNames y)
    | with_reducible first | assumption | apply State.lastVerify_keep | apply State.verifiedEvent_keep
    | split
    | with_reducible apply Keep.mkF

theorem State.chooseConfig_keep {s0 s : State} {p : _} (h : Keep s0 s) :
    Keep s0 (State.chooseConfig s p) := by
  unfold State.chooseConfig
  repeat' with_reducible first | assumption | refine Keep.record ?_ rfl rfl rfl rfl rfl rfl rfl rfl rfl

theorem State.bootConfig_keep {s0 s : State} (h : Keep s0 s) :
    KeepF s0 (State.bootConfig s) := by
  unfold State.bootConfig
  repeat' first
    | ((fail_if_success (conv => arg 2; fun)); extract_lets +onlyGivenNames y)
    | with_reducible first | assumption | apply State.post_keep | apply State.tryConfig_keep | apply State.chooseConfig_keep | refine Keep.eqF (by assumption) ?_
    | with_reducible (refine Keep.record ?_ rfl rfl rfl rfl rfl rfl rfl rfl rfl; first | assumption | apply State.post_keep | apply State.tryConfig_keep | apply State.chooseConfig_keep | refine Keep.eqF (by assumption) ?_)
    | split
    | with_reducible apply Keep.mkF

theorem State.step5Fail_keep {s0 s : State} (h : Keep s0 s) :
    Keep s0 (State.step5Fail s) := by
  unfold State.step5Fail
  repeat' first
    | ((fail_if_success (conv => arg 2; fun)); extract_lets +onlyGivenNames y; clear_value (e : y = _); refine Keep.letVar (s0 := s0) e ?_ fun _ => ?_)
    | with_reducible first | assumption | apply State.alertSet_keep | apply State.sendStatus_keep | apply State.setModState_keep | apply State.commandDrive_keep | apply State.bootAt_keep

theorem State.holdEvent_keep {s0 s : State} {loop st : _} (h : Keep s0 s) :
    Keep s0 (State.holdEvent s loop st) := by
  unfold State.holdEvent
  repeat' with_reducible first | assumption | apply State.coolEvent_keep

theorem State.step51_keep {s0 s : State} {loops : _} (h : Keep s0 s) :
    Keep s0 (State.step51 s loops) := by
  unfold State.step51
  repeat' first
    | with_reducible first | assumption | apply State.commandDrive_keep | apply State.bootAt_keep | apply State.step5Fail_keep | apply State.holdEvent_keep
    | split

theorem State.kilnBoot_keep {s0 s : State} {loops : _} (h : Keep s0 s) :
    Keep s0 (State.kilnBoot s loops) := by
  unfold State.kilnBoot
  repeat' first
    | ((fail_if_success (conv => arg 2; fun)); extract_lets +onlyGivenNames y; clear_value (e : y = _); refine Keep.letVar (s0 := s0) e ?_ fun _ => ?_)
    | ((fail_if_success (conv => arg 2; fun)); extract_lets +onlyGivenNames y)
    | with_reducible first | assumption | apply State.sendStatus_keep | apply State.post_keep | apply State.portRestart_keep | refine State.bothRow_keep ?_ (fun _ _ => ?_) | apply State.setModState_keep | apply State.commandDrive_keep | apply State.bootAt_keep | apply State.readInventory_keep | apply State.bootConfig_keep | apply State.step51_keep | refine Keep.foldl ?_ fun _ _ _ => ?_ | refine Keep.eqF (by assumption) ?_
    | with_reducible (refine Keep.record ?_ rfl rfl rfl rfl rfl rfl rfl rfl rfl; first | assumption | apply State.sendStatus_keep | apply State.post_keep | apply State.portRestart_keep | refine State.bothRow_keep ?_ (fun _ _ => ?_) | apply State.setModState_keep | apply State.commandDrive_keep | apply State.bootAt_keep | apply State.readInventory_keep | apply State.bootConfig_keep | apply State.step51_keep | refine Keep.foldl ?_ fun _ _ _ => ?_ | refine Keep.eqF (by assumption) ?_)
    | split

theorem execAuxPowerUp_keep {s0 s : State} {straps first loops : _} (h : Keep s0 s) :
    KeepX s0 (execAuxPowerUp straps first loops s) := by
  unfold execAuxPowerUp
  refine Keep.next ?_
  split
  · exact h
  · dsimp only
    have key : ∀ t, Keep s0 t → Keep s0 { t with power := { t.power with powerCycles := t.power.powerCycles + 1, modState := .starting } } :=
      fun t k => k.trans (Keep.counts rfl rfl rfl rfl rfl rfl rfl (le_refl _) (Nat.le_succ _))
    generalize ht : State.turnOn s .aux = t
    have h1 := key t (ht ▸ State.turnOn_keep h)
    have h2 := State.bootKiln_keep (k := .kb) (State.bootKiln_keep (k := .ka) (State.caskDefaults_keep (State.takeCeiling_keep
      (State.showIdent_keep (State.readOtp_keep (State.takeStraps_keep (p := straps) h1))))))
    split
    · exact State.bootAt_keep h2
    · exact State.kilnBoot_keep (State.takeOver_keep h2)

theorem execPressureReached_keep {s0 s : State} (h : Keep s0 s) :
    KeepX s0 (execPressureReached s) := by
  unfold execPressureReached
  repeat' first
    | with_reducible first | assumption | apply State.bootAt_keep | apply Keep.next
    | split

theorem State.pressureFail_keep {s0 s : State} (h : Keep s0 s) :
    Keep s0 (State.pressureFail s) := by
  unfold State.pressureFail
  repeat' first
    | ((fail_if_success (conv => arg 2; fun)); extract_lets +onlyGivenNames y; clear_value (e : y = _); refine Keep.letVar (s0 := s0) e ?_ fun _ => ?_)
    | with_reducible first | assumption | apply State.bootAt_keep | apply State.step5Fail_keep | apply State.holdEvent_keep
    | split

theorem execPressureWaitTimeout_keep {s0 s : State} (h : Keep s0 s) :
    KeepX s0 (execPressureWaitTimeout s) := by
  unfold execPressureWaitTimeout
  repeat' first
    | with_reducible first | assumption | apply State.pressureFail_keep | apply Keep.next
    | split

theorem State.zeroFail_keep {s0 s : State} {id : _} (h : Keep s0 s) :
    Keep s0 (State.zeroFail s id) := by
  unfold State.zeroFail
  repeat' first
    | ((fail_if_success (conv => arg 2; fun)); extract_lets +onlyGivenNames y; clear_value (e : y = _); refine Keep.letVar (s0 := s0) e ?_ fun _ => ?_)
    | with_reducible first | assumption | apply State.setSens_keep | apply State.substitute_keep | apply State.sensEvent_keep
    | split

theorem State.selectClock_keep {s0 s : State} {carrier : _} (h : Keep s0 s) :
    Keep s0 (State.selectClock s carrier) := by
  unfold State.selectClock
  repeat' with_reducible first | assumption | apply State.setFlag_keep

theorem execPressureHoldEnd_keep {s0 s : State} {fall loops zeroBad carrier : _} (h : Keep s0 s) :
    KeepX s0 (execPressureHoldEnd fall loops zeroBad carrier s) := by
  unfold execPressureHoldEnd
  repeat' first
    | ((fail_if_success (conv => arg 2; fun)); extract_lets +onlyGivenNames y; clear_value (e : y = _); refine Keep.letVar (s0 := s0) e ?_ fun _ => ?_)
    | with_reducible first | assumption | apply State.setF_keep | apply State.refresh_keep | apply State.refactor_keep | apply State.commandDrive_keep | apply State.bootAt_keep | apply State.setRetried_keep | apply State.step5Fail_keep | apply State.holdEvent_keep | apply State.pressureFail_keep | apply State.zeroFail_keep | apply State.selectClock_keep | apply Keep.next | refine Keep.foldl ?_ fun _ _ _ => ?_
    | split

theorem execPressureTestRetry_keep {s0 s : State} {loops : _} (h : Keep s0 s) :
    KeepX s0 (execPressureTestRetry loops s) := by
  unfold execPressureTestRetry
  repeat' first
    | with_reducible first | assumption | apply State.setRetried_keep | apply State.step51_keep | apply Keep.next
    | split

theorem State.prechargeFail_keep {s0 s : State} (h : Keep s0 s) :
    Keep s0 (State.prechargeFail s) := by
  unfold State.prechargeFail
  repeat' first
    | ((fail_if_success (conv => arg 2; fun)); extract_lets +onlyGivenNames y; clear_value (e : y = _); refine Keep.letVar (s0 := s0) e ?_ fun _ => ?_)
    | ((fail_if_success (conv => arg 2; fun)); extract_lets +onlyGivenNames y)
    | with_reducible first | assumption | apply State.setF_keep | apply State.bootAt_keep | apply State.powerEvent_keep | apply State.step5Fail_keep
    | split

theorem execPrechargeTimeout_keep {s0 s : State} (h : Keep s0 s) :
    KeepX s0 (execPrechargeTimeout s) := by
  unfold execPrechargeTimeout
  repeat' first
    | with_reducible first | assumption | apply State.prechargeFail_keep | apply Keep.next
    | split

theorem execPrechargeRetry_keep {s0 s : State} (h : Keep s0 s) :
    KeepX s0 (execPrechargeRetry s) := by
  unfold execPrechargeRetry
  repeat' first
    | with_reducible first | assumption | apply State.setF_keep | apply State.bootAt_keep | apply State.setRetried_keep | apply Keep.next
    | split

theorem State.bootIod_keep {s0 s : State} (h : Keep s0 s) :
    Keep s0 (State.bootIod s) := by
  unfold State.bootIod
  repeat' first
    | ((fail_if_success (conv => arg 2; fun)); extract_lets +onlyGivenNames y; clear_value (e : y = _); refine Keep.letVar (s0 := s0) e ?_ fun _ => ?_)
    | ((fail_if_success (conv => arg 2; fun)); extract_lets +onlyGivenNames y)
    | with_reducible first | assumption | apply State.commandDrive_keep | apply State.applyConfig_keep | apply State.bootOtp_keep | apply State.iodOn_keep | apply State.bootFail_keep | apply State.configShown_keep | apply State.bootAt_keep | refine Keep.eqF (by assumption) ?_
    | with_reducible (refine Keep.record ?_ rfl rfl rfl rfl rfl rfl rfl rfl rfl; first | assumption | apply State.commandDrive_keep | apply State.applyConfig_keep | apply State.bootOtp_keep | apply State.iodOn_keep | apply State.bootFail_keep | apply State.configShown_keep | apply State.bootAt_keep | refine Keep.eqF (by assumption) ?_)
    | split

theorem execPrechargeDone_keep {s0 s : State} (h : Keep s0 s) :
    KeepX s0 (execPrechargeDone s) := by
  unfold execPrechargeDone
  repeat' first
    | with_reducible first | assumption | apply State.setF_keep | apply State.bootIod_keep | apply Keep.next
    | split

theorem State.bootDone_keep {s0 s : State} (h : Keep s0 s) :
    Keep s0 (State.bootDone s) := by
  unfold State.bootDone
  repeat' first
    | ((fail_if_success (conv => arg 2; fun)); extract_lets +onlyGivenNames y; clear_value (e : y = _); refine Keep.letVar (s0 := s0) e ?_ fun _ => ?_)
    | with_reducible first | assumption | apply State.setF_keep | apply State.sendStatus_keep | apply State.claimStop_keep | apply State.settle_keep | apply State.setModState_keep | apply State.bootAt_keep
    | split

theorem execBootFlowReady_keep {s0 s : State} {tests : _} (h : Keep s0 s) :
    KeepX s0 (execBootFlowReady tests s) := by
  unfold execBootFlowReady
  repeat' first
    | ((fail_if_success (conv => arg 2; fun)); extract_lets +onlyGivenNames y)
    | with_reducible first | assumption | apply State.computeOn_keep | apply State.bootDone_keep | apply Keep.next | refine Keep.eqF (by assumption) ?_
    | with_reducible (refine Keep.record ?_ rfl rfl rfl rfl rfl rfl rfl rfl rfl; first | assumption | apply State.computeOn_keep | apply State.bootDone_keep | apply Keep.next | refine Keep.eqF (by assumption) ?_)
    | split

theorem State.flowFail_keep {s0 s : State} (h : Keep s0 s) :
    Keep s0 (State.flowFail s) := by
  unfold State.flowFail
  repeat' with_reducible first | assumption | apply State.sendStatus_keep | apply State.setModState_keep | apply State.coolEvent_keep | apply State.bootAt_keep

theorem execBootFlowTimeout_keep {s0 s : State} (h : Keep s0 s) :
    KeepX s0 (execBootFlowTimeout s) := by
  unfold execBootFlowTimeout
  repeat' first
    | with_reducible first | assumption | apply State.flowFail_keep | apply Keep.next
    | split

theorem State.clockFail_keep {s0 s : State} (h : Keep s0 s) :
    Keep s0 (State.clockFail s) := by
  unfold State.clockFail
  repeat' with_reducible first | assumption | apply State.sendStatus_keep | apply State.postMod_keep | apply State.setModState_keep | apply State.bootAt_keep

theorem State.clockFault_keep {s0 s : State} {data : _} (h : Keep s0 s) :
    Keep s0 (State.clockFault s data) := by
  unfold State.clockFault
  repeat' first
    | ((fail_if_success (conv => arg 2; fun)); extract_lets +onlyGivenNames y; clear_value (e : y = _); refine Keep.letVar (s0 := s0) e ?_ fun _ => ?_)
    | ((fail_if_success (conv => arg 2; fun)); extract_lets +onlyGivenNames y)
    | with_reducible first | assumption | apply State.hostEvent_keep | apply State.post_keep | apply State.iodOff_keep | apply State.setModState_keep | apply State.bootAt_keep
    | split

theorem execRefclkLoss_keep {s0 s : State} (h : Keep s0 s) :
    KeepX s0 (execRefclkLoss s) := by
  unfold execRefclkLoss
  repeat' first
    | ((fail_if_success (conv => arg 2; fun)); extract_lets +onlyGivenNames y; clear_value (e : y = _); refine Keep.letVar (s0 := s0) e ?_ fun _ => ?_)
    | ((fail_if_success (conv => arg 2; fun)); extract_lets +onlyGivenNames y)
    | with_reducible first | assumption | apply State.alertSet_keep | apply State.setHealthBit_keep | apply State.clockFault_keep | apply Keep.next
    | with_reducible (refine Keep.record ?_ rfl rfl rfl rfl rfl rfl rfl rfl rfl; first | assumption | apply State.alertSet_keep | apply State.setHealthBit_keep | apply State.clockFault_keep | apply Keep.next)
    | split

theorem execClockTreeRestored_keep {s0 s : State} (h : Keep s0 s) :
    KeepX s0 (execClockTreeRestored s) := by
  unfold execClockTreeRestored
  repeat' first
    | ((fail_if_success (conv => arg 2; fun)); extract_lets +onlyGivenNames y; clear_value (e : y = _); refine Keep.letVar (s0 := s0) e ?_ fun _ => ?_)
    | with_reducible first | assumption | apply State.setF_keep | apply State.clearBit_keep | apply State.alertClear_keep | apply State.setHealthBit_keep | apply State.bootIod_keep | apply Keep.next
    | split

theorem execBootStepTimeout_keep {s0 s : State} (h : Keep s0 s) :
    KeepX s0 (execBootStepTimeout s) := by
  unfold execBootStepTimeout
  repeat' first
    | with_reducible first | assumption | apply State.pressureFail_keep | apply State.prechargeFail_keep | apply State.flowFail_keep | apply State.clockFail_keep | apply Keep.next
    | split

theorem State.auxOff_keep {s0 s : State} (h : Keep s0 s) :
    Keep s0 (State.auxOff s) := by
  unfold State.auxOff
  have k : Keep s0 ((if s.thl.mbxRun then s.mbxUndo else s).iodOff) := by
    refine State.iodOff_keep ?_
    split
    · exact State.mbxUndo_keep h
    · exact h
  generalize (if s.thl.mbxRun then s.mbxUndo else s).iodOff = t at k ⊢
  dsimp only
  refine k.trans ?_
  exact
    { pending := rfl
      wf := fun _ => by
        rw [State.wf_iff]
        exact ⟨SMap.wf_nil, SMap.wf_nil, SMap.wf_nil⟩
      fits := fun _ f i v m => by
        rcases m with m | m <;> exact absurd m List.not_mem_nil
      supply := fun _ d e => by simp [State.isOn, State.reset, powerInit] at e
      otp := fun _ _ => rfl
      serial := rfl
      seed := rfl
      orderP := rfl
      hours := le_refl _
      cycles := le_refl _
      perm := List.prefix_refl _
      permLen := id }

theorem execAuxPowerLoss_keep {s0 s : State} {torn : _} (h : Keep s0 s) :
    KeepX s0 (execAuxPowerLoss torn s) := by
  unfold execAuxPowerLoss
  repeat' first
    | with_reducible first | assumption | apply State.tearSlot_keep | apply State.auxOff_keep | apply Keep.next
    | split

theorem execDomainFault_keep {s0 s : State} {d : _} (h : Keep s0 s) :
    KeepX s0 (execDomainFault d s) := by
  unfold execDomainFault
  repeat' first
    | ((fail_if_success (conv => arg 2; fun)); extract_lets +onlyGivenNames y; clear_value (e : y = _); refine Keep.letVar (s0 := s0) e ?_ fun _ => ?_)
    | ((fail_if_success (conv => arg 2; fun)); extract_lets +onlyGivenNames y)
    | with_reducible first | assumption | apply State.stackFail_keep | apply State.domainOff_keep | apply State.unnamedRecord_keep | apply State.auxOff_keep | apply Keep.next | refine Keep.foldl ?_ fun _ _ _ => ?_
    | split

theorem execDrainComplete_keep {s0 s : State} (h : Keep s0 s) :
    KeepX s0 (execDrainComplete s) := by
  unfold execDrainComplete
  repeat' first
    | ((fail_if_success (conv => arg 2; fun)); extract_lets +onlyGivenNames y; clear_value (e : y = _); refine Keep.letVar (s0 := s0) e ?_ fun _ => ?_)
    | ((fail_if_success (conv => arg 2; fun)); extract_lets +onlyGivenNames y)
    | with_reducible first | assumption | apply State.setF_keep | apply State.postMod_keep | apply State.settle_keep | apply Keep.next
    | with_reducible (refine Keep.record ?_ rfl rfl rfl rfl rfl rfl rfl rfl rfl; first | assumption | apply State.setF_keep | apply State.postMod_keep | apply State.settle_keep | apply Keep.next)
    | split

theorem execDrainLimitExpiry_keep {s0 s : State} (h : Keep s0 s) :
    KeepX s0 (execDrainLimitExpiry s) := by
  unfold execDrainLimitExpiry
  repeat' first
    | with_reducible first | assumption | apply State.abortHeld_keep | apply Keep.next
    | split

theorem execParkComplete_keep {s0 s : State} (h : Keep s0 s) :
    KeepX s0 (execParkComplete s) := by
  unfold execParkComplete
  repeat' first
    | with_reducible first | assumption | apply State.enterPark_keep | apply Keep.next
    | split

theorem State.abandonImage_keep {s0 s : State} (h : Keep s0 s) :
    Keep s0 (State.abandonImage s) := by
  unfold State.abandonImage
  repeat' first
    | ((fail_if_success (conv => arg 2; fun)); extract_lets +onlyGivenNames y; clear_value (e : y = _); refine Keep.letVar (s0 := s0) e ?_ fun _ => ?_)
    | with_reducible first | assumption | apply State.mbxUndo_keep
    | with_reducible (refine Keep.record ?_ rfl rfl rfl rfl rfl rfl rfl rfl rfl; first | assumption | apply State.mbxUndo_keep)
    | split

theorem State.mainOpen_keep {s0 s : State} (h : Keep s0 s) :
    Keep s0 (State.mainOpen s) := by
  unfold State.mainOpen
  repeat' first
    | ((fail_if_success (conv => arg 2; fun)); extract_lets +onlyGivenNames y; clear_value (e : y = _); refine Keep.letVar (s0 := s0) e ?_ fun _ => ?_)
    | with_reducible first | assumption | apply State.setF_keep | apply State.iodOff_keep | apply State.setModState_keep | apply State.bootAt_keep
    | split

theorem execPwrLoss_keep {s0 s : State} (h : Keep s0 s) :
    KeepX s0 (execPwrLoss s) := by
  unfold execPwrLoss
  repeat' first
    | ((fail_if_success (conv => arg 2; fun)); extract_lets +onlyGivenNames y; clear_value (e : y = _); refine Keep.letVar (s0 := s0) e ?_ fun _ => ?_)
    | with_reducible first | assumption | apply State.powerFlush_keep | apply State.powerEvent_keep | apply State.abandonImage_keep | apply State.mainOpen_keep | apply Keep.next
    | split

theorem execPowerReturn_keep {s0 s : State} (h : Keep s0 s) :
    KeepX s0 (execPowerReturn s) := by
  unfold execPowerReturn
  repeat' first
    | with_reducible first | assumption | apply State.setF_keep | apply Keep.next
    | with_reducible (refine Keep.record ?_ rfl rfl rfl rfl rfl rfl rfl rfl rfl; first | assumption | apply State.setF_keep | apply Keep.next)
    | split

theorem execInputLow_keep {s0 s : State} {volt : _} (h : Keep s0 s) :
    KeepX s0 (execInputLow volt s) := by
  unfold execInputLow
  repeat' first
    | with_reducible first | assumption | apply State.setF_keep | apply State.powerEvent_keep | apply Keep.next
    | split

theorem execInputHigh_keep {s0 s : State} {volt : _} (h : Keep s0 s) :
    KeepX s0 (execInputHigh volt s) := by
  unfold execInputHigh
  repeat' first
    | with_reducible first | assumption | apply State.setF_keep | apply State.powerEvent_keep | apply Keep.next
    | split

theorem execInputTrip_keep {s0 s : State} (h : Keep s0 s) :
    KeepX s0 (execInputTrip s) := by
  unfold execInputTrip
  repeat' first
    | with_reducible first | assumption | apply State.setF_keep | apply State.powerEvent_keep | apply State.mainOpen_keep | apply Keep.next
    | split

theorem execInputRestored_keep {s0 s : State} (h : Keep s0 s) :
    KeepX s0 (execInputRestored s) := by
  unfold execInputRestored
  repeat' first
    | with_reducible first | assumption | apply State.setF_keep | apply State.bootAt_keep | apply State.setRetried_keep | apply Keep.next
    | split

theorem State.removeAt_keep {s0 s : State} {p : _} (h : Keep s0 s) :
    Keep s0 (State.removeAt s p) := by
  unfold State.removeAt
  repeat' with_reducible first | assumption | apply State.setF_keep

theorem State.indicate_keep {s0 s : State} {i : _} (h : Keep s0 s) :
    Keep s0 (State.indicate s i) := by
  unfold State.indicate
  repeat' with_reducible first | assumption | refine Keep.record ?_ rfl rfl rfl rfl rfl rfl rfl rfl rfl

theorem State.mainRelease_keep {s0 s : State} (h : Keep s0 s) :
    Keep s0 (State.mainRelease s) := by
  unfold State.mainRelease
  repeat' with_reducible first | assumption | apply State.setF_keep | apply State.bootAt_keep | apply State.removeAt_keep

theorem State.startRemoval_keep {s0 s : State} {source : _} (h : Keep s0 s) :
    Keep s0 (State.startRemoval s source) := by
  unfold State.startRemoval
  repeat' first
    | ((fail_if_success (conv => arg 2; fun)); extract_lets +onlyGivenNames y; clear_value (e : y = _); refine Keep.letVar (s0 := s0) e ?_ fun _ => ?_)
    | with_reducible first | assumption | apply State.setF_keep | apply State.postMod_keep | apply State.setModState_keep | apply State.startDrain_keep | apply State.bootAt_keep | apply State.removeAt_keep | apply State.indicate_keep | apply State.mainRelease_keep
    | split

theorem execRemoveReqPin_keep {s0 s : State} (h : Keep s0 s) :
    KeepX s0 (execRemoveReqPin s) := by
  unfold execRemoveReqPin
  repeat' with_reducible first | assumption | apply State.startRemoval_keep | apply Keep.next

theorem execModRemoveWrite_keep {s0 s : State} (h : Keep s0 s) :
    KeepX s0 (execModRemoveWrite s) := by
  unfold execModRemoveWrite
  repeat' with_reducible first | assumption | apply State.startRemoval_keep | apply Keep.next

theorem execRemovalSyncEnd_keep {s0 s : State} (h : Keep s0 s) :
    KeepX s0 (execRemovalSyncEnd s) := by
  unfold execRemovalSyncEnd
  repeat' first
    | ((fail_if_success (conv => arg 2; fun)); extract_lets +onlyGivenNames y; clear_value (e : y = _); refine Keep.letVar (s0 := s0) e ?_ fun _ => ?_)
    | with_reducible first | assumption | apply State.sendStatus_keep | apply State.portPark_keep | apply State.sendSummary_keep | apply State.iodOff_keep | apply State.setModState_keep | apply State.removeAt_keep | apply State.mainRelease_keep | apply Keep.next | refine Keep.foldl ?_ fun _ _ _ => ?_
    | split

theorem execRemoveReady_keep {s0 s : State} (h : Keep s0 s) :
    KeepX s0 (execRemoveReady s) := by
  unfold execRemoveReady
  repeat' first
    | ((fail_if_success (conv => arg 2; fun)); extract_lets +onlyGivenNames y; clear_value (e : y = _); refine Keep.letVar (s0 := s0) e ?_ fun _ => ?_)
    | with_reducible first | assumption | apply State.sendStatus_keep | apply State.commandDrive_keep | apply State.powerEvent_keep | apply State.removeAt_keep | apply State.indicate_keep | apply Keep.next
    | split

theorem execSurpriseRemoval_keep {s0 s : State} (h : Keep s0 s) :
    KeepX s0 (execSurpriseRemoval s) := by
  unfold execSurpriseRemoval
  repeat' first
    | with_reducible first | assumption | apply State.setF_keep | apply State.powerFlush_keep | apply State.powerEvent_keep | apply State.abandonImage_keep | apply Keep.next
    | split

theorem execSeatedReturn_keep {s0 s : State} (h : Keep s0 s) :
    KeepX s0 (execSeatedReturn s) := by
  unfold execSeatedReturn
  repeat' first
    | ((fail_if_success (conv => arg 2; fun)); extract_lets +onlyGivenNames y)
    | with_reducible first | assumption | apply State.setF_keep | apply Keep.next
    | with_reducible (refine Keep.record ?_ rfl rfl rfl rfl rfl rfl rfl rfl rfl; first | assumption | apply State.setF_keep | apply Keep.next)
    | split

theorem execImageConfirmTimer_keep {s0 s : State} {k : _} (h : Keep s0 s) :
    KeepX s0 (execImageConfirmTimer k s) := by
  unfold execImageConfirmTimer
  repeat' first
    | with_reducible first | assumption | apply State.post_keep | apply State.setImgState_keep | apply Keep.next
    | split

end Sys2Proof.Machine
end

