-- ==== Sys2Proof/Laws/KeepKiln.lean ====
section
/-!
SUPPORT. The Kiln pair, its control cycle and self-test keep what Laws/Keep.lean names.
-/

namespace Sys2Proof.Machine

set_option linter.all false

/-! ### Kiln -/

theorem execActOwnClaim_keep {s0 s : State} {ka kb : _} (h : Keep s0 s) :
    KeepX s0 (execActOwnClaim ka kb s) := by
  unfold execActOwnClaim
  repeat' first
    | with_reducible first | assumption | apply State.takeOver_keep | apply Keep.next
    | split

theorem execActOwnRelease_keep {s0 s : State} {k : _} (h : Keep s0 s) :
    KeepX s0 (execActOwnRelease k s) := by
  unfold execActOwnRelease
  repeat' with_reducible first | assumption | apply State.release_keep | apply Keep.next

theorem execStrobeTimeout_keep {s0 s : State} (h : Keep s0 s) :
    KeepX s0 (execStrobeTimeout s) := by
  unfold execStrobeTimeout
  repeat' first
    | with_reducible first | assumption | apply State.startRestart_keep | apply State.toNone_keep | apply Keep.next
    | split

theorem execHolderReset_keep {s0 s : State} (h : Keep s0 s) :
    KeepX s0 (execHolderReset s) := by
  unfold execHolderReset
  repeat' first
    | with_reducible first | assumption | apply State.startRestart_keep | apply State.toNone_keep | apply Keep.next
    | split

theorem execStandbyClaim_keep {s0 s : State} {k : _} (h : Keep s0 s) :
    KeepX s0 (execStandbyClaim k s) := by
  unfold execStandbyClaim
  repeat' first
    | with_reducible first | assumption | apply State.takeOver_keep | apply Keep.next
    | split

theorem execStaleClaim_keep {s0 s : State} {k : _} (h : Keep s0 s) :
    KeepX s0 (execStaleClaim k s) := by
  unfold execStaleClaim
  repeat' first
    | with_reducible first | assumption | apply State.takeOver_keep | apply Keep.next
    | split

theorem execHandoverClaimTimeout_keep {s0 s : State} (h : Keep s0 s) :
    KeepX s0 (execHandoverClaimTimeout s) := by
  unfold execHandoverClaimTimeout
  repeat' first
    | ((fail_if_success (conv => arg 2; fun)); extract_lets +onlyGivenNames y; clear_value (e : y = _); refine Keep.letVar (s0 := s0) e ?_ fun _ => ?_)
    | with_reducible first | assumption | apply State.setF_keep | apply State.caskTakeover_keep | apply State.postOwed_keep | apply State.klnEvent_keep | apply State.mbxHandover_keep | apply State.grantOwn_keep | apply Keep.next
    | split

theorem State.keepFramed_keep {s0 s : State} {k r : _} (h : Keep s0 s) :
    Keep s0 (State.keepFramed s k r) := by
  unfold State.keepFramed
  repeat' first
    | ((fail_if_success (conv => arg 2; fun)); extract_lets +onlyGivenNames y)
    | with_reducible first | assumption
    | with_reducible (refine Keep.record ?_ rfl rfl rfl rfl rfl rfl rfl rfl (Cask.setBuf_perm _ _ _); first | assumption)
    | split

theorem State.acceptFrame_keep {s0 s : State} {k f : _} (h : Keep s0 s) :
    Keep s0 (State.acceptFrame s k f) := by
  unfold State.acceptFrame
  repeat' first
    | ((fail_if_success (conv => arg 2; fun)); extract_lets +onlyGivenNames y; clear_value (e : y = _); refine Keep.letVar (s0 := s0) e ?_ fun _ => ?_)
    | with_reducible first | assumption | apply State.setShadow_keep | apply State.modKiln_keep | apply State.setHealthBit_keep | apply State.evalHealth_keep | apply State.setAge_keep | apply State.keepFramed_keep | refine Keep.foldl ?_ fun _ _ _ => ?_
    | split

theorem State.discardFrame_keep {s0 s : State} {k : _} (h : Keep s0 s) :
    Keep s0 (State.discardFrame s k) := by
  unfold State.discardFrame
  repeat' with_reducible first | assumption | apply State.modKiln_keep

theorem execStateFrame_keep {s0 s : State} {verOk crcOk : _} (h : Keep s0 s) :
    KeepX s0 (execStateFrame verOk crcOk s) := by
  unfold execStateFrame
  repeat' first
    | with_reducible first | assumption | apply State.acceptFrame_keep | apply State.discardFrame_keep | apply Keep.next
    | split

theorem execHealthWord_keep {s0 s : State} {bits : _} (h : Keep s0 s) :
    KeepX s0 (execHealthWord bits s) := by
  unfold execHealthWord
  repeat' first
    | ((fail_if_success (conv => arg 2; fun)); extract_lets +onlyGivenNames y; clear_value (e : y = _); refine Keep.letVar (s0 := s0) e ?_ fun _ => ?_)
    | with_reducible first | assumption | apply State.modKiln_keep | apply State.evalHealth_keep | apply State.showStandby_keep | apply Keep.next
    | split

theorem State.diverge_keep {s0 s : State} {k loop : _} (h : Keep s0 s) :
    Keep s0 (State.diverge s k loop) := by
  unfold State.diverge
  repeat' first
    | ((fail_if_success (conv => arg 2; fun)); extract_lets +onlyGivenNames y; clear_value (e : y = _); refine Keep.letVar (s0 := s0) e ?_ fun _ => ?_)
    | with_reducible first | assumption | apply State.modKiln_keep | apply State.klnEvent_keep | apply State.setHealthBit_keep

theorem execDivergence_keep {s0 s : State} {loop : _} (h : Keep s0 s) :
    KeepX s0 (execDivergence loop s) := by
  unfold execDivergence
  repeat' first
    | with_reducible first | assumption | apply State.modKiln_keep | apply State.diverge_keep | apply Keep.next
    | split

theorem execProtectConfirmTimeout_keep {s0 s : State} (h : Keep s0 s) :
    KeepX s0 (execProtectConfirmTimeout s) := by
  unfold execProtectConfirmTimeout
  repeat' first
    | ((fail_if_success (conv => arg 2; fun)); extract_lets +onlyGivenNames y; clear_value (e : y = _); refine Keep.letVar (s0 := s0) e ?_ fun _ => ?_)
    | ((fail_if_success (conv => arg 2; fun)); extract_lets +onlyGivenNames y)
    | with_reducible first | assumption | apply State.setF_keep | apply State.dropProtect_keep | apply State.diverge_keep | apply Keep.next
    | with_reducible (refine Keep.record ?_ rfl rfl rfl rfl rfl rfl rfl rfl rfl; first | assumption | apply State.setF_keep | apply State.dropProtect_keep | apply State.diverge_keep | apply Keep.next)
    | split

theorem execStandbyLostTimer_keep {s0 s : State} (h : Keep s0 s) :
    KeepX s0 (execStandbyLostTimer s) := by
  unfold execStandbyLostTimer
  repeat' first
    | with_reducible first | assumption | apply State.klnEvent_keep | apply Keep.next
    | with_reducible (refine Keep.record ?_ rfl rfl rfl rfl rfl rfl rfl rfl rfl; first | assumption | apply State.klnEvent_keep | apply Keep.next)
    | split

theorem execKilnWatchdog_keep {s0 s : State} {k : _} (h : Keep s0 s) :
    KeepX s0 (execKilnWatchdog k s) := by
  unfold execKilnWatchdog
  repeat' first
    | with_reducible first | assumption | apply State.startRestart_keep | apply State.toNone_keep | apply Keep.next
    | split

theorem State.planHandover_keep {s0 s : State} {cause : _} (h : Keep s0 s) :
    Keep s0 (State.planHandover s cause) := by
  unfold State.planHandover
  repeat' first
    | with_reducible first | assumption
    | with_reducible (refine Keep.record ?_ rfl rfl rfl rfl rfl rfl rfl rfl rfl; first | assumption)
    | split

theorem State.handoverWrite_keep {s0 s : State} {k : _} (h : Keep s0 s) :
    Keep s0 (State.handoverWrite s k) := by
  unfold State.handoverWrite
  repeat' first
    | with_reducible first | assumption | apply State.setF_keep | apply State.planHandover_keep
    | split

theorem execKlnHandoverWrite_keep {s0 s : State} {k : _} (h : Keep s0 s) :
    KeepX s0 (execKlnHandoverWrite k s) := by
  unfold execKlnHandoverWrite
  repeat' first
    | with_reducible first | assumption | apply State.handoverWrite_keep | apply Keep.next
    | split

theorem State.restartWrite_keep {s0 s : State} {k : _} (h : Keep s0 s) :
    Keep s0 (State.restartWrite s k) := by
  unfold State.restartWrite
  repeat' first
    | with_reducible first | assumption | apply State.setF_keep | apply State.startRestart_keep | apply State.planHandover_keep
    | split

theorem execKlnRestartWrite_keep {s0 s : State} {k : _} (h : Keep s0 s) :
    KeepX s0 (execKlnRestartWrite k s) := by
  unfold execKlnRestartWrite
  repeat' first
    | with_reducible first | assumption | apply State.restartWrite_keep | apply Keep.next
    | split

theorem execKilnRestart_keep {s0 s : State} {k : _} (h : Keep s0 s) :
    KeepX s0 (execKilnRestart k s) := by
  unfold execKilnRestart
  repeat' first
    | with_reducible first | assumption | apply State.bootKiln_keep | apply Keep.next
    | split

theorem execKilnEligible_keep {s0 s : State} {k : _} (h : Keep s0 s) :
    KeepX s0 (execKilnEligible k s) := by
  unfold execKilnEligible
  repeat' first
    | ((fail_if_success (conv => arg 2; fun)); extract_lets +onlyGivenNames y; clear_value (e : y = _); refine Keep.letVar (s0 := s0) e ?_ fun _ => ?_)
    | with_reducible first | assumption | apply State.setF_keep | apply State.modKiln_keep | apply State.takeOver_keep | apply Keep.next
    | split

theorem execNoOwnerTimeout_keep {s0 s : State} (h : Keep s0 s) :
    KeepX s0 (execNoOwnerTimeout s) := by
  unfold execNoOwnerTimeout
  repeat' first
    | ((fail_if_success (conv => arg 2; fun)); extract_lets +onlyGivenNames y; clear_value (e : y = _); refine Keep.letVar (s0 := s0) e ?_ fun _ => ?_)
    | with_reducible first | assumption | apply State.setF_keep | apply State.modDie_keep | apply State.quiesceNow_keep | apply State.applyDrive_keep | apply Keep.next | refine Keep.foldl ?_ fun _ _ _ => ?_
    | split

theorem State.dieFails_keep {s0 s : State} {d cause mesh : _} (h : Keep s0 s) :
    Keep s0 (State.dieFails s d cause mesh) := by
  unfold State.dieFails
  repeat' first
    | ((fail_if_success (conv => arg 2; fun)); extract_lets +onlyGivenNames y; clear_value (e : y = _); refine Keep.letVar (s0 := s0) e ?_ fun _ => ?_)
    | with_reducible first | assumption | apply State.setF_keep | apply State.setBit_keep | apply State.clearBit_keep | apply State.failDie_keep | apply State.klnEvent_keep
    | split

theorem execDieHbStall_keep {s0 s : State} {d mesh : _} (h : Keep s0 s) :
    KeepX s0 (execDieHbStall d mesh s) := by
  unfold execDieHbStall
  repeat' first
    | ((fail_if_success (conv => arg 2; fun)); extract_lets +onlyGivenNames y; clear_value (e : y = _); refine Keep.letVar (s0 := s0) e ?_ fun _ => ?_)
    | with_reducible first | assumption | apply State.clearBit_keep | apply State.addSat_keep | apply State.klnEvent_keep | apply State.dieFails_keep | apply Keep.next
    | split

theorem execDieHbFail_keep {s0 s : State} {d mesh : _} (h : Keep s0 s) :
    KeepX s0 (execDieHbFail d mesh s) := by
  unfold execDieHbFail
  repeat' first
    | with_reducible first | assumption | apply State.dieFails_keep | apply Keep.next
    | split

theorem execDieFatal_keep {s0 s : State} {d mesh : _} (h : Keep s0 s) :
    KeepX s0 (execDieFatal d mesh s) := by
  unfold execDieFatal
  repeat' first
    | ((fail_if_success (conv => arg 2; fun)); extract_lets +onlyGivenNames y; clear_value (e : y = _); refine Keep.letVar (s0 := s0) e ?_ fun _ => ?_)
    | with_reducible first | assumption | apply State.setBit_keep | apply State.clockFault_keep | apply State.dieFails_keep | apply Keep.next
    | split

theorem execDieCe_keep {s0 s : State} {d : _} (h : Keep s0 s) :
    KeepX s0 (execDieCe d s) := by
  unfold execDieCe
  repeat' first
    | with_reducible first | assumption | apply State.addSat_keep | apply Keep.next
    | split

theorem execKlnInvDataRead_keep {s0 s : State} (h : Keep s0 s) :
    KeepX s0 (execKlnInvDataRead s) := by
  unfold execKlnInvDataRead
  repeat' first
    | with_reducible first | assumption | apply State.addWrap_keep | apply Keep.next
    | split

/-! ### Control -/

theorem State.showAll_keep {s0 s : State} {f l : _} (h : Keep s0 s) :
    Keep s0 (State.showAll s f l) := by
  unfold State.showAll
  repeat' with_reducible first | assumption | apply State.setF_keep | refine Keep.foldl ?_ fun _ _ _ => ?_

theorem State.inputRange_keep {s0 s : State} {volt : _} (h : Keep s0 s) :
    Keep s0 (State.inputRange s volt) := by
  unfold State.inputRange
  repeat' first
    | ((fail_if_success (conv => arg 2; fun)); extract_lets +onlyGivenNames y; clear_value (e : y = _); refine Keep.letVar (s0 := s0) e ?_ fun _ => ?_)
    | with_reducible first | assumption | apply State.setF_keep
    | split

theorem State.latchMeas_keep {s0 s : State} {m : _} (h : Keep s0 s) :
    Keep s0 (State.latchMeas s m) := by
  unfold State.latchMeas
  repeat' first
    | ((fail_if_success (conv => arg 2; fun)); extract_lets +onlyGivenNames y; clear_value (e : y = _); refine Keep.letVar (s0 := s0) e ?_ fun _ => ?_)
    | ((fail_if_success (conv => arg 2; fun)); extract_lets +onlyGivenNames y)
    | with_reducible first | assumption | apply State.setF_keep | apply State.takeReadings_keep | apply State.takeSources_keep | apply State.refresh_keep | apply State.refreshLeak_keep | apply State.showAll_keep | apply State.inputRange_keep
    | with_reducible (refine Keep.record ?_ rfl rfl rfl rfl rfl rfl rfl rfl rfl; first | assumption | apply State.setF_keep | apply State.takeReadings_keep | apply State.takeSources_keep | apply State.refresh_keep | apply State.refreshLeak_keep | apply State.showAll_keep | apply State.inputRange_keep)
    | split

theorem State.offTimes_keep {s0 s : State} (h : Keep s0 s) :
    Keep s0 (State.offTimes s) := by
  unfold State.offTimes
  repeat' first
    | ((fail_if_success (conv => arg 2; fun)); extract_lets +onlyGivenNames y; clear_value (e : y = _); refine Keep.letVar (s0 := s0) e ?_ fun _ => ?_)
    | ((fail_if_success (conv => arg 2; fun)); extract_lets +onlyGivenNames y)
    | with_reducible first | assumption | apply State.setF_keep | refine Keep.foldl ?_ fun _ _ _ => ?_ | refine Keep.record ?_ rfl rfl rfl rfl rfl rfl rfl rfl rfl

theorem State.suspectZone_keep {s0 s : State} {z : _} (h : Keep s0 s) :
    Keep s0 (State.suspectZone s z) := by
  unfold State.suspectZone
  repeat' first
    | ((fail_if_success (conv => arg 2; fun)); extract_lets +onlyGivenNames y; clear_value (e : y = _); refine Keep.letVar (s0 := s0) e ?_ fun _ => ?_)
    | ((fail_if_success (conv => arg 2; fun)); extract_lets +onlyGivenNames y)
    | with_reducible first | assumption | apply State.refresh_keep | apply State.refactor_keep | apply State.coolEvent_keep
    | with_reducible (refine Keep.record ?_ rfl rfl rfl rfl rfl rfl rfl rfl rfl; first | assumption | apply State.refresh_keep | apply State.refactor_keep | apply State.coolEvent_keep)
    | split

theorem State.endFalls_keep {s0 s : State} (h : Keep s0 s) :
    Keep s0 (State.endFalls s) := by
  unfold State.endFalls
  repeat' first
    | ((fail_if_success (conv => arg 2; fun)); extract_lets +onlyGivenNames y; clear_value (e : y = _); refine Keep.letVar (s0 := s0) e ?_ fun _ => ?_)
    | with_reducible first | assumption | apply State.dropProtect_keep
    | split

theorem State.stackHot_keep {s0 s : State} {k : _} (h : Keep s0 s) :
    Keep s0 (State.stackHot s k) := by
  unfold State.stackHot
  repeat' first
    | ((fail_if_success (conv => arg 2; fun)); extract_lets +onlyGivenNames y)
    | with_reducible first | assumption
    | with_reducible (refine Keep.record ?_ rfl rfl rfl rfl rfl rfl rfl rfl rfl; first | assumption)
    | split

theorem State.dieTherm_keep {s0 s : State} {n : _} (h : Keep s0 s) :
    Keep s0 (State.dieTherm s n) := by
  unfold State.dieTherm
  repeat' first
    | ((fail_if_success (conv => arg 2; fun)); extract_lets +onlyGivenNames y; clear_value (e : y = _); refine Keep.letVar (s0 := s0) e ?_ fun _ => ?_)
    | ((fail_if_success (conv => arg 2; fun)); extract_lets +onlyGivenNames y)
    | with_reducible first | assumption | apply State.modDie_keep
    | split

theorem State.moveTset_keep {s0 s : State} {n : _} (h : Keep s0 s) :
    Keep s0 (State.moveTset s n) := by
  unfold State.moveTset
  repeat' first
    | ((fail_if_success (conv => arg 2; fun)); extract_lets +onlyGivenNames y)
    | with_reducible first | assumption | apply State.setF_keep | apply State.modDie_keep
    | split

theorem State.thermalCycle_keep {s0 s : State} (h : Keep s0 s) :
    Keep s0 (State.thermalCycle s) := by
  unfold State.thermalCycle
  repeat' first
    | ((fail_if_success (conv => arg 2; fun)); extract_lets +onlyGivenNames y; clear_value (e : y = _); refine Keep.letVar (s0 := s0) e ?_ fun _ => ?_)
    | ((fail_if_success (conv => arg 2; fun)); extract_lets +onlyGivenNames y)
    | with_reducible first | assumption | apply State.setThermal_keep | apply State.endFalls_keep | apply State.stackHot_keep | apply State.dieTherm_keep | apply State.moveTset_keep | refine Keep.foldl ?_ fun _ _ _ => ?_

theorem State.capReport_keep {s0 s : State} (h : Keep s0 s) :
    Keep s0 (State.capReport s) := by
  unfold State.capReport
  repeat' first
    | ((fail_if_success (conv => arg 2; fun)); extract_lets +onlyGivenNames y)
    | with_reducible first | assumption | apply State.sendCapStatus_keep
    | with_reducible (refine Keep.record ?_ rfl rfl rfl rfl rfl rfl rfl rfl rfl; first | assumption | apply State.sendCapStatus_keep)
    | split

theorem State.capCycle_keep {s0 s : State} (h : Keep s0 s) :
    Keep s0 (State.capCycle s) := by
  unfold State.capCycle
  repeat' first
    | ((fail_if_success (conv => arg 2; fun)); extract_lets +onlyGivenNames y; clear_value (e : y = _); refine Keep.letVar (s0 := s0) e ?_ fun _ => ?_)
    | with_reducible first | assumption | apply State.setFlag_keep | apply State.setApplied_keep | apply State.divideCaps_keep | apply State.bindingCheck_keep | apply State.takeWeights_keep | apply State.capReport_keep | refine Keep.record ?_ rfl rfl rfl rfl rfl rfl rfl rfl rfl

theorem State.ageCycle_keep {s0 s : State} (h : Keep s0 s) :
    Keep s0 (State.ageCycle s) := by
  unfold State.ageCycle
  repeat' first
    | ((fail_if_success (conv => arg 2; fun)); extract_lets +onlyGivenNames y; clear_value (e : y = _); refine Keep.letVar (s0 := s0) e ?_ fun _ => ?_)
    | ((fail_if_success (conv => arg 2; fun)); extract_lets +onlyGivenNames y)
    | with_reducible first | assumption | apply State.addSat_keep | apply State.add64_keep
    | with_reducible (refine Keep.record ?_ rfl rfl rfl rfl rfl rfl rfl rfl rfl; first | assumption | apply State.addSat_keep | apply State.add64_keep)
    | split

theorem State.markFramed_keep {s0 s : State} {k r : _} (h : Keep s0 s) :
    Keep s0 (State.markFramed s k r) := by
  unfold State.markFramed
  repeat' first
    | with_reducible first | assumption
    | with_reducible (refine Keep.record ?_ rfl rfl rfl rfl rfl rfl rfl rfl (Cask.setBuf_perm _ _ _); first | assumption)
    | split

theorem State.applyExtent_keep {s0 s : State} {data : _} (h : Keep s0 s) :
    Keep s0 (State.applyExtent s data) := by
  unfold State.applyExtent
  repeat' first
    | ((fail_if_success (conv => arg 2; fun)); extract_lets +onlyGivenNames y)
    | with_reducible first | assumption
    | with_reducible (refine Keep.record ?_ rfl rfl rfl rfl rfl rfl rfl rfl rfl; first | assumption)
    | split

theorem State.sendJournal_keep {s0 s : State} (h : Keep s0 s) :
    Keep s0 (State.sendJournal s) := by
  unfold State.sendJournal
  repeat' first
    | ((fail_if_success (conv => arg 2; fun)); extract_lets +onlyGivenNames y; clear_value (e : y = _); refine Keep.letVar (s0 := s0) e ?_ fun _ => ?_)
    | ((fail_if_success (conv => arg 2; fun)); extract_lets +onlyGivenNames y)
    | with_reducible first | assumption | apply State.mbxRespond_keep | apply State.applyExtent_keep
    | with_reducible (refine Keep.record ?_ rfl rfl rfl rfl rfl rfl rfl rfl rfl; first | assumption | apply State.mbxRespond_keep | apply State.applyExtent_keep)
    | split

theorem State.sendStateFrame_keep {s0 s : State} {k final : _} (h : Keep s0 s) :
    Keep s0 (State.sendStateFrame s k final) := by
  unfold State.sendStateFrame
  repeat' first
    | ((fail_if_success (conv => arg 2; fun)); extract_lets +onlyGivenNames y; clear_value (e : y = _); refine Keep.letVar (s0 := s0) e ?_ fun _ => ?_)
    | ((fail_if_success (conv => arg 2; fun)); extract_lets +onlyGivenNames y)
    | with_reducible first | assumption | apply State.markFramed_keep | apply State.sendJournal_keep | refine Keep.record ?_ rfl rfl rfl rfl rfl rfl rfl rfl rfl

theorem State.ageCopy_keep {s0 s : State} {k : _} (h : Keep s0 s) :
    Keep s0 (State.ageCopy s k) := by
  unfold State.ageCopy
  repeat' first
    | with_reducible first | assumption | apply State.setAge_keep
    | split

theorem State.selfCheck_keep {s0 s : State} {k c : _} (h : Keep s0 s) :
    Keep s0 (State.selfCheck s k c) := by
  unfold State.selfCheck
  repeat' first
    | ((fail_if_success (conv => arg 2; fun)); extract_lets +onlyGivenNames y; clear_value (e : y = _); refine Keep.letVar (s0 := s0) e ?_ fun _ => ?_)
    | ((fail_if_success (conv => arg 2; fun)); extract_lets +onlyGivenNames y)
    | with_reducible first | assumption | apply State.addSat_keep | apply State.modKiln_keep | apply State.setHealthBit_keep
    | split

theorem State.keepAlert_keep {s0 s : State} {k : _} (h : Keep s0 s) :
    Keep s0 (State.keepAlert s k) := by
  unfold State.keepAlert
  repeat' first
    | with_reducible first | assumption | apply State.alertSet_keep | apply State.alertClear_keep
    | split

theorem State.endCycle_keep {s0 s : State} {k c : _} (h : Keep s0 s) :
    Keep s0 (State.endCycle s k c) := by
  unfold State.endCycle
  repeat' first
    | ((fail_if_success (conv => arg 2; fun)); extract_lets +onlyGivenNames y; clear_value (e : y = _); refine Keep.letVar (s0 := s0) e ?_ fun _ => ?_)
    | ((fail_if_success (conv => arg 2; fun)); extract_lets +onlyGivenNames y)
    | with_reducible first | assumption | apply State.release_keep | apply State.sendStateFrame_keep | apply State.ageCopy_keep | apply State.selfCheck_keep | apply State.keepAlert_keep
    | with_reducible (refine Keep.record ?_ rfl rfl rfl rfl rfl rfl rfl rfl rfl; first | assumption | apply State.release_keep | apply State.sendStateFrame_keep | apply State.ageCopy_keep | apply State.selfCheck_keep | apply State.keepAlert_keep)
    | split

theorem State.rejectImages_keep {s0 s : State} (h : Keep s0 s) :
    Keep s0 (State.rejectImages s) := by
  unfold State.rejectImages
  repeat' first
    | with_reducible first | assumption | apply State.post_keep | apply State.setImgState_keep | refine Keep.foldl ?_ fun _ _ _ => ?_
    | split

theorem State.heartbeats_keep {s0 s : State} {moved : _} (h : Keep s0 s) :
    Keep s0 (State.heartbeats s moved) := by
  unfold State.heartbeats
  repeat' first
    | with_reducible first | assumption | apply State.setBit_keep | refine Keep.foldl ?_ fun _ _ _ => ?_
    | split

theorem execControlCycle_keep {s0 s : State} {m checks : _} (h : Keep s0 s) :
    KeepX s0 (execControlCycle m checks s) := by
  unfold execControlCycle
  repeat' first
    | ((fail_if_success (conv => arg 2; fun)); extract_lets +onlyGivenNames y; clear_value (e : y = _); refine Keep.letVar (s0 := s0) e ?_ fun _ => ?_)
    | with_reducible first | assumption | apply State.copyMoves_keep | apply State.sendSummary_keep | apply State.beginPeriod_keep | apply State.configCommit_keep | apply State.showProgress_keep | apply State.latchMeas_keep | apply State.offTimes_keep | apply State.suspectZone_keep | apply State.thermalCycle_keep | apply State.capCycle_keep | apply State.ageCycle_keep | apply State.ageCopy_keep | apply State.endCycle_keep | apply State.rejectImages_keep | apply State.heartbeats_keep | apply Keep.next | refine Keep.foldl ?_ fun _ _ _ => ?_
    | split

theorem execStackHotEscalate_keep {s0 s : State} {k : _} (h : Keep s0 s) :
    KeepX s0 (execStackHotEscalate k s) := by
  unfold execStackHotEscalate
  repeat' first
    | ((fail_if_success (conv => arg 2; fun)); extract_lets +onlyGivenNames y)
    | with_reducible first | assumption | apply Keep.next
    | with_reducible (refine Keep.record ?_ rfl rfl rfl rfl rfl rfl rfl rfl rfl; first | assumption | apply Keep.next)
    | split

/-! ### SelfTest -/

theorem State.markSlice_keep {s0 s : State} {die : _} (h : Keep s0 s) :
    Keep s0 (State.markSlice s die) := by
  unfold State.markSlice
  repeat' first
    | with_reducible first | assumption
    | with_reducible (refine Keep.record ?_ rfl rfl rfl rfl rfl rfl rfl rfl rfl; first | assumption)
    | split

theorem State.enterSlice_keep {s0 s : State} {c : _} (h : Keep s0 s) :
    Keep s0 (State.enterSlice s c) := by
  unfold State.enterSlice
  repeat' first
    | ((fail_if_success (conv => arg 2; fun)); extract_lets +onlyGivenNames y; clear_value (e : y = _); refine Keep.letVar (s0 := s0) e ?_ fun _ => ?_)
    | with_reducible first | assumption | apply State.modCl_keep | apply State.ungateCluster_keep
    | split

theorem execSliceStart_keep {s0 s : State} {kind unit : _} (h : Keep s0 s) :
    KeepX s0 (execSliceStart kind unit s) := by
  unfold execSliceStart
  repeat' first
    | ((fail_if_success (conv => arg 2; fun)); extract_lets +onlyGivenNames y; clear_value (e : y = _); refine Keep.letVar (s0 := s0) e ?_ fun _ => ?_)
    | with_reducible first | assumption | apply State.served_keep | apply State.markSlice_keep | apply State.enterSlice_keep | apply Keep.next
    | with_reducible (refine Keep.record ?_ rfl rfl rfl rfl rfl rfl rfl rfl rfl; first | assumption | apply State.served_keep | apply State.markSlice_keep | apply State.enterSlice_keep | apply Keep.next)
    | split

theorem State.endClusterSlice_keep {s0 s : State} {c : _} (h : Keep s0 s) :
    Keep s0 (State.endClusterSlice s c) := by
  unfold State.endClusterSlice
  repeat' first
    | with_reducible first | assumption | apply State.modCl_keep | apply State.gateCluster_keep
    | split

theorem State.sensorsFail_keep {s0 s : State} {ids why : _} (h : Keep s0 s) :
    Keep s0 (State.sensorsFail s ids why) := by
  unfold State.sensorsFail
  repeat' first
    | ((fail_if_success (conv => arg 2; fun)); extract_lets +onlyGivenNames y; clear_value (e : y = _); refine Keep.letVar (s0 := s0) e ?_ fun _ => ?_)
    | with_reducible first | assumption | apply State.refresh_keep | apply State.refactor_keep | apply State.coolEvent_keep | apply State.substitute_keep | apply State.sensEvent_keep | refine Keep.foldl ?_ fun _ _ _ => ?_
    | split

theorem State.sliceFails_keep {s0 s : State} {kind c : _} (h : Keep s0 s) :
    Keep s0 (State.sliceFails s kind c) := by
  unfold State.sliceFails
  repeat' first
    | ((fail_if_success (conv => arg 2; fun)); extract_lets +onlyGivenNames y; clear_value (e : y = _); refine Keep.letVar (s0 := s0) e ?_ fun _ => ?_)
    | with_reducible first | assumption | apply State.modCl_keep | apply State.addRepair_keep | apply State.testEvent_keep | apply State.clustersGone_keep
    | split

theorem State.sliceResult_keep {s0 s : State} {kind unit bad : _} (h : Keep s0 s) :
    Keep s0 (State.sliceResult s kind unit bad) := by
  unfold State.sliceResult
  repeat' first
    | ((fail_if_success (conv => arg 2; fun)); extract_lets +onlyGivenNames y; clear_value (e : y = _); refine Keep.letVar (s0 := s0) e ?_ fun _ => ?_)
    | ((fail_if_success (conv => arg 2; fun)); extract_lets +onlyGivenNames y)
    | with_reducible first | assumption | apply State.setF_keep | apply State.sensorsFail_keep | apply State.sliceFails_keep
    | with_reducible (refine Keep.record ?_ rfl rfl rfl rfl rfl rfl rfl rfl rfl; first | assumption | apply State.setF_keep | apply State.sensorsFail_keep | apply State.sliceFails_keep)
    | split

theorem State.slicePass_keep {s0 s : State} {kind unit bad : _} (h : Keep s0 s) :
    Keep s0 (State.slicePass s kind unit bad) := by
  unfold State.slicePass
  repeat' first
    | with_reducible first | assumption | apply State.modCl_keep
    | with_reducible (refine Keep.record ?_ rfl rfl rfl rfl rfl rfl rfl rfl rfl; first | assumption | apply State.modCl_keep)
    | split

theorem State.sliceLeft_keep {s0 s : State} {kind unit : _} (h : Keep s0 s) :
    Keep s0 (State.sliceLeft s kind unit) := by
  unfold State.sliceLeft
  repeat' first
    | with_reducible first | assumption | apply State.endClusterSlice_keep
    | split

theorem execSliceEnd_keep {s0 s : State} {kind unit pass bad : _} (h : Keep s0 s) :
    KeepX s0 (execSliceEnd kind unit pass bad s) := by
  unfold execSliceEnd
  repeat' first
    | ((fail_if_success (conv => arg 2; fun)); extract_lets +onlyGivenNames y; clear_value (e : y = _); refine Keep.letVar (s0 := s0) e ?_ fun _ => ?_)
    | ((fail_if_success (conv => arg 2; fun)); extract_lets +onlyGivenNames y)
    | with_reducible first | assumption | apply State.setF_keep | apply State.addWrap_keep | apply State.addSat_keep | apply State.testEvent_keep | apply State.sliceResult_keep | apply State.slicePass_keep | apply State.sliceLeft_keep | apply Keep.next
    | with_reducible (refine Keep.record ?_ rfl rfl rfl rfl rfl rfl rfl rfl rfl; first | assumption | apply State.setF_keep | apply State.addWrap_keep | apply State.addSat_keep | apply State.testEvent_keep | apply State.sliceResult_keep | apply State.slicePass_keep | apply State.sliceLeft_keep | apply Keep.next)
    | split

theorem execSchedAging_keep {s0 s : State} {a : _} (h : Keep s0 s) :
    KeepX s0 (execSchedAging a s) := by
  unfold execSchedAging
  repeat' first
    | ((fail_if_success (conv => arg 2; fun)); extract_lets +onlyGivenNames y; clear_value (e : y = _); refine Keep.letVar (s0 := s0) e ?_ fun _ => ?_)
    | ((fail_if_success (conv => arg 2; fun)); extract_lets +onlyGivenNames y)
    | with_reducible first | assumption | apply State.setF_keep | apply State.testEvent_keep | apply Keep.next
    | with_reducible (refine Keep.record ?_ rfl rfl rfl rfl rfl rfl rfl rfl rfl; first | assumption | apply State.setF_keep | apply State.testEvent_keep | apply Keep.next)
    | split

theorem execClusterAbsent_keep {s0 s : State} {c : _} (h : Keep s0 s) :
    KeepX s0 (execClusterAbsent c s) := by
  unfold execClusterAbsent
  repeat' first
    | with_reducible first | assumption | apply State.gateCluster_keep | apply State.makeAbsent_keep | apply Keep.next
    | split

theorem execClusterRemap_keep {s0 s : State} {l : _} (h : Keep s0 s) :
    KeepX s0 (execClusterRemap l s) := by
  unfold execClusterRemap
  repeat' first
    | with_reducible first | assumption | apply State.remap_keep | apply Keep.next
    | split

end Sys2Proof.Machine
end

