-- ==== Sys2Proof/Laws/KeepHost.lean ====
section
/-!
SUPPORT. The mailbox and the host link keep what Laws/Keep.lean names.
-/

namespace Sys2Proof.Machine

set_option linter.all false

/-! ### MailboxOps -/

theorem State.sendReport_keep {s0 s : State} {z0 z2 z3 : _} (h : Keep s0 s) :
    Keep s0 (State.sendReport z0 s z2 z3) := by
  induction z0 generalizing s z2 z3 with
  | zero =>
    unfold State.sendReport
    repeat' first
      | with_reducible first | assumption | apply State.hostWrite_keep | apply ih
      | split
  | succ n ih =>
    unfold State.sendReport
    repeat' first
      | with_reducible first | assumption | apply State.hostWrite_keep | apply ih
      | split

theorem State.configureApply_keep {s0 s : State} {l part src hdr : _} (h : Keep s0 s) :
    Keep s0 (State.configureApply s l part src hdr) := by
  unfold State.configureApply
  repeat' first
    | ((fail_if_success (conv => arg 2; fun)); extract_lets +onlyGivenNames y)
    | with_reducible first | assumption | apply State.lastVerify_keep | apply State.programOtp_keep | apply State.applyConfig_keep | apply State.mbxRan_keep | exact State.goodOtp_unwritten (by assumption) | refine Keep.eqF (by assumption) ?_
    | with_reducible (refine Keep.record ?_ rfl rfl rfl rfl rfl rfl rfl rfl rfl; first | assumption | apply State.lastVerify_keep | apply State.programOtp_keep | apply State.applyConfig_keep | apply State.mbxRan_keep | exact State.goodOtp_unwritten (by assumption) | refine Keep.eqF (by assumption) ?_)
    | split

theorem State.configureImage_keep {s0 s : State} {img room part src readOk : _} (h : Keep s0 s) :
    Keep s0 (State.configureImage s img room part src readOk) := by
  unfold State.configureImage
  repeat' first
    | ((fail_if_success (conv => arg 2; fun)); extract_lets +onlyGivenNames y; clear_value (e : y = _); refine Keep.letVar (s0 := s0) e ?_ fun _ => ?_)
    | ((fail_if_success (conv => arg 2; fun)); extract_lets +onlyGivenNames y)
    | with_reducible first | assumption | apply State.lastVerify_keep | apply State.verifiedEvent_keep | apply State.mbxRan_keep | apply State.configureApply_keep
    | with_reducible (refine Keep.record ?_ rfl rfl rfl rfl rfl rfl rfl rfl rfl; first | assumption | apply State.lastVerify_keep | apply State.verifiedEvent_keep | apply State.mbxRan_keep | apply State.configureApply_keep)
    | split

theorem State.configure_keep {s0 s : State} {readOk mecc : _} (h : Keep s0 s) :
    Keep s0 (State.configure s readOk mecc) := by
  unfold State.configure
  repeat' first
    | ((fail_if_success (conv => arg 2; fun)); extract_lets +onlyGivenNames y)
    | with_reducible first | assumption | apply State.memRead_keep | apply State.norRefuse_keep | apply State.mbxRan_keep | apply State.configureImage_keep | refine Keep.eqF (by assumption) ?_
    | with_reducible (refine Keep.record ?_ rfl rfl rfl rfl rfl rfl rfl rfl rfl; first | assumption | apply State.memRead_keep | apply State.norRefuse_keep | apply State.mbxRan_keep | apply State.configureImage_keep | refine Keep.eqF (by assumption) ?_)
    | split

theorem State.writePartition_keep {s0 s : State} {target img : _} (h : Keep s0 s) :
    Keep s0 (State.writePartition s target img) := by
  unfold State.writePartition
  repeat' first
    | ((fail_if_success (conv => arg 2; fun)); extract_lets +onlyGivenNames y; clear_value (e : y = _); refine Keep.letVar (s0 := s0) e ?_ fun _ => ?_)
    | ((fail_if_success (conv => arg 2; fun)); extract_lets +onlyGivenNames y)
    | with_reducible first | assumption | apply State.setF_keep | apply State.setImgState_keep
    | with_reducible (refine Keep.record ?_ rfl rfl rfl rfl rfl rfl rfl rfl rfl; first | assumption | apply State.setF_keep | apply State.setImgState_keep)
    | split

theorem State.erasePartition_keep {s0 s : State} {target : _} (h : Keep s0 s) :
    Keep s0 (State.erasePartition s target) := by
  unfold State.erasePartition
  repeat' with_reducible first | assumption | refine Keep.record ?_ rfl rfl rfl rfl rfl rfl rfl rfl rfl

theorem State.updateImage_keep {s0 s : State} {target img readOk writeOk : _} (h : Keep s0 s) :
    Keep s0 (State.updateImage s target img readOk writeOk) := by
  unfold State.updateImage
  repeat' first
    | ((fail_if_success (conv => arg 2; fun)); extract_lets +onlyGivenNames y; clear_value (e : y = _); refine Keep.letVar (s0 := s0) e ?_ fun _ => ?_)
    | ((fail_if_success (conv => arg 2; fun)); extract_lets +onlyGivenNames y)
    | with_reducible first | assumption | apply State.verifiedEvent_keep | apply State.mbxRan_keep | apply State.writePartition_keep | apply State.erasePartition_keep
    | split

theorem State.imageUpdate_keep {s0 s : State} {readOk writeOk mecc : _} (h : Keep s0 s) :
    Keep s0 (State.imageUpdate s readOk writeOk mecc) := by
  unfold State.imageUpdate
  repeat' first
    | ((fail_if_success (conv => arg 2; fun)); extract_lets +onlyGivenNames y)
    | with_reducible first | assumption | apply State.memRead_keep | apply State.norRefuse_keep | apply State.mbxRan_keep | apply State.updateImage_keep | refine Keep.eqF (by assumption) ?_
    | with_reducible (refine Keep.record ?_ rfl rfl rfl rfl rfl rfl rfl rfl rfl; first | assumption | apply State.memRead_keep | apply State.norRefuse_keep | apply State.mbxRan_keep | apply State.updateImage_keep | refine Keep.eqF (by assumption) ?_)
    | split

theorem State.testRow_keep {s0 s : State} {p : _} (h : Keep s0 s) :
    KeepF s0 (State.testRow s p) := by
  unfold State.testRow
  repeat' first
    | ((fail_if_success (conv => arg 2; fun)); extract_lets +onlyGivenNames y)
    | with_reducible first | assumption | apply State.addRepair_keep | apply State.leaveRow_keep
    | split
    | with_reducible apply Keep.mkF

theorem State.testPairs_keep {s0 s : State} {rows z2 : _} (h : Keep s0 s) :
    KeepF s0 (State.testPairs s rows z2) := by
  induction z2 generalizing s rows with
  | nil =>
    unfold State.testPairs
    repeat' first
      | ((fail_if_success (conv => arg 2; fun)); extract_lets +onlyGivenNames y)
      | with_reducible first | assumption | apply State.testRow_keep | apply ih | refine Keep.eqF (by assumption) ?_
      | with_reducible (refine Keep.record ?_ rfl rfl rfl rfl rfl rfl rfl rfl rfl; first | assumption | apply State.testRow_keep | apply ih | refine Keep.eqF (by assumption) ?_)
      | split
      | with_reducible apply Keep.mkF
  | cons hd tl ih =>
    unfold State.testPairs
    repeat' first
      | ((fail_if_success (conv => arg 2; fun)); extract_lets +onlyGivenNames y)
      | with_reducible first | assumption | apply State.testRow_keep | apply ih | refine Keep.eqF (by assumption) ?_
      | with_reducible (refine Keep.record ?_ rfl rfl rfl rfl rfl rfl rfl rfl rfl; first | assumption | apply State.testRow_keep | apply ih | refine Keep.eqF (by assumption) ?_)
      | split
      | with_reducible apply Keep.mkF

theorem State.runMemTest_keep {s0 s : State} {mask host space found : _} (h : Keep s0 s) :
    Keep s0 (State.runMemTest s mask host space found) := by
  unfold State.runMemTest
  repeat' first
    | ((fail_if_success (conv => arg 2; fun)); extract_lets +onlyGivenNames y; clear_value (e : y = _); refine Keep.letVar (s0 := s0) e ?_ fun _ => ?_)
    | ((fail_if_success (conv => arg 2; fun)); extract_lets +onlyGivenNames y)
    | with_reducible first | assumption | apply State.loseStacks_keep | apply State.mbxRan_keep | apply State.sendReport_keep | refine Keep.ofF (State.testPairs_keep ?_)

theorem State.memTest_keep {s0 s : State} {found : _} (h : Keep s0 s) :
    Keep s0 (State.memTest s found) := by
  unfold State.memTest
  repeat' first
    | ((fail_if_success (conv => arg 2; fun)); extract_lets +onlyGivenNames y)
    | with_reducible first | assumption | apply State.mbxRan_keep | apply State.runMemTest_keep
    | split

theorem State.resume_keep {s0 s : State} (h : Keep s0 s) :
    Keep s0 (State.resume s) := by
  unfold State.resume
  repeat' first
    | ((fail_if_success (conv => arg 2; fun)); extract_lets +onlyGivenNames y; clear_value (e : y = _); refine Keep.letVar (s0 := s0) e ?_ fun _ => ?_)
    | ((fail_if_success (conv => arg 2; fun)); extract_lets +onlyGivenNames y)
    | with_reducible first | assumption | apply State.setF_keep | apply State.settle_keep | apply State.remapDie_keep | refine Keep.foldl ?_ fun _ _ _ => ?_
    | with_reducible (refine Keep.record ?_ rfl rfl rfl rfl rfl rfl rfl rfl rfl; first | assumption | apply State.setF_keep | apply State.settle_keep | apply State.remapDie_keep | refine Keep.foldl ?_ fun _ _ _ => ?_)
    | split

theorem State.parkCommand_keep {s0 s : State} (h : Keep s0 s) :
    Keep s0 (State.parkCommand s) := by
  unfold State.parkCommand
  repeat' first
    | ((fail_if_success (conv => arg 2; fun)); extract_lets +onlyGivenNames y; clear_value (e : y = _); refine Keep.letVar (s0 := s0) e ?_ fun _ => ?_)
    | with_reducible first | assumption | apply State.startDrain_keep
    | with_reducible (refine Keep.record ?_ rfl rfl rfl rfl rfl rfl rfl rfl rfl; first | assumption | apply State.startDrain_keep)
    | split

theorem State.memAlloc_keep {s0 s : State} (h : Keep s0 s) :
    Keep s0 (State.memAlloc s) := by
  unfold State.memAlloc
  repeat' first
    | ((fail_if_success (conv => arg 2; fun)); extract_lets +onlyGivenNames y)
    | with_reducible first | assumption | apply State.fresh_keep | apply State.journalAdd_keep | apply State.mbxRespond_keep | apply State.mbxRan_keep | refine Keep.eqG (by assumption) ?_
    | with_reducible (refine Keep.record ?_ rfl rfl rfl rfl rfl rfl rfl rfl rfl; first | assumption | apply State.fresh_keep | apply State.journalAdd_keep | apply State.mbxRespond_keep | apply State.mbxRan_keep | refine Keep.eqG (by assumption) ?_)
    | split

theorem State.memFree_keep {s0 s : State} (h : Keep s0 s) :
    Keep s0 (State.memFree s) := by
  unfold State.memFree
  repeat' first
    | with_reducible first | assumption | apply State.journalAdd_keep | apply State.mbxRespond_keep | apply State.mbxRan_keep
    | split

theorem State.attest_keep {s0 s : State} (h : Keep s0 s) :
    Keep s0 (State.attest s) := by
  unfold State.attest
  repeat' first
    | ((fail_if_success (conv => arg 2; fun)); extract_lets +onlyGivenNames y)
    | with_reducible first | assumption | apply State.mbxRespond_keep | apply State.mbxRan_keep | apply State.sendReport_keep
    | split

theorem State.caskRead_keep {s0 s : State} (h : Keep s0 s) :
    Keep s0 (State.caskRead s) := by
  unfold State.caskRead
  repeat' first
    | ((fail_if_success (conv => arg 2; fun)); extract_lets +onlyGivenNames y)
    | with_reducible first | assumption | apply State.mbxRespond_keep | apply State.mbxRan_keep | apply State.sendReport_keep
    | split

theorem State.handoverCommand_keep {s0 s : State} (h : Keep s0 s) :
    Keep s0 (State.handoverCommand s) := by
  unfold State.handoverCommand
  repeat' first
    | with_reducible first | assumption | apply State.mbxRespond_keep | apply State.planHandover_keep
    | split

theorem State.mbxExecute_keep {s0 s : State} {op e : _} (h : Keep s0 s) :
    Keep s0 (State.mbxExecute s op e) := by
  unfold State.mbxExecute
  repeat' first
    | with_reducible first | assumption | apply State.startDrain_keep | apply State.leavePark_keep | apply State.mbxRespond_keep | apply State.startRemoval_keep | apply State.configure_keep | apply State.imageUpdate_keep | apply State.memTest_keep | apply State.resume_keep | apply State.parkCommand_keep | apply State.memAlloc_keep | apply State.memFree_keep | apply State.attest_keep | apply State.caskRead_keep | apply State.handoverCommand_keep
    | split

theorem State.mbxBegun_keep {s0 s : State} (h : Keep s0 s) :
    Keep s0 (State.mbxBegun s) := by
  unfold State.mbxBegun
  repeat' first
    | ((fail_if_success (conv => arg 2; fun)); extract_lets +onlyGivenNames y; clear_value (e : y = _); refine Keep.letVar (s0 := s0) e ?_ fun _ => ?_)
    | ((fail_if_success (conv => arg 2; fun)); extract_lets +onlyGivenNames y)
    | with_reducible first | assumption | apply State.setF_keep | refine Keep.record ?_ rfl rfl rfl rfl rfl rfl rfl rfl rfl

theorem State.mbxStart_keep {s0 s : State} {e : _} (h : Keep s0 s) :
    Keep s0 (State.mbxStart s e) := by
  unfold State.mbxStart
  repeat' first
    | ((fail_if_success (conv => arg 2; fun)); extract_lets +onlyGivenNames y; clear_value (e : y = _); refine Keep.letVar (s0 := s0) e ?_ fun _ => ?_)
    | ((fail_if_success (conv => arg 2; fun)); extract_lets +onlyGivenNames y)
    | with_reducible first | assumption | apply State.mbxRespond_keep | apply State.mbxRan_keep | apply State.mbxExecute_keep | apply State.mbxBegun_keep
    | split

theorem State.doorbell_keep {s0 s : State} {e : _} (h : Keep s0 s) :
    Keep s0 (State.doorbell s e) := by
  unfold State.doorbell
  repeat' first
    | with_reducible first | assumption | apply State.setF_keep | apply State.mbxStart_keep
    | split

theorem State.ringFor_keep {s0 s : State} {op e : _} (h : Keep s0 s) :
    Keep s0 (State.ringFor s op e) := by
  unfold State.ringFor
  repeat' first
    | with_reducible first | assumption | apply State.doorbell_keep
    | split

/-! ### Mailbox -/

theorem execGetInfo_keep {s0 s : State} (h : Keep s0 s) :
    KeepX s0 (execGetInfo s) := by
  unfold execGetInfo
  repeat' with_reducible first | assumption | apply State.ringFor_keep | apply Keep.next

theorem execGetStatus_keep {s0 s : State} (h : Keep s0 s) :
    KeepX s0 (execGetStatus s) := by
  unfold execGetStatus
  repeat' with_reducible first | assumption | apply State.ringFor_keep | apply Keep.next

theorem execConfigure_keep {s0 s : State} {readOk mecc : _} (h : Keep s0 s) :
    KeepX s0 (execConfigure readOk mecc s) := by
  unfold execConfigure
  repeat' with_reducible first | assumption | apply State.ringFor_keep | apply Keep.next

theorem execImageUpdate_keep {s0 s : State} {readOk writeOk mecc : _} (h : Keep s0 s) :
    KeepX s0 (execImageUpdate readOk writeOk mecc s) := by
  unfold execImageUpdate
  repeat' with_reducible first | assumption | apply State.ringFor_keep | apply Keep.next

theorem execMemTest_keep {s0 s : State} {found : _} (h : Keep s0 s) :
    KeepX s0 (execMemTest found s) := by
  unfold execMemTest
  repeat' with_reducible first | assumption | apply State.ringFor_keep | apply Keep.next

theorem execDrain_keep {s0 s : State} (h : Keep s0 s) :
    KeepX s0 (execDrain s) := by
  unfold execDrain
  repeat' with_reducible first | assumption | apply State.ringFor_keep | apply Keep.next

theorem execResume_keep {s0 s : State} (h : Keep s0 s) :
    KeepX s0 (execResume s) := by
  unfold execResume
  repeat' with_reducible first | assumption | apply State.ringFor_keep | apply Keep.next

theorem execPark_keep {s0 s : State} (h : Keep s0 s) :
    KeepX s0 (execPark s) := by
  unfold execPark
  repeat' with_reducible first | assumption | apply State.ringFor_keep | apply Keep.next

theorem execUnpark_keep {s0 s : State} (h : Keep s0 s) :
    KeepX s0 (execUnpark s) := by
  unfold execUnpark
  repeat' with_reducible first | assumption | apply State.ringFor_keep | apply Keep.next

theorem execRemove_keep {s0 s : State} (h : Keep s0 s) :
    KeepX s0 (execRemove s) := by
  unfold execRemove
  repeat' with_reducible first | assumption | apply State.ringFor_keep | apply Keep.next

theorem execMemAlloc_keep {s0 s : State} (h : Keep s0 s) :
    KeepX s0 (execMemAlloc s) := by
  unfold execMemAlloc
  repeat' with_reducible first | assumption | apply State.ringFor_keep | apply Keep.next

theorem execMemFree_keep {s0 s : State} (h : Keep s0 s) :
    KeepX s0 (execMemFree s) := by
  unfold execMemFree
  repeat' with_reducible first | assumption | apply State.ringFor_keep | apply Keep.next

theorem execAttest_keep {s0 s : State} (h : Keep s0 s) :
    KeepX s0 (execAttest s) := by
  unfold execAttest
  repeat' with_reducible first | assumption | apply State.ringFor_keep | apply Keep.next

theorem execCaskRead_keep {s0 s : State} (h : Keep s0 s) :
    KeepX s0 (execCaskRead s) := by
  unfold execCaskRead
  repeat' with_reducible first | assumption | apply State.ringFor_keep | apply Keep.next

theorem execKilnHandover_keep {s0 s : State} (h : Keep s0 s) :
    KeepX s0 (execKilnHandover s) := by
  unfold execKilnHandover
  repeat' with_reducible first | assumption | apply State.ringFor_keep | apply Keep.next

theorem execPartnerQuery_keep {s0 s : State} (h : Keep s0 s) :
    KeepX s0 (execPartnerQuery s) := by
  unfold execPartnerQuery
  repeat' with_reducible first | assumption | apply State.ringFor_keep | apply Keep.next

theorem execMbxLongComplete_keep {s0 s : State} (h : Keep s0 s) :
    KeepX s0 (execMbxLongComplete s) := by
  unfold execMbxLongComplete
  repeat' first
    | ((fail_if_success (conv => arg 2; fun)); extract_lets +onlyGivenNames y; clear_value (e : y = _); refine Keep.letVar (s0 := s0) e ?_ fun _ => ?_)
    | with_reducible first | assumption | apply State.setF_keep | apply State.mbxRespond_keep | apply State.configCommit_keep | apply Keep.next
    | split

theorem State.mbxTimeout_keep {s0 s : State} (h : Keep s0 s) :
    Keep s0 (State.mbxTimeout s) := by
  unfold State.mbxTimeout
  repeat' first
    | ((fail_if_success (conv => arg 2; fun)); extract_lets +onlyGivenNames y; clear_value (e : y = _); refine Keep.letVar (s0 := s0) e ?_ fun _ => ?_)
    | ((fail_if_success (conv => arg 2; fun)); extract_lets +onlyGivenNames y)
    | with_reducible first | assumption | apply State.mbxRespond_keep | apply State.mbxUndo_keep
    | with_reducible (refine Keep.record ?_ rfl rfl rfl rfl rfl rfl rfl rfl rfl; first | assumption | apply State.mbxRespond_keep | apply State.mbxUndo_keep)
    | split

theorem execMbxCommandTimeout_keep {s0 s : State} (h : Keep s0 s) :
    KeepX s0 (execMbxCommandTimeout s) := by
  unfold execMbxCommandTimeout
  repeat' first
    | with_reducible first | assumption | apply State.mbxTimeout_keep | apply Keep.next
    | split

/-! ### HostLink -/

theorem State.commitThl_keep {s0 s : State} (h : Keep s0 s) :
    Keep s0 (State.commitThl s) := by
  unfold State.commitThl
  repeat' first
    | ((fail_if_success (conv => arg 2; fun)); extract_lets +onlyGivenNames y; clear_value (e : y = _); refine Keep.letVar (s0 := s0) e ?_ fun _ => ?_)
    | ((fail_if_success (conv => arg 2; fun)); extract_lets +onlyGivenNames y)
    | with_reducible first | assumption | apply State.setF_keep | apply State.commitAll_keep
    | split

theorem execThlCommit_keep {s0 s : State} (h : Keep s0 s) :
    KeepX s0 (execThlCommit s) := by
  unfold execThlCommit
  repeat' first
    | with_reducible first | assumption | apply State.commitThl_keep | apply Keep.next
    | split

theorem State.evqCons_keep {s0 s : State} {v : _} (h : Keep s0 s) :
    Keep s0 (State.evqCons s v) := by
  unfold State.evqCons
  repeat' first
    | with_reducible first | assumption | apply State.setF_keep
    | split

theorem execEvqConsWrite_keep {s0 s : State} {value : _} (h : Keep s0 s) :
    KeepX s0 (execEvqConsWrite value s) := by
  unfold execEvqConsWrite
  repeat' first
    | with_reducible first | assumption | apply State.evqCons_keep | apply Keep.next
    | split

theorem State.writeOverflow_keep {s0 s : State} (h : Keep s0 s) :
    Keep s0 (State.writeOverflow s) := by
  unfold State.writeOverflow
  repeat' first
    | ((fail_if_success (conv => arg 2; fun)); extract_lets +onlyGivenNames y; clear_value (e : y = _); refine Keep.letVar (s0 := s0) e ?_ fun _ => ?_)
    | ((fail_if_success (conv => arg 2; fun)); extract_lets +onlyGivenNames y)
    | with_reducible first | assumption | apply State.writeEvent_keep | apply State.post_keep | refine Keep.record ?_ rfl rfl rfl rfl rfl rfl rfl rfl rfl

theorem State.writeHeld_keep {s0 s : State} (h : Keep s0 s) :
    Keep s0 (State.writeHeld s) := by
  unfold State.writeHeld
  repeat' first
    | with_reducible first | assumption | apply State.writeEvent_keep
    | with_reducible (refine Keep.record ?_ rfl rfl rfl rfl rfl rfl rfl rfl rfl; first | assumption | apply State.writeEvent_keep)
    | split

theorem execHeldEventWrite_keep {s0 s : State} (h : Keep s0 s) :
    KeepX s0 (execHeldEventWrite s) := by
  unfold execHeldEventWrite
  repeat' first
    | ((fail_if_success (conv => arg 2; fun)); extract_lets +onlyGivenNames y; clear_value (e : y = _); refine Keep.letVar (s0 := s0) e ?_ fun _ => ?_)
    | with_reducible first | assumption | apply State.writeOverflow_keep | apply State.writeHeld_keep | apply Keep.next
    | split

theorem execIrqHoldoffExpiry_keep {s0 s : State} {v : _} (h : Keep s0 s) :
    KeepX s0 (execIrqHoldoffExpiry v s) := by
  unfold execIrqHoldoffExpiry
  repeat' first
    | ((fail_if_success (conv => arg 2; fun)); extract_lets +onlyGivenNames y; clear_value (e : y = _); refine Keep.letVar (s0 := s0) e ?_ fun _ => ?_)
    | ((fail_if_success (conv => arg 2; fun)); extract_lets +onlyGivenNames y)
    | with_reducible first | assumption | apply State.sendHost_keep | apply Keep.next
    | with_reducible (refine Keep.record ?_ rfl rfl rfl rfl rfl rfl rfl rfl rfl; first | assumption | apply State.sendHost_keep | apply Keep.next)
    | split

theorem execHostWatchdogExpiry_keep {s0 s : State} (h : Keep s0 s) :
    KeepX s0 (execHostWatchdogExpiry s) := by
  unfold execHostWatchdogExpiry
  repeat' first
    | ((fail_if_success (conv => arg 2; fun)); extract_lets +onlyGivenNames y; clear_value (e : y = _); refine Keep.letVar (s0 := s0) e ?_ fun _ => ?_)
    | ((fail_if_success (conv => arg 2; fun)); extract_lets +onlyGivenNames y)
    | with_reducible first | assumption | apply State.setF_keep | apply State.postMod_keep | apply State.parkCommand_keep | apply Keep.next
    | split

theorem State.hostBeat_keep {s0 s : State} (h : Keep s0 s) :
    Keep s0 (State.hostBeat s) := by
  unfold State.hostBeat
  repeat' first
    | with_reducible first | assumption | apply State.setF_keep | apply State.sendModuleEvent_keep
    | split

theorem execHostHeartbeat_keep {s0 s : State} (h : Keep s0 s) :
    KeepX s0 (execHostHeartbeat s) := by
  unfold execHostHeartbeat
  repeat' first
    | with_reducible first | assumption | apply State.hostBeat_keep | apply Keep.next
    | split

theorem State.thlRetrain_keep {s0 s : State} (h : Keep s0 s) :
    Keep s0 (State.thlRetrain s) := by
  unfold State.thlRetrain
  repeat' first
    | with_reducible first | assumption | apply State.thlLeave_keep
    | split

theorem State.thlTrained_keep {s0 s : State} {lanes err t3 : _} (h : Keep s0 s) :
    Keep s0 (State.thlTrained s lanes err t3) := by
  unfold State.thlTrained
  repeat' first
    | ((fail_if_success (conv => arg 2; fun)); extract_lets +onlyGivenNames y; clear_value (e : y = _); refine Keep.letVar (s0 := s0) e ?_ fun _ => ?_)
    | with_reducible first | assumption | apply State.setF_keep | apply State.setWidths_keep
    | split

theorem execThlTrain_keep {s0 s : State} {t0 : _} (h : Keep s0 s) :
    KeepX s0 (execThlTrain t0 s) := by
  unfold execThlTrain
  repeat' first
    | ((fail_if_success (conv => arg 2; fun)); extract_lets +onlyGivenNames y; clear_value (e : y = _); refine Keep.letVar (s0 := s0) e ?_ fun _ => ?_)
    | ((fail_if_success (conv => arg 2; fun)); extract_lets +onlyGivenNames y)
    | with_reducible first | assumption | apply State.setF_keep | apply State.linkTrained_keep | apply State.thlTrained_keep | apply Keep.next
    | with_reducible (refine Keep.record ?_ rfl rfl rfl rfl rfl rfl rfl rfl rfl; first | assumption | apply State.setF_keep | apply State.linkTrained_keep | apply State.thlTrained_keep | apply Keep.next)
    | split

theorem State.thlRetrainWrite_keep {s0 s : State} (h : Keep s0 s) :
    Keep s0 (State.thlRetrainWrite s) := by
  unfold State.thlRetrainWrite
  repeat' first
    | ((fail_if_success (conv => arg 2; fun)); extract_lets +onlyGivenNames y; clear_value (e : y = _); refine Keep.letVar (s0 := s0) e ?_ fun _ => ?_)
    | with_reducible first | assumption | apply State.setF_keep | apply State.thlRetrain_keep
    | split

theorem execThlRetrainWrite_keep {s0 s : State} (h : Keep s0 s) :
    KeepX s0 (execThlRetrainWrite s) := by
  unfold execThlRetrainWrite
  repeat' first
    | with_reducible first | assumption | apply State.thlRetrainWrite_keep | apply Keep.next
    | split

theorem State.hostTokens_keep {s0 s : State} {c : _} (h : Keep s0 s) :
    Keep s0 (State.hostTokens s c) := by
  unfold State.hostTokens
  repeat' first
    | with_reducible first | assumption | apply State.modCl_keep | apply State.abortCluster_keep
    | split

theorem State.dropHost_keep {s0 s : State} (h : Keep s0 s) :
    Keep s0 (State.dropHost s) := by
  unfold State.dropHost
  repeat' with_reducible first | assumption | apply State.setWaiting_keep

theorem execHostLinkLoss_keep {s0 s : State} (h : Keep s0 s) :
    KeepX s0 (execHostLinkLoss s) := by
  unfold execHostLinkLoss
  repeat' first
    | ((fail_if_success (conv => arg 2; fun)); extract_lets +onlyGivenNames y; clear_value (e : y = _); refine Keep.letVar (s0 := s0) e ?_ fun _ => ?_)
    | with_reducible first | assumption | apply State.setF_keep | apply State.enableWrite_keep | apply State.hostTokens_keep | apply State.dropHost_keep | apply Keep.next | refine Keep.foldl ?_ fun _ _ _ => ?_
    | split

theorem State.reportDone_keep {s0 s : State} (h : Keep s0 s) :
    Keep s0 (State.reportDone s) := by
  unfold State.reportDone
  repeat' first
    | with_reducible first | assumption | apply State.mbxRespond_keep
    | split

theorem State.reportLost_keep {s0 s : State} (h : Keep s0 s) :
    Keep s0 (State.reportLost s) := by
  unfold State.reportLost
  repeat' first
    | with_reducible first | assumption | apply State.mbxRespond_keep | apply State.mbxRan_keep
    | split

theorem State.hmemLost_keep {s0 s : State} {e : _} (h : Keep s0 s) :
    Keep s0 (State.hmemLost s e) := by
  unfold State.hmemLost
  repeat' first
    | ((fail_if_success (conv => arg 2; fun)); extract_lets +onlyGivenNames y; clear_value (e : y = _); refine Keep.letVar (s0 := s0) e ?_ fun _ => ?_)
    | with_reducible first | assumption | apply State.setF_keep | apply State.ringEvent_keep | apply State.thlRetrain_keep | apply State.reportLost_keep
    | split

theorem State.dropHmem_keep {s0 s : State} {tag : _} (h : Keep s0 s) :
    Keep s0 (State.dropHmem s tag) := by
  unfold State.dropHmem
  repeat' with_reducible first | assumption | refine Keep.record ?_ rfl rfl rfl rfl rfl rfl rfl rfl rfl

theorem State.hmemAnswer_keep {s0 s : State} {tag st : _} (h : Keep s0 s) :
    Keep s0 (State.hmemAnswer s tag st) := by
  unfold State.hmemAnswer
  repeat' first
    | ((fail_if_success (conv => arg 2; fun)); extract_lets +onlyGivenNames y; clear_value (e : y = _); refine Keep.letVar (s0 := s0) e ?_ fun _ => ?_)
    | with_reducible first | assumption | apply State.reportDone_keep | apply State.hmemLost_keep | apply State.dropHmem_keep
    | split

theorem execHmemAck_keep {s0 s : State} {p : _} (h : Keep s0 s) :
    KeepX s0 (execHmemAck p s) := by
  unfold execHmemAck
  repeat' first
    | with_reducible first | assumption | apply State.leaveBuffer_keep | apply State.hmemAnswer_keep | apply Keep.next
    | split

theorem execHmemWrTimeout_keep {s0 s : State} {tag : _} (h : Keep s0 s) :
    KeepX s0 (execHmemWrTimeout tag s) := by
  unfold execHmemWrTimeout
  repeat' with_reducible first | assumption | apply State.hmemAnswer_keep | apply Keep.next

theorem State.writeThl_keep {s0 s : State} {r k data f : _} (h : Keep s0 s) :
    Keep s0 (State.writeThl s r k data f) := by
  unfold State.writeThl
  repeat' first
    | with_reducible first | assumption | apply State.plainWrite_keep | apply State.doorbell_keep | apply State.commitThl_keep | apply State.evqCons_keep | apply State.hostBeat_keep | apply State.thlRetrainWrite_keep
    | split

theorem State.writeKln_keep {s0 s : State} {r k data f : _} (h : Keep s0 s) :
    Keep s0 (State.writeKln s r k data f) := by
  unfold State.writeKln
  repeat' first
    | ((fail_if_success (conv => arg 2; fun)); extract_lets +onlyGivenNames y; clear_value (e : y = _); refine Keep.letVar (s0 := s0) e ?_ fun _ => ?_)
    | ((fail_if_success (conv => arg 2; fun)); extract_lets +onlyGivenNames y)
    | with_reducible first | assumption | apply State.plainWrite_keep | apply State.handoverWrite_keep | apply State.restartWrite_keep
    | split

theorem State.writeCool_keep {s0 s : State} {a r k data f : _} (h : Keep s0 s) :
    Keep s0 (State.writeCool s a r k data f) := by
  unfold State.writeCool
  repeat' first
    | with_reducible first | assumption | apply State.setF_keep | apply State.blockWrite_keep | apply State.sensQuery_keep | apply State.leakClear_keep
    | split

theorem State.writeReg_keep {s0 s : State} {a data : _} (h : Keep s0 s) :
    Keep s0 (State.writeReg s a data) := by
  unfold State.writeReg
  repeat' first
    | with_reducible first | assumption | apply State.plainWrite_keep | apply State.blockWrite_keep | apply State.startRemoval_keep | apply State.writeThl_keep | apply State.writeKln_keep | apply State.writeCool_keep
    | split

theorem execRegisterWrite_keep {s0 s : State} {addr data : _} (h : Keep s0 s) :
    KeepX s0 (execRegisterWrite addr data s) := by
  unfold execRegisterWrite
  repeat' first
    | with_reducible first | assumption | apply State.writeReg_keep | apply Keep.next
    | split

theorem State.latchHigh_keep {s0 s : State} {a : _} (h : Keep s0 s) :
    Keep s0 (State.latchHigh s a) := by
  unfold State.latchHigh
  repeat' first
    | with_reducible first | assumption
    | with_reducible (refine Keep.record ?_ rfl rfl rfl rfl rfl rfl rfl rfl rfl; first | assumption)
    | split

theorem State.readReg_keep {s0 s : State} {a : _} (h : Keep s0 s) :
    KeepG s0 (State.readReg s a) := by
  unfold State.readReg
  repeat' first
    | ((fail_if_success (conv => arg 2; fun)); extract_lets +onlyGivenNames y; clear_value (e : y = _); refine Keep.letVar (s0 := s0) e ?_ fun _ => ?_)
    | ((fail_if_success (conv => arg 2; fun)); extract_lets +onlyGivenNames y)
    | with_reducible first | assumption | apply State.addWrap_keep | apply State.latchHigh_keep
    | with_reducible (refine Keep.record ?_ rfl rfl rfl rfl rfl rfl rfl rfl rfl; first | assumption | apply State.addWrap_keep | apply State.latchHigh_keep)
    | split
    | with_reducible apply Keep.mkG

theorem execLoWordRead_keep {s0 s : State} {addr : _} (h : Keep s0 s) :
    KeepX s0 (execLoWordRead addr s) := by
  unfold execLoWordRead
  repeat' first
    | with_reducible first | assumption | apply State.latchHigh_keep | apply Keep.next
    | split

theorem State.serveCfg_keep {s0 s : State} {p : _} (h : Keep s0 s) :
    Keep s0 (State.serveCfg s p) := by
  unfold State.serveCfg
  repeat' first
    | with_reducible first | assumption | apply State.sendHost_keep | apply State.writeReg_keep | refine Keep.ofG (State.readReg_keep ?_)
    | split

theorem State.serveMem_keep {s0 s : State} {p mecc : _} (h : Keep s0 s) :
    Keep s0 (State.serveMem s p mecc) := by
  unfold State.serveMem
  repeat' first
    | ((fail_if_success (conv => arg 2; fun)); extract_lets +onlyGivenNames y)
    | with_reducible first | assumption | apply State.sendHost_keep | refine Keep.ofF (State.memRead_keep ?_) | apply State.memWrite_keep | refine Keep.eqF (by assumption) ?_
    | with_reducible (refine Keep.record ?_ rfl rfl rfl rfl rfl rfl rfl rfl rfl; first | assumption | apply State.sendHost_keep | refine Keep.ofF (State.memRead_keep ?_) | apply State.memWrite_keep | refine Keep.eqF (by assumption) ?_)
    | split

theorem State.serveReq_keep {s0 s : State} {q : _} (h : Keep s0 s) :
    Keep s0 (State.serveReq s q) := by
  unfold State.serveReq
  repeat' first
    | with_reducible first | assumption | apply State.leaveBuffer_keep | apply State.serveCfg_keep | apply State.serveMem_keep
    | split

theorem State.serveHost_keep {s0 s : State} {z1 : _} (h : Keep s0 s) :
    Keep s0 (State.serveHost s z1) := by
  induction z1 generalizing s with
  | nil =>
    unfold State.serveHost
    repeat' first
      | with_reducible first | assumption | apply State.serveReq_keep | apply ih
      | with_reducible (refine Keep.record ?_ rfl rfl rfl rfl rfl rfl rfl rfl rfl; first | assumption | apply State.serveReq_keep | apply ih)
      | split
  | cons hd tl ih =>
    unfold State.serveHost
    repeat' first
      | with_reducible first | assumption | apply State.serveReq_keep | apply ih
      | with_reducible (refine Keep.record ?_ rfl rfl rfl rfl rfl rfl rfl rfl rfl; first | assumption | apply State.serveReq_keep | apply ih)
      | split

theorem State.serveHosted_keep {s0 s : State} {l : _} (h : Keep s0 s) :
    Keep s0 (State.serveHosted s l) := by
  unfold State.serveHosted
  repeat' with_reducible first | assumption | apply State.serveHost_keep | refine Keep.record ?_ rfl rfl rfl rfl rfl rfl rfl rfl rfl

theorem State.serveHeld_keep {s0 s : State} (h : Keep s0 s) :
    Keep s0 (State.serveHeld s) := by
  unfold State.serveHeld
  repeat' with_reducible first | assumption | apply State.serveHosted_keep

theorem State.hostReq_keep {s0 s : State} {t1 len p mecc : _} (h : Keep s0 s) :
    Keep s0 (State.hostReq s t1 len p mecc) := by
  unfold State.hostReq
  repeat' first
    | with_reducible first | assumption | apply State.leaveBuffer_keep | apply State.serveHosted_keep
    | split

theorem execCfgRd_keep {s0 s : State} {p : _} (h : Keep s0 s) :
    KeepX s0 (execCfgRd p s) := by
  unfold execCfgRd
  repeat' with_reducible first | assumption | apply State.hostReq_keep | apply Keep.next

theorem execCfgWr_keep {s0 s : State} {p : _} (h : Keep s0 s) :
    KeepX s0 (execCfgWr p s) := by
  unfold execCfgWr
  repeat' with_reducible first | assumption | apply State.hostReq_keep | apply Keep.next

theorem execMemRd_keep {s0 s : State} {p mecc : _} (h : Keep s0 s) :
    KeepX s0 (execMemRd p mecc s) := by
  unfold execMemRd
  repeat' with_reducible first | assumption | apply State.hostReq_keep | apply Keep.next

theorem execMemWr_keep {s0 s : State} {p mecc : _} (h : Keep s0 s) :
    KeepX s0 (execMemWr p mecc s) := by
  unfold execMemWr
  repeat' with_reducible first | assumption | apply State.hostReq_keep | apply Keep.next

theorem execKilnAccessRelease_keep {s0 s : State} (h : Keep s0 s) :
    KeepX s0 (execKilnAccessRelease s) := by
  unfold execKilnAccessRelease
  repeat' with_reducible first | assumption | apply State.serveHeld_keep | apply Keep.next

theorem execKilnAccessTimeout_keep {s0 s : State} (h : Keep s0 s) :
    KeepX s0 (execKilnAccessTimeout s) := by
  unfold execKilnAccessTimeout
  repeat' first
    | with_reducible first | assumption | apply State.sendHost_keep | apply State.leaveBuffer_keep | apply State.serveHosted_keep | apply Keep.next
    | split

theorem execHeldRwcWrite_keep {s0 s : State} (h : Keep s0 s) :
    KeepX s0 (execHeldRwcWrite s) := by
  unfold execHeldRwcWrite
  repeat' first
    | ((fail_if_success (conv => arg 2; fun)); extract_lets +onlyGivenNames y; clear_value (e : y = _); refine Keep.letVar (s0 := s0) e ?_ fun _ => ?_)
    | with_reducible first | assumption | apply State.plainWrite_keep | apply State.serveHeld_keep | apply Keep.next
    | with_reducible (refine Keep.record ?_ rfl rfl rfl rfl rfl rfl rfl rfl rfl; first | assumption | apply State.plainWrite_keep | apply State.serveHeld_keep | apply Keep.next)
    | split

theorem execHeldCommit_keep {s0 s : State} (h : Keep s0 s) :
    KeepX s0 (execHeldCommit s) := by
  unfold execHeldCommit
  repeat' first
    | with_reducible first | assumption | apply State.commitBlock_keep | apply State.serveHeld_keep | apply Keep.next
    | with_reducible (refine Keep.record ?_ rfl rfl rfl rfl rfl rfl rfl rfl rfl; first | assumption | apply State.commitBlock_keep | apply State.serveHeld_keep | apply Keep.next)
    | split

theorem State.askReplay_keep {s0 s : State} {k : _} (h : Keep s0 s) :
    Keep s0 (State.askReplay s k) := by
  unfold State.askReplay
  repeat' with_reducible first | assumption | apply State.modEnd_keep | apply State.sendFlit_keep

theorem State.takeCredits_keep {s0 s : State} {k vc n : _} (h : Keep s0 s) :
    Keep s0 (State.takeCredits s k vc n) := by
  unfold State.takeCredits
  repeat' first
    | ((fail_if_success (conv => arg 2; fun)); extract_lets +onlyGivenNames y; clear_value (e : y = _); refine Keep.letVar (s0 := s0) e ?_ fun _ => ?_)
    | with_reducible first | assumption | apply State.gainCredits_keep | apply State.grantLinks_keep
    | split

theorem State.acceptFlit_keep {s0 s : State} {k f : _} (h : Keep s0 s) :
    Keep s0 (State.acceptFlit s k f) := by
  unfold State.acceptFlit
  repeat' first
    | ((fail_if_success (conv => arg 2; fun)); extract_lets +onlyGivenNames y; clear_value (e : y = _); refine Keep.letVar (s0 := s0) e ?_ fun _ => ?_)
    | with_reducible first | assumption | apply State.addSat_keep | apply State.modEnd_keep | apply State.sendFlit_keep | apply State.replay_keep | apply State.takeCredits_keep
    | split

theorem State.takeFlit_keep {s0 s : State} {k f : _} (h : Keep s0 s) :
    Keep s0 (State.takeFlit s k f) := by
  unfold State.takeFlit
  repeat' first
    | ((fail_if_success (conv => arg 2; fun)); extract_lets +onlyGivenNames y)
    | with_reducible first | assumption | apply State.askReplay_keep | apply State.acceptFlit_keep
    | split

theorem execFlitReceive_keep {s0 s : State} {k f corrected : _} (h : Keep s0 s) :
    KeepX s0 (execFlitReceive k f corrected s) := by
  unfold execFlitReceive
  repeat' first
    | ((fail_if_success (conv => arg 2; fun)); extract_lets +onlyGivenNames y; clear_value (e : y = _); refine Keep.letVar (s0 := s0) e ?_ fun _ => ?_)
    | with_reducible first | assumption | apply State.addSat_keep | apply State.serveRx_keep | apply State.serveHeld_keep | apply State.takeFlit_keep | apply Keep.next
    | split

end Sys2Proof.Machine
end

