-- ==== Sys2Proof/Laws/Same.lean ====
section
/-!
SUPPORT. Which operations leave which parts of the module exactly as they were: the bytes of memory, the domains that are on, the
values in force, the holder of the interlock, and the one-time-programmable memory. Each operation has its lemma in these files for
every part that it cannot reach; an operation that can reach a part asks that the part is not spoken of.
-/

namespace Sys2Proof.Machine

/-- A part of the module that a lemma may say is left as it was. -/
inductive Aspect where
  | mem | dom | live | own | otp

/-- The parts of A are in t as they were in s. -/
structure Same (A : Aspect → Prop) (s t : State) : Prop where
  mem : A .mem → t.mem.cells = s.mem.cells ∧ t.mem.epochs = s.mem.epochs
  dom : A .dom → t.power.on = s.power.on
  live : A .live → t.live = s.live
  own : A .own → t.kln.owner = s.kln.owner
  otp : A .otp → t.sec.otp = s.sec.otp

theorem Same.refl (A : Aspect → Prop) (s : State) : Same A s s :=
  ⟨fun _ => ⟨rfl, rfl⟩, fun _ => rfl, fun _ => rfl, fun _ => rfl, fun _ => rfl⟩

theorem Same.trans {A : Aspect → Prop} {a b c : State} (h : Same A a b) (k : Same A b c) : Same A a c where
  mem x := ⟨(k.mem x).1.trans (h.mem x).1, (k.mem x).2.trans (h.mem x).2⟩
  dom x := (k.dom x).trans (h.dom x)
  live x := (k.live x).trans (h.live x)
  own x := (k.own x).trans (h.own x)
  otp x := (k.otp x).trans (h.otp x)

/-- A record update as it is written out. -/
theorem Same.record {A : Aspect → Prop} {s0 s : State} {pe rg lv c l hw hc p k r t n e o q d u m w mm g gr ln ix pt b}
    (h : Same A s0 s) (e1 : A .mem → mm.cells = s.mem.cells ∧ mm.epochs = s.mem.epochs) (e2 : A .dom → p.on = s.power.on)
    (e3 : A .live → lv = s.live) (e4 : A .own → n.owner = s.kln.owner) (e5 : A .otp → e.otp = s.sec.otp) :
    Same A s0 ⟨pe, c, rg, lv, l, hw, hc, p, k, r, t, n, e, o, q, d, u, m, w, mm, g, gr, ln, ix, pt, b⟩ :=
  h.trans ⟨e1, e2, e3, e4, e5⟩

/-! ### Steps through a definition -/

/-- For the state of a pair's first part. -/
@[irreducible] def SameF {α : Type} (A : Aspect → Prop) (s0 : State) (p : State × α) : Prop := Same A s0 p.1

/-- For the state of a pair's second part. -/
@[irreducible] def SameG {α : Type} (A : Aspect → Prop) (s0 : State) (p : α × State) : Prop := Same A s0 p.2

/-- For the state in an option, if any. -/
@[irreducible] def SameO (A : Aspect → Prop) (s0 : State) (p : Option State) : Prop := ∀ t, p = some t → Same A s0 t

/-- For the state beside a number in an option, if any. -/
@[irreducible] def SameP (A : Aspect → Prop) (s0 : State) (p : Option (Nat × State)) : Prop := ∀ t n, p = some (n, t) → Same A s0 t

/-- For the next state of an outcome, if any. -/
@[irreducible] def SameX (A : Aspect → Prop) (s0 : State) (p : Host.Outcome State Fault Refusal) : Prop := ∀ t, p = .next t → Same A s0 t

theorem Same.letVar {A : Aspect → Prop} {s0 y v : State} {P : Prop} (e : y = v) (h : Same A s0 v) (k : Same A s0 y → P) : P := k (e ▸ h)
theorem Same.letF {A : Aspect → Prop} {α : Type} {s0 : State} {y v : State × α} {P : Prop} (e : y = v) (h : SameF A s0 v) (k : SameF A s0 y → P) : P :=
  k (e ▸ h)
theorem Same.letG {A : Aspect → Prop} {α : Type} {s0 : State} {y v : α × State} {P : Prop} (e : y = v) (h : SameG A s0 v) (k : SameG A s0 y → P) : P :=
  k (e ▸ h)

theorem Same.ite {A : Aspect → Prop} {s0 a b : State} {c : Prop} [Decidable c] (h : Same A s0 a) (k : Same A s0 b) : Same A s0 (if c then a else b) := by
  split <;> assumption
theorem Same.iteF {A : Aspect → Prop} {α : Type} {s0 : State} {a b : State × α} {c : Prop} [Decidable c] (h : SameF A s0 a) (k : SameF A s0 b) :
    SameF A s0 (if c then a else b) := by
  split <;> assumption

theorem Same.mkF {A : Aspect → Prop} {α : Type} {s0 a : State} {x : α} (h : Same A s0 a) : SameF A s0 (a, x) := by
  unfold SameF
  exact h
theorem Same.mkG {A : Aspect → Prop} {α : Type} {s0 a : State} {x : α} (h : Same A s0 a) : SameG A s0 (x, a) := by
  unfold SameG
  exact h
theorem Same.ofF {A : Aspect → Prop} {α : Type} {s0 : State} {p : State × α} (h : SameF A s0 p) : Same A s0 p.1 := by
  unfold SameF at h
  exact h
theorem Same.ofG {A : Aspect → Prop} {α : Type} {s0 : State} {p : α × State} (h : SameG A s0 p) : Same A s0 p.2 := by
  unfold SameG at h
  exact h
theorem Same.eqF {A : Aspect → Prop} {α : Type} {s0 t : State} {p : State × α} {x : α} (e : p = (t, x)) (h : SameF A s0 p) : Same A s0 t := by
  subst e
  exact Same.ofF h
theorem Same.eqG {A : Aspect → Prop} {α : Type} {s0 t : State} {p : α × State} {x : α} (e : p = (x, t)) (h : SameG A s0 p) : Same A s0 t := by
  subst e
  exact Same.ofG h
theorem Same.rwF {A : Aspect → Prop} {α : Type} {s0 : State} {p q : State × α} (e : p = q) (h : SameF A s0 p) : SameF A s0 q := e ▸ h
theorem Same.rwG {A : Aspect → Prop} {α : Type} {s0 : State} {p q : α × State} (e : p = q) (h : SameG A s0 p) : SameG A s0 q := e ▸ h
theorem Same.rwX {A : Aspect → Prop} {s0 : State} {p q : Host.Outcome State Fault Refusal} (e : p = q) (h : SameX A s0 p) : SameX A s0 q := e ▸ h
theorem Same.someO {A : Aspect → Prop} {s0 a : State} (h : Same A s0 a) : SameO A s0 (some a) := by
  unfold SameO
  exact fun _ e => Option.some.inj e ▸ h
theorem Same.noneO {A : Aspect → Prop} {s0 : State} : SameO A s0 none := by
  unfold SameO
  exact fun _ e => nomatch e
theorem Same.eqO {A : Aspect → Prop} {s0 t : State} {p : Option State} (e : p = some t) (h : SameO A s0 p) : Same A s0 t := by
  unfold SameO at h
  exact h t e
theorem Same.someP {A : Aspect → Prop} {s0 a : State} {n : Nat} (h : Same A s0 a) : SameP A s0 (some (n, a)) := by
  unfold SameP
  exact fun _ _ e => (Prod.mk.inj (Option.some.inj e)).2 ▸ h
theorem Same.noneP {A : Aspect → Prop} {s0 : State} : SameP A s0 none := by
  unfold SameP
  exact fun _ _ e => nomatch e
theorem Same.eqP {A : Aspect → Prop} {s0 t : State} {n : Nat} {p : Option (Nat × State)} (e : p = some (n, t)) (h : SameP A s0 p) : Same A s0 t := by
  unfold SameP at h
  exact h t n e
theorem Same.getO {A : Aspect → Prop} {s0 a : State} {p : Option State} (h : SameO A s0 p) (k : Same A s0 a) : Same A s0 (p.getD a) := by
  cases p with
  | none => exact k
  | some t => exact Same.eqO rfl h
theorem Same.next {A : Aspect → Prop} {s0 a : State} (h : Same A s0 a) : SameX A s0 (.next a) := by
  unfold SameX
  exact fun _ e => Host.Outcome.next.inj e ▸ h
theorem Same.eqX {A : Aspect → Prop} {s0 t : State} {p : Host.Outcome State Fault Refusal} (e : p = .next t) (h : SameX A s0 p) : Same A s0 t := by
  unfold SameX at h
  exact h t e

theorem Same.foldl {A : Aspect → Prop} {α : Type} {s0 s : State} {f : State → α → State} {l : List α} (h : Same A s0 s)
    (k : ∀ t x, Same A s0 t → Same A s0 (f t x)) : Same A s0 (l.foldl f s) := by
  induction l generalizing s with
  | nil => exact h
  | cons x t ih => exact ih (k s x h)
theorem Same.foldlF {A : Aspect → Prop} {α β : Type} {s0 : State} {p : State × β} {f : State × β → α → State × β} {l : List α} (h : SameF A s0 p)
    (k : ∀ t x, SameF A s0 t → SameF A s0 (f t x)) : SameF A s0 (l.foldl f p) := by
  induction l generalizing p with
  | nil => exact h
  | cons x t ih => exact ih (k p x h)
theorem Same.foldlG {A : Aspect → Prop} {α β : Type} {s0 : State} {p : β × State} {f : β × State → α → β × State} {l : List α} (h : SameG A s0 p)
    (k : ∀ t x, SameG A s0 t → SameG A s0 (f t x)) : SameG A s0 (l.foldl f p) := by
  induction l generalizing p with
  | nil => exact h
  | cons x t ih => exact ih (k p x h)

/-! ### The primitives -/

theorem State.setF_same {A : Aspect → Prop} {s0 s : State} {f : Fld} {i v : Nat} (h : Same A s0 s) : Same A s0 (s.setF f i v) :=
  Same.record h (fun _ => ⟨rfl, rfl⟩) (fun _ => rfl) (fun _ => rfl) (fun _ => rfl) fun _ => rfl

theorem State.setLive_same {A : Aspect → Prop} (nL : ¬A .live) {s0 s : State} {f : Fld} {i v : Nat} (h : Same A s0 s) :
    Same A s0 (s.setLive f i v) :=
  Same.record h (fun _ => ⟨rfl, rfl⟩) (fun _ => rfl) (fun x => absurd x nL) (fun _ => rfl) fun _ => rfl

theorem State.commitWhole_same {A : Aspect → Prop} (nL : ¬A .live) {s0 s : State} {fs : List Fld} (h : Same A s0 s) :
    Same A s0 (s.commitWhole fs) :=
  Same.record h (fun _ => ⟨rfl, rfl⟩) (fun _ => rfl) (fun x => absurd x nL) (fun _ => rfl) fun _ => rfl

theorem State.clearRegs_same {A : Aspect → Prop} (nL : ¬A .live) {s0 s : State} {d : Domain} (h : Same A s0 s) :
    Same A s0 (s.clearRegs d) :=
  Same.record h (fun _ => ⟨rfl, rfl⟩) (fun _ => rfl) (fun x => absurd x nL) (fun _ => rfl) fun _ => rfl

theorem State.clearClu_same {A : Aspect → Prop} {s0 s : State} {c : Nat} (h : Same A s0 s) : Same A s0 (s.clearClu c) :=
  Same.record h (fun _ => ⟨rfl, rfl⟩) (fun _ => rfl) (fun _ => rfl) (fun _ => rfl) fun _ => rfl

theorem State.dropRegs_same {A : Aspect → Prop} {s0 s : State} {fs : List Fld} (h : Same A s0 s) : Same A s0 (s.dropRegs fs) :=
  Same.record h (fun _ => ⟨rfl, rfl⟩) (fun _ => rfl) (fun _ => rfl) (fun _ => rfl) fun _ => rfl

theorem State.putBytes_same {A : Aspect → Prop} (nM : ¬A .mem) {s0 s : State} {pa : Nat} {data : List Byte}
    (h : Same A s0 s) : Same A s0 (s.putBytes pa data) :=
  Same.record h (fun x => absurd x nM) (fun _ => rfl) (fun _ => rfl) (fun _ => rfl) fun _ => rfl

theorem State.loseStacks_same {A : Aspect → Prop} (nM : ¬A .mem) {s0 s : State} {gone : Nat → Bool} (h : Same A s0 s) :
    Same A s0 (s.loseStacks gone) :=
  Same.record h (fun x => absurd x nM) (fun _ => rfl) (fun _ => rfl) (fun _ => rfl) fun _ => rfl

theorem State.remapMemory_same {A : Aspect → Prop} (nM : ¬A .mem) {s0 s : State} (h : Same A s0 s) :
    Same A s0 s.remapMemory :=
  Same.record h (fun x => absurd x nM) (fun _ => rfl) (fun _ => rfl) (fun _ => rfl) fun _ => rfl

theorem State.turnOn_same {A : Aspect → Prop} (nD : ¬A .dom) {s0 s : State} {d : Domain} (h : Same A s0 s) :
    Same A s0 (s.turnOn d) := by
  unfold State.turnOn
  split
  · exact h
  · exact Same.record h (fun _ => ⟨rfl, rfl⟩) (fun x => absurd x nD) (fun _ => rfl) (fun _ => rfl) fun _ => rfl

theorem State.turnOff_same {A : Aspect → Prop} (nD : ¬A .dom) {s0 s : State} {d : Domain} (h : Same A s0 s) :
    Same A s0 (s.turnOff d) :=
  Same.record h (fun _ => ⟨rfl, rfl⟩) (fun x => absurd x nD) (fun _ => rfl) (fun _ => rfl) fun _ => rfl

theorem State.norWrite_same {A : Aspect → Prop} {s0 s : State} {r : CaskRec} (h : Same A s0 s) : Same A s0 (s.norWrite r) := by
  unfold State.norWrite
  split
  · exact h
  · exact Same.record h (fun _ => ⟨rfl, rfl⟩) (fun _ => rfl) (fun _ => rfl) (fun _ => rfl) fun _ => rfl

theorem State.tearSlot_same {A : Aspect → Prop} {s0 s : State} (h : Same A s0 s) : Same A s0 s.tearSlot := by
  unfold State.tearSlot
  dsimp only
  split
  · exact h
  · exact Same.record h (fun _ => ⟨rfl, rfl⟩) (fun _ => rfl) (fun _ => rfl) (fun _ => rfl) fun _ => rfl

end Sys2Proof.Machine
end

