-- ==== Sys2Proof/Laws/SameOps.lean ====
section
/-!
SUPPORT. Registers, events, the Cask, packets and memory leave what Laws/Same.lean names.
-/

namespace Sys2Proof.Machine

set_option linter.all false

/-! ### Ops -/

theorem State.withRegs_same {A : Aspect → Prop} {s0 s : State} {fs m : _} (h : Same A s0 s) :
    Same A s0 (State.withRegs s fs m) := by
  unfold State.withRegs
  repeat' first
    | ((fail_if_success (conv => arg 2; fun)); extract_lets +onlyGivenNames y)
    | with_reducible first | assumption | apply State.setF_same | apply State.dropRegs_same | refine Same.foldl ?_ fun _ _ _ => ?_
    | split

theorem State.commitF_same {A : Aspect → Prop} (nL : ¬A .live) {s0 s : State} {f i : _} (h : Same A s0 s) :
    Same A s0 (State.commitF s f i) := by
  unfold State.commitF
  repeat' with_reducible first | assumption | apply State.setLive_same nL

theorem State.commitAll_same {A : Aspect → Prop} (nL : ¬A .live) {s0 s : State} {fs i : _} (h : Same A s0 s) :
    Same A s0 (State.commitAll s fs i) := by
  unfold State.commitAll
  repeat' first
    | ((fail_if_success (conv => arg 2; fun)); extract_lets +onlyGivenNames y)
    | with_reducible first | assumption | apply State.commitF_same nL | refine Same.foldl ?_ fun _ _ _ => ?_

theorem State.commitRange_same {A : Aspect → Prop} (nL : ¬A .live) {s0 s : State} {fs n : _} (h : Same A s0 s) :
    Same A s0 (State.commitRange s fs n) := by
  unfold State.commitRange
  repeat' first
    | ((fail_if_success (conv => arg 2; fun)); extract_lets +onlyGivenNames y)
    | with_reducible first | assumption | apply State.commitAll_same nL | refine Same.foldl ?_ fun _ _ _ => ?_

theorem State.setFlag_same {A : Aspect → Prop} {s0 s : State} {f i b : _} (h : Same A s0 s) :
    Same A s0 (State.setFlag s f i b) := by
  unfold State.setFlag
  repeat' with_reducible first | assumption | apply State.setF_same

theorem State.setBit_same {A : Aspect → Prop} {s0 s : State} {f i b : _} (h : Same A s0 s) :
    Same A s0 (State.setBit s f i b) := by
  unfold State.setBit
  repeat' with_reducible first | assumption | apply State.setF_same

theorem State.clearBit_same {A : Aspect → Prop} {s0 s : State} {f i b : _} (h : Same A s0 s) :
    Same A s0 (State.clearBit s f i b) := by
  unfold State.clearBit
  repeat' with_reducible first | assumption | apply State.setF_same

theorem State.addWrap_same {A : Aspect → Prop} {s0 s : State} {f i n : _} (h : Same A s0 s) :
    Same A s0 (State.addWrap s f i n) := by
  unfold State.addWrap
  repeat' with_reducible first | assumption | apply State.setF_same

theorem State.addSat_same {A : Aspect → Prop} {s0 s : State} {f i n : _} (h : Same A s0 s) :
    Same A s0 (State.addSat s f i n) := by
  unfold State.addSat
  repeat' with_reducible first | assumption | apply State.setF_same

theorem State.add64_same {A : Aspect → Prop} {s0 s : State} {lo hi i n : _} (h : Same A s0 s) :
    Same A s0 (State.add64 s lo hi i n) := by
  unfold State.add64
  repeat' first
    | ((fail_if_success (conv => arg 2; fun)); extract_lets +onlyGivenNames y)
    | with_reducible first | assumption | apply State.setF_same

theorem State.served_same {A : Aspect → Prop} {s0 s : State} {a : _} (h : Same A s0 s) :
    Same A s0 (State.served s a) := by
  unfold State.served
  repeat' with_reducible first | assumption | apply State.setF_same

theorem State.fresh_same {A : Aspect → Prop} {s0 s : State} {w : _} (h : Same A s0 s) :
    SameG A s0 (State.fresh s w) := by
  unfold State.fresh
  repeat' first
    | ((fail_if_success (conv => arg 2; fun)); extract_lets +onlyGivenNames y)
    | with_reducible first | assumption | refine Same.record ?_ (fun _ => ⟨rfl, rfl⟩) (fun _ => rfl) (fun _ => rfl) (fun _ => rfl) fun _ => rfl | apply Same.mkG

theorem State.freshBytes_same {A : Aspect → Prop} {s0 s : State} {z0 : _} (h : Same A s0 s) :
    SameG A s0 (State.freshBytes z0 s) := by
  induction z0 generalizing s with
  | zero =>
    unfold State.freshBytes
    repeat' first
      | ((fail_if_success (conv => arg 2; fun)); extract_lets +onlyGivenNames y)
      | with_reducible first | assumption | apply State.fresh_same | apply ih | refine Same.eqG (by assumption) ?_
      | with_reducible (refine Same.record ?_ (fun _ => ⟨rfl, rfl⟩) (fun _ => rfl) (fun _ => rfl) (fun _ => rfl) fun _ => rfl; first | assumption | apply State.fresh_same | apply ih | refine Same.eqG (by assumption) ?_)
      | split
      | with_reducible apply Same.mkG
  | succ n ih =>
    unfold State.freshBytes
    repeat' first
      | ((fail_if_success (conv => arg 2; fun)); extract_lets +onlyGivenNames y)
      | with_reducible first | assumption | apply State.fresh_same | apply ih | refine Same.eqG (by assumption) ?_
      | with_reducible (refine Same.record ?_ (fun _ => ⟨rfl, rfl⟩) (fun _ => rfl) (fun _ => rfl) (fun _ => rfl) fun _ => rfl; first | assumption | apply State.fresh_same | apply ih | refine Same.eqG (by assumption) ?_)
      | split
      | with_reducible apply Same.mkG

/-! ### Link -/

theorem State.modEnd_same {A : Aspect → Prop} {s0 s : State} {k f : _} (h : Same A s0 s) :
    Same A s0 (State.modEnd s k f) := by
  unfold State.modEnd
  repeat' first
    | ((fail_if_success (conv => arg 2; fun)); extract_lets +onlyGivenNames y)
    | with_reducible first | assumption | refine Same.record ?_ (fun _ => ⟨rfl, rfl⟩) (fun _ => rfl) (fun _ => rfl) (fun _ => rfl) fun _ => rfl

theorem State.sendFlit_same {A : Aspect → Prop} {s0 s : State} {k nak idle data : _} (h : Same A s0 s) :
    Same A s0 (State.sendFlit s k nak idle data) := by
  unfold State.sendFlit
  repeat' first
    | ((fail_if_success (conv => arg 2; fun)); extract_lets +onlyGivenNames y; clear_value (e : y = _); refine Same.letVar (A := A) (s0 := s0) e ?_ fun _ => ?_)
    | ((fail_if_success (conv => arg 2; fun)); extract_lets +onlyGivenNames y)
    | with_reducible first | assumption | apply State.modEnd_same | refine Same.record ?_ (fun _ => ⟨rfl, rfl⟩) (fun _ => rfl) (fun _ => rfl) (fun _ => rfl) fun _ => rfl

theorem State.sendFlits_same {A : Aspect → Prop} {s0 s : State} {z0 z2 z3 : _} (h : Same A s0 s) :
    Same A s0 (State.sendFlits z0 s z2 z3) := by
  induction z0 generalizing s z2 z3 with
  | zero =>
    unfold State.sendFlits
    repeat' first
      | ((fail_if_success (conv => arg 2; fun)); extract_lets +onlyGivenNames y)
      | with_reducible first | assumption | apply State.sendFlit_same | apply ih
      | split
  | succ n ih =>
    unfold State.sendFlits
    repeat' first
      | ((fail_if_success (conv => arg 2; fun)); extract_lets +onlyGivenNames y)
      | with_reducible first | assumption | apply State.sendFlit_same | apply ih
      | split

theorem State.owe_same {A : Aspect → Prop} {s0 s : State} {k vc : _} (h : Same A s0 s) :
    Same A s0 (State.owe s k vc) := by
  unfold State.owe
  repeat' first
    | with_reducible first | assumption | apply State.modEnd_same
    | split

theorem State.payCredits_same {A : Aspect → Prop} {s0 s : State} {k : _} (h : Same A s0 s) :
    Same A s0 (State.payCredits s k) := by
  unfold State.payCredits
  repeat' first
    | with_reducible first | assumption | apply State.sendFlit_same
    | split

theorem State.replay_same {A : Aspect → Prop} {s0 s : State} {k ack : _} (h : Same A s0 s) :
    Same A s0 (State.replay s k ack) := by
  unfold State.replay
  repeat' first
    | ((fail_if_success (conv => arg 2; fun)); extract_lets +onlyGivenNames y)
    | with_reducible first | assumption | refine Same.record ?_ (fun _ => ⟨rfl, rfl⟩) (fun _ => rfl) (fun _ => rfl) (fun _ => rfl) fun _ => rfl

theorem State.setCredits_same {A : Aspect → Prop} {s0 s : State} {port vc n : _} (h : Same A s0 s) :
    Same A s0 (State.setCredits s port vc n) := by
  unfold State.setCredits
  repeat' first
    | ((fail_if_success (conv => arg 2; fun)); extract_lets +onlyGivenNames y)
    | with_reducible first | assumption | refine Same.record ?_ (fun _ => ⟨rfl, rfl⟩) (fun _ => rfl) (fun _ => rfl) (fun _ => rfl) fun _ => rfl

theorem State.transmit_same {A : Aspect → Prop} {s0 s : State} {port p : _} (h : Same A s0 s) :
    Same A s0 (State.transmit s port p) := by
  unfold State.transmit
  repeat' first
    | ((fail_if_success (conv => arg 2; fun)); extract_lets +onlyGivenNames y)
    | with_reducible first | assumption | apply State.sendFlits_same | refine Same.record ?_ (fun _ => ⟨rfl, rfl⟩) (fun _ => rfl) (fun _ => rfl) (fun _ => rfl) fun _ => rfl

theorem State.setWaiting_same {A : Aspect → Prop} {s0 s : State} {port vc l : _} (h : Same A s0 s) :
    Same A s0 (State.setWaiting s port vc l) := by
  unfold State.setWaiting
  repeat' first
    | ((fail_if_success (conv => arg 2; fun)); extract_lets +onlyGivenNames y)
    | with_reducible first | assumption | refine Same.record ?_ (fun _ => ⟨rfl, rfl⟩) (fun _ => rfl) (fun _ => rfl) (fun _ => rfl) fun _ => rfl

theorem State.sendPkt_same {A : Aspect → Prop} {s0 s : State} {port p : _} (h : Same A s0 s) :
    Same A s0 (State.sendPkt s port p) := by
  unfold State.sendPkt
  repeat' first
    | ((fail_if_success (conv => arg 2; fun)); extract_lets +onlyGivenNames y)
    | with_reducible first | assumption | apply State.setCredits_same | apply State.transmit_same | apply State.setWaiting_same
    | split

theorem State.sendWaiting_same {A : Aspect → Prop} {s0 s : State} {port vc z3 : _} (h : Same A s0 s) :
    Same A s0 (State.sendWaiting s port vc z3) := by
  induction z3 generalizing s port vc with
  | nil =>
    unfold State.sendWaiting
    repeat' first
      | ((fail_if_success (conv => arg 2; fun)); extract_lets +onlyGivenNames y)
      | with_reducible first | assumption | apply State.setCredits_same | apply State.transmit_same | apply State.setWaiting_same | apply ih
      | split
  | cons hd tl ih =>
    unfold State.sendWaiting
    repeat' first
      | ((fail_if_success (conv => arg 2; fun)); extract_lets +onlyGivenNames y)
      | with_reducible first | assumption | apply State.setCredits_same | apply State.transmit_same | apply State.setWaiting_same | apply ih
      | split

theorem State.gainCredits_same {A : Aspect → Prop} {s0 s : State} {k far vc n : _} (h : Same A s0 s) :
    Same A s0 (State.gainCredits s k far vc n) := by
  unfold State.gainCredits
  repeat' first
    | ((fail_if_success (conv => arg 2; fun)); extract_lets +onlyGivenNames y; clear_value (e : y = _); refine Same.letVar (A := A) (s0 := s0) e ?_ fun _ => ?_)
    | ((fail_if_success (conv => arg 2; fun)); extract_lets +onlyGivenNames y)
    | with_reducible first | assumption | apply State.setCredits_same | apply State.sendWaiting_same

theorem State.loadCredits_same {A : Aspect → Prop} {s0 s : State} {k far : _} (h : Same A s0 s) :
    Same A s0 (State.loadCredits s k far) := by
  unfold State.loadCredits
  repeat' first
    | ((fail_if_success (conv => arg 2; fun)); extract_lets +onlyGivenNames y)
    | with_reducible first | assumption | apply State.setCredits_same | apply State.gainCredits_same | refine Same.foldl ?_ fun _ _ _ => ?_

theorem State.clearCredits_same {A : Aspect → Prop} {s0 s : State} {k : _} (h : Same A s0 s) :
    Same A s0 (State.clearCredits s k) := by
  unfold State.clearCredits
  repeat' first
    | ((fail_if_success (conv => arg 2; fun)); extract_lets +onlyGivenNames y)
    | with_reducible first | assumption | apply State.setCredits_same | refine Same.foldl ?_ fun _ _ _ => ?_

theorem State.endTrained_same {A : Aspect → Prop} {s0 s : State} {k retrained ms : _} (h : Same A s0 s) :
    Same A s0 (State.endTrained s k retrained ms) := by
  unfold State.endTrained
  repeat' first
    | with_reducible first | assumption | apply State.modEnd_same | apply State.replay_same
    | split

theorem State.setLost_same {A : Aspect → Prop} {s0 s : State} {k l : _} (h : Same A s0 s) :
    Same A s0 (State.setLost s k l) := by
  unfold State.setLost
  repeat' first
    | ((fail_if_success (conv => arg 2; fun)); extract_lets +onlyGivenNames y)
    | with_reducible first | assumption | refine Same.record ?_ (fun _ => ⟨rfl, rfl⟩) (fun _ => rfl) (fun _ => rfl) (fun _ => rfl) fun _ => rfl

theorem State.setGroup_same {A : Aspect → Prop} {s0 s : State} {k l : _} (h : Same A s0 s) :
    Same A s0 (State.setGroup s k l) := by
  unfold State.setGroup
  repeat' first
    | ((fail_if_success (conv => arg 2; fun)); extract_lets +onlyGivenNames y)
    | with_reducible first | assumption | refine Same.record ?_ (fun _ => ⟨rfl, rfl⟩) (fun _ => rfl) (fun _ => rfl) (fun _ => rfl) fun _ => rfl

theorem State.setWidths_same {A : Aspect → Prop} {s0 s : State} {k lanes : _} (h : Same A s0 s) :
    Same A s0 (State.setWidths s k lanes) := by
  unfold State.setWidths
  repeat' first
    | ((fail_if_success (conv => arg 2; fun)); extract_lets +onlyGivenNames y)
    | with_reducible first | assumption | refine Same.record ?_ (fun _ => ⟨rfl, rfl⟩) (fun _ => rfl) (fun _ => rfl) (fun _ => rfl) fun _ => rfl

theorem State.linkTrained_same {A : Aspect → Prop} {s0 s : State} {k lanes t3 retrained : _} (h : Same A s0 s) :
    Same A s0 (State.linkTrained s k lanes t3 retrained) := by
  unfold State.linkTrained
  repeat' first
    | ((fail_if_success (conv => arg 2; fun)); extract_lets +onlyGivenNames y; clear_value (e : y = _); refine Same.letVar (A := A) (s0 := s0) e ?_ fun _ => ?_)
    | ((fail_if_success (conv => arg 2; fun)); extract_lets +onlyGivenNames y)
    | with_reducible first | assumption | apply State.loadCredits_same | apply State.endTrained_same | apply State.setLost_same | apply State.setGroup_same

theorem State.thlLeave_same {A : Aspect → Prop} {s0 s : State} {st : _} (h : Same A s0 s) :
    Same A s0 (State.thlLeave s st) := by
  unfold State.thlLeave
  repeat' first
    | ((fail_if_success (conv => arg 2; fun)); extract_lets +onlyGivenNames y)
    | with_reducible first | assumption | apply State.setF_same | apply State.clearCredits_same

/-! ### Events -/

theorem State.sendHost_same {A : Aspect → Prop} {s0 s : State} {p : _} (h : Same A s0 s) :
    Same A s0 (State.sendHost s p) := by
  unfold State.sendHost
  repeat' first
    | with_reducible first | assumption | apply State.sendPkt_same
    | split

theorem State.raiseIrq_same {A : Aspect → Prop} {s0 s : State} {v : _} (h : Same A s0 s) :
    Same A s0 (State.raiseIrq s v) := by
  unfold State.raiseIrq
  repeat' first
    | ((fail_if_success (conv => arg 2; fun)); extract_lets +onlyGivenNames y; clear_value (e : y = _); refine Same.letVar (A := A) (s0 := s0) e ?_ fun _ => ?_)
    | ((fail_if_success (conv => arg 2; fun)); extract_lets +onlyGivenNames y)
    | with_reducible first | assumption | apply State.setBit_same | apply State.sendHost_same
    | with_reducible (refine Same.record ?_ (fun _ => ⟨rfl, rfl⟩) (fun _ => rfl) (fun _ => rfl) (fun _ => rfl) fun _ => rfl; first | assumption | apply State.setBit_same | apply State.sendHost_same)
    | split

theorem State.hostWrite_same {A : Aspect → Prop} {s0 s : State} {addr data k : _} (h : Same A s0 s) :
    Same A s0 (State.hostWrite s addr data k) := by
  unfold State.hostWrite
  repeat' first
    | ((fail_if_success (conv => arg 2; fun)); extract_lets +onlyGivenNames y; clear_value (e : y = _); refine Same.letVar (A := A) (s0 := s0) e ?_ fun _ => ?_)
    | ((fail_if_success (conv => arg 2; fun)); extract_lets +onlyGivenNames y)
    | with_reducible first | assumption | apply State.sendHost_same | refine Same.record ?_ (fun _ => ⟨rfl, rfl⟩) (fun _ => rfl) (fun _ => rfl) (fun _ => rfl) fun _ => rfl

theorem State.writeEvent_same {A : Aspect → Prop} {s0 s : State} {e : _} (h : Same A s0 s) :
    Same A s0 (State.writeEvent s e) := by
  unfold State.writeEvent
  repeat' first
    | ((fail_if_success (conv => arg 2; fun)); extract_lets +onlyGivenNames y; clear_value (e : y = _); refine Same.letVar (A := A) (s0 := s0) e ?_ fun _ => ?_)
    | ((fail_if_success (conv => arg 2; fun)); extract_lets +onlyGivenNames y)
    | with_reducible first | assumption | apply State.addWrap_same | apply State.raiseIrq_same | apply State.hostWrite_same
    | split

theorem State.hostEvent_same {A : Aspect → Prop} {s0 s : State} {e : _} (h : Same A s0 s) :
    Same A s0 (State.hostEvent s e) := by
  unfold State.hostEvent
  repeat' first
    | ((fail_if_success (conv => arg 2; fun)); extract_lets +onlyGivenNames y; clear_value (e : y = _); refine Same.letVar (A := A) (s0 := s0) e ?_ fun _ => ?_)
    | ((fail_if_success (conv => arg 2; fun)); extract_lets +onlyGivenNames y)
    | with_reducible first | assumption | apply State.addSat_same | apply State.writeEvent_same
    | with_reducible (refine Same.record ?_ (fun _ => ⟨rfl, rfl⟩) (fun _ => rfl) (fun _ => rfl) (fun _ => rfl) fun _ => rfl; first | assumption | apply State.addSat_same | apply State.writeEvent_same)
    | split

theorem State.caskAdd_same {A : Aspect → Prop} {s0 s : State} {k e : _} (h : Same A s0 s) :
    SameF A s0 (State.caskAdd s k e) := by
  unfold State.caskAdd
  repeat' first
    | ((fail_if_success (conv => arg 2; fun)); extract_lets +onlyGivenNames y; clear_value (e : y = _); refine Same.letVar (A := A) (s0 := s0) e ?_ fun _ => ?_)
    | ((fail_if_success (conv => arg 2; fun)); extract_lets +onlyGivenNames y)
    | with_reducible first | assumption
    | with_reducible (refine Same.record ?_ (fun _ => ⟨rfl, rfl⟩) (fun _ => rfl) (fun _ => rfl) (fun _ => rfl) fun _ => rfl; first | assumption)
    | split
    | with_reducible apply Same.mkF

theorem State.caskPut_same {A : Aspect → Prop} {s0 s : State} {k source code severity data : _} (h : Same A s0 s) :
    SameF A s0 (State.caskPut s k source code severity data) := by
  unfold State.caskPut
  repeat' first
    | ((fail_if_success (conv => arg 2; fun)); extract_lets +onlyGivenNames y; clear_value (e : y = _); refine Same.letVar (A := A) (s0 := s0) e ?_ fun _ => ?_)
    | ((fail_if_success (conv => arg 2; fun)); extract_lets +onlyGivenNames y)
    | with_reducible first | assumption | apply State.setF_same | apply State.caskAdd_same
    | with_reducible (refine Same.record ?_ (fun _ => ⟨rfl, rfl⟩) (fun _ => rfl) (fun _ => rfl) (fun _ => rfl) fun _ => rfl; first | assumption | apply State.setF_same | apply State.caskAdd_same)
    | split
    | with_reducible apply Same.mkF

theorem State.alertSet_same {A : Aspect → Prop} {s0 s : State} {b : _} (h : Same A s0 s) :
    Same A s0 (State.alertSet s b) := by
  unfold State.alertSet
  repeat' first
    | ((fail_if_success (conv => arg 2; fun)); extract_lets +onlyGivenNames y)
    | with_reducible first | assumption | apply State.setF_same | apply State.setBit_same

theorem State.alertClear_same {A : Aspect → Prop} {s0 s : State} {b : _} (h : Same A s0 s) :
    Same A s0 (State.alertClear s b) := by
  unfold State.alertClear
  repeat' first
    | ((fail_if_success (conv => arg 2; fun)); extract_lets +onlyGivenNames y; clear_value (e : y = _); refine Same.letVar (A := A) (s0 := s0) e ?_ fun _ => ?_)
    | ((fail_if_success (conv => arg 2; fun)); extract_lets +onlyGivenNames y)
    | with_reducible first | assumption | apply State.setF_same | apply State.clearBit_same

theorem State.setRowQueue_same {A : Aspect → Prop} {s0 s : State} {p b q : _} (h : Same A s0 s) :
    Same A s0 (State.setRowQueue s p b q) := by
  unfold State.setRowQueue
  repeat' first
    | ((fail_if_success (conv => arg 2; fun)); extract_lets +onlyGivenNames y)
    | with_reducible first | assumption | refine Same.record ?_ (fun _ => ⟨rfl, rfl⟩) (fun _ => rfl) (fun _ => rfl) (fun _ => rfl) fun _ => rfl

theorem State.rowQueueOn_same {A : Aspect → Prop} {s0 s : State} {p b m : _} (h : Same A s0 s) :
    Same A s0 (State.rowQueueOn s p b m) := by
  unfold State.rowQueueOn
  repeat' first
    | ((fail_if_success (conv => arg 2; fun)); extract_lets +onlyGivenNames y; clear_value (e : y = _); refine Same.letVar (A := A) (s0 := s0) e ?_ fun _ => ?_)
    | ((fail_if_success (conv => arg 2; fun)); extract_lets +onlyGivenNames y)
    | with_reducible first | assumption | apply State.addSat_same | apply State.alertSet_same | apply State.setRowQueue_same
    | split

theorem State.takeRowSeq_same {A : Aspect → Prop} {s0 s : State} {t1 : _} (h : Same A s0 s) :
    SameG A s0 (State.takeRowSeq s t1) := by
  unfold State.takeRowSeq
  repeat' first
    | ((fail_if_success (conv => arg 2; fun)); extract_lets +onlyGivenNames y)
    | with_reducible first | assumption | refine Same.record ?_ (fun _ => ⟨rfl, rfl⟩) (fun _ => rfl) (fun _ => rfl) (fun _ => rfl) fun _ => rfl | apply Same.mkG

theorem State.rowSend_same {A : Aspect → Prop} {s0 s : State} {mtype prio buf code severity body : _} (h : Same A s0 s) :
    Same A s0 (State.rowSend s mtype prio buf code severity body) := by
  unfold State.rowSend
  repeat' first
    | ((fail_if_success (conv => arg 2; fun)); extract_lets +onlyGivenNames y)
    | with_reducible first | assumption | apply State.rowQueueOn_same | refine Same.ofG (State.takeRowSeq_same ?_)
    | split

theorem State.sendStatus_same {A : Aspect → Prop} {s0 s : State} (h : Same A s0 s) :
    Same A s0 (State.sendStatus s) := by
  unfold State.sendStatus
  repeat' with_reducible first | assumption | apply State.rowSend_same

theorem State.sendCapStatus_same {A : Aspect → Prop} {s0 s : State} {reply : _} (h : Same A s0 s) :
    Same A s0 (State.sendCapStatus s reply) := by
  unfold State.sendCapStatus
  repeat' with_reducible first | assumption | apply State.rowSend_same

theorem State.sendAlarm_same {A : Aspect → Prop} {s0 s : State} {alarm detail : _} (h : Same A s0 s) :
    Same A s0 (State.sendAlarm s alarm detail) := by
  unfold State.sendAlarm
  repeat' with_reducible first | assumption | apply State.rowSend_same

theorem State.sendWarn_same {A : Aspect → Prop} {s0 s : State} (h : Same A s0 s) :
    Same A s0 (State.sendWarn s) := by
  unfold State.sendWarn
  repeat' with_reducible first | assumption | apply State.rowSend_same

theorem State.sendModuleEvent_same {A : Aspect → Prop} {s0 s : State} {code severity data : _} (h : Same A s0 s) :
    Same A s0 (State.sendModuleEvent s code severity data) := by
  unfold State.sendModuleEvent
  repeat' first
    | with_reducible first | assumption | apply State.rowSend_same
    | split

theorem State.moduleEventOn_same {A : Aspect → Prop} {s0 s : State} {p code severity data : _} (h : Same A s0 s) :
    Same A s0 (State.moduleEventOn s p code severity data) := by
  unfold State.moduleEventOn
  repeat' first
    | ((fail_if_success (conv => arg 2; fun)); extract_lets +onlyGivenNames y)
    | with_reducible first | assumption | apply State.rowQueueOn_same | refine Same.ofG (State.takeRowSeq_same ?_)
    | split

theorem State.logLoss_same {A : Aspect → Prop} {s0 s : State} {k lost : _} (h : Same A s0 s) :
    Same A s0 (State.logLoss s k lost) := by
  unfold State.logLoss
  repeat' first
    | ((fail_if_success (conv => arg 2; fun)); extract_lets +onlyGivenNames y; clear_value (e : y = _); refine Same.letVar (A := A) (s0 := s0) e ?_ fun _ => ?_)
    | ((fail_if_success (conv => arg 2; fun)); extract_lets +onlyGivenNames y)
    | with_reducible first | assumption | apply State.setF_same | apply State.addSat_same | apply State.hostEvent_same | refine Same.ofF (State.caskPut_same ?_) | apply State.sendModuleEvent_same
    | split

theorem State.post_same {A : Aspect → Prop} {s0 s : State} {source code severity data toHost rowCode : _} (h : Same A s0 s) :
    Same A s0 (State.post s source code severity data toHost rowCode) := by
  unfold State.post
  repeat' first
    | ((fail_if_success (conv => arg 2; fun)); extract_lets +onlyGivenNames y; clear_value (e : y = _); refine Same.letVar (A := A) (s0 := s0) e ?_ fun _ => ?_)
    | ((fail_if_success (conv => arg 2; fun)); extract_lets +onlyGivenNames y)
    | with_reducible first | assumption | apply State.hostEvent_same | apply State.caskPut_same | apply State.sendModuleEvent_same | apply State.logLoss_same | refine Same.eqF (by assumption) ?_
    | with_reducible (refine Same.record ?_ (fun _ => ⟨rfl, rfl⟩) (fun _ => rfl) (fun _ => rfl) (fun _ => rfl) fun _ => rfl; first | assumption | apply State.hostEvent_same | apply State.caskPut_same | apply State.sendModuleEvent_same | apply State.logLoss_same | refine Same.eqF (by assumption) ?_)
    | split

theorem State.postMod_same {A : Aspect → Prop} {s0 s : State} {code data : _} (h : Same A s0 s) :
    Same A s0 (State.postMod s code data) := by
  unfold State.postMod
  repeat' first
    | with_reducible first | assumption | apply State.post_same
    | split

theorem State.postBit_same {A : Aspect → Prop} {s0 s : State} {source bit severity data fld en : _} (h : Same A s0 s) :
    Same A s0 (State.postBit s source bit severity data fld en) := by
  unfold State.postBit
  repeat' first
    | ((fail_if_success (conv => arg 2; fun)); extract_lets +onlyGivenNames y; clear_value (e : y = _); refine Same.letVar (A := A) (s0 := s0) e ?_ fun _ => ?_)
    | ((fail_if_success (conv => arg 2; fun)); extract_lets +onlyGivenNames y)
    | with_reducible first | assumption | apply State.setF_same | apply State.post_same

/-! ### CaskLog -/

theorem State.markInNor_same {A : Aspect → Prop} {s0 s : State} {k seq : _} (h : Same A s0 s) :
    Same A s0 (State.markInNor s k seq) := by
  unfold State.markInNor
  repeat' with_reducible first | assumption | refine Same.record ?_ (fun _ => ⟨rfl, rfl⟩) (fun _ => rfl) (fun _ => rfl) (fun _ => rfl) fun _ => rfl

theorem State.lossEnd_same {A : Aspect → Prop} {s0 s : State} (h : Same A s0 s) :
    Same A s0 (State.lossEnd s) := by
  unfold State.lossEnd
  repeat' first
    | with_reducible first | assumption | apply State.setF_same
    | split

theorem execCaskFlush_same {A : Aspect → Prop} {s0 s : State} (h : Same A s0 s) :
    SameX A s0 (execCaskFlush s) := by
  unfold execCaskFlush
  repeat' first
    | ((fail_if_success (conv => arg 2; fun)); extract_lets +onlyGivenNames y)
    | with_reducible first | assumption | apply State.served_same | apply State.norWrite_same | apply State.markInNor_same | apply State.lossEnd_same | apply Same.next
    | split

theorem execRecordSeal_same {A : Aspect → Prop} {s0 s : State} {seq : _} (h : Same A s0 s) :
    SameX A s0 (execRecordSeal seq s) := by
  unfold execRecordSeal
  repeat' first
    | ((fail_if_success (conv => arg 2; fun)); extract_lets +onlyGivenNames y)
    | with_reducible first | assumption | apply Same.next
    | with_reducible (refine Same.record ?_ (fun _ => ⟨rfl, rfl⟩) (fun _ => rfl) (fun _ => rfl) (fun _ => rfl) fun _ => rfl; first | assumption | apply Same.next)
    | split

theorem State.cskMark_same {A : Aspect → Prop} {s0 s : State} {v : _} (h : Same A s0 s) :
    Same A s0 (State.cskMark s v) := by
  unfold State.cskMark
  repeat' with_reducible first | assumption | apply State.post_same

theorem execCskMark_same {A : Aspect → Prop} {s0 s : State} {value : _} (h : Same A s0 s) :
    SameX A s0 (execCskMark value s) := by
  unfold execCskMark
  repeat' first
    | ((fail_if_success (conv => arg 2; fun)); extract_lets +onlyGivenNames y)
    | with_reducible first | assumption | apply State.cskMark_same | apply Same.next
    | split

theorem State.norFail_same {A : Aspect → Prop} {s0 s : State} (h : Same A s0 s) :
    Same A s0 (State.norFail s) := by
  unfold State.norFail
  repeat' first
    | ((fail_if_success (conv => arg 2; fun)); extract_lets +onlyGivenNames y)
    | with_reducible first | assumption | apply State.setF_same | apply State.post_same
    | split

theorem State.dropBad_same {A : Aspect → Prop} {s0 s : State} {sector bad : _} (h : Same A s0 s) :
    Same A s0 (State.dropBad s sector bad) := by
  unfold State.dropBad
  repeat' first
    | ((fail_if_success (conv => arg 2; fun)); extract_lets +onlyGivenNames y)
    | with_reducible first | assumption | apply State.addSat_same | refine Same.record ?_ (fun _ => ⟨rfl, rfl⟩) (fun _ => rfl) (fun _ => rfl) (fun _ => rfl) fun _ => rfl

theorem execNorWriteFail_same {A : Aspect → Prop} {s0 s : State} {sector retryOk bad : _} (h : Same A s0 s) :
    SameX A s0 (execNorWriteFail sector retryOk bad s) := by
  unfold execNorWriteFail
  repeat' first
    | ((fail_if_success (conv => arg 2; fun)); extract_lets +onlyGivenNames y; clear_value (e : y = _); refine Same.letVar (A := A) (s0 := s0) e ?_ fun _ => ?_)
    | ((fail_if_success (conv => arg 2; fun)); extract_lets +onlyGivenNames y)
    | with_reducible first | assumption | apply State.post_same | apply State.norFail_same | apply State.dropBad_same | apply Same.next
    | with_reducible (refine Same.record ?_ (fun _ => ⟨rfl, rfl⟩) (fun _ => rfl) (fun _ => rfl) (fun _ => rfl) fun _ => rfl; first | assumption | apply State.post_same | apply State.norFail_same | apply State.dropBad_same | apply Same.next)
    | split

theorem execNorTimeout_same {A : Aspect → Prop} {s0 s : State} (h : Same A s0 s) :
    SameX A s0 (execNorTimeout s) := by
  unfold execNorTimeout
  repeat' first
    | ((fail_if_success (conv => arg 2; fun)); extract_lets +onlyGivenNames y)
    | with_reducible first | assumption | apply State.norFail_same | apply Same.next
    | split

theorem State.commitCsk_same {A : Aspect → Prop} (nL : ¬A .live) {s0 s : State} (h : Same A s0 s) :
    Same A s0 (State.commitCsk s) := by
  unfold State.commitCsk
  repeat' first
    | ((fail_if_success (conv => arg 2; fun)); extract_lets +onlyGivenNames y; clear_value (e : y = _); refine Same.letVar (A := A) (s0 := s0) e ?_ fun _ => ?_)
    | ((fail_if_success (conv => arg 2; fun)); extract_lets +onlyGivenNames y)
    | with_reducible first | assumption | apply State.setF_same | apply State.commitF_same nL | apply State.commitRange_same nL
    | split

theorem execCskCommit_same {A : Aspect → Prop} (nL : ¬A .live) {s0 s : State} (h : Same A s0 s) :
    SameX A s0 (execCskCommit s) := by
  unfold execCskCommit
  repeat' first
    | ((fail_if_success (conv => arg 2; fun)); extract_lets +onlyGivenNames y)
    | with_reducible first | assumption | apply State.commitCsk_same nL | apply Same.next
    | with_reducible (refine Same.record ?_ (fun _ => ⟨rfl, rfl⟩) (fun _ => rfl) (fun _ => rfl) (fun _ => rfl) fun _ => rfl; first | assumption | apply State.commitCsk_same nL | apply Same.next)
    | split

theorem execCaskRingErase_same {A : Aspect → Prop} {s0 s : State} (h : Same A s0 s) :
    SameX A s0 (execCaskRingErase s) := by
  unfold execCaskRingErase
  repeat' first
    | ((fail_if_success (conv => arg 2; fun)); extract_lets +onlyGivenNames y; clear_value (e : y = _); refine Same.letVar (A := A) (s0 := s0) e ?_ fun _ => ?_)
    | ((fail_if_success (conv => arg 2; fun)); extract_lets +onlyGivenNames y)
    | with_reducible first | assumption | apply State.setF_same | apply State.post_same | apply Same.next
    | with_reducible (refine Same.record ?_ (fun _ => ⟨rfl, rfl⟩) (fun _ => rfl) (fun _ => rfl) (fun _ => rfl) fun _ => rfl; first | assumption | apply State.setF_same | apply State.post_same | apply Same.next)
    | split

theorem State.loadRdData_same {A : Aspect → Prop} {s0 s : State} {r : _} (h : Same A s0 s) :
    Same A s0 (State.loadRdData s r) := by
  unfold State.loadRdData
  repeat' first
    | ((fail_if_success (conv => arg 2; fun)); extract_lets +onlyGivenNames y)
    | with_reducible first | assumption | apply State.setF_same | refine Same.foldl ?_ fun _ _ _ => ?_

theorem State.cskRdSeq_same {A : Aspect → Prop} {s0 s : State} {q : _} (h : Same A s0 s) :
    Same A s0 (State.cskRdSeq s q) := by
  unfold State.cskRdSeq
  repeat' first
    | ((fail_if_success (conv => arg 2; fun)); extract_lets +onlyGivenNames y; clear_value (e : y = _); refine Same.letVar (A := A) (s0 := s0) e ?_ fun _ => ?_)
    | ((fail_if_success (conv => arg 2; fun)); extract_lets +onlyGivenNames y)
    | with_reducible first | assumption | apply State.setF_same | apply State.loadRdData_same
    | split

theorem execCskRdSeq_same {A : Aspect → Prop} {s0 s : State} {seq : _} (h : Same A s0 s) :
    SameX A s0 (execCskRdSeq seq s) := by
  unfold execCskRdSeq
  repeat' first
    | ((fail_if_success (conv => arg 2; fun)); extract_lets +onlyGivenNames y)
    | with_reducible first | assumption | apply State.cskRdSeq_same | apply Same.next
    | split

theorem State.powerFlush_same {A : Aspect → Prop} {s0 s : State} (h : Same A s0 s) :
    Same A s0 (State.powerFlush s) := by
  unfold State.powerFlush
  repeat' first
    | ((fail_if_success (conv => arg 2; fun)); extract_lets +onlyGivenNames y; clear_value (e : y = _); refine Same.letVar (A := A) (s0 := s0) e ?_ fun _ => ?_)
    | ((fail_if_success (conv => arg 2; fun)); extract_lets +onlyGivenNames y)
    | with_reducible first | assumption | apply State.hostEvent_same | apply State.caskPut_same | apply State.logLoss_same | apply State.norWrite_same | refine Same.foldl ?_ fun _ _ _ => ?_ | refine Same.eqF (by assumption) ?_
    | with_reducible (refine Same.record ?_ (fun _ => ⟨rfl, rfl⟩) (fun _ => rfl) (fun _ => rfl) (fun _ => rfl) fun _ => rfl; first | assumption | apply State.hostEvent_same | apply State.caskPut_same | apply State.logLoss_same | apply State.norWrite_same | refine Same.foldl ?_ fun _ _ _ => ?_ | refine Same.eqF (by assumption) ?_)
    | split

theorem State.caskTakeover_same {A : Aspect → Prop} {s0 s : State} {k : _} (h : Same A s0 s) :
    Same A s0 (State.caskTakeover s k) := by
  unfold State.caskTakeover
  repeat' first
    | ((fail_if_success (conv => arg 2; fun)); extract_lets +onlyGivenNames y; clear_value (e : y = _); refine Same.letVar (A := A) (s0 := s0) e ?_ fun _ => ?_)
    | ((fail_if_success (conv => arg 2; fun)); extract_lets +onlyGivenNames y)
    | with_reducible first | assumption | apply State.setF_same | refine Same.ofF (State.caskPut_same ?_) | apply State.logLoss_same | apply State.norWrite_same | apply State.markInNor_same | refine Same.foldl ?_ fun _ _ _ => ?_
    | split

theorem State.postOwed_same {A : Aspect → Prop} {s0 s : State} (h : Same A s0 s) :
    Same A s0 (State.postOwed s) := by
  unfold State.postOwed
  repeat' first
    | ((fail_if_success (conv => arg 2; fun)); extract_lets +onlyGivenNames y; clear_value (e : y = _); refine Same.letVar (A := A) (s0 := s0) e ?_ fun _ => ?_)
    | ((fail_if_success (conv => arg 2; fun)); extract_lets +onlyGivenNames y)
    | with_reducible first | assumption | apply State.post_same | refine Same.foldl ?_ fun _ _ _ => ?_ | refine Same.record ?_ (fun _ => ⟨rfl, rfl⟩) (fun _ => rfl) (fun _ => rfl) (fun _ => rfl) fun _ => rfl

/-! ### FabricOps -/

theorem State.takeTag_same {A : Aspect → Prop} {s0 s : State} (h : Same A s0 s) :
    SameG A s0 (State.takeTag s) := by
  unfold State.takeTag
  repeat' first
    | ((fail_if_success (conv => arg 2; fun)); extract_lets +onlyGivenNames y)
    | with_reducible first | assumption | refine Same.record ?_ (fun _ => ⟨rfl, rfl⟩) (fun _ => rfl) (fun _ => rfl) (fun _ => rfl) fun _ => rfl | apply Same.mkG

theorem State.addReq_same {A : Aspect → Prop} {s0 s : State} {r : _} (h : Same A s0 s) :
    Same A s0 (State.addReq s r) := by
  unfold State.addReq
  repeat' first
    | ((fail_if_success (conv => arg 2; fun)); extract_lets +onlyGivenNames y)
    | with_reducible first | assumption | refine Same.record ?_ (fun _ => ⟨rfl, rfl⟩) (fun _ => rfl) (fun _ => rfl) (fun _ => rfl) fun _ => rfl

theorem State.dropReq_same {A : Aspect → Prop} {s0 s : State} {tag : _} (h : Same A s0 s) :
    Same A s0 (State.dropReq s tag) := by
  unfold State.dropReq
  repeat' first
    | ((fail_if_success (conv => arg 2; fun)); extract_lets +onlyGivenNames y)
    | with_reducible first | assumption | refine Same.record ?_ (fun _ => ⟨rfl, rfl⟩) (fun _ => rfl) (fun _ => rfl) (fun _ => rfl) fun _ => rfl

theorem State.ixfEvent_same {A : Aspect → Prop} {s0 s : State} {bit data : _} (h : Same A s0 s) :
    Same A s0 (State.ixfEvent s bit data) := by
  unfold State.ixfEvent
  repeat' first
    | ((fail_if_success (conv => arg 2; fun)); extract_lets +onlyGivenNames y)
    | with_reducible first | assumption | apply State.postBit_same

theorem State.ptnEvent_same {A : Aspect → Prop} {s0 s : State} {bit : _} (h : Same A s0 s) :
    Same A s0 (State.ptnEvent s bit) := by
  unfold State.ptnEvent
  repeat' first
    | ((fail_if_success (conv => arg 2; fun)); extract_lets +onlyGivenNames y)
    | with_reducible first | assumption | apply State.postBit_same

/-! ### MemOps -/

theorem State.srState_same {A : Aspect → Prop} {s0 s : State} {k : _} (h : Same A s0 s) :
    Same A s0 (State.srState s k) := by
  unfold State.srState
  repeat' first
    | ((fail_if_success (conv => arg 2; fun)); extract_lets +onlyGivenNames y)
    | with_reducible first | assumption | apply State.setF_same
    | split

theorem State.srExit_same {A : Aspect → Prop} {s0 s : State} {chan : _} (h : Same A s0 s) :
    Same A s0 (State.srExit s chan) := by
  unfold State.srExit
  repeat' first
    | ((fail_if_success (conv => arg 2; fun)); extract_lets +onlyGivenNames y; clear_value (e : y = _); refine Same.letVar (A := A) (s0 := s0) e ?_ fun _ => ?_)
    | ((fail_if_success (conv => arg 2; fun)); extract_lets +onlyGivenNames y)
    | with_reducible first | assumption | apply State.srState_same
    | with_reducible (refine Same.record ?_ (fun _ => ⟨rfl, rfl⟩) (fun _ => rfl) (fun _ => rfl) (fun _ => rfl) fun _ => rfl; first | assumption | apply State.srState_same)
    | split

theorem State.memEvent_same {A : Aspect → Prop} {s0 s : State} {code data : _} (h : Same A s0 s) :
    Same A s0 (State.memEvent s code data) := by
  unfold State.memEvent
  repeat' with_reducible first | assumption | apply State.post_same

theorem State.showStart_same {A : Aspect → Prop} {s0 s : State} {k : _} (h : Same A s0 s) :
    Same A s0 (State.showStart s k) := by
  unfold State.showStart
  repeat' first
    | ((fail_if_success (conv => arg 2; fun)); extract_lets +onlyGivenNames y)
    | with_reducible first | assumption | apply State.setFlag_same

theorem State.queueSpare_same {A : Aspect → Prop} {s0 s : State} {k lch cause requested : _} (h : Same A s0 s) :
    Same A s0 (State.queueSpare s k lch cause requested) := by
  unfold State.queueSpare
  repeat' first
    | ((fail_if_success (conv => arg 2; fun)); extract_lets +onlyGivenNames y)
    | with_reducible first | assumption | refine Same.record ?_ (fun _ => ⟨rfl, rfl⟩) (fun _ => rfl) (fun _ => rfl) (fun _ => rfl) fun _ => rfl

theorem State.spareTrigger_same {A : Aspect → Prop} {s0 s : State} {k lch cause requested : _} (h : Same A s0 s) :
    Same A s0 (State.spareTrigger s k lch cause requested) := by
  unfold State.spareTrigger
  repeat' first
    | ((fail_if_success (conv => arg 2; fun)); extract_lets +onlyGivenNames y)
    | with_reducible first | assumption | apply State.queueSpare_same
    | with_reducible (refine Same.record ?_ (fun _ => ⟨rfl, rfl⟩) (fun _ => rfl) (fun _ => rfl) (fun _ => rfl) fun _ => rfl; first | assumption | apply State.queueSpare_same)
    | split

theorem State.stackFail_same {A : Aspect → Prop} {s0 s : State} {k cause : _} (h : Same A s0 s) :
    Same A s0 (State.stackFail s k cause) := by
  unfold State.stackFail
  repeat' first
    | ((fail_if_success (conv => arg 2; fun)); extract_lets +onlyGivenNames y; clear_value (e : y = _); refine Same.letVar (A := A) (s0 := s0) e ?_ fun _ => ?_)
    | ((fail_if_success (conv => arg 2; fun)); extract_lets +onlyGivenNames y)
    | with_reducible first | assumption | apply State.setF_same | apply State.setBit_same | apply State.memEvent_same
    | with_reducible (refine Same.record ?_ (fun _ => ⟨rfl, rfl⟩) (fun _ => rfl) (fun _ => rfl) (fun _ => rfl) fun _ => rfl; first | assumption | apply State.setF_same | apply State.setBit_same | apply State.memEvent_same)
    | split

theorem State.ueAddr_same {A : Aspect → Prop} {s0 s : State} {p pa poisoned : _} (h : Same A s0 s) :
    Same A s0 (State.ueAddr s p pa poisoned) := by
  unfold State.ueAddr
  repeat' first
    | ((fail_if_success (conv => arg 2; fun)); extract_lets +onlyGivenNames y; clear_value (e : y = _); refine Same.letVar (A := A) (s0 := s0) e ?_ fun _ => ?_)
    | ((fail_if_success (conv => arg 2; fun)); extract_lets +onlyGivenNames y)
    | with_reducible first | assumption | apply State.setF_same | apply State.setFlag_same

theorem State.correctedRead_same {A : Aspect → Prop} {s0 s : State} {p : _} (h : Same A s0 s) :
    Same A s0 (State.correctedRead s p) := by
  unfold State.correctedRead
  repeat' first
    | ((fail_if_success (conv => arg 2; fun)); extract_lets +onlyGivenNames y; clear_value (e : y = _); refine Same.letVar (A := A) (s0 := s0) e ?_ fun _ => ?_)
    | ((fail_if_success (conv => arg 2; fun)); extract_lets +onlyGivenNames y)
    | with_reducible first | assumption | apply State.addSat_same | apply State.spareTrigger_same
    | split

theorem State.poisonPair_same {A : Aspect → Prop} {s0 s : State} {key : _} (h : Same A s0 s) :
    Same A s0 (State.poisonPair s key) := by
  unfold State.poisonPair
  repeat' first
    | ((fail_if_success (conv => arg 2; fun)); extract_lets +onlyGivenNames y)
    | with_reducible first | assumption
    | with_reducible (refine Same.record ?_ (fun _ => ⟨rfl, rfl⟩) (fun _ => rfl) (fun _ => rfl) (fun _ => rfl) fun _ => rfl; first | assumption)
    | split

theorem State.uncorrectable_same {A : Aspect → Prop} {s0 s : State} {p pa : _} (h : Same A s0 s) :
    Same A s0 (State.uncorrectable s p pa) := by
  unfold State.uncorrectable
  repeat' first
    | ((fail_if_success (conv => arg 2; fun)); extract_lets +onlyGivenNames y; clear_value (e : y = _); refine Same.letVar (A := A) (s0 := s0) e ?_ fun _ => ?_)
    | ((fail_if_success (conv => arg 2; fun)); extract_lets +onlyGivenNames y)
    | with_reducible first | assumption | apply State.addSat_same | apply State.memEvent_same | apply State.spareTrigger_same | apply State.ueAddr_same | apply State.poisonPair_same

theorem State.scramble_same {A : Aspect → Prop} (nM : ¬A .mem) {s0 s : State} {pa : _} (h : Same A s0 s) :
    Same A s0 (State.scramble s pa) := by
  unfold State.scramble
  repeat' first
    | ((fail_if_success (conv => arg 2; fun)); extract_lets +onlyGivenNames y)
    | with_reducible first | assumption | refine Same.ofG (State.freshBytes_same ?_) | apply State.putBytes_same nM

theorem State.readPlace_same {A : Aspect → Prop} (nM : ¬A .mem) {s0 s : State} {p pa ecc : _} (h : Same A s0 s) :
    SameF A s0 (State.readPlace s p pa ecc) := by
  unfold State.readPlace
  repeat' first
    | ((fail_if_success (conv => arg 2; fun)); extract_lets +onlyGivenNames y; clear_value (e : y = _); refine Same.letVar (A := A) (s0 := s0) e ?_ fun _ => ?_)
    | ((fail_if_success (conv => arg 2; fun)); extract_lets +onlyGivenNames y)
    | with_reducible first | assumption | apply State.addSat_same | apply State.srExit_same | apply State.ueAddr_same | apply State.correctedRead_same | apply State.uncorrectable_same | apply State.scramble_same nM
    | split
    | with_reducible apply Same.mkF

theorem State.readPair_same {A : Aspect → Prop} (nM : ¬A .mem) {s0 s : State} {u ecc : _} (h : Same A s0 s) :
    SameF A s0 (State.readPair s u ecc) := by
  unfold State.readPair
  repeat' first
    | with_reducible first | assumption | apply State.readPlace_same nM
    | split
    | with_reducible apply Same.mkF

theorem State.readPairs_same {A : Aspect → Prop} (nM : ¬A .mem) {s0 s : State} {z1 z2 : _} (h : Same A s0 s) :
    SameF A s0 (State.readPairs s z1 z2) := by
  induction z1 generalizing s z2 with
  | nil =>
    unfold State.readPairs
    repeat' first
      | ((fail_if_success (conv => arg 2; fun)); extract_lets +onlyGivenNames y)
      | with_reducible first | assumption | apply State.readPair_same nM | apply ih | refine Same.eqF (by assumption) ?_
      | with_reducible (refine Same.record ?_ (fun _ => ⟨rfl, rfl⟩) (fun _ => rfl) (fun _ => rfl) (fun _ => rfl) fun _ => rfl; first | assumption | apply State.readPair_same nM | apply ih | refine Same.eqF (by assumption) ?_)
      | split
      | with_reducible apply Same.mkF
  | cons hd tl ih =>
    unfold State.readPairs
    repeat' first
      | ((fail_if_success (conv => arg 2; fun)); extract_lets +onlyGivenNames y)
      | with_reducible first | assumption | apply State.readPair_same nM | apply ih | refine Same.eqF (by assumption) ?_
      | with_reducible (refine Same.record ?_ (fun _ => ⟨rfl, rfl⟩) (fun _ => rfl) (fun _ => rfl) (fun _ => rfl) fun _ => rfl; first | assumption | apply State.readPair_same nM | apply ih | refine Same.eqF (by assumption) ?_)
      | split
      | with_reducible apply Same.mkF

theorem State.memRead_same {A : Aspect → Prop} (nM : ¬A .mem) {s0 s : State} {pa n ecc : _} (h : Same A s0 s) :
    SameF A s0 (State.memRead s pa n ecc) := by
  unfold State.memRead
  repeat' first
    | ((fail_if_success (conv => arg 2; fun)); extract_lets +onlyGivenNames y)
    | with_reducible first | assumption | apply State.readPairs_same nM | refine Same.eqF (by assumption) ?_
    | with_reducible (refine Same.record ?_ (fun _ => ⟨rfl, rfl⟩) (fun _ => rfl) (fun _ => rfl) (fun _ => rfl) fun _ => rfl; first | assumption | apply State.readPairs_same nM | refine Same.eqF (by assumption) ?_)
    | split
    | with_reducible apply Same.mkF

theorem State.writePair_same {A : Aspect → Prop} (nM : ¬A .mem) {s0 s : State} {pa data ecc : _} (h : Same A s0 s) :
    SameF A s0 (State.writePair s pa data ecc) := by
  unfold State.writePair
  repeat' first
    | ((fail_if_success (conv => arg 2; fun)); extract_lets +onlyGivenNames y; clear_value (e : y = _); refine Same.letVar (A := A) (s0 := s0) e ?_ fun _ => ?_)
    | ((fail_if_success (conv => arg 2; fun)); extract_lets +onlyGivenNames y)
    | with_reducible first | assumption | apply State.putBytes_same nM | apply State.srExit_same | apply State.readPair_same nM | refine Same.eqF (by assumption) ?_
    | with_reducible (refine Same.record ?_ (fun _ => ⟨rfl, rfl⟩) (fun _ => rfl) (fun _ => rfl) (fun _ => rfl) fun _ => rfl; first | assumption | apply State.putBytes_same nM | apply State.srExit_same | apply State.readPair_same nM | refine Same.eqF (by assumption) ?_)
    | split
    | with_reducible apply Same.mkF

theorem State.writePairs_same {A : Aspect → Prop} (nM : ¬A .mem) {s0 s : State} {z0 z2 z3 z4 : _} (h : Same A s0 s) :
    SameF A s0 (State.writePairs z0 s z2 z3 z4) := by
  induction z0 generalizing s z2 z3 z4 with
  | zero =>
    unfold State.writePairs
    repeat' first
      | ((fail_if_success (conv => arg 2; fun)); extract_lets +onlyGivenNames y)
      | with_reducible first | assumption | apply State.writePair_same nM | apply ih | refine Same.eqF (by assumption) ?_
      | with_reducible (refine Same.record ?_ (fun _ => ⟨rfl, rfl⟩) (fun _ => rfl) (fun _ => rfl) (fun _ => rfl) fun _ => rfl; first | assumption | apply State.writePair_same nM | apply ih | refine Same.eqF (by assumption) ?_)
      | split
      | with_reducible apply Same.mkF
  | succ n ih =>
    unfold State.writePairs
    repeat' first
      | ((fail_if_success (conv => arg 2; fun)); extract_lets +onlyGivenNames y)
      | with_reducible first | assumption | apply State.writePair_same nM | apply ih | refine Same.eqF (by assumption) ?_
      | with_reducible (refine Same.record ?_ (fun _ => ⟨rfl, rfl⟩) (fun _ => rfl) (fun _ => rfl) (fun _ => rfl) fun _ => rfl; first | assumption | apply State.writePair_same nM | apply ih | refine Same.eqF (by assumption) ?_)
      | split
      | with_reducible apply Same.mkF

theorem State.markDirty_same {A : Aspect → Prop} {s0 s : State} {r pa n : _} (h : Same A s0 s) :
    Same A s0 (State.markDirty s r pa n) := by
  unfold State.markDirty
  repeat' first
    | ((fail_if_success (conv => arg 2; fun)); extract_lets +onlyGivenNames y; clear_value (e : y = _); refine Same.letVar (A := A) (s0 := s0) e ?_ fun _ => ?_)
    | ((fail_if_success (conv => arg 2; fun)); extract_lets +onlyGivenNames y)
    | with_reducible first | assumption | apply State.setF_same | refine Same.record ?_ (fun _ => ⟨rfl, rfl⟩) (fun _ => rfl) (fun _ => rfl) (fun _ => rfl) fun _ => rfl

theorem State.allDirty_same {A : Aspect → Prop} {s0 s : State} {r : _} (h : Same A s0 s) :
    Same A s0 (State.allDirty s r) := by
  unfold State.allDirty
  repeat' first
    | ((fail_if_success (conv => arg 2; fun)); extract_lets +onlyGivenNames y; clear_value (e : y = _); refine Same.letVar (A := A) (s0 := s0) e ?_ fun _ => ?_)
    | ((fail_if_success (conv => arg 2; fun)); extract_lets +onlyGivenNames y)
    | with_reducible first | assumption | apply State.setF_same | refine Same.record ?_ (fun _ => ⟨rfl, rfl⟩) (fun _ => rfl) (fun _ => rfl) (fun _ => rfl) fun _ => rfl

theorem State.sendMirror_same {A : Aspect → Prop} {s0 s : State} {kind r pa data : _} (h : Same A s0 s) :
    SameF A s0 (State.sendMirror s kind r pa data) := by
  unfold State.sendMirror
  repeat' first
    | ((fail_if_success (conv => arg 2; fun)); extract_lets +onlyGivenNames y; clear_value (e : y = _); refine Same.letVar (A := A) (s0 := s0) e ?_ fun _ => ?_)
    | ((fail_if_success (conv => arg 2; fun)); extract_lets +onlyGivenNames y)
    | with_reducible first | assumption | apply State.sendPkt_same | apply State.takeTag_same | apply State.addReq_same | refine Same.eqG (by assumption) ?_
    | with_reducible (refine Same.record ?_ (fun _ => ⟨rfl, rfl⟩) (fun _ => rfl) (fun _ => rfl) (fun _ => rfl) fun _ => rfl; first | assumption | apply State.sendPkt_same | apply State.takeTag_same | apply State.addReq_same | refine Same.eqG (by assumption) ?_)
    | split
    | with_reducible apply Same.mkF

theorem State.sendMirrors_same {A : Aspect → Prop} {s0 s : State} {z0 z2 z3 z4 z5 : _} (h : Same A s0 s) :
    SameF A s0 (State.sendMirrors z0 s z2 z3 z4 z5) := by
  induction z0 generalizing s z2 z3 z4 z5 with
  | zero =>
    unfold State.sendMirrors
    repeat' first
      | ((fail_if_success (conv => arg 2; fun)); extract_lets +onlyGivenNames y)
      | with_reducible first | assumption | apply State.sendMirror_same | apply ih | refine Same.eqF (by assumption) ?_
      | with_reducible (refine Same.record ?_ (fun _ => ⟨rfl, rfl⟩) (fun _ => rfl) (fun _ => rfl) (fun _ => rfl) fun _ => rfl; first | assumption | apply State.sendMirror_same | apply ih | refine Same.eqF (by assumption) ?_)
      | split
      | with_reducible apply Same.mkF
  | succ n ih =>
    unfold State.sendMirrors
    repeat' first
      | ((fail_if_success (conv => arg 2; fun)); extract_lets +onlyGivenNames y)
      | with_reducible first | assumption | apply State.sendMirror_same | apply ih | refine Same.eqF (by assumption) ?_
      | with_reducible (refine Same.record ?_ (fun _ => ⟨rfl, rfl⟩) (fun _ => rfl) (fun _ => rfl) (fun _ => rfl) fun _ => rfl; first | assumption | apply State.sendMirror_same | apply ih | refine Same.eqF (by assumption) ?_)
      | split
      | with_reducible apply Same.mkF

theorem State.mirrorParts_same {A : Aspect → Prop} {s0 s : State} {z1 : _} (h : Same A s0 s) :
    SameF A s0 (State.mirrorParts s z1) := by
  induction z1 generalizing s with
  | nil =>
    unfold State.mirrorParts
    repeat' first
      | ((fail_if_success (conv => arg 2; fun)); extract_lets +onlyGivenNames y)
      | with_reducible first | assumption | apply State.markDirty_same | apply State.sendMirrors_same | apply ih | refine Same.eqF (by assumption) ?_
      | with_reducible (refine Same.record ?_ (fun _ => ⟨rfl, rfl⟩) (fun _ => rfl) (fun _ => rfl) (fun _ => rfl) fun _ => rfl; first | assumption | apply State.markDirty_same | apply State.sendMirrors_same | apply ih | refine Same.eqF (by assumption) ?_)
      | split
      | with_reducible apply Same.mkF
  | cons hd tl ih =>
    unfold State.mirrorParts
    repeat' first
      | ((fail_if_success (conv => arg 2; fun)); extract_lets +onlyGivenNames y)
      | with_reducible first | assumption | apply State.markDirty_same | apply State.sendMirrors_same | apply ih | refine Same.eqF (by assumption) ?_
      | with_reducible (refine Same.record ?_ (fun _ => ⟨rfl, rfl⟩) (fun _ => rfl) (fun _ => rfl) (fun _ => rfl) fun _ => rfl; first | assumption | apply State.markDirty_same | apply State.sendMirrors_same | apply ih | refine Same.eqF (by assumption) ?_)
      | split
      | with_reducible apply Same.mkF

theorem State.mirrorPass_same {A : Aspect → Prop} {s0 s : State} {runs : _} (h : Same A s0 s) :
    SameF A s0 (State.mirrorPass s runs) := by
  unfold State.mirrorPass
  repeat' with_reducible first | assumption | apply State.mirrorParts_same

theorem State.memWrite_same {A : Aspect → Prop} (nM : ¬A .mem) {s0 s : State} {pa data ecc mirror : _} (h : Same A s0 s) :
    SameF A s0 (State.memWrite s pa data ecc mirror) := by
  unfold State.memWrite
  repeat' first
    | ((fail_if_success (conv => arg 2; fun)); extract_lets +onlyGivenNames y)
    | with_reducible first | assumption | apply State.writePairs_same nM | apply State.mirrorPass_same | refine Same.eqF (by assumption) ?_
    | with_reducible (refine Same.record ?_ (fun _ => ⟨rfl, rfl⟩) (fun _ => rfl) (fun _ => rfl) (fun _ => rfl) fun _ => rfl; first | assumption | apply State.writePairs_same nM | apply State.mirrorPass_same | refine Same.eqF (by assumption) ?_)
    | split
    | with_reducible apply Same.mkF

/-! ### RowBus -/

theorem State.rowOnlyRecord_same {A : Aspect → Prop} {s0 s : State} {code severity data : _} (h : Same A s0 s) :
    Same A s0 (State.rowOnlyRecord s code severity data) := by
  unfold State.rowOnlyRecord
  repeat' first
    | ((fail_if_success (conv => arg 2; fun)); extract_lets +onlyGivenNames y)
    | with_reducible first | assumption | refine Same.ofG (State.fresh_same ?_) | apply State.post_same

theorem State.busUp_same {A : Aspect → Prop} {s0 s : State} {p : _} (h : Same A s0 s) :
    Same A s0 (State.busUp s p) := by
  unfold State.busUp
  repeat' first
    | ((fail_if_success (conv => arg 2; fun)); extract_lets +onlyGivenNames y)
    | with_reducible first | assumption | apply State.sendModuleEvent_same | apply State.rowOnlyRecord_same

theorem State.portActive_same {A : Aspect → Prop} {s0 s : State} {p nom data brs : _} (h : Same A s0 s) :
    Same A s0 (State.portActive s p nom data brs) := by
  unfold State.portActive
  repeat' first
    | ((fail_if_success (conv => arg 2; fun)); extract_lets +onlyGivenNames y; clear_value (e : y = _); refine Same.letVar (A := A) (s0 := s0) e ?_ fun _ => ?_)
    | ((fail_if_success (conv => arg 2; fun)); extract_lets +onlyGivenNames y)
    | with_reducible first | assumption | apply State.setF_same | apply State.busUp_same
    | split

theorem State.portRestart_same {A : Aspect → Prop} {s0 s : State} {p : _} (h : Same A s0 s) :
    Same A s0 (State.portRestart s p) := by
  unfold State.portRestart
  repeat' first
    | ((fail_if_success (conv => arg 2; fun)); extract_lets +onlyGivenNames y; clear_value (e : y = _); refine Same.letVar (A := A) (s0 := s0) e ?_ fun _ => ?_)
    | ((fail_if_success (conv => arg 2; fun)); extract_lets +onlyGivenNames y)
    | with_reducible first | assumption | apply State.setF_same | refine Same.record ?_ (fun _ => ⟨rfl, rfl⟩) (fun _ => rfl) (fun _ => rfl) (fun _ => rfl) fun _ => rfl

theorem State.withRowCtl_same {A : Aspect → Prop} {s0 s : State} {c : _} (h : Same A s0 s) :
    Same A s0 (State.withRowCtl s c) := by
  unfold State.withRowCtl
  repeat' first
    | ((fail_if_success (conv => arg 2; fun)); extract_lets +onlyGivenNames y)
    | with_reducible first | assumption | apply State.withRegs_same | refine Same.record ?_ (fun _ => ⟨rfl, rfl⟩) (fun _ => rfl) (fun _ => rfl) (fun _ => rfl) fun _ => rfl

theorem State.otherRow_same {A : Aspect → Prop} {s0 s : State} {f : _} (h : Same A s0 s) (hf : ∀ t, Same A s0 t → Same A s0 (f t)) :
    Same A s0 (State.otherRow s f) := by
  unfold State.otherRow
  repeat' first
    | ((fail_if_success (conv => arg 2; fun)); extract_lets +onlyGivenNames y)
    | with_reducible first | assumption
    | with_reducible (refine Same.record ?_ (fun _ => ⟨rfl, rfl⟩) (fun _ => rfl) (fun _ => rfl) (fun _ => rfl) fun _ => rfl; first | assumption)
    | split

theorem State.restartOther_same {A : Aspect → Prop} {s0 s : State} (h : Same A s0 s) :
    Same A s0 (State.restartOther s) := by
  unfold State.restartOther
  repeat' first
    | ((fail_if_success (conv => arg 2; fun)); extract_lets +onlyGivenNames y)
    | with_reducible first | assumption | apply State.portRestart_same | refine State.otherRow_same ?_ (fun _ _ => ?_) | refine Same.foldl ?_ fun _ _ _ => ?_

theorem State.bothRow_same {A : Aspect → Prop} {s0 s : State} {f : _} (h : Same A s0 s) (hf : ∀ t, Same A s0 t → Same A s0 (f t)) :
    Same A s0 (State.bothRow s f) := by
  unfold State.bothRow
  repeat' first
    | ((fail_if_success (conv => arg 2; fun)); extract_lets +onlyGivenNames y)
    | with_reducible first | assumption | refine State.otherRow_same ?_ (fun _ _ => ?_) | apply hf

theorem State.setPortDet_same {A : Aspect → Prop} {s0 s : State} {p d : _} (h : Same A s0 s) :
    Same A s0 (State.setPortDet s p d) := by
  unfold State.setPortDet
  repeat' first
    | ((fail_if_success (conv => arg 2; fun)); extract_lets +onlyGivenNames y)
    | with_reducible first | assumption | refine Same.record ?_ (fun _ => ⟨rfl, rfl⟩) (fun _ => rfl) (fun _ => rfl) (fun _ => rfl) fun _ => rfl

theorem State.brsFrame_same {A : Aspect → Prop} {s0 s : State} {p ok : _} (h : Same A s0 s) :
    SameF A s0 (State.brsFrame s p ok) := by
  unfold State.brsFrame
  repeat' first
    | ((fail_if_success (conv => arg 2; fun)); extract_lets +onlyGivenNames y)
    | with_reducible first | assumption | apply State.setPortDet_same
    | split
    | with_reducible apply Same.mkF

theorem State.clash_same {A : Aspect → Prop} {s0 s : State} {p : _} (h : Same A s0 s) :
    Same A s0 (State.clash s p) := by
  unfold State.clash
  repeat' first
    | ((fail_if_success (conv => arg 2; fun)); extract_lets +onlyGivenNames y; clear_value (e : y = _); refine Same.letVar (A := A) (s0 := s0) e ?_ fun _ => ?_)
    | ((fail_if_success (conv => arg 2; fun)); extract_lets +onlyGivenNames y)
    | with_reducible first | assumption | apply State.setF_same | apply State.addSat_same | apply State.alertSet_same | apply State.moduleEventOn_same | apply State.rowOnlyRecord_same
    | with_reducible (refine Same.record ?_ (fun _ => ⟨rfl, rfl⟩) (fun _ => rfl) (fun _ => rfl) (fun _ => rfl) fun _ => rfl; first | assumption | apply State.setF_same | apply State.addSat_same | apply State.alertSet_same | apply State.moduleEventOn_same | apply State.rowOnlyRecord_same)
    | split

theorem State.rowAccept_same {A : Aspect → Prop} {s0 s : State} {p f reservedOk : _} (h : Same A s0 s) :
    SameF A s0 (State.rowAccept s p f reservedOk) := by
  unfold State.rowAccept
  repeat' first
    | ((fail_if_success (conv => arg 2; fun)); extract_lets +onlyGivenNames y; clear_value (e : y = _); refine Same.letVar (A := A) (s0 := s0) e ?_ fun _ => ?_)
    | ((fail_if_success (conv => arg 2; fun)); extract_lets +onlyGivenNames y)
    | with_reducible first | assumption | apply State.addSat_same
    | with_reducible (refine Same.record ?_ (fun _ => ⟨rfl, rfl⟩) (fun _ => rfl) (fun _ => rfl) (fun _ => rfl) fun _ => rfl; first | assumption | apply State.addSat_same)
    | split
    | with_reducible apply Same.mkF

theorem State.rowAnswer_same {A : Aspect → Prop} {s0 s : State} {p mtype prio buf body : _} (h : Same A s0 s) :
    Same A s0 (State.rowAnswer s p mtype prio buf body) := by
  unfold State.rowAnswer
  repeat' first
    | ((fail_if_success (conv => arg 2; fun)); extract_lets +onlyGivenNames y)
    | with_reducible first | assumption | apply State.rowQueueOn_same | refine Same.ofG (State.takeRowSeq_same ?_)
    | split

theorem State.urgentCheck_same {A : Aspect → Prop} {s0 s : State} (h : Same A s0 s) :
    Same A s0 (State.urgentCheck s) := by
  unfold State.urgentCheck
  repeat' first
    | with_reducible first | assumption | apply State.alertClear_same
    | split

theorem State.markMsgs_same {A : Aspect → Prop} {s0 s : State} {p f : _} (h : Same A s0 s) :
    Same A s0 (State.markMsgs s p f) := by
  unfold State.markMsgs
  repeat' first
    | ((fail_if_success (conv => arg 2; fun)); extract_lets +onlyGivenNames y)
    | with_reducible first | assumption | apply State.setRowQueue_same | refine Same.foldl ?_ fun _ _ _ => ?_

theorem State.errorState_same {A : Aspect → Prop} {s0 s : State} {p : _} (h : Same A s0 s) :
    Same A s0 (State.errorState s p) := by
  unfold State.errorState
  repeat' first
    | ((fail_if_success (conv => arg 2; fun)); extract_lets +onlyGivenNames y)
    | with_reducible first | assumption | apply State.setF_same
    | split

theorem State.countRx_same {A : Aspect → Prop} {s0 s : State} {p bad : _} (h : Same A s0 s) :
    Same A s0 (State.countRx s p bad) := by
  unfold State.countRx
  repeat' first
    | ((fail_if_success (conv => arg 2; fun)); extract_lets +onlyGivenNames y)
    | with_reducible first | assumption | apply State.setF_same | apply State.errorState_same
    | split

theorem execRateSweepTimeout_same {A : Aspect → Prop} {s0 s : State} {p edges : _} (h : Same A s0 s) :
    SameX A s0 (execRateSweepTimeout p edges s) := by
  unfold execRateSweepTimeout
  repeat' first
    | ((fail_if_success (conv => arg 2; fun)); extract_lets +onlyGivenNames y)
    | with_reducible first | assumption | apply State.setF_same | apply State.portActive_same | refine State.bothRow_same ?_ (fun _ _ => ?_) | apply Same.next
    | with_reducible (refine Same.record ?_ (fun _ => ⟨rfl, rfl⟩) (fun _ => rfl) (fun _ => rfl) (fun _ => rfl) fun _ => rfl; first | assumption | apply State.setF_same | apply State.portActive_same | refine State.bothRow_same ?_ (fun _ _ => ?_) | apply Same.next)
    | split

theorem execBrsWaitTimeout_same {A : Aspect → Prop} {s0 s : State} {p : _} (h : Same A s0 s) :
    SameX A s0 (execBrsWaitTimeout p s) := by
  unfold execBrsWaitTimeout
  repeat' first
    | ((fail_if_success (conv => arg 2; fun)); extract_lets +onlyGivenNames y)
    | with_reducible first | assumption | apply State.portActive_same | refine State.bothRow_same ?_ (fun _ _ => ?_) | apply Same.next
    | split

theorem State.rowDetect_same {A : Aspect → Prop} {s0 s : State} {p nom brs dataOk : _} (h : Same A s0 s) :
    Same A s0 (State.rowDetect s p nom brs dataOk) := by
  unfold State.rowDetect
  repeat' first
    | ((fail_if_success (conv => arg 2; fun)); extract_lets +onlyGivenNames y)
    | with_reducible first | assumption | apply State.setF_same | apply State.portActive_same | apply State.setPortDet_same | apply State.brsFrame_same | refine Same.eqF (by assumption) ?_
    | with_reducible (refine Same.record ?_ (fun _ => ⟨rfl, rfl⟩) (fun _ => rfl) (fun _ => rfl) (fun _ => rfl) fun _ => rfl; first | assumption | apply State.setF_same | apply State.portActive_same | apply State.setPortDet_same | apply State.brsFrame_same | refine Same.eqF (by assumption) ?_)
    | split

theorem State.rowHear_same {A : Aspect → Prop} {s0 s : State} {p f : _} (h : Same A s0 s) :
    SameF A s0 (State.rowHear s p f) := by
  unfold State.rowHear
  repeat' first
    | ((fail_if_success (conv => arg 2; fun)); extract_lets +onlyGivenNames y; clear_value (e : y = _); refine Same.letVar (A := A) (s0 := s0) e ?_ fun _ => ?_)
    | ((fail_if_success (conv => arg 2; fun)); extract_lets +onlyGivenNames y)
    | with_reducible first | assumption | refine State.bothRow_same ?_ (fun _ _ => ?_) | apply State.countRx_same | apply State.rowDetect_same
    | with_reducible (refine Same.record ?_ (fun _ => ⟨rfl, rfl⟩) (fun _ => rfl) (fun _ => rfl) (fun _ => rfl) fun _ => rfl; first | assumption | refine State.bothRow_same ?_ (fun _ _ => ?_) | apply State.countRx_same | apply State.rowDetect_same)
    | split
    | with_reducible apply Same.mkF

theorem execRowFrameOther_same {A : Aspect → Prop} {s0 s : State} {p frame : _} (h : Same A s0 s) :
    SameX A s0 (execRowFrameOther p frame s) := by
  unfold execRowFrameOther
  repeat' first
    | ((fail_if_success (conv => arg 2; fun)); extract_lets +onlyGivenNames y)
    | with_reducible first | assumption | apply State.clash_same | apply State.rowHear_same | apply Same.next | refine Same.eqF (by assumption) ?_
    | with_reducible (refine Same.record ?_ (fun _ => ⟨rfl, rfl⟩) (fun _ => rfl) (fun _ => rfl) (fun _ => rfl) fun _ => rfl; first | assumption | apply State.clash_same | apply State.rowHear_same | apply Same.next | refine Same.eqF (by assumption) ?_)
    | split

theorem execStatusReq_same {A : Aspect → Prop} {s0 s : State} {p frame : _} (h : Same A s0 s) :
    SameX A s0 (execStatusReq p frame s) := by
  unfold execStatusReq
  repeat' first
    | ((fail_if_success (conv => arg 2; fun)); extract_lets +onlyGivenNames y)
    | with_reducible first | assumption | apply State.rowAccept_same | apply State.rowAnswer_same | apply State.rowHear_same | apply Same.next | refine Same.eqF (by assumption) ?_
    | with_reducible (refine Same.record ?_ (fun _ => ⟨rfl, rfl⟩) (fun _ => rfl) (fun _ => rfl) (fun _ => rfl) fun _ => rfl; first | assumption | apply State.rowAccept_same | apply State.rowAnswer_same | apply State.rowHear_same | apply Same.next | refine Same.eqF (by assumption) ?_)
    | split

theorem State.commitRow_same {A : Aspect → Prop} (nL : ¬A .live) {s0 s : State} (h : Same A s0 s) :
    Same A s0 (State.commitRow s) := by
  unfold State.commitRow
  repeat' first
    | ((fail_if_success (conv => arg 2; fun)); extract_lets +onlyGivenNames y; clear_value (e : y = _); refine Same.letVar (A := A) (s0 := s0) e ?_ fun _ => ?_)
    | ((fail_if_success (conv => arg 2; fun)); extract_lets +onlyGivenNames y)
    | with_reducible first | assumption | apply State.setF_same | apply State.commitRange_same nL | apply State.portRestart_same | refine State.bothRow_same ?_ (fun _ _ => ?_) | refine Same.foldl ?_ fun _ _ _ => ?_
    | split

theorem execRowCommit_same {A : Aspect → Prop} (nL : ¬A .live) {s0 s : State} (h : Same A s0 s) :
    SameX A s0 (execRowCommit s) := by
  unfold execRowCommit
  repeat' first
    | ((fail_if_success (conv => arg 2; fun)); extract_lets +onlyGivenNames y)
    | with_reducible first | assumption | apply State.commitRow_same nL | apply Same.next
    | split

theorem execFrameTxDone_same {A : Aspect → Prop} {s0 s : State} {p b : _} (h : Same A s0 s) :
    SameX A s0 (execFrameTxDone p b s) := by
  unfold execFrameTxDone
  repeat' first
    | ((fail_if_success (conv => arg 2; fun)); extract_lets +onlyGivenNames y; clear_value (e : y = _); refine Same.letVar (A := A) (s0 := s0) e ?_ fun _ => ?_)
    | ((fail_if_success (conv => arg 2; fun)); extract_lets +onlyGivenNames y)
    | with_reducible first | assumption | apply State.setF_same | apply State.addSat_same | apply State.setRowQueue_same | apply State.urgentCheck_same | apply State.errorState_same | apply Same.next
    | with_reducible (refine Same.record ?_ (fun _ => ⟨rfl, rfl⟩) (fun _ => rfl) (fun _ => rfl) (fun _ => rfl) fun _ => rfl; first | assumption | apply State.setF_same | apply State.addSat_same | apply State.setRowQueue_same | apply State.urgentCheck_same | apply State.errorState_same | apply Same.next)
    | split

theorem execFrameTxError_same {A : Aspect → Prop} {s0 s : State} {p b why : _} (h : Same A s0 s) :
    SameX A s0 (execFrameTxError p b why s) := by
  unfold execFrameTxError
  repeat' first
    | ((fail_if_success (conv => arg 2; fun)); extract_lets +onlyGivenNames y; clear_value (e : y = _); refine Same.letVar (A := A) (s0 := s0) e ?_ fun _ => ?_)
    | ((fail_if_success (conv => arg 2; fun)); extract_lets +onlyGivenNames y)
    | with_reducible first | assumption | apply State.setF_same | apply State.addSat_same | apply State.alertSet_same | apply State.setRowQueue_same | apply State.clash_same | apply State.markMsgs_same | apply State.errorState_same | apply Same.next
    | split

theorem execBusOffRecovery_same {A : Aspect → Prop} {s0 s : State} {p : _} (h : Same A s0 s) :
    SameX A s0 (execBusOffRecovery p s) := by
  unfold execBusOffRecovery
  repeat' first
    | ((fail_if_success (conv => arg 2; fun)); extract_lets +onlyGivenNames y; clear_value (e : y = _); refine Same.letVar (A := A) (s0 := s0) e ?_ fun _ => ?_)
    | ((fail_if_success (conv => arg 2; fun)); extract_lets +onlyGivenNames y)
    | with_reducible first | assumption | apply State.setF_same | apply State.portActive_same | apply Same.next
    | split

theorem execUrgentWaitTimeout_same {A : Aspect → Prop} {s0 s : State} {p : _} (h : Same A s0 s) :
    SameX A s0 (execUrgentWaitTimeout p s) := by
  unfold execUrgentWaitTimeout
  repeat' first
    | ((fail_if_success (conv => arg 2; fun)); extract_lets +onlyGivenNames y)
    | with_reducible first | assumption | apply State.alertSet_same | apply State.markMsgs_same | apply Same.next
    | split

theorem execRowStatusPeriodic_same {A : Aspect → Prop} {s0 s : State} (h : Same A s0 s) :
    SameX A s0 (execRowStatusPeriodic s) := by
  unfold execRowStatusPeriodic
  repeat' first
    | ((fail_if_success (conv => arg 2; fun)); extract_lets +onlyGivenNames y)
    | with_reducible first | assumption | apply State.served_same | apply State.sendStatus_same | apply Same.next
    | split

theorem State.alarmNow_same {A : Aspect → Prop} {s0 s : State} {alarm detail : _} (h : Same A s0 s) :
    Same A s0 (State.alarmNow s alarm detail) := by
  unfold State.alarmNow
  repeat' first
    | ((fail_if_success (conv => arg 2; fun)); extract_lets +onlyGivenNames y; clear_value (e : y = _); refine Same.letVar (A := A) (s0 := s0) e ?_ fun _ => ?_)
    | ((fail_if_success (conv => arg 2; fun)); extract_lets +onlyGivenNames y)
    | with_reducible first | assumption | apply State.sendAlarm_same | refine Same.record ?_ (fun _ => ⟨rfl, rfl⟩) (fun _ => rfl) (fun _ => rfl) (fun _ => rfl) fun _ => rfl

theorem State.allClear_same {A : Aspect → Prop} {s0 s : State} (h : Same A s0 s) :
    Same A s0 (State.allClear s) := by
  unfold State.allClear
  repeat' first
    | with_reducible first | assumption | apply State.alarmNow_same
    | split

theorem execCoolantAlarmRepeat_same {A : Aspect → Prop} {s0 s : State} (h : Same A s0 s) :
    SameX A s0 (execCoolantAlarmRepeat s) := by
  unfold execCoolantAlarmRepeat
  repeat' first
    | ((fail_if_success (conv => arg 2; fun)); extract_lets +onlyGivenNames y)
    | with_reducible first | assumption | apply State.sendAlarm_same | apply Same.next
    | split

theorem State.clashClear_same {A : Aspect → Prop} {s0 s : State} {p : _} (h : Same A s0 s) :
    Same A s0 (State.clashClear s p) := by
  unfold State.clashClear
  repeat' first
    | ((fail_if_success (conv => arg 2; fun)); extract_lets +onlyGivenNames y; clear_value (e : y = _); refine Same.letVar (A := A) (s0 := s0) e ?_ fun _ => ?_)
    | ((fail_if_success (conv => arg 2; fun)); extract_lets +onlyGivenNames y)
    | with_reducible first | assumption | apply State.alertClear_same | apply State.portActive_same
    | with_reducible (refine Same.record ?_ (fun _ => ⟨rfl, rfl⟩) (fun _ => rfl) (fun _ => rfl) (fun _ => rfl) fun _ => rfl; first | assumption | apply State.alertClear_same | apply State.portActive_same)
    | split

theorem execClashClr_same {A : Aspect → Prop} {s0 s : State} {p : _} (h : Same A s0 s) :
    SameX A s0 (execClashClr p s) := by
  unfold execClashClr
  repeat' first
    | ((fail_if_success (conv => arg 2; fun)); extract_lets +onlyGivenNames y)
    | with_reducible first | assumption | apply State.clashClear_same | apply Same.next
    | split

theorem State.txbCancel_same {A : Aspect → Prop} {s0 s : State} {p b onBus : _} (h : Same A s0 s) :
    Same A s0 (State.txbCancel s p b onBus) := by
  unfold State.txbCancel
  repeat' first
    | ((fail_if_success (conv => arg 2; fun)); extract_lets +onlyGivenNames y)
    | with_reducible first | assumption | apply State.setF_same | apply State.setRowQueue_same | apply State.urgentCheck_same
    | split

theorem execTxbCancel_same {A : Aspect → Prop} {s0 s : State} {p b onBus : _} (h : Same A s0 s) :
    SameX A s0 (execTxbCancel p b onBus s) := by
  unfold execTxbCancel
  repeat' first
    | ((fail_if_success (conv => arg 2; fun)); extract_lets +onlyGivenNames y)
    | with_reducible first | assumption | apply State.txbCancel_same | apply Same.next
    | split

theorem execBusIntegration_same {A : Aspect → Prop} {s0 s : State} {p : _} (h : Same A s0 s) :
    SameX A s0 (execBusIntegration p s) := by
  unfold execBusIntegration
  repeat' first
    | ((fail_if_success (conv => arg 2; fun)); extract_lets +onlyGivenNames y)
    | with_reducible first | assumption | apply State.portActive_same | refine State.bothRow_same ?_ (fun _ _ => ?_) | apply Same.next
    | split

end Sys2Proof.Machine
end

