-- ==== Sys2Proof/Laws/SameWork.lean ====
section
/-!
SUPPORT. Clusters, gates, work rings and transfers leave what Laws/Same.lean names.
-/

namespace Sys2Proof.Machine

set_option linter.all false

/-! ### ClusterOps -/

theorem State.setCl_same {A : Aspect → Prop} {s0 s : State} {c k : _} (h : Same A s0 s) :
    Same A s0 (State.setCl s c k) := by
  unfold State.setCl
  repeat' with_reducible first | assumption | refine Same.record ?_ (fun _ => ⟨rfl, rfl⟩) (fun _ => rfl) (fun _ => rfl) (fun _ => rfl) fun _ => rfl

theorem State.modCl_same {A : Aspect → Prop} {s0 s : State} {c f : _} (h : Same A s0 s) :
    Same A s0 (State.modCl s c f) := by
  unfold State.modCl
  repeat' with_reducible first | assumption | apply State.setCl_same

theorem State.modDie_same {A : Aspect → Prop} {s0 s : State} {n f : _} (h : Same A s0 s) :
    Same A s0 (State.modDie s n f) := by
  unfold State.modDie
  repeat' first
    | ((fail_if_success (conv => arg 2; fun)); extract_lets +onlyGivenNames y)
    | with_reducible first | assumption | refine Same.record ?_ (fun _ => ⟨rfl, rfl⟩) (fun _ => rfl) (fun _ => rfl) (fun _ => rfl) fun _ => rfl

theorem State.modRing_same {A : Aspect → Prop} {s0 s : State} {r f : _} (h : Same A s0 s) :
    Same A s0 (State.modRing s r f) := by
  unfold State.modRing
  repeat' first
    | ((fail_if_success (conv => arg 2; fun)); extract_lets +onlyGivenNames y)
    | with_reducible first | assumption | refine Same.record ?_ (fun _ => ⟨rfl, rfl⟩) (fun _ => rfl) (fun _ => rfl) (fun _ => rfl) fun _ => rfl

theorem State.putStore_same {A : Aspect → Prop} {s0 s : State} {c a data : _} (h : Same A s0 s) :
    Same A s0 (State.putStore s c a data) := by
  unfold State.putStore
  repeat' with_reducible first | assumption | apply State.modCl_same

theorem State.storeCe_same {A : Aspect → Prop} {s0 s : State} {c a : _} (h : Same A s0 s) :
    Same A s0 (State.storeCe s c a) := by
  unfold State.storeCe
  repeat' first
    | ((fail_if_success (conv => arg 2; fun)); extract_lets +onlyGivenNames y)
    | with_reducible first | assumption | apply State.setF_same | apply State.addSat_same

theorem State.storeEcc_same {A : Aspect → Prop} {s0 s : State} {c ecc : _} (h : Same A s0 s) :
    SameF A s0 (State.storeEcc s c ecc) := by
  unfold State.storeEcc
  repeat' first
    | ((fail_if_success (conv => arg 2; fun)); extract_lets +onlyGivenNames y)
    | with_reducible first | assumption | apply State.storeCe_same | refine Same.foldl ?_ fun _ _ _ => ?_
    | split
    | with_reducible apply Same.mkF

theorem State.storeRead_same {A : Aspect → Prop} {s0 s : State} {c a n ecc : _} (h : Same A s0 s) :
    SameF A s0 (State.storeRead s c a n ecc) := by
  unfold State.storeRead
  repeat' first
    | ((fail_if_success (conv => arg 2; fun)); extract_lets +onlyGivenNames y)
    | with_reducible first | assumption | apply State.storeEcc_same | refine Same.eqF (by assumption) ?_
    | with_reducible (refine Same.record ?_ (fun _ => ⟨rfl, rfl⟩) (fun _ => rfl) (fun _ => rfl) (fun _ => rfl) fun _ => rfl; first | assumption | apply State.storeEcc_same | refine Same.eqF (by assumption) ?_)
    | split
    | with_reducible apply Same.mkF

theorem State.loseStore_same {A : Aspect → Prop} {s0 s : State} {c : _} (h : Same A s0 s) :
    Same A s0 (State.loseStore s c) := by
  unfold State.loseStore
  repeat' with_reducible first | assumption | apply State.modCl_same

theorem State.setSreg_same {A : Aspect → Prop} {s0 s : State} {c r v : _} (h : Same A s0 s) :
    Same A s0 (State.setSreg s c r v) := by
  unfold State.setSreg
  repeat' with_reducible first | assumption | apply State.modCl_same

theorem State.setPc_same {A : Aspect → Prop} {s0 s : State} {c pc : _} (h : Same A s0 s) :
    Same A s0 (State.setPc s c pc) := by
  unfold State.setPc
  repeat' with_reducible first | assumption | apply State.modCl_same

theorem State.nextPc_same {A : Aspect → Prop} {s0 s : State} {c : _} (h : Same A s0 s) :
    Same A s0 (State.nextPc s c) := by
  unfold State.nextPc
  repeat' with_reducible first | assumption | apply State.setPc_same

theorem State.returnReserve_same {A : Aspect → Prop} {s0 s : State} {c : _} (h : Same A s0 s) :
    Same A s0 (State.returnReserve s c) := by
  unfold State.returnReserve
  repeat' first
    | ((fail_if_success (conv => arg 2; fun)); extract_lets +onlyGivenNames y)
    | with_reducible first | assumption | apply State.modCl_same | apply State.modDie_same

theorem State.steep_same {A : Aspect → Prop} {s0 s : State} {c cause w : _} (h : Same A s0 s) :
    Same A s0 (State.steep s c cause w) := by
  unfold State.steep
  repeat' first
    | ((fail_if_success (conv => arg 2; fun)); extract_lets +onlyGivenNames y)
    | with_reducible first | assumption | apply State.setF_same | apply State.modCl_same

theorem State.wake_same {A : Aspect → Prop} {s0 s : State} {c : _} (h : Same A s0 s) :
    Same A s0 (State.wake s c) := by
  unfold State.wake
  repeat' first
    | ((fail_if_success (conv => arg 2; fun)); extract_lets +onlyGivenNames y)
    | with_reducible first | assumption | apply State.setF_same | apply State.modCl_same

theorem State.wakeWith_same {A : Aspect → Prop} {s0 s : State} {c dst v : _} (h : Same A s0 s) :
    Same A s0 (State.wakeWith s c dst v) := by
  unfold State.wakeWith
  repeat' first
    | ((fail_if_success (conv => arg 2; fun)); extract_lets +onlyGivenNames y)
    | with_reducible first | assumption | apply State.setSreg_same | apply State.wake_same

theorem State.issue_same {A : Aspect → Prop} {s0 s : State} {c f : _} (h : Same A s0 s) (hf : ∀ t w1, Same A s0 t → Same A s0 (f t w1)) :
    Same A s0 (State.issue s c f) := by
  unfold State.issue
  repeat' first
    | with_reducible first | assumption | apply State.steep_same | apply hf
    | split

theorem State.closeGate_same {A : Aspect → Prop} {s0 s : State} {c keepStore : _} (h : Same A s0 s) :
    Same A s0 (State.closeGate s c keepStore) := by
  unfold State.closeGate
  repeat' first
    | ((fail_if_success (conv => arg 2; fun)); extract_lets +onlyGivenNames y; clear_value (e : y = _); refine Same.letVar (A := A) (s0 := s0) e ?_ fun _ => ?_)
    | ((fail_if_success (conv => arg 2; fun)); extract_lets +onlyGivenNames y)
    | with_reducible first | assumption | apply State.setF_same | apply State.modCl_same | apply State.returnReserve_same | apply State.clearClu_same

theorem State.leaveSlice_same {A : Aspect → Prop} {s0 s : State} {c : _} (h : Same A s0 s) :
    Same A s0 (State.leaveSlice s c) := by
  unfold State.leaveSlice
  repeat' first
    | ((fail_if_success (conv => arg 2; fun)); extract_lets +onlyGivenNames y; clear_value (e : y = _); refine Same.letVar (A := A) (s0 := s0) e ?_ fun _ => ?_)
    | ((fail_if_success (conv => arg 2; fun)); extract_lets +onlyGivenNames y)
    | with_reducible first | assumption | apply State.modCl_same | apply State.closeGate_same
    | split

theorem State.stopSlices_same {A : Aspect → Prop} {s0 s : State} {p : _} (h : Same A s0 s) :
    Same A s0 (State.stopSlices s p) := by
  unfold State.stopSlices
  repeat' first
    | ((fail_if_success (conv => arg 2; fun)); extract_lets +onlyGivenNames y; clear_value (e : y = _); refine Same.letVar (A := A) (s0 := s0) e ?_ fun _ => ?_)
    | ((fail_if_success (conv => arg 2; fun)); extract_lets +onlyGivenNames y)
    | with_reducible first | assumption | apply State.leaveSlice_same | refine Same.foldl ?_ fun _ _ _ => ?_ | refine Same.record ?_ (fun _ => ⟨rfl, rfl⟩) (fun _ => rfl) (fun _ => rfl) (fun _ => rfl) fun _ => rfl

/-! ### GateOps -/

theorem State.setQueue_same {A : Aspect → Prop} {s0 s : State} {g q : _} (h : Same A s0 s) :
    Same A s0 (State.setQueue s g q) := by
  unfold State.setQueue
  repeat' first
    | ((fail_if_success (conv => arg 2; fun)); extract_lets +onlyGivenNames y)
    | with_reducible first | assumption | refine Same.record ?_ (fun _ => ⟨rfl, rfl⟩) (fun _ => rfl) (fun _ => rfl) (fun _ => rfl) fun _ => rfl

theorem State.setCount_same {A : Aspect → Prop} {s0 s : State} {g n : _} (h : Same A s0 s) :
    Same A s0 (State.setCount s g n) := by
  unfold State.setCount
  repeat' with_reducible first | assumption | apply State.setF_same

theorem State.gateErr_same {A : Aspect → Prop} {s0 s : State} {fld g module : _} (h : Same A s0 s) :
    Same A s0 (State.gateErr s fld g module) := by
  unfold State.gateErr
  repeat' first
    | ((fail_if_success (conv => arg 2; fun)); extract_lets +onlyGivenNames y)
    | with_reducible first | assumption | apply State.setF_same

theorem State.serveList_same {A : Aspect → Prop} {s0 s : State} {g z2 : _} (h : Same A s0 s) :
    Same A s0 (State.serveList s g z2) := by
  induction z2 generalizing s g with
  | nil =>
    unfold State.serveList
    repeat' first
      | ((fail_if_success (conv => arg 2; fun)); extract_lets +onlyGivenNames y; clear_value (e : y = _); refine Same.letVar (A := A) (s0 := s0) e ?_ fun _ => ?_)
      | ((fail_if_success (conv => arg 2; fun)); extract_lets +onlyGivenNames y)
      | with_reducible first | assumption | apply State.wakeWith_same | apply State.setQueue_same | apply State.setCount_same | apply ih
      | split
  | cons hd tl ih =>
    unfold State.serveList
    repeat' first
      | ((fail_if_success (conv => arg 2; fun)); extract_lets +onlyGivenNames y; clear_value (e : y = _); refine Same.letVar (A := A) (s0 := s0) e ?_ fun _ => ?_)
      | ((fail_if_success (conv => arg 2; fun)); extract_lets +onlyGivenNames y)
      | with_reducible first | assumption | apply State.wakeWith_same | apply State.setQueue_same | apply State.setCount_same | apply ih
      | split

theorem State.serveGate_same {A : Aspect → Prop} {s0 s : State} {g : _} (h : Same A s0 s) :
    Same A s0 (State.serveGate s g) := by
  unfold State.serveGate
  repeat' with_reducible first | assumption | apply State.serveList_same

theorem State.addCount_same {A : Aspect → Prop} {s0 s : State} {g inc : _} (h : Same A s0 s) :
    Same A s0 (State.addCount s g inc) := by
  unfold State.addCount
  repeat' first
    | ((fail_if_success (conv => arg 2; fun)); extract_lets +onlyGivenNames y)
    | with_reducible first | assumption | apply State.setF_same | apply State.setCount_same
    | split

theorem State.gateSignal_same {A : Aspect → Prop} {s0 s : State} {g inc : _} (h : Same A s0 s) :
    SameF A s0 (State.gateSignal s g inc) := by
  unfold State.gateSignal
  repeat' first
    | ((fail_if_success (conv => arg 2; fun)); extract_lets +onlyGivenNames y; clear_value (e : y = _); refine Same.letVar (A := A) (s0 := s0) e ?_ fun _ => ?_)
    | ((fail_if_success (conv => arg 2; fun)); extract_lets +onlyGivenNames y)
    | with_reducible first | assumption | apply State.gateErr_same | apply State.serveGate_same | apply State.addCount_same
    | split
    | with_reducible apply Same.mkF

theorem State.signalOne_same {A : Aspect → Prop} {s0 s : State} {g : _} (h : Same A s0 s) :
    Same A s0 (State.signalOne s g) := by
  unfold State.signalOne
  repeat' with_reducible first | assumption | refine Same.ofF (State.gateSignal_same ?_)

theorem State.setSlot_same {A : Aspect → Prop} {s0 s : State} {c x : _} (h : Same A s0 s) :
    Same A s0 (State.setSlot s c x) := by
  unfold State.setSlot
  repeat' with_reducible first | assumption | apply State.modCl_same

theorem State.countArrival_same {A : Aspect → Prop} {s0 s : State} {c g dst thenWait : _} (h : Same A s0 s) :
    Same A s0 (State.countArrival s c g dst thenWait) := by
  unfold State.countArrival
  repeat' first
    | ((fail_if_success (conv => arg 2; fun)); extract_lets +onlyGivenNames y; clear_value (e : y = _); refine Same.letVar (A := A) (s0 := s0) e ?_ fun _ => ?_)
    | ((fail_if_success (conv => arg 2; fun)); extract_lets +onlyGivenNames y)
    | with_reducible first | assumption | apply State.addWrap_same | apply State.steep_same | apply State.wakeWith_same | apply State.setCount_same | apply State.setSlot_same
    | split

theorem State.portFlip_same {A : Aspect → Prop} {s0 s : State} {g c : _} (h : Same A s0 s) :
    Same A s0 (State.portFlip s g c) := by
  unfold State.portFlip
  repeat' first
    | ((fail_if_success (conv => arg 2; fun)); extract_lets +onlyGivenNames y; clear_value (e : y = _); refine Same.letVar (A := A) (s0 := s0) e ?_ fun _ => ?_)
    | ((fail_if_success (conv => arg 2; fun)); extract_lets +onlyGivenNames y)
    | with_reducible first | assumption | apply State.steep_same | apply State.wakeWith_same | apply State.setSlot_same
    | split

theorem State.flipGate_same {A : Aspect → Prop} {s0 s : State} {g : _} (h : Same A s0 s) :
    Same A s0 (State.flipGate s g) := by
  unfold State.flipGate
  repeat' first
    | ((fail_if_success (conv => arg 2; fun)); extract_lets +onlyGivenNames y; clear_value (e : y = _); refine Same.letVar (A := A) (s0 := s0) e ?_ fun _ => ?_)
    | ((fail_if_success (conv => arg 2; fun)); extract_lets +onlyGivenNames y)
    | with_reducible first | assumption | apply State.setF_same | apply State.setFlag_same | apply State.setCount_same | apply State.portFlip_same | refine Same.foldl ?_ fun _ _ _ => ?_
    | with_reducible (refine Same.record ?_ (fun _ => ⟨rfl, rfl⟩) (fun _ => rfl) (fun _ => rfl) (fun _ => rfl) fun _ => rfl; first | assumption | apply State.setF_same | apply State.setFlag_same | apply State.setCount_same | apply State.portFlip_same | refine Same.foldl ?_ fun _ _ _ => ?_)
    | split

theorem State.barrierRun_same {A : Aspect → Prop} {s0 s : State} {z0 z2 : _} (h : Same A s0 s) :
    Same A s0 (State.barrierRun z0 s z2) := by
  induction z0 generalizing s z2 with
  | zero =>
    unfold State.barrierRun
    exact h
  | succ n ih =>
    cases z2 with
    | nil =>
      unfold State.barrierRun
      exact h
    | cons x t =>
      cases x with
      | arrive c g d w =>
        unfold State.barrierRun
        dsimp only
        split
        · exact ih (State.steep_same h)
        · exact ih (State.countArrival_same h)
      | flip g =>
        unfold State.barrierRun
        exact ih (State.flipGate_same h)

theorem State.barrier_same {A : Aspect → Prop} {s0 s : State} {op : _} (h : Same A s0 s) :
    Same A s0 (State.barrier s op) := by
  unfold State.barrier
  repeat' with_reducible first | assumption | apply State.barrierRun_same

theorem State.resetPort_same {A : Aspect → Prop} {s0 s : State} {g st c : _} (h : Same A s0 s) :
    Same A s0 (State.resetPort s g st c) := by
  unfold State.resetPort
  repeat' first
    | ((fail_if_success (conv => arg 2; fun)); extract_lets +onlyGivenNames y; clear_value (e : y = _); refine Same.letVar (A := A) (s0 := s0) e ?_ fun _ => ?_)
    | ((fail_if_success (conv => arg 2; fun)); extract_lets +onlyGivenNames y)
    | with_reducible first | assumption | apply State.modCl_same | apply State.wakeWith_same
    | split

theorem State.resetGate_same {A : Aspect → Prop} {s0 s : State} {g st : _} (h : Same A s0 s) :
    Same A s0 (State.resetGate s g st) := by
  unfold State.resetGate
  repeat' first
    | ((fail_if_success (conv => arg 2; fun)); extract_lets +onlyGivenNames y; clear_value (e : y = _); refine Same.letVar (A := A) (s0 := s0) e ?_ fun _ => ?_)
    | ((fail_if_success (conv => arg 2; fun)); extract_lets +onlyGivenNames y)
    | with_reducible first | assumption | apply State.setF_same | apply State.setQueue_same | apply State.setCount_same | apply State.barrierRun_same | apply State.resetPort_same | refine Same.foldl ?_ fun _ _ _ => ?_ | refine Same.record ?_ (fun _ => ⟨rfl, rfl⟩) (fun _ => rfl) (fun _ => rfl) (fun _ => rfl) fun _ => rfl

/-! ### StopOps -/

theorem State.returnToken_same {A : Aspect → Prop} {s0 s : State} {t1 : _} (h : Same A s0 s) :
    Same A s0 (State.returnToken s t1) := by
  unfold State.returnToken
  repeat' with_reducible first | assumption | apply State.modRing_same

theorem State.commitPost_same {A : Aspect → Prop} {s0 s : State} {r n failed : _} (h : Same A s0 s) :
    Same A s0 (State.commitPost s r n failed) := by
  unfold State.commitPost
  repeat' with_reducible first | assumption | apply State.modRing_same

theorem State.complete_same {A : Aspect → Prop} {s0 s : State} {c t2 status abort : _} (h : Same A s0 s) :
    Same A s0 (State.complete s c t2 status abort) := by
  unfold State.complete
  repeat' first
    | ((fail_if_success (conv => arg 2; fun)); extract_lets +onlyGivenNames y)
    | with_reducible first | assumption | refine Same.record ?_ (fun _ => ⟨rfl, rfl⟩) (fun _ => rfl) (fun _ => rfl) (fun _ => rfl) fun _ => rfl

theorem State.endCurrent_same {A : Aspect → Prop} {s0 s : State} {c status : _} (h : Same A s0 s) :
    Same A s0 (State.endCurrent s c status) := by
  unfold State.endCurrent
  repeat' first
    | ((fail_if_success (conv => arg 2; fun)); extract_lets +onlyGivenNames y)
    | with_reducible first | assumption | apply State.modCl_same | apply State.complete_same
    | split

theorem State.leaveWaits_same {A : Aspect → Prop} {s0 s : State} {c : _} (h : Same A s0 s) :
    Same A s0 (State.leaveWaits s c) := by
  unfold State.leaveWaits
  repeat' first
    | ((fail_if_success (conv => arg 2; fun)); extract_lets +onlyGivenNames y; clear_value (e : y = _); refine Same.letVar (A := A) (s0 := s0) e ?_ fun _ => ?_)
    | ((fail_if_success (conv => arg 2; fun)); extract_lets +onlyGivenNames y; clear_value y)
    | with_reducible first | assumption | apply State.modCl_same | apply State.wake_same | apply State.setQueue_same | apply State.serveGate_same
    | with_reducible (refine Same.record ?_ (fun _ => ⟨rfl, rfl⟩) (fun _ => rfl) (fun _ => rfl) (fun _ => rfl) fun _ => rfl; first | assumption | apply State.modCl_same | apply State.wake_same | apply State.setQueue_same | apply State.serveGate_same)
    | split

theorem State.countUe_same {A : Aspect → Prop} {s0 s : State} {c f : _} (h : Same A s0 s) :
    Same A s0 (State.countUe s c f) := by
  unfold State.countUe
  repeat' first
    | with_reducible first | assumption | apply State.modCl_same
    | split

theorem State.faultStop_same {A : Aspect → Prop} {s0 s : State} {c f : _} (h : Same A s0 s) :
    Same A s0 (State.faultStop s c f) := by
  unfold State.faultStop
  repeat' first
    | ((fail_if_success (conv => arg 2; fun)); extract_lets +onlyGivenNames y; clear_value (e : y = _); refine Same.letVar (A := A) (s0 := s0) e ?_ fun _ => ?_)
    | ((fail_if_success (conv => arg 2; fun)); extract_lets +onlyGivenNames y)
    | with_reducible first | assumption | apply State.setF_same | apply State.returnReserve_same | apply State.stopSlices_same | apply State.endCurrent_same | apply State.leaveWaits_same | apply State.countUe_same

theorem State.abortCluster_same {A : Aspect → Prop} {s0 s : State} {c status : _} (h : Same A s0 s) :
    Same A s0 (State.abortCluster s c status) := by
  unfold State.abortCluster
  repeat' first
    | ((fail_if_success (conv => arg 2; fun)); extract_lets +onlyGivenNames y; clear_value (e : y = _); refine Same.letVar (A := A) (s0 := s0) e ?_ fun _ => ?_)
    | ((fail_if_success (conv => arg 2; fun)); extract_lets +onlyGivenNames y)
    | with_reducible first | assumption | refine Same.ofG (State.fresh_same ?_) | apply State.modCl_same | apply State.commitPost_same | apply State.endCurrent_same | apply State.leaveWaits_same | refine Same.foldl ?_ fun _ _ _ => ?_

/-! ### WiqOps -/

theorem State.ringEvent_same {A : Aspect → Prop} {s0 s : State} {r : _} (h : Same A s0 s) :
    Same A s0 (State.ringEvent s r) := by
  unfold State.ringEvent
  repeat' first
    | ((fail_if_success (conv => arg 2; fun)); extract_lets +onlyGivenNames y; clear_value (e : y = _); refine Same.letVar (A := A) (s0 := s0) e ?_ fun _ => ?_)
    | ((fail_if_success (conv => arg 2; fun)); extract_lets +onlyGivenNames y)
    | with_reducible first | assumption | apply State.setBit_same | apply State.post_same

theorem State.markDone_same {A : Aspect → Prop} {s0 s : State} {r seq : _} (h : Same A s0 s) :
    Same A s0 (State.markDone s r seq) := by
  unfold State.markDone
  repeat' first
    | ((fail_if_success (conv => arg 2; fun)); extract_lets +onlyGivenNames y; clear_value (e : y = _); refine Same.letVar (A := A) (s0 := s0) e ?_ fun _ => ?_)
    | ((fail_if_success (conv => arg 2; fun)); extract_lets +onlyGivenNames y)
    | with_reducible first | assumption | apply State.setF_same | apply State.addWrap_same | apply State.modRing_same

theorem State.writeRecord_same {A : Aspect → Prop} (nM : ¬A .mem) {s0 s : State} {r seq status cluster tag irq gate : _} (h : Same A s0 s) :
    Same A s0 (State.writeRecord s r seq status cluster tag irq gate) := by
  unfold State.writeRecord
  repeat' first
    | ((fail_if_success (conv => arg 2; fun)); extract_lets +onlyGivenNames y; clear_value (e : y = _); refine Same.letVar (A := A) (s0 := s0) e ?_ fun _ => ?_)
    | ((fail_if_success (conv => arg 2; fun)); extract_lets +onlyGivenNames y)
    | with_reducible first | assumption | apply State.setBit_same | apply State.raiseIrq_same | apply State.hostWrite_same | refine Same.ofF (State.memWrite_same nM ?_) | apply State.signalOne_same | apply State.markDone_same
    | split

theorem State.writeErrorRecord_same {A : Aspect → Prop} (nM : ¬A .mem) {s0 s : State} {r seq : _} (h : Same A s0 s) :
    Same A s0 (State.writeErrorRecord s r seq) := by
  unfold State.writeErrorRecord
  repeat' first
    | ((fail_if_success (conv => arg 2; fun)); extract_lets +onlyGivenNames y)
    | with_reducible first | assumption | refine Same.ofG (State.fresh_same ?_) | apply State.writeRecord_same nM

theorem State.writeUnheld_same {A : Aspect → Prop} (nM : ¬A .mem) {s0 s : State} {r seq status : _} (h : Same A s0 s) :
    Same A s0 (State.writeUnheld s r seq status) := by
  unfold State.writeUnheld
  repeat' first
    | ((fail_if_success (conv => arg 2; fun)); extract_lets +onlyGivenNames y; clear_value (e : y = _); refine Same.letF (A := A) (s0 := s0) e ?_ fun _ => ?_)
    | ((fail_if_success (conv => arg 2; fun)); extract_lets +onlyGivenNames y; clear_value (e : y = _); refine Same.letG (A := A) (s0 := s0) e ?_ fun _ => ?_)
    | ((fail_if_success (conv => arg 2; fun)); extract_lets +onlyGivenNames y)
    | with_reducible first | assumption | apply State.fresh_same | apply State.memRead_same nM | apply State.writeRecord_same nM | exact Same.ofF (by assumption) | exact Same.ofG (by assumption)
    | split

theorem State.passNext_same {A : Aspect → Prop} {s0 s : State} {r : _} (h : Same A s0 s) :
    Same A s0 (State.passNext s r) := by
  unfold State.passNext
  repeat' first
    | ((fail_if_success (conv => arg 2; fun)); extract_lets +onlyGivenNames y)
    | with_reducible first | assumption | apply State.addWrap_same | apply State.modRing_same
    | split

theorem State.passUnread_same {A : Aspect → Prop} (nM : ¬A .mem) {s0 s : State} {r n : _} (h : Same A s0 s) :
    SameO A s0 (State.passUnread s r n) := by
  unfold State.passUnread
  repeat' first
    | ((fail_if_success (conv => arg 2; fun)); extract_lets +onlyGivenNames y)
    | with_reducible first | assumption | apply State.modRing_same | apply State.writeErrorRecord_same nM | apply State.passNext_same | apply Same.someO | apply Same.noneO
    | split

theorem State.handOut_same {A : Aspect → Prop} (nM : ¬A .mem) {s0 s : State} {z0 z2 z3 : _} (h : Same A s0 s) :
    SameF A s0 (State.handOut z0 s z2 z3) := by
  induction z0 generalizing s z2 z3 with
  | zero =>
    unfold State.handOut
    repeat' first
      | ((fail_if_success (conv => arg 2; fun)); extract_lets +onlyGivenNames y; clear_value (e : y = _); refine Same.letF (A := A) (s0 := s0) e ?_ fun _ => ?_)
      | ((fail_if_success (conv => arg 2; fun)); extract_lets +onlyGivenNames y)
      | with_reducible first | assumption | apply State.memRead_same nM | apply State.writeRecord_same nM | apply State.writeErrorRecord_same nM | apply State.passNext_same | apply State.passUnread_same nM | exact Same.ofF (by assumption) | apply ih | refine Same.eqO (by assumption) ?_
      | with_reducible (refine Same.record ?_ (fun _ => ⟨rfl, rfl⟩) (fun _ => rfl) (fun _ => rfl) (fun _ => rfl) fun _ => rfl; first | assumption | apply State.memRead_same nM | apply State.writeRecord_same nM | apply State.writeErrorRecord_same nM | apply State.passNext_same | apply State.passUnread_same nM | exact Same.ofF (by assumption) | apply ih | refine Same.eqO (by assumption) ?_)
      | split
      | with_reducible apply Same.mkF
  | succ n ih =>
    unfold State.handOut
    repeat' first
      | ((fail_if_success (conv => arg 2; fun)); extract_lets +onlyGivenNames y; clear_value (e : y = _); refine Same.letF (A := A) (s0 := s0) e ?_ fun _ => ?_)
      | ((fail_if_success (conv => arg 2; fun)); extract_lets +onlyGivenNames y)
      | with_reducible first | assumption | apply State.memRead_same nM | apply State.writeRecord_same nM | apply State.writeErrorRecord_same nM | apply State.passNext_same | apply State.passUnread_same nM | exact Same.ofF (by assumption) | apply ih | refine Same.eqO (by assumption) ?_
      | with_reducible (refine Same.record ?_ (fun _ => ⟨rfl, rfl⟩) (fun _ => rfl) (fun _ => rfl) (fun _ => rfl) fun _ => rfl; first | assumption | apply State.memRead_same nM | apply State.writeRecord_same nM | apply State.writeErrorRecord_same nM | apply State.passNext_same | apply State.passUnread_same nM | exact Same.ofF (by assumption) | apply ih | refine Same.eqO (by assumption) ?_)
      | split
      | with_reducible apply Same.mkF

theorem State.nextDescriptor_same {A : Aspect → Prop} (nM : ¬A .mem) {s0 s : State} {r ecc : _} (h : Same A s0 s) :
    SameF A s0 (State.nextDescriptor s r ecc) := by
  unfold State.nextDescriptor
  repeat' with_reducible first | assumption | apply State.handOut_same nM

theorem State.deliver_same {A : Aspect → Prop} {s0 s : State} {c r dst landing h5 : _} (h : Same A s0 s) :
    Same A s0 (State.deliver s c r dst landing h5) := by
  unfold State.deliver
  repeat' first
    | ((fail_if_success (conv => arg 2; fun)); extract_lets +onlyGivenNames y; clear_value (e : y = _); refine Same.letVar (A := A) (s0 := s0) e ?_ fun _ => ?_)
    | ((fail_if_success (conv => arg 2; fun)); extract_lets +onlyGivenNames y)
    | with_reducible first | assumption | apply State.modCl_same | apply State.putStore_same | apply State.wakeWith_same

theorem State.claimEmpty_same {A : Aspect → Prop} {s0 s : State} {c r dst landing limit denied : _} (h : Same A s0 s) :
    Same A s0 (State.claimEmpty s c r dst landing limit denied) := by
  unfold State.claimEmpty
  repeat' first
    | ((fail_if_success (conv => arg 2; fun)); extract_lets +onlyGivenNames y)
    | with_reducible first | assumption | refine Same.ofG (State.fresh_same ?_) | refine Same.ofG (State.freshBytes_same ?_) | apply State.putStore_same | apply State.wakeWith_same

theorem State.releaseClaims_same {A : Aspect → Prop} {s0 s : State} {r : _} (h : Same A s0 s) :
    Same A s0 (State.releaseClaims s r) := by
  unfold State.releaseClaims
  repeat' first
    | ((fail_if_success (conv => arg 2; fun)); extract_lets +onlyGivenNames y; clear_value (e : y = _); refine Same.letVar (A := A) (s0 := s0) e ?_ fun _ => ?_)
    | ((fail_if_success (conv => arg 2; fun)); extract_lets +onlyGivenNames y)
    | with_reducible first | assumption | apply State.modRing_same | apply State.claimEmpty_same | refine Same.foldl ?_ fun _ _ _ => ?_

theorem State.claimStop_same {A : Aspect → Prop} {s0 s : State} (h : Same A s0 s) :
    Same A s0 (State.claimStop s) := by
  unfold State.claimStop
  repeat' first
    | ((fail_if_success (conv => arg 2; fun)); extract_lets +onlyGivenNames y; clear_value (e : y = _); refine Same.letVar (A := A) (s0 := s0) e ?_ fun _ => ?_)
    | ((fail_if_success (conv => arg 2; fun)); extract_lets +onlyGivenNames y)
    | with_reducible first | assumption | apply State.setF_same | apply State.releaseClaims_same | refine Same.foldl ?_ fun _ _ _ => ?_

theorem State.cancelCheck_same {A : Aspect → Prop} {s0 s : State} {r : _} (h : Same A s0 s) :
    Same A s0 (State.cancelCheck s r) := by
  unfold State.cancelCheck
  repeat' first
    | ((fail_if_success (conv => arg 2; fun)); extract_lets +onlyGivenNames y; clear_value (e : y = _); refine Same.letVar (A := A) (s0 := s0) e ?_ fun _ => ?_)
    | ((fail_if_success (conv => arg 2; fun)); extract_lets +onlyGivenNames y)
    | with_reducible first | assumption | apply State.setF_same | apply State.ringEvent_same
    | split

theorem State.settleFailed_same {A : Aspect → Prop} (nM : ¬A .mem) {s0 s : State} {r : _} (h : Same A s0 s) :
    Same A s0 (State.settleFailed s r) := by
  unfold State.settleFailed
  repeat' first
    | ((fail_if_success (conv => arg 2; fun)); extract_lets +onlyGivenNames y)
    | with_reducible first | assumption | apply State.modRing_same | apply State.writeErrorRecord_same nM | refine Same.foldl ?_ fun _ _ _ => ?_

theorem State.reservePost_same {A : Aspect → Prop} {s0 s : State} {r : _} (h : Same A s0 s) :
    SameP A s0 (State.reservePost s r) := by
  unfold State.reservePost
  repeat' first
    | ((fail_if_success (conv => arg 2; fun)); extract_lets +onlyGivenNames y)
    | with_reducible first | assumption | apply State.modRing_same | apply Same.someP | apply Same.noneP
    | split

/-! ### DmaOps -/

theorem State.acceptDma_same {A : Aspect → Prop} {s0 s : State} {c a ecc : _} (h : Same A s0 s) :
    Same A s0 (State.acceptDma s c a ecc) := by
  unfold State.acceptDma
  repeat' first
    | ((fail_if_success (conv => arg 2; fun)); extract_lets +onlyGivenNames y)
    | with_reducible first | assumption | apply State.modCl_same | apply State.putStore_same | apply State.storeRead_same | apply State.faultStop_same | apply State.reservePost_same | refine Same.eqF (by assumption) ?_ | refine Same.eqP (by assumption) ?_
    | with_reducible (refine Same.record ?_ (fun _ => ⟨rfl, rfl⟩) (fun _ => rfl) (fun _ => rfl) (fun _ => rfl) fun _ => rfl; first | assumption | apply State.modCl_same | apply State.putStore_same | apply State.storeRead_same | apply State.faultStop_same | apply State.reservePost_same | refine Same.eqF (by assumption) ?_ | refine Same.eqP (by assumption) ?_)
    | split

theorem State.countGroup_same {A : Aspect → Prop} {s0 s : State} {pa bad sat : _} (h : Same A s0 s) :
    Same A s0 (State.countGroup s pa bad sat) := by
  unfold State.countGroup
  repeat' first
    | ((fail_if_success (conv => arg 2; fun)); extract_lets +onlyGivenNames y; clear_value (e : y = _); refine Same.letVar (A := A) (s0 := s0) e ?_ fun _ => ?_)
    | ((fail_if_success (conv => arg 2; fun)); extract_lets +onlyGivenNames y)
    | with_reducible first | assumption | apply State.addSat_same | apply State.add64_same

theorem State.millRun_same {A : Aspect → Prop} {s0 s : State} {z0 z2 z3 z4 z5 : _} (h : Same A s0 s) :
    SameF A s0 (State.millRun z0 s z2 z3 z4 z5) := by
  induction z0 generalizing s z2 z3 z4 z5 with
  | zero =>
    unfold State.millRun
    repeat' first
      | ((fail_if_success (conv => arg 2; fun)); extract_lets +onlyGivenNames y; clear_value (e : y = _); refine Same.letVar (A := A) (s0 := s0) e ?_ fun _ => ?_)
      | ((fail_if_success (conv => arg 2; fun)); extract_lets +onlyGivenNames y)
      | with_reducible first | assumption | apply State.countGroup_same | apply ih | refine Same.eqF (by assumption) ?_
      | with_reducible (refine Same.record ?_ (fun _ => ⟨rfl, rfl⟩) (fun _ => rfl) (fun _ => rfl) (fun _ => rfl) fun _ => rfl; first | assumption | apply State.countGroup_same | apply ih | refine Same.eqF (by assumption) ?_)
      | split
      | with_reducible apply Same.mkF
  | succ n ih =>
    unfold State.millRun
    repeat' first
      | ((fail_if_success (conv => arg 2; fun)); extract_lets +onlyGivenNames y; clear_value (e : y = _); refine Same.letVar (A := A) (s0 := s0) e ?_ fun _ => ?_)
      | ((fail_if_success (conv => arg 2; fun)); extract_lets +onlyGivenNames y)
      | with_reducible first | assumption | apply State.countGroup_same | apply ih | refine Same.eqF (by assumption) ?_
      | with_reducible (refine Same.record ?_ (fun _ => ⟨rfl, rfl⟩) (fun _ => rfl) (fun _ => rfl) (fun _ => rfl) fun _ => rfl; first | assumption | apply State.countGroup_same | apply ih | refine Same.eqF (by assumption) ?_)
      | split
      | with_reducible apply Same.mkF

theorem State.takeChan_same {A : Aspect → Prop} {s0 s : State} {c got key : _} (h : Same A s0 s) :
    SameF A s0 (State.takeChan s c got key) := by
  unfold State.takeChan
  repeat' first
    | ((fail_if_success (conv => arg 2; fun)); extract_lets +onlyGivenNames y)
    | with_reducible first | assumption | apply State.modCl_same
    | with_reducible (refine Same.record ?_ (fun _ => ⟨rfl, rfl⟩) (fun _ => rfl) (fun _ => rfl) (fun _ => rfl) fun _ => rfl; first | assumption | apply State.modCl_same)
    | split
    | with_reducible apply Same.mkF

theorem State.takeChans_same {A : Aspect → Prop} {s0 s : State} {c z2 z3 : _} (h : Same A s0 s) :
    SameF A s0 (State.takeChans s c z2 z3) := by
  induction z2 generalizing s c z3 with
  | nil =>
    unfold State.takeChans
    repeat' first
      | ((fail_if_success (conv => arg 2; fun)); extract_lets +onlyGivenNames y)
      | with_reducible first | assumption | apply State.modCl_same | apply State.takeChan_same | apply ih | refine Same.eqF (by assumption) ?_
      | with_reducible (refine Same.record ?_ (fun _ => ⟨rfl, rfl⟩) (fun _ => rfl) (fun _ => rfl) (fun _ => rfl) fun _ => rfl; first | assumption | apply State.modCl_same | apply State.takeChan_same | apply ih | refine Same.eqF (by assumption) ?_)
      | split
      | with_reducible apply Same.mkF
  | cons hd tl ih =>
    unfold State.takeChans
    repeat' first
      | ((fail_if_success (conv => arg 2; fun)); extract_lets +onlyGivenNames y)
      | with_reducible first | assumption | apply State.modCl_same | apply State.takeChan_same | apply ih | refine Same.eqF (by assumption) ?_
      | with_reducible (refine Same.record ?_ (fun _ => ⟨rfl, rfl⟩) (fun _ => rfl) (fun _ => rfl) (fun _ => rfl) fun _ => rfl; first | assumption | apply State.modCl_same | apply State.takeChan_same | apply ih | refine Same.eqF (by assumption) ?_)
      | split
      | with_reducible apply Same.mkF

theorem State.grantChan_same {A : Aspect → Prop} {s0 s : State} {key z2 : _} (h : Same A s0 s) :
    Same A s0 (State.grantChan s key z2) := by
  induction z2 generalizing s key with
  | nil =>
    unfold State.grantChan
    repeat' first
      | ((fail_if_success (conv => arg 2; fun)); extract_lets +onlyGivenNames y; clear_value (e : y = _); refine Same.letVar (A := A) (s0 := s0) e ?_ fun _ => ?_)
      | ((fail_if_success (conv => arg 2; fun)); extract_lets +onlyGivenNames y)
      | with_reducible first | assumption | apply State.modCl_same | apply ih
      | with_reducible (refine Same.record ?_ (fun _ => ⟨rfl, rfl⟩) (fun _ => rfl) (fun _ => rfl) (fun _ => rfl) fun _ => rfl; first | assumption | apply State.modCl_same | apply ih)
      | split
  | cons hd tl ih =>
    unfold State.grantChan
    repeat' first
      | ((fail_if_success (conv => arg 2; fun)); extract_lets +onlyGivenNames y; clear_value (e : y = _); refine Same.letVar (A := A) (s0 := s0) e ?_ fun _ => ?_)
      | ((fail_if_success (conv => arg 2; fun)); extract_lets +onlyGivenNames y)
      | with_reducible first | assumption | apply State.modCl_same | apply ih
      | with_reducible (refine Same.record ?_ (fun _ => ⟨rfl, rfl⟩) (fun _ => rfl) (fun _ => rfl) (fun _ => rfl) fun _ => rfl; first | assumption | apply State.modCl_same | apply ih)
      | split

theorem State.returnChan_same {A : Aspect → Prop} {s0 s : State} {key : _} (h : Same A s0 s) :
    Same A s0 (State.returnChan s key) := by
  unfold State.returnChan
  repeat' with_reducible first | assumption | apply State.grantChan_same

theorem State.returnChans_same {A : Aspect → Prop} {s0 s : State} {l : _} (h : Same A s0 s) :
    Same A s0 (State.returnChans s l) := by
  unfold State.returnChans
  repeat' first
    | ((fail_if_success (conv => arg 2; fun)); extract_lets +onlyGivenNames y)
    | with_reducible first | assumption | apply State.returnChan_same | refine Same.foldl ?_ fun _ _ _ => ?_

theorem State.takeLink_same {A : Aspect → Prop} {s0 s : State} {c port : _} (h : Same A s0 s) :
    SameF A s0 (State.takeLink s c port) := by
  unfold State.takeLink
  repeat' first
    | ((fail_if_success (conv => arg 2; fun)); extract_lets +onlyGivenNames y)
    | with_reducible first | assumption | apply State.setCredits_same | apply State.modCl_same
    | with_reducible (refine Same.record ?_ (fun _ => ⟨rfl, rfl⟩) (fun _ => rfl) (fun _ => rfl) (fun _ => rfl) fun _ => rfl; first | assumption | apply State.setCredits_same | apply State.modCl_same)
    | split
    | with_reducible apply Same.mkF

theorem State.grantLinks_same {A : Aspect → Prop} {s0 s : State} {z0 z2 : _} (h : Same A s0 s) :
    Same A s0 (State.grantLinks z0 s z2) := by
  induction z0 generalizing s z2 with
  | zero =>
    unfold State.grantLinks
    repeat' first
      | ((fail_if_success (conv => arg 2; fun)); extract_lets +onlyGivenNames y; clear_value (e : y = _); refine Same.letVar (A := A) (s0 := s0) e ?_ fun _ => ?_)
      | ((fail_if_success (conv => arg 2; fun)); extract_lets +onlyGivenNames y)
      | with_reducible first | assumption | apply State.setCredits_same | apply State.modCl_same | apply ih
      | with_reducible (refine Same.record ?_ (fun _ => ⟨rfl, rfl⟩) (fun _ => rfl) (fun _ => rfl) (fun _ => rfl) fun _ => rfl; first | assumption | apply State.setCredits_same | apply State.modCl_same | apply ih)
      | split
  | succ n ih =>
    unfold State.grantLinks
    repeat' first
      | ((fail_if_success (conv => arg 2; fun)); extract_lets +onlyGivenNames y; clear_value (e : y = _); refine Same.letVar (A := A) (s0 := s0) e ?_ fun _ => ?_)
      | ((fail_if_success (conv => arg 2; fun)); extract_lets +onlyGivenNames y)
      | with_reducible first | assumption | apply State.setCredits_same | apply State.modCl_same | apply ih
      | with_reducible (refine Same.record ?_ (fun _ => ⟨rfl, rfl⟩) (fun _ => rfl) (fun _ => rfl) (fun _ => rfl) fun _ => rfl; first | assumption | apply State.setCredits_same | apply State.modCl_same | apply ih)
      | split

theorem State.returnLinks_same {A : Aspect → Prop} {s0 s : State} {port n : _} (h : Same A s0 s) :
    Same A s0 (State.returnLinks s port n) := by
  unfold State.returnLinks
  repeat' first
    | ((fail_if_success (conv => arg 2; fun)); extract_lets +onlyGivenNames y; clear_value (e : y = _); refine Same.letVar (A := A) (s0 := s0) e ?_ fun _ => ?_)
    | ((fail_if_success (conv => arg 2; fun)); extract_lets +onlyGivenNames y)
    | with_reducible first | assumption | apply State.setCredits_same | apply State.sendWaiting_same | apply State.grantLinks_same

theorem State.modDma_same {A : Aspect → Prop} {s0 s : State} {c j f : _} (h : Same A s0 s) :
    Same A s0 (State.modDma s c j f) := by
  unfold State.modDma
  repeat' with_reducible first | assumption | apply State.modCl_same

theorem State.failDma_same {A : Aspect → Prop} {s0 s : State} {c j st : _} (h : Same A s0 s) :
    Same A s0 (State.failDma s c j st) := by
  unfold State.failDma
  repeat' first
    | ((fail_if_success (conv => arg 2; fun)); extract_lets +onlyGivenNames y; clear_value (e : y = _); refine Same.letVar (A := A) (s0 := s0) e ?_ fun _ => ?_)
    | ((fail_if_success (conv => arg 2; fun)); extract_lets +onlyGivenNames y)
    | with_reducible first | assumption | apply State.commitPost_same | apply State.modDma_same
    | split

theorem State.dmaWaits_same {A : Aspect → Prop} {s0 s : State} {c j n : _} (h : Same A s0 s) :
    Same A s0 (State.dmaWaits s c j n) := by
  unfold State.dmaWaits
  repeat' first
    | ((fail_if_success (conv => arg 2; fun)); extract_lets +onlyGivenNames y; clear_value (e : y = _); refine Same.letVar (A := A) (s0 := s0) e ?_ fun _ => ?_)
    | ((fail_if_success (conv => arg 2; fun)); extract_lets +onlyGivenNames y)
    | with_reducible first | assumption | apply State.setF_same | apply State.modDma_same
    | split

theorem State.burstIssued_same {A : Aspect → Prop} {s0 s : State} {c j : _} (h : Same A s0 s) :
    Same A s0 (State.burstIssued s c j) := by
  unfold State.burstIssued
  repeat' first
    | ((fail_if_success (conv => arg 2; fun)); extract_lets +onlyGivenNames y)
    | with_reducible first | assumption | apply State.modDma_same | apply State.dmaWaits_same

theorem State.addPiece_same {A : Aspect → Prop} {s0 s : State} {c j p : _} (h : Same A s0 s) :
    Same A s0 (State.addPiece s c j p) := by
  unfold State.addPiece
  repeat' with_reducible first | assumption | apply State.modDma_same

theorem State.setPiece_same {A : Aspect → Prop} {s0 s : State} {c j i p : _} (h : Same A s0 s) :
    Same A s0 (State.setPiece s c j i p) := by
  unfold State.setPiece
  repeat' with_reducible first | assumption | apply State.modDma_same

theorem State.dropPiece_same {A : Aspect → Prop} {s0 s : State} {c j i : _} (h : Same A s0 s) :
    Same A s0 (State.dropPiece s c j i) := by
  unfold State.dropPiece
  repeat' with_reducible first | assumption | apply State.modDma_same

theorem State.endPiece_same {A : Aspect → Prop} {s0 s : State} {c j i p : _} (h : Same A s0 s) :
    Same A s0 (State.endPiece s c j i p) := by
  unfold State.endPiece
  repeat' first
    | ((fail_if_success (conv => arg 2; fun)); extract_lets +onlyGivenNames y)
    | with_reducible first | assumption | apply State.returnChans_same | apply State.dropPiece_same

theorem State.storeDeliver_same {A : Aspect → Prop} {s0 s : State} {add p a data ecc : _} (h : Same A s0 s) :
    SameF A s0 (State.storeDeliver s add p a data ecc) := by
  unfold State.storeDeliver
  repeat' first
    | ((fail_if_success (conv => arg 2; fun)); extract_lets +onlyGivenNames y)
    | with_reducible first | assumption | apply State.putStore_same | apply State.storeRead_same | refine Same.eqF (by assumption) ?_
    | with_reducible (refine Same.record ?_ (fun _ => ⟨rfl, rfl⟩) (fun _ => rfl) (fun _ => rfl) (fun _ => rfl) fun _ => rfl; first | assumption | apply State.putStore_same | apply State.storeRead_same | refine Same.eqF (by assumption) ?_)
    | split
    | with_reducible apply Same.mkF

theorem State.storeLines_same {A : Aspect → Prop} {s0 s : State} {c j add q a row ecc z8 : _} (h : Same A s0 s) :
    SameF A s0 (State.storeLines s c j add q a row ecc z8) := by
  induction z8 generalizing s c j add q a row ecc with
  | nil =>
    unfold State.storeLines
    repeat' first
      | ((fail_if_success (conv => arg 2; fun)); extract_lets +onlyGivenNames y; clear_value (e : y = _); refine Same.letVar (A := A) (s0 := s0) e ?_ fun _ => ?_)
      | ((fail_if_success (conv => arg 2; fun)); extract_lets +onlyGivenNames y)
      | with_reducible first | assumption | apply State.modDma_same | apply State.storeDeliver_same | apply ih | refine Same.eqF (by assumption) ?_
      | with_reducible (refine Same.record ?_ (fun _ => ⟨rfl, rfl⟩) (fun _ => rfl) (fun _ => rfl) (fun _ => rfl) fun _ => rfl; first | assumption | apply State.modDma_same | apply State.storeDeliver_same | apply ih | refine Same.eqF (by assumption) ?_)
      | split
      | with_reducible apply Same.mkF
  | cons hd tl ih =>
    unfold State.storeLines
    repeat' first
      | ((fail_if_success (conv => arg 2; fun)); extract_lets +onlyGivenNames y; clear_value (e : y = _); refine Same.letVar (A := A) (s0 := s0) e ?_ fun _ => ?_)
      | ((fail_if_success (conv => arg 2; fun)); extract_lets +onlyGivenNames y)
      | with_reducible first | assumption | apply State.modDma_same | apply State.storeDeliver_same | apply ih | refine Same.eqF (by assumption) ?_
      | with_reducible (refine Same.record ?_ (fun _ => ⟨rfl, rfl⟩) (fun _ => rfl) (fun _ => rfl) (fun _ => rfl) fun _ => rfl; first | assumption | apply State.modDma_same | apply State.storeDeliver_same | apply ih | refine Same.eqF (by assumption) ?_)
      | split
      | with_reducible apply Same.mkF

theorem State.pieceToMem_same {A : Aspect → Prop} (nM : ¬A .mem) {s0 s : State} {c j i p a mecc : _} (h : Same A s0 s) :
    Same A s0 (State.pieceToMem s c j i p a mecc) := by
  unfold State.pieceToMem
  repeat' first
    | ((fail_if_success (conv => arg 2; fun)); extract_lets +onlyGivenNames y; clear_value (e : y = _); refine Same.letVar (A := A) (s0 := s0) e ?_ fun _ => ?_)
    | ((fail_if_success (conv => arg 2; fun)); extract_lets +onlyGivenNames y)
    | with_reducible first | assumption | apply State.memWrite_same nM | apply State.takeChans_same | apply State.returnChans_same | apply State.failDma_same | apply State.dmaWaits_same | apply State.burstIssued_same | apply State.setPiece_same | apply State.dropPiece_same | refine Same.eqF (by assumption) ?_
    | with_reducible (refine Same.record ?_ (fun _ => ⟨rfl, rfl⟩) (fun _ => rfl) (fun _ => rfl) (fun _ => rfl) fun _ => rfl; first | assumption | apply State.memWrite_same nM | apply State.takeChans_same | apply State.returnChans_same | apply State.failDma_same | apply State.dmaWaits_same | apply State.burstIssued_same | apply State.setPiece_same | apply State.dropPiece_same | refine Same.eqF (by assumption) ?_)
    | split

theorem State.splitPiece_same {A : Aspect → Prop} {s0 s : State} {c j i p n : _} (h : Same A s0 s) :
    Same A s0 (State.splitPiece s c j i p n) := by
  unfold State.splitPiece
  repeat' first
    | with_reducible first | assumption | apply State.modDma_same
    | split

theorem State.pieceToPort_same {A : Aspect → Prop} {s0 s : State} {c j i p port x typ addr : _} (h : Same A s0 s) :
    Same A s0 (State.pieceToPort s c j i p port x typ addr) := by
  unfold State.pieceToPort
  repeat' first
    | ((fail_if_success (conv => arg 2; fun)); extract_lets +onlyGivenNames y; clear_value (e : y = _); refine Same.letVar (A := A) (s0 := s0) e ?_ fun _ => ?_)
    | ((fail_if_success (conv => arg 2; fun)); extract_lets +onlyGivenNames y)
    | with_reducible first | assumption | apply State.sendPkt_same | refine Same.ofG (State.takeTag_same ?_) | apply State.addReq_same | apply State.takeLink_same | apply State.dmaWaits_same | apply State.burstIssued_same | apply State.setPiece_same | apply State.splitPiece_same | refine Same.eqF (by assumption) ?_
    | with_reducible (refine Same.record ?_ (fun _ => ⟨rfl, rfl⟩) (fun _ => rfl) (fun _ => rfl) (fun _ => rfl) fun _ => rfl; first | assumption | apply State.sendPkt_same | refine Same.ofG (State.takeTag_same ?_) | apply State.addReq_same | apply State.takeLink_same | apply State.dmaWaits_same | apply State.burstIssued_same | apply State.setPiece_same | apply State.splitPiece_same | refine Same.eqF (by assumption) ?_)
    | split

theorem State.pieceToStore_same {A : Aspect → Prop} {s0 s : State} {c j i d p q a ecc : _} (h : Same A s0 s) :
    Same A s0 (State.pieceToStore s c j i d p q a ecc) := by
  unfold State.pieceToStore
  repeat' first
    | ((fail_if_success (conv => arg 2; fun)); extract_lets +onlyGivenNames y; clear_value (e : y = _); refine Same.letVar (A := A) (s0 := s0) e ?_ fun _ => ?_)
    | ((fail_if_success (conv => arg 2; fun)); extract_lets +onlyGivenNames y; clear_value (e : y = _); refine Same.letF (A := A) (s0 := s0) e ?_ fun _ => ?_)
    | ((fail_if_success (conv => arg 2; fun)); extract_lets +onlyGivenNames y)
    | with_reducible first | assumption | apply State.modDma_same | apply State.failDma_same | apply State.burstIssued_same | apply State.endPiece_same | apply State.storeDeliver_same | apply State.storeLines_same | exact Same.ofF (by assumption)
    | split

theorem State.writePhase_same {A : Aspect → Prop} (nM : ¬A .mem) {s0 s : State} {c j i ecc mecc : _} (h : Same A s0 s) :
    Same A s0 (State.writePhase s c j i ecc mecc) := by
  unfold State.writePhase
  repeat' first
    | ((fail_if_success (conv => arg 2; fun)); extract_lets +onlyGivenNames y)
    | with_reducible first | assumption | apply State.failDma_same | apply State.endPiece_same | apply State.pieceToMem_same nM | apply State.pieceToPort_same | apply State.pieceToStore_same
    | split

theorem State.pieceFrom_same {A : Aspect → Prop} {s0 s : State} {c j p port x typ addr hashed : _} (h : Same A s0 s) :
    Same A s0 (State.pieceFrom s c j p port x typ addr hashed) := by
  unfold State.pieceFrom
  repeat' first
    | ((fail_if_success (conv => arg 2; fun)); extract_lets +onlyGivenNames y; clear_value (e : y = _); refine Same.letVar (A := A) (s0 := s0) e ?_ fun _ => ?_)
    | ((fail_if_success (conv => arg 2; fun)); extract_lets +onlyGivenNames y)
    | with_reducible first | assumption | apply State.sendPkt_same | refine Same.ofG (State.takeTag_same ?_) | apply State.addReq_same | apply State.takeLink_same | apply State.dmaWaits_same | apply State.burstIssued_same | apply State.addPiece_same | refine Same.eqF (by assumption) ?_
    | with_reducible (refine Same.record ?_ (fun _ => ⟨rfl, rfl⟩) (fun _ => rfl) (fun _ => rfl) (fun _ => rfl) fun _ => rfl; first | assumption | apply State.sendPkt_same | refine Same.ofG (State.takeTag_same ?_) | apply State.addReq_same | apply State.takeLink_same | apply State.dmaWaits_same | apply State.burstIssued_same | apply State.addPiece_same | refine Same.eqF (by assumption) ?_)
    | split

theorem State.millRead_same {A : Aspect → Prop} (nM : ¬A .mem) {s0 s : State} {r base p mecc : _} (h : Same A s0 s) :
    SameF A s0 (State.millRead s r base p mecc) := by
  unfold State.millRead
  repeat' first
    | ((fail_if_success (conv => arg 2; fun)); extract_lets +onlyGivenNames y)
    | with_reducible first | assumption | apply State.memRead_same nM | apply State.millRun_same | refine Same.eqF (by assumption) ?_
    | with_reducible (refine Same.record ?_ (fun _ => ⟨rfl, rfl⟩) (fun _ => rfl) (fun _ => rfl) (fun _ => rfl) fun _ => rfl; first | assumption | apply State.memRead_same nM | apply State.millRun_same | refine Same.eqF (by assumption) ?_)
    | split
    | with_reducible apply Same.mkF

theorem State.pieceFromMem_same {A : Aspect → Prop} (nM : ¬A .mem) {s0 s : State} {c j d p a mecc : _} (h : Same A s0 s) :
    Same A s0 (State.pieceFromMem s c j d p a mecc) := by
  unfold State.pieceFromMem
  repeat' first
    | ((fail_if_success (conv => arg 2; fun)); extract_lets +onlyGivenNames y; clear_value (e : y = _); refine Same.letVar (A := A) (s0 := s0) e ?_ fun _ => ?_)
    | ((fail_if_success (conv => arg 2; fun)); extract_lets +onlyGivenNames y; clear_value (e : y = _); refine Same.letF (A := A) (s0 := s0) e ?_ fun _ => ?_)
    | ((fail_if_success (conv => arg 2; fun)); extract_lets +onlyGivenNames y)
    | with_reducible first | assumption | apply State.memRead_same nM | apply State.takeChans_same | apply State.returnChans_same | apply State.failDma_same | apply State.dmaWaits_same | apply State.burstIssued_same | apply State.addPiece_same | apply State.millRead_same nM | exact Same.ofF (by assumption) | refine Same.eqF (by assumption) ?_
    | with_reducible (refine Same.record ?_ (fun _ => ⟨rfl, rfl⟩) (fun _ => rfl) (fun _ => rfl) (fun _ => rfl) fun _ => rfl; first | assumption | apply State.memRead_same nM | apply State.takeChans_same | apply State.returnChans_same | apply State.failDma_same | apply State.dmaWaits_same | apply State.burstIssued_same | apply State.addPiece_same | apply State.millRead_same nM | exact Same.ofF (by assumption) | refine Same.eqF (by assumption) ?_)
    | split
    | with_reducible apply Same.mkF

theorem State.newPiece_same {A : Aspect → Prop} (nM : ¬A .mem) {s0 s : State} {c j d ecc mecc : _} (h : Same A s0 s) :
    Same A s0 (State.newPiece s c j d ecc mecc) := by
  unfold State.newPiece
  repeat' first
    | ((fail_if_success (conv => arg 2; fun)); extract_lets +onlyGivenNames y; clear_value (e : y = _); refine Same.letVar (A := A) (s0 := s0) e ?_ fun _ => ?_)
    | ((fail_if_success (conv => arg 2; fun)); extract_lets +onlyGivenNames y; clear_value y)
    | with_reducible first | assumption | apply State.storeRead_same | apply State.modDma_same | apply State.failDma_same | apply State.addPiece_same | apply State.writePhase_same nM | apply State.pieceFrom_same | apply State.pieceFromMem_same nM | refine Same.eqF (by assumption) ?_
    | with_reducible (refine Same.record ?_ (fun _ => ⟨rfl, rfl⟩) (fun _ => rfl) (fun _ => rfl) (fun _ => rfl) fun _ => rfl; first | assumption | apply State.storeRead_same | apply State.modDma_same | apply State.failDma_same | apply State.addPiece_same | apply State.writePhase_same nM | apply State.pieceFrom_same | apply State.pieceFromMem_same nM | refine Same.eqF (by assumption) ?_)
    | split

theorem State.startDma_same {A : Aspect → Prop} {s0 s : State} {c j d : _} (h : Same A s0 s) :
    Same A s0 (State.startDma s c j d) := by
  unfold State.startDma
  repeat' first
    | ((fail_if_success (conv => arg 2; fun)); extract_lets +onlyGivenNames y)
    | with_reducible first | assumption | apply State.modDma_same

theorem State.issueBurst_same {A : Aspect → Prop} (nM : ¬A .mem) {s0 s : State} {c j ecc mecc : _} (h : Same A s0 s) :
    Same A s0 (State.issueBurst s c j ecc mecc) := by
  unfold State.issueBurst
  repeat' first
    | ((fail_if_success (conv => arg 2; fun)); extract_lets +onlyGivenNames y; clear_value (e : y = _); refine Same.letVar (A := A) (s0 := s0) e ?_ fun _ => ?_)
    | ((fail_if_success (conv => arg 2; fun)); extract_lets +onlyGivenNames y)
    | with_reducible first | assumption | apply State.writePhase_same nM | apply State.newPiece_same nM | apply State.startDma_same
    | split

theorem State.pieceData_same {A : Aspect → Prop} (nM : ¬A .mem) {s0 s : State} {c j i p data ecc : _} (h : Same A s0 s) :
    Same A s0 (State.pieceData s c j i p data ecc) := by
  unfold State.pieceData
  repeat' first
    | ((fail_if_success (conv => arg 2; fun)); extract_lets +onlyGivenNames y; clear_value (e : y = _); refine Same.letVar (A := A) (s0 := s0) e ?_ fun _ => ?_)
    | ((fail_if_success (conv => arg 2; fun)); extract_lets +onlyGivenNames y)
    | with_reducible first | assumption | apply State.modDma_same | apply State.setPiece_same | apply State.dropPiece_same | apply State.writePhase_same nM
    | split

theorem State.burstDone_same {A : Aspect → Prop} (nM : ¬A .mem) {s0 s : State} {c j i ecc : _} (h : Same A s0 s) :
    Same A s0 (State.burstDone s c j i ecc) := by
  unfold State.burstDone
  repeat' first
    | ((fail_if_success (conv => arg 2; fun)); extract_lets +onlyGivenNames y; clear_value (e : y = _); refine Same.letVar (A := A) (s0 := s0) e ?_ fun _ => ?_)
    | ((fail_if_success (conv => arg 2; fun)); extract_lets +onlyGivenNames y)
    | with_reducible first | assumption | apply State.commitPost_same | apply State.returnChans_same | apply State.endPiece_same | apply State.pieceData_same nM
    | split

theorem State.answerTag_same {A : Aspect → Prop} {s0 s : State} {c tag st : _} (h : Same A s0 s) :
    Same A s0 (State.answerTag s c tag st) := by
  unfold State.answerTag
  repeat' first
    | ((fail_if_success (conv => arg 2; fun)); extract_lets +onlyGivenNames y; clear_value (e : y = _); refine Same.letVar (A := A) (s0 := s0) e ?_ fun _ => ?_)
    | ((fail_if_success (conv => arg 2; fun)); extract_lets +onlyGivenNames y)
    | with_reducible first | assumption | apply State.failDma_same | apply State.setPiece_same | apply State.dropPiece_same
    | split

theorem State.unitWake_same {A : Aspect → Prop} {s0 s : State} {c : _} (h : Same A s0 s) :
    Same A s0 (State.unitWake s c) := by
  unfold State.unitWake
  repeat' first
    | ((fail_if_success (conv => arg 2; fun)); extract_lets +onlyGivenNames y)
    | with_reducible first | assumption | apply State.wake_same
    | split

theorem State.retireDma_same {A : Aspect → Prop} {s0 s : State} {c : _} (h : Same A s0 s) :
    Same A s0 (State.retireDma s c) := by
  unfold State.retireDma
  repeat' first
    | ((fail_if_success (conv => arg 2; fun)); extract_lets +onlyGivenNames y; clear_value (e : y = _); refine Same.letVar (A := A) (s0 := s0) e ?_ fun _ => ?_)
    | ((fail_if_success (conv => arg 2; fun)); extract_lets +onlyGivenNames y)
    | with_reducible first | assumption | apply State.modCl_same | apply State.putStore_same | apply State.signalOne_same | apply State.unitWake_same
    | split

/-! ### Tensor -/

theorem State.raiseIf_same {A : Aspect → Prop} {s0 s : State} {f i b : _} (h : Same A s0 s) :
    Same A s0 (State.raiseIf s f i b) := by
  unfold State.raiseIf
  repeat' first
    | with_reducible first | assumption | apply State.setF_same
    | split

theorem State.raiseFlags_same {A : Aspect → Prop} {s0 s : State} {c f : _} (h : Same A s0 s) :
    Same A s0 (State.raiseFlags s c f) := by
  unfold State.raiseFlags
  repeat' first
    | ((fail_if_success (conv => arg 2; fun)); extract_lets +onlyGivenNames y)
    | with_reducible first | assumption | apply State.raiseIf_same

theorem State.spillRows_same {A : Aspect → Prop} {s0 s : State} {c d draws bank z5 : _} (h : Same A s0 s) :
    Same A s0 (State.spillRows s c d draws bank z5) := by
  induction z5 generalizing s c d draws bank with
  | nil =>
    unfold State.spillRows
    repeat' first
      | ((fail_if_success (conv => arg 2; fun)); extract_lets +onlyGivenNames y)
      | with_reducible first | assumption | apply State.putStore_same | apply State.raiseFlags_same | apply ih
  | cons hd tl ih =>
    unfold State.spillRows
    repeat' first
      | ((fail_if_success (conv => arg 2; fun)); extract_lets +onlyGivenNames y)
      | with_reducible first | assumption | apply State.putStore_same | apply State.raiseFlags_same | apply ih

theorem State.loadHeldSeed_same {A : Aspect → Prop} {s0 s : State} {c : _} (h : Same A s0 s) :
    Same A s0 (State.loadHeldSeed s c) := by
  unfold State.loadHeldSeed
  repeat' first
    | ((fail_if_success (conv => arg 2; fun)); extract_lets +onlyGivenNames y)
    | with_reducible first | assumption | apply State.modCl_same
    | split

theorem State.writeSpill_same {A : Aspect → Prop} {s0 s : State} {c x : _} (h : Same A s0 s) :
    Same A s0 (State.writeSpill s c x) := by
  unfold State.writeSpill
  repeat' first
    | ((fail_if_success (conv => arg 2; fun)); extract_lets +onlyGivenNames y)
    | with_reducible first | assumption | apply State.spillRows_same

theorem State.countBlock_same {A : Aspect → Prop} {s0 s : State} {c : _} (h : Same A s0 s) :
    Same A s0 (State.countBlock s c) := by
  unfold State.countBlock
  repeat' with_reducible first | assumption | apply State.add64_same

theorem State.charge_same {A : Aspect → Prop} {s0 s : State} {c units : _} (h : Same A s0 s) :
    Same A s0 (State.charge s c units) := by
  unfold State.charge
  repeat' first
    | ((fail_if_success (conv => arg 2; fun)); extract_lets +onlyGivenNames y)
    | with_reducible first | assumption | apply State.modCl_same | apply State.modDie_same

theorem State.showTbCause_same {A : Aspect → Prop} {s0 s : State} {c : _} (h : Same A s0 s) :
    Same A s0 (State.showTbCause s c) := by
  unfold State.showTbCause
  repeat' first
    | with_reducible first | assumption | apply State.setF_same
    | split

theorem execTb_same {A : Aspect → Prop} {s0 s : State} {c ecc : _} (h : Same A s0 s) :
    SameX A s0 (execTb c ecc s) := by
  unfold execTb
  repeat' first
    | ((fail_if_success (conv => arg 2; fun)); extract_lets +onlyGivenNames y)
    | with_reducible first | assumption | apply State.modCl_same | apply State.storeRead_same | apply State.nextPc_same | refine State.issue_same ?_ (fun _ _ _ => ?_) | apply State.faultStop_same | apply State.countBlock_same | apply Same.next | refine Same.eqF (by assumption) ?_
    | with_reducible (refine Same.record ?_ (fun _ => ⟨rfl, rfl⟩) (fun _ => rfl) (fun _ => rfl) (fun _ => rfl) fun _ => rfl; first | assumption | apply State.modCl_same | apply State.storeRead_same | apply State.nextPc_same | refine State.issue_same ?_ (fun _ _ _ => ?_) | apply State.faultStop_same | apply State.countBlock_same | apply Same.next | refine Same.eqF (by assumption) ?_)
    | split

theorem execTensorBlockStart_same {A : Aspect → Prop} {s0 s : State} {c ecc : _} (h : Same A s0 s) :
    SameX A s0 (execTensorBlockStart c ecc s) := by
  unfold execTensorBlockStart
  repeat' first
    | ((fail_if_success (conv => arg 2; fun)); extract_lets +onlyGivenNames y)
    | with_reducible first | assumption | apply State.modCl_same | apply State.storeEcc_same | apply State.faultStop_same | apply State.showTbCause_same | apply Same.next | refine Same.eqF (by assumption) ?_
    | with_reducible (refine Same.record ?_ (fun _ => ⟨rfl, rfl⟩) (fun _ => rfl) (fun _ => rfl) (fun _ => rfl) fun _ => rfl; first | assumption | apply State.modCl_same | apply State.storeEcc_same | apply State.faultStop_same | apply State.showTbCause_same | apply Same.next | refine Same.eqF (by assumption) ?_)
    | split

theorem execTensorBlockEnd_same {A : Aspect → Prop} {s0 s : State} {c units : _} (h : Same A s0 s) :
    SameX A s0 (execTensorBlockEnd c units s) := by
  unfold execTensorBlockEnd
  repeat' first
    | ((fail_if_success (conv => arg 2; fun)); extract_lets +onlyGivenNames y; clear_value (e : y = _); refine Same.letVar (A := A) (s0 := s0) e ?_ fun _ => ?_)
    | ((fail_if_success (conv => arg 2; fun)); extract_lets +onlyGivenNames y)
    | with_reducible first | assumption | apply State.modCl_same | apply State.unitWake_same | apply State.loadHeldSeed_same | apply State.countBlock_same | apply State.charge_same | apply State.showTbCause_same | apply Same.next
    | split

theorem execSpillDone_same {A : Aspect → Prop} {s0 s : State} {c n : _} (h : Same A s0 s) :
    SameX A s0 (execSpillDone c n s) := by
  unfold execSpillDone
  repeat' first
    | ((fail_if_success (conv => arg 2; fun)); extract_lets +onlyGivenNames y; clear_value (e : y = _); refine Same.letVar (A := A) (s0 := s0) e ?_ fun _ => ?_)
    | ((fail_if_success (conv => arg 2; fun)); extract_lets +onlyGivenNames y)
    | with_reducible first | assumption | apply State.modCl_same | apply State.unitWake_same | apply State.loadHeldSeed_same | apply State.writeSpill_same | apply State.showTbCause_same | apply Same.next
    | split

theorem execTbwait_same {A : Aspect → Prop} {s0 s : State} {c : _} (h : Same A s0 s) :
    SameX A s0 (execTbwait c s) := by
  unfold execTbwait
  repeat' first
    | ((fail_if_success (conv => arg 2; fun)); extract_lets +onlyGivenNames y; clear_value (e : y = _); refine Same.letVar (A := A) (s0 := s0) e ?_ fun _ => ?_)
    | ((fail_if_success (conv => arg 2; fun)); extract_lets +onlyGivenNames y)
    | with_reducible first | assumption | apply State.nextPc_same | apply State.steep_same | refine State.issue_same ?_ (fun _ _ _ => ?_) | apply State.showTbCause_same | apply Same.next
    | split

/-! ### Vector -/

theorem State.setVreg_same {A : Aspect → Prop} {s0 s : State} {c v r : _} (h : Same A s0 s) :
    Same A s0 (State.setVreg s c v r) := by
  unfold State.setVreg
  repeat' with_reducible first | assumption | apply State.modCl_same

theorem State.vresult_same {A : Aspect → Prop} {s0 s : State} {c d l : _} (h : Same A s0 s) :
    Same A s0 (State.vresult s c d l) := by
  unfold State.vresult
  repeat' first
    | ((fail_if_success (conv => arg 2; fun)); extract_lets +onlyGivenNames y)
    | with_reducible first | assumption | apply State.raiseFlags_same | apply State.setVreg_same

theorem State.lanes2_same {A : Aspect → Prop} {s0 s : State} {c d a b f : _} (h : Same A s0 s) :
    Same A s0 (State.lanes2 s c d a b f) := by
  unfold State.lanes2
  repeat' with_reducible first | assumption | apply State.vresult_same

theorem State.vectorOp_same {A : Aspect → Prop} {s0 s : State} {c dst op : _} (h : Same A s0 s) :
    Same A s0 (State.vectorOp s c dst op) := by
  unfold State.vectorOp
  repeat' first
    | ((fail_if_success (conv => arg 2; fun)); extract_lets +onlyGivenNames y)
    | with_reducible first | assumption | apply State.putStore_same | apply State.setSreg_same | apply State.raiseFlags_same | apply State.setVreg_same | apply State.vresult_same | apply State.lanes2_same
    | split

theorem State.vectorOut_same {A : Aspect → Prop} {s0 s : State} {c op : _} (h : Same A s0 s) :
    Same A s0 (State.vectorOut s c op) := by
  unfold State.vectorOut
  repeat' first
    | with_reducible first | assumption | apply State.setVreg_same
    | split

theorem execVop_same {A : Aspect → Prop} {s0 s : State} {c op ecc : _} (h : Same A s0 s) :
    SameX A s0 (execVop c op ecc s) := by
  unfold execVop
  repeat' first
    | ((fail_if_success (conv => arg 2; fun)); extract_lets +onlyGivenNames y)
    | with_reducible first | assumption | apply State.storeEcc_same | apply State.nextPc_same | refine State.issue_same ?_ (fun _ _ _ => ?_) | apply State.faultStop_same | apply State.vectorOp_same | apply State.vectorOut_same | apply Same.next | refine Same.eqF (by assumption) ?_
    | with_reducible (refine Same.record ?_ (fun _ => ⟨rfl, rfl⟩) (fun _ => rfl) (fun _ => rfl) (fun _ => rfl) fun _ => rfl; first | assumption | apply State.storeEcc_same | apply State.nextPc_same | refine State.issue_same ?_ (fun _ _ _ => ?_) | apply State.faultStop_same | apply State.vectorOp_same | apply State.vectorOut_same | apply Same.next | refine Same.eqF (by assumption) ?_)
    | split

/-! ### Sequencer -/

theorem execScalarOp_same {A : Aspect → Prop} {s0 s : State} {c fn useImm : _} (h : Same A s0 s) :
    SameX A s0 (execScalarOp c fn useImm s) := by
  unfold execScalarOp
  repeat' first
    | ((fail_if_success (conv => arg 2; fun)); extract_lets +onlyGivenNames y)
    | with_reducible first | assumption | apply State.setSreg_same | apply State.nextPc_same | refine State.issue_same ?_ (fun _ _ _ => ?_) | apply Same.next
    | split

theorem execBranch_same {A : Aspect → Prop} {s0 s : State} {c cond : _} (h : Same A s0 s) :
    SameX A s0 (execBranch c cond s) := by
  unfold execBranch
  repeat' first
    | ((fail_if_success (conv => arg 2; fun)); extract_lets +onlyGivenNames y)
    | with_reducible first | assumption | apply State.setPc_same | apply State.nextPc_same | refine State.issue_same ?_ (fun _ _ _ => ?_) | apply Same.next
    | split

theorem execLdsSts_same {A : Aspect → Prop} {s0 s : State} {c store ecc : _} (h : Same A s0 s) :
    SameX A s0 (execLdsSts c store ecc s) := by
  unfold execLdsSts
  repeat' first
    | ((fail_if_success (conv => arg 2; fun)); extract_lets +onlyGivenNames y)
    | with_reducible first | assumption | apply State.putStore_same | apply State.storeRead_same | apply State.setSreg_same | apply State.nextPc_same | refine State.issue_same ?_ (fun _ _ _ => ?_) | apply State.faultStop_same | apply Same.next | refine Same.eqF (by assumption) ?_
    | with_reducible (refine Same.record ?_ (fun _ => ⟨rfl, rfl⟩) (fun _ => rfl) (fun _ => rfl) (fun _ => rfl) fun _ => rfl; first | assumption | apply State.putStore_same | apply State.storeRead_same | apply State.setSreg_same | apply State.nextPc_same | refine State.issue_same ?_ (fun _ _ _ => ?_) | apply State.faultStop_same | apply Same.next | refine Same.eqF (by assumption) ?_)
    | split

theorem execIllegalInstruction_same {A : Aspect → Prop} {s0 s : State} {c reservedEnc : _} (h : Same A s0 s) :
    SameX A s0 (execIllegalInstruction c reservedEnc s) := by
  unfold execIllegalInstruction
  repeat' first
    | ((fail_if_success (conv => arg 2; fun)); extract_lets +onlyGivenNames y)
    | with_reducible first | assumption | refine State.issue_same ?_ (fun _ _ _ => ?_) | apply State.faultStop_same | apply Same.next
    | split

theorem execFetchFault_same {A : Aspect → Prop} {s0 s : State} {c ecc : _} (h : Same A s0 s) :
    SameX A s0 (execFetchFault c ecc s) := by
  unfold execFetchFault
  repeat' first
    | ((fail_if_success (conv => arg 2; fun)); extract_lets +onlyGivenNames y)
    | with_reducible first | assumption | apply State.storeEcc_same | apply State.faultStop_same | apply Same.next | refine Same.eqF (by assumption) ?_
    | with_reducible (refine Same.record ?_ (fun _ => ⟨rfl, rfl⟩) (fun _ => rfl) (fun _ => rfl) (fun _ => rfl) fun _ => rfl; first | assumption | apply State.storeEcc_same | apply State.faultStop_same | apply Same.next | refine Same.eqF (by assumption) ?_)
    | split

theorem execStep_same {A : Aspect → Prop} {s0 s : State} {c spaced : _} (h : Same A s0 s) :
    SameX A s0 (execStep c spaced s) := by
  unfold execStep
  repeat' first
    | ((fail_if_success (conv => arg 2; fun)); extract_lets +onlyGivenNames y; clear_value (e : y = _); refine Same.letVar (A := A) (s0 := s0) e ?_ fun _ => ?_)
    | ((fail_if_success (conv => arg 2; fun)); extract_lets +onlyGivenNames y)
    | with_reducible first | assumption | apply State.addWrap_same | apply State.addSat_same | apply State.nextPc_same | refine State.issue_same ?_ (fun _ _ _ => ?_) | apply Same.next
    | with_reducible (refine Same.record ?_ (fun _ => ⟨rfl, rfl⟩) (fun _ => rfl) (fun _ => rfl) (fun _ => rfl) fun _ => rfl; first | assumption | apply State.addWrap_same | apply State.addSat_same | apply State.nextPc_same | refine State.issue_same ?_ (fun _ _ _ => ?_) | apply Same.next)
    | split

theorem State.seedWrite_same {A : Aspect → Prop} {s0 s : State} {c v : _} (h : Same A s0 s) :
    Same A s0 (State.seedWrite s c v) := by
  unfold State.seedWrite
  repeat' first
    | ((fail_if_success (conv => arg 2; fun)); extract_lets +onlyGivenNames y; clear_value (e : y = _); refine Same.letVar (A := A) (s0 := s0) e ?_ fun _ => ?_)
    | ((fail_if_success (conv => arg 2; fun)); extract_lets +onlyGivenNames y)
    | with_reducible first | assumption | apply State.setF_same | apply State.modCl_same | apply State.loadHeldSeed_same

theorem execCluSrSeedWrite_same {A : Aspect → Prop} {s0 s : State} {c value : _} (h : Same A s0 s) :
    SameX A s0 (execCluSrSeedWrite c value s) := by
  unfold execCluSrSeedWrite
  repeat' first
    | ((fail_if_success (conv => arg 2; fun)); extract_lets +onlyGivenNames y)
    | with_reducible first | assumption | apply State.seedWrite_same | apply Same.next
    | split

theorem execHeldSeedLoad_same {A : Aspect → Prop} {s0 s : State} {c : _} (h : Same A s0 s) :
    SameX A s0 (execHeldSeedLoad c s) := by
  unfold execHeldSeedLoad
  repeat' first
    | ((fail_if_success (conv => arg 2; fun)); extract_lets +onlyGivenNames y)
    | with_reducible first | assumption | apply State.loadHeldSeed_same | apply Same.next

theorem State.haltWrite_same {A : Aspect → Prop} {s0 s : State} {c v : _} (h : Same A s0 s) :
    Same A s0 (State.haltWrite s c v) := by
  unfold State.haltWrite
  repeat' first
    | ((fail_if_success (conv => arg 2; fun)); extract_lets +onlyGivenNames y; clear_value (e : y = _); refine Same.letVar (A := A) (s0 := s0) e ?_ fun _ => ?_)
    | ((fail_if_success (conv => arg 2; fun)); extract_lets +onlyGivenNames y)
    | with_reducible first | assumption | apply State.setF_same
    | split

theorem execCluHaltWrite_same {A : Aspect → Prop} {s0 s : State} {c value : _} (h : Same A s0 s) :
    SameX A s0 (execCluHaltWrite c value s) := by
  unfold execCluHaltWrite
  repeat' first
    | ((fail_if_success (conv => arg 2; fun)); extract_lets +onlyGivenNames y)
    | with_reducible first | assumption | apply State.haltWrite_same | apply Same.next
    | split

theorem execSteepLendTimer_same {A : Aspect → Prop} {s0 s : State} {c : _} (h : Same A s0 s) :
    SameX A s0 (execSteepLendTimer c s) := by
  unfold execSteepLendTimer
  repeat' first
    | ((fail_if_success (conv => arg 2; fun)); extract_lets +onlyGivenNames y)
    | with_reducible first | assumption | apply State.modCl_same | apply State.returnReserve_same | apply Same.next
    | split

/-! ### DmaUnit -/

theorem State.dmaInstr_same {A : Aspect → Prop} {s0 s : State} {c ecc isOp : _} (h : Same A s0 s) :
    Same A s0 (State.dmaInstr s c ecc isOp) := by
  unfold State.dmaInstr
  repeat' first
    | ((fail_if_success (conv => arg 2; fun)); extract_lets +onlyGivenNames y)
    | with_reducible first | assumption | apply State.nextPc_same | apply State.steep_same | refine State.issue_same ?_ (fun _ _ _ => ?_) | apply State.acceptDma_same
    | split

theorem execCopy_same {A : Aspect → Prop} {s0 s : State} {c ecc : _} (h : Same A s0 s) :
    SameX A s0 (execCopy c ecc s) := by
  unfold execCopy
  repeat' first
    | ((fail_if_success (conv => arg 2; fun)); extract_lets +onlyGivenNames y)
    | with_reducible first | assumption | apply State.dmaInstr_same | apply Same.next

theorem execFill_same {A : Aspect → Prop} {s0 s : State} {c ecc : _} (h : Same A s0 s) :
    SameX A s0 (execFill c ecc s) := by
  unfold execFill
  repeat' first
    | ((fail_if_success (conv => arg 2; fun)); extract_lets +onlyGivenNames y)
    | with_reducible first | assumption | apply State.dmaInstr_same | apply Same.next

theorem execAddF32_same {A : Aspect → Prop} {s0 s : State} {c ecc : _} (h : Same A s0 s) :
    SameX A s0 (execAddF32 c ecc s) := by
  unfold execAddF32
  repeat' first
    | ((fail_if_success (conv => arg 2; fun)); extract_lets +onlyGivenNames y)
    | with_reducible first | assumption | apply State.dmaInstr_same | apply Same.next

theorem execPost_same {A : Aspect → Prop} {s0 s : State} {c ecc : _} (h : Same A s0 s) :
    SameX A s0 (execPost c ecc s) := by
  unfold execPost
  repeat' first
    | ((fail_if_success (conv => arg 2; fun)); extract_lets +onlyGivenNames y)
    | with_reducible first | assumption | apply State.dmaInstr_same | apply Same.next

theorem execDmaDeferredAccept_same {A : Aspect → Prop} {s0 s : State} {c ecc : _} (h : Same A s0 s) :
    SameX A s0 (execDmaDeferredAccept c ecc s) := by
  unfold execDmaDeferredAccept
  repeat' first
    | ((fail_if_success (conv => arg 2; fun)); extract_lets +onlyGivenNames y)
    | with_reducible first | assumption | apply State.wake_same | apply State.acceptDma_same | apply Same.next
    | split

theorem State.showDmaCause_same {A : Aspect → Prop} {s0 s : State} {c : _} (h : Same A s0 s) :
    Same A s0 (State.showDmaCause s c) := by
  unfold State.showDmaCause
  repeat' first
    | ((fail_if_success (conv => arg 2; fun)); extract_lets +onlyGivenNames y)
    | with_reducible first | assumption | apply State.setF_same
    | split

theorem execDmaBurstIssue_same {A : Aspect → Prop} (nM : ¬A .mem) {s0 s : State} {c j ecc mecc : _} (h : Same A s0 s) :
    SameX A s0 (execDmaBurstIssue c j ecc mecc s) := by
  unfold execDmaBurstIssue
  repeat' first
    | ((fail_if_success (conv => arg 2; fun)); extract_lets +onlyGivenNames y)
    | with_reducible first | assumption | apply State.issueBurst_same nM | apply Same.next

theorem execDmaRetire_same {A : Aspect → Prop} {s0 s : State} {c : _} (h : Same A s0 s) :
    SameX A s0 (execDmaRetire c s) := by
  unfold execDmaRetire
  repeat' first
    | ((fail_if_success (conv => arg 2; fun)); extract_lets +onlyGivenNames y)
    | with_reducible first | assumption | apply State.retireDma_same | apply State.showDmaCause_same | apply Same.next

theorem execLinkCreditTimeout_same {A : Aspect → Prop} {s0 s : State} {c j : _} (h : Same A s0 s) :
    SameX A s0 (execLinkCreditTimeout c j s) := by
  unfold execLinkCreditTimeout
  repeat' first
    | ((fail_if_success (conv => arg 2; fun)); extract_lets +onlyGivenNames y; clear_value (e : y = _); refine Same.letVar (A := A) (s0 := s0) e ?_ fun _ => ?_)
    | ((fail_if_success (conv => arg 2; fun)); extract_lets +onlyGivenNames y)
    | with_reducible first | assumption | apply State.failDma_same | apply State.dmaWaits_same | apply Same.next
    | with_reducible (refine Same.record ?_ (fun _ => ⟨rfl, rfl⟩) (fun _ => rfl) (fun _ => rfl) (fun _ => rfl) fun _ => rfl; first | assumption | apply State.failDma_same | apply State.dmaWaits_same | apply Same.next)
    | split

theorem execDmawait_same {A : Aspect → Prop} {s0 s : State} {c : _} (h : Same A s0 s) :
    SameX A s0 (execDmawait c s) := by
  unfold execDmawait
  repeat' first
    | ((fail_if_success (conv => arg 2; fun)); extract_lets +onlyGivenNames y; clear_value (e : y = _); refine Same.letVar (A := A) (s0 := s0) e ?_ fun _ => ?_)
    | ((fail_if_success (conv => arg 2; fun)); extract_lets +onlyGivenNames y)
    | with_reducible first | assumption | apply State.nextPc_same | apply State.steep_same | refine State.issue_same ?_ (fun _ _ _ => ?_) | apply State.showDmaCause_same | apply Same.next
    | split

theorem execFence_same {A : Aspect → Prop} {s0 s : State} {c : _} (h : Same A s0 s) :
    SameX A s0 (execFence c s) := by
  unfold execFence
  repeat' first
    | ((fail_if_success (conv => arg 2; fun)); extract_lets +onlyGivenNames y; clear_value (e : y = _); refine Same.letVar (A := A) (s0 := s0) e ?_ fun _ => ?_)
    | ((fail_if_success (conv => arg 2; fun)); extract_lets +onlyGivenNames y)
    | with_reducible first | assumption | apply State.nextPc_same | apply State.steep_same | refine State.issue_same ?_ (fun _ _ _ => ?_) | apply State.showDmaCause_same | apply Same.next
    | split

/-! ### WorkIssue -/

theorem execClaim_same {A : Aspect → Prop} (nM : ¬A .mem) {s0 s : State} {c mecc : _} (h : Same A s0 s) :
    SameX A s0 (execClaim c mecc s) := by
  unfold execClaim
  repeat' first
    | ((fail_if_success (conv => arg 2; fun)); extract_lets +onlyGivenNames y; clear_value (e : y = _); refine Same.letVar (A := A) (s0 := s0) e ?_ fun _ => ?_)
    | ((fail_if_success (conv => arg 2; fun)); extract_lets +onlyGivenNames y)
    | with_reducible first | assumption | apply State.modRing_same | apply State.nextPc_same | apply State.steep_same | refine State.issue_same ?_ (fun _ _ _ => ?_) | apply State.nextDescriptor_same nM | apply State.deliver_same | apply State.claimEmpty_same | apply Same.next | refine Same.eqF (by assumption) ?_
    | with_reducible (refine Same.record ?_ (fun _ => ⟨rfl, rfl⟩) (fun _ => rfl) (fun _ => rfl) (fun _ => rfl) fun _ => rfl; first | assumption | apply State.modRing_same | apply State.nextPc_same | apply State.steep_same | refine State.issue_same ?_ (fun _ _ _ => ?_) | apply State.nextDescriptor_same nM | apply State.deliver_same | apply State.claimEmpty_same | apply Same.next | refine Same.eqF (by assumption) ?_)
    | split
    | with_reducible apply Same.mkF

theorem execClaimServed_same {A : Aspect → Prop} (nM : ¬A .mem) {s0 s : State} {ring mecc : _} (h : Same A s0 s) :
    SameX A s0 (execClaimServed ring mecc s) := by
  unfold execClaimServed
  repeat' first
    | ((fail_if_success (conv => arg 2; fun)); extract_lets +onlyGivenNames y)
    | with_reducible first | assumption | apply State.modRing_same | apply State.nextDescriptor_same nM | apply State.deliver_same | apply Same.next | refine Same.eqF (by assumption) ?_
    | with_reducible (refine Same.record ?_ (fun _ => ⟨rfl, rfl⟩) (fun _ => rfl) (fun _ => rfl) (fun _ => rfl) fun _ => rfl; first | assumption | apply State.modRing_same | apply State.nextDescriptor_same nM | apply State.deliver_same | apply Same.next | refine Same.eqF (by assumption) ?_)
    | split

theorem execDone_same {A : Aspect → Prop} {s0 s : State} {c : _} (h : Same A s0 s) :
    SameX A s0 (execDone c s) := by
  unfold execDone
  repeat' first
    | ((fail_if_success (conv => arg 2; fun)); extract_lets +onlyGivenNames y; clear_value (e : y = _); refine Same.letVar (A := A) (s0 := s0) e ?_ fun _ => ?_)
    | ((fail_if_success (conv => arg 2; fun)); extract_lets +onlyGivenNames y)
    | with_reducible first | assumption | apply State.modCl_same | apply State.nextPc_same | refine State.issue_same ?_ (fun _ _ _ => ?_) | apply State.complete_same | apply Same.next
    | split

theorem State.screen_same {A : Aspect → Prop} (nM : ¬A .mem) {s0 s : State} {z0 z2 z3 : _} (h : Same A s0 s) :
    Same A s0 (State.screen z0 s z2 z3) := by
  induction z0 generalizing s z2 z3 with
  | zero =>
    unfold State.screen
    repeat' first
      | ((fail_if_success (conv => arg 2; fun)); extract_lets +onlyGivenNames y; clear_value (e : y = _); refine Same.letF (A := A) (s0 := s0) e ?_ fun _ => ?_)
      | ((fail_if_success (conv => arg 2; fun)); extract_lets +onlyGivenNames y)
      | with_reducible first | assumption | apply State.memRead_same nM | apply State.writeRecord_same nM | apply State.writeErrorRecord_same nM | apply State.passNext_same | apply State.passUnread_same nM | exact Same.ofF (by assumption) | apply ih | refine Same.eqO (by assumption) ?_
      | with_reducible (refine Same.record ?_ (fun _ => ⟨rfl, rfl⟩) (fun _ => rfl) (fun _ => rfl) (fun _ => rfl) fun _ => rfl; first | assumption | apply State.memRead_same nM | apply State.writeRecord_same nM | apply State.writeErrorRecord_same nM | apply State.passNext_same | apply State.passUnread_same nM | exact Same.ofF (by assumption) | apply ih | refine Same.eqO (by assumption) ?_)
      | split
  | succ n ih =>
    unfold State.screen
    repeat' first
      | ((fail_if_success (conv => arg 2; fun)); extract_lets +onlyGivenNames y; clear_value (e : y = _); refine Same.letF (A := A) (s0 := s0) e ?_ fun _ => ?_)
      | ((fail_if_success (conv => arg 2; fun)); extract_lets +onlyGivenNames y)
      | with_reducible first | assumption | apply State.memRead_same nM | apply State.writeRecord_same nM | apply State.writeErrorRecord_same nM | apply State.passNext_same | apply State.passUnread_same nM | exact Same.ofF (by assumption) | apply ih | refine Same.eqO (by assumption) ?_
      | with_reducible (refine Same.record ?_ (fun _ => ⟨rfl, rfl⟩) (fun _ => rfl) (fun _ => rfl) (fun _ => rfl) fun _ => rfl; first | assumption | apply State.memRead_same nM | apply State.writeRecord_same nM | apply State.writeErrorRecord_same nM | apply State.passNext_same | apply State.passUnread_same nM | exact Same.ofF (by assumption) | apply ih | refine Same.eqO (by assumption) ?_)
      | split

theorem State.prodWrite_same {A : Aspect → Prop} (nM : ¬A .mem) {s0 s : State} {r v ecc : _} (h : Same A s0 s) :
    Same A s0 (State.prodWrite s r v ecc) := by
  unfold State.prodWrite
  repeat' first
    | ((fail_if_success (conv => arg 2; fun)); extract_lets +onlyGivenNames y; clear_value (e : y = _); refine Same.letVar (A := A) (s0 := s0) e ?_ fun _ => ?_)
    | ((fail_if_success (conv => arg 2; fun)); extract_lets +onlyGivenNames y)
    | with_reducible first | assumption | apply State.setF_same | apply State.ringEvent_same | apply State.screen_same nM
    | split

theorem execRingProdWrite_same {A : Aspect → Prop} (nM : ¬A .mem) {s0 s : State} {ring value mecc : _} (h : Same A s0 s) :
    SameX A s0 (execRingProdWrite ring value mecc s) := by
  unfold execRingProdWrite
  repeat' first
    | ((fail_if_success (conv => arg 2; fun)); extract_lets +onlyGivenNames y)
    | with_reducible first | assumption | apply State.prodWrite_same nM | apply Same.next
    | split

theorem State.consWrite_same {A : Aspect → Prop} (nM : ¬A .mem) {s0 s : State} {r v : _} (h : Same A s0 s) :
    Same A s0 (State.consWrite s r v) := by
  unfold State.consWrite
  repeat' first
    | ((fail_if_success (conv => arg 2; fun)); extract_lets +onlyGivenNames y)
    | with_reducible first | assumption | apply State.setF_same | apply State.ringEvent_same | apply State.settleFailed_same nM
    | split

theorem execRingConsWrite_same {A : Aspect → Prop} (nM : ¬A .mem) {s0 s : State} {ring value : _} (h : Same A s0 s) :
    SameX A s0 (execRingConsWrite ring value s) := by
  unfold execRingConsWrite
  repeat' first
    | ((fail_if_success (conv => arg 2; fun)); extract_lets +onlyGivenNames y)
    | with_reducible first | assumption | apply State.consWrite_same nM | apply Same.next
    | split

theorem State.enableWrite_same {A : Aspect → Prop} (nM : ¬A .mem) {s0 s : State} {r v : _} (h : Same A s0 s) :
    Same A s0 (State.enableWrite s r v) := by
  unfold State.enableWrite
  repeat' first
    | ((fail_if_success (conv => arg 2; fun)); extract_lets +onlyGivenNames y; clear_value (e : y = _); refine Same.letVar (A := A) (s0 := s0) e ?_ fun _ => ?_)
    | ((fail_if_success (conv => arg 2; fun)); extract_lets +onlyGivenNames y)
    | with_reducible first | assumption | apply State.setF_same | apply State.releaseClaims_same | apply State.settleFailed_same nM
    | split

theorem execRingEnableWrite_same {A : Aspect → Prop} (nM : ¬A .mem) {s0 s : State} {ring value : _} (h : Same A s0 s) :
    SameX A s0 (execRingEnableWrite ring value s) := by
  unfold execRingEnableWrite
  repeat' first
    | ((fail_if_success (conv => arg 2; fun)); extract_lets +onlyGivenNames y)
    | with_reducible first | assumption | apply State.enableWrite_same nM | apply Same.next
    | split

theorem State.cancelRing_same {A : Aspect → Prop} {s0 s : State} {r : _} (h : Same A s0 s) :
    Same A s0 (State.cancelRing s r) := by
  unfold State.cancelRing
  repeat' first
    | ((fail_if_success (conv => arg 2; fun)); extract_lets +onlyGivenNames y; clear_value (e : y = _); refine Same.letVar (A := A) (s0 := s0) e ?_ fun _ => ?_)
    | ((fail_if_success (conv => arg 2; fun)); extract_lets +onlyGivenNames y)
    | with_reducible first | assumption | apply State.setF_same | apply State.modRing_same | apply State.releaseClaims_same | apply State.cancelCheck_same
    | split

theorem execRingCancel_same {A : Aspect → Prop} {s0 s : State} {ring : _} (h : Same A s0 s) :
    SameX A s0 (execRingCancel ring s) := by
  unfold execRingCancel
  repeat' first
    | ((fail_if_success (conv => arg 2; fun)); extract_lets +onlyGivenNames y)
    | with_reducible first | assumption | apply State.cancelRing_same | apply Same.next
    | split

theorem execCancelRecord_same {A : Aspect → Prop} (nM : ¬A .mem) {s0 s : State} {ring : _} (h : Same A s0 s) :
    SameX A s0 (execCancelRecord ring s) := by
  unfold execCancelRecord
  repeat' first
    | ((fail_if_success (conv => arg 2; fun)); extract_lets +onlyGivenNames y)
    | with_reducible first | assumption | apply State.modRing_same | apply State.writeUnheld_same nM | apply State.cancelCheck_same | apply Same.next
    | split

theorem State.claimStopWrite_same {A : Aspect → Prop} {s0 s : State} {v : _} (h : Same A s0 s) :
    Same A s0 (State.claimStopWrite s v) := by
  unfold State.claimStopWrite
  repeat' first
    | with_reducible first | assumption | apply State.setF_same | apply State.claimStop_same
    | split

theorem execClaimStopWrite_same {A : Aspect → Prop} {s0 s : State} {value : _} (h : Same A s0 s) :
    SameX A s0 (execClaimStopWrite value s) := by
  unfold execClaimStopWrite
  repeat' first
    | ((fail_if_success (conv => arg 2; fun)); extract_lets +onlyGivenNames y)
    | with_reducible first | assumption | apply State.claimStopWrite_same | apply Same.next
    | split

theorem State.commitRing_same {A : Aspect → Prop} (nL : ¬A .live) {s0 s : State} {r : _} (h : Same A s0 s) :
    Same A s0 (State.commitRing s r) := by
  unfold State.commitRing
  repeat' first
    | ((fail_if_success (conv => arg 2; fun)); extract_lets +onlyGivenNames y; clear_value (e : y = _); refine Same.letVar (A := A) (s0 := s0) e ?_ fun _ => ?_)
    | ((fail_if_success (conv => arg 2; fun)); extract_lets +onlyGivenNames y)
    | with_reducible first | assumption | apply State.setF_same | apply State.commitAll_same nL | apply State.modRing_same | apply State.ringEvent_same
    | split

theorem execRingCommit_same {A : Aspect → Prop} (nL : ¬A .live) {s0 s : State} {ring : _} (h : Same A s0 s) :
    SameX A s0 (execRingCommit ring s) := by
  unfold execRingCommit
  repeat' first
    | ((fail_if_success (conv => arg 2; fun)); extract_lets +onlyGivenNames y)
    | with_reducible first | assumption | apply State.commitRing_same nL | apply Same.next
    | split

theorem execPostNumberClaimable_same {A : Aspect → Prop} (nM : ¬A .mem) {s0 s : State} {ring : _} (h : Same A s0 s) :
    SameX A s0 (execPostNumberClaimable ring s) := by
  unfold execPostNumberClaimable
  repeat' first
    | ((fail_if_success (conv => arg 2; fun)); extract_lets +onlyGivenNames y; clear_value (e : y = _); refine Same.letVar (A := A) (s0 := s0) e ?_ fun _ => ?_)
    | ((fail_if_success (conv => arg 2; fun)); extract_lets +onlyGivenNames y)
    | with_reducible first | assumption | apply State.setF_same | apply State.modRing_same | apply State.settleFailed_same nM | apply Same.next
    | split

theorem execDescriptorTimeout_same {A : Aspect → Prop} {s0 s : State} {c : _} (h : Same A s0 s) :
    SameX A s0 (execDescriptorTimeout c s) := by
  unfold execDescriptorTimeout
  repeat' first
    | ((fail_if_success (conv => arg 2; fun)); extract_lets +onlyGivenNames y; clear_value (e : y = _); refine Same.letVar (A := A) (s0 := s0) e ?_ fun _ => ?_)
    | ((fail_if_success (conv => arg 2; fun)); extract_lets +onlyGivenNames y)
    | with_reducible first | assumption | apply State.addSat_same | apply State.abortCluster_same | apply Same.next
    | split

theorem State.endPrefetched_same {A : Aspect → Prop} (nM : ¬A .mem) {s0 s : State} {st cluster z3 : _} (h : Same A s0 s) :
    Same A s0 (State.endPrefetched s st cluster z3) := by
  induction z3 generalizing s st cluster with
  | nil =>
    unfold State.endPrefetched
    repeat' first
      | ((fail_if_success (conv => arg 2; fun)); extract_lets +onlyGivenNames y; clear_value (e : y = _); refine Same.letVar (A := A) (s0 := s0) e ?_ fun _ => ?_)
      | ((fail_if_success (conv => arg 2; fun)); extract_lets +onlyGivenNames y)
      | with_reducible first | assumption | apply State.returnToken_same | apply State.writeRecord_same nM | apply ih
      | split
  | cons hd tl ih =>
    unfold State.endPrefetched
    repeat' first
      | ((fail_if_success (conv => arg 2; fun)); extract_lets +onlyGivenNames y; clear_value (e : y = _); refine Same.letVar (A := A) (s0 := s0) e ?_ fun _ => ?_)
      | ((fail_if_success (conv => arg 2; fun)); extract_lets +onlyGivenNames y)
      | with_reducible first | assumption | apply State.returnToken_same | apply State.writeRecord_same nM | apply ih
      | split

theorem State.endAbort_same {A : Aspect → Prop} (nM : ¬A .mem) {s0 s : State} {c e : _} (h : Same A s0 s) :
    Same A s0 (State.endAbort s c e) := by
  unfold State.endAbort
  repeat' first
    | ((fail_if_success (conv => arg 2; fun)); extract_lets +onlyGivenNames y; clear_value (e : y = _); refine Same.letVar (A := A) (s0 := s0) e ?_ fun _ => ?_)
    | ((fail_if_success (conv => arg 2; fun)); extract_lets +onlyGivenNames y)
    | with_reducible first | assumption | apply State.setFlag_same | apply State.modCl_same | apply State.endPrefetched_same nM
    | split

theorem execCompletionRecord_same {A : Aspect → Prop} (nM : ¬A .mem) {s0 s : State} {n : _} (h : Same A s0 s) :
    SameX A s0 (execCompletionRecord n s) := by
  unfold execCompletionRecord
  repeat' first
    | ((fail_if_success (conv => arg 2; fun)); extract_lets +onlyGivenNames y; clear_value (e : y = _); refine Same.letVar (A := A) (s0 := s0) e ?_ fun _ => ?_)
    | ((fail_if_success (conv => arg 2; fun)); extract_lets +onlyGivenNames y)
    | with_reducible first | assumption | apply State.writeRecord_same nM | apply State.endAbort_same nM | apply Same.next
    | with_reducible (refine Same.record ?_ (fun _ => ⟨rfl, rfl⟩) (fun _ => rfl) (fun _ => rfl) (fun _ => rfl) fun _ => rfl; first | assumption | apply State.writeRecord_same nM | apply State.endAbort_same nM | apply Same.next)
    | split

theorem State.flushRing_same {A : Aspect → Prop} (nM : ¬A .mem) {s0 s : State} {z0 z2 : _} (h : Same A s0 s) :
    Same A s0 (State.flushRing z0 s z2) := by
  induction z0 generalizing s z2 with
  | zero =>
    unfold State.flushRing
    repeat' first
      | ((fail_if_success (conv => arg 2; fun)); extract_lets +onlyGivenNames y)
      | with_reducible first | assumption | apply State.writeUnheld_same nM | apply State.passNext_same | apply State.passUnread_same nM | apply ih | refine Same.eqO (by assumption) ?_
      | with_reducible (refine Same.record ?_ (fun _ => ⟨rfl, rfl⟩) (fun _ => rfl) (fun _ => rfl) (fun _ => rfl) fun _ => rfl; first | assumption | apply State.writeUnheld_same nM | apply State.passNext_same | apply State.passUnread_same nM | apply ih | refine Same.eqO (by assumption) ?_)
      | split
  | succ n ih =>
    unfold State.flushRing
    repeat' first
      | ((fail_if_success (conv => arg 2; fun)); extract_lets +onlyGivenNames y)
      | with_reducible first | assumption | apply State.writeUnheld_same nM | apply State.passNext_same | apply State.passUnread_same nM | apply ih | refine Same.eqO (by assumption) ?_
      | with_reducible (refine Same.record ?_ (fun _ => ⟨rfl, rfl⟩) (fun _ => rfl) (fun _ => rfl) (fun _ => rfl) fun _ => rfl; first | assumption | apply State.writeUnheld_same nM | apply State.passNext_same | apply State.passUnread_same nM | apply ih | refine Same.eqO (by assumption) ?_)
      | split

theorem execRingStall_same {A : Aspect → Prop} (nM : ¬A .mem) {s0 s : State} {ring : _} (h : Same A s0 s) :
    SameX A s0 (execRingStall ring s) := by
  unfold execRingStall
  repeat' first
    | ((fail_if_success (conv => arg 2; fun)); extract_lets +onlyGivenNames y; clear_value (e : y = _); refine Same.letVar (A := A) (s0 := s0) e ?_ fun _ => ?_)
    | ((fail_if_success (conv => arg 2; fun)); extract_lets +onlyGivenNames y)
    | with_reducible first | assumption | apply State.setF_same | apply State.ringEvent_same | apply State.enableWrite_same nM | apply State.flushRing_same nM | apply Same.next
    | split

end Sys2Proof.Machine
end

