-- ==== Sys2Proof/Laws/SameFabric.lean ====
section
/-!
SUPPORT. The upkeep of memory, gate commands, collectives, ports and the partner link leave what Laws/Same.lean names.
-/

namespace Sys2Proof.Machine

set_option linter.all false

/-! ### Repair -/

theorem State.journalAdd_same {A : Aspect → Prop} {s0 s : State} {e : _} (h : Same A s0 s) :
    Same A s0 (State.journalAdd s e) := by
  unfold State.journalAdd
  repeat' first
    | ((fail_if_success (conv => arg 2; fun)); extract_lets +onlyGivenNames y)
    | with_reducible first | assumption | refine Same.record ?_ (fun _ => ⟨rfl, rfl⟩) (fun _ => rfl) (fun _ => rfl) (fun _ => rfl) fun _ => rfl

theorem State.storeInventory_same {A : Aspect → Prop} {s0 s : State} (h : Same A s0 s) :
    Same A s0 (State.storeInventory s) := by
  unfold State.storeInventory
  repeat' first
    | ((fail_if_success (conv => arg 2; fun)); extract_lets +onlyGivenNames y)
    | with_reducible first | assumption
    | with_reducible (refine Same.record ?_ (fun _ => ⟨rfl, rfl⟩) (fun _ => rfl) (fun _ => rfl) (fun _ => rfl) fun _ => rfl; first | assumption)
    | split

theorem State.keepRepair_same {A : Aspect → Prop} {s0 s : State} {rtype cause unit word1 word2 : _} (h : Same A s0 s) :
    Same A s0 (State.keepRepair s rtype cause unit word1 word2) := by
  unfold State.keepRepair
  repeat' first
    | ((fail_if_success (conv => arg 2; fun)); extract_lets +onlyGivenNames y; clear_value (e : y = _); refine Same.letVar (A := A) (s0 := s0) e ?_ fun _ => ?_)
    | ((fail_if_success (conv => arg 2; fun)); extract_lets +onlyGivenNames y)
    | with_reducible first | assumption | apply State.setF_same | apply State.journalAdd_same
    | with_reducible (refine Same.record ?_ (fun _ => ⟨rfl, rfl⟩) (fun _ => rfl) (fun _ => rfl) (fun _ => rfl) fun _ => rfl; first | assumption | apply State.setF_same | apply State.journalAdd_same)
    | split

theorem State.addRepair_same {A : Aspect → Prop} {s0 s : State} {rtype cause unit word1 word2 : _} (h : Same A s0 s) :
    Same A s0 (State.addRepair s rtype cause unit word1 word2) := by
  unfold State.addRepair
  repeat' first
    | ((fail_if_success (conv => arg 2; fun)); extract_lets +onlyGivenNames y)
    | with_reducible first | assumption | apply State.storeInventory_same | apply State.keepRepair_same

theorem State.dropRepairs_same {A : Aspect → Prop} {s0 s : State} {p : _} (h : Same A s0 s) :
    Same A s0 (State.dropRepairs s p) := by
  unfold State.dropRepairs
  repeat' first
    | ((fail_if_success (conv => arg 2; fun)); extract_lets +onlyGivenNames y; clear_value (e : y = _); refine Same.letVar (A := A) (s0 := s0) e ?_ fun _ => ?_)
    | ((fail_if_success (conv => arg 2; fun)); extract_lets +onlyGivenNames y)
    | with_reducible first | assumption | apply State.journalAdd_same | apply State.storeInventory_same | refine Same.foldl ?_ fun _ _ _ => ?_ | refine Same.record ?_ (fun _ => ⟨rfl, rfl⟩) (fun _ => rfl) (fun _ => rfl) (fun _ => rfl) fun _ => rfl

theorem State.testEvent_same {A : Aspect → Prop} {s0 s : State} {code severity data : _} (h : Same A s0 s) :
    Same A s0 (State.testEvent s code severity data) := by
  unfold State.testEvent
  repeat' with_reducible first | assumption | apply State.post_same

/-! ### Memory -/

theorem State.addrOf_same {A : Aspect → Prop} {s0 s : State} {p : _} (h : Same A s0 s) :
    SameG A s0 (State.addrOf s p) := by
  unfold State.addrOf
  repeat' first
    | ((fail_if_success (conv => arg 2; fun)); extract_lets +onlyGivenNames y)
    | with_reducible first | assumption | apply State.fresh_same | refine Same.eqG (by assumption) ?_
    | with_reducible (refine Same.record ?_ (fun _ => ⟨rfl, rfl⟩) (fun _ => rfl) (fun _ => rfl) (fun _ => rfl) fun _ => rfl; first | assumption | apply State.fresh_same | refine Same.eqG (by assumption) ?_)
    | split
    | with_reducible apply Same.mkG

theorem State.halveLeaky_same {A : Aspect → Prop} {s0 s : State} {z0 : _} (h : Same A s0 s) :
    Same A s0 (State.halveLeaky z0 s) := by
  induction z0 generalizing s with
  | zero =>
    unfold State.halveLeaky
    repeat' first
      | ((fail_if_success (conv => arg 2; fun)); extract_lets +onlyGivenNames y)
      | with_reducible first | assumption | apply State.setF_same | apply ih
  | succ n ih =>
    unfold State.halveLeaky
    repeat' first
      | ((fail_if_success (conv => arg 2; fun)); extract_lets +onlyGivenNames y)
      | with_reducible first | assumption | apply State.setF_same | apply ih

theorem execOperatingHourTick_same {A : Aspect → Prop} {s0 s : State} (h : Same A s0 s) :
    SameX A s0 (execOperatingHourTick s) := by
  unfold execOperatingHourTick
  refine Same.next ?_
  dsimp only
  refine Same.foldl (State.halveLeaky_same ?_) fun _ _ k => State.setF_same k
  exact Same.record h (fun _ => ⟨rfl, rfl⟩) (fun _ => rfl) (fun _ => rfl) (fun _ => rfl) fun _ => rfl

theorem execSelfRefreshEntry_same {A : Aspect → Prop} {s0 s : State} {k lch : _} (h : Same A s0 s) :
    SameX A s0 (execSelfRefreshEntry k lch s) := by
  unfold execSelfRefreshEntry
  repeat' first
    | ((fail_if_success (conv => arg 2; fun)); extract_lets +onlyGivenNames y)
    | with_reducible first | assumption | apply State.srState_same | apply Same.next
    | with_reducible (refine Same.record ?_ (fun _ => ⟨rfl, rfl⟩) (fun _ => rfl) (fun _ => rfl) (fun _ => rfl) fun _ => rfl; first | assumption | apply State.srState_same | apply Same.next)
    | split

theorem execSelfRefreshExit_same {A : Aspect → Prop} {s0 s : State} {k lch : _} (h : Same A s0 s) :
    SameX A s0 (execSelfRefreshExit k lch s) := by
  unfold execSelfRefreshExit
  repeat' first
    | ((fail_if_success (conv => arg 2; fun)); extract_lets +onlyGivenNames y)
    | with_reducible first | assumption | apply State.srExit_same | apply Same.next
    | split

theorem execPatrolScrub_same {A : Aspect → Prop} (nM : ¬A .mem) {s0 s : State} {k lch q mecc passEnd : _} (h : Same A s0 s) :
    SameX A s0 (execPatrolScrub k lch q mecc passEnd s) := by
  unfold execPatrolScrub
  repeat' first
    | ((fail_if_success (conv => arg 2; fun)); extract_lets +onlyGivenNames y; clear_value (e : y = _); refine Same.letVar (A := A) (s0 := s0) e ?_ fun _ => ?_)
    | ((fail_if_success (conv => arg 2; fun)); extract_lets +onlyGivenNames y)
    | with_reducible first | assumption | apply State.addSat_same | apply State.served_same | refine Same.ofF (State.readPlace_same nM ?_) | apply State.addrOf_same | apply Same.next | refine Same.eqG (by assumption) ?_
    | with_reducible (refine Same.record ?_ (fun _ => ⟨rfl, rfl⟩) (fun _ => rfl) (fun _ => rfl) (fun _ => rfl) fun _ => rfl; first | assumption | apply State.addSat_same | apply State.served_same | refine Same.ofF (State.readPlace_same nM ?_) | apply State.addrOf_same | apply Same.next | refine Same.eqG (by assumption) ?_)
    | split

theorem execDqsTrack_same {A : Aspect → Prop} {s0 s : State} {k lch ok : _} (h : Same A s0 s) :
    SameX A s0 (execDqsTrack k lch ok s) := by
  unfold execDqsTrack
  repeat' first
    | ((fail_if_success (conv => arg 2; fun)); extract_lets +onlyGivenNames y)
    | with_reducible first | assumption | apply State.spareTrigger_same | apply Same.next
    | split

theorem State.spareStart_same {A : Aspect → Prop} {s0 s : State} {k lch : _} (h : Same A s0 s) :
    Same A s0 (State.spareStart s k lch) := by
  unfold State.spareStart
  repeat' first
    | ((fail_if_success (conv => arg 2; fun)); extract_lets +onlyGivenNames y; clear_value (e : y = _); refine Same.letVar (A := A) (s0 := s0) e ?_ fun _ => ?_)
    | ((fail_if_success (conv => arg 2; fun)); extract_lets +onlyGivenNames y)
    | with_reducible first | assumption | apply State.setF_same | apply State.showStart_same | apply State.spareTrigger_same
    | split

theorem execSpareStartWrite_same {A : Aspect → Prop} {s0 s : State} {k lch : _} (h : Same A s0 s) :
    SameX A s0 (execSpareStartWrite k lch s) := by
  unfold execSpareStartWrite
  repeat' first
    | ((fail_if_success (conv => arg 2; fun)); extract_lets +onlyGivenNames y)
    | with_reducible first | assumption | apply State.spareStart_same | apply Same.next
    | split

theorem State.poisonFrom_same {A : Aspect → Prop} {s0 s : State} {k lch q : _} (h : Same A s0 s) :
    Same A s0 (State.poisonFrom s k lch q) := by
  unfold State.poisonFrom
  repeat' first
    | ((fail_if_success (conv => arg 2; fun)); extract_lets +onlyGivenNames y)
    | with_reducible first | assumption | refine Same.record ?_ (fun _ => ⟨rfl, rfl⟩) (fun _ => rfl) (fun _ => rfl) (fun _ => rfl) fun _ => rfl

theorem State.sparingStart_same {A : Aspect → Prop} {s0 s : State} {k : _} (h : Same A s0 s) :
    Same A s0 (State.sparingStart s k) := by
  unfold State.sparingStart
  repeat' first
    | ((fail_if_success (conv => arg 2; fun)); extract_lets +onlyGivenNames y; clear_value (e : y = _); refine Same.letVar (A := A) (s0 := s0) e ?_ fun _ => ?_)
    | ((fail_if_success (conv => arg 2; fun)); extract_lets +onlyGivenNames y)
    | with_reducible first | assumption | apply State.setF_same | apply State.showStart_same | apply State.stackFail_same | apply State.poisonFrom_same
    | with_reducible (refine Same.record ?_ (fun _ => ⟨rfl, rfl⟩) (fun _ => rfl) (fun _ => rfl) (fun _ => rfl) fun _ => rfl; first | assumption | apply State.setF_same | apply State.showStart_same | apply State.stackFail_same | apply State.poisonFrom_same)
    | split

theorem execSparingStart_same {A : Aspect → Prop} {s0 s : State} {k : _} (h : Same A s0 s) :
    SameX A s0 (execSparingStart k s) := by
  unfold execSparingStart
  repeat' first
    | ((fail_if_success (conv => arg 2; fun)); extract_lets +onlyGivenNames y)
    | with_reducible first | assumption | apply State.sparingStart_same | apply Same.next
    | split

theorem State.copyDone_same {A : Aspect → Prop} {s0 s : State} {k c : _} (h : Same A s0 s) :
    Same A s0 (State.copyDone s k c) := by
  unfold State.copyDone
  repeat' first
    | ((fail_if_success (conv => arg 2; fun)); extract_lets +onlyGivenNames y; clear_value (e : y = _); refine Same.letVar (A := A) (s0 := s0) e ?_ fun _ => ?_)
    | ((fail_if_success (conv => arg 2; fun)); extract_lets +onlyGivenNames y)
    | with_reducible first | assumption | apply State.setF_same | apply State.memEvent_same | apply State.showStart_same | apply State.addRepair_same | apply State.testEvent_same
    | with_reducible (refine Same.record ?_ (fun _ => ⟨rfl, rfl⟩) (fun _ => rfl) (fun _ => rfl) (fun _ => rfl) fun _ => rfl; first | assumption | apply State.setF_same | apply State.memEvent_same | apply State.showStart_same | apply State.addRepair_same | apply State.testEvent_same)
    | split

theorem execSparingCopyDone_same {A : Aspect → Prop} {s0 s : State} {k bad : _} (h : Same A s0 s) :
    SameX A s0 (execSparingCopyDone k bad s) := by
  unfold execSparingCopyDone
  repeat' first
    | ((fail_if_success (conv => arg 2; fun)); extract_lets +onlyGivenNames y; clear_value (e : y = _); refine Same.letVar (A := A) (s0 := s0) e ?_ fun _ => ?_)
    | ((fail_if_success (conv => arg 2; fun)); extract_lets +onlyGivenNames y)
    | with_reducible first | assumption | apply State.poisonPair_same | apply State.copyDone_same | apply Same.next | refine Same.foldl ?_ fun _ _ _ => ?_
    | split

theorem State.copyMoves_same {A : Aspect → Prop} {s0 s : State} {l : _} (h : Same A s0 s) :
    Same A s0 (State.copyMoves s l) := by
  unfold State.copyMoves
  repeat' first
    | ((fail_if_success (conv => arg 2; fun)); extract_lets +onlyGivenNames y; clear_value (e : y = _); refine Same.letVar (A := A) (s0 := s0) e ?_ fun _ => ?_)
    | ((fail_if_success (conv => arg 2; fun)); extract_lets +onlyGivenNames y)
    | with_reducible first | assumption | apply State.setF_same | refine Same.foldl ?_ fun _ _ _ => ?_
    | with_reducible (refine Same.record ?_ (fun _ => ⟨rfl, rfl⟩) (fun _ => rfl) (fun _ => rfl) (fun _ => rfl) fun _ => rfl; first | assumption | apply State.setF_same | refine Same.foldl ?_ fun _ _ _ => ?_)
    | split

theorem execChannelUnresponsive_same {A : Aspect → Prop} {s0 s : State} {k lch copied : _} (h : Same A s0 s) :
    SameX A s0 (execChannelUnresponsive k lch copied s) := by
  unfold execChannelUnresponsive
  repeat' first
    | ((fail_if_success (conv => arg 2; fun)); extract_lets +onlyGivenNames y; clear_value (e : y = _); refine Same.letVar (A := A) (s0 := s0) e ?_ fun _ => ?_)
    | ((fail_if_success (conv => arg 2; fun)); extract_lets +onlyGivenNames y)
    | with_reducible first | assumption | apply State.setF_same | apply State.spareTrigger_same | apply State.stackFail_same | apply State.poisonFrom_same | apply Same.next
    | split

theorem State.showTop_same {A : Aspect → Prop} {s0 s : State} (h : Same A s0 s) :
    Same A s0 (State.showTop s) := by
  unfold State.showTop
  repeat' first
    | ((fail_if_success (conv => arg 2; fun)); extract_lets +onlyGivenNames y)
    | with_reducible first | assumption | apply State.setF_same

theorem State.millTopCheck_same {A : Aspect → Prop} {s0 s : State} (h : Same A s0 s) :
    Same A s0 (State.millTopCheck s) := by
  unfold State.millTopCheck
  repeat' first
    | ((fail_if_success (conv => arg 2; fun)); extract_lets +onlyGivenNames y)
    | with_reducible first | assumption | apply State.setBit_same | apply State.clearBit_same | refine Same.foldl ?_ fun _ _ _ => ?_
    | split

theorem State.mirAfter_same {A : Aspect → Prop} {s0 s : State} {old r : _} (h : Same A s0 s) :
    Same A s0 (State.mirAfter s old r) := by
  unfold State.mirAfter
  repeat' first
    | ((fail_if_success (conv => arg 2; fun)); extract_lets +onlyGivenNames y; clear_value (e : y = _); refine Same.letVar (A := A) (s0 := s0) e ?_ fun _ => ?_)
    | ((fail_if_success (conv => arg 2; fun)); extract_lets +onlyGivenNames y)
    | with_reducible first | assumption | apply State.setF_same | apply State.allDirty_same
    | with_reducible (refine Same.record ?_ (fun _ => ⟨rfl, rfl⟩) (fun _ => rfl) (fun _ => rfl) (fun _ => rfl) fun _ => rfl; first | assumption | apply State.setF_same | apply State.allDirty_same)
    | split

theorem State.commitMem_same {A : Aspect → Prop} (nM : ¬A .mem) (nL : ¬A .live) {s0 s : State} (h : Same A s0 s) :
    Same A s0 (State.commitMem s) := by
  unfold State.commitMem
  repeat' first
    | ((fail_if_success (conv => arg 2; fun)); extract_lets +onlyGivenNames y; clear_value (e : y = _); refine Same.letVar (A := A) (s0 := s0) e ?_ fun _ => ?_)
    | ((fail_if_success (conv => arg 2; fun)); extract_lets +onlyGivenNames y)
    | with_reducible first | assumption | apply State.setF_same | apply State.commitAll_same nL | apply State.commitRange_same nL | apply State.remapMemory_same nM | apply State.showTop_same | apply State.millTopCheck_same | apply State.mirAfter_same | refine Same.foldl ?_ fun _ _ _ => ?_
    | split

theorem execMemCommit_same {A : Aspect → Prop} (nM : ¬A .mem) (nL : ¬A .live) {s0 s : State} (h : Same A s0 s) :
    SameX A s0 (execMemCommit s) := by
  unfold execMemCommit
  repeat' first
    | ((fail_if_success (conv => arg 2; fun)); extract_lets +onlyGivenNames y)
    | with_reducible first | assumption | apply State.commitMem_same nM nL | apply Same.next
    | split

theorem State.commitMil_same {A : Aspect → Prop} (nL : ¬A .live) {s0 s : State} (h : Same A s0 s) :
    Same A s0 (State.commitMil s) := by
  unfold State.commitMil
  repeat' first
    | ((fail_if_success (conv => arg 2; fun)); extract_lets +onlyGivenNames y; clear_value (e : y = _); refine Same.letVar (A := A) (s0 := s0) e ?_ fun _ => ?_)
    | ((fail_if_success (conv => arg 2; fun)); extract_lets +onlyGivenNames y)
    | with_reducible first | assumption | apply State.setF_same | apply State.commitRange_same nL | apply State.setFlag_same
    | with_reducible (refine Same.record ?_ (fun _ => ⟨rfl, rfl⟩) (fun _ => rfl) (fun _ => rfl) (fun _ => rfl) fun _ => rfl; first | assumption | apply State.setF_same | apply State.commitRange_same nL | apply State.setFlag_same)
    | split

theorem execMilCommit_same {A : Aspect → Prop} (nL : ¬A .live) {s0 s : State} (h : Same A s0 s) :
    SameX A s0 (execMilCommit s) := by
  unfold execMilCommit
  repeat' first
    | ((fail_if_success (conv => arg 2; fun)); extract_lets +onlyGivenNames y)
    | with_reducible first | assumption | apply State.commitMil_same nL | apply Same.next
    | with_reducible (refine Same.record ?_ (fun _ => ⟨rfl, rfl⟩) (fun _ => rfl) (fun _ => rfl) (fun _ => rfl) fun _ => rfl; first | assumption | apply State.commitMil_same nL | apply Same.next)
    | split

theorem execMilOldSetRetired_same {A : Aspect → Prop} {s0 s : State} (h : Same A s0 s) :
    SameX A s0 (execMilOldSetRetired s) := by
  unfold execMilOldSetRetired
  repeat' first
    | ((fail_if_success (conv => arg 2; fun)); extract_lets +onlyGivenNames y)
    | with_reducible first | assumption | apply State.setF_same | apply Same.next
    | split

/-! ### Gates -/

theorem State.signalLost_same {A : Aspect → Prop} {s0 s : State} {g x : _} (h : Same A s0 s) :
    Same A s0 (State.signalLost s g x) := by
  unfold State.signalLost
  repeat' first
    | ((fail_if_success (conv => arg 2; fun)); extract_lets +onlyGivenNames y)
    | with_reducible first | assumption | apply State.addSat_same | apply State.gateErr_same

theorem State.trySignal_same {A : Aspect → Prop} {s0 s : State} {h1 : _} (h : Same A s0 s) :
    SameF A s0 (State.trySignal s h1) := by
  unfold State.trySignal
  repeat' first
    | ((fail_if_success (conv => arg 2; fun)); extract_lets +onlyGivenNames y; clear_value (e : y = _); refine Same.letVar (A := A) (s0 := s0) e ?_ fun _ => ?_)
    | ((fail_if_success (conv => arg 2; fun)); extract_lets +onlyGivenNames y)
    | with_reducible first | assumption | apply State.sendPkt_same | apply State.takeTag_same | apply State.addReq_same | apply State.signalLost_same | refine Same.eqG (by assumption) ?_
    | with_reducible (refine Same.record ?_ (fun _ => ⟨rfl, rfl⟩) (fun _ => rfl) (fun _ => rfl) (fun _ => rfl) fun _ => rfl; first | assumption | apply State.sendPkt_same | apply State.takeTag_same | apply State.addReq_same | apply State.signalLost_same | refine Same.eqG (by assumption) ?_)
    | split
    | with_reducible apply Same.mkF

theorem State.sendSignal_same {A : Aspect → Prop} {s0 s : State} {h1 : _} (h : Same A s0 s) :
    Same A s0 (State.sendSignal s h1) := by
  unfold State.sendSignal
  repeat' first
    | ((fail_if_success (conv => arg 2; fun)); extract_lets +onlyGivenNames y)
    | with_reducible first | assumption | apply State.trySignal_same | refine Same.eqF (by assumption) ?_
    | with_reducible (refine Same.record ?_ (fun _ => ⟨rfl, rfl⟩) (fun _ => rfl) (fun _ => rfl) (fun _ => rfl) fun _ => rfl; first | assumption | apply State.trySignal_same | refine Same.eqF (by assumption) ?_)
    | split

theorem execRemoteSignalSend_same {A : Aspect → Prop} {s0 s : State} {n : _} (h : Same A s0 s) :
    SameX A s0 (execRemoteSignalSend n s) := by
  unfold execRemoteSignalSend
  repeat' first
    | ((fail_if_success (conv => arg 2; fun)); extract_lets +onlyGivenNames y)
    | with_reducible first | assumption | apply State.trySignal_same | apply Same.next | refine Same.eqF (by assumption) ?_
    | with_reducible (refine Same.record ?_ (fun _ => ⟨rfl, rfl⟩) (fun _ => rfl) (fun _ => rfl) (fun _ => rfl) fun _ => rfl; first | assumption | apply State.trySignal_same | apply Same.next | refine Same.eqF (by assumption) ?_)
    | split

theorem execGwait_same {A : Aspect → Prop} {s0 s : State} {c : _} (h : Same A s0 s) :
    SameX A s0 (execGwait c s) := by
  unfold execGwait
  repeat' first
    | ((fail_if_success (conv => arg 2; fun)); extract_lets +onlyGivenNames y; clear_value (e : y = _); refine Same.letVar (A := A) (s0 := s0) e ?_ fun _ => ?_)
    | ((fail_if_success (conv => arg 2; fun)); extract_lets +onlyGivenNames y)
    | with_reducible first | assumption | apply State.setSreg_same | apply State.nextPc_same | apply State.steep_same | refine State.issue_same ?_ (fun _ _ _ => ?_) | apply State.setQueue_same | apply State.setCount_same | apply Same.next
    | split

theorem execGsignal_same {A : Aspect → Prop} {s0 s : State} {c : _} (h : Same A s0 s) :
    SameX A s0 (execGsignal c s) := by
  unfold execGsignal
  repeat' first
    | ((fail_if_success (conv => arg 2; fun)); extract_lets +onlyGivenNames y; clear_value (e : y = _); refine Same.letVar (A := A) (s0 := s0) e ?_ fun _ => ?_)
    | ((fail_if_success (conv => arg 2; fun)); extract_lets +onlyGivenNames y)
    | with_reducible first | assumption | refine Same.ofG (State.fresh_same ?_) | apply State.setSreg_same | apply State.nextPc_same | apply State.steep_same | refine State.issue_same ?_ (fun _ _ _ => ?_) | refine Same.ofF (State.gateSignal_same ?_) | apply State.sendSignal_same | apply Same.next
    | split

theorem execGbar_same {A : Aspect → Prop} {s0 s : State} {c : _} (h : Same A s0 s) :
    SameX A s0 (execGbar c s) := by
  unfold execGbar
  repeat' first
    | ((fail_if_success (conv => arg 2; fun)); extract_lets +onlyGivenNames y; clear_value (e : y = _); refine Same.letVar (A := A) (s0 := s0) e ?_ fun _ => ?_)
    | ((fail_if_success (conv => arg 2; fun)); extract_lets +onlyGivenNames y)
    | with_reducible first | assumption | apply State.setSreg_same | apply State.nextPc_same | apply State.steep_same | refine State.issue_same ?_ (fun _ _ _ => ?_) | apply State.barrier_same | apply Same.next
    | split

theorem execGbarWaitOnly_same {A : Aspect → Prop} {s0 s : State} {c : _} (h : Same A s0 s) :
    SameX A s0 (execGbarWaitOnly c s) := by
  unfold execGbarWaitOnly
  repeat' first
    | ((fail_if_success (conv => arg 2; fun)); extract_lets +onlyGivenNames y; clear_value (e : y = _); refine Same.letVar (A := A) (s0 := s0) e ?_ fun _ => ?_)
    | ((fail_if_success (conv => arg 2; fun)); extract_lets +onlyGivenNames y)
    | with_reducible first | assumption | apply State.setSreg_same | apply State.nextPc_same | apply State.steep_same | refine State.issue_same ?_ (fun _ _ _ => ?_) | apply Same.next
    | split

theorem execGtest_same {A : Aspect → Prop} {s0 s : State} {c : _} (h : Same A s0 s) :
    SameX A s0 (execGtest c s) := by
  unfold execGtest
  repeat' first
    | ((fail_if_success (conv => arg 2; fun)); extract_lets +onlyGivenNames y; clear_value (e : y = _); refine Same.letVar (A := A) (s0 := s0) e ?_ fun _ => ?_)
    | ((fail_if_success (conv => arg 2; fun)); extract_lets +onlyGivenNames y)
    | with_reducible first | assumption | apply State.setSreg_same | apply State.nextPc_same | refine State.issue_same ?_ (fun _ _ _ => ?_) | apply State.setCount_same | apply Same.next
    | split

theorem execBarrierFlipCascade_same {A : Aspect → Prop} {s0 s : State} {g : _} (h : Same A s0 s) :
    SameX A s0 (execBarrierFlipCascade g s) := by
  unfold execBarrierFlipCascade
  repeat' first
    | ((fail_if_success (conv => arg 2; fun)); extract_lets +onlyGivenNames y)
    | with_reducible first | assumption | apply State.barrier_same | apply Same.next
    | with_reducible (refine Same.record ?_ (fun _ => ⟨rfl, rfl⟩) (fun _ => rfl) (fun _ => rfl) (fun _ => rfl) fun _ => rfl; first | assumption | apply State.barrier_same | apply Same.next)
    | split

theorem State.stgSignal_same {A : Aspect → Prop} {s0 s : State} {v : _} (h : Same A s0 s) :
    Same A s0 (State.stgSignal s v) := by
  unfold State.stgSignal
  repeat' first
    | with_reducible first | assumption | refine Same.ofF (State.gateSignal_same ?_)
    | split

theorem execStgSignal_same {A : Aspect → Prop} {s0 s : State} {value : _} (h : Same A s0 s) :
    SameX A s0 (execStgSignal value s) := by
  unfold execStgSignal
  repeat' first
    | ((fail_if_success (conv => arg 2; fun)); extract_lets +onlyGivenNames y)
    | with_reducible first | assumption | apply State.stgSignal_same | apply Same.next
    | split

theorem State.commitGate_same {A : Aspect → Prop} (nL : ¬A .live) {s0 s : State} {g : _} (h : Same A s0 s) :
    Same A s0 (State.commitGate s g) := by
  unfold State.commitGate
  repeat' first
    | ((fail_if_success (conv => arg 2; fun)); extract_lets +onlyGivenNames y; clear_value (e : y = _); refine Same.letVar (A := A) (s0 := s0) e ?_ fun _ => ?_)
    | ((fail_if_success (conv => arg 2; fun)); extract_lets +onlyGivenNames y)
    | with_reducible first | assumption | apply State.setF_same | apply State.commitAll_same nL | apply State.resetGate_same
    | split

theorem execGateCommit_same {A : Aspect → Prop} (nL : ¬A .live) {s0 s : State} {g : _} (h : Same A s0 s) :
    SameX A s0 (execGateCommit g s) := by
  unfold execGateCommit
  repeat' first
    | ((fail_if_success (conv => arg 2; fun)); extract_lets +onlyGivenNames y)
    | with_reducible first | assumption | apply State.commitGate_same nL | apply Same.next
    | split

theorem execGateReset_same {A : Aspect → Prop} {s0 s : State} {g : _} (h : Same A s0 s) :
    SameX A s0 (execGateReset g s) := by
  unfold execGateReset
  repeat' first
    | ((fail_if_success (conv => arg 2; fun)); extract_lets +onlyGivenNames y)
    | with_reducible first | assumption | apply State.resetGate_same | apply Same.next
    | split

/-! ### Collective -/

theorem State.setColl_same {A : Aspect → Prop} {s0 s : State} {ch k : _} (h : Same A s0 s) :
    Same A s0 (State.setColl s ch k) := by
  unfold State.setColl
  repeat' first
    | ((fail_if_success (conv => arg 2; fun)); extract_lets +onlyGivenNames y)
    | with_reducible first | assumption | refine Same.record ?_ (fun _ => ⟨rfl, rfl⟩) (fun _ => rfl) (fun _ => rfl) (fun _ => rfl) fun _ => rfl

theorem State.collShow_same {A : Aspect → Prop} {s0 s : State} {ch st : _} (h : Same A s0 s) :
    Same A s0 (State.collShow s ch st) := by
  unfold State.collShow
  repeat' first
    | ((fail_if_success (conv => arg 2; fun)); extract_lets +onlyGivenNames y; clear_value (e : y = _); refine Same.letVar (A := A) (s0 := s0) e ?_ fun _ => ?_)
    | ((fail_if_success (conv => arg 2; fun)); extract_lets +onlyGivenNames y)
    | with_reducible first | assumption | apply State.setF_same | apply State.addWrap_same | apply State.ixfEvent_same
    | split

theorem State.grpAfter_same {A : Aspect → Prop} {s0 s : State} {g st : _} (h : Same A s0 s) :
    Same A s0 (State.grpAfter s g st) := by
  unfold State.grpAfter
  repeat' first
    | ((fail_if_success (conv => arg 2; fun)); extract_lets +onlyGivenNames y; clear_value (e : y = _); refine Same.letVar (A := A) (s0 := s0) e ?_ fun _ => ?_)
    | ((fail_if_success (conv => arg 2; fun)); extract_lets +onlyGivenNames y)
    | with_reducible first | assumption | apply State.setF_same | apply State.addWrap_same
    | split

theorem State.collReport_same {A : Aspect → Prop} (nM : ¬A .mem) {s0 s : State} {addr st gate : _} (h : Same A s0 s) :
    Same A s0 (State.collReport s addr st gate) := by
  unfold State.collReport
  repeat' first
    | ((fail_if_success (conv => arg 2; fun)); extract_lets +onlyGivenNames y; clear_value (e : y = _); refine Same.letVar (A := A) (s0 := s0) e ?_ fun _ => ?_)
    | ((fail_if_success (conv => arg 2; fun)); extract_lets +onlyGivenNames y)
    | with_reducible first | assumption | refine Same.ofF (State.memWrite_same nM ?_) | apply State.signalOne_same
    | split

theorem State.dropCollPkts_same {A : Aspect → Prop} {s0 s : State} {aux : _} (h : Same A s0 s) :
    Same A s0 (State.dropCollPkts s aux) := by
  unfold State.dropCollPkts
  repeat' first
    | ((fail_if_success (conv => arg 2; fun)); extract_lets +onlyGivenNames y)
    | with_reducible first | assumption | refine Same.record ?_ (fun _ => ⟨rfl, rfl⟩) (fun _ => rfl) (fun _ => rfl) (fun _ => rfl) fun _ => rfl

theorem State.collFinish_same {A : Aspect → Prop} (nM : ¬A .mem) {s0 s : State} {ch st : _} (h : Same A s0 s) :
    Same A s0 (State.collFinish s ch st) := by
  unfold State.collFinish
  repeat' first
    | ((fail_if_success (conv => arg 2; fun)); extract_lets +onlyGivenNames y; clear_value (e : y = _); refine Same.letVar (A := A) (s0 := s0) e ?_ fun _ => ?_)
    | ((fail_if_success (conv => arg 2; fun)); extract_lets +onlyGivenNames y)
    | with_reducible first | assumption | apply State.collShow_same | apply State.grpAfter_same | apply State.collReport_same nM | apply State.dropCollPkts_same
    | with_reducible (refine Same.record ?_ (fun _ => ⟨rfl, rfl⟩) (fun _ => rfl) (fun _ => rfl) (fun _ => rfl) fun _ => rfl; first | assumption | apply State.collShow_same | apply State.grpAfter_same | apply State.collReport_same nM | apply State.dropCollPkts_same)
    | split

theorem State.collPacket_same {A : Aspect → Prop} {s0 s : State} {ch port k typ j phase addr data : _} (h : Same A s0 s) :
    Same A s0 (State.collPacket s ch port k typ j phase addr data) := by
  unfold State.collPacket
  repeat' first
    | ((fail_if_success (conv => arg 2; fun)); extract_lets +onlyGivenNames y; clear_value (e : y = _); refine Same.letVar (A := A) (s0 := s0) e ?_ fun _ => ?_)
    | ((fail_if_success (conv => arg 2; fun)); extract_lets +onlyGivenNames y)
    | with_reducible first | assumption | apply State.sendPkt_same | apply State.takeTag_same | apply State.addReq_same | apply State.setColl_same | refine Same.eqG (by assumption) ?_
    | with_reducible (refine Same.record ?_ (fun _ => ⟨rfl, rfl⟩) (fun _ => rfl) (fun _ => rfl) (fun _ => rfl) fun _ => rfl; first | assumption | apply State.sendPkt_same | apply State.takeTag_same | apply State.addReq_same | apply State.setColl_same | refine Same.eqG (by assumption) ?_)
    | split

theorem State.sendReadies_same {A : Aspect → Prop} {s0 s : State} {ch k z3 : _} (h : Same A s0 s) :
    SameO A s0 (State.sendReadies s ch k z3) := by
  induction z3 generalizing s ch k with
  | nil =>
    unfold State.sendReadies
    repeat' first
      | ((fail_if_success (conv => arg 2; fun)); extract_lets +onlyGivenNames y)
      | with_reducible first | assumption | apply State.collPacket_same | apply ih | apply Same.someO | apply Same.noneO
      | split
  | cons hd tl ih =>
    unfold State.sendReadies
    repeat' first
      | ((fail_if_success (conv => arg 2; fun)); extract_lets +onlyGivenNames y)
      | with_reducible first | assumption | apply State.collPacket_same | apply ih | apply Same.someO | apply Same.noneO
      | split

theorem State.collBytes_same {A : Aspect → Prop} (nM : ¬A .mem) {s0 s : State} {z0 z2 z3 z4 z5 z6 z7 z8 z9 z10 : _} (h : Same A s0 s) :
    SameF A s0 (State.collBytes z0 s z2 z3 z4 z5 z6 z7 z8 z9 z10) := by
  induction z0 generalizing s z2 z3 z4 z5 z6 z7 z8 z9 z10 with
  | zero =>
    unfold State.collBytes
    repeat' first
      | ((fail_if_success (conv => arg 2; fun)); extract_lets +onlyGivenNames y; clear_value (e : y = _); refine Same.letF (A := A) (s0 := s0) e ?_ fun _ => ?_)
      | ((fail_if_success (conv => arg 2; fun)); extract_lets +onlyGivenNames y)
      | with_reducible first | assumption | apply State.memRead_same nM | apply State.collPacket_same | exact Same.ofF (by assumption) | apply ih
      | split
      | with_reducible apply Same.mkF
  | succ n ih =>
    unfold State.collBytes
    repeat' first
      | ((fail_if_success (conv => arg 2; fun)); extract_lets +onlyGivenNames y; clear_value (e : y = _); refine Same.letF (A := A) (s0 := s0) e ?_ fun _ => ?_)
      | ((fail_if_success (conv => arg 2; fun)); extract_lets +onlyGivenNames y)
      | with_reducible first | assumption | apply State.memRead_same nM | apply State.collPacket_same | exact Same.ofF (by assumption) | apply ih
      | split
      | with_reducible apply Same.mkF

theorem State.pushRank_same {A : Aspect → Prop} (nM : ¬A .mem) {s0 s : State} {ch j ecc : _} (h : Same A s0 s) :
    Same A s0 (State.pushRank s ch j ecc) := by
  unfold State.pushRank
  repeat' first
    | ((fail_if_success (conv => arg 2; fun)); extract_lets +onlyGivenNames y; clear_value (e : y = _); refine Same.letVar (A := A) (s0 := s0) e ?_ fun _ => ?_)
    | ((fail_if_success (conv => arg 2; fun)); extract_lets +onlyGivenNames y)
    | with_reducible first | assumption | apply State.setColl_same | apply State.collFinish_same nM | apply State.collBytes_same nM | refine Same.eqF (by assumption) ?_
    | with_reducible (refine Same.record ?_ (fun _ => ⟨rfl, rfl⟩) (fun _ => rfl) (fun _ => rfl) (fun _ => rfl) fun _ => rfl; first | assumption | apply State.setColl_same | apply State.collFinish_same nM | apply State.collBytes_same nM | refine Same.eqF (by assumption) ?_)
    | split
    | with_reducible apply Same.mkF

theorem State.collPush_same {A : Aspect → Prop} (nM : ¬A .mem) {s0 s : State} {ch ecc : _} (h : Same A s0 s) :
    Same A s0 (State.collPush s ch ecc) := by
  unfold State.collPush
  repeat' first
    | ((fail_if_success (conv => arg 2; fun)); extract_lets +onlyGivenNames y)
    | with_reducible first | assumption | apply State.pushRank_same nM | refine Same.foldl ?_ fun _ _ _ => ?_
    | split

theorem State.takeReady_same {A : Aspect → Prop} (nM : ¬A .mem) {s0 s : State} {ch r ecc : _} (h : Same A s0 s) :
    Same A s0 (State.takeReady s ch r ecc) := by
  unfold State.takeReady
  repeat' first
    | ((fail_if_success (conv => arg 2; fun)); extract_lets +onlyGivenNames y)
    | with_reducible first | assumption | apply State.setColl_same | apply State.collFinish_same nM | apply State.collPush_same nM
    | split

theorem State.collCopy_same {A : Aspect → Prop} (nM : ¬A .mem) {s0 s : State} {src dst n ecc : _} (h : Same A s0 s) :
    SameF A s0 (State.collCopy s src dst n ecc) := by
  unfold State.collCopy
  repeat' first
    | ((fail_if_success (conv => arg 2; fun)); extract_lets +onlyGivenNames y)
    | with_reducible first | assumption | apply State.memRead_same nM | apply State.memWrite_same nM | refine Same.eqF (by assumption) ?_
    | with_reducible (refine Same.record ?_ (fun _ => ⟨rfl, rfl⟩) (fun _ => rfl) (fun _ => rfl) (fun _ => rfl) fun _ => rfl; first | assumption | apply State.memRead_same nM | apply State.memWrite_same nM | refine Same.eqF (by assumption) ?_)
    | split
    | with_reducible apply Same.mkF

theorem State.ownCopy_same {A : Aspect → Prop} (nM : ¬A .mem) {s0 s : State} {k ecc : _} (h : Same A s0 s) :
    SameF A s0 (State.ownCopy s k ecc) := by
  unfold State.ownCopy
  repeat' first
    | ((fail_if_success (conv => arg 2; fun)); extract_lets +onlyGivenNames y)
    | with_reducible first | assumption | apply State.collCopy_same nM
    | split
    | with_reducible apply Same.mkF

theorem State.keepShare_same {A : Aspect → Prop} (nM : ¬A .mem) {s0 s : State} {k ecc : _} (h : Same A s0 s) :
    SameF A s0 (State.keepShare s k ecc) := by
  unfold State.keepShare
  repeat' first
    | ((fail_if_success (conv => arg 2; fun)); extract_lets +onlyGivenNames y)
    | with_reducible first | assumption | apply State.memRead_same nM | refine Same.eqF (by assumption) ?_
    | with_reducible (refine Same.record ?_ (fun _ => ⟨rfl, rfl⟩) (fun _ => rfl) (fun _ => rfl) (fun _ => rfl) fun _ => rfl; first | assumption | apply State.memRead_same nM | refine Same.eqF (by assumption) ?_)
    | split
    | with_reducible apply Same.mkF

theorem State.collRun_same {A : Aspect → Prop} (nM : ¬A .mem) {s0 s : State} {ch k ecc : _} (h : Same A s0 s) :
    Same A s0 (State.collRun s ch k ecc) := by
  unfold State.collRun
  repeat' first
    | ((fail_if_success (conv => arg 2; fun)); extract_lets +onlyGivenNames y; clear_value (e : y = _); refine Same.letVar (A := A) (s0 := s0) e ?_ fun _ => ?_)
    | ((fail_if_success (conv => arg 2; fun)); extract_lets +onlyGivenNames y)
    | with_reducible first | assumption | apply State.setF_same | apply State.setColl_same | apply State.collFinish_same nM | apply State.sendReadies_same | apply State.takeReady_same nM | apply State.ownCopy_same nM | apply State.keepShare_same nM | refine Same.foldl ?_ fun _ _ _ => ?_ | refine Same.eqF (by assumption) ?_ | refine Same.eqO (by assumption) ?_
    | with_reducible (refine Same.record ?_ (fun _ => ⟨rfl, rfl⟩) (fun _ => rfl) (fun _ => rfl) (fun _ => rfl) fun _ => rfl; first | assumption | apply State.setF_same | apply State.setColl_same | apply State.collFinish_same nM | apply State.sendReadies_same | apply State.takeReady_same nM | apply State.ownCopy_same nM | apply State.keepShare_same nM | refine Same.foldl ?_ fun _ _ _ => ?_ | refine Same.eqF (by assumption) ?_ | refine Same.eqO (by assumption) ?_)
    | split

theorem State.collRefuse_same {A : Aspect → Prop} (nM : ¬A .mem) {s0 s : State} {ch addr st d : _} (h : Same A s0 s) :
    Same A s0 (State.collRefuse s ch addr st d) := by
  unfold State.collRefuse
  repeat' first
    | ((fail_if_success (conv => arg 2; fun)); extract_lets +onlyGivenNames y)
    | with_reducible first | assumption | apply State.collShow_same | apply State.grpAfter_same | apply State.collReport_same nM

theorem State.collBegin_same {A : Aspect → Prop} (nM : ¬A .mem) {s0 s : State} {ch addr b ecc : _} (h : Same A s0 s) :
    Same A s0 (State.collBegin s ch addr b ecc) := by
  unfold State.collBegin
  repeat' first
    | ((fail_if_success (conv => arg 2; fun)); extract_lets +onlyGivenNames y; clear_value (e : y = _); refine Same.letVar (A := A) (s0 := s0) e ?_ fun _ => ?_)
    | ((fail_if_success (conv => arg 2; fun)); extract_lets +onlyGivenNames y)
    | with_reducible first | assumption | apply State.memRead_same nM | refine Same.ofF (State.memWrite_same nM ?_) | apply State.collRun_same nM | apply State.collRefuse_same nM | refine Same.eqF (by assumption) ?_
    | with_reducible (refine Same.record ?_ (fun _ => ⟨rfl, rfl⟩) (fun _ => rfl) (fun _ => rfl) (fun _ => rfl) fun _ => rfl; first | assumption | apply State.memRead_same nM | refine Same.ofF (State.memWrite_same nM ?_) | apply State.collRun_same nM | apply State.collRefuse_same nM | refine Same.eqF (by assumption) ?_)
    | split

theorem execCollStart_same {A : Aspect → Prop} (nM : ¬A .mem) {s0 s : State} {ch mecc : _} (h : Same A s0 s) :
    SameX A s0 (execCollStart ch mecc s) := by
  unfold execCollStart
  repeat' first
    | ((fail_if_success (conv => arg 2; fun)); extract_lets +onlyGivenNames y; clear_value (e : y = _); refine Same.letVar (A := A) (s0 := s0) e ?_ fun _ => ?_)
    | ((fail_if_success (conv => arg 2; fun)); extract_lets +onlyGivenNames y)
    | with_reducible first | assumption | apply State.addWrap_same | apply State.memRead_same nM | apply State.setCount_same | apply State.collShow_same | apply State.collReport_same nM | apply State.collBegin_same nM | apply Same.next | refine Same.eqF (by assumption) ?_
    | with_reducible (refine Same.record ?_ (fun _ => ⟨rfl, rfl⟩) (fun _ => rfl) (fun _ => rfl) (fun _ => rfl) fun _ => rfl; first | assumption | apply State.addWrap_same | apply State.memRead_same nM | apply State.setCount_same | apply State.collShow_same | apply State.collReport_same nM | apply State.collBegin_same nM | apply Same.next | refine Same.eqF (by assumption) ?_)
    | split

theorem execCollComplete_same {A : Aspect → Prop} (nM : ¬A .mem) {s0 s : State} {ch : _} (h : Same A s0 s) :
    SameX A s0 (execCollComplete ch s) := by
  unfold execCollComplete
  repeat' first
    | ((fail_if_success (conv => arg 2; fun)); extract_lets +onlyGivenNames y)
    | with_reducible first | assumption | apply State.collFinish_same nM | apply Same.next
    | split

theorem execCollTimeout_same {A : Aspect → Prop} (nM : ¬A .mem) {s0 s : State} {ch : _} (h : Same A s0 s) :
    SameX A s0 (execCollTimeout ch s) := by
  unfold execCollTimeout
  repeat' first
    | ((fail_if_success (conv => arg 2; fun)); extract_lets +onlyGivenNames y)
    | with_reducible first | assumption | apply State.collFinish_same nM | apply Same.next

/-! ### FabricUnit -/

theorem State.sendLate_same {A : Aspect → Prop} {s0 s : State} {a : _} (h : Same A s0 s) :
    Same A s0 (State.sendLate s a) := by
  unfold State.sendLate
  repeat' first
    | ((fail_if_success (conv => arg 2; fun)); extract_lets +onlyGivenNames y)
    | with_reducible first | assumption | apply State.sendPkt_same | apply State.sendHost_same
    | split

theorem State.sendLates_same {A : Aspect → Prop} {s0 s : State} {z1 : _} (h : Same A s0 s) :
    Same A s0 (State.sendLates s z1) := by
  induction z1 generalizing s with
  | nil =>
    unfold State.sendLates
    repeat' first
      | ((fail_if_success (conv => arg 2; fun)); extract_lets +onlyGivenNames y)
      | with_reducible first | assumption | apply State.sendLate_same | apply ih
      | split
  | cons hd tl ih =>
    unfold State.sendLates
    repeat' first
      | ((fail_if_success (conv => arg 2; fun)); extract_lets +onlyGivenNames y)
      | with_reducible first | assumption | apply State.sendLate_same | apply ih
      | split

theorem State.mirrorDone_same {A : Aspect → Prop} {s0 s : State} {tag : _} (h : Same A s0 s) :
    Same A s0 (State.mirrorDone s tag) := by
  unfold State.mirrorDone
  repeat' first
    | ((fail_if_success (conv => arg 2; fun)); extract_lets +onlyGivenNames y; clear_value (e : y = _); refine Same.letVar (A := A) (s0 := s0) e ?_ fun _ => ?_)
    | ((fail_if_success (conv => arg 2; fun)); extract_lets +onlyGivenNames y)
    | with_reducible first | assumption | apply State.dropReq_same | apply State.answerTag_same | apply State.sendLates_same | refine Same.foldl ?_ fun _ _ _ => ?_ | refine Same.record ?_ (fun _ => ⟨rfl, rfl⟩) (fun _ => rfl) (fun _ => rfl) (fun _ => rfl) fun _ => rfl

theorem State.dirtyAt_same {A : Aspect → Prop} {s0 s : State} {pa n : _} (h : Same A s0 s) :
    Same A s0 (State.dirtyAt s pa n) := by
  unfold State.dirtyAt
  repeat' first
    | ((fail_if_success (conv => arg 2; fun)); extract_lets +onlyGivenNames y)
    | with_reducible first | assumption | apply State.markDirty_same | refine Same.foldl ?_ fun _ _ _ => ?_

theorem State.copyFailed_same {A : Aspect → Prop} {s0 s : State} (h : Same A s0 s) :
    Same A s0 (State.copyFailed s) := by
  unfold State.copyFailed
  repeat' first
    | ((fail_if_success (conv => arg 2; fun)); extract_lets +onlyGivenNames y)
    | with_reducible first | assumption | refine Same.record ?_ (fun _ => ⟨rfl, rfl⟩) (fun _ => rfl) (fun _ => rfl) (fun _ => rfl) fun _ => rfl

theorem State.mirrorBad_same {A : Aspect → Prop} {s0 s : State} {pa n st : _} (h : Same A s0 s) :
    Same A s0 (State.mirrorBad s pa n st) := by
  unfold State.mirrorBad
  repeat' first
    | ((fail_if_success (conv => arg 2; fun)); extract_lets +onlyGivenNames y; clear_value (e : y = _); refine Same.letVar (A := A) (s0 := s0) e ?_ fun _ => ?_)
    | ((fail_if_success (conv => arg 2; fun)); extract_lets +onlyGivenNames y)
    | with_reducible first | assumption | apply State.ptnEvent_same | apply State.dirtyAt_same | apply State.copyFailed_same
    | split

theorem State.reqFail_same {A : Aspect → Prop} (nM : ¬A .mem) {s0 s : State} {r : _} (h : Same A s0 s) :
    Same A s0 (State.reqFail s r) := by
  unfold State.reqFail
  repeat' first
    | ((fail_if_success (conv => arg 2; fun)); extract_lets +onlyGivenNames y; clear_value (e : y = _); refine Same.letVar (A := A) (s0 := s0) e ?_ fun _ => ?_)
    | ((fail_if_success (conv => arg 2; fun)); extract_lets +onlyGivenNames y)
    | with_reducible first | assumption | apply State.dropReq_same | apply State.answerTag_same | apply State.signalLost_same | apply State.collFinish_same nM | apply State.mirrorDone_same | apply State.mirrorBad_same
    | split

theorem State.failReqs_same {A : Aspect → Prop} (nM : ¬A .mem) {s0 s : State} {p : _} (h : Same A s0 s) :
    Same A s0 (State.failReqs s p) := by
  unfold State.failReqs
  repeat' first
    | ((fail_if_success (conv => arg 2; fun)); extract_lets +onlyGivenNames y)
    | with_reducible first | assumption | apply State.reqFail_same nM | refine Same.foldl ?_ fun _ _ _ => ?_
    | split

theorem State.failSignals_same {A : Aspect → Prop} {s0 s : State} {p : _} (h : Same A s0 s) :
    Same A s0 (State.failSignals s p) := by
  unfold State.failSignals
  repeat' first
    | ((fail_if_success (conv => arg 2; fun)); extract_lets +onlyGivenNames y; clear_value (e : y = _); refine Same.letVar (A := A) (s0 := s0) e ?_ fun _ => ?_)
    | ((fail_if_success (conv => arg 2; fun)); extract_lets +onlyGivenNames y)
    | with_reducible first | assumption | apply State.signalLost_same | refine Same.foldl ?_ fun _ _ _ => ?_ | refine Same.record ?_ (fun _ => ⟨rfl, rfl⟩) (fun _ => rfl) (fun _ => rfl) (fun _ => rfl) fun _ => rfl

theorem State.collCheck_same {A : Aspect → Prop} (nM : ¬A .mem) {s0 s : State} (h : Same A s0 s) :
    Same A s0 (State.collCheck s) := by
  unfold State.collCheck
  repeat' first
    | ((fail_if_success (conv => arg 2; fun)); extract_lets +onlyGivenNames y)
    | with_reducible first | assumption | apply State.collFinish_same nM | refine Same.foldl ?_ fun _ _ _ => ?_

theorem State.takeWaiting_same {A : Aspect → Prop} {s0 s : State} {k : _} (h : Same A s0 s) :
    SameG A s0 (State.takeWaiting s k) := by
  unfold State.takeWaiting
  repeat' first
    | ((fail_if_success (conv => arg 2; fun)); extract_lets +onlyGivenNames y)
    | with_reducible first | assumption | apply State.setWaiting_same | refine Same.foldl ?_ fun _ _ _ => ?_ | apply Same.mkG

theorem State.reroute_same {A : Aspect → Prop} {s0 s : State} {p : _} (h : Same A s0 s) :
    Same A s0 (State.reroute s p) := by
  unfold State.reroute
  repeat' first
    | with_reducible first | assumption | apply State.sendPkt_same
    | split

theorem State.dropWaiting_same {A : Aspect → Prop} {s0 s : State} {x : _} (h : Same A s0 s) :
    Same A s0 (State.dropWaiting s x) := by
  unfold State.dropWaiting
  repeat' first
    | ((fail_if_success (conv => arg 2; fun)); extract_lets +onlyGivenNames y)
    | with_reducible first | assumption | refine Same.record ?_ (fun _ => ⟨rfl, rfl⟩) (fun _ => rfl) (fun _ => rfl) (fun _ => rfl) fun _ => rfl

theorem State.holdChanged_same {A : Aspect → Prop} {s0 s : State} {old : _} (h : Same A s0 s) :
    Same A s0 (State.holdChanged s old) := by
  unfold State.holdChanged
  repeat' first
    | ((fail_if_success (conv => arg 2; fun)); extract_lets +onlyGivenNames y)
    | with_reducible first | assumption | refine Same.record ?_ (fun _ => ⟨rfl, rfl⟩) (fun _ => rfl) (fun _ => rfl) (fun _ => rfl) fun _ => rfl

theorem State.partnerLost_same {A : Aspect → Prop} {s0 s : State} (h : Same A s0 s) :
    Same A s0 (State.partnerLost s) := by
  unfold State.partnerLost
  repeat' first
    | ((fail_if_success (conv => arg 2; fun)); extract_lets +onlyGivenNames y; clear_value (e : y = _); refine Same.letVar (A := A) (s0 := s0) e ?_ fun _ => ?_)
    | ((fail_if_success (conv => arg 2; fun)); extract_lets +onlyGivenNames y)
    | with_reducible first | assumption | apply State.setF_same | apply State.ptnEvent_same
    | with_reducible (refine Same.record ?_ (fun _ => ⟨rfl, rfl⟩) (fun _ => rfl) (fun _ => rfl) (fun _ => rfl) fun _ => rfl; first | assumption | apply State.setF_same | apply State.ptnEvent_same)
    | split

theorem State.lostCheck_same {A : Aspect → Prop} {s0 s : State} (h : Same A s0 s) :
    Same A s0 (State.lostCheck s) := by
  unfold State.lostCheck
  repeat' first
    | with_reducible first | assumption | apply State.partnerLost_same
    | split

theorem State.dropCredits_same {A : Aspect → Prop} {s0 s : State} {k : _} (h : Same A s0 s) :
    Same A s0 (State.dropCredits s k) := by
  unfold State.dropCredits
  repeat' first
    | ((fail_if_success (conv => arg 2; fun)); extract_lets +onlyGivenNames y; clear_value (e : y = _); refine Same.letVar (A := A) (s0 := s0) e ?_ fun _ => ?_)
    | ((fail_if_success (conv => arg 2; fun)); extract_lets +onlyGivenNames y)
    | with_reducible first | assumption | apply State.clearCredits_same | refine Same.record ?_ (fun _ => ⟨rfl, rfl⟩) (fun _ => rfl) (fun _ => rfl) (fun _ => rfl) fun _ => rfl

theorem State.ptnLeave_same {A : Aspect → Prop} (nM : ¬A .mem) {s0 s : State} {st : _} (h : Same A s0 s) :
    Same A s0 (State.ptnLeave s st) := by
  unfold State.ptnLeave
  repeat' first
    | ((fail_if_success (conv => arg 2; fun)); extract_lets +onlyGivenNames y; clear_value (e : y = _); refine Same.letVar (A := A) (s0 := s0) e ?_ fun _ => ?_)
    | ((fail_if_success (conv => arg 2; fun)); extract_lets +onlyGivenNames y)
    | with_reducible first | assumption | apply State.setF_same | apply State.ptnEvent_same | apply State.failReqs_same nM | apply State.takeWaiting_same | apply State.reroute_same | apply State.lostCheck_same | apply State.dropCredits_same | refine Same.foldl ?_ fun _ _ _ => ?_ | refine Same.eqG (by assumption) ?_
    | with_reducible (refine Same.record ?_ (fun _ => ⟨rfl, rfl⟩) (fun _ => rfl) (fun _ => rfl) (fun _ => rfl) fun _ => rfl; first | assumption | apply State.setF_same | apply State.ptnEvent_same | apply State.failReqs_same nM | apply State.takeWaiting_same | apply State.reroute_same | apply State.lostCheck_same | apply State.dropCredits_same | refine Same.foldl ?_ fun _ _ _ => ?_ | refine Same.eqG (by assumption) ?_)
    | split

theorem State.declareDown_same {A : Aspect → Prop} (nM : ¬A .mem) {s0 s : State} {x : _} (h : Same A s0 s) :
    Same A s0 (State.declareDown s x) := by
  unfold State.declareDown
  repeat' first
    | ((fail_if_success (conv => arg 2; fun)); extract_lets +onlyGivenNames y; clear_value (e : y = _); refine Same.letVar (A := A) (s0 := s0) e ?_ fun _ => ?_)
    | ((fail_if_success (conv => arg 2; fun)); extract_lets +onlyGivenNames y)
    | with_reducible first | assumption | apply State.setF_same | apply State.addSat_same | apply State.ixfEvent_same | apply State.failReqs_same nM | apply State.failSignals_same | apply State.collCheck_same nM | apply State.dropWaiting_same | apply State.lostCheck_same
    | with_reducible (refine Same.record ?_ (fun _ => ⟨rfl, rfl⟩) (fun _ => rfl) (fun _ => rfl) (fun _ => rfl) fun _ => rfl; first | assumption | apply State.setF_same | apply State.addSat_same | apply State.ixfEvent_same | apply State.failReqs_same nM | apply State.failSignals_same | apply State.collCheck_same nM | apply State.dropWaiting_same | apply State.lostCheck_same)
    | split

theorem State.declareAll_same {A : Aspect → Prop} (nM : ¬A .mem) {s0 s : State} (h : Same A s0 s) :
    Same A s0 (State.declareAll s) := by
  unfold State.declareAll
  repeat' first
    | ((fail_if_success (conv => arg 2; fun)); extract_lets +onlyGivenNames y)
    | with_reducible first | assumption | apply State.declareDown_same nM | refine Same.foldl ?_ fun _ _ _ => ?_

theorem State.isolated_same {A : Aspect → Prop} (nM : ¬A .mem) {s0 s : State} (h : Same A s0 s) :
    Same A s0 (State.isolated s) := by
  unfold State.isolated
  repeat' first
    | ((fail_if_success (conv => arg 2; fun)); extract_lets +onlyGivenNames y)
    | with_reducible first | assumption | apply State.ixfEvent_same | apply State.failReqs_same nM | apply State.failSignals_same | apply State.collCheck_same nM
    | split

theorem State.portLeave_same {A : Aspect → Prop} (nM : ¬A .mem) {s0 s : State} {k st : _} (h : Same A s0 s) :
    Same A s0 (State.portLeave s k st) := by
  unfold State.portLeave
  repeat' first
    | ((fail_if_success (conv => arg 2; fun)); extract_lets +onlyGivenNames y; clear_value (e : y = _); refine Same.letVar (A := A) (s0 := s0) e ?_ fun _ => ?_)
    | ((fail_if_success (conv => arg 2; fun)); extract_lets +onlyGivenNames y)
    | with_reducible first | assumption | apply State.setF_same | apply State.clearBit_same | apply State.ixfEvent_same | apply State.collCheck_same nM | refine Same.ofG (State.takeWaiting_same ?_) | apply State.reroute_same | apply State.holdChanged_same | apply State.dropCredits_same | apply State.declareAll_same nM | apply State.isolated_same nM | refine Same.foldl ?_ fun _ _ _ => ?_
    | split

theorem State.discard_same {A : Aspect → Prop} {s0 s : State} {k : _} (h : Same A s0 s) :
    Same A s0 (State.discard s k) := by
  unfold State.discard
  repeat' first
    | ((fail_if_success (conv => arg 2; fun)); extract_lets +onlyGivenNames y)
    | with_reducible first | assumption | apply State.addSat_same | apply State.ixfEvent_same
    | split

theorem State.discardFenced_same {A : Aspect → Prop} {s0 s : State} {k : _} (h : Same A s0 s) :
    Same A s0 (State.discardFenced s k) := by
  unfold State.discardFenced
  repeat' first
    | with_reducible first | assumption | apply State.addSat_same
    | split

theorem State.answer_same {A : Aspect → Prop} {s0 s : State} {k p typ st data tags : _} (h : Same A s0 s) :
    Same A s0 (State.answer s k p typ st data tags) := by
  unfold State.answer
  repeat' first
    | ((fail_if_success (conv => arg 2; fun)); extract_lets +onlyGivenNames y)
    | with_reducible first | assumption | apply State.sendLate_same
    | with_reducible (refine Same.record ?_ (fun _ => ⟨rfl, rfl⟩) (fun _ => rfl) (fun _ => rfl) (fun _ => rfl) fun _ => rfl; first | assumption | apply State.sendLate_same)
    | split

theorem State.refuseFenced_same {A : Aspect → Prop} {s0 s : State} {k p : _} (h : Same A s0 s) :
    Same A s0 (State.refuseFenced s k p) := by
  unfold State.refuseFenced
  repeat' first
    | ((fail_if_success (conv => arg 2; fun)); extract_lets +onlyGivenNames y; clear_value (e : y = _); refine Same.letVar (A := A) (s0 := s0) e ?_ fun _ => ?_)
    | ((fail_if_success (conv => arg 2; fun)); extract_lets +onlyGivenNames y)
    | with_reducible first | assumption | apply State.discardFenced_same | apply State.answer_same
    | split

theorem State.leaveBuffer_same {A : Aspect → Prop} {s0 s : State} {k p : _} (h : Same A s0 s) :
    Same A s0 (State.leaveBuffer s k p) := by
  unfold State.leaveBuffer
  repeat' first
    | ((fail_if_success (conv => arg 2; fun)); extract_lets +onlyGivenNames y)
    | with_reducible first | assumption | apply State.owe_same | apply State.payCredits_same
    | split

theorem State.sift_same {A : Aspect → Prop} {s0 s : State} {k t2 p act : _} (h : Same A s0 s) (hact : ∀ t, Same A s0 t → Same A s0 (act t)) :
    Same A s0 (State.sift s k t2 p act) := by
  unfold State.sift
  repeat' first
    | ((fail_if_success (conv => arg 2; fun)); extract_lets +onlyGivenNames y)
    | with_reducible first | assumption | apply State.discard_same | apply State.refuseFenced_same | apply State.leaveBuffer_same | apply hact
    | split

theorem State.receive_same {A : Aspect → Prop} {s0 s : State} {k t2 p act : _} (h : Same A s0 s) (hact : ∀ t, Same A s0 t → Same A s0 (act t)) :
    Same A s0 (State.receive s k t2 p act) := by
  unfold State.receive
  repeat' first
    | ((fail_if_success (conv => arg 2; fun)); extract_lets +onlyGivenNames y)
    | with_reducible first | assumption | apply State.leaveBuffer_same | refine State.sift_same ?_ (fun _ _ => ?_) | apply hact

theorem State.refusePkt_same {A : Aspect → Prop} {s0 s : State} {k p typ : _} (h : Same A s0 s) :
    Same A s0 (State.refusePkt s k p typ) := by
  unfold State.refusePkt
  repeat' first
    | ((fail_if_success (conv => arg 2; fun)); extract_lets +onlyGivenNames y)
    | with_reducible first | assumption | apply State.ixfEvent_same | apply State.answer_same

/-! ### Ports -/

theorem State.setBackoff_same {A : Aspect → Prop} {s0 s : State} {k b : _} (h : Same A s0 s) :
    Same A s0 (State.setBackoff s k b) := by
  unfold State.setBackoff
  repeat' first
    | ((fail_if_success (conv => arg 2; fun)); extract_lets +onlyGivenNames y)
    | with_reducible first | assumption | refine Same.record ?_ (fun _ => ⟨rfl, rfl⟩) (fun _ => rfl) (fun _ => rfl) (fun _ => rfl) fun _ => rfl

theorem State.reachPlane_same {A : Aspect → Prop} {s0 s : State} {k : _} (h : Same A s0 s) :
    Same A s0 (State.reachPlane s k) := by
  unfold State.reachPlane
  repeat' first
    | ((fail_if_success (conv => arg 2; fun)); extract_lets +onlyGivenNames y)
    | with_reducible first | assumption | refine Same.record ?_ (fun _ => ⟨rfl, rfl⟩) (fun _ => rfl) (fun _ => rfl) (fun _ => rfl) fun _ => rfl

theorem State.portComesUp_same {A : Aspect → Prop} {s0 s : State} {k lanes t3 : _} (h : Same A s0 s) :
    Same A s0 (State.portComesUp s k lanes t3) := by
  unfold State.portComesUp
  repeat' first
    | ((fail_if_success (conv => arg 2; fun)); extract_lets +onlyGivenNames y; clear_value (e : y = _); refine Same.letVar (A := A) (s0 := s0) e ?_ fun _ => ?_)
    | ((fail_if_success (conv => arg 2; fun)); extract_lets +onlyGivenNames y)
    | with_reducible first | assumption | apply State.setF_same | apply State.setBit_same | apply State.linkTrained_same | apply State.ixfEvent_same | apply State.holdChanged_same | apply State.setBackoff_same | apply State.reachPlane_same

theorem State.portRefused_same {A : Aspect → Prop} {s0 s : State} {k err : _} (h : Same A s0 s) :
    Same A s0 (State.portRefused s k err) := by
  unfold State.portRefused
  repeat' first
    | ((fail_if_success (conv => arg 2; fun)); extract_lets +onlyGivenNames y; clear_value (e : y = _); refine Same.letVar (A := A) (s0 := s0) e ?_ fun _ => ?_)
    | ((fail_if_success (conv => arg 2; fun)); extract_lets +onlyGivenNames y)
    | with_reducible first | assumption | apply State.setF_same | apply State.setBackoff_same

theorem State.portTrained_same {A : Aspect → Prop} {s0 s : State} {k lanes err t4 : _} (h : Same A s0 s) :
    Same A s0 (State.portTrained s k lanes err t4) := by
  unfold State.portTrained
  repeat' first
    | ((fail_if_success (conv => arg 2; fun)); extract_lets +onlyGivenNames y; clear_value (e : y = _); refine Same.letVar (A := A) (s0 := s0) e ?_ fun _ => ?_)
    | ((fail_if_success (conv => arg 2; fun)); extract_lets +onlyGivenNames y)
    | with_reducible first | assumption | apply State.setF_same | apply State.setFlag_same | apply State.setWidths_same
    | split

theorem execPortTrain_same {A : Aspect → Prop} {s0 s : State} {k t1 : _} (h : Same A s0 s) :
    SameX A s0 (execPortTrain k t1 s) := by
  unfold execPortTrain
  repeat' first
    | ((fail_if_success (conv => arg 2; fun)); extract_lets +onlyGivenNames y; clear_value (e : y = _); refine Same.letVar (A := A) (s0 := s0) e ?_ fun _ => ?_)
    | ((fail_if_success (conv => arg 2; fun)); extract_lets +onlyGivenNames y)
    | with_reducible first | assumption | apply State.setF_same | apply State.portComesUp_same | apply State.portRefused_same | apply State.portTrained_same | apply Same.next
    | split

theorem execTrainRetryTimer_same {A : Aspect → Prop} {s0 s : State} {k : _} (h : Same A s0 s) :
    SameX A s0 (execTrainRetryTimer k s) := by
  unfold execTrainRetryTimer
  repeat' first
    | ((fail_if_success (conv => arg 2; fun)); extract_lets +onlyGivenNames y)
    | with_reducible first | assumption | apply State.setF_same | apply Same.next
    | split

theorem State.retrainLink_same {A : Aspect → Prop} (nM : ¬A .mem) {s0 s : State} {k : _} (h : Same A s0 s) :
    Same A s0 (State.retrainLink s k) := by
  unfold State.retrainLink
  repeat' first
    | with_reducible first | assumption | apply State.thlLeave_same | apply State.ptnLeave_same nM | apply State.portLeave_same nM
    | split

theorem execPortRetrain_same {A : Aspect → Prop} (nM : ¬A .mem) {s0 s : State} {k : _} (h : Same A s0 s) :
    SameX A s0 (execPortRetrain k s) := by
  unfold execPortRetrain
  repeat' first
    | ((fail_if_success (conv => arg 2; fun)); extract_lets +onlyGivenNames y)
    | with_reducible first | assumption | apply State.addSat_same | apply State.retrainLink_same nM | apply Same.next
    | split

theorem execLaneLoss_same {A : Aspect → Prop} (nM : ¬A .mem) {s0 s : State} {k lane : _} (h : Same A s0 s) :
    SameX A s0 (execLaneLoss k lane s) := by
  unfold execLaneLoss
  repeat' first
    | ((fail_if_success (conv => arg 2; fun)); extract_lets +onlyGivenNames y; clear_value (e : y = _); refine Same.letVar (A := A) (s0 := s0) e ?_ fun _ => ?_)
    | ((fail_if_success (conv => arg 2; fun)); extract_lets +onlyGivenNames y)
    | with_reducible first | assumption | apply State.setLost_same | apply State.retrainLink_same nM | apply Same.next
    | split

theorem State.retrainWrite_same {A : Aspect → Prop} (nM : ¬A .mem) {s0 s : State} {k : _} (h : Same A s0 s) :
    Same A s0 (State.retrainWrite s k) := by
  unfold State.retrainWrite
  repeat' first
    | ((fail_if_success (conv => arg 2; fun)); extract_lets +onlyGivenNames y; clear_value (e : y = _); refine Same.letVar (A := A) (s0 := s0) e ?_ fun _ => ?_)
    | ((fail_if_success (conv => arg 2; fun)); extract_lets +onlyGivenNames y)
    | with_reducible first | assumption | apply State.setF_same | apply State.portLeave_same nM
    | split

theorem execPortRetrainWrite_same {A : Aspect → Prop} (nM : ¬A .mem) {s0 s : State} {k : _} (h : Same A s0 s) :
    SameX A s0 (execPortRetrainWrite k s) := by
  unfold execPortRetrainWrite
  repeat' first
    | ((fail_if_success (conv => arg 2; fun)); extract_lets +onlyGivenNames y)
    | with_reducible first | assumption | apply State.retrainWrite_same nM | apply Same.next
    | split

theorem State.portEnable_same {A : Aspect → Prop} (nM : ¬A .mem) {s0 s : State} {k v : _} (h : Same A s0 s) :
    Same A s0 (State.portEnable s k v) := by
  unfold State.portEnable
  repeat' first
    | ((fail_if_success (conv => arg 2; fun)); extract_lets +onlyGivenNames y; clear_value (e : y = _); refine Same.letVar (A := A) (s0 := s0) e ?_ fun _ => ?_)
    | ((fail_if_success (conv => arg 2; fun)); extract_lets +onlyGivenNames y)
    | with_reducible first | assumption | apply State.setF_same | apply State.portLeave_same nM | apply State.setBackoff_same
    | split

theorem execPortEnableWrite_same {A : Aspect → Prop} (nM : ¬A .mem) {s0 s : State} {k value : _} (h : Same A s0 s) :
    SameX A s0 (execPortEnableWrite k value s) := by
  unfold execPortEnableWrite
  repeat' first
    | ((fail_if_success (conv => arg 2; fun)); extract_lets +onlyGivenNames y)
    | with_reducible first | assumption | apply State.portEnable_same nM | apply Same.next
    | split

theorem State.portPark_same {A : Aspect → Prop} (nM : ¬A .mem) (nD : ¬A .dom) {s0 s : State} {k v : _} (h : Same A s0 s) :
    Same A s0 (State.portPark s k v) := by
  unfold State.portPark
  repeat' first
    | ((fail_if_success (conv => arg 2; fun)); extract_lets +onlyGivenNames y; clear_value (e : y = _); refine Same.letVar (A := A) (s0 := s0) e ?_ fun _ => ?_)
    | ((fail_if_success (conv => arg 2; fun)); extract_lets +onlyGivenNames y)
    | with_reducible first | assumption | apply State.setF_same | apply State.portLeave_same nM | apply State.turnOn_same nD | apply State.turnOff_same nD
    | split

theorem execPortParkWrite_same {A : Aspect → Prop} (nM : ¬A .mem) (nD : ¬A .dom) {s0 s : State} {k value : _} (h : Same A s0 s) :
    SameX A s0 (execPortParkWrite k value s) := by
  unfold execPortParkWrite
  repeat' first
    | ((fail_if_success (conv => arg 2; fun)); extract_lets +onlyGivenNames y)
    | with_reducible first | assumption | apply State.portPark_same nM nD | apply Same.next
    | split

theorem State.setReach_same {A : Aspect → Prop} {s0 s : State} {k x on : _} (h : Same A s0 s) :
    Same A s0 (State.setReach s k x on) := by
  unfold State.setReach
  repeat' first
    | ((fail_if_success (conv => arg 2; fun)); extract_lets +onlyGivenNames y)
    | with_reducible first | assumption | refine Same.record ?_ (fun _ => ⟨rfl, rfl⟩) (fun _ => rfl) (fun _ => rfl) (fun _ => rfl) fun _ => rfl

theorem State.setDown_same {A : Aspect → Prop} {s0 s : State} {k x on : _} (h : Same A s0 s) :
    Same A s0 (State.setDown s k x on) := by
  unfold State.setDown
  repeat' first
    | ((fail_if_success (conv => arg 2; fun)); extract_lets +onlyGivenNames y)
    | with_reducible first | assumption | refine Same.record ?_ (fun _ => ⟨rfl, rfl⟩) (fun _ => rfl) (fun _ => rfl) (fun _ => rfl) fun _ => rfl

theorem State.notice_same {A : Aspect → Prop} (nM : ¬A .mem) {s0 s : State} {k sub p after : _} (h : Same A s0 s) (hafter : ∀ t, Same A s0 t → Same A s0 (after t)) :
    Same A s0 (State.notice s k sub p after) := by
  unfold State.notice
  repeat' first
    | ((fail_if_success (conv => arg 2; fun)); extract_lets +onlyGivenNames y)
    | with_reducible first | assumption | apply State.collCheck_same nM | apply State.holdChanged_same | refine State.receive_same ?_ (fun _ _ => ?_) | apply State.setReach_same | apply State.setDown_same | apply hafter
    | split

theorem execNoticeDown_same {A : Aspect → Prop} (nM : ¬A .mem) {s0 s : State} {k p : _} (h : Same A s0 s) :
    SameX A s0 (execNoticeDown k p s) := by
  unfold execNoticeDown
  repeat' first
    | ((fail_if_success (conv => arg 2; fun)); extract_lets +onlyGivenNames y)
    | with_reducible first | assumption | apply State.addSat_same | apply State.declareDown_same nM | refine State.notice_same nM ?_ (fun _ _ => ?_) | apply Same.next

theorem execNoticeUp_same {A : Aspect → Prop} (nM : ¬A .mem) {s0 s : State} {k p : _} (h : Same A s0 s) :
    SameX A s0 (execNoticeUp k p s) := by
  unfold execNoticeUp
  exact Same.next (State.notice_same nM h fun _ k => k)

theorem State.unreached_same {A : Aspect → Prop} (nM : ¬A .mem) {s0 s : State} {x tag : _} (h : Same A s0 s) :
    Same A s0 (State.unreached s x tag) := by
  unfold State.unreached
  repeat' first
    | with_reducible first | assumption | apply State.collFinish_same nM | apply State.reqFail_same nM
    | split

theorem execNoticeUnreach_same {A : Aspect → Prop} (nM : ¬A .mem) {s0 s : State} {k p : _} (h : Same A s0 s) :
    SameX A s0 (execNoticeUnreach k p s) := by
  unfold execNoticeUnreach
  repeat' first
    | ((fail_if_success (conv => arg 2; fun)); extract_lets +onlyGivenNames y)
    | with_reducible first | assumption | apply State.addSat_same | refine State.notice_same nM ?_ (fun _ _ => ?_) | apply State.unreached_same nM | apply Same.next

theorem execNoticeParked_same {A : Aspect → Prop} (nM : ¬A .mem) {s0 s : State} {k p : _} (h : Same A s0 s) :
    SameX A s0 (execNoticeParked k p s) := by
  unfold execNoticeParked
  exact Same.next (State.notice_same nM h fun _ k => k)

theorem execHashSetResume_same {A : Aspect → Prop} {s0 s : State} {x : _} (h : Same A s0 s) :
    SameX A s0 (execHashSetResume x s) := by
  unfold execHashSetResume
  repeat' first
    | ((fail_if_success (conv => arg 2; fun)); extract_lets +onlyGivenNames y)
    | with_reducible first | assumption | apply Same.next
    | with_reducible (refine Same.record ?_ (fun _ => ⟨rfl, rfl⟩) (fun _ => rfl) (fun _ => rfl) (fun _ => rfl) fun _ => rfl; first | assumption | apply Same.next)
    | split

theorem State.fenceClear_same {A : Aspect → Prop} (nM : ¬A .mem) {s0 s : State} {x : _} (h : Same A s0 s) :
    Same A s0 (State.fenceClear s x) := by
  unfold State.fenceClear
  repeat' first
    | ((fail_if_success (conv => arg 2; fun)); extract_lets +onlyGivenNames y)
    | with_reducible first | assumption | apply State.declareDown_same nM | refine Same.record ?_ (fun _ => ⟨rfl, rfl⟩) (fun _ => rfl) (fun _ => rfl) (fun _ => rfl) fun _ => rfl

theorem execFenceClr_same {A : Aspect → Prop} (nM : ¬A .mem) {s0 s : State} {x : _} (h : Same A s0 s) :
    SameX A s0 (execFenceClr x s) := by
  unfold execFenceClr
  repeat' first
    | ((fail_if_success (conv => arg 2; fun)); extract_lets +onlyGivenNames y)
    | with_reducible first | assumption | apply State.fenceClear_same nM | apply Same.next
    | split

theorem State.reachQuery_same {A : Aspect → Prop} {s0 s : State} {x : _} (h : Same A s0 s) :
    Same A s0 (State.reachQuery s x) := by
  unfold State.reachQuery
  repeat' first
    | ((fail_if_success (conv => arg 2; fun)); extract_lets +onlyGivenNames y)
    | with_reducible first | assumption | apply State.setF_same | apply State.setFlag_same

theorem execReachQuery_same {A : Aspect → Prop} {s0 s : State} {x : _} (h : Same A s0 s) :
    SameX A s0 (execReachQuery x s) := by
  unfold execReachQuery
  repeat' first
    | ((fail_if_success (conv => arg 2; fun)); extract_lets +onlyGivenNames y)
    | with_reducible first | assumption | apply State.reachQuery_same | apply Same.next
    | split

theorem execRemoteAckTimeout_same {A : Aspect → Prop} (nM : ¬A .mem) {s0 s : State} {tag : _} (h : Same A s0 s) :
    SameX A s0 (execRemoteAckTimeout tag s) := by
  unfold execRemoteAckTimeout
  repeat' first
    | ((fail_if_success (conv => arg 2; fun)); extract_lets +onlyGivenNames y)
    | with_reducible first | assumption | apply State.reqFail_same nM | apply Same.next
    | split

theorem State.grpCommit_same {A : Aspect → Prop} {s0 s : State} {g : _} (h : Same A s0 s) :
    Same A s0 (State.grpCommit s g) := by
  unfold State.grpCommit
  repeat' first
    | ((fail_if_success (conv => arg 2; fun)); extract_lets +onlyGivenNames y; clear_value (e : y = _); refine Same.letVar (A := A) (s0 := s0) e ?_ fun _ => ?_)
    | ((fail_if_success (conv => arg 2; fun)); extract_lets +onlyGivenNames y)
    | with_reducible first | assumption | apply State.setF_same
    | with_reducible (refine Same.record ?_ (fun _ => ⟨rfl, rfl⟩) (fun _ => rfl) (fun _ => rfl) (fun _ => rfl) fun _ => rfl; first | assumption | apply State.setF_same)
    | split

theorem State.idValid_same {A : Aspect → Prop} {s0 s : State} (h : Same A s0 s) :
    Same A s0 (State.idValid s) := by
  unfold State.idValid
  repeat' first
    | ((fail_if_success (conv => arg 2; fun)); extract_lets +onlyGivenNames y; clear_value (e : y = _); refine Same.letVar (A := A) (s0 := s0) e ?_ fun _ => ?_)
    | ((fail_if_success (conv => arg 2; fun)); extract_lets +onlyGivenNames y)
    | with_reducible first | assumption | apply State.setF_same | refine Same.foldl ?_ fun _ _ _ => ?_
    | split

theorem State.commitIxf_same {A : Aspect → Prop} (nL : ¬A .live) {s0 s : State} (h : Same A s0 s) :
    Same A s0 (State.commitIxf s) := by
  unfold State.commitIxf
  repeat' first
    | ((fail_if_success (conv => arg 2; fun)); extract_lets +onlyGivenNames y; clear_value (e : y = _); refine Same.letVar (A := A) (s0 := s0) e ?_ fun _ => ?_)
    | ((fail_if_success (conv => arg 2; fun)); extract_lets +onlyGivenNames y)
    | with_reducible first | assumption | apply State.setF_same | apply State.commitAll_same nL | apply State.commitRange_same nL | apply State.grpCommit_same | apply State.idValid_same | refine Same.foldl ?_ fun _ _ _ => ?_
    | split

theorem execIxfCommit_same {A : Aspect → Prop} (nL : ¬A .live) {s0 s : State} (h : Same A s0 s) :
    SameX A s0 (execIxfCommit s) := by
  unfold execIxfCommit
  repeat' first
    | ((fail_if_success (conv => arg 2; fun)); extract_lets +onlyGivenNames y)
    | with_reducible first | assumption | apply State.commitIxf_same nL | apply Same.next
    | split

/-! ### Packets -/

theorem State.drainChan_same {A : Aspect → Prop} {s0 s : State} {z0 z2 : _} (h : Same A s0 s) :
    Same A s0 (State.drainChan z0 s z2) := by
  induction z0 generalizing s z2 with
  | zero =>
    unfold State.drainChan
    repeat' first
      | ((fail_if_success (conv => arg 2; fun)); extract_lets +onlyGivenNames y)
      | with_reducible first | assumption | apply State.returnChan_same | apply ih
      | with_reducible (refine Same.record ?_ (fun _ => ⟨rfl, rfl⟩) (fun _ => rfl) (fun _ => rfl) (fun _ => rfl) fun _ => rfl; first | assumption | apply State.returnChan_same | apply ih)
      | split
  | succ n ih =>
    unfold State.drainChan
    repeat' first
      | ((fail_if_success (conv => arg 2; fun)); extract_lets +onlyGivenNames y)
      | with_reducible first | assumption | apply State.returnChan_same | apply ih
      | with_reducible (refine Same.record ?_ (fun _ => ⟨rfl, rfl⟩) (fun _ => rfl) (fun _ => rfl) (fun _ => rfl) fun _ => rfl; first | assumption | apply State.returnChan_same | apply ih)
      | split

theorem State.joinChan_same {A : Aspect → Prop} {s0 s : State} {port vc key : _} (h : Same A s0 s) :
    Same A s0 (State.joinChan s port vc key) := by
  unfold State.joinChan
  repeat' first
    | ((fail_if_success (conv => arg 2; fun)); extract_lets +onlyGivenNames y)
    | with_reducible first | assumption
    | with_reducible (refine Same.record ?_ (fun _ => ⟨rfl, rfl⟩) (fun _ => rfl) (fun _ => rfl) (fun _ => rfl) fun _ => rfl; first | assumption)
    | split

theorem State.leaveChans_same {A : Aspect → Prop} {s0 s : State} {port vc : _} (h : Same A s0 s) :
    Same A s0 (State.leaveChans s port vc) := by
  unfold State.leaveChans
  repeat' first
    | ((fail_if_success (conv => arg 2; fun)); extract_lets +onlyGivenNames y; clear_value (e : y = _); refine Same.letVar (A := A) (s0 := s0) e ?_ fun _ => ?_)
    | ((fail_if_success (conv => arg 2; fun)); extract_lets +onlyGivenNames y)
    | with_reducible first | assumption | apply State.drainChan_same | refine Same.foldl ?_ fun _ _ _ => ?_ | refine Same.record ?_ (fun _ => ⟨rfl, rfl⟩) (fun _ => rfl) (fun _ => rfl) (fun _ => rfl) fun _ => rfl

theorem State.withChans_same {A : Aspect → Prop} {s0 s : State} {port vc a n act : _} (h : Same A s0 s) (hact : ∀ t, Same A s0 t → Same A s0 (act t)) :
    SameF A s0 (State.withChans s port vc a n act) := by
  unfold State.withChans
  repeat' first
    | ((fail_if_success (conv => arg 2; fun)); extract_lets +onlyGivenNames y)
    | with_reducible first | assumption | apply State.joinChan_same | apply hact | refine Same.foldl ?_ fun _ _ _ => ?_
    | split
    | with_reducible apply Same.mkF

theorem State.doWrMem_same {A : Aspect → Prop} (nM : ¬A .mem) {s0 s : State} {k p mecc : _} (h : Same A s0 s) :
    SameF A s0 (State.doWrMem s k p mecc) := by
  unfold State.doWrMem
  repeat' first
    | ((fail_if_success (conv => arg 2; fun)); extract_lets +onlyGivenNames y)
    | with_reducible first | assumption | refine Same.ofF (State.memWrite_same nM ?_) | apply State.answer_same | apply State.refusePkt_same | refine State.withChans_same ?_ (fun _ _ => ?_)
    | split
    | with_reducible apply Same.mkF

theorem State.doWrClu_same {A : Aspect → Prop} {s0 s : State} {k p : _} (h : Same A s0 s) :
    Same A s0 (State.doWrClu s k p) := by
  unfold State.doWrClu
  repeat' first
    | ((fail_if_success (conv => arg 2; fun)); extract_lets +onlyGivenNames y)
    | with_reducible first | assumption | apply State.putStore_same | apply State.answer_same | apply State.refusePkt_same
    | split

theorem State.doAddClu_same {A : Aspect → Prop} {s0 s : State} {k p ecc : _} (h : Same A s0 s) :
    Same A s0 (State.doAddClu s k p ecc) := by
  unfold State.doAddClu
  repeat' first
    | ((fail_if_success (conv => arg 2; fun)); extract_lets +onlyGivenNames y)
    | with_reducible first | assumption | refine Same.ofF (State.storeDeliver_same ?_) | apply State.answer_same | apply State.refusePkt_same
    | split

theorem State.doRdMem_same {A : Aspect → Prop} (nM : ¬A .mem) {s0 s : State} {k p mecc : _} (h : Same A s0 s) :
    SameF A s0 (State.doRdMem s k p mecc) := by
  unfold State.doRdMem
  repeat' first
    | ((fail_if_success (conv => arg 2; fun)); extract_lets +onlyGivenNames y)
    | with_reducible first | assumption | refine Same.ofF (State.memRead_same nM ?_) | apply State.answer_same | apply State.refusePkt_same | refine State.withChans_same ?_ (fun _ _ => ?_)
    | split
    | with_reducible apply Same.mkF

theorem State.doRdClu_same {A : Aspect → Prop} {s0 s : State} {k p ecc : _} (h : Same A s0 s) :
    Same A s0 (State.doRdClu s k p ecc) := by
  unfold State.doRdClu
  repeat' first
    | ((fail_if_success (conv => arg 2; fun)); extract_lets +onlyGivenNames y)
    | with_reducible first | assumption | apply State.storeRead_same | apply State.answer_same | apply State.refusePkt_same | refine Same.eqF (by assumption) ?_
    | with_reducible (refine Same.record ?_ (fun _ => ⟨rfl, rfl⟩) (fun _ => rfl) (fun _ => rfl) (fun _ => rfl) fun _ => rfl; first | assumption | apply State.storeRead_same | apply State.answer_same | apply State.refusePkt_same | refine Same.eqF (by assumption) ?_)
    | split

theorem State.doSig_same {A : Aspect → Prop} {s0 s : State} {k p : _} (h : Same A s0 s) :
    Same A s0 (State.doSig s k p) := by
  unfold State.doSig
  repeat' first
    | ((fail_if_success (conv => arg 2; fun)); extract_lets +onlyGivenNames y; clear_value (e : y = _); refine Same.letVar (A := A) (s0 := s0) e ?_ fun _ => ?_)
    | ((fail_if_success (conv => arg 2; fun)); extract_lets +onlyGivenNames y)
    | with_reducible first | assumption | apply State.setF_same | apply State.gateErr_same | refine Same.ofF (State.gateSignal_same ?_) | apply State.answer_same
    | split

theorem State.doMirWr_same {A : Aspect → Prop} (nM : ¬A .mem) {s0 s : State} {p mecc : _} (h : Same A s0 s) :
    SameF A s0 (State.doMirWr s p mecc) := by
  unfold State.doMirWr
  repeat' first
    | ((fail_if_success (conv => arg 2; fun)); extract_lets +onlyGivenNames y)
    | with_reducible first | assumption | refine Same.ofF (State.memWrite_same nM ?_) | apply State.answer_same | refine State.withChans_same ?_ (fun _ _ => ?_)
    | split
    | with_reducible apply Same.mkF

theorem State.doSummary_same {A : Aspect → Prop} {s0 s : State} {p : _} (h : Same A s0 s) :
    Same A s0 (State.doSummary s p) := by
  unfold State.doSummary
  repeat' first
    | ((fail_if_success (conv => arg 2; fun)); extract_lets +onlyGivenNames y; clear_value (e : y = _); refine Same.letVar (A := A) (s0 := s0) e ?_ fun _ => ?_)
    | ((fail_if_success (conv => arg 2; fun)); extract_lets +onlyGivenNames y)
    | with_reducible first | assumption | apply State.setF_same | refine Same.foldl ?_ fun _ _ _ => ?_

theorem State.doCollReady_same {A : Aspect → Prop} (nM : ¬A .mem) {s0 s : State} {p mecc : _} (h : Same A s0 s) :
    Same A s0 (State.doCollReady s p mecc) := by
  unfold State.doCollReady
  repeat' first
    | ((fail_if_success (conv => arg 2; fun)); extract_lets +onlyGivenNames y)
    | with_reducible first | assumption | apply State.addSat_same | apply State.takeReady_same nM
    | with_reducible (refine Same.record ?_ (fun _ => ⟨rfl, rfl⟩) (fun _ => rfl) (fun _ => rfl) (fun _ => rfl) fun _ => rfl; first | assumption | apply State.addSat_same | apply State.takeReady_same nM)
    | split

theorem State.collApply_same {A : Aspect → Prop} (nM : ¬A .mem) {s0 s : State} {a add b ecc : _} (h : Same A s0 s) :
    SameF A s0 (State.collApply s a add b ecc) := by
  unfold State.collApply
  repeat' first
    | ((fail_if_success (conv => arg 2; fun)); extract_lets +onlyGivenNames y)
    | with_reducible first | assumption | apply State.memRead_same nM | apply State.memWrite_same nM | refine Same.eqF (by assumption) ?_
    | with_reducible (refine Same.record ?_ (fun _ => ⟨rfl, rfl⟩) (fun _ => rfl) (fun _ => rfl) (fun _ => rfl) fun _ => rfl; first | assumption | apply State.memRead_same nM | apply State.memWrite_same nM | refine Same.eqF (by assumption) ?_)
    | split
    | with_reducible apply Same.mkF

theorem State.doCollData_same {A : Aspect → Prop} (nM : ¬A .mem) {s0 s : State} {k p mecc : _} (h : Same A s0 s) :
    SameF A s0 (State.doCollData s k p mecc) := by
  unfold State.doCollData
  repeat' first
    | ((fail_if_success (conv => arg 2; fun)); extract_lets +onlyGivenNames y)
    | with_reducible first | assumption | apply State.setColl_same | apply State.collFinish_same nM | apply State.collPush_same nM | apply State.discard_same | apply State.answer_same | refine State.withChans_same ?_ (fun _ _ => ?_) | apply State.collApply_same nM | refine Same.eqF (by assumption) ?_
    | with_reducible (refine Same.record ?_ (fun _ => ⟨rfl, rfl⟩) (fun _ => rfl) (fun _ => rfl) (fun _ => rfl) fun _ => rfl; first | assumption | apply State.setColl_same | apply State.collFinish_same nM | apply State.collPush_same nM | apply State.discard_same | apply State.answer_same | refine State.withChans_same ?_ (fun _ _ => ?_) | apply State.collApply_same nM | refine Same.eqF (by assumption) ?_)
    | split
    | with_reducible apply Same.mkF

theorem State.tryPkt_same {A : Aspect → Prop} (nM : ¬A .mem) {s0 s : State} {r : _} (h : Same A s0 s) :
    SameF A s0 (State.tryPkt s r) := by
  unfold State.tryPkt
  repeat' first
    | ((fail_if_success (conv => arg 2; fun)); extract_lets +onlyGivenNames y)
    | with_reducible first | assumption | apply State.doWrMem_same nM | apply State.doWrClu_same | apply State.doAddClu_same | apply State.doRdMem_same nM | apply State.doRdClu_same | apply State.doSig_same | apply State.doMirWr_same nM | apply State.doSummary_same | apply State.doCollReady_same nM | apply State.doCollData_same nM
    | split
    | with_reducible apply Same.mkF

theorem State.bufferPkt_same {A : Aspect → Prop} {s0 s : State} {r : _} (h : Same A s0 s) :
    Same A s0 (State.bufferPkt s r) := by
  unfold State.bufferPkt
  repeat' first
    | ((fail_if_success (conv => arg 2; fun)); extract_lets +onlyGivenNames y)
    | with_reducible first | assumption | refine Same.record ?_ (fun _ => ⟨rfl, rfl⟩) (fun _ => rfl) (fun _ => rfl) (fun _ => rfl) fun _ => rfl

theorem State.servePkt_same {A : Aspect → Prop} (nM : ¬A .mem) {s0 s : State} {r : _} (h : Same A s0 s) :
    SameF A s0 (State.servePkt s r) := by
  unfold State.servePkt
  repeat' first
    | ((fail_if_success (conv => arg 2; fun)); extract_lets +onlyGivenNames y)
    | with_reducible first | assumption | apply State.refuseFenced_same | apply State.leaveBuffer_same | apply State.leaveChans_same | apply State.tryPkt_same nM | apply State.bufferPkt_same | refine Same.eqF (by assumption) ?_
    | with_reducible (refine Same.record ?_ (fun _ => ⟨rfl, rfl⟩) (fun _ => rfl) (fun _ => rfl) (fun _ => rfl) fun _ => rfl; first | assumption | apply State.refuseFenced_same | apply State.leaveBuffer_same | apply State.leaveChans_same | apply State.tryPkt_same nM | apply State.bufferPkt_same | refine Same.eqF (by assumption) ?_)
    | split
    | with_reducible apply Same.mkF

theorem State.serveBuffers_same {A : Aspect → Prop} (nM : ¬A .mem) {s0 s : State} {held z2 : _} (h : Same A s0 s) :
    Same A s0 (State.serveBuffers s held z2) := by
  induction z2 generalizing s held with
  | nil =>
    unfold State.serveBuffers
    repeat' first
      | ((fail_if_success (conv => arg 2; fun)); extract_lets +onlyGivenNames y)
      | with_reducible first | assumption | apply State.bufferPkt_same | apply State.servePkt_same nM | apply ih | refine Same.eqF (by assumption) ?_
      | with_reducible (refine Same.record ?_ (fun _ => ⟨rfl, rfl⟩) (fun _ => rfl) (fun _ => rfl) (fun _ => rfl) fun _ => rfl; first | assumption | apply State.bufferPkt_same | apply State.servePkt_same nM | apply ih | refine Same.eqF (by assumption) ?_)
      | split
  | cons hd tl ih =>
    unfold State.serveBuffers
    repeat' first
      | ((fail_if_success (conv => arg 2; fun)); extract_lets +onlyGivenNames y)
      | with_reducible first | assumption | apply State.bufferPkt_same | apply State.servePkt_same nM | apply ih | refine Same.eqF (by assumption) ?_
      | with_reducible (refine Same.record ?_ (fun _ => ⟨rfl, rfl⟩) (fun _ => rfl) (fun _ => rfl) (fun _ => rfl) fun _ => rfl; first | assumption | apply State.bufferPkt_same | apply State.servePkt_same nM | apply ih | refine Same.eqF (by assumption) ?_)
      | split

theorem State.serveRx_same {A : Aspect → Prop} (nM : ¬A .mem) {s0 s : State} (h : Same A s0 s) :
    Same A s0 (State.serveRx s) := by
  unfold State.serveRx
  repeat' first
    | ((fail_if_success (conv => arg 2; fun)); extract_lets +onlyGivenNames y)
    | with_reducible first | assumption | apply State.serveBuffers_same nM | refine Same.record ?_ (fun _ => ⟨rfl, rfl⟩) (fun _ => rfl) (fun _ => rfl) (fun _ => rfl) fun _ => rfl

theorem State.takeRx_same {A : Aspect → Prop} (nM : ¬A .mem) {s0 s : State} {k t2 p mecc ecc : _} (h : Same A s0 s) :
    Same A s0 (State.takeRx s k t2 p mecc ecc) := by
  unfold State.takeRx
  repeat' first
    | ((fail_if_success (conv => arg 2; fun)); extract_lets +onlyGivenNames y)
    | with_reducible first | assumption | refine State.sift_same ?_ (fun _ _ => ?_) | apply State.bufferPkt_same | apply State.serveRx_same nM

theorem execWrMem_same {A : Aspect → Prop} (nM : ¬A .mem) {s0 s : State} {k p mecc : _} (h : Same A s0 s) :
    SameX A s0 (execWrMem k p mecc s) := by
  unfold execWrMem
  repeat' first
    | ((fail_if_success (conv => arg 2; fun)); extract_lets +onlyGivenNames y)
    | with_reducible first | assumption | apply State.takeRx_same nM | apply Same.next

theorem execWrClu_same {A : Aspect → Prop} (nM : ¬A .mem) {s0 s : State} {k p : _} (h : Same A s0 s) :
    SameX A s0 (execWrClu k p s) := by
  unfold execWrClu
  repeat' first
    | ((fail_if_success (conv => arg 2; fun)); extract_lets +onlyGivenNames y)
    | with_reducible first | assumption | apply State.takeRx_same nM | apply Same.next

theorem execAddClu_same {A : Aspect → Prop} (nM : ¬A .mem) {s0 s : State} {k p ecc : _} (h : Same A s0 s) :
    SameX A s0 (execAddClu k p ecc s) := by
  unfold execAddClu
  repeat' first
    | ((fail_if_success (conv => arg 2; fun)); extract_lets +onlyGivenNames y)
    | with_reducible first | assumption | apply State.takeRx_same nM | apply Same.next

theorem execRdMem_same {A : Aspect → Prop} (nM : ¬A .mem) {s0 s : State} {k p mecc : _} (h : Same A s0 s) :
    SameX A s0 (execRdMem k p mecc s) := by
  unfold execRdMem
  repeat' first
    | ((fail_if_success (conv => arg 2; fun)); extract_lets +onlyGivenNames y)
    | with_reducible first | assumption | apply State.takeRx_same nM | apply Same.next

theorem execRdClu_same {A : Aspect → Prop} (nM : ¬A .mem) {s0 s : State} {k p ecc : _} (h : Same A s0 s) :
    SameX A s0 (execRdClu k p ecc s) := by
  unfold execRdClu
  repeat' first
    | ((fail_if_success (conv => arg 2; fun)); extract_lets +onlyGivenNames y)
    | with_reducible first | assumption | apply State.takeRx_same nM | apply Same.next

theorem execSig_same {A : Aspect → Prop} (nM : ¬A .mem) {s0 s : State} {k p : _} (h : Same A s0 s) :
    SameX A s0 (execSig k p s) := by
  unfold execSig
  repeat' first
    | ((fail_if_success (conv => arg 2; fun)); extract_lets +onlyGivenNames y)
    | with_reducible first | assumption | apply State.takeRx_same nM | apply Same.next

theorem execCollReady_same {A : Aspect → Prop} (nM : ¬A .mem) {s0 s : State} {k p mecc : _} (h : Same A s0 s) :
    SameX A s0 (execCollReady k p mecc s) := by
  unfold execCollReady
  repeat' first
    | ((fail_if_success (conv => arg 2; fun)); extract_lets +onlyGivenNames y)
    | with_reducible first | assumption | apply State.takeRx_same nM | apply Same.next

theorem execCollData_same {A : Aspect → Prop} (nM : ¬A .mem) {s0 s : State} {k p mecc : _} (h : Same A s0 s) :
    SameX A s0 (execCollData k p mecc s) := by
  unfold execCollData
  repeat' first
    | ((fail_if_success (conv => arg 2; fun)); extract_lets +onlyGivenNames y)
    | with_reducible first | assumption | apply State.takeRx_same nM | apply Same.next

theorem execMirWr_same {A : Aspect → Prop} (nM : ¬A .mem) {s0 s : State} {p mecc : _} (h : Same A s0 s) :
    SameX A s0 (execMirWr p mecc s) := by
  unfold execMirWr
  repeat' first
    | ((fail_if_success (conv => arg 2; fun)); extract_lets +onlyGivenNames y)
    | with_reducible first | assumption | apply State.takeRx_same nM | apply Same.next

theorem execSummary_same {A : Aspect → Prop} (nM : ¬A .mem) {s0 s : State} {p : _} (h : Same A s0 s) :
    SameX A s0 (execSummary p s) := by
  unfold execSummary
  repeat' first
    | ((fail_if_success (conv => arg 2; fun)); extract_lets +onlyGivenNames y)
    | with_reducible first | assumption | apply State.takeRx_same nM | apply Same.next

theorem execRdRsp_same {A : Aspect → Prop} (nM : ¬A .mem) {s0 s : State} {k p ecc : _} (h : Same A s0 s) :
    SameX A s0 (execRdRsp k p ecc s) := by
  unfold execRdRsp
  repeat' first
    | ((fail_if_success (conv => arg 2; fun)); extract_lets +onlyGivenNames y; clear_value (e : y = _); refine Same.letVar (A := A) (s0 := s0) e ?_ fun _ => ?_)
    | ((fail_if_success (conv => arg 2; fun)); extract_lets +onlyGivenNames y)
    | with_reducible first | assumption | apply State.dropReq_same | apply State.pieceData_same nM | apply State.answerTag_same | refine State.receive_same ?_ (fun _ _ => ?_) | apply Same.next
    | split

theorem execWrAck_same {A : Aspect → Prop} {s0 s : State} {k p : _} (h : Same A s0 s) :
    SameX A s0 (execWrAck k p s) := by
  unfold execWrAck
  repeat' first
    | ((fail_if_success (conv => arg 2; fun)); extract_lets +onlyGivenNames y)
    | with_reducible first | assumption | apply State.dropReq_same | apply State.answerTag_same | refine State.receive_same ?_ (fun _ _ => ?_) | apply Same.next
    | split

theorem execSigAck_same {A : Aspect → Prop} {s0 s : State} {k p : _} (h : Same A s0 s) :
    SameX A s0 (execSigAck k p s) := by
  unfold execSigAck
  repeat' first
    | ((fail_if_success (conv => arg 2; fun)); extract_lets +onlyGivenNames y; clear_value (e : y = _); refine Same.letVar (A := A) (s0 := s0) e ?_ fun _ => ?_)
    | ((fail_if_success (conv => arg 2; fun)); extract_lets +onlyGivenNames y)
    | with_reducible first | assumption | apply State.dropReq_same | apply State.gateErr_same | apply State.signalLost_same | refine State.receive_same ?_ (fun _ _ => ?_) | apply Same.next
    | split

theorem execCollAck_same {A : Aspect → Prop} (nM : ¬A .mem) {s0 s : State} {k p : _} (h : Same A s0 s) :
    SameX A s0 (execCollAck k p s) := by
  unfold execCollAck
  repeat' first
    | ((fail_if_success (conv => arg 2; fun)); extract_lets +onlyGivenNames y; clear_value (e : y = _); refine Same.letVar (A := A) (s0 := s0) e ?_ fun _ => ?_)
    | ((fail_if_success (conv => arg 2; fun)); extract_lets +onlyGivenNames y)
    | with_reducible first | assumption | apply State.dropReq_same | apply State.setColl_same | apply State.collFinish_same nM | refine State.receive_same ?_ (fun _ _ => ?_) | apply Same.next
    | split

theorem execMirAck_same {A : Aspect → Prop} {s0 s : State} {p : _} (h : Same A s0 s) :
    SameX A s0 (execMirAck p s) := by
  unfold execMirAck
  repeat' first
    | ((fail_if_success (conv => arg 2; fun)); extract_lets +onlyGivenNames y; clear_value (e : y = _); refine Same.letVar (A := A) (s0 := s0) e ?_ fun _ => ?_)
    | ((fail_if_success (conv => arg 2; fun)); extract_lets +onlyGivenNames y)
    | with_reducible first | assumption | apply State.mirrorDone_same | apply State.mirrorBad_same | refine State.receive_same ?_ (fun _ _ => ?_) | apply Same.next
    | split

theorem execBurstComplete_same {A : Aspect → Prop} (nM : ¬A .mem) {s0 s : State} {c j i ecc : _} (h : Same A s0 s) :
    SameX A s0 (execBurstComplete c j i ecc s) := by
  unfold execBurstComplete
  repeat' first
    | ((fail_if_success (conv => arg 2; fun)); extract_lets +onlyGivenNames y)
    | with_reducible first | assumption | apply State.burstDone_same nM | apply State.serveRx_same nM | apply Same.next

theorem execCreditIdleReturn_same {A : Aspect → Prop} (nM : ¬A .mem) {s0 s : State} {c link key : _} (h : Same A s0 s) :
    SameX A s0 (execCreditIdleReturn c link key s) := by
  unfold execCreditIdleReturn
  repeat' first
    | ((fail_if_success (conv => arg 2; fun)); extract_lets +onlyGivenNames y; clear_value (e : y = _); refine Same.letVar (A := A) (s0 := s0) e ?_ fun _ => ?_)
    | ((fail_if_success (conv => arg 2; fun)); extract_lets +onlyGivenNames y)
    | with_reducible first | assumption | apply State.modCl_same | apply State.returnChan_same | apply State.returnLinks_same | apply State.serveRx_same nM | apply Same.next
    | split

theorem execMemBurstTimeout_same {A : Aspect → Prop} (nM : ¬A .mem) {s0 s : State} {c j i : _} (h : Same A s0 s) :
    SameX A s0 (execMemBurstTimeout c j i s) := by
  unfold execMemBurstTimeout
  repeat' first
    | ((fail_if_success (conv => arg 2; fun)); extract_lets +onlyGivenNames y)
    | with_reducible first | assumption | apply State.failDma_same | apply State.setPiece_same | apply State.endPiece_same | apply State.serveRx_same nM | apply Same.next
    | split

/-! ### Partner -/

theorem State.sendSummary_same {A : Aspect → Prop} {s0 s : State} (h : Same A s0 s) :
    Same A s0 (State.sendSummary s) := by
  unfold State.sendSummary
  repeat' first
    | ((fail_if_success (conv => arg 2; fun)); extract_lets +onlyGivenNames y)
    | with_reducible first | assumption | apply State.sendPkt_same | refine Same.ofG (State.takeTag_same ?_)
    | with_reducible (refine Same.record ?_ (fun _ => ⟨rfl, rfl⟩) (fun _ => rfl) (fun _ => rfl) (fun _ => rfl) fun _ => rfl; first | assumption | apply State.sendPkt_same | refine Same.ofG (State.takeTag_same ?_))
    | split

theorem execSummaryTimeout_same {A : Aspect → Prop} {s0 s : State} (h : Same A s0 s) :
    SameX A s0 (execSummaryTimeout s) := by
  unfold execSummaryTimeout
  repeat' first
    | ((fail_if_success (conv => arg 2; fun)); extract_lets +onlyGivenNames y)
    | with_reducible first | assumption | apply State.partnerLost_same | apply Same.next
    | split

theorem State.ptnTrained_same {A : Aspect → Prop} {s0 s : State} {lanes err t3 : _} (h : Same A s0 s) :
    Same A s0 (State.ptnTrained s lanes err t3) := by
  unfold State.ptnTrained
  repeat' first
    | ((fail_if_success (conv => arg 2; fun)); extract_lets +onlyGivenNames y; clear_value (e : y = _); refine Same.letVar (A := A) (s0 := s0) e ?_ fun _ => ?_)
    | ((fail_if_success (conv => arg 2; fun)); extract_lets +onlyGivenNames y)
    | with_reducible first | assumption | apply State.setF_same | apply State.setWidths_same
    | split

theorem State.ptnComesUp_same {A : Aspect → Prop} {s0 s : State} {lanes t2 st : _} (h : Same A s0 s) :
    Same A s0 (State.ptnComesUp s lanes t2 st) := by
  unfold State.ptnComesUp
  repeat' first
    | ((fail_if_success (conv => arg 2; fun)); extract_lets +onlyGivenNames y; clear_value (e : y = _); refine Same.letVar (A := A) (s0 := s0) e ?_ fun _ => ?_)
    | ((fail_if_success (conv => arg 2; fun)); extract_lets +onlyGivenNames y)
    | with_reducible first | assumption | apply State.setF_same | apply State.linkTrained_same | apply State.ptnEvent_same | refine Same.record ?_ (fun _ => ⟨rfl, rfl⟩) (fun _ => rfl) (fun _ => rfl) (fun _ => rfl) fun _ => rfl

theorem State.ptnRefused_same {A : Aspect → Prop} {s0 s : State} {err : _} (h : Same A s0 s) :
    Same A s0 (State.ptnRefused s err) := by
  unfold State.ptnRefused
  repeat' first
    | ((fail_if_success (conv => arg 2; fun)); extract_lets +onlyGivenNames y; clear_value (e : y = _); refine Same.letVar (A := A) (s0 := s0) e ?_ fun _ => ?_)
    | ((fail_if_success (conv => arg 2; fun)); extract_lets +onlyGivenNames y)
    | with_reducible first | assumption | apply State.setF_same | apply State.lostCheck_same | refine Same.record ?_ (fun _ => ⟨rfl, rfl⟩) (fun _ => rfl) (fun _ => rfl) (fun _ => rfl) fun _ => rfl

theorem execPtnTrain_same {A : Aspect → Prop} {s0 s : State} {t0 : _} (h : Same A s0 s) :
    SameX A s0 (execPtnTrain t0 s) := by
  unfold execPtnTrain
  repeat' first
    | ((fail_if_success (conv => arg 2; fun)); extract_lets +onlyGivenNames y; clear_value (e : y = _); refine Same.letVar (A := A) (s0 := s0) e ?_ fun _ => ?_)
    | ((fail_if_success (conv => arg 2; fun)); extract_lets +onlyGivenNames y)
    | with_reducible first | assumption | apply State.setF_same | apply State.ptnTrained_same | apply State.ptnComesUp_same | apply State.ptnRefused_same | apply Same.next
    | split

theorem execPtnLinkDown_same {A : Aspect → Prop} (nM : ¬A .mem) {s0 s : State} {retrain : _} (h : Same A s0 s) :
    SameX A s0 (execPtnLinkDown retrain s) := by
  unfold execPtnLinkDown
  repeat' first
    | ((fail_if_success (conv => arg 2; fun)); extract_lets +onlyGivenNames y)
    | with_reducible first | assumption | apply State.ptnLeave_same nM | apply Same.next
    | with_reducible (refine Same.record ?_ (fun _ => ⟨rfl, rfl⟩) (fun _ => rfl) (fun _ => rfl) (fun _ => rfl) fun _ => rfl; first | assumption | apply State.ptnLeave_same nM | apply Same.next)
    | split

theorem State.ptnRetrain_same {A : Aspect → Prop} (nM : ¬A .mem) {s0 s : State} (h : Same A s0 s) :
    Same A s0 (State.ptnRetrain s) := by
  unfold State.ptnRetrain
  repeat' first
    | ((fail_if_success (conv => arg 2; fun)); extract_lets +onlyGivenNames y; clear_value (e : y = _); refine Same.letVar (A := A) (s0 := s0) e ?_ fun _ => ?_)
    | ((fail_if_success (conv => arg 2; fun)); extract_lets +onlyGivenNames y)
    | with_reducible first | assumption | apply State.setF_same | apply State.ptnLeave_same nM
    | split

theorem execPtnRetrainWrite_same {A : Aspect → Prop} (nM : ¬A .mem) {s0 s : State} (h : Same A s0 s) :
    SameX A s0 (execPtnRetrainWrite s) := by
  unfold execPtnRetrainWrite
  repeat' first
    | ((fail_if_success (conv => arg 2; fun)); extract_lets +onlyGivenNames y)
    | with_reducible first | assumption | apply State.ptnRetrain_same nM | apply Same.next
    | split

theorem State.ptnEnable_same {A : Aspect → Prop} (nM : ¬A .mem) {s0 s : State} {v : _} (h : Same A s0 s) :
    Same A s0 (State.ptnEnable s v) := by
  unfold State.ptnEnable
  repeat' first
    | ((fail_if_success (conv => arg 2; fun)); extract_lets +onlyGivenNames y; clear_value (e : y = _); refine Same.letVar (A := A) (s0 := s0) e ?_ fun _ => ?_)
    | ((fail_if_success (conv => arg 2; fun)); extract_lets +onlyGivenNames y)
    | with_reducible first | assumption | apply State.setF_same | apply State.ptnLeave_same nM
    | with_reducible (refine Same.record ?_ (fun _ => ⟨rfl, rfl⟩) (fun _ => rfl) (fun _ => rfl) (fun _ => rfl) fun _ => rfl; first | assumption | apply State.setF_same | apply State.ptnLeave_same nM)
    | split

theorem State.ptnFenceClear_same {A : Aspect → Prop} {s0 s : State} (h : Same A s0 s) :
    Same A s0 (State.ptnFenceClear s) := by
  unfold State.ptnFenceClear
  repeat' first
    | ((fail_if_success (conv => arg 2; fun)); extract_lets +onlyGivenNames y)
    | with_reducible first | assumption | apply State.setF_same | apply State.lostCheck_same | refine Same.record ?_ (fun _ => ⟨rfl, rfl⟩) (fun _ => rfl) (fun _ => rfl) (fun _ => rfl) fun _ => rfl

theorem execPtnFenceClr_same {A : Aspect → Prop} {s0 s : State} (h : Same A s0 s) :
    SameX A s0 (execPtnFenceClr s) := by
  unfold execPtnFenceClr
  repeat' first
    | ((fail_if_success (conv => arg 2; fun)); extract_lets +onlyGivenNames y)
    | with_reducible first | assumption | apply State.ptnFenceClear_same | apply Same.next
    | split

theorem State.commitPtn_same {A : Aspect → Prop} (nL : ¬A .live) {s0 s : State} (h : Same A s0 s) :
    Same A s0 (State.commitPtn s) := by
  unfold State.commitPtn
  repeat' first
    | ((fail_if_success (conv => arg 2; fun)); extract_lets +onlyGivenNames y; clear_value (e : y = _); refine Same.letVar (A := A) (s0 := s0) e ?_ fun _ => ?_)
    | ((fail_if_success (conv => arg 2; fun)); extract_lets +onlyGivenNames y)
    | with_reducible first | assumption | apply State.setF_same | apply State.commitRange_same nL | apply State.allDirty_same | refine Same.foldl ?_ fun _ _ _ => ?_
    | split

theorem execPtnCommit_same {A : Aspect → Prop} (nL : ¬A .live) {s0 s : State} (h : Same A s0 s) :
    SameX A s0 (execPtnCommit s) := by
  unfold execPtnCommit
  repeat' first
    | ((fail_if_success (conv => arg 2; fun)); extract_lets +onlyGivenNames y)
    | with_reducible first | assumption | apply State.commitPtn_same nL | apply Same.next
    | split

theorem State.copyPackets_same {A : Aspect → Prop} (nM : ¬A .mem) {s0 s : State} {z0 z2 z3 z4 : _} (h : Same A s0 s) :
    Same A s0 (State.copyPackets z0 s z2 z3 z4) := by
  induction z0 generalizing s z2 z3 z4 with
  | zero =>
    unfold State.copyPackets
    repeat' first
      | ((fail_if_success (conv => arg 2; fun)); extract_lets +onlyGivenNames y; clear_value (e : y = _); refine Same.letVar (A := A) (s0 := s0) e ?_ fun _ => ?_)
      | ((fail_if_success (conv => arg 2; fun)); extract_lets +onlyGivenNames y)
      | with_reducible first | assumption | apply State.memRead_same nM | refine Same.ofF (State.sendMirror_same ?_) | apply State.copyFailed_same | apply ih | refine Same.eqF (by assumption) ?_
      | with_reducible (refine Same.record ?_ (fun _ => ⟨rfl, rfl⟩) (fun _ => rfl) (fun _ => rfl) (fun _ => rfl) fun _ => rfl; first | assumption | apply State.memRead_same nM | refine Same.ofF (State.sendMirror_same ?_) | apply State.copyFailed_same | apply ih | refine Same.eqF (by assumption) ?_)
      | split
  | succ n ih =>
    unfold State.copyPackets
    repeat' first
      | ((fail_if_success (conv => arg 2; fun)); extract_lets +onlyGivenNames y; clear_value (e : y = _); refine Same.letVar (A := A) (s0 := s0) e ?_ fun _ => ?_)
      | ((fail_if_success (conv => arg 2; fun)); extract_lets +onlyGivenNames y)
      | with_reducible first | assumption | apply State.memRead_same nM | refine Same.ofF (State.sendMirror_same ?_) | apply State.copyFailed_same | apply ih | refine Same.eqF (by assumption) ?_
      | with_reducible (refine Same.record ?_ (fun _ => ⟨rfl, rfl⟩) (fun _ => rfl) (fun _ => rfl) (fun _ => rfl) fun _ => rfl; first | assumption | apply State.memRead_same nM | refine Same.ofF (State.sendMirror_same ?_) | apply State.copyFailed_same | apply ih | refine Same.eqF (by assumption) ?_)
      | split

theorem execPartnerResync_same {A : Aspect → Prop} (nM : ¬A .mem) {s0 s : State} (h : Same A s0 s) :
    SameX A s0 (execPartnerResync s) := by
  unfold execPartnerResync
  repeat' first
    | ((fail_if_success (conv => arg 2; fun)); extract_lets +onlyGivenNames y; clear_value (e : y = _); refine Same.letVar (A := A) (s0 := s0) e ?_ fun _ => ?_)
    | ((fail_if_success (conv => arg 2; fun)); extract_lets +onlyGivenNames y)
    | with_reducible first | assumption | apply State.setF_same | apply State.copyPackets_same nM | apply Same.next
    | with_reducible (refine Same.record ?_ (fun _ => ⟨rfl, rfl⟩) (fun _ => rfl) (fun _ => rfl) (fun _ => rfl) fun _ => rfl; first | assumption | apply State.setF_same | apply State.copyPackets_same nM | apply Same.next)
    | split

theorem State.syncCheck_same {A : Aspect → Prop} {s0 s : State} {r : _} (h : Same A s0 s) :
    Same A s0 (State.syncCheck s r) := by
  unfold State.syncCheck
  repeat' first
    | ((fail_if_success (conv => arg 2; fun)); extract_lets +onlyGivenNames y)
    | with_reducible first | assumption | apply State.setF_same | apply State.ptnEvent_same
    | split

theorem execResyncBlockDone_same {A : Aspect → Prop} {s0 s : State} (h : Same A s0 s) :
    SameX A s0 (execResyncBlockDone s) := by
  unfold execResyncBlockDone
  repeat' first
    | ((fail_if_success (conv => arg 2; fun)); extract_lets +onlyGivenNames y; clear_value (e : y = _); refine Same.letVar (A := A) (s0 := s0) e ?_ fun _ => ?_)
    | ((fail_if_success (conv => arg 2; fun)); extract_lets +onlyGivenNames y)
    | with_reducible first | assumption | apply State.setF_same | apply State.setFlag_same | apply State.syncCheck_same | apply Same.next
    | with_reducible (refine Same.record ?_ (fun _ => ⟨rfl, rfl⟩) (fun _ => rfl) (fun _ => rfl) (fun _ => rfl) fun _ => rfl; first | assumption | apply State.setF_same | apply State.setFlag_same | apply State.syncCheck_same | apply Same.next)
    | split

end Sys2Proof.Machine
end

