-- ==== Sys2Proof/Laws/SameGrains.lean ====
section
/-!
SUPPORT. The grain budget, the row bus, power, the drive stage and Copper leave what Laws/Same.lean names.
-/

namespace Sys2Proof.Machine

set_option linter.all false

/-! ### GrainOps -/

theorem State.grbEvent_same {A : Aspect → Prop} {s0 s : State} {bit : _} (h : Same A s0 s) :
    Same A s0 (State.grbEvent s bit) := by
  unfold State.grbEvent
  repeat' first
    | ((fail_if_success (conv => arg 2; fun)); extract_lets +onlyGivenNames y)
    | with_reducible first | assumption | apply State.postBit_same

theorem State.setApplied_same {A : Aspect → Prop} {s0 s : State} {uw : _} (h : Same A s0 s) :
    Same A s0 (State.setApplied s uw) := by
  unfold State.setApplied
  repeat' first
    | ((fail_if_success (conv => arg 2; fun)); extract_lets +onlyGivenNames y; clear_value (e : y = _); refine Same.letVar (A := A) (s0 := s0) e ?_ fun _ => ?_)
    | ((fail_if_success (conv => arg 2; fun)); extract_lets +onlyGivenNames y)
    | with_reducible first | assumption | apply State.setF_same | apply State.setFlag_same | refine Same.record ?_ (fun _ => ⟨rfl, rfl⟩) (fun _ => rfl) (fun _ => rfl) (fun _ => rfl) fun _ => rfl

theorem State.setThermal_same {A : Aspect → Prop} {s0 s : State} {uw : _} (h : Same A s0 s) :
    Same A s0 (State.setThermal s uw) := by
  unfold State.setThermal
  repeat' first
    | ((fail_if_success (conv => arg 2; fun)); extract_lets +onlyGivenNames y)
    | with_reducible first | assumption | apply State.setF_same | refine Same.record ?_ (fun _ => ⟨rfl, rfl⟩) (fun _ => rfl) (fun _ => rfl) (fun _ => rfl) fun _ => rfl

theorem State.divideCaps_same {A : Aspect → Prop} {s0 s : State} (h : Same A s0 s) :
    Same A s0 (State.divideCaps s) := by
  unfold State.divideCaps
  repeat' first
    | ((fail_if_success (conv => arg 2; fun)); extract_lets +onlyGivenNames y; clear_value (e : y = _); refine Same.letVar (A := A) (s0 := s0) e ?_ fun _ => ?_)
    | ((fail_if_success (conv => arg 2; fun)); extract_lets +onlyGivenNames y)
    | with_reducible first | assumption | apply State.setF_same | apply State.setFlag_same | apply State.modDie_same | apply State.grbEvent_same | refine Same.foldl ?_ fun _ _ _ => ?_
    | split

theorem State.bindingCheck_same {A : Aspect → Prop} {s0 s : State} (h : Same A s0 s) :
    Same A s0 (State.bindingCheck s) := by
  unfold State.bindingCheck
  repeat' first
    | ((fail_if_success (conv => arg 2; fun)); extract_lets +onlyGivenNames y; clear_value (e : y = _); refine Same.letVar (A := A) (s0 := s0) e ?_ fun _ => ?_)
    | ((fail_if_success (conv => arg 2; fun)); extract_lets +onlyGivenNames y)
    | with_reducible first | assumption | apply State.setF_same | apply State.sendCapStatus_same | apply State.grbEvent_same
    | with_reducible (refine Same.record ?_ (fun _ => ⟨rfl, rfl⟩) (fun _ => rfl) (fun _ => rfl) (fun _ => rfl) fun _ => rfl; first | assumption | apply State.setF_same | apply State.sendCapStatus_same | apply State.grbEvent_same)
    | split

theorem State.clipReserve_same {A : Aspect → Prop} {s0 s : State} {c ceil : _} (h : Same A s0 s) :
    Same A s0 (State.clipReserve s c ceil) := by
  unfold State.clipReserve
  repeat' first
    | ((fail_if_success (conv => arg 2; fun)); extract_lets +onlyGivenNames y)
    | with_reducible first | assumption | apply State.modCl_same | apply State.modDie_same
    | split

theorem State.wakeReserve_same {A : Aspect → Prop} {s0 s : State} {c : _} (h : Same A s0 s) :
    Same A s0 (State.wakeReserve s c) := by
  unfold State.wakeReserve
  repeat' first
    | with_reducible first | assumption | apply State.wake_same
    | split

theorem State.clipDie_same {A : Aspect → Prop} {s0 s : State} {n : _} (h : Same A s0 s) :
    Same A s0 (State.clipDie s n) := by
  unfold State.clipDie
  repeat' first
    | ((fail_if_success (conv => arg 2; fun)); extract_lets +onlyGivenNames y; clear_value (e : y = _); refine Same.letVar (A := A) (s0 := s0) e ?_ fun _ => ?_)
    | ((fail_if_success (conv => arg 2; fun)); extract_lets +onlyGivenNames y)
    | with_reducible first | assumption | apply State.modDie_same | apply State.clipReserve_same | refine Same.foldl ?_ fun _ _ _ => ?_

theorem State.addProtect_same {A : Aspect → Prop} {s0 s : State} {c : _} (h : Same A s0 s) :
    Same A s0 (State.addProtect s c) := by
  unfold State.addProtect
  repeat' first
    | ((fail_if_success (conv => arg 2; fun)); extract_lets +onlyGivenNames y)
    | with_reducible first | assumption
    | with_reducible (refine Same.record ?_ (fun _ => ⟨rfl, rfl⟩) (fun _ => rfl) (fun _ => rfl) (fun _ => rfl) fun _ => rfl; first | assumption)
    | split

theorem State.dropProtect_same {A : Aspect → Prop} {s0 s : State} {c : _} (h : Same A s0 s) :
    Same A s0 (State.dropProtect s c) := by
  unfold State.dropProtect
  repeat' first
    | ((fail_if_success (conv => arg 2; fun)); extract_lets +onlyGivenNames y; clear_value (e : y = _); refine Same.letVar (A := A) (s0 := s0) e ?_ fun _ => ?_)
    | ((fail_if_success (conv => arg 2; fun)); extract_lets +onlyGivenNames y)
    | with_reducible first | assumption | apply State.setFlag_same | refine Same.record ?_ (fun _ => ⟨rfl, rfl⟩) (fun _ => rfl) (fun _ => rfl) (fun _ => rfl) fun _ => rfl

theorem State.protFall_same {A : Aspect → Prop} {s0 s : State} {cause capUw dieUw : _} (h : Same A s0 s) :
    Same A s0 (State.protFall s cause capUw dieUw) := by
  unfold State.protFall
  repeat' first
    | ((fail_if_success (conv => arg 2; fun)); extract_lets +onlyGivenNames y; clear_value (e : y = _); refine Same.letVar (A := A) (s0 := s0) e ?_ fun _ => ?_)
    | ((fail_if_success (conv => arg 2; fun)); extract_lets +onlyGivenNames y)
    | with_reducible first | assumption | apply State.setF_same | apply State.modDie_same | apply State.stopSlices_same | apply State.grbEvent_same | apply State.setApplied_same | apply State.setThermal_same | apply State.divideCaps_same | apply State.bindingCheck_same | apply State.clipDie_same | apply State.addProtect_same | refine Same.foldl ?_ fun _ _ _ => ?_
    | with_reducible (refine Same.record ?_ (fun _ => ⟨rfl, rfl⟩) (fun _ => rfl) (fun _ => rfl) (fun _ => rfl) fun _ => rfl; first | assumption | apply State.setF_same | apply State.modDie_same | apply State.stopSlices_same | apply State.grbEvent_same | apply State.setApplied_same | apply State.setThermal_same | apply State.divideCaps_same | apply State.bindingCheck_same | apply State.clipDie_same | apply State.addProtect_same | refine Same.foldl ?_ fun _ _ _ => ?_)
    | split

theorem State.floorFall_same {A : Aspect → Prop} {s0 s : State} {cause : _} (h : Same A s0 s) :
    Same A s0 (State.floorFall s cause) := by
  unfold State.floorFall
  repeat' with_reducible first | assumption | apply State.protFall_same

/-! ### CoolOps -/

theorem State.sensCounts_same {A : Aspect → Prop} {s0 s : State} (h : Same A s0 s) :
    Same A s0 (State.sensCounts s) := by
  unfold State.sensCounts
  repeat' first
    | ((fail_if_success (conv => arg 2; fun)); extract_lets +onlyGivenNames y)
    | with_reducible first | assumption | apply State.setF_same

theorem State.setSens_same {A : Aspect → Prop} {s0 s : State} {id r : _} (h : Same A s0 s) :
    Same A s0 (State.setSens s id r) := by
  unfold State.setSens
  repeat' first
    | ((fail_if_success (conv => arg 2; fun)); extract_lets +onlyGivenNames y)
    | with_reducible first | assumption | apply State.sensCounts_same | refine Same.record ?_ (fun _ => ⟨rfl, rfl⟩) (fun _ => rfl) (fun _ => rfl) (fun _ => rfl) fun _ => rfl

theorem State.takeReadings_same {A : Aspect → Prop} {s0 s : State} {rs : _} (h : Same A s0 s) :
    Same A s0 (State.takeReadings s rs) := by
  unfold State.takeReadings
  repeat' first
    | ((fail_if_success (conv => arg 2; fun)); extract_lets +onlyGivenNames y)
    | with_reducible first | assumption | refine Same.record ?_ (fun _ => ⟨rfl, rfl⟩) (fun _ => rfl) (fun _ => rfl) (fun _ => rfl) fun _ => rfl

theorem State.takeSources_same {A : Aspect → Prop} {s0 s : State} {src : _} (h : Same A s0 s) :
    Same A s0 (State.takeSources s src) := by
  unfold State.takeSources
  repeat' first
    | ((fail_if_success (conv => arg 2; fun)); extract_lets +onlyGivenNames y)
    | with_reducible first | assumption | refine Same.record ?_ (fun _ => ⟨rfl, rfl⟩) (fun _ => rfl) (fun _ => rfl) (fun _ => rfl) fun _ => rfl

theorem State.refresh_same {A : Aspect → Prop} {s0 s : State} (h : Same A s0 s) :
    Same A s0 (State.refresh s) := by
  unfold State.refresh
  repeat' first
    | ((fail_if_success (conv => arg 2; fun)); extract_lets +onlyGivenNames y; clear_value (e : y = _); refine Same.letVar (A := A) (s0 := s0) e ?_ fun _ => ?_)
    | ((fail_if_success (conv => arg 2; fun)); extract_lets +onlyGivenNames y)
    | with_reducible first | assumption | apply State.setF_same | refine Same.foldl ?_ fun _ _ _ => ?_
    | with_reducible (refine Same.record ?_ (fun _ => ⟨rfl, rfl⟩) (fun _ => rfl) (fun _ => rfl) (fun _ => rfl) fun _ => rfl; first | assumption | apply State.setF_same | refine Same.foldl ?_ fun _ _ _ => ?_)
    | split

theorem State.refreshLeak_same {A : Aspect → Prop} {s0 s : State} (h : Same A s0 s) :
    Same A s0 (State.refreshLeak s) := by
  unfold State.refreshLeak
  repeat' first
    | ((fail_if_success (conv => arg 2; fun)); extract_lets +onlyGivenNames y)
    | with_reducible first | assumption | apply State.setF_same | refine Same.foldl ?_ fun _ _ _ => ?_
    | split

theorem State.refactor_same {A : Aspect → Prop} {s0 s : State} (h : Same A s0 s) :
    Same A s0 (State.refactor s) := by
  unfold State.refactor
  repeat' first
    | ((fail_if_success (conv => arg 2; fun)); extract_lets +onlyGivenNames y; clear_value (e : y = _); refine Same.letVar (A := A) (s0 := s0) e ?_ fun _ => ?_)
    | ((fail_if_success (conv => arg 2; fun)); extract_lets +onlyGivenNames y)
    | with_reducible first | assumption | apply State.setF_same | apply State.dropProtect_same | apply State.protFall_same | refine Same.foldl ?_ fun _ _ _ => ?_
    | with_reducible (refine Same.record ?_ (fun _ => ⟨rfl, rfl⟩) (fun _ => rfl) (fun _ => rfl) (fun _ => rfl) fun _ => rfl; first | assumption | apply State.setF_same | apply State.dropProtect_same | apply State.protFall_same | refine Same.foldl ?_ fun _ _ _ => ?_)
    | split

/-! ### Grains -/

theorem State.grbSettled_same {A : Aspect → Prop} {s0 s : State} (h : Same A s0 s) :
    Same A s0 (State.grbSettled s) := by
  unfold State.grbSettled
  repeat' first
    | with_reducible first | assumption | apply State.setF_same
    | split

theorem State.takeGrbSet_same {A : Aspect → Prop} (nL : ¬A .live) {s0 s : State} (h : Same A s0 s) :
    Same A s0 (State.takeGrbSet s) := by
  unfold State.takeGrbSet
  repeat' first
    | ((fail_if_success (conv => arg 2; fun)); extract_lets +onlyGivenNames y; clear_value (e : y = _); refine Same.letVar (A := A) (s0 := s0) e ?_ fun _ => ?_)
    | ((fail_if_success (conv => arg 2; fun)); extract_lets +onlyGivenNames y)
    | with_reducible first | assumption | apply State.commitAll_same nL | apply State.modCl_same | apply State.clipReserve_same | apply State.grbSettled_same | refine Same.foldl ?_ fun _ _ _ => ?_
    | with_reducible (refine Same.record ?_ (fun _ => ⟨rfl, rfl⟩) (fun _ => rfl) (fun _ => rfl) (fun _ => rfl) fun _ => rfl; first | assumption | apply State.commitAll_same nL | apply State.modCl_same | apply State.clipReserve_same | apply State.grbSettled_same | refine Same.foldl ?_ fun _ _ _ => ?_)
    | split

theorem State.takeWeights_same {A : Aspect → Prop} (nL : ¬A .live) {s0 s : State} (h : Same A s0 s) :
    Same A s0 (State.takeWeights s) := by
  unfold State.takeWeights
  repeat' first
    | ((fail_if_success (conv => arg 2; fun)); extract_lets +onlyGivenNames y)
    | with_reducible first | assumption | apply State.commitRange_same nL | apply State.grbSettled_same
    | with_reducible (refine Same.record ?_ (fun _ => ⟨rfl, rfl⟩) (fun _ => rfl) (fun _ => rfl) (fun _ => rfl) fun _ => rfl; first | assumption | apply State.commitRange_same nL | apply State.grbSettled_same)
    | split

theorem State.commitGrb_same {A : Aspect → Prop} {s0 s : State} (h : Same A s0 s) :
    Same A s0 (State.commitGrb s) := by
  unfold State.commitGrb
  repeat' first
    | ((fail_if_success (conv => arg 2; fun)); extract_lets +onlyGivenNames y; clear_value (e : y = _); refine Same.letVar (A := A) (s0 := s0) e ?_ fun _ => ?_)
    | ((fail_if_success (conv => arg 2; fun)); extract_lets +onlyGivenNames y)
    | with_reducible first | assumption | apply State.setF_same
    | with_reducible (refine Same.record ?_ (fun _ => ⟨rfl, rfl⟩) (fun _ => rfl) (fun _ => rfl) (fun _ => rfl) fun _ => rfl; first | assumption | apply State.setF_same)
    | split

theorem execGrbCommit_same {A : Aspect → Prop} {s0 s : State} (h : Same A s0 s) :
    SameX A s0 (execGrbCommit s) := by
  unfold execGrbCommit
  repeat' first
    | ((fail_if_success (conv => arg 2; fun)); extract_lets +onlyGivenNames y)
    | with_reducible first | assumption | apply State.commitGrb_same | apply Same.next
    | with_reducible (refine Same.record ?_ (fun _ => ⟨rfl, rfl⟩) (fun _ => rfl) (fun _ => rfl) (fun _ => rfl) fun _ => rfl; first | assumption | apply State.commitGrb_same | apply Same.next)
    | split

theorem State.chargeMeters_same {A : Aspect → Prop} {s0 s : State} {n meters : _} (h : Same A s0 s) :
    Same A s0 (State.chargeMeters s n meters) := by
  unfold State.chargeMeters
  repeat' first
    | ((fail_if_success (conv => arg 2; fun)); extract_lets +onlyGivenNames y)
    | with_reducible first | assumption | apply State.modCl_same | apply State.modDie_same | refine Same.foldl ?_ fun _ _ _ => ?_

theorem State.updateDebt_same {A : Aspect → Prop} {s0 s : State} {n spend minted : _} (h : Same A s0 s) :
    Same A s0 (State.updateDebt s n spend minted) := by
  unfold State.updateDebt
  repeat' first
    | ((fail_if_success (conv => arg 2; fun)); extract_lets +onlyGivenNames y; clear_value (e : y = _); refine Same.letVar (A := A) (s0 := s0) e ?_ fun _ => ?_)
    | ((fail_if_success (conv => arg 2; fun)); extract_lets +onlyGivenNames y)
    | with_reducible first | assumption | apply State.setF_same | apply State.modDie_same | apply State.grbEvent_same
    | split

theorem execMint_same {A : Aspect → Prop} (nL : ¬A .live) {s0 s : State} {n meters rail : _} (h : Same A s0 s) :
    SameX A s0 (execMint n meters rail s) := by
  unfold execMint
  repeat' first
    | ((fail_if_success (conv => arg 2; fun)); extract_lets +onlyGivenNames y; clear_value (e : y = _); refine Same.letVar (A := A) (s0 := s0) e ?_ fun _ => ?_)
    | ((fail_if_success (conv => arg 2; fun)); extract_lets +onlyGivenNames y)
    | with_reducible first | assumption | apply State.add64_same | apply State.modCl_same | apply State.modDie_same | apply State.wakeReserve_same | apply State.takeGrbSet_same nL | apply State.chargeMeters_same | apply State.updateDebt_same | apply Same.next | refine Same.foldl ?_ fun _ _ _ => ?_
    | split

theorem execGrainGrant_same {A : Aspect → Prop} {s0 s : State} {n : _} (h : Same A s0 s) :
    SameX A s0 (execGrainGrant n s) := by
  unfold execGrainGrant
  repeat' first
    | ((fail_if_success (conv => arg 2; fun)); extract_lets +onlyGivenNames y; clear_value (e : y = _); refine Same.letVar (A := A) (s0 := s0) e ?_ fun _ => ?_)
    | ((fail_if_success (conv => arg 2; fun)); extract_lets +onlyGivenNames y)
    | with_reducible first | assumption | apply State.modCl_same | apply State.modDie_same | apply State.wakeReserve_same | apply Same.next
    | split

theorem execBrakeHold_same {A : Aspect → Prop} {s0 s : State} {n meters : _} (h : Same A s0 s) :
    SameX A s0 (execBrakeHold n meters s) := by
  unfold execBrakeHold
  repeat' first
    | ((fail_if_success (conv => arg 2; fun)); extract_lets +onlyGivenNames y; clear_value (e : y = _); refine Same.letVar (A := A) (s0 := s0) e ?_ fun _ => ?_)
    | ((fail_if_success (conv => arg 2; fun)); extract_lets +onlyGivenNames y)
    | with_reducible first | assumption | apply State.addSat_same | apply State.modDie_same | apply State.steep_same | apply State.chargeMeters_same | apply Same.next | refine Same.foldl ?_ fun _ _ _ => ?_
    | split

theorem State.setCeil_same {A : Aspect → Prop} {s0 s : State} {c v : _} (h : Same A s0 s) :
    Same A s0 (State.setCeil s c v) := by
  unfold State.setCeil
  repeat' first
    | ((fail_if_success (conv => arg 2; fun)); extract_lets +onlyGivenNames y)
    | with_reducible first | assumption | apply State.modCl_same | apply State.clipReserve_same

theorem State.hotSpots_same {A : Aspect → Prop} {s0 s : State} {n readings sourceMw : _} (h : Same A s0 s) :
    Same A s0 (State.hotSpots s n readings sourceMw) := by
  unfold State.hotSpots
  repeat' first
    | ((fail_if_success (conv => arg 2; fun)); extract_lets +onlyGivenNames y; clear_value (e : y = _); refine Same.letVar (A := A) (s0 := s0) e ?_ fun _ => ?_)
    | ((fail_if_success (conv => arg 2; fun)); extract_lets +onlyGivenNames y)
    | with_reducible first | assumption | apply State.setF_same | apply State.modCl_same | apply State.takeReadings_same | apply State.takeSources_same | apply State.setCeil_same | refine Same.foldl ?_ fun _ _ _ => ?_
    | split

theorem execHotSpotLimiter_same {A : Aspect → Prop} {s0 s : State} {n readings sourceMw : _} (h : Same A s0 s) :
    SameX A s0 (execHotSpotLimiter n readings sourceMw s) := by
  unfold execHotSpotLimiter
  repeat' first
    | ((fail_if_success (conv => arg 2; fun)); extract_lets +onlyGivenNames y)
    | with_reducible first | assumption | apply State.hotSpots_same | apply Same.next
    | split

theorem execDieHotTimeout_same {A : Aspect → Prop} {s0 s : State} {n : _} (h : Same A s0 s) :
    SameX A s0 (execDieHotTimeout n s) := by
  unfold execDieHotTimeout
  repeat' first
    | ((fail_if_success (conv => arg 2; fun)); extract_lets +onlyGivenNames y)
    | with_reducible first | assumption | refine Same.ofG (State.fresh_same ?_) | apply State.modDie_same | apply Same.next
    | split

theorem State.capHost_same {A : Aspect → Prop} {s0 s : State} {v : _} (h : Same A s0 s) :
    Same A s0 (State.capHost s v) := by
  unfold State.capHost
  repeat' first
    | ((fail_if_success (conv => arg 2; fun)); extract_lets +onlyGivenNames y; clear_value (e : y = _); refine Same.letVar (A := A) (s0 := s0) e ?_ fun _ => ?_)
    | ((fail_if_success (conv => arg 2; fun)); extract_lets +onlyGivenNames y)
    | with_reducible first | assumption | apply State.setF_same | apply State.setFlag_same | apply State.grbEvent_same
    | split

theorem execCapHostWrite_same {A : Aspect → Prop} {s0 s : State} {value : _} (h : Same A s0 s) :
    SameX A s0 (execCapHostWrite value s) := by
  unfold execCapHostWrite
  repeat' first
    | ((fail_if_success (conv => arg 2; fun)); extract_lets +onlyGivenNames y)
    | with_reducible first | assumption | apply State.capHost_same | apply Same.next
    | split

theorem State.rackMessage_same {A : Aspect → Prop} {s0 s : State} {p w q : _} (h : Same A s0 s) :
    Same A s0 (State.rackMessage s p w q) := by
  unfold State.rackMessage
  repeat' first
    | ((fail_if_success (conv => arg 2; fun)); extract_lets +onlyGivenNames y; clear_value (e : y = _); refine Same.letVar (A := A) (s0 := s0) e ?_ fun _ => ?_)
    | ((fail_if_success (conv => arg 2; fun)); extract_lets +onlyGivenNames y)
    | with_reducible first | assumption | apply State.setF_same | apply State.grbEvent_same
    | with_reducible (refine Same.record ?_ (fun _ => ⟨rfl, rfl⟩) (fun _ => rfl) (fun _ => rfl) (fun _ => rfl) fun _ => rfl; first | assumption | apply State.setF_same | apply State.grbEvent_same)
    | split

theorem execRackCap_same {A : Aspect → Prop} {s0 s : State} {p frame : _} (h : Same A s0 s) :
    SameX A s0 (execRackCap p frame s) := by
  unfold execRackCap
  repeat' first
    | ((fail_if_success (conv => arg 2; fun)); extract_lets +onlyGivenNames y)
    | with_reducible first | assumption | apply State.rowAccept_same | apply State.rowHear_same | apply State.rackMessage_same | apply Same.next | refine Same.eqF (by assumption) ?_
    | with_reducible (refine Same.record ?_ (fun _ => ⟨rfl, rfl⟩) (fun _ => rfl) (fun _ => rfl) (fun _ => rfl) fun _ => rfl; first | assumption | apply State.rowAccept_same | apply State.rowHear_same | apply State.rackMessage_same | apply Same.next | refine Same.eqF (by assumption) ?_)
    | split

theorem State.rackCfg_same {A : Aspect → Prop} {s0 s : State} {v : _} (h : Same A s0 s) :
    Same A s0 (State.rackCfg s v) := by
  unfold State.rackCfg
  repeat' first
    | ((fail_if_success (conv => arg 2; fun)); extract_lets +onlyGivenNames y; clear_value (e : y = _); refine Same.letVar (A := A) (s0 := s0) e ?_ fun _ => ?_)
    | ((fail_if_success (conv => arg 2; fun)); extract_lets +onlyGivenNames y)
    | with_reducible first | assumption | apply State.setF_same
    | split

theorem execRackCfgWrite_same {A : Aspect → Prop} {s0 s : State} {value : _} (h : Same A s0 s) :
    SameX A s0 (execRackCfgWrite value s) := by
  unfold execRackCfgWrite
  repeat' first
    | ((fail_if_success (conv => arg 2; fun)); extract_lets +onlyGivenNames y)
    | with_reducible first | assumption | apply State.rackCfg_same | apply Same.next
    | split

theorem execRackLeaseExpiry_same {A : Aspect → Prop} {s0 s : State} (h : Same A s0 s) :
    SameX A s0 (execRackLeaseExpiry s) := by
  unfold execRackLeaseExpiry
  repeat' first
    | ((fail_if_success (conv => arg 2; fun)); extract_lets +onlyGivenNames y; clear_value (e : y = _); refine Same.letVar (A := A) (s0 := s0) e ?_ fun _ => ?_)
    | ((fail_if_success (conv => arg 2; fun)); extract_lets +onlyGivenNames y)
    | with_reducible first | assumption | apply State.setF_same | apply State.grbEvent_same | apply Same.next
    | split

theorem execProtectionFall_same {A : Aspect → Prop} {s0 s : State} {k capW dieW : _} (h : Same A s0 s) :
    SameX A s0 (execProtectionFall k capW dieW s) := by
  unfold execProtectionFall
  repeat' first
    | ((fail_if_success (conv => arg 2; fun)); extract_lets +onlyGivenNames y; clear_value (e : y = _); refine Same.letVar (A := A) (s0 := s0) e ?_ fun _ => ?_)
    | ((fail_if_success (conv => arg 2; fun)); extract_lets +onlyGivenNames y)
    | with_reducible first | assumption | apply State.protFall_same | apply Same.next
    | with_reducible (refine Same.record ?_ (fun _ => ⟨rfl, rfl⟩) (fun _ => rfl) (fun _ => rfl) (fun _ => rfl) fun _ => rfl; first | assumption | apply State.protFall_same | apply Same.next)
    | split

theorem execDieCapStale_same {A : Aspect → Prop} {s0 s : State} {n : _} (h : Same A s0 s) :
    SameX A s0 (execDieCapStale n s) := by
  unfold execDieCapStale
  repeat' first
    | ((fail_if_success (conv => arg 2; fun)); extract_lets +onlyGivenNames y)
    | with_reducible first | assumption | apply State.modDie_same | apply Same.next
    | split

theorem execCapStatusPeriodic_same {A : Aspect → Prop} {s0 s : State} (h : Same A s0 s) :
    SameX A s0 (execCapStatusPeriodic s) := by
  unfold execCapStatusPeriodic
  repeat' first
    | ((fail_if_success (conv => arg 2; fun)); extract_lets +onlyGivenNames y; clear_value (e : y = _); refine Same.letVar (A := A) (s0 := s0) e ?_ fun _ => ?_)
    | ((fail_if_success (conv => arg 2; fun)); extract_lets +onlyGivenNames y)
    | with_reducible first | assumption | apply State.served_same | apply State.sendCapStatus_same | apply Same.next
    | with_reducible (refine Same.record ?_ (fun _ => ⟨rfl, rfl⟩) (fun _ => rfl) (fun _ => rfl) (fun _ => rfl) fun _ => rfl; first | assumption | apply State.served_same | apply State.sendCapStatus_same | apply Same.next)
    | split

/-! ### PowerOps -/

theorem State.forgetCluster_same {A : Aspect → Prop} {s0 s : State} {c : _} (h : Same A s0 s) :
    Same A s0 (State.forgetCluster s c) := by
  unfold State.forgetCluster
  repeat' first
    | ((fail_if_success (conv => arg 2; fun)); extract_lets +onlyGivenNames y; clear_value (e : y = _); refine Same.letVar (A := A) (s0 := s0) e ?_ fun _ => ?_)
    | ((fail_if_success (conv => arg 2; fun)); extract_lets +onlyGivenNames y)
    | with_reducible first | assumption | apply State.leaveWaits_same | apply State.returnChan_same | apply State.returnChans_same | apply State.returnLinks_same | refine Same.foldl ?_ fun _ _ _ => ?_ | refine Same.record ?_ (fun _ => ⟨rfl, rfl⟩) (fun _ => rfl) (fun _ => rfl) (fun _ => rfl) fun _ => rfl

theorem State.freeCompletions_same {A : Aspect → Prop} {s0 s : State} {c : _} (h : Same A s0 s) :
    Same A s0 (State.freeCompletions s c) := by
  unfold State.freeCompletions
  repeat' first
    | ((fail_if_success (conv => arg 2; fun)); extract_lets +onlyGivenNames y)
    | with_reducible first | assumption | refine Same.record ?_ (fun _ => ⟨rfl, rfl⟩) (fun _ => rfl) (fun _ => rfl) (fun _ => rfl) fun _ => rfl

theorem State.gateCluster_same {A : Aspect → Prop} {s0 s : State} {c keepStore : _} (h : Same A s0 s) :
    Same A s0 (State.gateCluster s c keepStore) := by
  unfold State.gateCluster
  repeat' first
    | ((fail_if_success (conv => arg 2; fun)); extract_lets +onlyGivenNames y)
    | with_reducible first | assumption | apply State.closeGate_same | apply State.forgetCluster_same | apply State.freeCompletions_same

theorem State.ungateCluster_same {A : Aspect → Prop} {s0 s : State} {c run : _} (h : Same A s0 s) :
    Same A s0 (State.ungateCluster s c run) := by
  unfold State.ungateCluster
  repeat' first
    | ((fail_if_success (conv => arg 2; fun)); extract_lets +onlyGivenNames y; clear_value (e : y = _); refine Same.letVar (A := A) (s0 := s0) e ?_ fun _ => ?_)
    | ((fail_if_success (conv => arg 2; fun)); extract_lets +onlyGivenNames y)
    | with_reducible first | assumption | apply State.setF_same | apply State.clearClu_same
    | split

theorem State.optOff_same {A : Aspect → Prop} (nM : ¬A .mem) (nD : ¬A .dom) {s0 s : State} {k : _} (h : Same A s0 s) :
    Same A s0 (State.optOff s k) := by
  unfold State.optOff
  repeat' first
    | ((fail_if_success (conv => arg 2; fun)); extract_lets +onlyGivenNames y)
    | with_reducible first | assumption | apply State.portLeave_same nM | apply State.turnOff_same nD
    | split

theorem State.loseBursts_same {A : Aspect → Prop} {s0 s : State} {n c : _} (h : Same A s0 s) :
    Same A s0 (State.loseBursts s n c) := by
  unfold State.loseBursts
  repeat' first
    | ((fail_if_success (conv => arg 2; fun)); extract_lets +onlyGivenNames y; clear_value (e : y = _); refine Same.letVar (A := A) (s0 := s0) e ?_ fun _ => ?_)
    | ((fail_if_success (conv => arg 2; fun)); extract_lets +onlyGivenNames y)
    | with_reducible first | assumption | apply State.returnChans_same | apply State.modDma_same | apply State.failDma_same | refine Same.foldl ?_ fun _ _ _ => ?_
    | split

theorem State.loseTokens_same {A : Aspect → Prop} {s0 s : State} {c : _} (h : Same A s0 s) :
    Same A s0 (State.loseTokens s c) := by
  unfold State.loseTokens
  repeat' first
    | ((fail_if_success (conv => arg 2; fun)); extract_lets +onlyGivenNames y; clear_value (e : y = _); refine Same.letVar (A := A) (s0 := s0) e ?_ fun _ => ?_)
    | ((fail_if_success (conv => arg 2; fun)); extract_lets +onlyGivenNames y)
    | with_reducible first | assumption | apply State.setFlag_same | apply State.modCl_same
    | with_reducible (refine Same.record ?_ (fun _ => ⟨rfl, rfl⟩) (fun _ => rfl) (fun _ => rfl) (fun _ => rfl) fun _ => rfl; first | assumption | apply State.setFlag_same | apply State.modCl_same)
    | split

theorem State.memOff_same {A : Aspect → Prop} (nM : ¬A .mem) (nD : ¬A .dom) {s0 s : State} {n : _} (h : Same A s0 s) :
    Same A s0 (State.memOff s n) := by
  unfold State.memOff
  repeat' first
    | ((fail_if_success (conv => arg 2; fun)); extract_lets +onlyGivenNames y; clear_value (e : y = _); refine Same.letVar (A := A) (s0 := s0) e ?_ fun _ => ?_)
    | ((fail_if_success (conv => arg 2; fun)); extract_lets +onlyGivenNames y)
    | with_reducible first | assumption | apply State.setF_same | apply State.showStart_same | apply State.loseStacks_same nM | apply State.turnOff_same nD | apply State.loseBursts_same | apply State.loseTokens_same | refine Same.foldl ?_ fun _ _ _ => ?_
    | with_reducible (refine Same.record ?_ (fun _ => ⟨rfl, rfl⟩) (fun _ => rfl) (fun _ => rfl) (fun _ => rfl) fun _ => rfl; first | assumption | apply State.setF_same | apply State.showStart_same | apply State.loseStacks_same nM | apply State.turnOff_same nD | apply State.loseBursts_same | apply State.loseTokens_same | refine Same.foldl ?_ fun _ _ _ => ?_)
    | split

theorem State.coreOff_same {A : Aspect → Prop} (nM : ¬A .mem) (nD : ¬A .dom) (nL : ¬A .live) {s0 s : State} {n : _} (h : Same A s0 s) :
    Same A s0 (State.coreOff s n) := by
  unfold State.coreOff
  repeat' first
    | ((fail_if_success (conv => arg 2; fun)); extract_lets +onlyGivenNames y; clear_value (e : y = _); refine Same.letVar (A := A) (s0 := s0) e ?_ fun _ => ?_)
    | ((fail_if_success (conv => arg 2; fun)); extract_lets +onlyGivenNames y)
    | with_reducible first | assumption | apply State.clearBit_same | apply State.modCl_same | apply State.stopSlices_same | apply State.turnOff_same nD | apply State.clearRegs_same nL | apply State.forgetCluster_same | apply State.memOff_same nM nD | refine Same.foldl ?_ fun _ _ _ => ?_
    | with_reducible (refine Same.record ?_ (fun _ => ⟨rfl, rfl⟩) (fun _ => rfl) (fun _ => rfl) (fun _ => rfl) fun _ => rfl; first | assumption | apply State.clearBit_same | apply State.modCl_same | apply State.stopSlices_same | apply State.turnOff_same nD | apply State.clearRegs_same nL | apply State.forgetCluster_same | apply State.memOff_same nM nD | refine Same.foldl ?_ fun _ _ _ => ?_)
    | split

theorem State.computeOff_same {A : Aspect → Prop} (nM : ¬A .mem) (nD : ¬A .dom) (nL : ¬A .live) {s0 s : State} (h : Same A s0 s) :
    Same A s0 (State.computeOff s) := by
  unfold State.computeOff
  repeat' first
    | ((fail_if_success (conv => arg 2; fun)); extract_lets +onlyGivenNames y; clear_value (e : y = _); refine Same.letVar (A := A) (s0 := s0) e ?_ fun _ => ?_)
    | ((fail_if_success (conv => arg 2; fun)); extract_lets +onlyGivenNames y)
    | with_reducible first | assumption | apply State.optOff_same nM nD | apply State.memOff_same nM nD | apply State.coreOff_same nM nD nL | refine Same.foldl ?_ fun _ _ _ => ?_

theorem State.iodOff_same {A : Aspect → Prop} (nM : ¬A .mem) (nD : ¬A .dom) (nL : ¬A .live) {s0 s : State} (h : Same A s0 s) :
    Same A s0 (State.iodOff s) := by
  unfold State.iodOff
  repeat' first
    | ((fail_if_success (conv => arg 2; fun)); extract_lets +onlyGivenNames y; clear_value (e : y = _); refine Same.letVar (A := A) (s0 := s0) e ?_ fun _ => ?_)
    | ((fail_if_success (conv => arg 2; fun)); extract_lets +onlyGivenNames y)
    | with_reducible first | assumption | apply State.clearBit_same | apply State.turnOff_same nD | apply State.clearRegs_same nL | apply State.computeOff_same nM nD nL
    | with_reducible (refine Same.record ?_ (fun _ => ⟨rfl, rfl⟩) (fun _ => rfl) (fun _ => rfl) (fun _ => rfl) fun _ => rfl; first | assumption | apply State.clearBit_same | apply State.turnOff_same nD | apply State.clearRegs_same nL | apply State.computeOff_same nM nD nL)
    | split

theorem State.domainOff_same {A : Aspect → Prop} (nM : ¬A .mem) (nD : ¬A .dom) (nL : ¬A .live) {s0 s : State} {d : _} (h : Same A s0 s) :
    Same A s0 (State.domainOff s d) := by
  unfold State.domainOff
  repeat' first
    | with_reducible first | assumption | apply State.optOff_same nM nD | apply State.memOff_same nM nD | apply State.coreOff_same nM nD nL | apply State.iodOff_same nM nD nL
    | split

theorem State.applySpares_same {A : Aspect → Prop} {s0 s : State} {k : _} (h : Same A s0 s) :
    Same A s0 (State.applySpares s k) := by
  unfold State.applySpares
  repeat' first
    | ((fail_if_success (conv => arg 2; fun)); extract_lets +onlyGivenNames y; clear_value (e : y = _); refine Same.letVar (A := A) (s0 := s0) e ?_ fun _ => ?_)
    | ((fail_if_success (conv => arg 2; fun)); extract_lets +onlyGivenNames y)
    | with_reducible first | assumption | apply State.setF_same | refine Same.foldl ?_ fun _ _ _ => ?_

theorem State.coreOn_same {A : Aspect → Prop} (nD : ¬A .dom) {s0 s : State} {n : _} (h : Same A s0 s) :
    Same A s0 (State.coreOn s n) := by
  unfold State.coreOn
  repeat' first
    | ((fail_if_success (conv => arg 2; fun)); extract_lets +onlyGivenNames y; clear_value (e : y = _); refine Same.letVar (A := A) (s0 := s0) e ?_ fun _ => ?_)
    | ((fail_if_success (conv => arg 2; fun)); extract_lets +onlyGivenNames y)
    | with_reducible first | assumption | apply State.setF_same | apply State.setBit_same | apply State.turnOn_same nD | apply State.applySpares_same | refine Same.foldl ?_ fun _ _ _ => ?_
    | split

theorem State.memOn_same {A : Aspect → Prop} (nD : ¬A .dom) {s0 s : State} {n : _} (h : Same A s0 s) :
    Same A s0 (State.memOn s n) := by
  unfold State.memOn
  repeat' first
    | ((fail_if_success (conv => arg 2; fun)); extract_lets +onlyGivenNames y; clear_value (e : y = _); refine Same.letVar (A := A) (s0 := s0) e ?_ fun _ => ?_)
    | ((fail_if_success (conv => arg 2; fun)); extract_lets +onlyGivenNames y)
    | with_reducible first | assumption | apply State.setF_same | apply State.allDirty_same | apply State.turnOn_same nD | refine Same.foldl ?_ fun _ _ _ => ?_
    | split

theorem State.optOn_same {A : Aspect → Prop} (nD : ¬A .dom) {s0 s : State} {k : _} (h : Same A s0 s) :
    Same A s0 (State.optOn s k) := by
  unfold State.optOn
  repeat' first
    | ((fail_if_success (conv => arg 2; fun)); extract_lets +onlyGivenNames y)
    | with_reducible first | assumption | apply State.setF_same | apply State.turnOn_same nD
    | split

theorem State.settle_same {A : Aspect → Prop} {s0 s : State} (h : Same A s0 s) :
    Same A s0 (State.settle s) := by
  unfold State.settle
  repeat' first
    | ((fail_if_success (conv => arg 2; fun)); extract_lets +onlyGivenNames y)
    | with_reducible first | assumption
    | with_reducible (refine Same.record ?_ (fun _ => ⟨rfl, rfl⟩) (fun _ => rfl) (fun _ => rfl) (fun _ => rfl) fun _ => rfl; first | assumption)
    | split

theorem State.setModState_same {A : Aspect → Prop} {s0 s : State} {st : _} (h : Same A s0 s) :
    Same A s0 (State.setModState s st) := by
  unfold State.setModState
  repeat' first
    | ((fail_if_success (conv => arg 2; fun)); extract_lets +onlyGivenNames y)
    | with_reducible first | assumption | refine Same.record ?_ (fun _ => ⟨rfl, rfl⟩) (fun _ => rfl) (fun _ => rfl) (fun _ => rfl) fun _ => rfl

theorem State.endAllPrefetched_same {A : Aspect → Prop} {s0 s : State} (h : Same A s0 s) :
    Same A s0 (State.endAllPrefetched s) := by
  unfold State.endAllPrefetched
  repeat' first
    | ((fail_if_success (conv => arg 2; fun)); extract_lets +onlyGivenNames y; clear_value (e : y = _); refine Same.letVar (A := A) (s0 := s0) e ?_ fun _ => ?_)
    | ((fail_if_success (conv => arg 2; fun)); extract_lets +onlyGivenNames y)
    | with_reducible first | assumption | apply State.modCl_same | apply State.complete_same | refine Same.foldl ?_ fun _ _ _ => ?_

theorem State.startDrain_same {A : Aspect → Prop} {s0 s : State} {limitMs : _} (h : Same A s0 s) :
    Same A s0 (State.startDrain s limitMs) := by
  unfold State.startDrain
  repeat' first
    | ((fail_if_success (conv => arg 2; fun)); extract_lets +onlyGivenNames y; clear_value (e : y = _); refine Same.letVar (A := A) (s0 := s0) e ?_ fun _ => ?_)
    | ((fail_if_success (conv => arg 2; fun)); extract_lets +onlyGivenNames y)
    | with_reducible first | assumption | apply State.claimStop_same | apply State.settle_same | apply State.setModState_same | apply State.endAllPrefetched_same
    | with_reducible (refine Same.record ?_ (fun _ => ⟨rfl, rfl⟩) (fun _ => rfl) (fun _ => rfl) (fun _ => rfl) fun _ => rfl; first | assumption | apply State.claimStop_same | apply State.settle_same | apply State.setModState_same | apply State.endAllPrefetched_same)
    | split

theorem State.abortHeld_same {A : Aspect → Prop} {s0 s : State} (h : Same A s0 s) :
    Same A s0 (State.abortHeld s) := by
  unfold State.abortHeld
  repeat' first
    | ((fail_if_success (conv => arg 2; fun)); extract_lets +onlyGivenNames y; clear_value (e : y = _); refine Same.letVar (A := A) (s0 := s0) e ?_ fun _ => ?_)
    | ((fail_if_success (conv => arg 2; fun)); extract_lets +onlyGivenNames y)
    | with_reducible first | assumption | apply State.abortCluster_same | apply State.endAllPrefetched_same | refine Same.foldl ?_ fun _ _ _ => ?_
    | split

theorem State.postQuiesced_same {A : Aspect → Prop} {s0 s : State} {cause : _} (h : Same A s0 s) :
    Same A s0 (State.postQuiesced s cause) := by
  unfold State.postQuiesced
  repeat' first
    | ((fail_if_success (conv => arg 2; fun)); extract_lets +onlyGivenNames y; clear_value (e : y = _); refine Same.letVar (A := A) (s0 := s0) e ?_ fun _ => ?_)
    | ((fail_if_success (conv => arg 2; fun)); extract_lets +onlyGivenNames y)
    | with_reducible first | assumption | apply State.hostEvent_same | apply State.postMod_same
    | with_reducible (refine Same.record ?_ (fun _ => ⟨rfl, rfl⟩) (fun _ => rfl) (fun _ => rfl) (fun _ => rfl) fun _ => rfl; first | assumption | apply State.hostEvent_same | apply State.postMod_same)
    | split

theorem State.quiesceNow_same {A : Aspect → Prop} (nM : ¬A .mem) {s0 s : State} {cause : _} (h : Same A s0 s) :
    Same A s0 (State.quiesceNow s cause) := by
  unfold State.quiesceNow
  repeat' first
    | ((fail_if_success (conv => arg 2; fun)); extract_lets +onlyGivenNames y; clear_value (e : y = _); refine Same.letVar (A := A) (s0 := s0) e ?_ fun _ => ?_)
    | ((fail_if_success (conv => arg 2; fun)); extract_lets +onlyGivenNames y)
    | with_reducible first | assumption | apply State.claimStop_same | apply State.collFinish_same nM | apply State.settle_same | apply State.abortHeld_same | apply State.postQuiesced_same | refine Same.foldl ?_ fun _ _ _ => ?_
    | with_reducible (refine Same.record ?_ (fun _ => ⟨rfl, rfl⟩) (fun _ => rfl) (fun _ => rfl) (fun _ => rfl) fun _ => rfl; first | assumption | apply State.claimStop_same | apply State.collFinish_same nM | apply State.settle_same | apply State.abortHeld_same | apply State.postQuiesced_same | refine Same.foldl ?_ fun _ _ _ => ?_)
    | split

theorem State.liftQuiesce_same {A : Aspect → Prop} {s0 s : State} {cause : _} (h : Same A s0 s) :
    Same A s0 (State.liftQuiesce s cause) := by
  unfold State.liftQuiesce
  repeat' first
    | ((fail_if_success (conv => arg 2; fun)); extract_lets +onlyGivenNames y)
    | with_reducible first | assumption | apply State.settle_same | refine Same.record ?_ (fun _ => ⟨rfl, rfl⟩) (fun _ => rfl) (fun _ => rfl) (fun _ => rfl) fun _ => rfl

theorem State.parkClusters_same {A : Aspect → Prop} {s0 s : State} (h : Same A s0 s) :
    Same A s0 (State.parkClusters s) := by
  unfold State.parkClusters
  repeat' first
    | ((fail_if_success (conv => arg 2; fun)); extract_lets +onlyGivenNames y)
    | with_reducible first | assumption | apply State.modCl_same | apply State.gateCluster_same | refine Same.foldl ?_ fun _ _ _ => ?_
    | split

theorem State.parkPorts_same {A : Aspect → Prop} (nM : ¬A .mem) (nD : ¬A .dom) {s0 s : State} (h : Same A s0 s) :
    Same A s0 (State.parkPorts s) := by
  unfold State.parkPorts
  repeat' first
    | ((fail_if_success (conv => arg 2; fun)); extract_lets +onlyGivenNames y; clear_value (e : y = _); refine Same.letVar (A := A) (s0 := s0) e ?_ fun _ => ?_)
    | ((fail_if_success (conv => arg 2; fun)); extract_lets +onlyGivenNames y)
    | with_reducible first | assumption | apply State.portPark_same nM nD | refine Same.foldl ?_ fun _ _ _ => ?_ | refine Same.record ?_ (fun _ => ⟨rfl, rfl⟩) (fun _ => rfl) (fun _ => rfl) (fun _ => rfl) fun _ => rfl

theorem State.unparkPorts_same {A : Aspect → Prop} (nM : ¬A .mem) (nD : ¬A .dom) {s0 s : State} (h : Same A s0 s) :
    Same A s0 (State.unparkPorts s) := by
  unfold State.unparkPorts
  repeat' first
    | ((fail_if_success (conv => arg 2; fun)); extract_lets +onlyGivenNames y)
    | with_reducible first | assumption | apply State.portPark_same nM nD | refine Same.foldl ?_ fun _ _ _ => ?_ | refine Same.record ?_ (fun _ => ⟨rfl, rfl⟩) (fun _ => rfl) (fun _ => rfl) (fun _ => rfl) fun _ => rfl

theorem State.showParked_same {A : Aspect → Prop} {s0 s : State} (h : Same A s0 s) :
    Same A s0 (State.showParked s) := by
  unfold State.showParked
  repeat' first
    | ((fail_if_success (conv => arg 2; fun)); extract_lets +onlyGivenNames y; clear_value (e : y = _); refine Same.letVar (A := A) (s0 := s0) e ?_ fun _ => ?_)
    | ((fail_if_success (conv => arg 2; fun)); extract_lets +onlyGivenNames y)
    | with_reducible first | assumption | apply State.setF_same | apply State.postMod_same
    | with_reducible (refine Same.record ?_ (fun _ => ⟨rfl, rfl⟩) (fun _ => rfl) (fun _ => rfl) (fun _ => rfl) fun _ => rfl; first | assumption | apply State.setF_same | apply State.postMod_same)
    | split

theorem State.enterPark_same {A : Aspect → Prop} (nM : ¬A .mem) (nD : ¬A .dom) {s0 s : State} (h : Same A s0 s) :
    Same A s0 (State.enterPark s) := by
  unfold State.enterPark
  repeat' first
    | ((fail_if_success (conv => arg 2; fun)); extract_lets +onlyGivenNames y)
    | with_reducible first | assumption | apply State.stopSlices_same | apply State.settle_same | apply State.parkClusters_same | apply State.parkPorts_same nM nD | apply State.showParked_same

theorem State.leavePark_same {A : Aspect → Prop} (nM : ¬A .mem) (nD : ¬A .dom) {s0 s : State} (h : Same A s0 s) :
    Same A s0 (State.leavePark s) := by
  unfold State.leavePark
  repeat' first
    | ((fail_if_success (conv => arg 2; fun)); extract_lets +onlyGivenNames y; clear_value (e : y = _); refine Same.letVar (A := A) (s0 := s0) e ?_ fun _ => ?_)
    | ((fail_if_success (conv => arg 2; fun)); extract_lets +onlyGivenNames y)
    | with_reducible first | assumption | apply State.postMod_same | apply State.srExit_same | apply State.modCl_same | apply State.ungateCluster_same | apply State.settle_same | apply State.unparkPorts_same nM nD | refine Same.foldl ?_ fun _ _ _ => ?_
    | with_reducible (refine Same.record ?_ (fun _ => ⟨rfl, rfl⟩) (fun _ => rfl) (fun _ => rfl) (fun _ => rfl) fun _ => rfl; first | assumption | apply State.postMod_same | apply State.srExit_same | apply State.modCl_same | apply State.ungateCluster_same | apply State.settle_same | apply State.unparkPorts_same nM nD | refine Same.foldl ?_ fun _ _ _ => ?_)
    | split

theorem State.setAbsent_same {A : Aspect → Prop} {s0 s : State} {l on : _} (h : Same A s0 s) :
    Same A s0 (State.setAbsent s l on) := by
  unfold State.setAbsent
  repeat' first
    | with_reducible first | assumption | apply State.setBit_same | apply State.clearBit_same
    | split

theorem State.degEvent_same {A : Aspect → Prop} {s0 s : State} {code severity data : _} (h : Same A s0 s) :
    Same A s0 (State.degEvent s code severity data) := by
  unfold State.degEvent
  repeat' with_reducible first | assumption | apply State.post_same

theorem State.norRefuse_same {A : Aspect → Prop} {s0 s : State} {row : _} (h : Same A s0 s) :
    Same A s0 (State.norRefuse s row) := by
  unfold State.norRefuse
  repeat' first
    | ((fail_if_success (conv => arg 2; fun)); extract_lets +onlyGivenNames y)
    | with_reducible first | assumption | apply State.degEvent_same
    | with_reducible (refine Same.record ?_ (fun _ => ⟨rfl, rfl⟩) (fun _ => rfl) (fun _ => rfl) (fun _ => rfl) fun _ => rfl; first | assumption | apply State.degEvent_same)
    | split

theorem State.failDie_same {A : Aspect → Prop} (nM : ¬A .mem) (nD : ¬A .dom) (nL : ¬A .live) {s0 s : State} {n cause mesh : _} (h : Same A s0 s) :
    Same A s0 (State.failDie s n cause mesh) := by
  unfold State.failDie
  repeat' first
    | ((fail_if_success (conv => arg 2; fun)); extract_lets +onlyGivenNames y; clear_value (e : y = _); refine Same.letVar (A := A) (s0 := s0) e ?_ fun _ => ?_)
    | ((fail_if_success (conv => arg 2; fun)); extract_lets +onlyGivenNames y)
    | with_reducible first | assumption | apply State.setF_same | apply State.setBit_same | apply State.clearBit_same | apply State.post_same | apply State.stackFail_same | apply State.returnToken_same | apply State.coreOff_same nM nD nL | apply State.setAbsent_same | refine Same.foldl ?_ fun _ _ _ => ?_
    | with_reducible (refine Same.record ?_ (fun _ => ⟨rfl, rfl⟩) (fun _ => rfl) (fun _ => rfl) (fun _ => rfl) fun _ => rfl; first | assumption | apply State.setF_same | apply State.setBit_same | apply State.clearBit_same | apply State.post_same | apply State.stackFail_same | apply State.returnToken_same | apply State.coreOff_same nM nD nL | apply State.setAbsent_same | refine Same.foldl ?_ fun _ _ _ => ?_)
    | split

/-! ### Drive -/

theorem State.drvEvent_same {A : Aspect → Prop} {s0 s : State} {code severity data : _} (h : Same A s0 s) :
    Same A s0 (State.drvEvent s code severity data) := by
  unfold State.drvEvent
  repeat' with_reducible first | assumption | apply State.post_same

theorem State.kilnRefactor_same {A : Aspect → Prop} {s0 s : State} (h : Same A s0 s) :
    Same A s0 (State.kilnRefactor s) := by
  unfold State.kilnRefactor
  repeat' first
    | with_reducible first | assumption | apply State.refactor_same
    | split

theorem State.setSwitchQueue_same {A : Aspect → Prop} {s0 s : State} {k q : _} (h : Same A s0 s) :
    Same A s0 (State.setSwitchQueue s k q) := by
  unfold State.setSwitchQueue
  repeat' first
    | ((fail_if_success (conv => arg 2; fun)); extract_lets +onlyGivenNames y)
    | with_reducible first | assumption | refine Same.record ?_ (fun _ => ⟨rfl, rfl⟩) (fun _ => rfl) (fun _ => rfl) (fun _ => rfl) fun _ => rfl

theorem State.uncount_same {A : Aspect → Prop} {s0 s : State} {v : _} (h : Same A s0 s) :
    Same A s0 (State.uncount s v) := by
  unfold State.uncount
  repeat' first
    | ((fail_if_success (conv => arg 2; fun)); extract_lets +onlyGivenNames y)
    | with_reducible first | assumption | refine Same.record ?_ (fun _ => ⟨rfl, rfl⟩) (fun _ => rfl) (fun _ => rfl) (fun _ => rfl) fun _ => rfl

theorem State.dutyLimited_same {A : Aspect → Prop} {s0 s : State} {v : _} (h : Same A s0 s) :
    Same A s0 (State.dutyLimited s v) := by
  unfold State.dutyLimited
  repeat' with_reducible first | assumption | apply State.setFlag_same

theorem State.coilOff_same {A : Aspect → Prop} {s0 s : State} {v : _} (h : Same A s0 s) :
    Same A s0 (State.coilOff s v) := by
  unfold State.coilOff
  repeat' first
    | ((fail_if_success (conv => arg 2; fun)); extract_lets +onlyGivenNames y; clear_value (e : y = _); refine Same.letVar (A := A) (s0 := s0) e ?_ fun _ => ?_)
    | ((fail_if_success (conv => arg 2; fun)); extract_lets +onlyGivenNames y)
    | with_reducible first | assumption | apply State.setF_same | apply State.setSwitchQueue_same | apply State.uncount_same | apply State.dutyLimited_same
    | with_reducible (refine Same.record ?_ (fun _ => ⟨rfl, rfl⟩) (fun _ => rfl) (fun _ => rfl) (fun _ => rfl) fun _ => rfl; first | assumption | apply State.setF_same | apply State.setSwitchQueue_same | apply State.uncount_same | apply State.dutyLimited_same)
    | split

theorem State.requestPullin_same {A : Aspect → Prop} {s0 s : State} {v : _} (h : Same A s0 s) :
    Same A s0 (State.requestPullin s v) := by
  unfold State.requestPullin
  repeat' first
    | ((fail_if_success (conv => arg 2; fun)); extract_lets +onlyGivenNames y; clear_value (e : y = _); refine Same.letVar (A := A) (s0 := s0) e ?_ fun _ => ?_)
    | ((fail_if_success (conv => arg 2; fun)); extract_lets +onlyGivenNames y)
    | with_reducible first | assumption | apply State.setF_same | apply State.addSat_same | apply State.setSwitchQueue_same
    | with_reducible (refine Same.record ?_ (fun _ => ⟨rfl, rfl⟩) (fun _ => rfl) (fun _ => rfl) (fun _ => rfl) fun _ => rfl; first | assumption | apply State.setF_same | apply State.addSat_same | apply State.setSwitchQueue_same)
    | split

theorem State.applyValve_same {A : Aspect → Prop} {s0 s : State} {v : _} (h : Same A s0 s) :
    Same A s0 (State.applyValve s v) := by
  unfold State.applyValve
  repeat' first
    | ((fail_if_success (conv => arg 2; fun)); extract_lets +onlyGivenNames y; clear_value (e : y = _); refine Same.letVar (A := A) (s0 := s0) e ?_ fun _ => ?_)
    | ((fail_if_success (conv => arg 2; fun)); extract_lets +onlyGivenNames y)
    | with_reducible first | assumption | apply State.setF_same | apply State.coilOff_same | apply State.requestPullin_same
    | split

theorem State.applyPump_same {A : Aspect → Prop} {s0 s : State} {p : _} (h : Same A s0 s) :
    Same A s0 (State.applyPump s p) := by
  unfold State.applyPump
  repeat' first
    | ((fail_if_success (conv => arg 2; fun)); extract_lets +onlyGivenNames y; clear_value (e : y = _); refine Same.letVar (A := A) (s0 := s0) e ?_ fun _ => ?_)
    | ((fail_if_success (conv => arg 2; fun)); extract_lets +onlyGivenNames y)
    | with_reducible first | assumption | apply State.setF_same
    | split

theorem State.applyDrive_same {A : Aspect → Prop} {s0 s : State} (h : Same A s0 s) :
    Same A s0 (State.applyDrive s) := by
  unfold State.applyDrive
  repeat' first
    | ((fail_if_success (conv => arg 2; fun)); extract_lets +onlyGivenNames y)
    | with_reducible first | assumption | apply State.applyValve_same | apply State.applyPump_same | refine Same.foldl ?_ fun _ _ _ => ?_

theorem State.kickFail_same {A : Aspect → Prop} {s0 s : State} {p : _} (h : Same A s0 s) :
    Same A s0 (State.kickFail s p) := by
  unfold State.kickFail
  repeat' first
    | ((fail_if_success (conv => arg 2; fun)); extract_lets +onlyGivenNames y; clear_value (e : y = _); refine Same.letVar (A := A) (s0 := s0) e ?_ fun _ => ?_)
    | ((fail_if_success (conv => arg 2; fun)); extract_lets +onlyGivenNames y)
    | with_reducible first | assumption | apply State.setF_same | apply State.addSat_same | apply State.drvEvent_same
    | split

theorem State.latchFrame_same {A : Aspect → Prop} {s0 s : State} {f : _} (h : Same A s0 s) :
    Same A s0 (State.latchFrame s f) := by
  unfold State.latchFrame
  repeat' first
    | ((fail_if_success (conv => arg 2; fun)); extract_lets +onlyGivenNames y; clear_value (e : y = _); refine Same.letVar (A := A) (s0 := s0) e ?_ fun _ => ?_)
    | ((fail_if_success (conv => arg 2; fun)); extract_lets +onlyGivenNames y)
    | with_reducible first | assumption | apply State.setF_same | apply State.applyDrive_same | refine Same.foldl ?_ fun _ _ _ => ?_
    | with_reducible (refine Same.record ?_ (fun _ => ⟨rfl, rfl⟩) (fun _ => rfl) (fun _ => rfl) (fun _ => rfl) fun _ => rfl; first | assumption | apply State.setF_same | apply State.applyDrive_same | refine Same.foldl ?_ fun _ _ _ => ?_)
    | split

theorem State.sendFrame_same {A : Aspect → Prop} {s0 s : State} {f : _} (h : Same A s0 s) :
    Same A s0 (State.sendFrame s f) := by
  unfold State.sendFrame
  repeat' first
    | ((fail_if_success (conv => arg 2; fun)); extract_lets +onlyGivenNames y)
    | with_reducible first | assumption | refine Same.record ?_ (fun _ => ⟨rfl, rfl⟩) (fun _ => rfl) (fun _ => rfl) (fun _ => rfl) fun _ => rfl

theorem State.commandDrive_same {A : Aspect → Prop} {s0 s : State} {valves rpm pumpEn : _} (h : Same A s0 s) :
    Same A s0 (State.commandDrive s valves rpm pumpEn) := by
  unfold State.commandDrive
  repeat' first
    | ((fail_if_success (conv => arg 2; fun)); extract_lets +onlyGivenNames y)
    | with_reducible first | assumption | apply State.latchFrame_same | apply State.sendFrame_same
    | split

theorem State.rejectCommand_same {A : Aspect → Prop} {s0 s : State} (h : Same A s0 s) :
    Same A s0 (State.rejectCommand s) := by
  unfold State.rejectCommand
  repeat' first
    | ((fail_if_success (conv => arg 2; fun)); extract_lets +onlyGivenNames y; clear_value (e : y = _); refine Same.letVar (A := A) (s0 := s0) e ?_ fun _ => ?_)
    | ((fail_if_success (conv => arg 2; fun)); extract_lets +onlyGivenNames y)
    | with_reducible first | assumption | apply State.addSat_same | apply State.post_same

theorem execDriveCommandFrame_same {A : Aspect → Prop} {s0 s : State} {k f : _} (h : Same A s0 s) :
    SameX A s0 (execDriveCommandFrame k f s) := by
  unfold execDriveCommandFrame
  repeat' first
    | ((fail_if_success (conv => arg 2; fun)); extract_lets +onlyGivenNames y)
    | with_reducible first | assumption | apply State.addSat_same | apply State.latchFrame_same | apply State.rejectCommand_same | apply Same.next
    | split

theorem State.channelFault_same {A : Aspect → Prop} {s0 s : State} {ch : _} (h : Same A s0 s) :
    Same A s0 (State.channelFault s ch) := by
  unfold State.channelFault
  repeat' first
    | ((fail_if_success (conv => arg 2; fun)); extract_lets +onlyGivenNames y; clear_value (e : y = _); refine Same.letVar (A := A) (s0 := s0) e ?_ fun _ => ?_)
    | ((fail_if_success (conv => arg 2; fun)); extract_lets +onlyGivenNames y)
    | with_reducible first | assumption | apply State.setF_same | apply State.setBit_same | apply State.drvEvent_same | apply State.applyDrive_same
    | split

theorem execDriveEcho_same {A : Aspect → Prop} {s0 s : State} {f : _} (h : Same A s0 s) :
    SameX A s0 (execDriveEcho f s) := by
  unfold execDriveEcho
  repeat' first
    | ((fail_if_success (conv => arg 2; fun)); extract_lets +onlyGivenNames y; clear_value (e : y = _); refine Same.letVar (A := A) (s0 := s0) e ?_ fun _ => ?_)
    | ((fail_if_success (conv => arg 2; fun)); extract_lets +onlyGivenNames y)
    | with_reducible first | assumption | apply State.refactor_same | apply State.channelFault_same | apply Same.next | refine Same.foldl ?_ fun _ _ _ => ?_
    | with_reducible (refine Same.record ?_ (fun _ => ⟨rfl, rfl⟩) (fun _ => rfl) (fun _ => rfl) (fun _ => rfl) fun _ => rfl; first | assumption | apply State.refactor_same | apply State.channelFault_same | apply Same.next | refine Same.foldl ?_ fun _ _ _ => ?_)
    | split

theorem execDriveSafeTable_same {A : Aspect → Prop} {s0 s : State} {ms : _} (h : Same A s0 s) :
    SameX A s0 (execDriveSafeTable ms s) := by
  unfold execDriveSafeTable
  repeat' first
    | ((fail_if_success (conv => arg 2; fun)); extract_lets +onlyGivenNames y; clear_value (e : y = _); refine Same.letVar (A := A) (s0 := s0) e ?_ fun _ => ?_)
    | ((fail_if_success (conv => arg 2; fun)); extract_lets +onlyGivenNames y)
    | with_reducible first | assumption | apply State.setF_same | apply State.drvEvent_same | apply State.applyDrive_same | apply Same.next
    | split

theorem execDriveHoldTimer_same {A : Aspect → Prop} {s0 s : State} {ms : _} (h : Same A s0 s) :
    SameX A s0 (execDriveHoldTimer ms s) := by
  unfold execDriveHoldTimer
  repeat' first
    | ((fail_if_success (conv => arg 2; fun)); extract_lets +onlyGivenNames y; clear_value (e : y = _); refine Same.letVar (A := A) (s0 := s0) e ?_ fun _ => ?_)
    | ((fail_if_success (conv => arg 2; fun)); extract_lets +onlyGivenNames y)
    | with_reducible first | assumption | apply State.setF_same | apply State.drvEvent_same | apply Same.next
    | split

theorem State.refusedEvent_same {A : Aspect → Prop} {s0 s : State} {v : _} (h : Same A s0 s) :
    Same A s0 (State.refusedEvent s v) := by
  unfold State.refusedEvent
  repeat' first
    | ((fail_if_success (conv => arg 2; fun)); extract_lets +onlyGivenNames y; clear_value (e : y = _); refine Same.letVar (A := A) (s0 := s0) e ?_ fun _ => ?_)
    | ((fail_if_success (conv => arg 2; fun)); extract_lets +onlyGivenNames y)
    | with_reducible first | assumption | apply State.drvEvent_same
    | with_reducible (refine Same.record ?_ (fun _ => ⟨rfl, rfl⟩) (fun _ => rfl) (fun _ => rfl) (fun _ => rfl) fun _ => rfl; first | assumption | apply State.drvEvent_same)
    | split

theorem execPullinStart_same {A : Aspect → Prop} {s0 s : State} {v waitUs : _} (h : Same A s0 s) :
    SameX A s0 (execPullinStart v waitUs s) := by
  unfold execPullinStart
  repeat' first
    | ((fail_if_success (conv => arg 2; fun)); extract_lets +onlyGivenNames y; clear_value (e : y = _); refine Same.letVar (A := A) (s0 := s0) e ?_ fun _ => ?_)
    | ((fail_if_success (conv => arg 2; fun)); extract_lets +onlyGivenNames y)
    | with_reducible first | assumption | apply State.setF_same | apply State.setFlag_same | apply State.addSat_same | apply State.setSwitchQueue_same | apply State.uncount_same | apply State.dutyLimited_same | apply State.refusedEvent_same | apply Same.next
    | with_reducible (refine Same.record ?_ (fun _ => ⟨rfl, rfl⟩) (fun _ => rfl) (fun _ => rfl) (fun _ => rfl) fun _ => rfl; first | assumption | apply State.setF_same | apply State.setFlag_same | apply State.addSat_same | apply State.setSwitchQueue_same | apply State.uncount_same | apply State.dutyLimited_same | apply State.refusedEvent_same | apply Same.next)
    | split

theorem execPullinEnd_same {A : Aspect → Prop} {s0 s : State} {v : _} (h : Same A s0 s) :
    SameX A s0 (execPullinEnd v s) := by
  unfold execPullinEnd
  repeat' first
    | ((fail_if_success (conv => arg 2; fun)); extract_lets +onlyGivenNames y)
    | with_reducible first | assumption | apply State.setF_same | apply Same.next
    | split

theorem State.recap_same {A : Aspect → Prop} {s0 s : State} {v : _} (h : Same A s0 s) :
    Same A s0 (State.recap s v) := by
  unfold State.recap
  repeat' first
    | ((fail_if_success (conv => arg 2; fun)); extract_lets +onlyGivenNames y; clear_value (e : y = _); refine Same.letVar (A := A) (s0 := s0) e ?_ fun _ => ?_)
    | ((fail_if_success (conv => arg 2; fun)); extract_lets +onlyGivenNames y)
    | with_reducible first | assumption | apply State.setF_same | apply State.dutyLimited_same
    | split

theorem execDutyCap_same {A : Aspect → Prop} {s0 s : State} {v mj : _} (h : Same A s0 s) :
    SameX A s0 (execDutyCap v mj s) := by
  unfold execDutyCap
  repeat' first
    | ((fail_if_success (conv => arg 2; fun)); extract_lets +onlyGivenNames y; clear_value (e : y = _); refine Same.letVar (A := A) (s0 := s0) e ?_ fun _ => ?_)
    | ((fail_if_success (conv => arg 2; fun)); extract_lets +onlyGivenNames y)
    | with_reducible first | assumption | apply State.setF_same | apply State.recap_same | apply Same.next
    | with_reducible (refine Same.record ?_ (fun _ => ⟨rfl, rfl⟩) (fun _ => rfl) (fun _ => rfl) (fun _ => rfl) fun _ => rfl; first | assumption | apply State.setF_same | apply State.recap_same | apply Same.next)
    | split

theorem execDutyCapLift_same {A : Aspect → Prop} {s0 s : State} {v mj : _} (h : Same A s0 s) :
    SameX A s0 (execDutyCapLift v mj s) := by
  unfold execDutyCapLift
  repeat' first
    | ((fail_if_success (conv => arg 2; fun)); extract_lets +onlyGivenNames y; clear_value (e : y = _); refine Same.letVar (A := A) (s0 := s0) e ?_ fun _ => ?_)
    | ((fail_if_success (conv => arg 2; fun)); extract_lets +onlyGivenNames y)
    | with_reducible first | assumption | apply State.setF_same | apply State.recap_same | apply Same.next
    | with_reducible (refine Same.record ?_ (fun _ => ⟨rfl, rfl⟩) (fun _ => rfl) (fun _ => rfl) (fun _ => rfl) fun _ => rfl; first | assumption | apply State.setF_same | apply State.recap_same | apply Same.next)
    | split

theorem State.failValve_same {A : Aspect → Prop} {s0 s : State} {v code : _} (h : Same A s0 s) :
    Same A s0 (State.failValve s v code) := by
  unfold State.failValve
  repeat' first
    | ((fail_if_success (conv => arg 2; fun)); extract_lets +onlyGivenNames y; clear_value (e : y = _); refine Same.letVar (A := A) (s0 := s0) e ?_ fun _ => ?_)
    | ((fail_if_success (conv => arg 2; fun)); extract_lets +onlyGivenNames y)
    | with_reducible first | assumption | apply State.setF_same | apply State.coilOff_same

theorem execValveFault_same {A : Aspect → Prop} {s0 s : State} {v code res ma : _} (h : Same A s0 s) :
    SameX A s0 (execValveFault v code res ma s) := by
  unfold execValveFault
  repeat' first
    | ((fail_if_success (conv => arg 2; fun)); extract_lets +onlyGivenNames y; clear_value (e : y = _); refine Same.letVar (A := A) (s0 := s0) e ?_ fun _ => ?_)
    | ((fail_if_success (conv => arg 2; fun)); extract_lets +onlyGivenNames y)
    | with_reducible first | assumption | apply State.setF_same | apply State.drvEvent_same | apply State.kilnRefactor_same | apply State.applyValve_same | apply State.failValve_same | apply Same.next
    | with_reducible (refine Same.record ?_ (fun _ => ⟨rfl, rfl⟩) (fun _ => rfl) (fun _ => rfl) (fun _ => rfl) fun _ => rfl; first | assumption | apply State.setF_same | apply State.drvEvent_same | apply State.kilnRefactor_same | apply State.applyValve_same | apply State.failValve_same | apply Same.next)
    | split

theorem execValveRetry_same {A : Aspect → Prop} {s0 s : State} {v : _} (h : Same A s0 s) :
    SameX A s0 (execValveRetry v s) := by
  unfold execValveRetry
  repeat' first
    | ((fail_if_success (conv => arg 2; fun)); extract_lets +onlyGivenNames y; clear_value (e : y = _); refine Same.letVar (A := A) (s0 := s0) e ?_ fun _ => ?_)
    | ((fail_if_success (conv => arg 2; fun)); extract_lets +onlyGivenNames y)
    | with_reducible first | assumption | apply State.applyValve_same | apply Same.next
    | with_reducible (refine Same.record ?_ (fun _ => ⟨rfl, rfl⟩) (fun _ => rfl) (fun _ => rfl) (fun _ => rfl) fun _ => rfl; first | assumption | apply State.applyValve_same | apply Same.next)
    | split

theorem execSwitchTrip_same {A : Aspect → Prop} {s0 s : State} {k : _} (h : Same A s0 s) :
    SameX A s0 (execSwitchTrip k s) := by
  unfold execSwitchTrip
  repeat' first
    | ((fail_if_success (conv => arg 2; fun)); extract_lets +onlyGivenNames y; clear_value (e : y = _); refine Same.letVar (A := A) (s0 := s0) e ?_ fun _ => ?_)
    | ((fail_if_success (conv => arg 2; fun)); extract_lets +onlyGivenNames y)
    | with_reducible first | assumption | apply State.setBit_same | apply State.drvEvent_same | apply State.kilnRefactor_same | apply State.applyValve_same | apply State.failValve_same | apply Same.next
    | with_reducible (refine Same.record ?_ (fun _ => ⟨rfl, rfl⟩) (fun _ => rfl) (fun _ => rfl) (fun _ => rfl) fun _ => rfl; first | assumption | apply State.setBit_same | apply State.drvEvent_same | apply State.kilnRefactor_same | apply State.applyValve_same | apply State.failValve_same | apply Same.next)
    | split

theorem execSwitchRestart_same {A : Aspect → Prop} {s0 s : State} {k : _} (h : Same A s0 s) :
    SameX A s0 (execSwitchRestart k s) := by
  unfold execSwitchRestart
  repeat' first
    | ((fail_if_success (conv => arg 2; fun)); extract_lets +onlyGivenNames y)
    | with_reducible first | assumption | apply State.clearBit_same | apply State.kilnRefactor_same | apply State.applyValve_same | apply Same.next
    | split

theorem execPumpKickSuccess_same {A : Aspect → Prop} {s0 s : State} {p : _} (h : Same A s0 s) :
    SameX A s0 (execPumpKickSuccess p s) := by
  unfold execPumpKickSuccess
  repeat' first
    | ((fail_if_success (conv => arg 2; fun)); extract_lets +onlyGivenNames y; clear_value (e : y = _); refine Same.letVar (A := A) (s0 := s0) e ?_ fun _ => ?_)
    | ((fail_if_success (conv => arg 2; fun)); extract_lets +onlyGivenNames y)
    | with_reducible first | assumption | apply State.setF_same | apply State.addSat_same | apply Same.next
    | split

theorem execPumpKickTimeout_same {A : Aspect → Prop} {s0 s : State} {p : _} (h : Same A s0 s) :
    SameX A s0 (execPumpKickTimeout p s) := by
  unfold execPumpKickTimeout
  repeat' first
    | ((fail_if_success (conv => arg 2; fun)); extract_lets +onlyGivenNames y)
    | with_reducible first | assumption | apply State.kickFail_same | apply Same.next
    | split

theorem execPumpRetryWaitEnd_same {A : Aspect → Prop} {s0 s : State} {p : _} (h : Same A s0 s) :
    SameX A s0 (execPumpRetryWaitEnd p s) := by
  unfold execPumpRetryWaitEnd
  repeat' first
    | ((fail_if_success (conv => arg 2; fun)); extract_lets +onlyGivenNames y)
    | with_reducible first | assumption | apply State.setF_same | apply Same.next
    | split

theorem execPumpStall_same {A : Aspect → Prop} {s0 s : State} {p : _} (h : Same A s0 s) :
    SameX A s0 (execPumpStall p s) := by
  unfold execPumpStall
  repeat' first
    | ((fail_if_success (conv => arg 2; fun)); extract_lets +onlyGivenNames y)
    | with_reducible first | assumption | apply State.kickFail_same | apply Same.next
    | split

theorem execHallFault_same {A : Aspect → Prop} {s0 s : State} {p : _} (h : Same A s0 s) :
    SameX A s0 (execHallFault p s) := by
  unfold execHallFault
  repeat' first
    | ((fail_if_success (conv => arg 2; fun)); extract_lets +onlyGivenNames y)
    | with_reducible first | assumption | apply State.setF_same | apply State.drvEvent_same | apply Same.next
    | split

theorem execHallRestore_same {A : Aspect → Prop} {s0 s : State} {p : _} (h : Same A s0 s) :
    SameX A s0 (execHallRestore p s) := by
  unfold execHallRestore
  repeat' first
    | ((fail_if_success (conv => arg 2; fun)); extract_lets +onlyGivenNames y)
    | with_reducible first | assumption | apply State.setF_same | apply Same.next
    | split

theorem State.pumpCtrlWrite_same {A : Aspect → Prop} {s0 s : State} {p v : _} (h : Same A s0 s) :
    Same A s0 (State.pumpCtrlWrite s p v) := by
  unfold State.pumpCtrlWrite
  repeat' first
    | ((fail_if_success (conv => arg 2; fun)); extract_lets +onlyGivenNames y; clear_value (e : y = _); refine Same.letVar (A := A) (s0 := s0) e ?_ fun _ => ?_)
    | ((fail_if_success (conv => arg 2; fun)); extract_lets +onlyGivenNames y)
    | with_reducible first | assumption | apply State.setF_same | apply State.applyPump_same
    | split

theorem execPumpEnableWrite_same {A : Aspect → Prop} {s0 s : State} {p value : _} (h : Same A s0 s) :
    SameX A s0 (execPumpEnableWrite p value s) := by
  unfold execPumpEnableWrite
  repeat' first
    | ((fail_if_success (conv => arg 2; fun)); extract_lets +onlyGivenNames y)
    | with_reducible first | assumption | apply State.pumpCtrlWrite_same | apply Same.next
    | split

theorem execPumpRetryWrite_same {A : Aspect → Prop} {s0 s : State} {p : _} (h : Same A s0 s) :
    SameX A s0 (execPumpRetryWrite p s) := by
  unfold execPumpRetryWrite
  repeat' first
    | ((fail_if_success (conv => arg 2; fun)); extract_lets +onlyGivenNames y)
    | with_reducible first | assumption | apply State.setF_same | apply Same.next
    | split

/-! ### Copper -/

theorem State.setData_same {A : Aspect → Prop} {s0 s : State} {a x : _} (h : Same A s0 s) :
    Same A s0 (State.setData s a x) := by
  unfold State.setData
  repeat' with_reducible first | assumption | apply State.setF_same

theorem State.setShadow_same {A : Aspect → Prop} {s0 s : State} {a x : _} (h : Same A s0 s) :
    Same A s0 (State.setShadow s a x) := by
  unfold State.setShadow
  repeat' first
    | ((fail_if_success (conv => arg 2; fun)); extract_lets +onlyGivenNames y)
    | with_reducible first | assumption | refine Same.record ?_ (fun _ => ⟨rfl, rfl⟩) (fun _ => rfl) (fun _ => rfl) (fun _ => rfl) fun _ => rfl

theorem State.modLoop_same {A : Aspect → Prop} {s0 s : State} {l f : _} (h : Same A s0 s) :
    Same A s0 (State.modLoop s l f) := by
  unfold State.modLoop
  repeat' first
    | ((fail_if_success (conv => arg 2; fun)); extract_lets +onlyGivenNames y)
    | with_reducible first | assumption | refine Same.record ?_ (fun _ => ⟨rfl, rfl⟩) (fun _ => rfl) (fun _ => rfl) (fun _ => rfl) fun _ => rfl

theorem State.spValue_same {A : Aspect → Prop} {s0 s : State} {l : _} (h : Same A s0 s) :
    SameG A s0 (State.spValue s l) := by
  unfold State.spValue
  repeat' first
    | ((fail_if_success (conv => arg 2; fun)); extract_lets +onlyGivenNames y)
    | with_reducible first | assumption | apply State.fresh_same | refine Same.eqG (by assumption) ?_
    | with_reducible (refine Same.record ?_ (fun _ => ⟨rfl, rfl⟩) (fun _ => rfl) (fun _ => rfl) (fun _ => rfl) fun _ => rfl; first | assumption | apply State.fresh_same | refine Same.eqG (by assumption) ?_)
    | split
    | with_reducible apply Same.mkG

theorem State.beginPeriod_same {A : Aspect → Prop} {s0 s : State} {fast own : _} (h : Same A s0 s) :
    Same A s0 (State.beginPeriod s fast own) := by
  unfold State.beginPeriod
  repeat' first
    | ((fail_if_success (conv => arg 2; fun)); extract_lets +onlyGivenNames y)
    | with_reducible first | assumption | apply State.modLoop_same | refine Same.foldl ?_ fun _ _ _ => ?_

theorem State.gainWords_same {A : Aspect → Prop} {s0 s : State} {l : Nat} {x : LoopIn} (h : Same A s0 s) : Same A s0 (s.gainWords l x).2.2 := by
  unfold State.gainWords
  split
  · exact h
  · have k := Same.ofG (State.fresh_same (w := 16) (Same.ofG (State.fresh_same (w := 16) h)))
    exact k

theorem State.frameWords_same {A : Aspect → Prop} {s0 s : State} {l : Nat} {x : LoopIn} {uPrev : Int} (h : Same A s0 s) :
    SameG A s0 (s.frameWords l x uPrev) := by
  unfold State.frameWords
  exact Same.mkG (State.gainWords_same (Same.ofG (State.spValue_same h)))

theorem State.runLoop_same {A : Aspect → Prop} {s0 s : State} {l : _} (h : Same A s0 s) :
    Same A s0 (State.runLoop s l) := by
  unfold State.runLoop
  repeat' first
    | ((fail_if_success (conv => arg 2; fun)); extract_lets +onlyGivenNames y; clear_value (e : y = _); refine Same.letVar (A := A) (s0 := s0) e ?_ fun _ => ?_)
    | ((fail_if_success (conv => arg 2; fun)); extract_lets +onlyGivenNames y)
    | with_reducible first | assumption | apply State.setBit_same | apply State.setData_same | apply State.modLoop_same | apply State.frameWords_same | refine Same.foldl ?_ fun _ _ _ => ?_ | refine Same.eqG (by assumption) ?_
    | with_reducible (refine Same.record ?_ (fun _ => ⟨rfl, rfl⟩) (fun _ => rfl) (fun _ => rfl) (fun _ => rfl) fun _ => rfl; first | assumption | apply State.setBit_same | apply State.setData_same | apply State.modLoop_same | apply State.frameWords_same | refine Same.foldl ?_ fun _ _ _ => ?_ | refine Same.eqG (by assumption) ?_)
    | split

theorem State.runShadow_same {A : Aspect → Prop} {s0 s : State} {l : _} (h : Same A s0 s) :
    Same A s0 (State.runShadow s l) := by
  unfold State.runShadow
  repeat' first
    | ((fail_if_success (conv => arg 2; fun)); extract_lets +onlyGivenNames y)
    | with_reducible first | assumption | apply State.setShadow_same | apply State.modLoop_same | refine Same.ofG (State.frameWords_same ?_) | refine Same.foldl ?_ fun _ _ _ => ?_

theorem execLoopProgramRun_same {A : Aspect → Prop} {s0 s : State} {l : _} (h : Same A s0 s) :
    SameX A s0 (execLoopProgramRun l s) := by
  unfold execLoopProgramRun
  repeat' first
    | ((fail_if_success (conv => arg 2; fun)); extract_lets +onlyGivenNames y; clear_value (e : y = _); refine Same.letVar (A := A) (s0 := s0) e ?_ fun _ => ?_)
    | ((fail_if_success (conv => arg 2; fun)); extract_lets +onlyGivenNames y)
    | with_reducible first | assumption | apply State.runLoop_same | apply State.runShadow_same | apply Same.next
    | split

theorem State.modRc_same {A : Aspect → Prop} {s0 s : State} {z f : _} (h : Same A s0 s) :
    Same A s0 (State.modRc s z f) := by
  unfold State.modRc
  repeat' first
    | ((fail_if_success (conv => arg 2; fun)); extract_lets +onlyGivenNames y)
    | with_reducible first | assumption | refine Same.record ?_ (fun _ => ⟨rfl, rfl⟩) (fun _ => rfl) (fun _ => rfl) (fun _ => rfl) fun _ => rfl

theorem State.setCell_same {A : Aspect → Prop} {s0 s : State} {z k x : _} (h : Same A s0 s) :
    Same A s0 (State.setCell s z k x) := by
  unfold State.setCell
  repeat' with_reducible first | assumption | apply State.setF_same

theorem State.clearCells_same {A : Aspect → Prop} {s0 s : State} {z : _} (h : Same A s0 s) :
    Same A s0 (State.clearCells s z) := by
  unfold State.clearCells
  repeat' first
    | ((fail_if_success (conv => arg 2; fun)); extract_lets +onlyGivenNames y)
    | with_reducible first | assumption | apply State.setCell_same | refine Same.foldl ?_ fun _ _ _ => ?_

theorem State.rcSample_same {A : Aspect → Prop} {s0 s : State} {z mw : _} (h : Same A s0 s) :
    Same A s0 (State.rcSample s z mw) := by
  unfold State.rcSample
  repeat' first
    | ((fail_if_success (conv => arg 2; fun)); extract_lets +onlyGivenNames y; clear_value (e : y = _); refine Same.letVar (A := A) (s0 := s0) e ?_ fun _ => ?_)
    | ((fail_if_success (conv => arg 2; fun)); extract_lets +onlyGivenNames y)
    | with_reducible first | assumption | apply State.modRc_same
    | split

theorem execCopperFastPeriod_same {A : Aspect → Prop} {s0 s : State} {readings zoneMw shadow : _} (h : Same A s0 s) :
    SameX A s0 (execCopperFastPeriod readings zoneMw shadow s) := by
  unfold execCopperFastPeriod
  repeat' first
    | ((fail_if_success (conv => arg 2; fun)); extract_lets +onlyGivenNames y; clear_value (e : y = _); refine Same.letVar (A := A) (s0 := s0) e ?_ fun _ => ?_)
    | ((fail_if_success (conv => arg 2; fun)); extract_lets +onlyGivenNames y)
    | with_reducible first | assumption | apply State.takeReadings_same | apply State.refresh_same | apply State.beginPeriod_same | apply State.rcSample_same | apply Same.next | refine Same.foldl ?_ fun _ _ _ => ?_
    | with_reducible (refine Same.record ?_ (fun _ => ⟨rfl, rfl⟩) (fun _ => rfl) (fun _ => rfl) (fun _ => rfl) fun _ => rfl; first | assumption | apply State.takeReadings_same | apply State.refresh_same | apply State.beginPeriod_same | apply State.rcSample_same | apply Same.next | refine Same.foldl ?_ fun _ _ _ => ?_)
    | split

theorem State.rcLearn_same {A : Aspect → Prop} {s0 s : State} {z : _} (h : Same A s0 s) :
    Same A s0 (State.rcLearn s z) := by
  unfold State.rcLearn
  repeat' first
    | ((fail_if_success (conv => arg 2; fun)); extract_lets +onlyGivenNames y; clear_value (e : y = _); refine Same.letVar (A := A) (s0 := s0) e ?_ fun _ => ?_)
    | ((fail_if_success (conv => arg 2; fun)); extract_lets +onlyGivenNames y)
    | with_reducible first | assumption | apply State.modRc_same | apply State.setCell_same | refine Same.foldl ?_ fun _ _ _ => ?_

theorem State.rcLock_same {A : Aspect → Prop} {s0 s : State} {z oldP iv : _} (h : Same A s0 s) :
    Same A s0 (State.rcLock s z oldP iv) := by
  unfold State.rcLock
  repeat' first
    | ((fail_if_success (conv => arg 2; fun)); extract_lets +onlyGivenNames y; clear_value (e : y = _); refine Same.letVar (A := A) (s0 := s0) e ?_ fun _ => ?_)
    | ((fail_if_success (conv => arg 2; fun)); extract_lets +onlyGivenNames y)
    | with_reducible first | assumption | apply State.setF_same | apply State.modRc_same | apply State.clearCells_same
    | split

theorem State.rcMarker_same {A : Aspect → Prop} {s0 s : State} {z next : _} (h : Same A s0 s) :
    Same A s0 (State.rcMarker s z next) := by
  unfold State.rcMarker
  repeat' first
    | ((fail_if_success (conv => arg 2; fun)); extract_lets +onlyGivenNames y; clear_value (e : y = _); refine Same.letVar (A := A) (s0 := s0) e ?_ fun _ => ?_)
    | ((fail_if_success (conv => arg 2; fun)); extract_lets +onlyGivenNames y)
    | with_reducible first | assumption | apply State.setF_same | apply State.addWrap_same | apply State.addSat_same | apply State.modRc_same | apply State.rcLearn_same | apply State.rcLock_same
    | split

theorem execStepMarker_same {A : Aspect → Prop} {s0 s : State} {next : _} (h : Same A s0 s) :
    SameX A s0 (execStepMarker next s) := by
  unfold execStepMarker
  repeat' first
    | ((fail_if_success (conv => arg 2; fun)); extract_lets +onlyGivenNames y; clear_value (e : y = _); refine Same.letVar (A := A) (s0 := s0) e ?_ fun _ => ?_)
    | ((fail_if_success (conv => arg 2; fun)); extract_lets +onlyGivenNames y)
    | with_reducible first | assumption | apply State.rcMarker_same | apply Same.next | refine Same.foldl ?_ fun _ _ _ => ?_
    | with_reducible (refine Same.record ?_ (fun _ => ⟨rfl, rfl⟩) (fun _ => rfl) (fun _ => rfl) (fun _ => rfl) fun _ => rfl; first | assumption | apply State.rcMarker_same | apply Same.next | refine Same.foldl ?_ fun _ _ _ => ?_)
    | split

theorem execRcMarkerTimeout_same {A : Aspect → Prop} {s0 s : State} {z : _} (h : Same A s0 s) :
    SameX A s0 (execRcMarkerTimeout z s) := by
  unfold execRcMarkerTimeout
  repeat' first
    | ((fail_if_success (conv => arg 2; fun)); extract_lets +onlyGivenNames y)
    | with_reducible first | assumption | apply State.setF_same | apply Same.next
    | split

theorem State.rcFade_same {A : Aspect → Prop} {s0 s : State} (h : Same A s0 s) :
    Same A s0 (State.rcFade s) := by
  unfold State.rcFade
  repeat' first
    | ((fail_if_success (conv => arg 2; fun)); extract_lets +onlyGivenNames y)
    | with_reducible first | assumption | apply State.setF_same | refine Same.foldl ?_ fun _ _ _ => ?_

theorem State.unnamedRecord_same {A : Aspect → Prop} {s0 s : State} (h : Same A s0 s) :
    Same A s0 (State.unnamedRecord s) := by
  unfold State.unnamedRecord
  repeat' first
    | ((fail_if_success (conv => arg 2; fun)); extract_lets +onlyGivenNames y)
    | with_reducible first | assumption | refine Same.ofG (State.fresh_same ?_) | apply State.post_same

theorem State.enterTable_same {A : Aspect → Prop} {s0 s : State} {l : _} (h : Same A s0 s) :
    Same A s0 (State.enterTable s l) := by
  unfold State.enterTable
  repeat' first
    | ((fail_if_success (conv => arg 2; fun)); extract_lets +onlyGivenNames y; clear_value (e : y = _); refine Same.letVar (A := A) (s0 := s0) e ?_ fun _ => ?_)
    | ((fail_if_success (conv => arg 2; fun)); extract_lets +onlyGivenNames y)
    | with_reducible first | assumption | apply State.setF_same | apply State.addSat_same | apply State.modLoop_same | apply State.unnamedRecord_same
    | split

theorem State.setLoopState_same {A : Aspect → Prop} {s0 s : State} {l st : _} (h : Same A s0 s) :
    Same A s0 (State.setLoopState s l st) := by
  unfold State.setLoopState
  repeat' first
    | ((fail_if_success (conv => arg 2; fun)); extract_lets +onlyGivenNames y; clear_value (e : y = _); refine Same.letVar (A := A) (s0 := s0) e ?_ fun _ => ?_)
    | ((fail_if_success (conv => arg 2; fun)); extract_lets +onlyGivenNames y)
    | with_reducible first | assumption | apply State.setF_same | apply State.setBit_same | apply State.clearBit_same | apply State.modLoop_same
    | split

theorem State.tickLoop_same {A : Aspect → Prop} {s0 s : State} {l : _} (h : Same A s0 s) :
    Same A s0 (State.tickLoop s l) := by
  unfold State.tickLoop
  repeat' first
    | ((fail_if_success (conv => arg 2; fun)); extract_lets +onlyGivenNames y; clear_value (e : y = _); refine Same.letVar (A := A) (s0 := s0) e ?_ fun _ => ?_)
    | ((fail_if_success (conv => arg 2; fun)); extract_lets +onlyGivenNames y)
    | with_reducible first | assumption | apply State.setF_same | apply State.addSat_same | apply State.modLoop_same | apply State.enterTable_same | apply State.setLoopState_same
    | split

theorem State.setLoopCap_same {A : Aspect → Prop} {s0 s : State} {n c : _} (h : Same A s0 s) :
    Same A s0 (State.setLoopCap s n c) := by
  unfold State.setLoopCap
  repeat' first
    | ((fail_if_success (conv => arg 2; fun)); extract_lets +onlyGivenNames y; clear_value (e : y = _); refine Same.letVar (A := A) (s0 := s0) e ?_ fun _ => ?_)
    | ((fail_if_success (conv => arg 2; fun)); extract_lets +onlyGivenNames y)
    | with_reducible first | assumption | apply State.modDie_same

theorem State.writeGroup_same {A : Aspect → Prop} {s0 s : State} {ms fast : _} (h : Same A s0 s) :
    Same A s0 (State.writeGroup s ms fast) := by
  unfold State.writeGroup
  repeat' first
    | ((fail_if_success (conv => arg 2; fun)); extract_lets +onlyGivenNames y; clear_value (e : y = _); refine Same.letVar (A := A) (s0 := s0) e ?_ fun _ => ?_)
    | ((fail_if_success (conv => arg 2; fun)); extract_lets +onlyGivenNames y)
    | with_reducible first | assumption | apply State.setF_same | apply State.setFlag_same | apply State.setBit_same | apply State.modLoop_same | apply State.setLoopCap_same | refine Same.foldl ?_ fun _ _ _ => ?_
    | split

theorem State.outputPhase_same {A : Aspect → Prop} {s0 s : State} {fast : _} (h : Same A s0 s) :
    Same A s0 (State.outputPhase s fast) := by
  unfold State.outputPhase
  repeat' first
    | ((fail_if_success (conv => arg 2; fun)); extract_lets +onlyGivenNames y; clear_value (e : y = _); refine Same.letVar (A := A) (s0 := s0) e ?_ fun _ => ?_)
    | ((fail_if_success (conv => arg 2; fun)); extract_lets +onlyGivenNames y)
    | with_reducible first | assumption | apply State.sendFrame_same | apply State.rcFade_same | apply State.tickLoop_same | apply State.writeGroup_same | refine Same.foldl ?_ fun _ _ _ => ?_
    | split

theorem execCopperOutputPhase_same {A : Aspect → Prop} {s0 s : State} {fast : _} (h : Same A s0 s) :
    SameX A s0 (execCopperOutputPhase fast s) := by
  unfold execCopperOutputPhase
  repeat' first
    | ((fail_if_success (conv => arg 2; fun)); extract_lets +onlyGivenNames y)
    | with_reducible first | assumption | apply State.sendFrame_same | apply State.outputPhase_same | apply Same.next
    | split

theorem execLoopTableExit_same {A : Aspect → Prop} {s0 s : State} {l : _} (h : Same A s0 s) :
    SameX A s0 (execLoopTableExit l s) := by
  unfold execLoopTableExit
  repeat' first
    | ((fail_if_success (conv => arg 2; fun)); extract_lets +onlyGivenNames y; clear_value (e : y = _); refine Same.letVar (A := A) (s0 := s0) e ?_ fun _ => ?_)
    | ((fail_if_success (conv => arg 2; fun)); extract_lets +onlyGivenNames y)
    | with_reducible first | assumption | apply State.modLoop_same | apply State.setLoopState_same | apply Same.next
    | split

theorem State.freshLoop_same {A : Aspect → Prop} {s0 s : State} {l : _} (h : Same A s0 s) :
    Same A s0 (State.freshLoop s l) := by
  unfold State.freshLoop
  repeat' first
    | ((fail_if_success (conv => arg 2; fun)); extract_lets +onlyGivenNames y; clear_value (e : y = _); refine Same.letVar (A := A) (s0 := s0) e ?_ fun _ => ?_)
    | ((fail_if_success (conv => arg 2; fun)); extract_lets +onlyGivenNames y)
    | with_reducible first | assumption | apply State.setF_same | apply State.setShadow_same | apply State.modLoop_same | apply State.setLoopState_same | refine Same.foldl ?_ fun _ _ _ => ?_
    | split

theorem State.copperConstants_same {A : Aspect → Prop} {s0 s : State} (h : Same A s0 s) :
    Same A s0 (State.copperConstants s) := by
  unfold State.copperConstants
  repeat' first
    | ((fail_if_success (conv => arg 2; fun)); extract_lets +onlyGivenNames y)
    | with_reducible first | assumption | apply State.setData_same | apply State.setShadow_same | refine Same.foldl ?_ fun _ _ _ => ?_

theorem State.applyCle_same {A : Aspect → Prop} (nL : ¬A .live) {s0 s : State} (h : Same A s0 s) :
    Same A s0 (State.applyCle s) := by
  unfold State.applyCle
  repeat' first
    | ((fail_if_success (conv => arg 2; fun)); extract_lets +onlyGivenNames y; clear_value (e : y = _); refine Same.letVar (A := A) (s0 := s0) e ?_ fun _ => ?_)
    | ((fail_if_success (conv => arg 2; fun)); extract_lets +onlyGivenNames y)
    | with_reducible first | assumption | apply State.setF_same | apply State.clearCells_same | apply State.commitWhole_same nL | apply State.freshLoop_same | apply State.copperConstants_same | refine Same.foldl ?_ fun _ _ _ => ?_

theorem State.startCleCommit_same {A : Aspect → Prop} {s0 s : State} (h : Same A s0 s) :
    Same A s0 (State.startCleCommit s) := by
  unfold State.startCleCommit
  repeat' first
    | ((fail_if_success (conv => arg 2; fun)); extract_lets +onlyGivenNames y)
    | with_reducible first | assumption | apply State.setF_same
    | with_reducible (refine Same.record ?_ (fun _ => ⟨rfl, rfl⟩) (fun _ => rfl) (fun _ => rfl) (fun _ => rfl) fun _ => rfl; first | assumption | apply State.setF_same)
    | split

theorem execCleCommit_same {A : Aspect → Prop} {s0 s : State} (h : Same A s0 s) :
    SameX A s0 (execCleCommit s) := by
  unfold execCleCommit
  repeat' first
    | ((fail_if_success (conv => arg 2; fun)); extract_lets +onlyGivenNames y)
    | with_reducible first | assumption | apply State.startCleCommit_same | apply Same.next
    | split

theorem execCleCommitApply_same {A : Aspect → Prop} (nL : ¬A .live) {s0 s : State} (h : Same A s0 s) :
    SameX A s0 (execCleCommitApply s) := by
  unfold execCleCommitApply
  repeat' first
    | ((fail_if_success (conv => arg 2; fun)); extract_lets +onlyGivenNames y)
    | with_reducible first | assumption | apply State.setF_same | apply State.applyCle_same nL | apply Same.next
    | split

end Sys2Proof.Machine
end

