-- ==== Sys2Proof/Laws/SameBoot.lean ====
section
/-!
SUPPORT. Register commands, images, start-up and the coolant loop leave what Laws/Same.lean names.
-/

namespace Sys2Proof.Machine

set_option linter.all false

/-! ### RegWrite -/

theorem State.clearOnes_same {A : Aspect → Prop} {s0 s : State} {f i v : _} (h : Same A s0 s) :
    Same A s0 (State.clearOnes s f i v) := by
  unfold State.clearOnes
  repeat' with_reducible first | assumption | apply State.setF_same

theorem State.writeField_same {A : Aspect → Prop} {s0 s : State} {k data x : _} (h : Same A s0 s) :
    Same A s0 (State.writeField s k data x) := by
  unfold State.writeField
  repeat' first
    | ((fail_if_success (conv => arg 2; fun)); extract_lets +onlyGivenNames y)
    | with_reducible first | assumption | apply State.setF_same | apply State.clearOnes_same
    | split

theorem State.plainWrite_same {A : Aspect → Prop} {s0 s : State} {r k data : _} (h : Same A s0 s) :
    Same A s0 (State.plainWrite s r k data) := by
  unfold State.plainWrite
  repeat' first
    | ((fail_if_success (conv => arg 2; fun)); extract_lets +onlyGivenNames y)
    | with_reducible first | assumption | apply State.writeField_same | refine Same.foldl ?_ fun _ _ _ => ?_

theorem State.commitBlock_same {A : Aspect → Prop} (nM : ¬A .mem) (nL : ¬A .live) {s0 s : State} {b : _} (h : Same A s0 s) :
    Same A s0 (State.commitBlock s b) := by
  unfold State.commitBlock
  repeat' first
    | with_reducible first | assumption | apply State.commitCsk_same nL | apply State.commitMem_same nM nL | apply State.commitMil_same nL | apply State.commitIxf_same nL | apply State.commitPtn_same nL | apply State.commitRow_same nL | apply State.commitGrb_same | apply State.startCleCommit_same
    | with_reducible (refine Same.record ?_ (fun _ => ⟨rfl, rfl⟩) (fun _ => rfl) (fun _ => rfl) (fun _ => rfl) fun _ => rfl; first | assumption | apply State.commitCsk_same nL | apply State.commitMem_same nM nL | apply State.commitMil_same nL | apply State.commitIxf_same nL | apply State.commitPtn_same nL | apply State.commitRow_same nL | apply State.commitGrb_same | apply State.startCleCommit_same)
    | split

theorem State.writeCompute_same {A : Aspect → Prop} (nM : ¬A .mem) (nL : ¬A .live) {s0 s : State} {r k data f : _} (h : Same A s0 s) :
    Same A s0 (State.writeCompute s r k data f) := by
  unfold State.writeCompute
  repeat' first
    | ((fail_if_success (conv => arg 2; fun)); extract_lets +onlyGivenNames y; clear_value (e : y = _); refine Same.letVar (A := A) (s0 := s0) e ?_ fun _ => ?_)
    | ((fail_if_success (conv => arg 2; fun)); extract_lets +onlyGivenNames y)
    | with_reducible first | assumption | apply State.resetGate_same | apply State.prodWrite_same nM | apply State.consWrite_same nM | apply State.enableWrite_same nM | apply State.cancelRing_same | apply State.claimStopWrite_same | apply State.commitRing_same nL | apply State.spareStart_same | apply State.stgSignal_same | apply State.commitGate_same nL | apply State.capHost_same | apply State.rackCfg_same | apply State.plainWrite_same | apply State.commitBlock_same nM nL
    | split

theorem State.writeFabric_same {A : Aspect → Prop} (nM : ¬A .mem) (nD : ¬A .dom) (nL : ¬A .live) {s0 s : State} {r k data f : _} (h : Same A s0 s) :
    Same A s0 (State.writeFabric s r k data f) := by
  unfold State.writeFabric
  repeat' first
    | ((fail_if_success (conv => arg 2; fun)); extract_lets +onlyGivenNames y; clear_value (e : y = _); refine Same.letVar (A := A) (s0 := s0) e ?_ fun _ => ?_)
    | ((fail_if_success (conv => arg 2; fun)); extract_lets +onlyGivenNames y)
    | with_reducible first | assumption | apply State.seedWrite_same | apply State.haltWrite_same | apply State.retrainWrite_same nM | apply State.portEnable_same nM | apply State.portPark_same nM nD | apply State.fenceClear_same nM | apply State.reachQuery_same | apply State.ptnRetrain_same nM | apply State.ptnEnable_same nM | apply State.ptnFenceClear_same | apply State.plainWrite_same | apply State.commitBlock_same nM nL
    | split

theorem State.writeKilnBlock_same {A : Aspect → Prop} (nM : ¬A .mem) (nL : ¬A .live) {s0 s : State} {r k data f : _} (h : Same A s0 s) :
    Same A s0 (State.writeKilnBlock s r k data f) := by
  unfold State.writeKilnBlock
  repeat' first
    | ((fail_if_success (conv => arg 2; fun)); extract_lets +onlyGivenNames y; clear_value (e : y = _); refine Same.letVar (A := A) (s0 := s0) e ?_ fun _ => ?_)
    | ((fail_if_success (conv => arg 2; fun)); extract_lets +onlyGivenNames y)
    | with_reducible first | assumption | apply State.cskMark_same | apply State.cskRdSeq_same | apply State.clashClear_same | apply State.txbCancel_same | apply State.pumpCtrlWrite_same | apply State.plainWrite_same | apply State.commitBlock_same nM nL | refine Same.foldl ?_ fun _ _ _ => ?_
    | split

theorem State.holdWrite_same {A : Aspect → Prop} {s0 s : State} {b a data : _} (h : Same A s0 s) :
    Same A s0 (State.holdWrite s b a data) := by
  unfold State.holdWrite
  repeat' with_reducible first | assumption | refine Same.record ?_ (fun _ => ⟨rfl, rfl⟩) (fun _ => rfl) (fun _ => rfl) (fun _ => rfl) fun _ => rfl

theorem State.blockWrite_same {A : Aspect → Prop} (nM : ¬A .mem) (nD : ¬A .dom) (nL : ¬A .live) {s0 s : State} {b a r k data : _} (h : Same A s0 s) :
    Same A s0 (State.blockWrite s b a r k data) := by
  unfold State.blockWrite
  repeat' first
    | with_reducible first | assumption | apply State.writeCompute_same nM nL | apply State.writeFabric_same nM nD nL | apply State.writeKilnBlock_same nM nL | apply State.holdWrite_same
    | split

/-! ### Images -/

theorem State.showWritten_same {A : Aspect → Prop} {s0 s : State} (h : Same A s0 s) :
    Same A s0 (State.showWritten s) := by
  unfold State.showWritten
  repeat' first
    | ((fail_if_success (conv => arg 2; fun)); extract_lets +onlyGivenNames y)
    | with_reducible first | assumption | apply State.setF_same | apply State.setFlag_same

theorem State.readOtp_same {A : Aspect → Prop} {s0 s : State} (h : Same A s0 s) :
    Same A s0 (State.readOtp s) := by
  unfold State.readOtp
  repeat' first
    | ((fail_if_success (conv => arg 2; fun)); extract_lets +onlyGivenNames y; clear_value (e : y = _); refine Same.letVar (A := A) (s0 := s0) e ?_ fun _ => ?_)
    | ((fail_if_success (conv => arg 2; fun)); extract_lets +onlyGivenNames y)
    | with_reducible first | assumption | apply State.setF_same | apply State.setFlag_same | apply State.showWritten_same

theorem State.lastVerify_same {A : Aspect → Prop} {s0 s : State} {part check sect blockErr : _} (h : Same A s0 s) :
    Same A s0 (State.lastVerify s part check sect blockErr) := by
  unfold State.lastVerify
  repeat' first
    | ((fail_if_success (conv => arg 2; fun)); extract_lets +onlyGivenNames y; clear_value (e : y = _); refine Same.letVar (A := A) (s0 := s0) e ?_ fun _ => ?_)
    | ((fail_if_success (conv => arg 2; fun)); extract_lets +onlyGivenNames y)
    | with_reducible first | assumption | apply State.setF_same

theorem State.verified_same {A : Aspect → Prop} {s0 s : State} {part check : _} (h : Same A s0 s) :
    Same A s0 (State.verified s part check) := by
  unfold State.verified
  repeat' first
    | ((fail_if_success (conv => arg 2; fun)); extract_lets +onlyGivenNames y; clear_value (e : y = _); refine Same.letVar (A := A) (s0 := s0) e ?_ fun _ => ?_)
    | ((fail_if_success (conv => arg 2; fun)); extract_lets +onlyGivenNames y)
    | with_reducible first | assumption | apply State.addSat_same | apply State.lastVerify_same
    | split

theorem State.verifiedEvent_same {A : Aspect → Prop} {s0 s : State} {part check : _} (h : Same A s0 s) :
    Same A s0 (State.verifiedEvent s part check) := by
  unfold State.verifiedEvent
  repeat' first
    | ((fail_if_success (conv => arg 2; fun)); extract_lets +onlyGivenNames y; clear_value (e : y = _); refine Same.letVar (A := A) (s0 := s0) e ?_ fun _ => ?_)
    | ((fail_if_success (conv => arg 2; fun)); extract_lets +onlyGivenNames y)
    | with_reducible first | assumption | apply State.post_same | apply State.verified_same
    | split

theorem State.setImgState_same {A : Aspect → Prop} {s0 s : State} {x v : _} (h : Same A s0 s) :
    Same A s0 (State.setImgState s x v) := by
  unfold State.setImgState
  repeat' first
    | ((fail_if_success (conv => arg 2; fun)); extract_lets +onlyGivenNames y)
    | with_reducible first | assumption | refine Same.record ?_ (fun _ => ⟨rfl, rfl⟩) (fun _ => rfl) (fun _ => rfl) (fun _ => rfl) fun _ => rfl

theorem State.modKiln_same {A : Aspect → Prop} {s0 s : State} {k f : _} (h : Same A s0 s) :
    Same A s0 (State.modKiln s k f) := by
  unfold State.modKiln
  repeat' first
    | ((fail_if_success (conv => arg 2; fun)); extract_lets +onlyGivenNames y)
    | with_reducible first | assumption
    | with_reducible (refine Same.record ?_ (fun _ => ⟨rfl, rfl⟩) (fun _ => rfl) (fun _ => rfl) (fun _ => rfl) fun _ => rfl; first | assumption)
    | split

theorem State.romLoad_same {A : Aspect → Prop} {s0 s : State} {k : _} (h : Same A s0 s) :
    Same A s0 (State.romLoad s k) := by
  unfold State.romLoad
  repeat' first
    | ((fail_if_success (conv => arg 2; fun)); extract_lets +onlyGivenNames y; clear_value (e : y = _); refine Same.letVar (A := A) (s0 := s0) e ?_ fun _ => ?_)
    | ((fail_if_success (conv => arg 2; fun)); extract_lets +onlyGivenNames y)
    | with_reducible first | assumption | apply State.setF_same | apply State.addSat_same | apply State.verified_same | apply State.modKiln_same | refine Same.foldl ?_ fun _ _ _ => ?_
    | with_reducible (refine Same.record ?_ (fun _ => ⟨rfl, rfl⟩) (fun _ => rfl) (fun _ => rfl) (fun _ => rfl) fun _ => rfl; first | assumption | apply State.setF_same | apply State.addSat_same | apply State.verified_same | apply State.modKiln_same | refine Same.foldl ?_ fun _ _ _ => ?_)
    | split

theorem State.programOtp_same {A : Aspect → Prop} (nT : ¬A .otp) {s0 s : State} {d : List Byte} (h : Same A s0 s) :
    Same A s0 (s.programOtp d) := by
  unfold State.programOtp
  dsimp only
  exact State.post_same (State.showWritten_same (Same.record h (fun _ => ⟨rfl, rfl⟩) (fun _ => rfl) (fun _ => rfl) (fun _ => rfl)
    fun x => absurd x nT))

theorem State.writeShadow_same {A : Aspect → Prop} {s0 s : State} {l : _} (h : Same A s0 s) :
    Same A s0 (State.writeShadow s l) := by
  unfold State.writeShadow
  repeat' first
    | ((fail_if_success (conv => arg 2; fun)); extract_lets +onlyGivenNames y)
    | with_reducible first | assumption | apply State.plainWrite_same | refine Same.foldl ?_ fun _ _ _ => ?_
    | split

theorem State.writeDirect_same {A : Aspect → Prop} (nM : ¬A .mem) (nD : ¬A .dom) (nL : ¬A .live) {s0 s : State} {l : _} (h : Same A s0 s) :
    Same A s0 (State.writeDirect s l) := by
  unfold State.writeDirect
  repeat' first
    | ((fail_if_success (conv => arg 2; fun)); extract_lets +onlyGivenNames y)
    | with_reducible first | assumption | apply State.blockWrite_same nM nD nL | refine Same.foldl ?_ fun _ _ _ => ?_
    | split

theorem State.commitSection_same {A : Aspect → Prop} (nM : ¬A .mem) (nL : ¬A .live) {s0 s : State} {typ : _} (h : Same A s0 s) :
    SameF A s0 (State.commitSection s typ) := by
  unfold State.commitSection
  repeat' first
    | ((fail_if_success (conv => arg 2; fun)); extract_lets +onlyGivenNames y; clear_value (e : y = _); refine Same.letVar (A := A) (s0 := s0) e ?_ fun _ => ?_)
    | ((fail_if_success (conv => arg 2; fun)); extract_lets +onlyGivenNames y)
    | with_reducible first | assumption | apply State.setF_same | apply State.commitMem_same nM nL | apply State.commitMil_same nL | apply State.commitIxf_same nL | apply State.commitPtn_same nL | apply State.commitRow_same nL | apply State.commitGrb_same | apply State.applyCle_same nL
    | split
    | with_reducible apply Same.mkF

theorem State.applyModule_same {A : Aspect → Prop} (nL : ¬A .live) {s0 s : State} {d : _} (h : Same A s0 s) :
    SameF A s0 (State.applyModule s d) := by
  unfold State.applyModule
  repeat' first
    | ((fail_if_success (conv => arg 2; fun)); extract_lets +onlyGivenNames y; clear_value (e : y = _); refine Same.letVar (A := A) (s0 := s0) e ?_ fun _ => ?_)
    | ((fail_if_success (conv => arg 2; fun)); extract_lets +onlyGivenNames y)
    | with_reducible first | assumption | apply State.setF_same | apply State.commitAll_same nL | apply State.idValid_same
    | with_reducible (refine Same.record ?_ (fun _ => ⟨rfl, rfl⟩) (fun _ => rfl) (fun _ => rfl) (fun _ => rfl) fun _ => rfl; first | assumption | apply State.setF_same | apply State.commitAll_same nL | apply State.idValid_same)
    | split
    | with_reducible apply Same.mkF

theorem State.applySection_same {A : Aspect → Prop} (nM : ¬A .mem) (nD : ¬A .dom) (nL : ¬A .live) {s0 s : State} {typ d sel : _} (h : Same A s0 s) :
    SameF A s0 (State.applySection s typ d sel) := by
  unfold State.applySection
  repeat' first
    | ((fail_if_success (conv => arg 2; fun)); extract_lets +onlyGivenNames y; clear_value (e : y = _); refine Same.letVar (A := A) (s0 := s0) e ?_ fun _ => ?_)
    | ((fail_if_success (conv => arg 2; fun)); extract_lets +onlyGivenNames y)
    | with_reducible first | assumption | apply State.takeGrbSet_same nL | apply State.takeWeights_same nL | apply State.writeShadow_same | apply State.writeDirect_same nM nD nL | apply State.commitSection_same nM nL | apply State.applyModule_same nL | refine Same.eqF (by assumption) ?_ | refine Same.rwF (by assumption) ?_
    | with_reducible (refine Same.record ?_ (fun _ => ⟨rfl, rfl⟩) (fun _ => rfl) (fun _ => rfl) (fun _ => rfl) fun _ => rfl; first | assumption | apply State.takeGrbSet_same nL | apply State.takeWeights_same nL | apply State.writeShadow_same | apply State.writeDirect_same nM nD nL | apply State.commitSection_same nM nL | apply State.applyModule_same nL | refine Same.eqF (by assumption) ?_ | refine Same.rwF (by assumption) ?_)
    | split
    | with_reducible apply Same.mkF

theorem State.applyOrder_same {A : Aspect → Prop} (nM : ¬A .mem) (nD : ¬A .dom) (nL : ¬A .live) {s0 s : State} {l sel z3 : _} (h : Same A s0 s) :
    SameF A s0 (State.applyOrder s l sel z3) := by
  induction z3 generalizing s l sel with
  | nil =>
    unfold State.applyOrder
    repeat' first
      | ((fail_if_success (conv => arg 2; fun)); extract_lets +onlyGivenNames y)
      | with_reducible first | assumption | apply State.applySection_same nM nD nL | apply ih | refine Same.eqF (by assumption) ?_
      | with_reducible (refine Same.record ?_ (fun _ => ⟨rfl, rfl⟩) (fun _ => rfl) (fun _ => rfl) (fun _ => rfl) fun _ => rfl; first | assumption | apply State.applySection_same nM nD nL | apply ih | refine Same.eqF (by assumption) ?_)
      | split
      | with_reducible apply Same.mkF
  | cons hd tl ih =>
    unfold State.applyOrder
    repeat' first
      | ((fail_if_success (conv => arg 2; fun)); extract_lets +onlyGivenNames y)
      | with_reducible first | assumption | apply State.applySection_same nM nD nL | apply ih | refine Same.eqF (by assumption) ?_
      | with_reducible (refine Same.record ?_ (fun _ => ⟨rfl, rfl⟩) (fun _ => rfl) (fun _ => rfl) (fun _ => rfl) fun _ => rfl; first | assumption | apply State.applySection_same nM nD nL | apply ih | refine Same.eqF (by assumption) ?_)
      | split
      | with_reducible apply Same.mkF

theorem State.applyConfig_same {A : Aspect → Prop} (nM : ¬A .mem) (nD : ¬A .dom) (nL : ¬A .live) {s0 s : State} {l sel order part : _} (h : Same A s0 s) :
    SameF A s0 (State.applyConfig s l sel order part) := by
  unfold State.applyConfig
  repeat' first
    | ((fail_if_success (conv => arg 2; fun)); extract_lets +onlyGivenNames y)
    | with_reducible first | assumption | apply State.setF_same | apply State.lastVerify_same | apply State.applyOrder_same nM nD nL | refine Same.eqF (by assumption) ?_
    | with_reducible (refine Same.record ?_ (fun _ => ⟨rfl, rfl⟩) (fun _ => rfl) (fun _ => rfl) (fun _ => rfl) fun _ => rfl; first | assumption | apply State.setF_same | apply State.lastVerify_same | apply State.applyOrder_same nM nD nL | refine Same.eqF (by assumption) ?_)
    | split
    | with_reducible apply Same.mkF

theorem State.bootOtp_same {A : Aspect → Prop} (nT : ¬A .otp) {s0 s : State} {l part : _} (h : Same A s0 s) :
    SameF A s0 (State.bootOtp s l part) := by
  unfold State.bootOtp
  split
  · exact Same.mkF h
  · split
    · exact Same.mkF h
    · split
      · exact Same.mkF (State.programOtp_same nT h)
      · exact Same.mkF (State.lastVerify_same h)

/-! ### BootOps -/

theorem State.clustersGone_same {A : Aspect → Prop} {s0 s : State} {n : _} (h : Same A s0 s) :
    Same A s0 (State.clustersGone s n) := by
  unfold State.clustersGone
  repeat' first
    | with_reducible first | assumption | apply State.testEvent_same
    | split

theorem State.makeAbsent_same {A : Aspect → Prop} {s0 s : State} {l c : _} (h : Same A s0 s) :
    Same A s0 (State.makeAbsent s l c) := by
  unfold State.makeAbsent
  repeat' first
    | ((fail_if_success (conv => arg 2; fun)); extract_lets +onlyGivenNames y; clear_value (e : y = _); refine Same.letVar (A := A) (s0 := s0) e ?_ fun _ => ?_)
    | ((fail_if_success (conv => arg 2; fun)); extract_lets +onlyGivenNames y)
    | with_reducible first | assumption | apply State.setAbsent_same | apply State.degEvent_same | refine Same.record ?_ (fun _ => ⟨rfl, rfl⟩) (fun _ => rfl) (fun _ => rfl) (fun _ => rfl) fun _ => rfl

theorem State.assignSpare_same {A : Aspect → Prop} {s0 s : State} {l old c cause : _} (h : Same A s0 s) :
    Same A s0 (State.assignSpare s l old c cause) := by
  unfold State.assignSpare
  repeat' first
    | ((fail_if_success (conv => arg 2; fun)); extract_lets +onlyGivenNames y; clear_value (e : y = _); refine Same.letVar (A := A) (s0 := s0) e ?_ fun _ => ?_)
    | ((fail_if_success (conv => arg 2; fun)); extract_lets +onlyGivenNames y)
    | with_reducible first | assumption | apply State.modCl_same | apply State.addRepair_same | apply State.ungateCluster_same | apply State.setAbsent_same | apply State.degEvent_same | apply State.clustersGone_same | refine Same.record ?_ (fun _ => ⟨rfl, rfl⟩) (fun _ => rfl) (fun _ => rfl) (fun _ => rfl) fun _ => rfl

theorem State.remapCause_same {A : Aspect → Prop} {s0 s : State} {old : _} (h : Same A s0 s) :
    SameG A s0 (State.remapCause s old) := by
  unfold State.remapCause
  repeat' first
    | ((fail_if_success (conv => arg 2; fun)); extract_lets +onlyGivenNames y)
    | with_reducible first | assumption | refine Same.ofG (State.fresh_same ?_)
    | split
    | with_reducible apply Same.mkG

theorem State.remap_same {A : Aspect → Prop} {s0 s : State} {l : _} (h : Same A s0 s) :
    Same A s0 (State.remap s l) := by
  unfold State.remap
  repeat' first
    | ((fail_if_success (conv => arg 2; fun)); extract_lets +onlyGivenNames y)
    | with_reducible first | assumption | apply State.addRepair_same | apply State.assignSpare_same | apply State.remapCause_same | refine Same.eqG (by assumption) ?_
    | with_reducible (refine Same.record ?_ (fun _ => ⟨rfl, rfl⟩) (fun _ => rfl) (fun _ => rfl) (fun _ => rfl) fun _ => rfl; first | assumption | apply State.addRepair_same | apply State.assignSpare_same | apply State.remapCause_same | refine Same.eqG (by assumption) ?_)
    | split

theorem State.remapDie_same {A : Aspect → Prop} {s0 s : State} {n : _} (h : Same A s0 s) :
    Same A s0 (State.remapDie s n) := by
  unfold State.remapDie
  repeat' first
    | ((fail_if_success (conv => arg 2; fun)); extract_lets +onlyGivenNames y)
    | with_reducible first | assumption | apply State.remap_same | refine Same.foldl ?_ fun _ _ _ => ?_

theorem State.startupFail_same {A : Aspect → Prop} {s0 s : State} {c : _} (h : Same A s0 s) :
    Same A s0 (State.startupFail s c) := by
  unfold State.startupFail
  repeat' first
    | ((fail_if_success (conv => arg 2; fun)); extract_lets +onlyGivenNames y; clear_value (e : y = _); refine Same.letVar (A := A) (s0 := s0) e ?_ fun _ => ?_)
    | ((fail_if_success (conv => arg 2; fun)); extract_lets +onlyGivenNames y; clear_value y)
    | with_reducible first | assumption | apply State.setF_same | apply State.fresh_same | apply State.modCl_same | apply State.addRepair_same | apply State.testEvent_same | apply State.clustersGone_same | apply State.makeAbsent_same | refine Same.eqG (by assumption) ?_
    | with_reducible (refine Same.record ?_ (fun _ => ⟨rfl, rfl⟩) (fun _ => rfl) (fun _ => rfl) (fun _ => rfl) fun _ => rfl; first | assumption | apply State.setF_same | apply State.fresh_same | apply State.modCl_same | apply State.addRepair_same | apply State.testEvent_same | apply State.clustersGone_same | apply State.makeAbsent_same | refine Same.eqG (by assumption) ?_)
    | split

theorem State.testClusters_same {A : Aspect → Prop} {s0 s : State} {n bad : _} (h : Same A s0 s) :
    Same A s0 (State.testClusters s n bad) := by
  unfold State.testClusters
  repeat' first
    | ((fail_if_success (conv => arg 2; fun)); extract_lets +onlyGivenNames y; clear_value (e : y = _); refine Same.letVar (A := A) (s0 := s0) e ?_ fun _ => ?_)
    | ((fail_if_success (conv => arg 2; fun)); extract_lets +onlyGivenNames y)
    | with_reducible first | assumption | apply State.modCl_same | apply State.startupFail_same | refine Same.foldl ?_ fun _ _ _ => ?_

theorem State.loadDieFirmware_same {A : Aspect → Prop} {s0 s : State} (h : Same A s0 s) :
    Same A s0 (State.loadDieFirmware s) := by
  unfold State.loadDieFirmware
  repeat' first
    | ((fail_if_success (conv => arg 2; fun)); extract_lets +onlyGivenNames y)
    | with_reducible first | assumption | apply State.setF_same | refine Same.record ?_ (fun _ => ⟨rfl, rfl⟩) (fun _ => rfl) (fun _ => rfl) (fun _ => rfl) fun _ => rfl

theorem State.dieFirmware_same {A : Aspect → Prop} {s0 s : State} (h : Same A s0 s) :
    SameF A s0 (State.dieFirmware s) := by
  unfold State.dieFirmware
  generalize s.partCheck 2 = c
  split
  · exact Same.mkF (State.norRefuse_same h)
  · dsimp only
    have h1 := State.verifiedEvent_same (part := 2) (check := c) h
    generalize s.verifiedEvent 2 c = t at h1 ⊢
    split
    · exact Same.mkF (State.loadDieFirmware_same h1)
    · split
      · exact Same.mkF h1
      · have h3 : Same A s0 { t with sec := { t.sec with parts := t.sec.parts.set 2 (t.part 5), reflashed := t.sec.reflashed ++ [2] } } :=
          Same.record h1 (fun _ => ⟨rfl, rfl⟩) (fun _ => rfl) (fun _ => rfl) (fun _ => rfl) fun _ => rfl
        generalize ({ t with sec := { t.sec with parts := t.sec.parts.set 2 (t.part 5), reflashed := t.sec.reflashed ++ [2] } } : State) = v at h3 ⊢
        have h4 := State.setF_same (f := .kln .reflashLast) (i := 0) (v := 2) (State.addSat_same (f := .kln .reflashCount) (i := 0) (n := 1) h3)
        generalize State.setF _ (.kln .reflashLast) 0 2 = w at h4 ⊢
        generalize w.partCheck 2 = e
        have h5 := State.verifiedEvent_same (part := 2) (check := e) h4
        generalize w.verifiedEvent 2 e = x at h5 ⊢
        split
        · exact Same.mkF (State.loadDieFirmware_same (State.post_same h5))
        · exact Same.mkF (State.post_same h5)

theorem State.replaceChannel_same {A : Aspect → Prop} {s0 s : State} {k p cause failCause : _} (h : Same A s0 s) :
    Same A s0 (State.replaceChannel s k p cause failCause) := by
  unfold State.replaceChannel
  repeat' first
    | ((fail_if_success (conv => arg 2; fun)); extract_lets +onlyGivenNames y; clear_value (e : y = _); refine Same.letVar (A := A) (s0 := s0) e ?_ fun _ => ?_)
    | ((fail_if_success (conv => arg 2; fun)); extract_lets +onlyGivenNames y)
    | with_reducible first | assumption | apply State.setF_same | apply State.memEvent_same | apply State.stackFail_same | apply State.addRepair_same | apply State.testEvent_same
    | split

theorem State.trainStack_same {A : Aspect → Prop} {s0 s : State} {k bad : _} (h : Same A s0 s) :
    Same A s0 (State.trainStack s k bad) := by
  unfold State.trainStack
  repeat' first
    | ((fail_if_success (conv => arg 2; fun)); extract_lets +onlyGivenNames y; clear_value (e : y = _); refine Same.letVar (A := A) (s0 := s0) e ?_ fun _ => ?_)
    | ((fail_if_success (conv => arg 2; fun)); extract_lets +onlyGivenNames y)
    | with_reducible first | assumption | apply State.setF_same | apply State.applySpares_same | apply State.replaceChannel_same | refine Same.foldl ?_ fun _ _ _ => ?_
    | split

theorem State.dropPending_same {A : Aspect → Prop} {s0 s : State} {k w : _} (h : Same A s0 s) :
    Same A s0 (State.dropPending s k w) := by
  unfold State.dropPending
  repeat' with_reducible first | assumption | apply State.dropRepairs_same

theorem State.showLeft_same {A : Aspect → Prop} {s0 s : State} {k : _} (h : Same A s0 s) :
    Same A s0 (State.showLeft s k) := by
  unfold State.showLeft
  repeat' with_reducible first | assumption | apply State.setF_same

theorem State.leaveRow_same {A : Aspect → Prop} {s0 s : State} {k w cause : _} (h : Same A s0 s) :
    Same A s0 (State.leaveRow s k w cause) := by
  unfold State.leaveRow
  repeat' first
    | ((fail_if_success (conv => arg 2; fun)); extract_lets +onlyGivenNames y; clear_value (e : y = _); refine Same.letVar (A := A) (s0 := s0) e ?_ fun _ => ?_)
    | ((fail_if_success (conv => arg 2; fun)); extract_lets +onlyGivenNames y)
    | with_reducible first | assumption | apply State.addRepair_same | apply State.testEvent_same | apply State.dropPending_same | apply State.showLeft_same
    | split

theorem State.noSpareRow_same {A : Aspect → Prop} {s0 s : State} {r : _} (h : Same A s0 s) :
    Same A s0 (State.noSpareRow s r) := by
  unfold State.noSpareRow
  repeat' first
    | ((fail_if_success (conv => arg 2; fun)); extract_lets +onlyGivenNames y)
    | with_reducible first | assumption | apply State.replaceChannel_same | apply State.dropPending_same | apply State.leaveRow_same
    | split

theorem State.fitRow_same {A : Aspect → Prop} {s0 s : State} {r : _} (h : Same A s0 s) :
    Same A s0 (State.fitRow s r) := by
  unfold State.fitRow
  dsimp only
  have h1 : Same A s0 { s with sec := { s.sec with ppr := s.sec.ppr ++ [spareRowKey r.stack r.pch r.bank] } } :=
    Same.record h (fun _ => ⟨rfl, rfl⟩) (fun _ => rfl) (fun _ => rfl) (fun _ => rfl) fun _ => rfl
  generalize ({ s with sec := { s.sec with ppr := s.sec.ppr ++ [spareRowKey r.stack r.pch r.bank] } } : State) = t at h1 ⊢
  generalize rowWord r.pch r.bank r.row = w
  split
  · have h2 := State.addSat_same (f := .bst .memRepaired) (i := r.stack) (n := 1)
      (State.addRepair_same (rtype := 2) (cause := 6) (unit := r.stack) (word1 := w) (word2 := 0) (State.dropPending_same (k := r.stack) (w := w) h1))
    have h3 := State.testEvent_same (code := 3) (severity := 0) (data := rowData r.stack r.pch r.bank r.row) h2
    generalize State.testEvent _ 3 0 _ = u at h3 ⊢
    exact Same.ite (State.testEvent_same h3) h3
  · exact State.noSpareRow_same h1

theorem State.handleRow_same {A : Aspect → Prop} {s0 s : State} {done unc r : _} (h : Same A s0 s) :
    SameF A s0 (State.handleRow s done unc r) := by
  unfold State.handleRow
  repeat' first
    | ((fail_if_success (conv => arg 2; fun)); extract_lets +onlyGivenNames y)
    | with_reducible first | assumption | apply State.addRepair_same | apply State.replaceChannel_same | apply State.leaveRow_same | apply State.noSpareRow_same | apply State.fitRow_same
    | split
    | with_reducible apply Same.mkF

theorem State.repairRows_same {A : Aspect → Prop} {s0 s : State} {k rows : _} (h : Same A s0 s) :
    Same A s0 (State.repairRows s k rows) := by
  unfold State.repairRows
  repeat' first
    | ((fail_if_success (conv => arg 2; fun)); extract_lets +onlyGivenNames y; clear_value (e : y = _); refine Same.letVar (A := A) (s0 := s0) e ?_ fun _ => ?_)
    | ((fail_if_success (conv => arg 2; fun)); extract_lets +onlyGivenNames y)
    | with_reducible first | assumption | apply State.setF_same | apply State.showLeft_same | apply State.handleRow_same | exact Same.ofF (by assumption) | refine Same.ofF (Same.foldlF ?_ fun _ _ _ => ?_) | apply Same.mkF

theorem State.iodOn_same {A : Aspect → Prop} (nD : ¬A .dom) {s0 s : State} (h : Same A s0 s) :
    Same A s0 (State.iodOn s) := by
  unfold State.iodOn
  repeat' first
    | ((fail_if_success (conv => arg 2; fun)); extract_lets +onlyGivenNames y; clear_value (e : y = _); refine Same.letVar (A := A) (s0 := s0) e ?_ fun _ => ?_)
    | ((fail_if_success (conv => arg 2; fun)); extract_lets +onlyGivenNames y)
    | with_reducible first | assumption | apply State.setF_same | apply State.setBit_same | apply State.turnOn_same nD
    | split

theorem State.bootFail_same {A : Aspect → Prop} (nM : ¬A .mem) (nD : ¬A .dom) (nL : ¬A .live) {s0 s : State} (h : Same A s0 s) :
    Same A s0 (State.bootFail s) := by
  unfold State.bootFail
  repeat' first
    | ((fail_if_success (conv => arg 2; fun)); extract_lets +onlyGivenNames y; clear_value (e : y = _); refine Same.letVar (A := A) (s0 := s0) e ?_ fun _ => ?_)
    | ((fail_if_success (conv => arg 2; fun)); extract_lets +onlyGivenNames y)
    | with_reducible first | assumption | apply State.sendStatus_same | apply State.iodOff_same nM nD nL | apply State.setModState_same | apply State.commandDrive_same | refine Same.record ?_ (fun _ => ⟨rfl, rfl⟩) (fun _ => rfl) (fun _ => rfl) (fun _ => rfl) fun _ => rfl

theorem State.diesFail_same {A : Aspect → Prop} (nM : ¬A .mem) (nD : ¬A .dom) (nL : ¬A .live) {s0 s : State} (h : Same A s0 s) :
    Same A s0 (State.diesFail s) := by
  unfold State.diesFail
  repeat' first
    | ((fail_if_success (conv => arg 2; fun)); extract_lets +onlyGivenNames y; clear_value (e : y = _); refine Same.letVar (A := A) (s0 := s0) e ?_ fun _ => ?_)
    | ((fail_if_success (conv => arg 2; fun)); extract_lets +onlyGivenNames y)
    | with_reducible first | assumption | apply State.sendStatus_same | apply State.computeOff_same nM nD nL | apply State.setModState_same | refine Same.record ?_ (fun _ => ⟨rfl, rfl⟩) (fun _ => rfl) (fun _ => rfl) (fun _ => rfl) fun _ => rfl

theorem State.computeOn_same {A : Aspect → Prop} (nM : ¬A .mem) (nD : ¬A .dom) (nL : ¬A .live) {s0 s : State} {t1 : _} (h : Same A s0 s) :
    SameF A s0 (State.computeOn s t1) := by
  unfold State.computeOn
  repeat' first
    | ((fail_if_success (conv => arg 2; fun)); extract_lets +onlyGivenNames y; clear_value (e : y = _); refine Same.letVar (A := A) (s0 := s0) e ?_ fun _ => ?_)
    | ((fail_if_success (conv => arg 2; fun)); extract_lets +onlyGivenNames y)
    | with_reducible first | assumption | apply State.setFlag_same | apply State.setApplied_same | apply State.divideCaps_same | apply State.coreOn_same nD | apply State.memOn_same nD | apply State.optOn_same nD | apply State.failDie_same nM nD nL | apply State.applyConfig_same nM nD nL | apply State.remapDie_same | apply State.testClusters_same | apply State.dieFirmware_same | apply State.trainStack_same | apply State.repairRows_same | apply State.bootFail_same nM nD nL | apply State.diesFail_same nM nD nL | refine Same.foldl ?_ fun _ _ _ => ?_ | refine Same.eqF (by assumption) ?_
    | with_reducible (refine Same.record ?_ (fun _ => ⟨rfl, rfl⟩) (fun _ => rfl) (fun _ => rfl) (fun _ => rfl) fun _ => rfl; first | assumption | apply State.setFlag_same | apply State.setApplied_same | apply State.divideCaps_same | apply State.coreOn_same nD | apply State.memOn_same nD | apply State.optOn_same nD | apply State.failDie_same nM nD nL | apply State.applyConfig_same nM nD nL | apply State.remapDie_same | apply State.testClusters_same | apply State.dieFirmware_same | apply State.trainStack_same | apply State.repairRows_same | apply State.bootFail_same nM nD nL | apply State.diesFail_same nM nD nL | refine Same.foldl ?_ fun _ _ _ => ?_ | refine Same.eqF (by assumption) ?_)
    | split
    | with_reducible apply Same.mkF

/-! ### KilnOps -/

theorem State.klnEvent_same {A : Aspect → Prop} {s0 s : State} {code severity data rowCode : _} (h : Same A s0 s) :
    Same A s0 (State.klnEvent s code severity data rowCode) := by
  unfold State.klnEvent
  repeat' with_reducible first | assumption | apply State.post_same

theorem State.showHealth_same {A : Aspect → Prop} {s0 s : State} {k w : _} (h : Same A s0 s) :
    Same A s0 (State.showHealth s k w) := by
  unfold State.showHealth
  repeat' first
    | ((fail_if_success (conv => arg 2; fun)); extract_lets +onlyGivenNames y)
    | with_reducible first | assumption | apply State.setFlag_same | refine Same.foldl ?_ fun _ _ _ => ?_

theorem State.setHealthBit_same {A : Aspect → Prop} {s0 s : State} {k b v : _} (h : Same A s0 s) :
    Same A s0 (State.setHealthBit s k b v) := by
  unfold State.setHealthBit
  repeat' first
    | ((fail_if_success (conv => arg 2; fun)); extract_lets +onlyGivenNames y; clear_value (e : y = _); refine Same.letVar (A := A) (s0 := s0) e ?_ fun _ => ?_)
    | ((fail_if_success (conv => arg 2; fun)); extract_lets +onlyGivenNames y)
    | with_reducible first | assumption | apply State.modKiln_same | apply State.showHealth_same
    | split

theorem State.evalHealth_same {A : Aspect → Prop} {s0 s : State} {k : _} (h : Same A s0 s) :
    Same A s0 (State.evalHealth s k) := by
  unfold State.evalHealth
  repeat' first
    | with_reducible first | assumption | apply State.modKiln_same
    | split

theorem State.setAge_same {A : Aspect → Prop} {s0 s : State} {k age : _} (h : Same A s0 s) :
    Same A s0 (State.setAge s k age) := by
  unfold State.setAge
  repeat' first
    | ((fail_if_success (conv => arg 2; fun)); extract_lets +onlyGivenNames y)
    | with_reducible first | assumption | apply State.modKiln_same | apply State.setHealthBit_same

theorem State.showStandby_same {A : Aspect → Prop} {s0 s : State} {k : _} (h : Same A s0 s) :
    Same A s0 (State.showStandby s k) := by
  unfold State.showStandby
  repeat' first
    | ((fail_if_success (conv => arg 2; fun)); extract_lets +onlyGivenNames y; clear_value (e : y = _); refine Same.letVar (A := A) (s0 := s0) e ?_ fun _ => ?_)
    | ((fail_if_success (conv => arg 2; fun)); extract_lets +onlyGivenNames y)
    | with_reducible first | assumption | apply State.setF_same | apply State.setFlag_same | apply State.klnEvent_same | apply State.showHealth_same
    | with_reducible (refine Same.record ?_ (fun _ => ⟨rfl, rfl⟩) (fun _ => rfl) (fun _ => rfl) (fun _ => rfl) fun _ => rfl; first | assumption | apply State.setF_same | apply State.setFlag_same | apply State.klnEvent_same | apply State.showHealth_same)
    | split

theorem State.becomeStandby_same {A : Aspect → Prop} {s0 s : State} {k : _} (h : Same A s0 s) :
    Same A s0 (State.becomeStandby s k) := by
  unfold State.becomeStandby
  repeat' first
    | ((fail_if_success (conv => arg 2; fun)); extract_lets +onlyGivenNames y; clear_value (e : y = _); refine Same.letVar (A := A) (s0 := s0) e ?_ fun _ => ?_)
    | ((fail_if_success (conv => arg 2; fun)); extract_lets +onlyGivenNames y)
    | with_reducible first | assumption | apply State.setF_same | apply State.modKiln_same

theorem State.loseEngine_same {A : Aspect → Prop} {s0 s : State} {k : _} (h : Same A s0 s) :
    Same A s0 (State.loseEngine s k) := by
  unfold State.loseEngine
  repeat' first
    | ((fail_if_success (conv => arg 2; fun)); extract_lets +onlyGivenNames y; clear_value (e : y = _); refine Same.letVar (A := A) (s0 := s0) e ?_ fun _ => ?_)
    | ((fail_if_success (conv => arg 2; fun)); extract_lets +onlyGivenNames y)
    | with_reducible first | assumption | apply State.withRegs_same | apply State.withRowCtl_same
    | with_reducible (refine Same.record ?_ (fun _ => ⟨rfl, rfl⟩) (fun _ => rfl) (fun _ => rfl) (fun _ => rfl) fun _ => rfl; first | assumption | apply State.withRegs_same | apply State.withRowCtl_same)
    | split

theorem State.startRestart_same {A : Aspect → Prop} {s0 s : State} {k cause : _} (h : Same A s0 s) :
    Same A s0 (State.startRestart s k cause) := by
  unfold State.startRestart
  repeat' first
    | ((fail_if_success (conv => arg 2; fun)); extract_lets +onlyGivenNames y; clear_value (e : y = _); refine Same.letVar (A := A) (s0 := s0) e ?_ fun _ => ?_)
    | ((fail_if_success (conv => arg 2; fun)); extract_lets +onlyGivenNames y)
    | with_reducible first | assumption | apply State.setF_same | apply State.addSat_same | apply State.modKiln_same | apply State.klnEvent_same | apply State.showHealth_same | apply State.loseEngine_same | refine Same.record ?_ (fun _ => ⟨rfl, rfl⟩) (fun _ => rfl) (fun _ => rfl) (fun _ => rfl) fun _ => rfl

theorem State.mbxRespond_same {A : Aspect → Prop} {s0 s : State} {status data : _} (h : Same A s0 s) :
    Same A s0 (State.mbxRespond s status data) := by
  unfold State.mbxRespond
  repeat' first
    | ((fail_if_success (conv => arg 2; fun)); extract_lets +onlyGivenNames y; clear_value (e : y = _); refine Same.letVar (A := A) (s0 := s0) e ?_ fun _ => ?_)
    | ((fail_if_success (conv => arg 2; fun)); extract_lets +onlyGivenNames y)
    | with_reducible first | assumption | apply State.setF_same | apply State.raiseIrq_same | refine Same.foldl ?_ fun _ _ _ => ?_ | refine Same.record ?_ (fun _ => ⟨rfl, rfl⟩) (fun _ => rfl) (fun _ => rfl) (fun _ => rfl) fun _ => rfl

theorem State.mbxRan_same {A : Aspect → Prop} {s0 s : State} {status data : _} (h : Same A s0 s) :
    Same A s0 (State.mbxRan s status data) := by
  unfold State.mbxRan
  repeat' first
    | ((fail_if_success (conv => arg 2; fun)); extract_lets +onlyGivenNames y)
    | with_reducible first | assumption | refine Same.record ?_ (fun _ => ⟨rfl, rfl⟩) (fun _ => rfl) (fun _ => rfl) (fun _ => rfl) fun _ => rfl

theorem State.configShown_same {A : Aspect → Prop} {s0 s : State} {src hdr : _} (h : Same A s0 s) :
    Same A s0 (State.configShown s src hdr) := by
  unfold State.configShown
  repeat' first
    | ((fail_if_success (conv => arg 2; fun)); extract_lets +onlyGivenNames y; clear_value (e : y = _); refine Same.letVar (A := A) (s0 := s0) e ?_ fun _ => ?_)
    | ((fail_if_success (conv => arg 2; fun)); extract_lets +onlyGivenNames y)
    | with_reducible first | assumption | apply State.setF_same | refine Same.record ?_ (fun _ => ⟨rfl, rfl⟩) (fun _ => rfl) (fun _ => rfl) (fun _ => rfl) fun _ => rfl

theorem State.configCommit_same {A : Aspect → Prop} (nM : ¬A .mem) (nD : ¬A .dom) (nL : ¬A .live) {s0 s : State} (h : Same A s0 s) :
    Same A s0 (State.configCommit s) := by
  unfold State.configCommit
  repeat' first
    | ((fail_if_success (conv => arg 2; fun)); extract_lets +onlyGivenNames y; clear_value (e : y = _); refine Same.letVar (A := A) (s0 := s0) e ?_ fun _ => ?_)
    | ((fail_if_success (conv => arg 2; fun)); extract_lets +onlyGivenNames y)
    | with_reducible first | assumption | apply State.applyConfig_same nM nD nL | apply State.mbxRan_same | apply State.configShown_same | refine Same.eqF (by assumption) ?_
    | with_reducible (refine Same.record ?_ (fun _ => ⟨rfl, rfl⟩) (fun _ => rfl) (fun _ => rfl) (fun _ => rfl) fun _ => rfl; first | assumption | apply State.applyConfig_same nM nD nL | apply State.mbxRan_same | apply State.configShown_same | refine Same.eqF (by assumption) ?_)
    | split

theorem State.showProgress_same {A : Aspect → Prop} {s0 s : State} (h : Same A s0 s) :
    Same A s0 (State.showProgress s) := by
  unfold State.showProgress
  repeat' first
    | ((fail_if_success (conv => arg 2; fun)); extract_lets +onlyGivenNames y)
    | with_reducible first | assumption | apply State.setF_same | refine Same.ofG (State.fresh_same ?_)
    | split

theorem State.mbxUndo_same {A : Aspect → Prop} {s0 s : State} (h : Same A s0 s) :
    Same A s0 (State.mbxUndo s) := by
  unfold State.mbxUndo
  repeat' first
    | ((fail_if_success (conv => arg 2; fun)); extract_lets +onlyGivenNames y)
    | with_reducible first | assumption
    | with_reducible (refine Same.record ?_ (fun _ => ⟨rfl, rfl⟩) (fun _ => rfl) (fun _ => rfl) (fun _ => rfl) fun _ => rfl; first | assumption)
    | split

theorem State.mbxHandover_same {A : Aspect → Prop} {s0 s : State} (h : Same A s0 s) :
    Same A s0 (State.mbxHandover s) := by
  unfold State.mbxHandover
  repeat' first
    | ((fail_if_success (conv => arg 2; fun)); extract_lets +onlyGivenNames y)
    | with_reducible first | assumption | apply State.mbxRespond_same | apply State.mbxUndo_same
    | split

theorem State.hotNKiln_same {A : Aspect → Prop} (nM : ¬A .mem) {s0 s : State} {d stack : _} (h : Same A s0 s) :
    Same A s0 (State.hotNKiln s d stack) := by
  unfold State.hotNKiln
  repeat' first
    | ((fail_if_success (conv => arg 2; fun)); extract_lets +onlyGivenNames y; clear_value (e : y = _); refine Same.letVar (A := A) (s0 := s0) e ?_ fun _ => ?_)
    | ((fail_if_success (conv => arg 2; fun)); extract_lets +onlyGivenNames y)
    | with_reducible first | assumption | apply State.post_same | apply State.floorFall_same | apply State.alarmNow_same | apply State.quiesceNow_same nM

theorem State.hotNPending_same {A : Aspect → Prop} (nM : ¬A .mem) {s0 s : State} (h : Same A s0 s) :
    Same A s0 (State.hotNPending s) := by
  unfold State.hotNPending
  repeat' first
    | with_reducible first | assumption | apply State.hotNKiln_same nM
    | split

theorem State.cutFrames_same {A : Aspect → Prop} {s0 s : State} (h : Same A s0 s) :
    Same A s0 (State.cutFrames s) := by
  unfold State.cutFrames
  repeat' first
    | ((fail_if_success (conv => arg 2; fun)); extract_lets +onlyGivenNames y)
    | with_reducible first | assumption | refine Same.record ?_ (fun _ => ⟨rfl, rfl⟩) (fun _ => rfl) (fun _ => rfl) (fun _ => rfl) fun _ => rfl

theorem State.toNone_same {A : Aspect → Prop} (nO : ¬A .own) {s0 s : State} {cause : _} (h : Same A s0 s) :
    Same A s0 (State.toNone s cause) := by
  unfold State.toNone
  repeat' first
    | ((fail_if_success (conv => arg 2; fun)); extract_lets +onlyGivenNames y; clear_value (e : y = _); refine Same.letVar (A := A) (s0 := s0) e ?_ fun _ => ?_)
    | ((fail_if_success (conv => arg 2; fun)); extract_lets +onlyGivenNames y)
    | with_reducible first | assumption | apply State.stopSlices_same | apply State.cutFrames_same
    | with_reducible (refine Same.record ?_ (fun _ => ⟨rfl, rfl⟩) (fun _ => rfl) (fun _ => rfl) (fun x => absurd x nO) fun _ => rfl; first | assumption | apply State.stopSlices_same | apply State.cutFrames_same)
    | split

theorem State.goStale_same {A : Aspect → Prop} {s0 s : State} {k : _} (h : Same A s0 s) :
    Same A s0 (State.goStale s k) := by
  unfold State.goStale
  repeat' first
    | ((fail_if_success (conv => arg 2; fun)); extract_lets +onlyGivenNames y; clear_value (e : y = _); refine Same.letVar (A := A) (s0 := s0) e ?_ fun _ => ?_)
    | ((fail_if_success (conv => arg 2; fun)); extract_lets +onlyGivenNames y)
    | with_reducible first | assumption | apply State.setApplied_same | apply State.divideCaps_same | apply State.enterTable_same | refine Same.foldl ?_ fun _ _ _ => ?_
    | split

theorem State.cleHandover_same {A : Aspect → Prop} {s0 s : State} {k : _} (h : Same A s0 s) :
    Same A s0 (State.cleHandover s k) := by
  unfold State.cleHandover
  repeat' first
    | ((fail_if_success (conv => arg 2; fun)); extract_lets +onlyGivenNames y)
    | with_reducible first | assumption | apply State.setF_same
    | split

theorem State.noOwnerEnd_same {A : Aspect → Prop} {s0 s : State} (h : Same A s0 s) :
    Same A s0 (State.noOwnerEnd s) := by
  unfold State.noOwnerEnd
  repeat' first
    | ((fail_if_success (conv => arg 2; fun)); extract_lets +onlyGivenNames y)
    | with_reducible first | assumption | apply State.setF_same | refine Same.ofG (State.fresh_same ?_) | apply State.liftQuiesce_same | apply State.klnEvent_same
    | split

theorem State.grantOwn_same {A : Aspect → Prop} (nO : ¬A .own) {s0 s : State} {k : _} (h : Same A s0 s) :
    Same A s0 (State.grantOwn s k) := by
  unfold State.grantOwn
  repeat' first
    | ((fail_if_success (conv => arg 2; fun)); extract_lets +onlyGivenNames y; clear_value (e : y = _); refine Same.letVar (A := A) (s0 := s0) e ?_ fun _ => ?_)
    | ((fail_if_success (conv => arg 2; fun)); extract_lets +onlyGivenNames y)
    | with_reducible first | assumption | apply State.setF_same | apply State.alertClear_same | apply State.showHealth_same | apply State.setAge_same | refine Same.record ?_ (fun _ => ⟨rfl, rfl⟩) (fun _ => rfl) (fun _ => rfl) (fun x => absurd x nO) fun _ => rfl

theorem State.swapEngines_same {A : Aspect → Prop} {s0 s : State} (h : Same A s0 s) :
    Same A s0 (State.swapEngines s) := by
  unfold State.swapEngines
  repeat' first
    | ((fail_if_success (conv => arg 2; fun)); extract_lets +onlyGivenNames y; clear_value (e : y = _); refine Same.letVar (A := A) (s0 := s0) e ?_ fun _ => ?_)
    | ((fail_if_success (conv => arg 2; fun)); extract_lets +onlyGivenNames y)
    | with_reducible first | assumption | apply State.withRegs_same | refine Same.record ?_ (fun _ => ⟨rfl, rfl⟩) (fun _ => rfl) (fun _ => rfl) (fun _ => rfl) fun _ => rfl

theorem State.swapRows_same {A : Aspect → Prop} {s0 s : State} {buffers : _} (h : Same A s0 s) :
    Same A s0 (State.swapRows s buffers) := by
  unfold State.swapRows
  repeat' first
    | ((fail_if_success (conv => arg 2; fun)); extract_lets +onlyGivenNames y; clear_value (e : y = _); refine Same.letVar (A := A) (s0 := s0) e ?_ fun _ => ?_)
    | ((fail_if_success (conv => arg 2; fun)); extract_lets +onlyGivenNames y)
    | with_reducible first | assumption | apply State.withRowCtl_same | refine Same.record ?_ (fun _ => ⟨rfl, rfl⟩) (fun _ => rfl) (fun _ => rfl) (fun _ => rfl) fun _ => rfl

theorem State.loopsFrom_same {A : Aspect → Prop} {s0 s : State} {f : _} (h : Same A s0 s) :
    Same A s0 (State.loopsFrom s f) := by
  unfold State.loopsFrom
  repeat' first
    | ((fail_if_success (conv => arg 2; fun)); extract_lets +onlyGivenNames y; clear_value (e : y = _); refine Same.letVar (A := A) (s0 := s0) e ?_ fun _ => ?_)
    | ((fail_if_success (conv => arg 2; fun)); extract_lets +onlyGivenNames y)
    | with_reducible first | assumption | apply State.setF_same | apply State.modLoop_same | refine Same.foldl ?_ fun _ _ _ => ?_

theorem State.tablesFrom_same {A : Aspect → Prop} {s0 s : State} {f cells : _} (h : Same A s0 s) :
    Same A s0 (State.tablesFrom s f cells) := by
  unfold State.tablesFrom
  repeat' first
    | ((fail_if_success (conv => arg 2; fun)); extract_lets +onlyGivenNames y)
    | with_reducible first | assumption | apply State.withRegs_same | refine Same.record ?_ (fun _ => ⟨rfl, rfl⟩) (fun _ => rfl) (fun _ => rfl) (fun _ => rfl) fun _ => rfl

theorem State.capsFrom_same {A : Aspect → Prop} {s0 s : State} {f : _} (h : Same A s0 s) :
    Same A s0 (State.capsFrom s f) := by
  unfold State.capsFrom
  repeat' first
    | ((fail_if_success (conv => arg 2; fun)); extract_lets +onlyGivenNames y; clear_value (e : y = _); refine Same.letVar (A := A) (s0 := s0) e ?_ fun _ => ?_)
    | ((fail_if_success (conv => arg 2; fun)); extract_lets +onlyGivenNames y)
    | with_reducible first | assumption | apply State.modDie_same | apply State.setApplied_same | apply State.setThermal_same | refine Same.foldl ?_ fun _ _ _ => ?_
    | split

theorem State.drainFrom_same {A : Aspect → Prop} {s0 s : State} {f : _} (h : Same A s0 s) :
    Same A s0 (State.drainFrom s f) := by
  unfold State.drainFrom
  repeat' first
    | ((fail_if_success (conv => arg 2; fun)); extract_lets +onlyGivenNames y)
    | with_reducible first | assumption | apply State.settle_same
    | with_reducible (refine Same.record ?_ (fun _ => ⟨rfl, rfl⟩) (fun _ => rfl) (fun _ => rfl) (fun _ => rfl) fun _ => rfl; first | assumption | apply State.settle_same)
    | split

theorem State.fromFrame_same {A : Aspect → Prop} {s0 s : State} {k : _} (h : Same A s0 s) :
    Same A s0 (State.fromFrame s k) := by
  unfold State.fromFrame
  repeat' first
    | ((fail_if_success (conv => arg 2; fun)); extract_lets +onlyGivenNames y; clear_value (e : y = _); refine Same.letVar (A := A) (s0 := s0) e ?_ fun _ => ?_)
    | ((fail_if_success (conv => arg 2; fun)); extract_lets +onlyGivenNames y)
    | with_reducible first | assumption | apply State.withRegs_same | apply State.sensCounts_same | apply State.refactor_same | apply State.swapRows_same | apply State.loopsFrom_same | apply State.tablesFrom_same | apply State.capsFrom_same | apply State.drainFrom_same
    | with_reducible (refine Same.record ?_ (fun _ => ⟨rfl, rfl⟩) (fun _ => rfl) (fun _ => rfl) (fun _ => rfl) fun _ => rfl; first | assumption | apply State.withRegs_same | apply State.sensCounts_same | apply State.refactor_same | apply State.swapRows_same | apply State.loopsFrom_same | apply State.tablesFrom_same | apply State.capsFrom_same | apply State.drainFrom_same)
    | split

theorem State.takeOver_same {A : Aspect → Prop} (nM : ¬A .mem) (nO : ¬A .own) {s0 s : State} {k : _} (h : Same A s0 s) :
    Same A s0 (State.takeOver s k) := by
  unfold State.takeOver
  repeat' first
    | ((fail_if_success (conv => arg 2; fun)); extract_lets +onlyGivenNames y; clear_value (e : y = _); refine Same.letVar (A := A) (s0 := s0) e ?_ fun _ => ?_)
    | ((fail_if_success (conv => arg 2; fun)); extract_lets +onlyGivenNames y)
    | with_reducible first | assumption | apply State.setF_same | apply State.addSat_same | apply State.caskTakeover_same | apply State.postOwed_same | apply State.refactor_same | apply State.klnEvent_same | apply State.startRestart_same | apply State.mbxHandover_same | apply State.hotNPending_same nM | apply State.goStale_same | apply State.cleHandover_same | apply State.noOwnerEnd_same | apply State.grantOwn_same nO | apply State.swapEngines_same | apply State.fromFrame_same
    | split

theorem State.release_same {A : Aspect → Prop} (nO : ¬A .own) {s0 s : State} {k cause : _} (h : Same A s0 s) :
    Same A s0 (State.release s k cause) := by
  unfold State.release
  repeat' first
    | ((fail_if_success (conv => arg 2; fun)); extract_lets +onlyGivenNames y; clear_value (e : y = _); refine Same.letVar (A := A) (s0 := s0) e ?_ fun _ => ?_)
    | ((fail_if_success (conv => arg 2; fun)); extract_lets +onlyGivenNames y)
    | with_reducible first | assumption | apply State.setF_same | apply State.modKiln_same | apply State.becomeStandby_same | apply State.startRestart_same | apply State.toNone_same nO
    | split

theorem State.startRows_same {A : Aspect → Prop} {s0 s : State} {k : _} (h : Same A s0 s) :
    Same A s0 (State.startRows s k) := by
  unfold State.startRows
  repeat' first
    | ((fail_if_success (conv => arg 2; fun)); extract_lets +onlyGivenNames y)
    | with_reducible first | assumption | apply State.portRestart_same | apply State.restartOther_same | refine Same.foldl ?_ fun _ _ _ => ?_
    | split

theorem State.bootKiln_same {A : Aspect → Prop} {s0 s : State} {k : _} (h : Same A s0 s) :
    Same A s0 (State.bootKiln s k) := by
  unfold State.bootKiln
  repeat' first
    | ((fail_if_success (conv => arg 2; fun)); extract_lets +onlyGivenNames y; clear_value (e : y = _); refine Same.letVar (A := A) (s0 := s0) e ?_ fun _ => ?_)
    | ((fail_if_success (conv => arg 2; fun)); extract_lets +onlyGivenNames y)
    | with_reducible first | assumption | apply State.setF_same | apply State.setFlag_same | apply State.post_same | apply State.modKiln_same | apply State.romLoad_same | apply State.showHealth_same | apply State.becomeStandby_same | apply State.startRows_same
    | split

/-! ### Coolant -/

theorem State.coolEvent_same {A : Aspect → Prop} {s0 s : State} {code severity data : _} (h : Same A s0 s) :
    Same A s0 (State.coolEvent s code severity data) := by
  unfold State.coolEvent
  repeat' with_reducible first | assumption | apply State.post_same

theorem State.warnChanged_same {A : Aspect → Prop} {s0 s : State} (h : Same A s0 s) :
    Same A s0 (State.warnChanged s) := by
  unfold State.warnChanged
  repeat' first
    | ((fail_if_success (conv => arg 2; fun)); extract_lets +onlyGivenNames y)
    | with_reducible first | assumption | apply State.sendWarn_same | apply State.coolEvent_same

theorem State.warnSet_same {A : Aspect → Prop} {s0 s : State} {b : _} (h : Same A s0 s) :
    Same A s0 (State.warnSet s b) := by
  unfold State.warnSet
  repeat' first
    | ((fail_if_success (conv => arg 2; fun)); extract_lets +onlyGivenNames y)
    | with_reducible first | assumption | apply State.setBit_same | apply State.warnChanged_same
    | split

theorem State.warnClear_same {A : Aspect → Prop} {s0 s : State} {b : _} (h : Same A s0 s) :
    Same A s0 (State.warnClear s b) := by
  unfold State.warnClear
  repeat' first
    | ((fail_if_success (conv => arg 2; fun)); extract_lets +onlyGivenNames y)
    | with_reducible first | assumption | apply State.clearBit_same | apply State.warnChanged_same
    | split

theorem State.substitute_same {A : Aspect → Prop} {s0 s : State} {id why : _} (h : Same A s0 s) :
    Same A s0 (State.substitute s id why) := by
  unfold State.substitute
  repeat' first
    | ((fail_if_success (conv => arg 2; fun)); extract_lets +onlyGivenNames y; clear_value (e : y = _); refine Same.letVar (A := A) (s0 := s0) e ?_ fun _ => ?_)
    | ((fail_if_success (conv => arg 2; fun)); extract_lets +onlyGivenNames y)
    | with_reducible first | assumption | apply State.setSens_same
    | split

theorem State.sensEvent_same {A : Aspect → Prop} {s0 s : State} {id why : _} (h : Same A s0 s) :
    Same A s0 (State.sensEvent s id why) := by
  unfold State.sensEvent
  repeat' first
    | with_reducible first | assumption | apply State.coolEvent_same
    | split

theorem execSensorSubstitute_same {A : Aspect → Prop} {s0 s : State} {ids why change silent : _} (h : Same A s0 s) :
    SameX A s0 (execSensorSubstitute ids why change silent s) := by
  unfold execSensorSubstitute
  repeat' first
    | ((fail_if_success (conv => arg 2; fun)); extract_lets +onlyGivenNames y; clear_value (e : y = _); refine Same.letVar (A := A) (s0 := s0) e ?_ fun _ => ?_)
    | ((fail_if_success (conv => arg 2; fun)); extract_lets +onlyGivenNames y)
    | with_reducible first | assumption | apply State.refresh_same | apply State.refactor_same | apply State.coolEvent_same | apply State.warnSet_same | apply State.substitute_same | apply State.sensEvent_same | apply Same.next | refine Same.foldl ?_ fun _ _ _ => ?_
    | split

theorem execSensorRestore_same {A : Aspect → Prop} {s0 s : State} {id : _} (h : Same A s0 s) :
    SameX A s0 (execSensorRestore id s) := by
  unfold execSensorRestore
  repeat' first
    | ((fail_if_success (conv => arg 2; fun)); extract_lets +onlyGivenNames y)
    | with_reducible first | assumption | apply State.setSens_same | apply State.refresh_same | apply State.refactor_same | apply State.coolEvent_same | apply Same.next
    | split

theorem State.setDisagree_same {A : Aspect → Prop} {s0 s : State} {id b : _} (h : Same A s0 s) :
    Same A s0 (State.setDisagree s id b) := by
  unfold State.setDisagree
  repeat' first
    | ((fail_if_success (conv => arg 2; fun)); extract_lets +onlyGivenNames y)
    | with_reducible first | assumption | apply State.setSens_same | refine Same.foldl ?_ fun _ _ _ => ?_

theorem execSensorDisagree_same {A : Aspect → Prop} {s0 s : State} {id diff : _} (h : Same A s0 s) :
    SameX A s0 (execSensorDisagree id diff s) := by
  unfold execSensorDisagree
  repeat' first
    | ((fail_if_success (conv => arg 2; fun)); extract_lets +onlyGivenNames y)
    | with_reducible first | assumption | apply State.addSat_same | apply State.coolEvent_same | apply State.setDisagree_same | apply Same.next
    | split

theorem execDisagreeClear_same {A : Aspect → Prop} {s0 s : State} {id : _} (h : Same A s0 s) :
    SameX A s0 (execDisagreeClear id s) := by
  unfold execDisagreeClear
  repeat' first
    | ((fail_if_success (conv => arg 2; fun)); extract_lets +onlyGivenNames y)
    | with_reducible first | assumption | apply State.setDisagree_same | apply Same.next
    | split

theorem execModelSuspectEnd_same {A : Aspect → Prop} {s0 s : State} {z : _} (h : Same A s0 s) :
    SameX A s0 (execModelSuspectEnd z s) := by
  unfold execModelSuspectEnd
  repeat' first
    | ((fail_if_success (conv => arg 2; fun)); extract_lets +onlyGivenNames y)
    | with_reducible first | assumption | apply State.refresh_same | apply State.refactor_same | apply Same.next
    | with_reducible (refine Same.record ?_ (fun _ => ⟨rfl, rfl⟩) (fun _ => rfl) (fun _ => rfl) (fun _ => rfl) fun _ => rfl; first | assumption | apply State.refresh_same | apply State.refactor_same | apply Same.next)
    | split

theorem State.sensQuery_same {A : Aspect → Prop} {s0 s : State} {id : _} (h : Same A s0 s) :
    Same A s0 (State.sensQuery s id) := by
  unfold State.sensQuery
  repeat' first
    | ((fail_if_success (conv => arg 2; fun)); extract_lets +onlyGivenNames y; clear_value (e : y = _); refine Same.letVar (A := A) (s0 := s0) e ?_ fun _ => ?_)
    | ((fail_if_success (conv => arg 2; fun)); extract_lets +onlyGivenNames y)
    | with_reducible first | assumption | apply State.setF_same | apply State.setFlag_same

theorem execSensQuery_same {A : Aspect → Prop} {s0 s : State} {id : _} (h : Same A s0 s) :
    SameX A s0 (execSensQuery id s) := by
  unfold execSensQuery
  repeat' first
    | ((fail_if_success (conv => arg 2; fun)); extract_lets +onlyGivenNames y)
    | with_reducible first | assumption | apply State.setF_same | apply State.sensQuery_same | apply Same.next
    | split

theorem execLeakSuspected_same {A : Aspect → Prop} {s0 s : State} {n st : _} (h : Same A s0 s) :
    SameX A s0 (execLeakSuspected n st s) := by
  unfold execLeakSuspected
  repeat' first
    | ((fail_if_success (conv => arg 2; fun)); extract_lets +onlyGivenNames y; clear_value (e : y = _); refine Same.letVar (A := A) (s0 := s0) e ?_ fun _ => ?_)
    | ((fail_if_success (conv => arg 2; fun)); extract_lets +onlyGivenNames y)
    | with_reducible first | assumption | apply State.setF_same | apply State.setBit_same | apply State.alertSet_same | apply State.refactor_same | apply State.alarmNow_same | apply State.coolEvent_same | apply Same.next
    | split

theorem execLeakSuspectEnd_same {A : Aspect → Prop} {s0 s : State} {n : _} (h : Same A s0 s) :
    SameX A s0 (execLeakSuspectEnd n s) := by
  unfold execLeakSuspectEnd
  repeat' first
    | ((fail_if_success (conv => arg 2; fun)); extract_lets +onlyGivenNames y; clear_value (e : y = _); refine Same.letVar (A := A) (s0 := s0) e ?_ fun _ => ?_)
    | ((fail_if_success (conv => arg 2; fun)); extract_lets +onlyGivenNames y)
    | with_reducible first | assumption | apply State.setF_same | apply State.clearBit_same | apply State.alertClear_same | apply State.refactor_same | apply State.allClear_same | apply Same.next
    | split

theorem execLeak_same {A : Aspect → Prop} (nM : ¬A .mem) {s0 s : State} {n rpm : _} (h : Same A s0 s) :
    SameX A s0 (execLeak n rpm s) := by
  unfold execLeak
  repeat' first
    | ((fail_if_success (conv => arg 2; fun)); extract_lets +onlyGivenNames y; clear_value (e : y = _); refine Same.letVar (A := A) (s0 := s0) e ?_ fun _ => ?_)
    | ((fail_if_success (conv => arg 2; fun)); extract_lets +onlyGivenNames y)
    | with_reducible first | assumption | apply State.setF_same | apply State.setBit_same | apply State.alertSet_same | apply State.floorFall_same | apply State.alarmNow_same | apply State.quiesceNow_same nM | apply State.commandDrive_same | apply State.coolEvent_same | apply Same.next
    | with_reducible (refine Same.record ?_ (fun _ => ⟨rfl, rfl⟩) (fun _ => rfl) (fun _ => rfl) (fun _ => rfl) fun _ => rfl; first | assumption | apply State.setF_same | apply State.setBit_same | apply State.alertSet_same | apply State.floorFall_same | apply State.alarmNow_same | apply State.quiesceNow_same nM | apply State.commandDrive_same | apply State.coolEvent_same | apply Same.next)
    | split

theorem State.leakClear_same {A : Aspect → Prop} {s0 s : State} {dry : _} (h : Same A s0 s) :
    Same A s0 (State.leakClear s dry) := by
  unfold State.leakClear
  repeat' first
    | ((fail_if_success (conv => arg 2; fun)); extract_lets +onlyGivenNames y; clear_value (e : y = _); refine Same.letVar (A := A) (s0 := s0) e ?_ fun _ => ?_)
    | ((fail_if_success (conv => arg 2; fun)); extract_lets +onlyGivenNames y)
    | with_reducible first | assumption | apply State.setF_same | apply State.alertClear_same | apply State.dropProtect_same | apply State.allClear_same | apply State.liftQuiesce_same
    | split

theorem execLeakClearWrite_same {A : Aspect → Prop} {s0 s : State} {dry : _} (h : Same A s0 s) :
    SameX A s0 (execLeakClearWrite dry s) := by
  unfold execLeakClearWrite
  repeat' first
    | ((fail_if_success (conv => arg 2; fun)); extract_lets +onlyGivenNames y)
    | with_reducible first | assumption | apply State.leakClear_same | apply Same.next
    | split

theorem execRefreshRateRise_same {A : Aspect → Prop} {s0 s : State} {k : _} (h : Same A s0 s) :
    SameX A s0 (execRefreshRateRise k s) := by
  unfold execRefreshRateRise
  repeat' first
    | ((fail_if_success (conv => arg 2; fun)); extract_lets +onlyGivenNames y)
    | with_reducible first | assumption | apply State.setF_same | apply Same.next
    | split

theorem execRefreshRateFall_same {A : Aspect → Prop} {s0 s : State} {k : _} (h : Same A s0 s) :
    SameX A s0 (execRefreshRateFall k s) := by
  unfold execRefreshRateFall
  repeat' first
    | ((fail_if_success (conv => arg 2; fun)); extract_lets +onlyGivenNames y)
    | with_reducible first | assumption | apply State.setF_same | apply Same.next
    | split

theorem execFlowLoss_same {A : Aspect → Prop} {s0 s : State} {readings : _} (h : Same A s0 s) :
    SameX A s0 (execFlowLoss readings s) := by
  unfold execFlowLoss
  refine Same.next (Same.ite ?_ h)
  have h1 := State.refresh_same (State.takeReadings_same (rs := readings) h)
  generalize State.refresh _ = t at h1 ⊢
  dsimp only
  refine Same.ite h1 ?_
  have h2 : Same A s0 { t with cool := { t.cool with returned := false } } := Same.record h1 (fun _ => ⟨rfl, rfl⟩) (fun _ => rfl) (fun _ => rfl) (fun _ => rfl) fun _ => rfl
  have h3 := State.setF_same (f := .cle .coolStatusProtectFlow) (i := 0) (v := 1) (State.floorFall_same (cause := 1) h2)
  generalize State.setF _ (.cle .coolStatusProtectFlow) 0 1 = u at h3 ⊢
  have h4 := Same.ite (c := u.flag (.cle .coolStatusLeak) = true) h3
    (State.commandDrive_same (valves := List.replicate 8 openCode) (rpm := 9000) (pumpEn := 3) h3)
  generalize (if u.flag (.cle .coolStatusLeak) = true then u else _) = v at h4 ⊢
  have h5 := Same.ite (c := v.getF (.cle .coolStatusState) = 0) (State.setF_same (f := .cle .coolStatusState) (i := 0) (v := 1) h4) h4
  generalize (if v.getF (.cle .coolStatusState) = 0 then _ else v) = w at h5 ⊢
  exact State.alarmNow_same (State.coolEvent_same (State.alertSet_same (State.addSat_same h5)))

theorem execFlowLossQuiesce_same {A : Aspect → Prop} (nM : ¬A .mem) {s0 s : State} (h : Same A s0 s) :
    SameX A s0 (execFlowLossQuiesce s) := by
  unfold execFlowLossQuiesce
  repeat' first
    | ((fail_if_success (conv => arg 2; fun)); extract_lets +onlyGivenNames y)
    | with_reducible first | assumption | apply State.setF_same | apply State.addSat_same | apply State.quiesceNow_same nM | apply Same.next
    | split

theorem execFlowLossPowerDown_same {A : Aspect → Prop} (nM : ¬A .mem) (nD : ¬A .dom) (nL : ¬A .live) {s0 s : State} (h : Same A s0 s) :
    SameX A s0 (execFlowLossPowerDown s) := by
  unfold execFlowLossPowerDown
  repeat' first
    | ((fail_if_success (conv => arg 2; fun)); extract_lets +onlyGivenNames y)
    | with_reducible first | assumption | apply State.setF_same | apply State.computeOff_same nM nD nL | apply Same.next
    | split

theorem execFlowReturned_same {A : Aspect → Prop} (nM : ¬A .mem) (nD : ¬A .dom) (nL : ¬A .live) {s0 s : State} {tests : _} (h : Same A s0 s) :
    SameX A s0 (execFlowReturned tests s) := by
  unfold execFlowReturned
  repeat' first
    | ((fail_if_success (conv => arg 2; fun)); extract_lets +onlyGivenNames y; clear_value (e : y = _); refine Same.letVar (A := A) (s0 := s0) e ?_ fun _ => ?_)
    | ((fail_if_success (conv => arg 2; fun)); extract_lets +onlyGivenNames y)
    | with_reducible first | assumption | apply State.setF_same | apply State.alertClear_same | apply State.dropProtect_same | apply State.alarmNow_same | apply State.allClear_same | refine Same.ofF (State.computeOn_same nM nD nL ?_) | apply State.coolEvent_same | apply Same.next
    | with_reducible (refine Same.record ?_ (fun _ => ⟨rfl, rfl⟩) (fun _ => rfl) (fun _ => rfl) (fun _ => rfl) fun _ => rfl; first | assumption | apply State.setF_same | apply State.alertClear_same | apply State.dropProtect_same | apply State.alarmNow_same | apply State.allClear_same | refine Same.ofF (State.computeOn_same nM nD nL ?_) | apply State.coolEvent_same | apply Same.next)
    | split

theorem State.coolantLifted_same {A : Aspect → Prop} {s0 s : State} (h : Same A s0 s) :
    Same A s0 (State.coolantLifted s) := by
  unfold State.coolantLifted
  repeat' first
    | ((fail_if_success (conv => arg 2; fun)); extract_lets +onlyGivenNames y; clear_value (e : y = _); refine Same.letVar (A := A) (s0 := s0) e ?_ fun _ => ?_)
    | ((fail_if_success (conv => arg 2; fun)); extract_lets +onlyGivenNames y)
    | with_reducible first | assumption | apply State.liftQuiesce_same | apply State.coolEvent_same
    | split

theorem execQuiesceLifted_same {A : Aspect → Prop} {s0 s : State} (h : Same A s0 s) :
    SameX A s0 (execQuiesceLifted s) := by
  unfold execQuiesceLifted
  repeat' first
    | ((fail_if_success (conv => arg 2; fun)); extract_lets +onlyGivenNames y)
    | with_reducible first | assumption | apply State.setF_same | apply State.alertClear_same | apply State.allClear_same | apply State.coolantLifted_same | apply Same.next
    | split

theorem execCoolantWarn_same {A : Aspect → Prop} {s0 s : State} {bit : _} (h : Same A s0 s) :
    SameX A s0 (execCoolantWarn bit s) := by
  unfold execCoolantWarn
  repeat' first
    | ((fail_if_success (conv => arg 2; fun)); extract_lets +onlyGivenNames y)
    | with_reducible first | assumption | apply State.warnSet_same | apply Same.next
    | split

theorem execCoolantWarnClear_same {A : Aspect → Prop} {s0 s : State} {bit : _} (h : Same A s0 s) :
    SameX A s0 (execCoolantWarnClear bit s) := by
  unfold execCoolantWarnClear
  repeat' first
    | ((fail_if_success (conv => arg 2; fun)); extract_lets +onlyGivenNames y)
    | with_reducible first | assumption | apply State.warnClear_same | apply Same.next
    | split

theorem execCoolantWarnRepeat_same {A : Aspect → Prop} {s0 s : State} (h : Same A s0 s) :
    SameX A s0 (execCoolantWarnRepeat s) := by
  unfold execCoolantWarnRepeat
  repeat' first
    | ((fail_if_success (conv => arg 2; fun)); extract_lets +onlyGivenNames y)
    | with_reducible first | assumption | apply State.served_same | apply State.sendWarn_same | apply Same.next
    | split

theorem execCondensation_same {A : Aspect → Prop} {s0 s : State} (h : Same A s0 s) :
    SameX A s0 (execCondensation s) := by
  unfold execCondensation
  repeat' first
    | ((fail_if_success (conv => arg 2; fun)); extract_lets +onlyGivenNames y)
    | with_reducible first | assumption | apply State.warnSet_same | apply Same.next
    | split

theorem execCondensationClear_same {A : Aspect → Prop} {s0 s : State} (h : Same A s0 s) :
    SameX A s0 (execCondensationClear s) := by
  unfold execCondensationClear
  repeat' first
    | ((fail_if_success (conv => arg 2; fun)); extract_lets +onlyGivenNames y)
    | with_reducible first | assumption | apply State.warnClear_same | apply Same.next
    | split

theorem execOverpressure_same {A : Aspect → Prop} {s0 s : State} {kpa : _} (h : Same A s0 s) :
    SameX A s0 (execOverpressure kpa s) := by
  unfold execOverpressure
  repeat' first
    | ((fail_if_success (conv => arg 2; fun)); extract_lets +onlyGivenNames y; clear_value (e : y = _); refine Same.letVar (A := A) (s0 := s0) e ?_ fun _ => ?_)
    | ((fail_if_success (conv => arg 2; fun)); extract_lets +onlyGivenNames y)
    | with_reducible first | assumption | apply State.alarmNow_same | apply State.commandDrive_same | apply State.coolEvent_same | apply Same.next
    | with_reducible (refine Same.record ?_ (fun _ => ⟨rfl, rfl⟩) (fun _ => rfl) (fun _ => rfl) (fun _ => rfl) fun _ => rfl; first | assumption | apply State.alarmNow_same | apply State.commandDrive_same | apply State.coolEvent_same | apply Same.next)
    | split

theorem execHotN_same {A : Aspect → Prop} (nM : ¬A .mem) {s0 s : State} {d stack : _} (h : Same A s0 s) :
    SameX A s0 (execHotN d stack s) := by
  unfold execHotN
  repeat' first
    | ((fail_if_success (conv => arg 2; fun)); extract_lets +onlyGivenNames y; clear_value (e : y = _); refine Same.letVar (A := A) (s0 := s0) e ?_ fun _ => ?_)
    | ((fail_if_success (conv => arg 2; fun)); extract_lets +onlyGivenNames y)
    | with_reducible first | assumption | apply State.setF_same | apply State.setFlag_same | apply State.stopSlices_same | apply State.applyDrive_same | apply State.hotNKiln_same nM | apply Same.next
    | with_reducible (refine Same.record ?_ (fun _ => ⟨rfl, rfl⟩) (fun _ => rfl) (fun _ => rfl) (fun _ => rfl) fun _ => rfl; first | assumption | apply State.setF_same | apply State.setFlag_same | apply State.stopSlices_same | apply State.applyDrive_same | apply State.hotNKiln_same nM | apply Same.next)
    | split

theorem execHotNClear_same {A : Aspect → Prop} {s0 s : State} (h : Same A s0 s) :
    SameX A s0 (execHotNClear s) := by
  unfold execHotNClear
  repeat' first
    | ((fail_if_success (conv => arg 2; fun)); extract_lets +onlyGivenNames y; clear_value (e : y = _); refine Same.letVar (A := A) (s0 := s0) e ?_ fun _ => ?_)
    | ((fail_if_success (conv => arg 2; fun)); extract_lets +onlyGivenNames y)
    | with_reducible first | assumption | apply State.setF_same | apply State.dropProtect_same | apply State.alarmNow_same | apply State.allClear_same | apply State.applyDrive_same | apply State.coolEvent_same | apply State.coolantLifted_same | apply Same.next
    | with_reducible (refine Same.record ?_ (fun _ => ⟨rfl, rfl⟩) (fun _ => rfl) (fun _ => rfl) (fun _ => rfl) fun _ => rfl; first | assumption | apply State.setF_same | apply State.dropProtect_same | apply State.alarmNow_same | apply State.allClear_same | apply State.applyDrive_same | apply State.coolEvent_same | apply State.coolantLifted_same | apply Same.next)
    | split

/-! ### Power -/

theorem State.bootAt_same {A : Aspect → Prop} {s0 s : State} {b : _} (h : Same A s0 s) :
    Same A s0 (State.bootAt s b) := by
  unfold State.bootAt
  repeat' first
    | ((fail_if_success (conv => arg 2; fun)); extract_lets +onlyGivenNames y)
    | with_reducible first | assumption | refine Same.record ?_ (fun _ => ⟨rfl, rfl⟩) (fun _ => rfl) (fun _ => rfl) (fun _ => rfl) fun _ => rfl

theorem State.setRetried_same {A : Aspect → Prop} {s0 s : State} {b : _} (h : Same A s0 s) :
    Same A s0 (State.setRetried s b) := by
  unfold State.setRetried
  repeat' first
    | ((fail_if_success (conv => arg 2; fun)); extract_lets +onlyGivenNames y)
    | with_reducible first | assumption | refine Same.record ?_ (fun _ => ⟨rfl, rfl⟩) (fun _ => rfl) (fun _ => rfl) (fun _ => rfl) fun _ => rfl

theorem State.powerEvent_same {A : Aspect → Prop} {s0 s : State} {code severity data : _} (h : Same A s0 s) :
    Same A s0 (State.powerEvent s code severity data) := by
  unfold State.powerEvent
  repeat' with_reducible first | assumption | apply State.post_same

theorem State.setBoth_same {A : Aspect → Prop} (nL : ¬A .live) {s0 s : State} {f i v : _} (h : Same A s0 s) :
    Same A s0 (State.setBoth s f i v) := by
  unfold State.setBoth
  repeat' first
    | ((fail_if_success (conv => arg 2; fun)); extract_lets +onlyGivenNames y)
    | with_reducible first | assumption | apply State.setF_same | apply State.setLive_same nL

theorem State.takeStraps_same {A : Aspect → Prop} {s0 s : State} {p : _} (h : Same A s0 s) :
    Same A s0 (State.takeStraps s p) := by
  unfold State.takeStraps
  repeat' first
    | ((fail_if_success (conv => arg 2; fun)); extract_lets +onlyGivenNames y; clear_value (e : y = _); refine Same.letVar (A := A) (s0 := s0) e ?_ fun _ => ?_)
    | ((fail_if_success (conv => arg 2; fun)); extract_lets +onlyGivenNames y)
    | with_reducible first | assumption | apply State.setF_same | apply State.setFlag_same | apply State.alertSet_same | apply State.unnamedRecord_same
    | split

theorem State.takeCeiling_same {A : Aspect → Prop} {s0 s : State} (h : Same A s0 s) :
    Same A s0 (State.takeCeiling s) := by
  unfold State.takeCeiling
  repeat' first
    | ((fail_if_success (conv => arg 2; fun)); extract_lets +onlyGivenNames y)
    | with_reducible first | assumption | apply State.setF_same

theorem State.showIdent_same {A : Aspect → Prop} {s0 s : State} (h : Same A s0 s) :
    Same A s0 (State.showIdent s) := by
  unfold State.showIdent
  repeat' first
    | ((fail_if_success (conv => arg 2; fun)); extract_lets +onlyGivenNames y)
    | with_reducible first | assumption | apply State.setF_same | refine Same.foldl ?_ fun _ _ _ => ?_

theorem State.caskDefaults_same {A : Aspect → Prop} (nL : ¬A .live) {s0 s : State} (h : Same A s0 s) :
    Same A s0 (State.caskDefaults s) := by
  unfold State.caskDefaults
  repeat' first
    | ((fail_if_success (conv => arg 2; fun)); extract_lets +onlyGivenNames y; clear_value (e : y = _); refine Same.letVar (A := A) (s0 := s0) e ?_ fun _ => ?_)
    | ((fail_if_success (conv => arg 2; fun)); extract_lets +onlyGivenNames y)
    | with_reducible first | assumption | apply State.setBoth_same nL | refine Same.foldl ?_ fun _ _ _ => ?_ | refine Same.record ?_ (fun _ => ⟨rfl, rfl⟩) (fun _ => rfl) (fun _ => rfl) (fun _ => rfl) fun _ => rfl

theorem State.readInventory_same {A : Aspect → Prop} {s0 s : State} (h : Same A s0 s) :
    Same A s0 (State.readInventory s) := by
  unfold State.readInventory
  repeat' first
    | ((fail_if_success (conv => arg 2; fun)); extract_lets +onlyGivenNames y; clear_value (e : y = _); refine Same.letVar (A := A) (s0 := s0) e ?_ fun _ => ?_)
    | ((fail_if_success (conv => arg 2; fun)); extract_lets +onlyGivenNames y)
    | with_reducible first | assumption | apply State.modCl_same | apply State.setAbsent_same | apply State.showLeft_same | refine Same.foldl ?_ fun _ _ _ => ?_ | refine Same.record ?_ (fun _ => ⟨rfl, rfl⟩) (fun _ => rfl) (fun _ => rfl) (fun _ => rfl) fun _ => rfl

theorem State.tryConfig_same {A : Aspect → Prop} {s0 s : State} {p : _} (h : Same A s0 s) :
    SameF A s0 (State.tryConfig s p) := by
  unfold State.tryConfig
  repeat' first
    | ((fail_if_success (conv => arg 2; fun)); extract_lets +onlyGivenNames y; clear_value (e : y = _); refine Same.letVar (A := A) (s0 := s0) e ?_ fun _ => ?_)
    | ((fail_if_success (conv => arg 2; fun)); extract_lets +onlyGivenNames y)
    | with_reducible first | assumption | apply State.lastVerify_same | apply State.verifiedEvent_same
    | split
    | with_reducible apply Same.mkF

theorem State.chooseConfig_same {A : Aspect → Prop} {s0 s : State} {p : _} (h : Same A s0 s) :
    Same A s0 (State.chooseConfig s p) := by
  unfold State.chooseConfig
  repeat' first
    | ((fail_if_success (conv => arg 2; fun)); extract_lets +onlyGivenNames y)
    | with_reducible first | assumption | refine Same.record ?_ (fun _ => ⟨rfl, rfl⟩) (fun _ => rfl) (fun _ => rfl) (fun _ => rfl) fun _ => rfl

theorem State.bootConfig_same {A : Aspect → Prop} {s0 s : State} (h : Same A s0 s) :
    SameF A s0 (State.bootConfig s) := by
  unfold State.bootConfig
  repeat' first
    | ((fail_if_success (conv => arg 2; fun)); extract_lets +onlyGivenNames y)
    | with_reducible first | assumption | apply State.post_same | apply State.tryConfig_same | apply State.chooseConfig_same | refine Same.eqF (by assumption) ?_
    | with_reducible (refine Same.record ?_ (fun _ => ⟨rfl, rfl⟩) (fun _ => rfl) (fun _ => rfl) (fun _ => rfl) fun _ => rfl; first | assumption | apply State.post_same | apply State.tryConfig_same | apply State.chooseConfig_same | refine Same.eqF (by assumption) ?_)
    | split
    | with_reducible apply Same.mkF

theorem State.step5Fail_same {A : Aspect → Prop} {s0 s : State} (h : Same A s0 s) :
    Same A s0 (State.step5Fail s) := by
  unfold State.step5Fail
  repeat' first
    | ((fail_if_success (conv => arg 2; fun)); extract_lets +onlyGivenNames y; clear_value (e : y = _); refine Same.letVar (A := A) (s0 := s0) e ?_ fun _ => ?_)
    | ((fail_if_success (conv => arg 2; fun)); extract_lets +onlyGivenNames y)
    | with_reducible first | assumption | apply State.alertSet_same | apply State.sendStatus_same | apply State.setModState_same | apply State.commandDrive_same | apply State.bootAt_same

theorem State.holdEvent_same {A : Aspect → Prop} {s0 s : State} {loop st : _} (h : Same A s0 s) :
    Same A s0 (State.holdEvent s loop st) := by
  unfold State.holdEvent
  repeat' with_reducible first | assumption | apply State.coolEvent_same

theorem State.step51_same {A : Aspect → Prop} {s0 s : State} {loops : _} (h : Same A s0 s) :
    Same A s0 (State.step51 s loops) := by
  unfold State.step51
  repeat' first
    | ((fail_if_success (conv => arg 2; fun)); extract_lets +onlyGivenNames y)
    | with_reducible first | assumption | apply State.commandDrive_same | apply State.bootAt_same | apply State.step5Fail_same | apply State.holdEvent_same
    | split

theorem State.kilnBoot_same {A : Aspect → Prop} {s0 s : State} {loops : _} (h : Same A s0 s) :
    Same A s0 (State.kilnBoot s loops) := by
  unfold State.kilnBoot
  repeat' first
    | ((fail_if_success (conv => arg 2; fun)); extract_lets +onlyGivenNames y; clear_value (e : y = _); refine Same.letVar (A := A) (s0 := s0) e ?_ fun _ => ?_)
    | ((fail_if_success (conv => arg 2; fun)); extract_lets +onlyGivenNames y)
    | with_reducible first | assumption | apply State.sendStatus_same | apply State.post_same | apply State.portRestart_same | refine State.bothRow_same ?_ (fun _ _ => ?_) | apply State.setModState_same | apply State.commandDrive_same | apply State.bootAt_same | apply State.readInventory_same | apply State.bootConfig_same | apply State.step51_same | refine Same.foldl ?_ fun _ _ _ => ?_ | refine Same.eqF (by assumption) ?_
    | with_reducible (refine Same.record ?_ (fun _ => ⟨rfl, rfl⟩) (fun _ => rfl) (fun _ => rfl) (fun _ => rfl) fun _ => rfl; first | assumption | apply State.sendStatus_same | apply State.post_same | apply State.portRestart_same | refine State.bothRow_same ?_ (fun _ _ => ?_) | apply State.setModState_same | apply State.commandDrive_same | apply State.bootAt_same | apply State.readInventory_same | apply State.bootConfig_same | apply State.step51_same | refine Same.foldl ?_ fun _ _ _ => ?_ | refine Same.eqF (by assumption) ?_)
    | split

theorem execAuxPowerUp_same {A : Aspect → Prop} (nM : ¬A .mem) (nD : ¬A .dom) (nL : ¬A .live) (nO : ¬A .own) {s0 s : State} {straps first loops : _} (h : Same A s0 s) :
    SameX A s0 (execAuxPowerUp straps first loops s) := by
  unfold execAuxPowerUp
  refine Same.next ?_
  split
  · exact h
  · dsimp only
    have key : ∀ t, Same A s0 t → Same A s0 { t with power := { t.power with powerCycles := t.power.powerCycles + 1, modState := .starting } } :=
      fun t k => Same.record k (fun _ => ⟨rfl, rfl⟩) (fun _ => rfl) (fun _ => rfl) (fun _ => rfl) fun _ => rfl
    generalize ht : State.turnOn s .aux = t
    have h1 := key t (ht ▸ State.turnOn_same nD h)
    have h2 := State.bootKiln_same (k := .kb) (State.bootKiln_same (k := .ka) (State.caskDefaults_same nL (State.takeCeiling_same
      (State.showIdent_same (State.readOtp_same (State.takeStraps_same (p := straps) h1))))))
    split
    · exact State.bootAt_same h2
    · exact State.kilnBoot_same (State.takeOver_same nM nO h2)

theorem execPressureReached_same {A : Aspect → Prop} {s0 s : State} (h : Same A s0 s) :
    SameX A s0 (execPressureReached s) := by
  unfold execPressureReached
  repeat' first
    | ((fail_if_success (conv => arg 2; fun)); extract_lets +onlyGivenNames y)
    | with_reducible first | assumption | apply State.bootAt_same | apply Same.next
    | split

theorem State.pressureFail_same {A : Aspect → Prop} {s0 s : State} (h : Same A s0 s) :
    Same A s0 (State.pressureFail s) := by
  unfold State.pressureFail
  repeat' first
    | ((fail_if_success (conv => arg 2; fun)); extract_lets +onlyGivenNames y; clear_value (e : y = _); refine Same.letVar (A := A) (s0 := s0) e ?_ fun _ => ?_)
    | ((fail_if_success (conv => arg 2; fun)); extract_lets +onlyGivenNames y)
    | with_reducible first | assumption | apply State.bootAt_same | apply State.step5Fail_same | apply State.holdEvent_same
    | split

theorem execPressureWaitTimeout_same {A : Aspect → Prop} {s0 s : State} (h : Same A s0 s) :
    SameX A s0 (execPressureWaitTimeout s) := by
  unfold execPressureWaitTimeout
  repeat' first
    | ((fail_if_success (conv => arg 2; fun)); extract_lets +onlyGivenNames y)
    | with_reducible first | assumption | apply State.pressureFail_same | apply Same.next
    | split

theorem State.zeroFail_same {A : Aspect → Prop} {s0 s : State} {id : _} (h : Same A s0 s) :
    Same A s0 (State.zeroFail s id) := by
  unfold State.zeroFail
  repeat' first
    | ((fail_if_success (conv => arg 2; fun)); extract_lets +onlyGivenNames y; clear_value (e : y = _); refine Same.letVar (A := A) (s0 := s0) e ?_ fun _ => ?_)
    | ((fail_if_success (conv => arg 2; fun)); extract_lets +onlyGivenNames y)
    | with_reducible first | assumption | apply State.setSens_same | apply State.substitute_same | apply State.sensEvent_same
    | split

theorem State.selectClock_same {A : Aspect → Prop} {s0 s : State} {carrier : _} (h : Same A s0 s) :
    Same A s0 (State.selectClock s carrier) := by
  unfold State.selectClock
  repeat' with_reducible first | assumption | apply State.setFlag_same

theorem execPressureHoldEnd_same {A : Aspect → Prop} {s0 s : State} {fall loops zeroBad carrier : _} (h : Same A s0 s) :
    SameX A s0 (execPressureHoldEnd fall loops zeroBad carrier s) := by
  unfold execPressureHoldEnd
  repeat' first
    | ((fail_if_success (conv => arg 2; fun)); extract_lets +onlyGivenNames y; clear_value (e : y = _); refine Same.letVar (A := A) (s0 := s0) e ?_ fun _ => ?_)
    | ((fail_if_success (conv => arg 2; fun)); extract_lets +onlyGivenNames y)
    | with_reducible first | assumption | apply State.setF_same | apply State.refresh_same | apply State.refactor_same | apply State.commandDrive_same | apply State.bootAt_same | apply State.setRetried_same | apply State.step5Fail_same | apply State.holdEvent_same | apply State.pressureFail_same | apply State.zeroFail_same | apply State.selectClock_same | apply Same.next | refine Same.foldl ?_ fun _ _ _ => ?_
    | split

theorem execPressureTestRetry_same {A : Aspect → Prop} {s0 s : State} {loops : _} (h : Same A s0 s) :
    SameX A s0 (execPressureTestRetry loops s) := by
  unfold execPressureTestRetry
  repeat' first
    | ((fail_if_success (conv => arg 2; fun)); extract_lets +onlyGivenNames y)
    | with_reducible first | assumption | apply State.setRetried_same | apply State.step51_same | apply Same.next
    | split

theorem State.prechargeFail_same {A : Aspect → Prop} {s0 s : State} (h : Same A s0 s) :
    Same A s0 (State.prechargeFail s) := by
  unfold State.prechargeFail
  repeat' first
    | ((fail_if_success (conv => arg 2; fun)); extract_lets +onlyGivenNames y; clear_value (e : y = _); refine Same.letVar (A := A) (s0 := s0) e ?_ fun _ => ?_)
    | ((fail_if_success (conv => arg 2; fun)); extract_lets +onlyGivenNames y)
    | with_reducible first | assumption | apply State.setF_same | apply State.bootAt_same | apply State.powerEvent_same | apply State.step5Fail_same
    | split

theorem execPrechargeTimeout_same {A : Aspect → Prop} {s0 s : State} (h : Same A s0 s) :
    SameX A s0 (execPrechargeTimeout s) := by
  unfold execPrechargeTimeout
  repeat' first
    | ((fail_if_success (conv => arg 2; fun)); extract_lets +onlyGivenNames y)
    | with_reducible first | assumption | apply State.prechargeFail_same | apply Same.next
    | split

theorem execPrechargeRetry_same {A : Aspect → Prop} {s0 s : State} (h : Same A s0 s) :
    SameX A s0 (execPrechargeRetry s) := by
  unfold execPrechargeRetry
  repeat' first
    | ((fail_if_success (conv => arg 2; fun)); extract_lets +onlyGivenNames y)
    | with_reducible first | assumption | apply State.setF_same | apply State.bootAt_same | apply State.setRetried_same | apply Same.next
    | split

theorem State.bootIod_same {A : Aspect → Prop} (nM : ¬A .mem) (nD : ¬A .dom) (nL : ¬A .live) (nT : ¬A .otp) {s0 s : State} (h : Same A s0 s) :
    Same A s0 (State.bootIod s) := by
  unfold State.bootIod
  repeat' first
    | ((fail_if_success (conv => arg 2; fun)); extract_lets +onlyGivenNames y; clear_value (e : y = _); refine Same.letVar (A := A) (s0 := s0) e ?_ fun _ => ?_)
    | ((fail_if_success (conv => arg 2; fun)); extract_lets +onlyGivenNames y)
    | with_reducible first | assumption | apply State.commandDrive_same | apply State.applyConfig_same nM nD nL | apply State.bootOtp_same nT | apply State.iodOn_same nD | apply State.bootFail_same nM nD nL | apply State.configShown_same | apply State.bootAt_same | refine Same.eqF (by assumption) ?_
    | with_reducible (refine Same.record ?_ (fun _ => ⟨rfl, rfl⟩) (fun _ => rfl) (fun _ => rfl) (fun _ => rfl) fun _ => rfl; first | assumption | apply State.commandDrive_same | apply State.applyConfig_same nM nD nL | apply State.bootOtp_same nT | apply State.iodOn_same nD | apply State.bootFail_same nM nD nL | apply State.configShown_same | apply State.bootAt_same | refine Same.eqF (by assumption) ?_)
    | split

theorem execPrechargeDone_same {A : Aspect → Prop} (nM : ¬A .mem) (nD : ¬A .dom) (nL : ¬A .live) (nT : ¬A .otp) {s0 s : State} (h : Same A s0 s) :
    SameX A s0 (execPrechargeDone s) := by
  unfold execPrechargeDone
  repeat' first
    | ((fail_if_success (conv => arg 2; fun)); extract_lets +onlyGivenNames y)
    | with_reducible first | assumption | apply State.setF_same | apply State.bootIod_same nM nD nL nT | apply Same.next
    | split

theorem State.bootDone_same {A : Aspect → Prop} {s0 s : State} (h : Same A s0 s) :
    Same A s0 (State.bootDone s) := by
  unfold State.bootDone
  repeat' first
    | ((fail_if_success (conv => arg 2; fun)); extract_lets +onlyGivenNames y; clear_value (e : y = _); refine Same.letVar (A := A) (s0 := s0) e ?_ fun _ => ?_)
    | ((fail_if_success (conv => arg 2; fun)); extract_lets +onlyGivenNames y)
    | with_reducible first | assumption | apply State.setF_same | apply State.sendStatus_same | apply State.claimStop_same | apply State.settle_same | apply State.setModState_same | apply State.bootAt_same
    | split

theorem execBootFlowReady_same {A : Aspect → Prop} (nM : ¬A .mem) (nD : ¬A .dom) (nL : ¬A .live) {s0 s : State} {tests : _} (h : Same A s0 s) :
    SameX A s0 (execBootFlowReady tests s) := by
  unfold execBootFlowReady
  repeat' first
    | ((fail_if_success (conv => arg 2; fun)); extract_lets +onlyGivenNames y)
    | with_reducible first | assumption | apply State.computeOn_same nM nD nL | apply State.bootDone_same | apply Same.next | refine Same.eqF (by assumption) ?_
    | with_reducible (refine Same.record ?_ (fun _ => ⟨rfl, rfl⟩) (fun _ => rfl) (fun _ => rfl) (fun _ => rfl) fun _ => rfl; first | assumption | apply State.computeOn_same nM nD nL | apply State.bootDone_same | apply Same.next | refine Same.eqF (by assumption) ?_)
    | split

theorem State.flowFail_same {A : Aspect → Prop} {s0 s : State} (h : Same A s0 s) :
    Same A s0 (State.flowFail s) := by
  unfold State.flowFail
  repeat' first
    | ((fail_if_success (conv => arg 2; fun)); extract_lets +onlyGivenNames y)
    | with_reducible first | assumption | apply State.sendStatus_same | apply State.setModState_same | apply State.coolEvent_same | apply State.bootAt_same

theorem execBootFlowTimeout_same {A : Aspect → Prop} {s0 s : State} (h : Same A s0 s) :
    SameX A s0 (execBootFlowTimeout s) := by
  unfold execBootFlowTimeout
  repeat' first
    | ((fail_if_success (conv => arg 2; fun)); extract_lets +onlyGivenNames y)
    | with_reducible first | assumption | apply State.flowFail_same | apply Same.next
    | split

theorem State.clockFail_same {A : Aspect → Prop} {s0 s : State} (h : Same A s0 s) :
    Same A s0 (State.clockFail s) := by
  unfold State.clockFail
  repeat' first
    | ((fail_if_success (conv => arg 2; fun)); extract_lets +onlyGivenNames y)
    | with_reducible first | assumption | apply State.sendStatus_same | apply State.postMod_same | apply State.setModState_same | apply State.bootAt_same

theorem State.clockFault_same {A : Aspect → Prop} (nM : ¬A .mem) (nD : ¬A .dom) (nL : ¬A .live) {s0 s : State} {data : _} (h : Same A s0 s) :
    Same A s0 (State.clockFault s data) := by
  unfold State.clockFault
  repeat' first
    | ((fail_if_success (conv => arg 2; fun)); extract_lets +onlyGivenNames y; clear_value (e : y = _); refine Same.letVar (A := A) (s0 := s0) e ?_ fun _ => ?_)
    | ((fail_if_success (conv => arg 2; fun)); extract_lets +onlyGivenNames y)
    | with_reducible first | assumption | apply State.hostEvent_same | apply State.post_same | apply State.iodOff_same nM nD nL | apply State.setModState_same | apply State.bootAt_same
    | split

theorem execRefclkLoss_same {A : Aspect → Prop} (nM : ¬A .mem) (nD : ¬A .dom) (nL : ¬A .live) {s0 s : State} (h : Same A s0 s) :
    SameX A s0 (execRefclkLoss s) := by
  unfold execRefclkLoss
  repeat' first
    | ((fail_if_success (conv => arg 2; fun)); extract_lets +onlyGivenNames y; clear_value (e : y = _); refine Same.letVar (A := A) (s0 := s0) e ?_ fun _ => ?_)
    | ((fail_if_success (conv => arg 2; fun)); extract_lets +onlyGivenNames y)
    | with_reducible first | assumption | apply State.alertSet_same | apply State.setHealthBit_same | apply State.clockFault_same nM nD nL | apply Same.next
    | with_reducible (refine Same.record ?_ (fun _ => ⟨rfl, rfl⟩) (fun _ => rfl) (fun _ => rfl) (fun _ => rfl) fun _ => rfl; first | assumption | apply State.alertSet_same | apply State.setHealthBit_same | apply State.clockFault_same nM nD nL | apply Same.next)
    | split

theorem execClockTreeRestored_same {A : Aspect → Prop} (nM : ¬A .mem) (nD : ¬A .dom) (nL : ¬A .live) (nT : ¬A .otp) {s0 s : State} (h : Same A s0 s) :
    SameX A s0 (execClockTreeRestored s) := by
  unfold execClockTreeRestored
  repeat' first
    | ((fail_if_success (conv => arg 2; fun)); extract_lets +onlyGivenNames y; clear_value (e : y = _); refine Same.letVar (A := A) (s0 := s0) e ?_ fun _ => ?_)
    | ((fail_if_success (conv => arg 2; fun)); extract_lets +onlyGivenNames y)
    | with_reducible first | assumption | apply State.setF_same | apply State.clearBit_same | apply State.alertClear_same | apply State.setHealthBit_same | apply State.bootIod_same nM nD nL nT | apply Same.next
    | split

theorem execBootStepTimeout_same {A : Aspect → Prop} {s0 s : State} (h : Same A s0 s) :
    SameX A s0 (execBootStepTimeout s) := by
  unfold execBootStepTimeout
  repeat' first
    | ((fail_if_success (conv => arg 2; fun)); extract_lets +onlyGivenNames y)
    | with_reducible first | assumption | apply State.pressureFail_same | apply State.prechargeFail_same | apply State.flowFail_same | apply State.clockFail_same | apply Same.next
    | split

theorem State.auxOff_same {A : Aspect → Prop} (nM : ¬A .mem) (nD : ¬A .dom) (nL : ¬A .live) (nO : ¬A .own) {s0 s : State} (h : Same A s0 s) :
    Same A s0 (State.auxOff s) := by
  unfold State.auxOff
  have k : Same A s0 ((if s.thl.mbxRun then s.mbxUndo else s).iodOff) := by
    refine State.iodOff_same nM nD nL ?_
    split
    · exact State.mbxUndo_same h
    · exact h
  generalize (if s.thl.mbxRun then s.mbxUndo else s).iodOff = t at k ⊢
  dsimp only
  exact Same.record k (fun x => absurd x nM) (fun x => absurd x nD) (fun x => absurd x nL) (fun x => absurd x nO) fun _ => rfl

theorem execAuxPowerLoss_same {A : Aspect → Prop} (nM : ¬A .mem) (nD : ¬A .dom) (nL : ¬A .live) (nO : ¬A .own) {s0 s : State} {torn : _} (h : Same A s0 s) :
    SameX A s0 (execAuxPowerLoss torn s) := by
  unfold execAuxPowerLoss
  repeat' first
    | ((fail_if_success (conv => arg 2; fun)); extract_lets +onlyGivenNames y)
    | with_reducible first | assumption | apply State.tearSlot_same | apply State.auxOff_same nM nD nL nO | apply Same.next
    | split

theorem execDomainFault_same {A : Aspect → Prop} (nM : ¬A .mem) (nD : ¬A .dom) (nL : ¬A .live) (nO : ¬A .own) {s0 s : State} {d : _} (h : Same A s0 s) :
    SameX A s0 (execDomainFault d s) := by
  unfold execDomainFault
  repeat' first
    | ((fail_if_success (conv => arg 2; fun)); extract_lets +onlyGivenNames y; clear_value (e : y = _); refine Same.letVar (A := A) (s0 := s0) e ?_ fun _ => ?_)
    | ((fail_if_success (conv => arg 2; fun)); extract_lets +onlyGivenNames y)
    | with_reducible first | assumption | apply State.stackFail_same | apply State.domainOff_same nM nD nL | apply State.unnamedRecord_same | apply State.auxOff_same nM nD nL nO | apply Same.next | refine Same.foldl ?_ fun _ _ _ => ?_
    | split

theorem execDrainComplete_same {A : Aspect → Prop} {s0 s : State} (h : Same A s0 s) :
    SameX A s0 (execDrainComplete s) := by
  unfold execDrainComplete
  repeat' first
    | ((fail_if_success (conv => arg 2; fun)); extract_lets +onlyGivenNames y; clear_value (e : y = _); refine Same.letVar (A := A) (s0 := s0) e ?_ fun _ => ?_)
    | ((fail_if_success (conv => arg 2; fun)); extract_lets +onlyGivenNames y)
    | with_reducible first | assumption | apply State.setF_same | apply State.postMod_same | apply State.settle_same | apply Same.next
    | with_reducible (refine Same.record ?_ (fun _ => ⟨rfl, rfl⟩) (fun _ => rfl) (fun _ => rfl) (fun _ => rfl) fun _ => rfl; first | assumption | apply State.setF_same | apply State.postMod_same | apply State.settle_same | apply Same.next)
    | split

theorem execDrainLimitExpiry_same {A : Aspect → Prop} {s0 s : State} (h : Same A s0 s) :
    SameX A s0 (execDrainLimitExpiry s) := by
  unfold execDrainLimitExpiry
  repeat' first
    | ((fail_if_success (conv => arg 2; fun)); extract_lets +onlyGivenNames y)
    | with_reducible first | assumption | apply State.abortHeld_same | apply Same.next
    | split

theorem execParkComplete_same {A : Aspect → Prop} (nM : ¬A .mem) (nD : ¬A .dom) {s0 s : State} (h : Same A s0 s) :
    SameX A s0 (execParkComplete s) := by
  unfold execParkComplete
  repeat' first
    | ((fail_if_success (conv => arg 2; fun)); extract_lets +onlyGivenNames y)
    | with_reducible first | assumption | apply State.enterPark_same nM nD | apply Same.next
    | split

theorem State.abandonImage_same {A : Aspect → Prop} {s0 s : State} (h : Same A s0 s) :
    Same A s0 (State.abandonImage s) := by
  unfold State.abandonImage
  repeat' first
    | ((fail_if_success (conv => arg 2; fun)); extract_lets +onlyGivenNames y; clear_value (e : y = _); refine Same.letVar (A := A) (s0 := s0) e ?_ fun _ => ?_)
    | ((fail_if_success (conv => arg 2; fun)); extract_lets +onlyGivenNames y)
    | with_reducible first | assumption | apply State.mbxUndo_same
    | with_reducible (refine Same.record ?_ (fun _ => ⟨rfl, rfl⟩) (fun _ => rfl) (fun _ => rfl) (fun _ => rfl) fun _ => rfl; first | assumption | apply State.mbxUndo_same)
    | split

theorem State.mainOpen_same {A : Aspect → Prop} (nM : ¬A .mem) (nD : ¬A .dom) (nL : ¬A .live) {s0 s : State} (h : Same A s0 s) :
    Same A s0 (State.mainOpen s) := by
  unfold State.mainOpen
  repeat' first
    | ((fail_if_success (conv => arg 2; fun)); extract_lets +onlyGivenNames y; clear_value (e : y = _); refine Same.letVar (A := A) (s0 := s0) e ?_ fun _ => ?_)
    | ((fail_if_success (conv => arg 2; fun)); extract_lets +onlyGivenNames y)
    | with_reducible first | assumption | apply State.setF_same | apply State.iodOff_same nM nD nL | apply State.setModState_same | apply State.bootAt_same
    | split

theorem execPwrLoss_same {A : Aspect → Prop} (nM : ¬A .mem) (nD : ¬A .dom) (nL : ¬A .live) {s0 s : State} (h : Same A s0 s) :
    SameX A s0 (execPwrLoss s) := by
  unfold execPwrLoss
  repeat' first
    | ((fail_if_success (conv => arg 2; fun)); extract_lets +onlyGivenNames y; clear_value (e : y = _); refine Same.letVar (A := A) (s0 := s0) e ?_ fun _ => ?_)
    | ((fail_if_success (conv => arg 2; fun)); extract_lets +onlyGivenNames y)
    | with_reducible first | assumption | apply State.powerFlush_same | apply State.powerEvent_same | apply State.abandonImage_same | apply State.mainOpen_same nM nD nL | apply Same.next
    | split

theorem execPowerReturn_same {A : Aspect → Prop} {s0 s : State} (h : Same A s0 s) :
    SameX A s0 (execPowerReturn s) := by
  unfold execPowerReturn
  repeat' first
    | ((fail_if_success (conv => arg 2; fun)); extract_lets +onlyGivenNames y)
    | with_reducible first | assumption | apply State.setF_same | apply Same.next
    | with_reducible (refine Same.record ?_ (fun _ => ⟨rfl, rfl⟩) (fun _ => rfl) (fun _ => rfl) (fun _ => rfl) fun _ => rfl; first | assumption | apply State.setF_same | apply Same.next)
    | split

theorem execInputLow_same {A : Aspect → Prop} {s0 s : State} {volt : _} (h : Same A s0 s) :
    SameX A s0 (execInputLow volt s) := by
  unfold execInputLow
  repeat' first
    | ((fail_if_success (conv => arg 2; fun)); extract_lets +onlyGivenNames y)
    | with_reducible first | assumption | apply State.setF_same | apply State.powerEvent_same | apply Same.next
    | split

theorem execInputHigh_same {A : Aspect → Prop} {s0 s : State} {volt : _} (h : Same A s0 s) :
    SameX A s0 (execInputHigh volt s) := by
  unfold execInputHigh
  repeat' first
    | ((fail_if_success (conv => arg 2; fun)); extract_lets +onlyGivenNames y)
    | with_reducible first | assumption | apply State.setF_same | apply State.powerEvent_same | apply Same.next
    | split

theorem execInputTrip_same {A : Aspect → Prop} (nM : ¬A .mem) (nD : ¬A .dom) (nL : ¬A .live) {s0 s : State} (h : Same A s0 s) :
    SameX A s0 (execInputTrip s) := by
  unfold execInputTrip
  repeat' first
    | ((fail_if_success (conv => arg 2; fun)); extract_lets +onlyGivenNames y)
    | with_reducible first | assumption | apply State.setF_same | apply State.powerEvent_same | apply State.mainOpen_same nM nD nL | apply Same.next
    | split

theorem execInputRestored_same {A : Aspect → Prop} {s0 s : State} (h : Same A s0 s) :
    SameX A s0 (execInputRestored s) := by
  unfold execInputRestored
  repeat' first
    | ((fail_if_success (conv => arg 2; fun)); extract_lets +onlyGivenNames y)
    | with_reducible first | assumption | apply State.setF_same | apply State.bootAt_same | apply State.setRetried_same | apply Same.next
    | split

theorem State.removeAt_same {A : Aspect → Prop} {s0 s : State} {p : _} (h : Same A s0 s) :
    Same A s0 (State.removeAt s p) := by
  unfold State.removeAt
  repeat' with_reducible first | assumption | apply State.setF_same

theorem State.indicate_same {A : Aspect → Prop} {s0 s : State} {i : _} (h : Same A s0 s) :
    Same A s0 (State.indicate s i) := by
  unfold State.indicate
  repeat' first
    | ((fail_if_success (conv => arg 2; fun)); extract_lets +onlyGivenNames y)
    | with_reducible first | assumption | refine Same.record ?_ (fun _ => ⟨rfl, rfl⟩) (fun _ => rfl) (fun _ => rfl) (fun _ => rfl) fun _ => rfl

theorem State.mainRelease_same {A : Aspect → Prop} {s0 s : State} (h : Same A s0 s) :
    Same A s0 (State.mainRelease s) := by
  unfold State.mainRelease
  repeat' first
    | ((fail_if_success (conv => arg 2; fun)); extract_lets +onlyGivenNames y)
    | with_reducible first | assumption | apply State.setF_same | apply State.bootAt_same | apply State.removeAt_same

theorem State.startRemoval_same {A : Aspect → Prop} {s0 s : State} {source : _} (h : Same A s0 s) :
    Same A s0 (State.startRemoval s source) := by
  unfold State.startRemoval
  repeat' first
    | ((fail_if_success (conv => arg 2; fun)); extract_lets +onlyGivenNames y; clear_value (e : y = _); refine Same.letVar (A := A) (s0 := s0) e ?_ fun _ => ?_)
    | ((fail_if_success (conv => arg 2; fun)); extract_lets +onlyGivenNames y)
    | with_reducible first | assumption | apply State.setF_same | apply State.postMod_same | apply State.setModState_same | apply State.startDrain_same | apply State.bootAt_same | apply State.removeAt_same | apply State.indicate_same | apply State.mainRelease_same
    | split

theorem execRemoveReqPin_same {A : Aspect → Prop} {s0 s : State} (h : Same A s0 s) :
    SameX A s0 (execRemoveReqPin s) := by
  unfold execRemoveReqPin
  repeat' first
    | ((fail_if_success (conv => arg 2; fun)); extract_lets +onlyGivenNames y)
    | with_reducible first | assumption | apply State.startRemoval_same | apply Same.next

theorem execModRemoveWrite_same {A : Aspect → Prop} {s0 s : State} (h : Same A s0 s) :
    SameX A s0 (execModRemoveWrite s) := by
  unfold execModRemoveWrite
  repeat' first
    | ((fail_if_success (conv => arg 2; fun)); extract_lets +onlyGivenNames y)
    | with_reducible first | assumption | apply State.startRemoval_same | apply Same.next

theorem execRemovalSyncEnd_same {A : Aspect → Prop} (nM : ¬A .mem) (nD : ¬A .dom) (nL : ¬A .live) {s0 s : State} (h : Same A s0 s) :
    SameX A s0 (execRemovalSyncEnd s) := by
  unfold execRemovalSyncEnd
  repeat' first
    | ((fail_if_success (conv => arg 2; fun)); extract_lets +onlyGivenNames y; clear_value (e : y = _); refine Same.letVar (A := A) (s0 := s0) e ?_ fun _ => ?_)
    | ((fail_if_success (conv => arg 2; fun)); extract_lets +onlyGivenNames y)
    | with_reducible first | assumption | apply State.sendStatus_same | apply State.portPark_same nM nD | apply State.sendSummary_same | apply State.iodOff_same nM nD nL | apply State.setModState_same | apply State.removeAt_same | apply State.mainRelease_same | apply Same.next | refine Same.foldl ?_ fun _ _ _ => ?_
    | split

theorem execRemoveReady_same {A : Aspect → Prop} {s0 s : State} (h : Same A s0 s) :
    SameX A s0 (execRemoveReady s) := by
  unfold execRemoveReady
  repeat' first
    | ((fail_if_success (conv => arg 2; fun)); extract_lets +onlyGivenNames y; clear_value (e : y = _); refine Same.letVar (A := A) (s0 := s0) e ?_ fun _ => ?_)
    | ((fail_if_success (conv => arg 2; fun)); extract_lets +onlyGivenNames y)
    | with_reducible first | assumption | apply State.sendStatus_same | apply State.commandDrive_same | apply State.powerEvent_same | apply State.removeAt_same | apply State.indicate_same | apply Same.next
    | split

theorem execSurpriseRemoval_same {A : Aspect → Prop} {s0 s : State} (h : Same A s0 s) :
    SameX A s0 (execSurpriseRemoval s) := by
  unfold execSurpriseRemoval
  repeat' first
    | ((fail_if_success (conv => arg 2; fun)); extract_lets +onlyGivenNames y)
    | with_reducible first | assumption | apply State.setF_same | apply State.powerFlush_same | apply State.powerEvent_same | apply State.abandonImage_same | apply Same.next
    | split

theorem execSeatedReturn_same {A : Aspect → Prop} {s0 s : State} (h : Same A s0 s) :
    SameX A s0 (execSeatedReturn s) := by
  unfold execSeatedReturn
  repeat' first
    | ((fail_if_success (conv => arg 2; fun)); extract_lets +onlyGivenNames y)
    | with_reducible first | assumption | apply State.setF_same | apply Same.next
    | with_reducible (refine Same.record ?_ (fun _ => ⟨rfl, rfl⟩) (fun _ => rfl) (fun _ => rfl) (fun _ => rfl) fun _ => rfl; first | assumption | apply State.setF_same | apply Same.next)
    | split

theorem execImageConfirmTimer_same {A : Aspect → Prop} {s0 s : State} {k : _} (h : Same A s0 s) :
    SameX A s0 (execImageConfirmTimer k s) := by
  unfold execImageConfirmTimer
  repeat' first
    | ((fail_if_success (conv => arg 2; fun)); extract_lets +onlyGivenNames y)
    | with_reducible first | assumption | apply State.post_same | apply State.setImgState_same | apply Same.next
    | split

end Sys2Proof.Machine
end

