-- ==== Sys2Proof/Laws/SameKiln.lean ====
section
/-!
SUPPORT. The Kiln pair, its control cycle and self-test leave what Laws/Same.lean names.
-/

namespace Sys2Proof.Machine

set_option linter.all false

/-! ### Kiln -/

theorem execActOwnClaim_same {A : Aspect → Prop} (nM : ¬A .mem) (nO : ¬A .own) {s0 s : State} {ka kb : _} (h : Same A s0 s) :
    SameX A s0 (execActOwnClaim ka kb s) := by
  unfold execActOwnClaim
  repeat' first
    | ((fail_if_success (conv => arg 2; fun)); extract_lets +onlyGivenNames y)
    | with_reducible first | assumption | apply State.takeOver_same nM nO | apply Same.next
    | split

theorem execActOwnRelease_same {A : Aspect → Prop} (nO : ¬A .own) {s0 s : State} {k : _} (h : Same A s0 s) :
    SameX A s0 (execActOwnRelease k s) := by
  unfold execActOwnRelease
  repeat' first
    | ((fail_if_success (conv => arg 2; fun)); extract_lets +onlyGivenNames y)
    | with_reducible first | assumption | apply State.release_same nO | apply Same.next

theorem execStrobeTimeout_same {A : Aspect → Prop} (nO : ¬A .own) {s0 s : State} (h : Same A s0 s) :
    SameX A s0 (execStrobeTimeout s) := by
  unfold execStrobeTimeout
  repeat' first
    | ((fail_if_success (conv => arg 2; fun)); extract_lets +onlyGivenNames y)
    | with_reducible first | assumption | apply State.startRestart_same | apply State.toNone_same nO | apply Same.next
    | split

theorem execHolderReset_same {A : Aspect → Prop} (nO : ¬A .own) {s0 s : State} (h : Same A s0 s) :
    SameX A s0 (execHolderReset s) := by
  unfold execHolderReset
  repeat' first
    | ((fail_if_success (conv => arg 2; fun)); extract_lets +onlyGivenNames y)
    | with_reducible first | assumption | apply State.startRestart_same | apply State.toNone_same nO | apply Same.next
    | split

theorem execStandbyClaim_same {A : Aspect → Prop} (nM : ¬A .mem) (nO : ¬A .own) {s0 s : State} {k : _} (h : Same A s0 s) :
    SameX A s0 (execStandbyClaim k s) := by
  unfold execStandbyClaim
  repeat' first
    | ((fail_if_success (conv => arg 2; fun)); extract_lets +onlyGivenNames y)
    | with_reducible first | assumption | apply State.takeOver_same nM nO | apply Same.next
    | split

theorem execStaleClaim_same {A : Aspect → Prop} (nM : ¬A .mem) (nO : ¬A .own) {s0 s : State} {k : _} (h : Same A s0 s) :
    SameX A s0 (execStaleClaim k s) := by
  unfold execStaleClaim
  repeat' first
    | ((fail_if_success (conv => arg 2; fun)); extract_lets +onlyGivenNames y)
    | with_reducible first | assumption | apply State.takeOver_same nM nO | apply Same.next
    | split

theorem execHandoverClaimTimeout_same {A : Aspect → Prop} (nO : ¬A .own) {s0 s : State} (h : Same A s0 s) :
    SameX A s0 (execHandoverClaimTimeout s) := by
  unfold execHandoverClaimTimeout
  repeat' first
    | ((fail_if_success (conv => arg 2; fun)); extract_lets +onlyGivenNames y; clear_value (e : y = _); refine Same.letVar (A := A) (s0 := s0) e ?_ fun _ => ?_)
    | ((fail_if_success (conv => arg 2; fun)); extract_lets +onlyGivenNames y)
    | with_reducible first | assumption | apply State.setF_same | apply State.caskTakeover_same | apply State.postOwed_same | apply State.klnEvent_same | apply State.mbxHandover_same | apply State.grantOwn_same nO | apply Same.next
    | split

theorem State.keepFramed_same {A : Aspect → Prop} {s0 s : State} {k r : _} (h : Same A s0 s) :
    Same A s0 (State.keepFramed s k r) := by
  unfold State.keepFramed
  repeat' first
    | ((fail_if_success (conv => arg 2; fun)); extract_lets +onlyGivenNames y)
    | with_reducible first | assumption
    | with_reducible (refine Same.record ?_ (fun _ => ⟨rfl, rfl⟩) (fun _ => rfl) (fun _ => rfl) (fun _ => rfl) fun _ => rfl; first | assumption)
    | split

theorem State.acceptFrame_same {A : Aspect → Prop} {s0 s : State} {k f : _} (h : Same A s0 s) :
    Same A s0 (State.acceptFrame s k f) := by
  unfold State.acceptFrame
  repeat' first
    | ((fail_if_success (conv => arg 2; fun)); extract_lets +onlyGivenNames y; clear_value (e : y = _); refine Same.letVar (A := A) (s0 := s0) e ?_ fun _ => ?_)
    | ((fail_if_success (conv => arg 2; fun)); extract_lets +onlyGivenNames y)
    | with_reducible first | assumption | apply State.setShadow_same | apply State.modKiln_same | apply State.setHealthBit_same | apply State.evalHealth_same | apply State.setAge_same | apply State.keepFramed_same | refine Same.foldl ?_ fun _ _ _ => ?_
    | split

theorem State.discardFrame_same {A : Aspect → Prop} {s0 s : State} {k : _} (h : Same A s0 s) :
    Same A s0 (State.discardFrame s k) := by
  unfold State.discardFrame
  repeat' with_reducible first | assumption | apply State.modKiln_same

theorem execStateFrame_same {A : Aspect → Prop} {s0 s : State} {verOk crcOk : _} (h : Same A s0 s) :
    SameX A s0 (execStateFrame verOk crcOk s) := by
  unfold execStateFrame
  repeat' first
    | ((fail_if_success (conv => arg 2; fun)); extract_lets +onlyGivenNames y)
    | with_reducible first | assumption | apply State.acceptFrame_same | apply State.discardFrame_same | apply Same.next
    | split

theorem execHealthWord_same {A : Aspect → Prop} {s0 s : State} {bits : _} (h : Same A s0 s) :
    SameX A s0 (execHealthWord bits s) := by
  unfold execHealthWord
  repeat' first
    | ((fail_if_success (conv => arg 2; fun)); extract_lets +onlyGivenNames y; clear_value (e : y = _); refine Same.letVar (A := A) (s0 := s0) e ?_ fun _ => ?_)
    | ((fail_if_success (conv => arg 2; fun)); extract_lets +onlyGivenNames y)
    | with_reducible first | assumption | apply State.modKiln_same | apply State.evalHealth_same | apply State.showStandby_same | apply Same.next
    | split

theorem State.diverge_same {A : Aspect → Prop} {s0 s : State} {k loop : _} (h : Same A s0 s) :
    Same A s0 (State.diverge s k loop) := by
  unfold State.diverge
  repeat' first
    | ((fail_if_success (conv => arg 2; fun)); extract_lets +onlyGivenNames y; clear_value (e : y = _); refine Same.letVar (A := A) (s0 := s0) e ?_ fun _ => ?_)
    | ((fail_if_success (conv => arg 2; fun)); extract_lets +onlyGivenNames y)
    | with_reducible first | assumption | apply State.modKiln_same | apply State.klnEvent_same | apply State.setHealthBit_same

theorem execDivergence_same {A : Aspect → Prop} {s0 s : State} {loop : _} (h : Same A s0 s) :
    SameX A s0 (execDivergence loop s) := by
  unfold execDivergence
  repeat' first
    | ((fail_if_success (conv => arg 2; fun)); extract_lets +onlyGivenNames y)
    | with_reducible first | assumption | apply State.modKiln_same | apply State.diverge_same | apply Same.next
    | split

theorem execProtectConfirmTimeout_same {A : Aspect → Prop} {s0 s : State} (h : Same A s0 s) :
    SameX A s0 (execProtectConfirmTimeout s) := by
  unfold execProtectConfirmTimeout
  repeat' first
    | ((fail_if_success (conv => arg 2; fun)); extract_lets +onlyGivenNames y; clear_value (e : y = _); refine Same.letVar (A := A) (s0 := s0) e ?_ fun _ => ?_)
    | ((fail_if_success (conv => arg 2; fun)); extract_lets +onlyGivenNames y)
    | with_reducible first | assumption | apply State.setF_same | apply State.dropProtect_same | apply State.diverge_same | apply Same.next
    | with_reducible (refine Same.record ?_ (fun _ => ⟨rfl, rfl⟩) (fun _ => rfl) (fun _ => rfl) (fun _ => rfl) fun _ => rfl; first | assumption | apply State.setF_same | apply State.dropProtect_same | apply State.diverge_same | apply Same.next)
    | split

theorem execStandbyLostTimer_same {A : Aspect → Prop} {s0 s : State} (h : Same A s0 s) :
    SameX A s0 (execStandbyLostTimer s) := by
  unfold execStandbyLostTimer
  repeat' first
    | ((fail_if_success (conv => arg 2; fun)); extract_lets +onlyGivenNames y)
    | with_reducible first | assumption | apply State.klnEvent_same | apply Same.next
    | with_reducible (refine Same.record ?_ (fun _ => ⟨rfl, rfl⟩) (fun _ => rfl) (fun _ => rfl) (fun _ => rfl) fun _ => rfl; first | assumption | apply State.klnEvent_same | apply Same.next)
    | split

theorem execKilnWatchdog_same {A : Aspect → Prop} (nO : ¬A .own) {s0 s : State} {k : _} (h : Same A s0 s) :
    SameX A s0 (execKilnWatchdog k s) := by
  unfold execKilnWatchdog
  repeat' first
    | ((fail_if_success (conv => arg 2; fun)); extract_lets +onlyGivenNames y)
    | with_reducible first | assumption | apply State.startRestart_same | apply State.toNone_same nO | apply Same.next
    | split

theorem State.planHandover_same {A : Aspect → Prop} {s0 s : State} {cause : _} (h : Same A s0 s) :
    Same A s0 (State.planHandover s cause) := by
  unfold State.planHandover
  repeat' first
    | ((fail_if_success (conv => arg 2; fun)); extract_lets +onlyGivenNames y)
    | with_reducible first | assumption
    | with_reducible (refine Same.record ?_ (fun _ => ⟨rfl, rfl⟩) (fun _ => rfl) (fun _ => rfl) (fun _ => rfl) fun _ => rfl; first | assumption)
    | split

theorem State.handoverWrite_same {A : Aspect → Prop} {s0 s : State} {k : _} (h : Same A s0 s) :
    Same A s0 (State.handoverWrite s k) := by
  unfold State.handoverWrite
  repeat' first
    | ((fail_if_success (conv => arg 2; fun)); extract_lets +onlyGivenNames y)
    | with_reducible first | assumption | apply State.setF_same | apply State.planHandover_same
    | split

theorem execKlnHandoverWrite_same {A : Aspect → Prop} {s0 s : State} {k : _} (h : Same A s0 s) :
    SameX A s0 (execKlnHandoverWrite k s) := by
  unfold execKlnHandoverWrite
  repeat' first
    | ((fail_if_success (conv => arg 2; fun)); extract_lets +onlyGivenNames y)
    | with_reducible first | assumption | apply State.handoverWrite_same | apply Same.next
    | split

theorem State.restartWrite_same {A : Aspect → Prop} {s0 s : State} {k : _} (h : Same A s0 s) :
    Same A s0 (State.restartWrite s k) := by
  unfold State.restartWrite
  repeat' first
    | ((fail_if_success (conv => arg 2; fun)); extract_lets +onlyGivenNames y)
    | with_reducible first | assumption | apply State.setF_same | apply State.startRestart_same | apply State.planHandover_same
    | split

theorem execKlnRestartWrite_same {A : Aspect → Prop} {s0 s : State} {k : _} (h : Same A s0 s) :
    SameX A s0 (execKlnRestartWrite k s) := by
  unfold execKlnRestartWrite
  repeat' first
    | ((fail_if_success (conv => arg 2; fun)); extract_lets +onlyGivenNames y)
    | with_reducible first | assumption | apply State.restartWrite_same | apply Same.next
    | split

theorem execKilnRestart_same {A : Aspect → Prop} {s0 s : State} {k : _} (h : Same A s0 s) :
    SameX A s0 (execKilnRestart k s) := by
  unfold execKilnRestart
  repeat' first
    | ((fail_if_success (conv => arg 2; fun)); extract_lets +onlyGivenNames y)
    | with_reducible first | assumption | apply State.bootKiln_same | apply Same.next
    | split

theorem execKilnEligible_same {A : Aspect → Prop} (nM : ¬A .mem) (nO : ¬A .own) {s0 s : State} {k : _} (h : Same A s0 s) :
    SameX A s0 (execKilnEligible k s) := by
  unfold execKilnEligible
  repeat' first
    | ((fail_if_success (conv => arg 2; fun)); extract_lets +onlyGivenNames y; clear_value (e : y = _); refine Same.letVar (A := A) (s0 := s0) e ?_ fun _ => ?_)
    | ((fail_if_success (conv => arg 2; fun)); extract_lets +onlyGivenNames y)
    | with_reducible first | assumption | apply State.setF_same | apply State.modKiln_same | apply State.takeOver_same nM nO | apply Same.next
    | split

theorem execNoOwnerTimeout_same {A : Aspect → Prop} (nM : ¬A .mem) {s0 s : State} (h : Same A s0 s) :
    SameX A s0 (execNoOwnerTimeout s) := by
  unfold execNoOwnerTimeout
  repeat' first
    | ((fail_if_success (conv => arg 2; fun)); extract_lets +onlyGivenNames y; clear_value (e : y = _); refine Same.letVar (A := A) (s0 := s0) e ?_ fun _ => ?_)
    | ((fail_if_success (conv => arg 2; fun)); extract_lets +onlyGivenNames y)
    | with_reducible first | assumption | apply State.setF_same | apply State.modDie_same | apply State.quiesceNow_same nM | apply State.applyDrive_same | apply Same.next | refine Same.foldl ?_ fun _ _ _ => ?_
    | split

theorem State.dieFails_same {A : Aspect → Prop} (nM : ¬A .mem) (nD : ¬A .dom) (nL : ¬A .live) {s0 s : State} {d cause mesh : _} (h : Same A s0 s) :
    Same A s0 (State.dieFails s d cause mesh) := by
  unfold State.dieFails
  repeat' first
    | ((fail_if_success (conv => arg 2; fun)); extract_lets +onlyGivenNames y; clear_value (e : y = _); refine Same.letVar (A := A) (s0 := s0) e ?_ fun _ => ?_)
    | ((fail_if_success (conv => arg 2; fun)); extract_lets +onlyGivenNames y)
    | with_reducible first | assumption | apply State.setF_same | apply State.setBit_same | apply State.clearBit_same | apply State.failDie_same nM nD nL | apply State.klnEvent_same
    | split

theorem execDieHbStall_same {A : Aspect → Prop} (nM : ¬A .mem) (nD : ¬A .dom) (nL : ¬A .live) {s0 s : State} {d mesh : _} (h : Same A s0 s) :
    SameX A s0 (execDieHbStall d mesh s) := by
  unfold execDieHbStall
  repeat' first
    | ((fail_if_success (conv => arg 2; fun)); extract_lets +onlyGivenNames y; clear_value (e : y = _); refine Same.letVar (A := A) (s0 := s0) e ?_ fun _ => ?_)
    | ((fail_if_success (conv => arg 2; fun)); extract_lets +onlyGivenNames y)
    | with_reducible first | assumption | apply State.clearBit_same | apply State.addSat_same | apply State.klnEvent_same | apply State.dieFails_same nM nD nL | apply Same.next
    | split

theorem execDieHbFail_same {A : Aspect → Prop} (nM : ¬A .mem) (nD : ¬A .dom) (nL : ¬A .live) {s0 s : State} {d mesh : _} (h : Same A s0 s) :
    SameX A s0 (execDieHbFail d mesh s) := by
  unfold execDieHbFail
  repeat' first
    | ((fail_if_success (conv => arg 2; fun)); extract_lets +onlyGivenNames y)
    | with_reducible first | assumption | apply State.dieFails_same nM nD nL | apply Same.next
    | split

theorem execDieFatal_same {A : Aspect → Prop} (nM : ¬A .mem) (nD : ¬A .dom) (nL : ¬A .live) {s0 s : State} {d mesh : _} (h : Same A s0 s) :
    SameX A s0 (execDieFatal d mesh s) := by
  unfold execDieFatal
  repeat' first
    | ((fail_if_success (conv => arg 2; fun)); extract_lets +onlyGivenNames y; clear_value (e : y = _); refine Same.letVar (A := A) (s0 := s0) e ?_ fun _ => ?_)
    | ((fail_if_success (conv => arg 2; fun)); extract_lets +onlyGivenNames y)
    | with_reducible first | assumption | apply State.setBit_same | apply State.clockFault_same nM nD nL | apply State.dieFails_same nM nD nL | apply Same.next
    | split

theorem execDieCe_same {A : Aspect → Prop} {s0 s : State} {d : _} (h : Same A s0 s) :
    SameX A s0 (execDieCe d s) := by
  unfold execDieCe
  repeat' first
    | ((fail_if_success (conv => arg 2; fun)); extract_lets +onlyGivenNames y)
    | with_reducible first | assumption | apply State.addSat_same | apply Same.next
    | split

theorem execKlnInvDataRead_same {A : Aspect → Prop} {s0 s : State} (h : Same A s0 s) :
    SameX A s0 (execKlnInvDataRead s) := by
  unfold execKlnInvDataRead
  repeat' first
    | ((fail_if_success (conv => arg 2; fun)); extract_lets +onlyGivenNames y)
    | with_reducible first | assumption | apply State.addWrap_same | apply Same.next
    | split

/-! ### Control -/

theorem State.showAll_same {A : Aspect → Prop} {s0 s : State} {f l : _} (h : Same A s0 s) :
    Same A s0 (State.showAll s f l) := by
  unfold State.showAll
  repeat' first
    | ((fail_if_success (conv => arg 2; fun)); extract_lets +onlyGivenNames y)
    | with_reducible first | assumption | apply State.setF_same | refine Same.foldl ?_ fun _ _ _ => ?_

theorem State.inputRange_same {A : Aspect → Prop} {s0 s : State} {volt : _} (h : Same A s0 s) :
    Same A s0 (State.inputRange s volt) := by
  unfold State.inputRange
  repeat' first
    | ((fail_if_success (conv => arg 2; fun)); extract_lets +onlyGivenNames y; clear_value (e : y = _); refine Same.letVar (A := A) (s0 := s0) e ?_ fun _ => ?_)
    | ((fail_if_success (conv => arg 2; fun)); extract_lets +onlyGivenNames y)
    | with_reducible first | assumption | apply State.setF_same
    | split

theorem State.latchMeas_same {A : Aspect → Prop} {s0 s : State} {m : _} (h : Same A s0 s) :
    Same A s0 (State.latchMeas s m) := by
  unfold State.latchMeas
  repeat' first
    | ((fail_if_success (conv => arg 2; fun)); extract_lets +onlyGivenNames y; clear_value (e : y = _); refine Same.letVar (A := A) (s0 := s0) e ?_ fun _ => ?_)
    | ((fail_if_success (conv => arg 2; fun)); extract_lets +onlyGivenNames y)
    | with_reducible first | assumption | apply State.setF_same | apply State.takeReadings_same | apply State.takeSources_same | apply State.refresh_same | apply State.refreshLeak_same | apply State.showAll_same | apply State.inputRange_same
    | with_reducible (refine Same.record ?_ (fun _ => ⟨rfl, rfl⟩) (fun _ => rfl) (fun _ => rfl) (fun _ => rfl) fun _ => rfl; first | assumption | apply State.setF_same | apply State.takeReadings_same | apply State.takeSources_same | apply State.refresh_same | apply State.refreshLeak_same | apply State.showAll_same | apply State.inputRange_same)
    | split

theorem State.offTimes_same {A : Aspect → Prop} {s0 s : State} (h : Same A s0 s) :
    Same A s0 (State.offTimes s) := by
  unfold State.offTimes
  repeat' first
    | ((fail_if_success (conv => arg 2; fun)); extract_lets +onlyGivenNames y; clear_value (e : y = _); refine Same.letVar (A := A) (s0 := s0) e ?_ fun _ => ?_)
    | ((fail_if_success (conv => arg 2; fun)); extract_lets +onlyGivenNames y)
    | with_reducible first | assumption | apply State.setF_same | refine Same.foldl ?_ fun _ _ _ => ?_ | refine Same.record ?_ (fun _ => ⟨rfl, rfl⟩) (fun _ => rfl) (fun _ => rfl) (fun _ => rfl) fun _ => rfl

theorem State.suspectZone_same {A : Aspect → Prop} {s0 s : State} {z : _} (h : Same A s0 s) :
    Same A s0 (State.suspectZone s z) := by
  unfold State.suspectZone
  repeat' first
    | ((fail_if_success (conv => arg 2; fun)); extract_lets +onlyGivenNames y; clear_value (e : y = _); refine Same.letVar (A := A) (s0 := s0) e ?_ fun _ => ?_)
    | ((fail_if_success (conv => arg 2; fun)); extract_lets +onlyGivenNames y)
    | with_reducible first | assumption | apply State.refresh_same | apply State.refactor_same | apply State.coolEvent_same
    | with_reducible (refine Same.record ?_ (fun _ => ⟨rfl, rfl⟩) (fun _ => rfl) (fun _ => rfl) (fun _ => rfl) fun _ => rfl; first | assumption | apply State.refresh_same | apply State.refactor_same | apply State.coolEvent_same)
    | split

theorem State.endFalls_same {A : Aspect → Prop} {s0 s : State} (h : Same A s0 s) :
    Same A s0 (State.endFalls s) := by
  unfold State.endFalls
  repeat' first
    | ((fail_if_success (conv => arg 2; fun)); extract_lets +onlyGivenNames y; clear_value (e : y = _); refine Same.letVar (A := A) (s0 := s0) e ?_ fun _ => ?_)
    | ((fail_if_success (conv => arg 2; fun)); extract_lets +onlyGivenNames y)
    | with_reducible first | assumption | apply State.dropProtect_same
    | split

theorem State.stackHot_same {A : Aspect → Prop} {s0 s : State} {k : _} (h : Same A s0 s) :
    Same A s0 (State.stackHot s k) := by
  unfold State.stackHot
  repeat' first
    | ((fail_if_success (conv => arg 2; fun)); extract_lets +onlyGivenNames y)
    | with_reducible first | assumption
    | with_reducible (refine Same.record ?_ (fun _ => ⟨rfl, rfl⟩) (fun _ => rfl) (fun _ => rfl) (fun _ => rfl) fun _ => rfl; first | assumption)
    | split

theorem State.dieTherm_same {A : Aspect → Prop} {s0 s : State} {n : _} (h : Same A s0 s) :
    Same A s0 (State.dieTherm s n) := by
  unfold State.dieTherm
  repeat' first
    | ((fail_if_success (conv => arg 2; fun)); extract_lets +onlyGivenNames y; clear_value (e : y = _); refine Same.letVar (A := A) (s0 := s0) e ?_ fun _ => ?_)
    | ((fail_if_success (conv => arg 2; fun)); extract_lets +onlyGivenNames y)
    | with_reducible first | assumption | apply State.modDie_same
    | split

theorem State.moveTset_same {A : Aspect → Prop} {s0 s : State} {n : _} (h : Same A s0 s) :
    Same A s0 (State.moveTset s n) := by
  unfold State.moveTset
  repeat' first
    | ((fail_if_success (conv => arg 2; fun)); extract_lets +onlyGivenNames y)
    | with_reducible first | assumption | apply State.setF_same | apply State.modDie_same
    | split

theorem State.thermalCycle_same {A : Aspect → Prop} {s0 s : State} (h : Same A s0 s) :
    Same A s0 (State.thermalCycle s) := by
  unfold State.thermalCycle
  repeat' first
    | ((fail_if_success (conv => arg 2; fun)); extract_lets +onlyGivenNames y; clear_value (e : y = _); refine Same.letVar (A := A) (s0 := s0) e ?_ fun _ => ?_)
    | ((fail_if_success (conv => arg 2; fun)); extract_lets +onlyGivenNames y)
    | with_reducible first | assumption | apply State.setThermal_same | apply State.endFalls_same | apply State.stackHot_same | apply State.dieTherm_same | apply State.moveTset_same | refine Same.foldl ?_ fun _ _ _ => ?_

theorem State.capReport_same {A : Aspect → Prop} {s0 s : State} (h : Same A s0 s) :
    Same A s0 (State.capReport s) := by
  unfold State.capReport
  repeat' first
    | ((fail_if_success (conv => arg 2; fun)); extract_lets +onlyGivenNames y)
    | with_reducible first | assumption | apply State.sendCapStatus_same
    | with_reducible (refine Same.record ?_ (fun _ => ⟨rfl, rfl⟩) (fun _ => rfl) (fun _ => rfl) (fun _ => rfl) fun _ => rfl; first | assumption | apply State.sendCapStatus_same)
    | split

theorem State.capCycle_same {A : Aspect → Prop} (nL : ¬A .live) {s0 s : State} (h : Same A s0 s) :
    Same A s0 (State.capCycle s) := by
  unfold State.capCycle
  repeat' first
    | ((fail_if_success (conv => arg 2; fun)); extract_lets +onlyGivenNames y; clear_value (e : y = _); refine Same.letVar (A := A) (s0 := s0) e ?_ fun _ => ?_)
    | ((fail_if_success (conv => arg 2; fun)); extract_lets +onlyGivenNames y)
    | with_reducible first | assumption | apply State.setFlag_same | apply State.setApplied_same | apply State.divideCaps_same | apply State.bindingCheck_same | apply State.takeWeights_same nL | apply State.capReport_same | refine Same.record ?_ (fun _ => ⟨rfl, rfl⟩) (fun _ => rfl) (fun _ => rfl) (fun _ => rfl) fun _ => rfl

theorem State.ageCycle_same {A : Aspect → Prop} {s0 s : State} (h : Same A s0 s) :
    Same A s0 (State.ageCycle s) := by
  unfold State.ageCycle
  repeat' first
    | ((fail_if_success (conv => arg 2; fun)); extract_lets +onlyGivenNames y; clear_value (e : y = _); refine Same.letVar (A := A) (s0 := s0) e ?_ fun _ => ?_)
    | ((fail_if_success (conv => arg 2; fun)); extract_lets +onlyGivenNames y)
    | with_reducible first | assumption | apply State.addSat_same | apply State.add64_same
    | with_reducible (refine Same.record ?_ (fun _ => ⟨rfl, rfl⟩) (fun _ => rfl) (fun _ => rfl) (fun _ => rfl) fun _ => rfl; first | assumption | apply State.addSat_same | apply State.add64_same)
    | split

theorem State.markFramed_same {A : Aspect → Prop} {s0 s : State} {k r : _} (h : Same A s0 s) :
    Same A s0 (State.markFramed s k r) := by
  unfold State.markFramed
  repeat' first
    | with_reducible first | assumption
    | with_reducible (refine Same.record ?_ (fun _ => ⟨rfl, rfl⟩) (fun _ => rfl) (fun _ => rfl) (fun _ => rfl) fun _ => rfl; first | assumption)
    | split

theorem State.applyExtent_same {A : Aspect → Prop} {s0 s : State} {data : _} (h : Same A s0 s) :
    Same A s0 (State.applyExtent s data) := by
  unfold State.applyExtent
  repeat' first
    | ((fail_if_success (conv => arg 2; fun)); extract_lets +onlyGivenNames y)
    | with_reducible first | assumption
    | with_reducible (refine Same.record ?_ (fun _ => ⟨rfl, rfl⟩) (fun _ => rfl) (fun _ => rfl) (fun _ => rfl) fun _ => rfl; first | assumption)
    | split

theorem State.sendJournal_same {A : Aspect → Prop} {s0 s : State} (h : Same A s0 s) :
    Same A s0 (State.sendJournal s) := by
  unfold State.sendJournal
  repeat' first
    | ((fail_if_success (conv => arg 2; fun)); extract_lets +onlyGivenNames y; clear_value (e : y = _); refine Same.letVar (A := A) (s0 := s0) e ?_ fun _ => ?_)
    | ((fail_if_success (conv => arg 2; fun)); extract_lets +onlyGivenNames y)
    | with_reducible first | assumption | apply State.mbxRespond_same | apply State.applyExtent_same
    | with_reducible (refine Same.record ?_ (fun _ => ⟨rfl, rfl⟩) (fun _ => rfl) (fun _ => rfl) (fun _ => rfl) fun _ => rfl; first | assumption | apply State.mbxRespond_same | apply State.applyExtent_same)
    | split

theorem State.sendStateFrame_same {A : Aspect → Prop} {s0 s : State} {k final : _} (h : Same A s0 s) :
    Same A s0 (State.sendStateFrame s k final) := by
  unfold State.sendStateFrame
  repeat' first
    | ((fail_if_success (conv => arg 2; fun)); extract_lets +onlyGivenNames y; clear_value (e : y = _); refine Same.letVar (A := A) (s0 := s0) e ?_ fun _ => ?_)
    | ((fail_if_success (conv => arg 2; fun)); extract_lets +onlyGivenNames y)
    | with_reducible first | assumption | apply State.markFramed_same | apply State.sendJournal_same | refine Same.record ?_ (fun _ => ⟨rfl, rfl⟩) (fun _ => rfl) (fun _ => rfl) (fun _ => rfl) fun _ => rfl

theorem State.ageCopy_same {A : Aspect → Prop} {s0 s : State} {k : _} (h : Same A s0 s) :
    Same A s0 (State.ageCopy s k) := by
  unfold State.ageCopy
  repeat' first
    | with_reducible first | assumption | apply State.setAge_same
    | split

theorem State.selfCheck_same {A : Aspect → Prop} {s0 s : State} {k c : _} (h : Same A s0 s) :
    Same A s0 (State.selfCheck s k c) := by
  unfold State.selfCheck
  repeat' first
    | ((fail_if_success (conv => arg 2; fun)); extract_lets +onlyGivenNames y; clear_value (e : y = _); refine Same.letVar (A := A) (s0 := s0) e ?_ fun _ => ?_)
    | ((fail_if_success (conv => arg 2; fun)); extract_lets +onlyGivenNames y)
    | with_reducible first | assumption | apply State.addSat_same | apply State.modKiln_same | apply State.setHealthBit_same
    | split

theorem State.keepAlert_same {A : Aspect → Prop} {s0 s : State} {k : _} (h : Same A s0 s) :
    Same A s0 (State.keepAlert s k) := by
  unfold State.keepAlert
  repeat' first
    | with_reducible first | assumption | apply State.alertSet_same | apply State.alertClear_same
    | split

theorem State.endCycle_same {A : Aspect → Prop} (nO : ¬A .own) {s0 s : State} {k c : _} (h : Same A s0 s) :
    Same A s0 (State.endCycle s k c) := by
  unfold State.endCycle
  repeat' first
    | ((fail_if_success (conv => arg 2; fun)); extract_lets +onlyGivenNames y; clear_value (e : y = _); refine Same.letVar (A := A) (s0 := s0) e ?_ fun _ => ?_)
    | ((fail_if_success (conv => arg 2; fun)); extract_lets +onlyGivenNames y)
    | with_reducible first | assumption | apply State.release_same nO | apply State.sendStateFrame_same | apply State.ageCopy_same | apply State.selfCheck_same | apply State.keepAlert_same
    | with_reducible (refine Same.record ?_ (fun _ => ⟨rfl, rfl⟩) (fun _ => rfl) (fun _ => rfl) (fun _ => rfl) fun _ => rfl; first | assumption | apply State.release_same nO | apply State.sendStateFrame_same | apply State.ageCopy_same | apply State.selfCheck_same | apply State.keepAlert_same)
    | split

theorem State.rejectImages_same {A : Aspect → Prop} {s0 s : State} (h : Same A s0 s) :
    Same A s0 (State.rejectImages s) := by
  unfold State.rejectImages
  repeat' first
    | ((fail_if_success (conv => arg 2; fun)); extract_lets +onlyGivenNames y)
    | with_reducible first | assumption | apply State.post_same | apply State.setImgState_same | refine Same.foldl ?_ fun _ _ _ => ?_
    | split

theorem State.heartbeats_same {A : Aspect → Prop} {s0 s : State} {moved : _} (h : Same A s0 s) :
    Same A s0 (State.heartbeats s moved) := by
  unfold State.heartbeats
  repeat' first
    | ((fail_if_success (conv => arg 2; fun)); extract_lets +onlyGivenNames y)
    | with_reducible first | assumption | apply State.setBit_same | refine Same.foldl ?_ fun _ _ _ => ?_
    | split

theorem execControlCycle_same {A : Aspect → Prop} (nM : ¬A .mem) (nD : ¬A .dom) (nL : ¬A .live) (nO : ¬A .own) {s0 s : State} {m checks : _} (h : Same A s0 s) :
    SameX A s0 (execControlCycle m checks s) := by
  unfold execControlCycle
  repeat' first
    | ((fail_if_success (conv => arg 2; fun)); extract_lets +onlyGivenNames y; clear_value (e : y = _); refine Same.letVar (A := A) (s0 := s0) e ?_ fun _ => ?_)
    | ((fail_if_success (conv => arg 2; fun)); extract_lets +onlyGivenNames y)
    | with_reducible first | assumption | apply State.copyMoves_same | apply State.sendSummary_same | apply State.beginPeriod_same | apply State.configCommit_same nM nD nL | apply State.showProgress_same | apply State.latchMeas_same | apply State.offTimes_same | apply State.suspectZone_same | apply State.thermalCycle_same | apply State.capCycle_same nL | apply State.ageCycle_same | apply State.ageCopy_same | apply State.endCycle_same nO | apply State.rejectImages_same | apply State.heartbeats_same | apply Same.next | refine Same.foldl ?_ fun _ _ _ => ?_
    | split

theorem execStackHotEscalate_same {A : Aspect → Prop} {s0 s : State} {k : _} (h : Same A s0 s) :
    SameX A s0 (execStackHotEscalate k s) := by
  unfold execStackHotEscalate
  repeat' first
    | ((fail_if_success (conv => arg 2; fun)); extract_lets +onlyGivenNames y)
    | with_reducible first | assumption | apply Same.next
    | with_reducible (refine Same.record ?_ (fun _ => ⟨rfl, rfl⟩) (fun _ => rfl) (fun _ => rfl) (fun _ => rfl) fun _ => rfl; first | assumption | apply Same.next)
    | split

/-! ### SelfTest -/

theorem State.markSlice_same {A : Aspect → Prop} {s0 s : State} {die : _} (h : Same A s0 s) :
    Same A s0 (State.markSlice s die) := by
  unfold State.markSlice
  repeat' first
    | ((fail_if_success (conv => arg 2; fun)); extract_lets +onlyGivenNames y)
    | with_reducible first | assumption
    | with_reducible (refine Same.record ?_ (fun _ => ⟨rfl, rfl⟩) (fun _ => rfl) (fun _ => rfl) (fun _ => rfl) fun _ => rfl; first | assumption)
    | split

theorem State.enterSlice_same {A : Aspect → Prop} {s0 s : State} {c : _} (h : Same A s0 s) :
    Same A s0 (State.enterSlice s c) := by
  unfold State.enterSlice
  repeat' first
    | ((fail_if_success (conv => arg 2; fun)); extract_lets +onlyGivenNames y; clear_value (e : y = _); refine Same.letVar (A := A) (s0 := s0) e ?_ fun _ => ?_)
    | ((fail_if_success (conv => arg 2; fun)); extract_lets +onlyGivenNames y)
    | with_reducible first | assumption | apply State.modCl_same | apply State.ungateCluster_same
    | split

theorem execSliceStart_same {A : Aspect → Prop} {s0 s : State} {kind unit : _} (h : Same A s0 s) :
    SameX A s0 (execSliceStart kind unit s) := by
  unfold execSliceStart
  repeat' first
    | ((fail_if_success (conv => arg 2; fun)); extract_lets +onlyGivenNames y; clear_value (e : y = _); refine Same.letVar (A := A) (s0 := s0) e ?_ fun _ => ?_)
    | ((fail_if_success (conv => arg 2; fun)); extract_lets +onlyGivenNames y)
    | with_reducible first | assumption | apply State.served_same | apply State.markSlice_same | apply State.enterSlice_same | apply Same.next
    | with_reducible (refine Same.record ?_ (fun _ => ⟨rfl, rfl⟩) (fun _ => rfl) (fun _ => rfl) (fun _ => rfl) fun _ => rfl; first | assumption | apply State.served_same | apply State.markSlice_same | apply State.enterSlice_same | apply Same.next)
    | split

theorem State.endClusterSlice_same {A : Aspect → Prop} {s0 s : State} {c : _} (h : Same A s0 s) :
    Same A s0 (State.endClusterSlice s c) := by
  unfold State.endClusterSlice
  repeat' first
    | ((fail_if_success (conv => arg 2; fun)); extract_lets +onlyGivenNames y)
    | with_reducible first | assumption | apply State.modCl_same | apply State.gateCluster_same
    | split

theorem State.sensorsFail_same {A : Aspect → Prop} {s0 s : State} {ids why : _} (h : Same A s0 s) :
    Same A s0 (State.sensorsFail s ids why) := by
  unfold State.sensorsFail
  repeat' first
    | ((fail_if_success (conv => arg 2; fun)); extract_lets +onlyGivenNames y; clear_value (e : y = _); refine Same.letVar (A := A) (s0 := s0) e ?_ fun _ => ?_)
    | ((fail_if_success (conv => arg 2; fun)); extract_lets +onlyGivenNames y)
    | with_reducible first | assumption | apply State.refresh_same | apply State.refactor_same | apply State.coolEvent_same | apply State.substitute_same | apply State.sensEvent_same | refine Same.foldl ?_ fun _ _ _ => ?_
    | split

theorem State.sliceFails_same {A : Aspect → Prop} {s0 s : State} {kind c : _} (h : Same A s0 s) :
    Same A s0 (State.sliceFails s kind c) := by
  unfold State.sliceFails
  repeat' first
    | ((fail_if_success (conv => arg 2; fun)); extract_lets +onlyGivenNames y; clear_value (e : y = _); refine Same.letVar (A := A) (s0 := s0) e ?_ fun _ => ?_)
    | ((fail_if_success (conv => arg 2; fun)); extract_lets +onlyGivenNames y)
    | with_reducible first | assumption | apply State.modCl_same | apply State.addRepair_same | apply State.testEvent_same | apply State.clustersGone_same
    | split

theorem State.sliceResult_same {A : Aspect → Prop} {s0 s : State} {kind unit bad : _} (h : Same A s0 s) :
    Same A s0 (State.sliceResult s kind unit bad) := by
  unfold State.sliceResult
  repeat' first
    | ((fail_if_success (conv => arg 2; fun)); extract_lets +onlyGivenNames y; clear_value (e : y = _); refine Same.letVar (A := A) (s0 := s0) e ?_ fun _ => ?_)
    | ((fail_if_success (conv => arg 2; fun)); extract_lets +onlyGivenNames y)
    | with_reducible first | assumption | apply State.setF_same | apply State.sensorsFail_same | apply State.sliceFails_same
    | with_reducible (refine Same.record ?_ (fun _ => ⟨rfl, rfl⟩) (fun _ => rfl) (fun _ => rfl) (fun _ => rfl) fun _ => rfl; first | assumption | apply State.setF_same | apply State.sensorsFail_same | apply State.sliceFails_same)
    | split

theorem State.slicePass_same {A : Aspect → Prop} {s0 s : State} {kind unit bad : _} (h : Same A s0 s) :
    Same A s0 (State.slicePass s kind unit bad) := by
  unfold State.slicePass
  repeat' first
    | ((fail_if_success (conv => arg 2; fun)); extract_lets +onlyGivenNames y)
    | with_reducible first | assumption | apply State.modCl_same
    | with_reducible (refine Same.record ?_ (fun _ => ⟨rfl, rfl⟩) (fun _ => rfl) (fun _ => rfl) (fun _ => rfl) fun _ => rfl; first | assumption | apply State.modCl_same)
    | split

theorem State.sliceLeft_same {A : Aspect → Prop} {s0 s : State} {kind unit : _} (h : Same A s0 s) :
    Same A s0 (State.sliceLeft s kind unit) := by
  unfold State.sliceLeft
  repeat' first
    | with_reducible first | assumption | apply State.endClusterSlice_same
    | split

theorem execSliceEnd_same {A : Aspect → Prop} {s0 s : State} {kind unit pass bad : _} (h : Same A s0 s) :
    SameX A s0 (execSliceEnd kind unit pass bad s) := by
  unfold execSliceEnd
  repeat' first
    | ((fail_if_success (conv => arg 2; fun)); extract_lets +onlyGivenNames y; clear_value (e : y = _); refine Same.letVar (A := A) (s0 := s0) e ?_ fun _ => ?_)
    | ((fail_if_success (conv => arg 2; fun)); extract_lets +onlyGivenNames y)
    | with_reducible first | assumption | apply State.setF_same | apply State.addWrap_same | apply State.addSat_same | apply State.testEvent_same | apply State.sliceResult_same | apply State.slicePass_same | apply State.sliceLeft_same | apply Same.next
    | with_reducible (refine Same.record ?_ (fun _ => ⟨rfl, rfl⟩) (fun _ => rfl) (fun _ => rfl) (fun _ => rfl) fun _ => rfl; first | assumption | apply State.setF_same | apply State.addWrap_same | apply State.addSat_same | apply State.testEvent_same | apply State.sliceResult_same | apply State.slicePass_same | apply State.sliceLeft_same | apply Same.next)
    | split

theorem execSchedAging_same {A : Aspect → Prop} {s0 s : State} {a : _} (h : Same A s0 s) :
    SameX A s0 (execSchedAging a s) := by
  unfold execSchedAging
  repeat' first
    | ((fail_if_success (conv => arg 2; fun)); extract_lets +onlyGivenNames y; clear_value (e : y = _); refine Same.letVar (A := A) (s0 := s0) e ?_ fun _ => ?_)
    | ((fail_if_success (conv => arg 2; fun)); extract_lets +onlyGivenNames y)
    | with_reducible first | assumption | apply State.setF_same | apply State.testEvent_same | apply Same.next
    | with_reducible (refine Same.record ?_ (fun _ => ⟨rfl, rfl⟩) (fun _ => rfl) (fun _ => rfl) (fun _ => rfl) fun _ => rfl; first | assumption | apply State.setF_same | apply State.testEvent_same | apply Same.next)
    | split

theorem execClusterAbsent_same {A : Aspect → Prop} {s0 s : State} {c : _} (h : Same A s0 s) :
    SameX A s0 (execClusterAbsent c s) := by
  unfold execClusterAbsent
  repeat' first
    | ((fail_if_success (conv => arg 2; fun)); extract_lets +onlyGivenNames y)
    | with_reducible first | assumption | apply State.gateCluster_same | apply State.makeAbsent_same | apply Same.next
    | split

theorem execClusterRemap_same {A : Aspect → Prop} {s0 s : State} {l : _} (h : Same A s0 s) :
    SameX A s0 (execClusterRemap l s) := by
  unfold execClusterRemap
  repeat' first
    | ((fail_if_success (conv => arg 2; fun)); extract_lets +onlyGivenNames y)
    | with_reducible first | assumption | apply State.remap_same | apply Same.next
    | split

end Sys2Proof.Machine
end

