-- ==== Sys2Proof/Laws/SameHost.lean ====
section
/-!
SUPPORT. The mailbox and the host link leave what Laws/Same.lean names.
-/

namespace Sys2Proof.Machine

set_option linter.all false

/-! ### MailboxOps -/

theorem State.sendReport_same {A : Aspect → Prop} {s0 s : State} {z0 z2 z3 : _} (h : Same A s0 s) :
    Same A s0 (State.sendReport z0 s z2 z3) := by
  induction z0 generalizing s z2 z3 with
  | zero =>
    unfold State.sendReport
    repeat' first
      | ((fail_if_success (conv => arg 2; fun)); extract_lets +onlyGivenNames y)
      | with_reducible first | assumption | apply State.hostWrite_same | apply ih
      | split
  | succ n ih =>
    unfold State.sendReport
    repeat' first
      | ((fail_if_success (conv => arg 2; fun)); extract_lets +onlyGivenNames y)
      | with_reducible first | assumption | apply State.hostWrite_same | apply ih
      | split

theorem State.configureApply_same {A : Aspect → Prop} (nM : ¬A .mem) (nD : ¬A .dom) (nL : ¬A .live) (nT : ¬A .otp) {s0 s : State} {l part src hdr : _} (h : Same A s0 s) :
    Same A s0 (State.configureApply s l part src hdr) := by
  unfold State.configureApply
  repeat' first
    | ((fail_if_success (conv => arg 2; fun)); extract_lets +onlyGivenNames y)
    | with_reducible first | assumption | apply State.lastVerify_same | apply State.programOtp_same nT | apply State.applyConfig_same nM nD nL | apply State.mbxRan_same | refine Same.eqF (by assumption) ?_
    | with_reducible (refine Same.record ?_ (fun _ => ⟨rfl, rfl⟩) (fun _ => rfl) (fun _ => rfl) (fun _ => rfl) fun _ => rfl; first | assumption | apply State.lastVerify_same | apply State.programOtp_same nT | apply State.applyConfig_same nM nD nL | apply State.mbxRan_same | refine Same.eqF (by assumption) ?_)
    | split

theorem State.configureImage_same {A : Aspect → Prop} (nM : ¬A .mem) (nD : ¬A .dom) (nL : ¬A .live) (nT : ¬A .otp) {s0 s : State} {img room part src readOk : _} (h : Same A s0 s) :
    Same A s0 (State.configureImage s img room part src readOk) := by
  unfold State.configureImage
  repeat' first
    | ((fail_if_success (conv => arg 2; fun)); extract_lets +onlyGivenNames y; clear_value (e : y = _); refine Same.letVar (A := A) (s0 := s0) e ?_ fun _ => ?_)
    | ((fail_if_success (conv => arg 2; fun)); extract_lets +onlyGivenNames y)
    | with_reducible first | assumption | apply State.lastVerify_same | apply State.verifiedEvent_same | apply State.mbxRan_same | apply State.configureApply_same nM nD nL nT
    | with_reducible (refine Same.record ?_ (fun _ => ⟨rfl, rfl⟩) (fun _ => rfl) (fun _ => rfl) (fun _ => rfl) fun _ => rfl; first | assumption | apply State.lastVerify_same | apply State.verifiedEvent_same | apply State.mbxRan_same | apply State.configureApply_same nM nD nL nT)
    | split

theorem State.configure_same {A : Aspect → Prop} (nM : ¬A .mem) (nD : ¬A .dom) (nL : ¬A .live) (nT : ¬A .otp) {s0 s : State} {readOk mecc : _} (h : Same A s0 s) :
    Same A s0 (State.configure s readOk mecc) := by
  unfold State.configure
  repeat' first
    | ((fail_if_success (conv => arg 2; fun)); extract_lets +onlyGivenNames y)
    | with_reducible first | assumption | apply State.memRead_same nM | apply State.norRefuse_same | apply State.mbxRan_same | apply State.configureImage_same nM nD nL nT | refine Same.eqF (by assumption) ?_
    | with_reducible (refine Same.record ?_ (fun _ => ⟨rfl, rfl⟩) (fun _ => rfl) (fun _ => rfl) (fun _ => rfl) fun _ => rfl; first | assumption | apply State.memRead_same nM | apply State.norRefuse_same | apply State.mbxRan_same | apply State.configureImage_same nM nD nL nT | refine Same.eqF (by assumption) ?_)
    | split

theorem State.writePartition_same {A : Aspect → Prop} {s0 s : State} {target img : _} (h : Same A s0 s) :
    Same A s0 (State.writePartition s target img) := by
  unfold State.writePartition
  repeat' first
    | ((fail_if_success (conv => arg 2; fun)); extract_lets +onlyGivenNames y; clear_value (e : y = _); refine Same.letVar (A := A) (s0 := s0) e ?_ fun _ => ?_)
    | ((fail_if_success (conv => arg 2; fun)); extract_lets +onlyGivenNames y)
    | with_reducible first | assumption | apply State.setF_same | apply State.setImgState_same
    | with_reducible (refine Same.record ?_ (fun _ => ⟨rfl, rfl⟩) (fun _ => rfl) (fun _ => rfl) (fun _ => rfl) fun _ => rfl; first | assumption | apply State.setF_same | apply State.setImgState_same)
    | split

theorem State.erasePartition_same {A : Aspect → Prop} {s0 s : State} {target : _} (h : Same A s0 s) :
    Same A s0 (State.erasePartition s target) := by
  unfold State.erasePartition
  repeat' first
    | ((fail_if_success (conv => arg 2; fun)); extract_lets +onlyGivenNames y)
    | with_reducible first | assumption | refine Same.record ?_ (fun _ => ⟨rfl, rfl⟩) (fun _ => rfl) (fun _ => rfl) (fun _ => rfl) fun _ => rfl

theorem State.updateImage_same {A : Aspect → Prop} {s0 s : State} {target img readOk writeOk : _} (h : Same A s0 s) :
    Same A s0 (State.updateImage s target img readOk writeOk) := by
  unfold State.updateImage
  repeat' first
    | ((fail_if_success (conv => arg 2; fun)); extract_lets +onlyGivenNames y; clear_value (e : y = _); refine Same.letVar (A := A) (s0 := s0) e ?_ fun _ => ?_)
    | ((fail_if_success (conv => arg 2; fun)); extract_lets +onlyGivenNames y)
    | with_reducible first | assumption | apply State.verifiedEvent_same | apply State.mbxRan_same | apply State.writePartition_same | apply State.erasePartition_same
    | split

theorem State.imageUpdate_same {A : Aspect → Prop} (nM : ¬A .mem) {s0 s : State} {readOk writeOk mecc : _} (h : Same A s0 s) :
    Same A s0 (State.imageUpdate s readOk writeOk mecc) := by
  unfold State.imageUpdate
  repeat' first
    | ((fail_if_success (conv => arg 2; fun)); extract_lets +onlyGivenNames y)
    | with_reducible first | assumption | apply State.memRead_same nM | apply State.norRefuse_same | apply State.mbxRan_same | apply State.updateImage_same | refine Same.eqF (by assumption) ?_
    | with_reducible (refine Same.record ?_ (fun _ => ⟨rfl, rfl⟩) (fun _ => rfl) (fun _ => rfl) (fun _ => rfl) fun _ => rfl; first | assumption | apply State.memRead_same nM | apply State.norRefuse_same | apply State.mbxRan_same | apply State.updateImage_same | refine Same.eqF (by assumption) ?_)
    | split

theorem State.testRow_same {A : Aspect → Prop} {s0 s : State} {p : _} (h : Same A s0 s) :
    SameF A s0 (State.testRow s p) := by
  unfold State.testRow
  repeat' first
    | ((fail_if_success (conv => arg 2; fun)); extract_lets +onlyGivenNames y)
    | with_reducible first | assumption | apply State.addRepair_same | apply State.leaveRow_same
    | split
    | with_reducible apply Same.mkF

theorem State.testPairs_same {A : Aspect → Prop} {s0 s : State} {rows z2 : _} (h : Same A s0 s) :
    SameF A s0 (State.testPairs s rows z2) := by
  induction z2 generalizing s rows with
  | nil =>
    unfold State.testPairs
    repeat' first
      | ((fail_if_success (conv => arg 2; fun)); extract_lets +onlyGivenNames y)
      | with_reducible first | assumption | apply State.testRow_same | apply ih | refine Same.eqF (by assumption) ?_
      | with_reducible (refine Same.record ?_ (fun _ => ⟨rfl, rfl⟩) (fun _ => rfl) (fun _ => rfl) (fun _ => rfl) fun _ => rfl; first | assumption | apply State.testRow_same | apply ih | refine Same.eqF (by assumption) ?_)
      | split
      | with_reducible apply Same.mkF
  | cons hd tl ih =>
    unfold State.testPairs
    repeat' first
      | ((fail_if_success (conv => arg 2; fun)); extract_lets +onlyGivenNames y)
      | with_reducible first | assumption | apply State.testRow_same | apply ih | refine Same.eqF (by assumption) ?_
      | with_reducible (refine Same.record ?_ (fun _ => ⟨rfl, rfl⟩) (fun _ => rfl) (fun _ => rfl) (fun _ => rfl) fun _ => rfl; first | assumption | apply State.testRow_same | apply ih | refine Same.eqF (by assumption) ?_)
      | split
      | with_reducible apply Same.mkF

theorem State.runMemTest_same {A : Aspect → Prop} (nM : ¬A .mem) {s0 s : State} {mask host space found : _} (h : Same A s0 s) :
    Same A s0 (State.runMemTest s mask host space found) := by
  unfold State.runMemTest
  repeat' first
    | ((fail_if_success (conv => arg 2; fun)); extract_lets +onlyGivenNames y; clear_value (e : y = _); refine Same.letVar (A := A) (s0 := s0) e ?_ fun _ => ?_)
    | ((fail_if_success (conv => arg 2; fun)); extract_lets +onlyGivenNames y)
    | with_reducible first | assumption | apply State.loseStacks_same nM | apply State.mbxRan_same | apply State.sendReport_same | refine Same.ofF (State.testPairs_same ?_)

theorem State.memTest_same {A : Aspect → Prop} (nM : ¬A .mem) {s0 s : State} {found : _} (h : Same A s0 s) :
    Same A s0 (State.memTest s found) := by
  unfold State.memTest
  repeat' first
    | ((fail_if_success (conv => arg 2; fun)); extract_lets +onlyGivenNames y)
    | with_reducible first | assumption | apply State.mbxRan_same | apply State.runMemTest_same nM
    | split

theorem State.resume_same {A : Aspect → Prop} {s0 s : State} (h : Same A s0 s) :
    Same A s0 (State.resume s) := by
  unfold State.resume
  repeat' first
    | ((fail_if_success (conv => arg 2; fun)); extract_lets +onlyGivenNames y; clear_value (e : y = _); refine Same.letVar (A := A) (s0 := s0) e ?_ fun _ => ?_)
    | ((fail_if_success (conv => arg 2; fun)); extract_lets +onlyGivenNames y)
    | with_reducible first | assumption | apply State.setF_same | apply State.settle_same | apply State.remapDie_same | refine Same.foldl ?_ fun _ _ _ => ?_
    | with_reducible (refine Same.record ?_ (fun _ => ⟨rfl, rfl⟩) (fun _ => rfl) (fun _ => rfl) (fun _ => rfl) fun _ => rfl; first | assumption | apply State.setF_same | apply State.settle_same | apply State.remapDie_same | refine Same.foldl ?_ fun _ _ _ => ?_)
    | split

theorem State.parkCommand_same {A : Aspect → Prop} {s0 s : State} (h : Same A s0 s) :
    Same A s0 (State.parkCommand s) := by
  unfold State.parkCommand
  repeat' first
    | ((fail_if_success (conv => arg 2; fun)); extract_lets +onlyGivenNames y; clear_value (e : y = _); refine Same.letVar (A := A) (s0 := s0) e ?_ fun _ => ?_)
    | ((fail_if_success (conv => arg 2; fun)); extract_lets +onlyGivenNames y)
    | with_reducible first | assumption | apply State.startDrain_same
    | with_reducible (refine Same.record ?_ (fun _ => ⟨rfl, rfl⟩) (fun _ => rfl) (fun _ => rfl) (fun _ => rfl) fun _ => rfl; first | assumption | apply State.startDrain_same)
    | split

theorem State.memAlloc_same {A : Aspect → Prop} {s0 s : State} (h : Same A s0 s) :
    Same A s0 (State.memAlloc s) := by
  unfold State.memAlloc
  repeat' first
    | ((fail_if_success (conv => arg 2; fun)); extract_lets +onlyGivenNames y)
    | with_reducible first | assumption | apply State.fresh_same | apply State.journalAdd_same | apply State.mbxRespond_same | apply State.mbxRan_same | refine Same.eqG (by assumption) ?_
    | with_reducible (refine Same.record ?_ (fun _ => ⟨rfl, rfl⟩) (fun _ => rfl) (fun _ => rfl) (fun _ => rfl) fun _ => rfl; first | assumption | apply State.fresh_same | apply State.journalAdd_same | apply State.mbxRespond_same | apply State.mbxRan_same | refine Same.eqG (by assumption) ?_)
    | split

theorem State.memFree_same {A : Aspect → Prop} {s0 s : State} (h : Same A s0 s) :
    Same A s0 (State.memFree s) := by
  unfold State.memFree
  repeat' first
    | ((fail_if_success (conv => arg 2; fun)); extract_lets +onlyGivenNames y)
    | with_reducible first | assumption | apply State.journalAdd_same | apply State.mbxRespond_same | apply State.mbxRan_same
    | split

theorem State.attest_same {A : Aspect → Prop} {s0 s : State} (h : Same A s0 s) :
    Same A s0 (State.attest s) := by
  unfold State.attest
  repeat' first
    | ((fail_if_success (conv => arg 2; fun)); extract_lets +onlyGivenNames y)
    | with_reducible first | assumption | apply State.mbxRespond_same | apply State.mbxRan_same | apply State.sendReport_same
    | split

theorem State.caskRead_same {A : Aspect → Prop} {s0 s : State} (h : Same A s0 s) :
    Same A s0 (State.caskRead s) := by
  unfold State.caskRead
  repeat' first
    | ((fail_if_success (conv => arg 2; fun)); extract_lets +onlyGivenNames y)
    | with_reducible first | assumption | apply State.mbxRespond_same | apply State.mbxRan_same | apply State.sendReport_same
    | split

theorem State.handoverCommand_same {A : Aspect → Prop} {s0 s : State} (h : Same A s0 s) :
    Same A s0 (State.handoverCommand s) := by
  unfold State.handoverCommand
  repeat' first
    | ((fail_if_success (conv => arg 2; fun)); extract_lets +onlyGivenNames y)
    | with_reducible first | assumption | apply State.mbxRespond_same | apply State.planHandover_same
    | split

theorem State.mbxExecute_same {A : Aspect → Prop} (nM : ¬A .mem) (nD : ¬A .dom) (nL : ¬A .live) (nT : ¬A .otp) {s0 s : State} {op e : _} (h : Same A s0 s) :
    Same A s0 (State.mbxExecute s op e) := by
  unfold State.mbxExecute
  repeat' first
    | ((fail_if_success (conv => arg 2; fun)); extract_lets +onlyGivenNames y)
    | with_reducible first | assumption | apply State.startDrain_same | apply State.leavePark_same nM nD | apply State.mbxRespond_same | apply State.startRemoval_same | apply State.configure_same nM nD nL nT | apply State.imageUpdate_same nM | apply State.memTest_same nM | apply State.resume_same | apply State.parkCommand_same | apply State.memAlloc_same | apply State.memFree_same | apply State.attest_same | apply State.caskRead_same | apply State.handoverCommand_same
    | split

theorem State.mbxBegun_same {A : Aspect → Prop} {s0 s : State} (h : Same A s0 s) :
    Same A s0 (State.mbxBegun s) := by
  unfold State.mbxBegun
  repeat' first
    | ((fail_if_success (conv => arg 2; fun)); extract_lets +onlyGivenNames y; clear_value (e : y = _); refine Same.letVar (A := A) (s0 := s0) e ?_ fun _ => ?_)
    | ((fail_if_success (conv => arg 2; fun)); extract_lets +onlyGivenNames y)
    | with_reducible first | assumption | apply State.setF_same | refine Same.record ?_ (fun _ => ⟨rfl, rfl⟩) (fun _ => rfl) (fun _ => rfl) (fun _ => rfl) fun _ => rfl

theorem State.mbxStart_same {A : Aspect → Prop} (nM : ¬A .mem) (nD : ¬A .dom) (nL : ¬A .live) (nT : ¬A .otp) {s0 s : State} {e : _} (h : Same A s0 s) :
    Same A s0 (State.mbxStart s e) := by
  unfold State.mbxStart
  repeat' first
    | ((fail_if_success (conv => arg 2; fun)); extract_lets +onlyGivenNames y; clear_value (e : y = _); refine Same.letVar (A := A) (s0 := s0) e ?_ fun _ => ?_)
    | ((fail_if_success (conv => arg 2; fun)); extract_lets +onlyGivenNames y)
    | with_reducible first | assumption | apply State.mbxRespond_same | apply State.mbxRan_same | apply State.mbxExecute_same nM nD nL nT | apply State.mbxBegun_same
    | split

theorem State.doorbell_same {A : Aspect → Prop} (nM : ¬A .mem) (nD : ¬A .dom) (nL : ¬A .live) (nT : ¬A .otp) {s0 s : State} {e : _} (h : Same A s0 s) :
    Same A s0 (State.doorbell s e) := by
  unfold State.doorbell
  repeat' first
    | with_reducible first | assumption | apply State.setF_same | apply State.mbxStart_same nM nD nL nT
    | split

theorem State.ringFor_same {A : Aspect → Prop} (nM : ¬A .mem) (nD : ¬A .dom) (nL : ¬A .live) (nT : ¬A .otp) {s0 s : State} {op e : _} (h : Same A s0 s) :
    Same A s0 (State.ringFor s op e) := by
  unfold State.ringFor
  repeat' first
    | with_reducible first | assumption | apply State.doorbell_same nM nD nL nT
    | split

/-! ### Mailbox -/

theorem execGetInfo_same {A : Aspect → Prop} (nM : ¬A .mem) (nD : ¬A .dom) (nL : ¬A .live) (nT : ¬A .otp) {s0 s : State} (h : Same A s0 s) :
    SameX A s0 (execGetInfo s) := by
  unfold execGetInfo
  repeat' first
    | ((fail_if_success (conv => arg 2; fun)); extract_lets +onlyGivenNames y)
    | with_reducible first | assumption | apply State.ringFor_same nM nD nL nT | apply Same.next

theorem execGetStatus_same {A : Aspect → Prop} (nM : ¬A .mem) (nD : ¬A .dom) (nL : ¬A .live) (nT : ¬A .otp) {s0 s : State} (h : Same A s0 s) :
    SameX A s0 (execGetStatus s) := by
  unfold execGetStatus
  repeat' first
    | ((fail_if_success (conv => arg 2; fun)); extract_lets +onlyGivenNames y)
    | with_reducible first | assumption | apply State.ringFor_same nM nD nL nT | apply Same.next

theorem execConfigure_same {A : Aspect → Prop} (nM : ¬A .mem) (nD : ¬A .dom) (nL : ¬A .live) (nT : ¬A .otp) {s0 s : State} {readOk mecc : _} (h : Same A s0 s) :
    SameX A s0 (execConfigure readOk mecc s) := by
  unfold execConfigure
  repeat' first
    | ((fail_if_success (conv => arg 2; fun)); extract_lets +onlyGivenNames y)
    | with_reducible first | assumption | apply State.ringFor_same nM nD nL nT | apply Same.next

theorem execImageUpdate_same {A : Aspect → Prop} (nM : ¬A .mem) (nD : ¬A .dom) (nL : ¬A .live) (nT : ¬A .otp) {s0 s : State} {readOk writeOk mecc : _} (h : Same A s0 s) :
    SameX A s0 (execImageUpdate readOk writeOk mecc s) := by
  unfold execImageUpdate
  repeat' first
    | ((fail_if_success (conv => arg 2; fun)); extract_lets +onlyGivenNames y)
    | with_reducible first | assumption | apply State.ringFor_same nM nD nL nT | apply Same.next

theorem execMemTest_same {A : Aspect → Prop} (nM : ¬A .mem) (nD : ¬A .dom) (nL : ¬A .live) (nT : ¬A .otp) {s0 s : State} {found : _} (h : Same A s0 s) :
    SameX A s0 (execMemTest found s) := by
  unfold execMemTest
  repeat' first
    | ((fail_if_success (conv => arg 2; fun)); extract_lets +onlyGivenNames y)
    | with_reducible first | assumption | apply State.ringFor_same nM nD nL nT | apply Same.next

theorem execDrain_same {A : Aspect → Prop} (nM : ¬A .mem) (nD : ¬A .dom) (nL : ¬A .live) (nT : ¬A .otp) {s0 s : State} (h : Same A s0 s) :
    SameX A s0 (execDrain s) := by
  unfold execDrain
  repeat' first
    | ((fail_if_success (conv => arg 2; fun)); extract_lets +onlyGivenNames y)
    | with_reducible first | assumption | apply State.ringFor_same nM nD nL nT | apply Same.next

theorem execResume_same {A : Aspect → Prop} (nM : ¬A .mem) (nD : ¬A .dom) (nL : ¬A .live) (nT : ¬A .otp) {s0 s : State} (h : Same A s0 s) :
    SameX A s0 (execResume s) := by
  unfold execResume
  repeat' first
    | ((fail_if_success (conv => arg 2; fun)); extract_lets +onlyGivenNames y)
    | with_reducible first | assumption | apply State.ringFor_same nM nD nL nT | apply Same.next

theorem execPark_same {A : Aspect → Prop} (nM : ¬A .mem) (nD : ¬A .dom) (nL : ¬A .live) (nT : ¬A .otp) {s0 s : State} (h : Same A s0 s) :
    SameX A s0 (execPark s) := by
  unfold execPark
  repeat' first
    | ((fail_if_success (conv => arg 2; fun)); extract_lets +onlyGivenNames y)
    | with_reducible first | assumption | apply State.ringFor_same nM nD nL nT | apply Same.next

theorem execUnpark_same {A : Aspect → Prop} (nM : ¬A .mem) (nD : ¬A .dom) (nL : ¬A .live) (nT : ¬A .otp) {s0 s : State} (h : Same A s0 s) :
    SameX A s0 (execUnpark s) := by
  unfold execUnpark
  repeat' first
    | ((fail_if_success (conv => arg 2; fun)); extract_lets +onlyGivenNames y)
    | with_reducible first | assumption | apply State.ringFor_same nM nD nL nT | apply Same.next

theorem execRemove_same {A : Aspect → Prop} (nM : ¬A .mem) (nD : ¬A .dom) (nL : ¬A .live) (nT : ¬A .otp) {s0 s : State} (h : Same A s0 s) :
    SameX A s0 (execRemove s) := by
  unfold execRemove
  repeat' first
    | ((fail_if_success (conv => arg 2; fun)); extract_lets +onlyGivenNames y)
    | with_reducible first | assumption | apply State.ringFor_same nM nD nL nT | apply Same.next

theorem execMemAlloc_same {A : Aspect → Prop} (nM : ¬A .mem) (nD : ¬A .dom) (nL : ¬A .live) (nT : ¬A .otp) {s0 s : State} (h : Same A s0 s) :
    SameX A s0 (execMemAlloc s) := by
  unfold execMemAlloc
  repeat' first
    | ((fail_if_success (conv => arg 2; fun)); extract_lets +onlyGivenNames y)
    | with_reducible first | assumption | apply State.ringFor_same nM nD nL nT | apply Same.next

theorem execMemFree_same {A : Aspect → Prop} (nM : ¬A .mem) (nD : ¬A .dom) (nL : ¬A .live) (nT : ¬A .otp) {s0 s : State} (h : Same A s0 s) :
    SameX A s0 (execMemFree s) := by
  unfold execMemFree
  repeat' first
    | ((fail_if_success (conv => arg 2; fun)); extract_lets +onlyGivenNames y)
    | with_reducible first | assumption | apply State.ringFor_same nM nD nL nT | apply Same.next

theorem execAttest_same {A : Aspect → Prop} (nM : ¬A .mem) (nD : ¬A .dom) (nL : ¬A .live) (nT : ¬A .otp) {s0 s : State} (h : Same A s0 s) :
    SameX A s0 (execAttest s) := by
  unfold execAttest
  repeat' first
    | ((fail_if_success (conv => arg 2; fun)); extract_lets +onlyGivenNames y)
    | with_reducible first | assumption | apply State.ringFor_same nM nD nL nT | apply Same.next

theorem execCaskRead_same {A : Aspect → Prop} (nM : ¬A .mem) (nD : ¬A .dom) (nL : ¬A .live) (nT : ¬A .otp) {s0 s : State} (h : Same A s0 s) :
    SameX A s0 (execCaskRead s) := by
  unfold execCaskRead
  repeat' first
    | ((fail_if_success (conv => arg 2; fun)); extract_lets +onlyGivenNames y)
    | with_reducible first | assumption | apply State.ringFor_same nM nD nL nT | apply Same.next

theorem execKilnHandover_same {A : Aspect → Prop} (nM : ¬A .mem) (nD : ¬A .dom) (nL : ¬A .live) (nT : ¬A .otp) {s0 s : State} (h : Same A s0 s) :
    SameX A s0 (execKilnHandover s) := by
  unfold execKilnHandover
  repeat' first
    | ((fail_if_success (conv => arg 2; fun)); extract_lets +onlyGivenNames y)
    | with_reducible first | assumption | apply State.ringFor_same nM nD nL nT | apply Same.next

theorem execPartnerQuery_same {A : Aspect → Prop} (nM : ¬A .mem) (nD : ¬A .dom) (nL : ¬A .live) (nT : ¬A .otp) {s0 s : State} (h : Same A s0 s) :
    SameX A s0 (execPartnerQuery s) := by
  unfold execPartnerQuery
  repeat' first
    | ((fail_if_success (conv => arg 2; fun)); extract_lets +onlyGivenNames y)
    | with_reducible first | assumption | apply State.ringFor_same nM nD nL nT | apply Same.next

theorem execMbxLongComplete_same {A : Aspect → Prop} (nM : ¬A .mem) (nD : ¬A .dom) (nL : ¬A .live) {s0 s : State} (h : Same A s0 s) :
    SameX A s0 (execMbxLongComplete s) := by
  unfold execMbxLongComplete
  repeat' first
    | ((fail_if_success (conv => arg 2; fun)); extract_lets +onlyGivenNames y; clear_value (e : y = _); refine Same.letVar (A := A) (s0 := s0) e ?_ fun _ => ?_)
    | ((fail_if_success (conv => arg 2; fun)); extract_lets +onlyGivenNames y)
    | with_reducible first | assumption | apply State.setF_same | apply State.mbxRespond_same | apply State.configCommit_same nM nD nL | apply Same.next
    | split

theorem State.mbxTimeout_same {A : Aspect → Prop} {s0 s : State} (h : Same A s0 s) :
    Same A s0 (State.mbxTimeout s) := by
  unfold State.mbxTimeout
  repeat' first
    | ((fail_if_success (conv => arg 2; fun)); extract_lets +onlyGivenNames y; clear_value (e : y = _); refine Same.letVar (A := A) (s0 := s0) e ?_ fun _ => ?_)
    | ((fail_if_success (conv => arg 2; fun)); extract_lets +onlyGivenNames y)
    | with_reducible first | assumption | apply State.mbxRespond_same | apply State.mbxUndo_same
    | with_reducible (refine Same.record ?_ (fun _ => ⟨rfl, rfl⟩) (fun _ => rfl) (fun _ => rfl) (fun _ => rfl) fun _ => rfl; first | assumption | apply State.mbxRespond_same | apply State.mbxUndo_same)
    | split

theorem execMbxCommandTimeout_same {A : Aspect → Prop} {s0 s : State} (h : Same A s0 s) :
    SameX A s0 (execMbxCommandTimeout s) := by
  unfold execMbxCommandTimeout
  repeat' first
    | ((fail_if_success (conv => arg 2; fun)); extract_lets +onlyGivenNames y)
    | with_reducible first | assumption | apply State.mbxTimeout_same | apply Same.next
    | split

/-! ### HostLink -/

theorem State.commitThl_same {A : Aspect → Prop} (nL : ¬A .live) {s0 s : State} (h : Same A s0 s) :
    Same A s0 (State.commitThl s) := by
  unfold State.commitThl
  repeat' first
    | ((fail_if_success (conv => arg 2; fun)); extract_lets +onlyGivenNames y; clear_value (e : y = _); refine Same.letVar (A := A) (s0 := s0) e ?_ fun _ => ?_)
    | ((fail_if_success (conv => arg 2; fun)); extract_lets +onlyGivenNames y)
    | with_reducible first | assumption | apply State.setF_same | apply State.commitAll_same nL
    | split

theorem execThlCommit_same {A : Aspect → Prop} (nL : ¬A .live) {s0 s : State} (h : Same A s0 s) :
    SameX A s0 (execThlCommit s) := by
  unfold execThlCommit
  repeat' first
    | ((fail_if_success (conv => arg 2; fun)); extract_lets +onlyGivenNames y)
    | with_reducible first | assumption | apply State.commitThl_same nL | apply Same.next
    | split

theorem State.evqCons_same {A : Aspect → Prop} {s0 s : State} {v : _} (h : Same A s0 s) :
    Same A s0 (State.evqCons s v) := by
  unfold State.evqCons
  repeat' first
    | with_reducible first | assumption | apply State.setF_same
    | split

theorem execEvqConsWrite_same {A : Aspect → Prop} {s0 s : State} {value : _} (h : Same A s0 s) :
    SameX A s0 (execEvqConsWrite value s) := by
  unfold execEvqConsWrite
  repeat' first
    | ((fail_if_success (conv => arg 2; fun)); extract_lets +onlyGivenNames y)
    | with_reducible first | assumption | apply State.evqCons_same | apply Same.next
    | split

theorem State.writeOverflow_same {A : Aspect → Prop} {s0 s : State} (h : Same A s0 s) :
    Same A s0 (State.writeOverflow s) := by
  unfold State.writeOverflow
  repeat' first
    | ((fail_if_success (conv => arg 2; fun)); extract_lets +onlyGivenNames y; clear_value (e : y = _); refine Same.letVar (A := A) (s0 := s0) e ?_ fun _ => ?_)
    | ((fail_if_success (conv => arg 2; fun)); extract_lets +onlyGivenNames y)
    | with_reducible first | assumption | apply State.writeEvent_same | apply State.post_same | refine Same.record ?_ (fun _ => ⟨rfl, rfl⟩) (fun _ => rfl) (fun _ => rfl) (fun _ => rfl) fun _ => rfl

theorem State.writeHeld_same {A : Aspect → Prop} {s0 s : State} (h : Same A s0 s) :
    Same A s0 (State.writeHeld s) := by
  unfold State.writeHeld
  repeat' first
    | ((fail_if_success (conv => arg 2; fun)); extract_lets +onlyGivenNames y)
    | with_reducible first | assumption | apply State.writeEvent_same
    | with_reducible (refine Same.record ?_ (fun _ => ⟨rfl, rfl⟩) (fun _ => rfl) (fun _ => rfl) (fun _ => rfl) fun _ => rfl; first | assumption | apply State.writeEvent_same)
    | split

theorem execHeldEventWrite_same {A : Aspect → Prop} {s0 s : State} (h : Same A s0 s) :
    SameX A s0 (execHeldEventWrite s) := by
  unfold execHeldEventWrite
  repeat' first
    | ((fail_if_success (conv => arg 2; fun)); extract_lets +onlyGivenNames y; clear_value (e : y = _); refine Same.letVar (A := A) (s0 := s0) e ?_ fun _ => ?_)
    | ((fail_if_success (conv => arg 2; fun)); extract_lets +onlyGivenNames y)
    | with_reducible first | assumption | apply State.writeOverflow_same | apply State.writeHeld_same | apply Same.next
    | split

theorem execIrqHoldoffExpiry_same {A : Aspect → Prop} {s0 s : State} {v : _} (h : Same A s0 s) :
    SameX A s0 (execIrqHoldoffExpiry v s) := by
  unfold execIrqHoldoffExpiry
  repeat' first
    | ((fail_if_success (conv => arg 2; fun)); extract_lets +onlyGivenNames y; clear_value (e : y = _); refine Same.letVar (A := A) (s0 := s0) e ?_ fun _ => ?_)
    | ((fail_if_success (conv => arg 2; fun)); extract_lets +onlyGivenNames y)
    | with_reducible first | assumption | apply State.sendHost_same | apply Same.next
    | with_reducible (refine Same.record ?_ (fun _ => ⟨rfl, rfl⟩) (fun _ => rfl) (fun _ => rfl) (fun _ => rfl) fun _ => rfl; first | assumption | apply State.sendHost_same | apply Same.next)
    | split

theorem execHostWatchdogExpiry_same {A : Aspect → Prop} {s0 s : State} (h : Same A s0 s) :
    SameX A s0 (execHostWatchdogExpiry s) := by
  unfold execHostWatchdogExpiry
  repeat' first
    | ((fail_if_success (conv => arg 2; fun)); extract_lets +onlyGivenNames y; clear_value (e : y = _); refine Same.letVar (A := A) (s0 := s0) e ?_ fun _ => ?_)
    | ((fail_if_success (conv => arg 2; fun)); extract_lets +onlyGivenNames y)
    | with_reducible first | assumption | apply State.setF_same | apply State.postMod_same | apply State.parkCommand_same | apply Same.next
    | split

theorem State.hostBeat_same {A : Aspect → Prop} {s0 s : State} (h : Same A s0 s) :
    Same A s0 (State.hostBeat s) := by
  unfold State.hostBeat
  repeat' first
    | ((fail_if_success (conv => arg 2; fun)); extract_lets +onlyGivenNames y)
    | with_reducible first | assumption | apply State.setF_same | apply State.sendModuleEvent_same
    | split

theorem execHostHeartbeat_same {A : Aspect → Prop} {s0 s : State} (h : Same A s0 s) :
    SameX A s0 (execHostHeartbeat s) := by
  unfold execHostHeartbeat
  repeat' first
    | ((fail_if_success (conv => arg 2; fun)); extract_lets +onlyGivenNames y)
    | with_reducible first | assumption | apply State.hostBeat_same | apply Same.next
    | split

theorem State.thlRetrain_same {A : Aspect → Prop} {s0 s : State} (h : Same A s0 s) :
    Same A s0 (State.thlRetrain s) := by
  unfold State.thlRetrain
  repeat' first
    | with_reducible first | assumption | apply State.thlLeave_same
    | split

theorem State.thlTrained_same {A : Aspect → Prop} {s0 s : State} {lanes err t3 : _} (h : Same A s0 s) :
    Same A s0 (State.thlTrained s lanes err t3) := by
  unfold State.thlTrained
  repeat' first
    | ((fail_if_success (conv => arg 2; fun)); extract_lets +onlyGivenNames y; clear_value (e : y = _); refine Same.letVar (A := A) (s0 := s0) e ?_ fun _ => ?_)
    | ((fail_if_success (conv => arg 2; fun)); extract_lets +onlyGivenNames y)
    | with_reducible first | assumption | apply State.setF_same | apply State.setWidths_same
    | split

theorem execThlTrain_same {A : Aspect → Prop} {s0 s : State} {t0 : _} (h : Same A s0 s) :
    SameX A s0 (execThlTrain t0 s) := by
  unfold execThlTrain
  repeat' first
    | ((fail_if_success (conv => arg 2; fun)); extract_lets +onlyGivenNames y; clear_value (e : y = _); refine Same.letVar (A := A) (s0 := s0) e ?_ fun _ => ?_)
    | ((fail_if_success (conv => arg 2; fun)); extract_lets +onlyGivenNames y)
    | with_reducible first | assumption | apply State.setF_same | apply State.linkTrained_same | apply State.thlTrained_same | apply Same.next
    | with_reducible (refine Same.record ?_ (fun _ => ⟨rfl, rfl⟩) (fun _ => rfl) (fun _ => rfl) (fun _ => rfl) fun _ => rfl; first | assumption | apply State.setF_same | apply State.linkTrained_same | apply State.thlTrained_same | apply Same.next)
    | split

theorem State.thlRetrainWrite_same {A : Aspect → Prop} {s0 s : State} (h : Same A s0 s) :
    Same A s0 (State.thlRetrainWrite s) := by
  unfold State.thlRetrainWrite
  repeat' first
    | ((fail_if_success (conv => arg 2; fun)); extract_lets +onlyGivenNames y; clear_value (e : y = _); refine Same.letVar (A := A) (s0 := s0) e ?_ fun _ => ?_)
    | ((fail_if_success (conv => arg 2; fun)); extract_lets +onlyGivenNames y)
    | with_reducible first | assumption | apply State.setF_same | apply State.thlRetrain_same
    | split

theorem execThlRetrainWrite_same {A : Aspect → Prop} {s0 s : State} (h : Same A s0 s) :
    SameX A s0 (execThlRetrainWrite s) := by
  unfold execThlRetrainWrite
  repeat' first
    | ((fail_if_success (conv => arg 2; fun)); extract_lets +onlyGivenNames y)
    | with_reducible first | assumption | apply State.thlRetrainWrite_same | apply Same.next
    | split

theorem State.hostTokens_same {A : Aspect → Prop} {s0 s : State} {c : _} (h : Same A s0 s) :
    Same A s0 (State.hostTokens s c) := by
  unfold State.hostTokens
  repeat' first
    | with_reducible first | assumption | apply State.modCl_same | apply State.abortCluster_same
    | split

theorem State.dropHost_same {A : Aspect → Prop} {s0 s : State} (h : Same A s0 s) :
    Same A s0 (State.dropHost s) := by
  unfold State.dropHost
  repeat' first
    | ((fail_if_success (conv => arg 2; fun)); extract_lets +onlyGivenNames y)
    | with_reducible first | assumption | apply State.setWaiting_same

theorem execHostLinkLoss_same {A : Aspect → Prop} (nM : ¬A .mem) {s0 s : State} (h : Same A s0 s) :
    SameX A s0 (execHostLinkLoss s) := by
  unfold execHostLinkLoss
  repeat' first
    | ((fail_if_success (conv => arg 2; fun)); extract_lets +onlyGivenNames y; clear_value (e : y = _); refine Same.letVar (A := A) (s0 := s0) e ?_ fun _ => ?_)
    | ((fail_if_success (conv => arg 2; fun)); extract_lets +onlyGivenNames y)
    | with_reducible first | assumption | apply State.setF_same | apply State.enableWrite_same nM | apply State.hostTokens_same | apply State.dropHost_same | apply Same.next | refine Same.foldl ?_ fun _ _ _ => ?_
    | split

theorem State.reportDone_same {A : Aspect → Prop} {s0 s : State} (h : Same A s0 s) :
    Same A s0 (State.reportDone s) := by
  unfold State.reportDone
  repeat' first
    | with_reducible first | assumption | apply State.mbxRespond_same
    | split

theorem State.reportLost_same {A : Aspect → Prop} {s0 s : State} (h : Same A s0 s) :
    Same A s0 (State.reportLost s) := by
  unfold State.reportLost
  repeat' first
    | with_reducible first | assumption | apply State.mbxRespond_same | apply State.mbxRan_same
    | split

theorem State.hmemLost_same {A : Aspect → Prop} {s0 s : State} {e : _} (h : Same A s0 s) :
    Same A s0 (State.hmemLost s e) := by
  unfold State.hmemLost
  repeat' first
    | ((fail_if_success (conv => arg 2; fun)); extract_lets +onlyGivenNames y; clear_value (e : y = _); refine Same.letVar (A := A) (s0 := s0) e ?_ fun _ => ?_)
    | ((fail_if_success (conv => arg 2; fun)); extract_lets +onlyGivenNames y)
    | with_reducible first | assumption | apply State.setF_same | apply State.ringEvent_same | apply State.thlRetrain_same | apply State.reportLost_same
    | split

theorem State.dropHmem_same {A : Aspect → Prop} {s0 s : State} {tag : _} (h : Same A s0 s) :
    Same A s0 (State.dropHmem s tag) := by
  unfold State.dropHmem
  repeat' first
    | ((fail_if_success (conv => arg 2; fun)); extract_lets +onlyGivenNames y)
    | with_reducible first | assumption | refine Same.record ?_ (fun _ => ⟨rfl, rfl⟩) (fun _ => rfl) (fun _ => rfl) (fun _ => rfl) fun _ => rfl

theorem State.hmemAnswer_same {A : Aspect → Prop} {s0 s : State} {tag st : _} (h : Same A s0 s) :
    Same A s0 (State.hmemAnswer s tag st) := by
  unfold State.hmemAnswer
  repeat' first
    | ((fail_if_success (conv => arg 2; fun)); extract_lets +onlyGivenNames y; clear_value (e : y = _); refine Same.letVar (A := A) (s0 := s0) e ?_ fun _ => ?_)
    | ((fail_if_success (conv => arg 2; fun)); extract_lets +onlyGivenNames y)
    | with_reducible first | assumption | apply State.reportDone_same | apply State.hmemLost_same | apply State.dropHmem_same
    | split

theorem execHmemAck_same {A : Aspect → Prop} {s0 s : State} {p : _} (h : Same A s0 s) :
    SameX A s0 (execHmemAck p s) := by
  unfold execHmemAck
  repeat' first
    | ((fail_if_success (conv => arg 2; fun)); extract_lets +onlyGivenNames y)
    | with_reducible first | assumption | apply State.leaveBuffer_same | apply State.hmemAnswer_same | apply Same.next
    | split

theorem execHmemWrTimeout_same {A : Aspect → Prop} {s0 s : State} {tag : _} (h : Same A s0 s) :
    SameX A s0 (execHmemWrTimeout tag s) := by
  unfold execHmemWrTimeout
  repeat' first
    | ((fail_if_success (conv => arg 2; fun)); extract_lets +onlyGivenNames y)
    | with_reducible first | assumption | apply State.hmemAnswer_same | apply Same.next

theorem State.writeThl_same {A : Aspect → Prop} (nM : ¬A .mem) (nD : ¬A .dom) (nL : ¬A .live) (nT : ¬A .otp) {s0 s : State} {r k data f : _} (h : Same A s0 s) :
    Same A s0 (State.writeThl s r k data f) := by
  unfold State.writeThl
  repeat' first
    | with_reducible first | assumption | apply State.plainWrite_same | apply State.doorbell_same nM nD nL nT | apply State.commitThl_same nL | apply State.evqCons_same | apply State.hostBeat_same | apply State.thlRetrainWrite_same
    | split

theorem State.writeKln_same {A : Aspect → Prop} {s0 s : State} {r k data f : _} (h : Same A s0 s) :
    Same A s0 (State.writeKln s r k data f) := by
  unfold State.writeKln
  repeat' first
    | ((fail_if_success (conv => arg 2; fun)); extract_lets +onlyGivenNames y; clear_value (e : y = _); refine Same.letVar (A := A) (s0 := s0) e ?_ fun _ => ?_)
    | ((fail_if_success (conv => arg 2; fun)); extract_lets +onlyGivenNames y)
    | with_reducible first | assumption | apply State.plainWrite_same | apply State.handoverWrite_same | apply State.restartWrite_same
    | split

theorem State.writeCool_same {A : Aspect → Prop} (nM : ¬A .mem) (nD : ¬A .dom) (nL : ¬A .live) {s0 s : State} {a r k data f : _} (h : Same A s0 s) :
    Same A s0 (State.writeCool s a r k data f) := by
  unfold State.writeCool
  repeat' first
    | ((fail_if_success (conv => arg 2; fun)); extract_lets +onlyGivenNames y)
    | with_reducible first | assumption | apply State.setF_same | apply State.blockWrite_same nM nD nL | apply State.sensQuery_same | apply State.leakClear_same
    | split

theorem State.writeReg_same {A : Aspect → Prop} (nM : ¬A .mem) (nD : ¬A .dom) (nL : ¬A .live) (nT : ¬A .otp) {s0 s : State} {a data : _} (h : Same A s0 s) :
    Same A s0 (State.writeReg s a data) := by
  unfold State.writeReg
  repeat' first
    | with_reducible first | assumption | apply State.plainWrite_same | apply State.blockWrite_same nM nD nL | apply State.startRemoval_same | apply State.writeThl_same nM nD nL nT | apply State.writeKln_same | apply State.writeCool_same nM nD nL
    | split

theorem execRegisterWrite_same {A : Aspect → Prop} (nM : ¬A .mem) (nD : ¬A .dom) (nL : ¬A .live) (nT : ¬A .otp) {s0 s : State} {addr data : _} (h : Same A s0 s) :
    SameX A s0 (execRegisterWrite addr data s) := by
  unfold execRegisterWrite
  repeat' first
    | ((fail_if_success (conv => arg 2; fun)); extract_lets +onlyGivenNames y)
    | with_reducible first | assumption | apply State.writeReg_same nM nD nL nT | apply Same.next
    | split

theorem State.latchHigh_same {A : Aspect → Prop} {s0 s : State} {a : _} (h : Same A s0 s) :
    Same A s0 (State.latchHigh s a) := by
  unfold State.latchHigh
  repeat' first
    | with_reducible first | assumption
    | with_reducible (refine Same.record ?_ (fun _ => ⟨rfl, rfl⟩) (fun _ => rfl) (fun _ => rfl) (fun _ => rfl) fun _ => rfl; first | assumption)
    | split

theorem State.readReg_same {A : Aspect → Prop} {s0 s : State} {a : _} (h : Same A s0 s) :
    SameG A s0 (State.readReg s a) := by
  unfold State.readReg
  repeat' first
    | ((fail_if_success (conv => arg 2; fun)); extract_lets +onlyGivenNames y; clear_value (e : y = _); refine Same.letVar (A := A) (s0 := s0) e ?_ fun _ => ?_)
    | ((fail_if_success (conv => arg 2; fun)); extract_lets +onlyGivenNames y)
    | with_reducible first | assumption | apply State.addWrap_same | apply State.latchHigh_same
    | with_reducible (refine Same.record ?_ (fun _ => ⟨rfl, rfl⟩) (fun _ => rfl) (fun _ => rfl) (fun _ => rfl) fun _ => rfl; first | assumption | apply State.addWrap_same | apply State.latchHigh_same)
    | split
    | with_reducible apply Same.mkG

theorem execLoWordRead_same {A : Aspect → Prop} {s0 s : State} {addr : _} (h : Same A s0 s) :
    SameX A s0 (execLoWordRead addr s) := by
  unfold execLoWordRead
  repeat' first
    | ((fail_if_success (conv => arg 2; fun)); extract_lets +onlyGivenNames y)
    | with_reducible first | assumption | apply State.latchHigh_same | apply Same.next
    | split

theorem State.serveCfg_same {A : Aspect → Prop} (nM : ¬A .mem) (nD : ¬A .dom) (nL : ¬A .live) (nT : ¬A .otp) {s0 s : State} {p : _} (h : Same A s0 s) :
    Same A s0 (State.serveCfg s p) := by
  unfold State.serveCfg
  repeat' first
    | ((fail_if_success (conv => arg 2; fun)); extract_lets +onlyGivenNames y)
    | with_reducible first | assumption | apply State.sendHost_same | apply State.writeReg_same nM nD nL nT | refine Same.ofG (State.readReg_same ?_)
    | split

theorem State.serveMem_same {A : Aspect → Prop} (nM : ¬A .mem) {s0 s : State} {p mecc : _} (h : Same A s0 s) :
    Same A s0 (State.serveMem s p mecc) := by
  unfold State.serveMem
  repeat' first
    | ((fail_if_success (conv => arg 2; fun)); extract_lets +onlyGivenNames y)
    | with_reducible first | assumption | apply State.sendHost_same | refine Same.ofF (State.memRead_same nM ?_) | apply State.memWrite_same nM | refine Same.eqF (by assumption) ?_
    | with_reducible (refine Same.record ?_ (fun _ => ⟨rfl, rfl⟩) (fun _ => rfl) (fun _ => rfl) (fun _ => rfl) fun _ => rfl; first | assumption | apply State.sendHost_same | refine Same.ofF (State.memRead_same nM ?_) | apply State.memWrite_same nM | refine Same.eqF (by assumption) ?_)
    | split

theorem State.serveReq_same {A : Aspect → Prop} (nM : ¬A .mem) (nD : ¬A .dom) (nL : ¬A .live) (nT : ¬A .otp) {s0 s : State} {q : _} (h : Same A s0 s) :
    Same A s0 (State.serveReq s q) := by
  unfold State.serveReq
  repeat' first
    | ((fail_if_success (conv => arg 2; fun)); extract_lets +onlyGivenNames y)
    | with_reducible first | assumption | apply State.leaveBuffer_same | apply State.serveCfg_same nM nD nL nT | apply State.serveMem_same nM
    | split

theorem State.serveHost_same {A : Aspect → Prop} (nM : ¬A .mem) (nD : ¬A .dom) (nL : ¬A .live) (nT : ¬A .otp) {s0 s : State} {z1 : _} (h : Same A s0 s) :
    Same A s0 (State.serveHost s z1) := by
  induction z1 generalizing s with
  | nil =>
    unfold State.serveHost
    repeat' first
      | ((fail_if_success (conv => arg 2; fun)); extract_lets +onlyGivenNames y)
      | with_reducible first | assumption | apply State.serveReq_same nM nD nL nT | apply ih
      | with_reducible (refine Same.record ?_ (fun _ => ⟨rfl, rfl⟩) (fun _ => rfl) (fun _ => rfl) (fun _ => rfl) fun _ => rfl; first | assumption | apply State.serveReq_same nM nD nL nT | apply ih)
      | split
  | cons hd tl ih =>
    unfold State.serveHost
    repeat' first
      | ((fail_if_success (conv => arg 2; fun)); extract_lets +onlyGivenNames y)
      | with_reducible first | assumption | apply State.serveReq_same nM nD nL nT | apply ih
      | with_reducible (refine Same.record ?_ (fun _ => ⟨rfl, rfl⟩) (fun _ => rfl) (fun _ => rfl) (fun _ => rfl) fun _ => rfl; first | assumption | apply State.serveReq_same nM nD nL nT | apply ih)
      | split

theorem State.serveHosted_same {A : Aspect → Prop} (nM : ¬A .mem) (nD : ¬A .dom) (nL : ¬A .live) (nT : ¬A .otp) {s0 s : State} {l : _} (h : Same A s0 s) :
    Same A s0 (State.serveHosted s l) := by
  unfold State.serveHosted
  repeat' first
    | ((fail_if_success (conv => arg 2; fun)); extract_lets +onlyGivenNames y)
    | with_reducible first | assumption | apply State.serveHost_same nM nD nL nT | refine Same.record ?_ (fun _ => ⟨rfl, rfl⟩) (fun _ => rfl) (fun _ => rfl) (fun _ => rfl) fun _ => rfl

theorem State.serveHeld_same {A : Aspect → Prop} (nM : ¬A .mem) (nD : ¬A .dom) (nL : ¬A .live) (nT : ¬A .otp) {s0 s : State} (h : Same A s0 s) :
    Same A s0 (State.serveHeld s) := by
  unfold State.serveHeld
  repeat' with_reducible first | assumption | apply State.serveHosted_same nM nD nL nT

theorem State.hostReq_same {A : Aspect → Prop} (nM : ¬A .mem) (nD : ¬A .dom) (nL : ¬A .live) (nT : ¬A .otp) {s0 s : State} {t1 len p mecc : _} (h : Same A s0 s) :
    Same A s0 (State.hostReq s t1 len p mecc) := by
  unfold State.hostReq
  repeat' first
    | with_reducible first | assumption | apply State.leaveBuffer_same | apply State.serveHosted_same nM nD nL nT
    | split

theorem execCfgRd_same {A : Aspect → Prop} (nM : ¬A .mem) (nD : ¬A .dom) (nL : ¬A .live) (nT : ¬A .otp) {s0 s : State} {p : _} (h : Same A s0 s) :
    SameX A s0 (execCfgRd p s) := by
  unfold execCfgRd
  repeat' first
    | ((fail_if_success (conv => arg 2; fun)); extract_lets +onlyGivenNames y)
    | with_reducible first | assumption | apply State.hostReq_same nM nD nL nT | apply Same.next

theorem execCfgWr_same {A : Aspect → Prop} (nM : ¬A .mem) (nD : ¬A .dom) (nL : ¬A .live) (nT : ¬A .otp) {s0 s : State} {p : _} (h : Same A s0 s) :
    SameX A s0 (execCfgWr p s) := by
  unfold execCfgWr
  repeat' first
    | ((fail_if_success (conv => arg 2; fun)); extract_lets +onlyGivenNames y)
    | with_reducible first | assumption | apply State.hostReq_same nM nD nL nT | apply Same.next

theorem execMemRd_same {A : Aspect → Prop} (nM : ¬A .mem) (nD : ¬A .dom) (nL : ¬A .live) (nT : ¬A .otp) {s0 s : State} {p mecc : _} (h : Same A s0 s) :
    SameX A s0 (execMemRd p mecc s) := by
  unfold execMemRd
  repeat' first
    | ((fail_if_success (conv => arg 2; fun)); extract_lets +onlyGivenNames y)
    | with_reducible first | assumption | apply State.hostReq_same nM nD nL nT | apply Same.next

theorem execMemWr_same {A : Aspect → Prop} (nM : ¬A .mem) (nD : ¬A .dom) (nL : ¬A .live) (nT : ¬A .otp) {s0 s : State} {p mecc : _} (h : Same A s0 s) :
    SameX A s0 (execMemWr p mecc s) := by
  unfold execMemWr
  repeat' first
    | ((fail_if_success (conv => arg 2; fun)); extract_lets +onlyGivenNames y)
    | with_reducible first | assumption | apply State.hostReq_same nM nD nL nT | apply Same.next

theorem execKilnAccessRelease_same {A : Aspect → Prop} (nM : ¬A .mem) (nD : ¬A .dom) (nL : ¬A .live) (nT : ¬A .otp) {s0 s : State} (h : Same A s0 s) :
    SameX A s0 (execKilnAccessRelease s) := by
  unfold execKilnAccessRelease
  repeat' first
    | ((fail_if_success (conv => arg 2; fun)); extract_lets +onlyGivenNames y)
    | with_reducible first | assumption | apply State.serveHeld_same nM nD nL nT | apply Same.next

theorem execKilnAccessTimeout_same {A : Aspect → Prop} (nM : ¬A .mem) (nD : ¬A .dom) (nL : ¬A .live) (nT : ¬A .otp) {s0 s : State} (h : Same A s0 s) :
    SameX A s0 (execKilnAccessTimeout s) := by
  unfold execKilnAccessTimeout
  repeat' first
    | ((fail_if_success (conv => arg 2; fun)); extract_lets +onlyGivenNames y)
    | with_reducible first | assumption | apply State.sendHost_same | apply State.leaveBuffer_same | apply State.serveHosted_same nM nD nL nT | apply Same.next
    | split

theorem execHeldRwcWrite_same {A : Aspect → Prop} (nM : ¬A .mem) (nD : ¬A .dom) (nL : ¬A .live) (nT : ¬A .otp) {s0 s : State} (h : Same A s0 s) :
    SameX A s0 (execHeldRwcWrite s) := by
  unfold execHeldRwcWrite
  repeat' first
    | ((fail_if_success (conv => arg 2; fun)); extract_lets +onlyGivenNames y; clear_value (e : y = _); refine Same.letVar (A := A) (s0 := s0) e ?_ fun _ => ?_)
    | ((fail_if_success (conv => arg 2; fun)); extract_lets +onlyGivenNames y)
    | with_reducible first | assumption | apply State.plainWrite_same | apply State.serveHeld_same nM nD nL nT | apply Same.next
    | with_reducible (refine Same.record ?_ (fun _ => ⟨rfl, rfl⟩) (fun _ => rfl) (fun _ => rfl) (fun _ => rfl) fun _ => rfl; first | assumption | apply State.plainWrite_same | apply State.serveHeld_same nM nD nL nT | apply Same.next)
    | split

theorem execHeldCommit_same {A : Aspect → Prop} (nM : ¬A .mem) (nD : ¬A .dom) (nL : ¬A .live) (nT : ¬A .otp) {s0 s : State} (h : Same A s0 s) :
    SameX A s0 (execHeldCommit s) := by
  unfold execHeldCommit
  repeat' first
    | ((fail_if_success (conv => arg 2; fun)); extract_lets +onlyGivenNames y)
    | with_reducible first | assumption | apply State.commitBlock_same nM nL | apply State.serveHeld_same nM nD nL nT | apply Same.next
    | with_reducible (refine Same.record ?_ (fun _ => ⟨rfl, rfl⟩) (fun _ => rfl) (fun _ => rfl) (fun _ => rfl) fun _ => rfl; first | assumption | apply State.commitBlock_same nM nL | apply State.serveHeld_same nM nD nL nT | apply Same.next)
    | split

theorem State.askReplay_same {A : Aspect → Prop} {s0 s : State} {k : _} (h : Same A s0 s) :
    Same A s0 (State.askReplay s k) := by
  unfold State.askReplay
  repeat' first
    | ((fail_if_success (conv => arg 2; fun)); extract_lets +onlyGivenNames y)
    | with_reducible first | assumption | apply State.modEnd_same | apply State.sendFlit_same

theorem State.takeCredits_same {A : Aspect → Prop} {s0 s : State} {k vc n : _} (h : Same A s0 s) :
    Same A s0 (State.takeCredits s k vc n) := by
  unfold State.takeCredits
  repeat' first
    | ((fail_if_success (conv => arg 2; fun)); extract_lets +onlyGivenNames y; clear_value (e : y = _); refine Same.letVar (A := A) (s0 := s0) e ?_ fun _ => ?_)
    | ((fail_if_success (conv => arg 2; fun)); extract_lets +onlyGivenNames y)
    | with_reducible first | assumption | apply State.gainCredits_same | apply State.grantLinks_same
    | split

theorem State.acceptFlit_same {A : Aspect → Prop} {s0 s : State} {k f : _} (h : Same A s0 s) :
    Same A s0 (State.acceptFlit s k f) := by
  unfold State.acceptFlit
  repeat' first
    | ((fail_if_success (conv => arg 2; fun)); extract_lets +onlyGivenNames y; clear_value (e : y = _); refine Same.letVar (A := A) (s0 := s0) e ?_ fun _ => ?_)
    | ((fail_if_success (conv => arg 2; fun)); extract_lets +onlyGivenNames y)
    | with_reducible first | assumption | apply State.addSat_same | apply State.modEnd_same | apply State.sendFlit_same | apply State.replay_same | apply State.takeCredits_same
    | split

theorem State.takeFlit_same {A : Aspect → Prop} {s0 s : State} {k f : _} (h : Same A s0 s) :
    Same A s0 (State.takeFlit s k f) := by
  unfold State.takeFlit
  repeat' first
    | ((fail_if_success (conv => arg 2; fun)); extract_lets +onlyGivenNames y)
    | with_reducible first | assumption | apply State.askReplay_same | apply State.acceptFlit_same
    | split

theorem execFlitReceive_same {A : Aspect → Prop} (nM : ¬A .mem) (nD : ¬A .dom) (nL : ¬A .live) (nT : ¬A .otp) {s0 s : State} {k f corrected : _} (h : Same A s0 s) :
    SameX A s0 (execFlitReceive k f corrected s) := by
  unfold execFlitReceive
  repeat' first
    | ((fail_if_success (conv => arg 2; fun)); extract_lets +onlyGivenNames y; clear_value (e : y = _); refine Same.letVar (A := A) (s0 := s0) e ?_ fun _ => ?_)
    | ((fail_if_success (conv => arg 2; fun)); extract_lets +onlyGivenNames y)
    | with_reducible first | assumption | apply State.addSat_same | apply State.serveRx_same nM | apply State.serveHeld_same nM nD nL nT | apply State.takeFlit_same | apply Same.next
    | split

end Sys2Proof.Machine
end

