-- ==== Sys2Proof/Laws/Exec.lean ====
section
/-!
SUPPORT. What one command can do, over all commands: the laws of the meanings gathered under exec.
-/

namespace Sys2Proof.Machine

/-- Every command keeps what Laws/Keep.lean names. -/
theorem exec_keep {s0 s : State} (c : Instr) (h : Keep s0 s) : KeepX s0 (exec c s) := by
  cases c with
  | cfgRd _ => unfold exec; exact execCfgRd_keep h
  | cfgWr _ => unfold exec; exact execCfgWr_keep h
  | registerWrite _ _ => unfold exec; exact execRegisterWrite_keep h
  | loWordRead _ => unfold exec; exact execLoWordRead_keep h
  | heldRwcWrite => unfold exec; exact execHeldRwcWrite_keep h
  | heldCommit => unfold exec; exact execHeldCommit_keep h
  | memRd _ _ => unfold exec; exact execMemRd_keep h
  | memWr _ _ => unfold exec; exact execMemWr_keep h
  | hmemAck _ => unfold exec; exact execHmemAck_keep h
  | hmemWrTimeout _ => unfold exec; exact execHmemWrTimeout_keep h
  | kilnAccessRelease => unfold exec; exact execKilnAccessRelease_keep h
  | kilnAccessTimeout => unfold exec; exact execKilnAccessTimeout_keep h
  | auxPowerUp _ _ _ => unfold exec; exact execAuxPowerUp_keep h
  | pressureReached => unfold exec; exact execPressureReached_keep h
  | pressureWaitTimeout => unfold exec; exact execPressureWaitTimeout_keep h
  | pressureHoldEnd _ _ _ _ => unfold exec; exact execPressureHoldEnd_keep h
  | pressureTestRetry _ => unfold exec; exact execPressureTestRetry_keep h
  | prechargeDone => unfold exec; exact execPrechargeDone_keep h
  | prechargeTimeout => unfold exec; exact execPrechargeTimeout_keep h
  | prechargeRetry => unfold exec; exact execPrechargeRetry_keep h
  | bootFlowReady _ => unfold exec; exact execBootFlowReady_keep h
  | bootFlowTimeout => unfold exec; exact execBootFlowTimeout_keep h
  | bootStepTimeout => unfold exec; exact execBootStepTimeout_keep h
  | refclkLoss => unfold exec; exact execRefclkLoss_keep h
  | clockTreeRestored => unfold exec; exact execClockTreeRestored_keep h
  | domainFault _ => unfold exec; exact execDomainFault_keep h
  | scalarOp _ _ _ => unfold exec; exact execScalarOp_keep h
  | branch _ _ => unfold exec; exact execBranch_keep h
  | ldsSts _ _ _ => unfold exec; exact execLdsSts_keep h
  | illegalInstruction _ _ => unfold exec; exact execIllegalInstruction_keep h
  | fetchFault _ _ => unfold exec; exact execFetchFault_keep h
  | tb _ _ => unfold exec; exact execTb_keep h
  | tensorBlockStart _ _ => unfold exec; exact execTensorBlockStart_keep h
  | tensorBlockEnd _ _ => unfold exec; exact execTensorBlockEnd_keep h
  | spillDone _ _ => unfold exec; exact execSpillDone_keep h
  | tbwait _ => unfold exec; exact execTbwait_keep h
  | vop _ _ _ => unfold exec; exact execVop_keep h
  | copy _ _ => unfold exec; exact execCopy_keep h
  | fill _ _ => unfold exec; exact execFill_keep h
  | addF32 _ _ => unfold exec; exact execAddF32_keep h
  | post _ _ => unfold exec; exact execPost_keep h
  | dmaDeferredAccept _ _ => unfold exec; exact execDmaDeferredAccept_keep h
  | dmaBurstIssue _ _ _ _ => unfold exec; exact execDmaBurstIssue_keep h
  | burstComplete _ _ _ _ => unfold exec; exact execBurstComplete_keep h
  | dmaRetire _ => unfold exec; exact execDmaRetire_keep h
  | creditIdleReturn _ _ _ => unfold exec; exact execCreditIdleReturn_keep h
  | memBurstTimeout _ _ _ => unfold exec; exact execMemBurstTimeout_keep h
  | linkCreditTimeout _ _ => unfold exec; exact execLinkCreditTimeout_keep h
  | remoteAckTimeout _ => unfold exec; exact execRemoteAckTimeout_keep h
  | dmawait _ => unfold exec; exact execDmawait_keep h
  | fence _ => unfold exec; exact execFence_keep h
  | claim _ _ => unfold exec; exact execClaim_keep h
  | claimServed _ _ => unfold exec; exact execClaimServed_keep h
  | done _ => unfold exec; exact execDone_keep h
  | step _ _ => unfold exec; exact execStep_keep h
  | cluSrSeedWrite _ _ => unfold exec; exact execCluSrSeedWrite_keep h
  | heldSeedLoad _ => unfold exec; exact execHeldSeedLoad_keep h
  | cluHaltWrite _ _ => unfold exec; exact execCluHaltWrite_keep h
  | steepLendTimer _ => unfold exec; exact execSteepLendTimer_keep h
  | ringProdWrite _ _ _ => unfold exec; exact execRingProdWrite_keep h
  | ringConsWrite _ _ => unfold exec; exact execRingConsWrite_keep h
  | ringEnableWrite _ _ => unfold exec; exact execRingEnableWrite_keep h
  | ringCancel _ => unfold exec; exact execRingCancel_keep h
  | cancelRecord _ => unfold exec; exact execCancelRecord_keep h
  | claimStopWrite _ => unfold exec; exact execClaimStopWrite_keep h
  | ringCommit _ => unfold exec; exact execRingCommit_keep h
  | postNumberClaimable _ => unfold exec; exact execPostNumberClaimable_keep h
  | descriptorTimeout _ => unfold exec; exact execDescriptorTimeout_keep h
  | completionRecord _ => unfold exec; exact execCompletionRecord_keep h
  | ringStall _ => unfold exec; exact execRingStall_keep h
  | drainComplete => unfold exec; exact execDrainComplete_keep h
  | drainLimitExpiry => unfold exec; exact execDrainLimitExpiry_keep h
  | parkComplete => unfold exec; exact execParkComplete_keep h
  | patrolScrub _ _ _ _ _ => unfold exec; exact execPatrolScrub_keep h
  | operatingHourTick => unfold exec; exact execOperatingHourTick_keep h
  | refreshRateRise _ => unfold exec; exact execRefreshRateRise_keep h
  | refreshRateFall _ => unfold exec; exact execRefreshRateFall_keep h
  | selfRefreshEntry _ _ => unfold exec; exact execSelfRefreshEntry_keep h
  | selfRefreshExit _ _ => unfold exec; exact execSelfRefreshExit_keep h
  | dqsTrack _ _ _ => unfold exec; exact execDqsTrack_keep h
  | spareStartWrite _ _ => unfold exec; exact execSpareStartWrite_keep h
  | sparingStart _ => unfold exec; exact execSparingStart_keep h
  | sparingCopyDone _ _ => unfold exec; exact execSparingCopyDone_keep h
  | channelUnresponsive _ _ _ => unfold exec; exact execChannelUnresponsive_keep h
  | memCommit => unfold exec; exact execMemCommit_keep h
  | milCommit => unfold exec; exact execMilCommit_keep h
  | milOldSetRetired => unfold exec; exact execMilOldSetRetired_keep h
  | gwait _ => unfold exec; exact execGwait_keep h
  | gsignal _ => unfold exec; exact execGsignal_keep h
  | gbar _ => unfold exec; exact execGbar_keep h
  | barrierFlipCascade _ => unfold exec; exact execBarrierFlipCascade_keep h
  | gbarWaitOnly _ => unfold exec; exact execGbarWaitOnly_keep h
  | gtest _ => unfold exec; exact execGtest_keep h
  | stgSignal _ => unfold exec; exact execStgSignal_keep h
  | gateCommit _ => unfold exec; exact execGateCommit_keep h
  | gateReset _ => unfold exec; exact execGateReset_keep h
  | remoteSignalSend _ => unfold exec; exact execRemoteSignalSend_keep h
  | mint _ _ _ => unfold exec; exact execMint_keep h
  | grainGrant _ => unfold exec; exact execGrainGrant_keep h
  | brakeHold _ _ => unfold exec; exact execBrakeHold_keep h
  | hotSpotLimiter _ _ _ => unfold exec; exact execHotSpotLimiter_keep h
  | dieHotTimeout _ => unfold exec; exact execDieHotTimeout_keep h
  | controlCycle _ _ => unfold exec; exact execControlCycle_keep h
  | stackHotEscalate _ => unfold exec; exact execStackHotEscalate_keep h
  | capHostWrite _ => unfold exec; exact execCapHostWrite_keep h
  | rackCap _ _ => unfold exec; exact execRackCap_keep h
  | rackCfgWrite _ => unfold exec; exact execRackCfgWrite_keep h
  | rackLeaseExpiry => unfold exec; exact execRackLeaseExpiry_keep h
  | protectionFall _ _ _ => unfold exec; exact execProtectionFall_keep h
  | dieCapStale _ => unfold exec; exact execDieCapStale_keep h
  | capStatusPeriodic => unfold exec; exact execCapStatusPeriodic_keep h
  | grbCommit => unfold exec; exact execGrbCommit_keep h
  | portTrain _ _ => unfold exec; exact execPortTrain_keep h
  | trainRetryTimer _ => unfold exec; exact execTrainRetryTimer_keep h
  | flitReceive _ _ _ => unfold exec; exact execFlitReceive_keep h
  | portRetrain _ => unfold exec; exact execPortRetrain_keep h
  | laneLoss _ _ => unfold exec; exact execLaneLoss_keep h
  | portRetrainWrite _ => unfold exec; exact execPortRetrainWrite_keep h
  | portEnableWrite _ _ => unfold exec; exact execPortEnableWrite_keep h
  | portParkWrite _ _ => unfold exec; exact execPortParkWrite_keep h
  | wrMem _ _ _ => unfold exec; exact execWrMem_keep h
  | wrClu _ _ => unfold exec; exact execWrClu_keep h
  | addClu _ _ _ => unfold exec; exact execAddClu_keep h
  | rdMem _ _ _ => unfold exec; exact execRdMem_keep h
  | rdClu _ _ _ => unfold exec; exact execRdClu_keep h
  | rdRsp _ _ _ => unfold exec; exact execRdRsp_keep h
  | wrAck _ _ => unfold exec; exact execWrAck_keep h
  | sig _ _ => unfold exec; exact execSig_keep h
  | sigAck _ _ => unfold exec; exact execSigAck_keep h
  | collReady _ _ _ => unfold exec; exact execCollReady_keep h
  | collData _ _ _ => unfold exec; exact execCollData_keep h
  | collAck _ _ => unfold exec; exact execCollAck_keep h
  | noticeDown _ _ => unfold exec; exact execNoticeDown_keep h
  | noticeUp _ _ => unfold exec; exact execNoticeUp_keep h
  | noticeUnreach _ _ => unfold exec; exact execNoticeUnreach_keep h
  | noticeParked _ _ => unfold exec; exact execNoticeParked_keep h
  | hashSetResume _ => unfold exec; exact execHashSetResume_keep h
  | fenceClr _ => unfold exec; exact execFenceClr_keep h
  | reachQuery _ => unfold exec; exact execReachQuery_keep h
  | ixfCommit => unfold exec; exact execIxfCommit_keep h
  | collStart _ _ => unfold exec; exact execCollStart_keep h
  | collComplete _ => unfold exec; exact execCollComplete_keep h
  | collTimeout _ => unfold exec; exact execCollTimeout_keep h
  | mirWr _ _ => unfold exec; exact execMirWr_keep h
  | mirAck _ => unfold exec; exact execMirAck_keep h
  | summary _ => unfold exec; exact execSummary_keep h
  | summaryTimeout => unfold exec; exact execSummaryTimeout_keep h
  | ptnTrain _ => unfold exec; exact execPtnTrain_keep h
  | ptnLinkDown _ => unfold exec; exact execPtnLinkDown_keep h
  | ptnRetrainWrite => unfold exec; exact execPtnRetrainWrite_keep h
  | ptnFenceClr => unfold exec; exact execPtnFenceClr_keep h
  | ptnCommit => unfold exec; exact execPtnCommit_keep h
  | partnerResync => unfold exec; exact execPartnerResync_keep h
  | resyncBlockDone => unfold exec; exact execResyncBlockDone_keep h
  | thlTrain _ => unfold exec; exact execThlTrain_keep h
  | thlRetrainWrite => unfold exec; exact execThlRetrainWrite_keep h
  | hostLinkLoss => unfold exec; exact execHostLinkLoss_keep h
  | thlCommit => unfold exec; exact execThlCommit_keep h
  | getInfo => unfold exec; exact execGetInfo_keep h
  | getStatus => unfold exec; exact execGetStatus_keep h
  | configure _ _ => unfold exec; exact execConfigure_keep h
  | imageUpdate _ _ _ => unfold exec; exact execImageUpdate_keep h
  | memTest _ => unfold exec; exact execMemTest_keep h
  | drain => unfold exec; exact execDrain_keep h
  | resume => unfold exec; exact execResume_keep h
  | park => unfold exec; exact execPark_keep h
  | unpark => unfold exec; exact execUnpark_keep h
  | remove => unfold exec; exact execRemove_keep h
  | memAlloc => unfold exec; exact execMemAlloc_keep h
  | memFree => unfold exec; exact execMemFree_keep h
  | attest => unfold exec; exact execAttest_keep h
  | caskRead => unfold exec; exact execCaskRead_keep h
  | kilnHandover => unfold exec; exact execKilnHandover_keep h
  | partnerQuery => unfold exec; exact execPartnerQuery_keep h
  | mbxLongComplete => unfold exec; exact execMbxLongComplete_keep h
  | mbxCommandTimeout => unfold exec; exact execMbxCommandTimeout_keep h
  | hostWatchdogExpiry => unfold exec; exact execHostWatchdogExpiry_keep h
  | hostHeartbeat => unfold exec; exact execHostHeartbeat_keep h
  | evqConsWrite _ => unfold exec; exact execEvqConsWrite_keep h
  | heldEventWrite => unfold exec; exact execHeldEventWrite_keep h
  | irqHoldoffExpiry _ => unfold exec; exact execIrqHoldoffExpiry_keep h
  | actOwnClaim _ _ => unfold exec; exact execActOwnClaim_keep h
  | actOwnRelease _ => unfold exec; exact execActOwnRelease_keep h
  | strobeTimeout => unfold exec; exact execStrobeTimeout_keep h
  | holderReset => unfold exec; exact execHolderReset_keep h
  | standbyClaim _ => unfold exec; exact execStandbyClaim_keep h
  | staleClaim _ => unfold exec; exact execStaleClaim_keep h
  | stateFrame _ _ => unfold exec; exact execStateFrame_keep h
  | healthWord _ => unfold exec; exact execHealthWord_keep h
  | kilnWatchdog _ => unfold exec; exact execKilnWatchdog_keep h
  | klnHandoverWrite _ => unfold exec; exact execKlnHandoverWrite_keep h
  | handoverClaimTimeout => unfold exec; exact execHandoverClaimTimeout_keep h
  | klnRestartWrite _ => unfold exec; exact execKlnRestartWrite_keep h
  | kilnRestart _ => unfold exec; exact execKilnRestart_keep h
  | standbyLostTimer => unfold exec; exact execStandbyLostTimer_keep h
  | divergence _ => unfold exec; exact execDivergence_keep h
  | protectConfirmTimeout => unfold exec; exact execProtectConfirmTimeout_keep h
  | noOwnerTimeout => unfold exec; exact execNoOwnerTimeout_keep h
  | dieHbStall _ _ => unfold exec; exact execDieHbStall_keep h
  | dieHbFail _ _ => unfold exec; exact execDieHbFail_keep h
  | dieFatal _ _ => unfold exec; exact execDieFatal_keep h
  | dieCe _ => unfold exec; exact execDieCe_keep h
  | klnInvDataRead => unfold exec; exact execKlnInvDataRead_keep h
  | sensorSubstitute _ _ _ _ => unfold exec; exact execSensorSubstitute_keep h
  | sensorRestore _ => unfold exec; exact execSensorRestore_keep h
  | sensorDisagree _ _ => unfold exec; exact execSensorDisagree_keep h
  | disagreeClear _ => unfold exec; exact execDisagreeClear_keep h
  | modelSuspectEnd _ => unfold exec; exact execModelSuspectEnd_keep h
  | leakSuspected _ _ => unfold exec; exact execLeakSuspected_keep h
  | leakSuspectEnd _ => unfold exec; exact execLeakSuspectEnd_keep h
  | leak _ _ => unfold exec; exact execLeak_keep h
  | leakClearWrite _ => unfold exec; exact execLeakClearWrite_keep h
  | condensation => unfold exec; exact execCondensation_keep h
  | condensationClear => unfold exec; exact execCondensationClear_keep h
  | flowLoss _ => unfold exec; exact execFlowLoss_keep h
  | flowLossQuiesce => unfold exec; exact execFlowLossQuiesce_keep h
  | flowLossPowerDown => unfold exec; exact execFlowLossPowerDown_keep h
  | flowReturned _ => unfold exec; exact execFlowReturned_keep h
  | quiesceLifted => unfold exec; exact execQuiesceLifted_keep h
  | coolantWarn _ => unfold exec; exact execCoolantWarn_keep h
  | coolantWarnClear _ => unfold exec; exact execCoolantWarnClear_keep h
  | coolantWarnRepeat => unfold exec; exact execCoolantWarnRepeat_keep h
  | overpressure _ => unfold exec; exact execOverpressure_keep h
  | hotN _ _ => unfold exec; exact execHotN_keep h
  | hotNClear => unfold exec; exact execHotNClear_keep h
  | sensQuery _ => unfold exec; exact execSensQuery_keep h
  | copperFastPeriod _ _ _ => unfold exec; exact execCopperFastPeriod_keep h
  | loopProgramRun _ => unfold exec; exact execLoopProgramRun_keep h
  | copperOutputPhase _ => unfold exec; exact execCopperOutputPhase_keep h
  | loopTableExit _ => unfold exec; exact execLoopTableExit_keep h
  | stepMarker _ => unfold exec; exact execStepMarker_keep h
  | rcMarkerTimeout _ => unfold exec; exact execRcMarkerTimeout_keep h
  | cleCommit => unfold exec; exact execCleCommit_keep h
  | cleCommitApply => unfold exec; exact execCleCommitApply_keep h
  | driveCommandFrame _ _ => unfold exec; exact execDriveCommandFrame_keep h
  | driveEcho _ => unfold exec; exact execDriveEcho_keep h
  | driveSafeTable _ => unfold exec; exact execDriveSafeTable_keep h
  | driveHoldTimer _ => unfold exec; exact execDriveHoldTimer_keep h
  | pullinStart _ _ => unfold exec; exact execPullinStart_keep h
  | pullinEnd _ => unfold exec; exact execPullinEnd_keep h
  | dutyCap _ _ => unfold exec; exact execDutyCap_keep h
  | dutyCapLift _ _ => unfold exec; exact execDutyCapLift_keep h
  | valveFault _ _ _ _ => unfold exec; exact execValveFault_keep h
  | valveRetry _ => unfold exec; exact execValveRetry_keep h
  | switchTrip _ => unfold exec; exact execSwitchTrip_keep h
  | switchRestart _ => unfold exec; exact execSwitchRestart_keep h
  | pumpKickSuccess _ => unfold exec; exact execPumpKickSuccess_keep h
  | pumpKickTimeout _ => unfold exec; exact execPumpKickTimeout_keep h
  | pumpRetryWaitEnd _ => unfold exec; exact execPumpRetryWaitEnd_keep h
  | pumpStall _ => unfold exec; exact execPumpStall_keep h
  | hallFault _ => unfold exec; exact execHallFault_keep h
  | hallRestore _ => unfold exec; exact execHallRestore_keep h
  | pumpEnableWrite _ _ => unfold exec; exact execPumpEnableWrite_keep h
  | pumpRetryWrite _ => unfold exec; exact execPumpRetryWrite_keep h
  | rateSweepTimeout _ _ => unfold exec; exact execRateSweepTimeout_keep h
  | brsWaitTimeout _ => unfold exec; exact execBrsWaitTimeout_keep h
  | rowFrameOther _ _ => unfold exec; exact execRowFrameOther_keep h
  | statusReq _ _ => unfold exec; exact execStatusReq_keep h
  | rowCommit => unfold exec; exact execRowCommit_keep h
  | frameTxDone _ _ => unfold exec; exact execFrameTxDone_keep h
  | frameTxError _ _ _ => unfold exec; exact execFrameTxError_keep h
  | busOffRecovery _ => unfold exec; exact execBusOffRecovery_keep h
  | urgentWaitTimeout _ => unfold exec; exact execUrgentWaitTimeout_keep h
  | rowStatusPeriodic => unfold exec; exact execRowStatusPeriodic_keep h
  | coolantAlarmRepeat => unfold exec; exact execCoolantAlarmRepeat_keep h
  | clashClr _ => unfold exec; exact execClashClr_keep h
  | txbCancel _ _ _ => unfold exec; exact execTxbCancel_keep h
  | imageConfirmTimer _ => unfold exec; exact execImageConfirmTimer_keep h
  | cskMark _ => unfold exec; exact execCskMark_keep h
  | cskRdSeq _ => unfold exec; exact execCskRdSeq_keep h
  | recordSeal _ => unfold exec; exact execRecordSeal_keep h
  | caskFlush => unfold exec; exact execCaskFlush_keep h
  | norWriteFail _ _ _ => unfold exec; exact execNorWriteFail_keep h
  | norTimeout => unfold exec; exact execNorTimeout_keep h
  | cskCommit => unfold exec; exact execCskCommit_keep h
  | caskRingErase => unfold exec; exact execCaskRingErase_keep h
  | pwrLoss => unfold exec; exact execPwrLoss_keep h
  | powerReturn => unfold exec; exact execPowerReturn_keep h
  | inputLow _ => unfold exec; exact execInputLow_keep h
  | inputHigh _ => unfold exec; exact execInputHigh_keep h
  | inputTrip => unfold exec; exact execInputTrip_keep h
  | inputRestored => unfold exec; exact execInputRestored_keep h
  | removeReqPin => unfold exec; exact execRemoveReqPin_keep h
  | modRemoveWrite => unfold exec; exact execModRemoveWrite_keep h
  | removalSyncEnd => unfold exec; exact execRemovalSyncEnd_keep h
  | removeReady => unfold exec; exact execRemoveReady_keep h
  | surpriseRemoval => unfold exec; exact execSurpriseRemoval_keep h
  | seatedReturn => unfold exec; exact execSeatedReturn_keep h
  | sliceStart _ _ => unfold exec; exact execSliceStart_keep h
  | sliceEnd _ _ _ _ => unfold exec; exact execSliceEnd_keep h
  | schedAging _ => unfold exec; exact execSchedAging_keep h
  | clusterAbsent _ => unfold exec; exact execClusterAbsent_keep h
  | clusterRemap _ => unfold exec; exact execClusterRemap_keep h
  | busIntegration _ => unfold exec; exact execBusIntegration_keep h
  | auxPowerLoss _ => unfold exec; exact execAuxPowerLoss_keep h
  | kilnEligible _ => unfold exec; exact execKilnEligible_keep h

/-- A command leaves alone every part of the module that it may not reach. -/
theorem exec_same {A : Aspect → Prop} {s0 s : State} (c : Instr) (hM : A .mem → reachesMemory c = false) (hD : A .dom → reachesDomains c = false)
    (hL : A .live → reachesLive c = false) (hO : A .own → reachesOwner c = false)
    (hT : A .otp → reachesOtp c = false) (h : Same A s0 s) : SameX A s0 (exec c s) := by
  cases c with
  | cfgRd _ => unfold exec; exact execCfgRd_same (fun x => Bool.noConfusion (hM x)) (fun x => Bool.noConfusion (hD x)) (fun x => Bool.noConfusion (hL x)) (fun x => Bool.noConfusion (hT x)) h
  | cfgWr _ => unfold exec; exact execCfgWr_same (fun x => Bool.noConfusion (hM x)) (fun x => Bool.noConfusion (hD x)) (fun x => Bool.noConfusion (hL x)) (fun x => Bool.noConfusion (hT x)) h
  | registerWrite _ _ => unfold exec; exact execRegisterWrite_same (fun x => Bool.noConfusion (hM x)) (fun x => Bool.noConfusion (hD x)) (fun x => Bool.noConfusion (hL x)) (fun x => Bool.noConfusion (hT x)) h
  | loWordRead _ => unfold exec; exact execLoWordRead_same h
  | heldRwcWrite => unfold exec; exact execHeldRwcWrite_same (fun x => Bool.noConfusion (hM x)) (fun x => Bool.noConfusion (hD x)) (fun x => Bool.noConfusion (hL x)) (fun x => Bool.noConfusion (hT x)) h
  | heldCommit => unfold exec; exact execHeldCommit_same (fun x => Bool.noConfusion (hM x)) (fun x => Bool.noConfusion (hD x)) (fun x => Bool.noConfusion (hL x)) (fun x => Bool.noConfusion (hT x)) h
  | memRd _ _ => unfold exec; exact execMemRd_same (fun x => Bool.noConfusion (hM x)) (fun x => Bool.noConfusion (hD x)) (fun x => Bool.noConfusion (hL x)) (fun x => Bool.noConfusion (hT x)) h
  | memWr _ _ => unfold exec; exact execMemWr_same (fun x => Bool.noConfusion (hM x)) (fun x => Bool.noConfusion (hD x)) (fun x => Bool.noConfusion (hL x)) (fun x => Bool.noConfusion (hT x)) h
  | hmemAck _ => unfold exec; exact execHmemAck_same h
  | hmemWrTimeout _ => unfold exec; exact execHmemWrTimeout_same h
  | kilnAccessRelease => unfold exec; exact execKilnAccessRelease_same (fun x => Bool.noConfusion (hM x)) (fun x => Bool.noConfusion (hD x)) (fun x => Bool.noConfusion (hL x)) (fun x => Bool.noConfusion (hT x)) h
  | kilnAccessTimeout => unfold exec; exact execKilnAccessTimeout_same (fun x => Bool.noConfusion (hM x)) (fun x => Bool.noConfusion (hD x)) (fun x => Bool.noConfusion (hL x)) (fun x => Bool.noConfusion (hT x)) h
  | auxPowerUp _ _ _ => unfold exec; exact execAuxPowerUp_same (fun x => Bool.noConfusion (hM x)) (fun x => Bool.noConfusion (hD x)) (fun x => Bool.noConfusion (hL x)) (fun x => Bool.noConfusion (hO x)) h
  | pressureReached => unfold exec; exact execPressureReached_same h
  | pressureWaitTimeout => unfold exec; exact execPressureWaitTimeout_same h
  | pressureHoldEnd _ _ _ _ => unfold exec; exact execPressureHoldEnd_same h
  | pressureTestRetry _ => unfold exec; exact execPressureTestRetry_same h
  | prechargeDone => unfold exec; exact execPrechargeDone_same (fun x => Bool.noConfusion (hM x)) (fun x => Bool.noConfusion (hD x)) (fun x => Bool.noConfusion (hL x)) (fun x => Bool.noConfusion (hT x)) h
  | prechargeTimeout => unfold exec; exact execPrechargeTimeout_same h
  | prechargeRetry => unfold exec; exact execPrechargeRetry_same h
  | bootFlowReady _ => unfold exec; exact execBootFlowReady_same (fun x => Bool.noConfusion (hM x)) (fun x => Bool.noConfusion (hD x)) (fun x => Bool.noConfusion (hL x)) h
  | bootFlowTimeout => unfold exec; exact execBootFlowTimeout_same h
  | bootStepTimeout => unfold exec; exact execBootStepTimeout_same h
  | refclkLoss => unfold exec; exact execRefclkLoss_same (fun x => Bool.noConfusion (hM x)) (fun x => Bool.noConfusion (hD x)) (fun x => Bool.noConfusion (hL x)) h
  | clockTreeRestored => unfold exec; exact execClockTreeRestored_same (fun x => Bool.noConfusion (hM x)) (fun x => Bool.noConfusion (hD x)) (fun x => Bool.noConfusion (hL x)) (fun x => Bool.noConfusion (hT x)) h
  | domainFault _ => unfold exec; exact execDomainFault_same (fun x => Bool.noConfusion (hM x)) (fun x => Bool.noConfusion (hD x)) (fun x => Bool.noConfusion (hL x)) (fun x => Bool.noConfusion (hO x)) h
  | scalarOp _ _ _ => unfold exec; exact execScalarOp_same h
  | branch _ _ => unfold exec; exact execBranch_same h
  | ldsSts _ _ _ => unfold exec; exact execLdsSts_same h
  | illegalInstruction _ _ => unfold exec; exact execIllegalInstruction_same h
  | fetchFault _ _ => unfold exec; exact execFetchFault_same h
  | tb _ _ => unfold exec; exact execTb_same h
  | tensorBlockStart _ _ => unfold exec; exact execTensorBlockStart_same h
  | tensorBlockEnd _ _ => unfold exec; exact execTensorBlockEnd_same h
  | spillDone _ _ => unfold exec; exact execSpillDone_same h
  | tbwait _ => unfold exec; exact execTbwait_same h
  | vop _ _ _ => unfold exec; exact execVop_same h
  | copy _ _ => unfold exec; exact execCopy_same h
  | fill _ _ => unfold exec; exact execFill_same h
  | addF32 _ _ => unfold exec; exact execAddF32_same h
  | post _ _ => unfold exec; exact execPost_same h
  | dmaDeferredAccept _ _ => unfold exec; exact execDmaDeferredAccept_same h
  | dmaBurstIssue _ _ _ _ => unfold exec; exact execDmaBurstIssue_same (fun x => Bool.noConfusion (hM x)) h
  | burstComplete _ _ _ _ => unfold exec; exact execBurstComplete_same (fun x => Bool.noConfusion (hM x)) h
  | dmaRetire _ => unfold exec; exact execDmaRetire_same h
  | creditIdleReturn _ _ _ => unfold exec; exact execCreditIdleReturn_same (fun x => Bool.noConfusion (hM x)) h
  | memBurstTimeout _ _ _ => unfold exec; exact execMemBurstTimeout_same (fun x => Bool.noConfusion (hM x)) h
  | linkCreditTimeout _ _ => unfold exec; exact execLinkCreditTimeout_same h
  | remoteAckTimeout _ => unfold exec; exact execRemoteAckTimeout_same (fun x => Bool.noConfusion (hM x)) h
  | dmawait _ => unfold exec; exact execDmawait_same h
  | fence _ => unfold exec; exact execFence_same h
  | claim _ _ => unfold exec; exact execClaim_same (fun x => Bool.noConfusion (hM x)) h
  | claimServed _ _ => unfold exec; exact execClaimServed_same (fun x => Bool.noConfusion (hM x)) h
  | done _ => unfold exec; exact execDone_same h
  | step _ _ => unfold exec; exact execStep_same h
  | cluSrSeedWrite _ _ => unfold exec; exact execCluSrSeedWrite_same h
  | heldSeedLoad _ => unfold exec; exact execHeldSeedLoad_same h
  | cluHaltWrite _ _ => unfold exec; exact execCluHaltWrite_same h
  | steepLendTimer _ => unfold exec; exact execSteepLendTimer_same h
  | ringProdWrite _ _ _ => unfold exec; exact execRingProdWrite_same (fun x => Bool.noConfusion (hM x)) h
  | ringConsWrite _ _ => unfold exec; exact execRingConsWrite_same (fun x => Bool.noConfusion (hM x)) h
  | ringEnableWrite _ _ => unfold exec; exact execRingEnableWrite_same (fun x => Bool.noConfusion (hM x)) h
  | ringCancel _ => unfold exec; exact execRingCancel_same h
  | cancelRecord _ => unfold exec; exact execCancelRecord_same (fun x => Bool.noConfusion (hM x)) h
  | claimStopWrite _ => unfold exec; exact execClaimStopWrite_same h
  | ringCommit _ => unfold exec; exact execRingCommit_same (fun x => Bool.noConfusion (hL x)) h
  | postNumberClaimable _ => unfold exec; exact execPostNumberClaimable_same (fun x => Bool.noConfusion (hM x)) h
  | descriptorTimeout _ => unfold exec; exact execDescriptorTimeout_same h
  | completionRecord _ => unfold exec; exact execCompletionRecord_same (fun x => Bool.noConfusion (hM x)) h
  | ringStall _ => unfold exec; exact execRingStall_same (fun x => Bool.noConfusion (hM x)) h
  | drainComplete => unfold exec; exact execDrainComplete_same h
  | drainLimitExpiry => unfold exec; exact execDrainLimitExpiry_same h
  | parkComplete => unfold exec; exact execParkComplete_same (fun x => Bool.noConfusion (hM x)) (fun x => Bool.noConfusion (hD x)) h
  | patrolScrub _ _ _ _ _ => unfold exec; exact execPatrolScrub_same (fun x => Bool.noConfusion (hM x)) h
  | operatingHourTick => unfold exec; exact execOperatingHourTick_same h
  | refreshRateRise _ => unfold exec; exact execRefreshRateRise_same h
  | refreshRateFall _ => unfold exec; exact execRefreshRateFall_same h
  | selfRefreshEntry _ _ => unfold exec; exact execSelfRefreshEntry_same h
  | selfRefreshExit _ _ => unfold exec; exact execSelfRefreshExit_same h
  | dqsTrack _ _ _ => unfold exec; exact execDqsTrack_same h
  | spareStartWrite _ _ => unfold exec; exact execSpareStartWrite_same h
  | sparingStart _ => unfold exec; exact execSparingStart_same h
  | sparingCopyDone _ _ => unfold exec; exact execSparingCopyDone_same h
  | channelUnresponsive _ _ _ => unfold exec; exact execChannelUnresponsive_same h
  | memCommit => unfold exec; exact execMemCommit_same (fun x => Bool.noConfusion (hM x)) (fun x => Bool.noConfusion (hL x)) h
  | milCommit => unfold exec; exact execMilCommit_same (fun x => Bool.noConfusion (hL x)) h
  | milOldSetRetired => unfold exec; exact execMilOldSetRetired_same h
  | gwait _ => unfold exec; exact execGwait_same h
  | gsignal _ => unfold exec; exact execGsignal_same h
  | gbar _ => unfold exec; exact execGbar_same h
  | barrierFlipCascade _ => unfold exec; exact execBarrierFlipCascade_same h
  | gbarWaitOnly _ => unfold exec; exact execGbarWaitOnly_same h
  | gtest _ => unfold exec; exact execGtest_same h
  | stgSignal _ => unfold exec; exact execStgSignal_same h
  | gateCommit _ => unfold exec; exact execGateCommit_same (fun x => Bool.noConfusion (hL x)) h
  | gateReset _ => unfold exec; exact execGateReset_same h
  | remoteSignalSend _ => unfold exec; exact execRemoteSignalSend_same h
  | mint _ _ _ => unfold exec; exact execMint_same (fun x => Bool.noConfusion (hL x)) h
  | grainGrant _ => unfold exec; exact execGrainGrant_same h
  | brakeHold _ _ => unfold exec; exact execBrakeHold_same h
  | hotSpotLimiter _ _ _ => unfold exec; exact execHotSpotLimiter_same h
  | dieHotTimeout _ => unfold exec; exact execDieHotTimeout_same h
  | controlCycle _ _ => unfold exec; exact execControlCycle_same (fun x => Bool.noConfusion (hM x)) (fun x => Bool.noConfusion (hD x)) (fun x => Bool.noConfusion (hL x)) (fun x => Bool.noConfusion (hO x)) h
  | stackHotEscalate _ => unfold exec; exact execStackHotEscalate_same h
  | capHostWrite _ => unfold exec; exact execCapHostWrite_same h
  | rackCap _ _ => unfold exec; exact execRackCap_same h
  | rackCfgWrite _ => unfold exec; exact execRackCfgWrite_same h
  | rackLeaseExpiry => unfold exec; exact execRackLeaseExpiry_same h
  | protectionFall _ _ _ => unfold exec; exact execProtectionFall_same h
  | dieCapStale _ => unfold exec; exact execDieCapStale_same h
  | capStatusPeriodic => unfold exec; exact execCapStatusPeriodic_same h
  | grbCommit => unfold exec; exact execGrbCommit_same h
  | portTrain _ _ => unfold exec; exact execPortTrain_same h
  | trainRetryTimer _ => unfold exec; exact execTrainRetryTimer_same h
  | flitReceive _ _ _ => unfold exec; exact execFlitReceive_same (fun x => Bool.noConfusion (hM x)) (fun x => Bool.noConfusion (hD x)) (fun x => Bool.noConfusion (hL x)) (fun x => Bool.noConfusion (hT x)) h
  | portRetrain _ => unfold exec; exact execPortRetrain_same (fun x => Bool.noConfusion (hM x)) h
  | laneLoss _ _ => unfold exec; exact execLaneLoss_same (fun x => Bool.noConfusion (hM x)) h
  | portRetrainWrite _ => unfold exec; exact execPortRetrainWrite_same (fun x => Bool.noConfusion (hM x)) h
  | portEnableWrite _ _ => unfold exec; exact execPortEnableWrite_same (fun x => Bool.noConfusion (hM x)) h
  | portParkWrite _ _ => unfold exec; exact execPortParkWrite_same (fun x => Bool.noConfusion (hM x)) (fun x => Bool.noConfusion (hD x)) h
  | wrMem _ _ _ => unfold exec; exact execWrMem_same (fun x => Bool.noConfusion (hM x)) h
  | wrClu _ _ => unfold exec; exact execWrClu_same (fun x => Bool.noConfusion (hM x)) h
  | addClu _ _ _ => unfold exec; exact execAddClu_same (fun x => Bool.noConfusion (hM x)) h
  | rdMem _ _ _ => unfold exec; exact execRdMem_same (fun x => Bool.noConfusion (hM x)) h
  | rdClu _ _ _ => unfold exec; exact execRdClu_same (fun x => Bool.noConfusion (hM x)) h
  | rdRsp _ _ _ => unfold exec; exact execRdRsp_same (fun x => Bool.noConfusion (hM x)) h
  | wrAck _ _ => unfold exec; exact execWrAck_same h
  | sig _ _ => unfold exec; exact execSig_same (fun x => Bool.noConfusion (hM x)) h
  | sigAck _ _ => unfold exec; exact execSigAck_same h
  | collReady _ _ _ => unfold exec; exact execCollReady_same (fun x => Bool.noConfusion (hM x)) h
  | collData _ _ _ => unfold exec; exact execCollData_same (fun x => Bool.noConfusion (hM x)) h
  | collAck _ _ => unfold exec; exact execCollAck_same (fun x => Bool.noConfusion (hM x)) h
  | noticeDown _ _ => unfold exec; exact execNoticeDown_same (fun x => Bool.noConfusion (hM x)) h
  | noticeUp _ _ => unfold exec; exact execNoticeUp_same (fun x => Bool.noConfusion (hM x)) h
  | noticeUnreach _ _ => unfold exec; exact execNoticeUnreach_same (fun x => Bool.noConfusion (hM x)) h
  | noticeParked _ _ => unfold exec; exact execNoticeParked_same (fun x => Bool.noConfusion (hM x)) h
  | hashSetResume _ => unfold exec; exact execHashSetResume_same h
  | fenceClr _ => unfold exec; exact execFenceClr_same (fun x => Bool.noConfusion (hM x)) h
  | reachQuery _ => unfold exec; exact execReachQuery_same h
  | ixfCommit => unfold exec; exact execIxfCommit_same (fun x => Bool.noConfusion (hL x)) h
  | collStart _ _ => unfold exec; exact execCollStart_same (fun x => Bool.noConfusion (hM x)) h
  | collComplete _ => unfold exec; exact execCollComplete_same (fun x => Bool.noConfusion (hM x)) h
  | collTimeout _ => unfold exec; exact execCollTimeout_same (fun x => Bool.noConfusion (hM x)) h
  | mirWr _ _ => unfold exec; exact execMirWr_same (fun x => Bool.noConfusion (hM x)) h
  | mirAck _ => unfold exec; exact execMirAck_same h
  | summary _ => unfold exec; exact execSummary_same (fun x => Bool.noConfusion (hM x)) h
  | summaryTimeout => unfold exec; exact execSummaryTimeout_same h
  | ptnTrain _ => unfold exec; exact execPtnTrain_same h
  | ptnLinkDown _ => unfold exec; exact execPtnLinkDown_same (fun x => Bool.noConfusion (hM x)) h
  | ptnRetrainWrite => unfold exec; exact execPtnRetrainWrite_same (fun x => Bool.noConfusion (hM x)) h
  | ptnFenceClr => unfold exec; exact execPtnFenceClr_same h
  | ptnCommit => unfold exec; exact execPtnCommit_same (fun x => Bool.noConfusion (hL x)) h
  | partnerResync => unfold exec; exact execPartnerResync_same (fun x => Bool.noConfusion (hM x)) h
  | resyncBlockDone => unfold exec; exact execResyncBlockDone_same h
  | thlTrain _ => unfold exec; exact execThlTrain_same h
  | thlRetrainWrite => unfold exec; exact execThlRetrainWrite_same h
  | hostLinkLoss => unfold exec; exact execHostLinkLoss_same (fun x => Bool.noConfusion (hM x)) h
  | thlCommit => unfold exec; exact execThlCommit_same (fun x => Bool.noConfusion (hL x)) h
  | getInfo => unfold exec; exact execGetInfo_same (fun x => Bool.noConfusion (hM x)) (fun x => Bool.noConfusion (hD x)) (fun x => Bool.noConfusion (hL x)) (fun x => Bool.noConfusion (hT x)) h
  | getStatus => unfold exec; exact execGetStatus_same (fun x => Bool.noConfusion (hM x)) (fun x => Bool.noConfusion (hD x)) (fun x => Bool.noConfusion (hL x)) (fun x => Bool.noConfusion (hT x)) h
  | configure _ _ => unfold exec; exact execConfigure_same (fun x => Bool.noConfusion (hM x)) (fun x => Bool.noConfusion (hD x)) (fun x => Bool.noConfusion (hL x)) (fun x => Bool.noConfusion (hT x)) h
  | imageUpdate _ _ _ => unfold exec; exact execImageUpdate_same (fun x => Bool.noConfusion (hM x)) (fun x => Bool.noConfusion (hD x)) (fun x => Bool.noConfusion (hL x)) (fun x => Bool.noConfusion (hT x)) h
  | memTest _ => unfold exec; exact execMemTest_same (fun x => Bool.noConfusion (hM x)) (fun x => Bool.noConfusion (hD x)) (fun x => Bool.noConfusion (hL x)) (fun x => Bool.noConfusion (hT x)) h
  | drain => unfold exec; exact execDrain_same (fun x => Bool.noConfusion (hM x)) (fun x => Bool.noConfusion (hD x)) (fun x => Bool.noConfusion (hL x)) (fun x => Bool.noConfusion (hT x)) h
  | resume => unfold exec; exact execResume_same (fun x => Bool.noConfusion (hM x)) (fun x => Bool.noConfusion (hD x)) (fun x => Bool.noConfusion (hL x)) (fun x => Bool.noConfusion (hT x)) h
  | park => unfold exec; exact execPark_same (fun x => Bool.noConfusion (hM x)) (fun x => Bool.noConfusion (hD x)) (fun x => Bool.noConfusion (hL x)) (fun x => Bool.noConfusion (hT x)) h
  | unpark => unfold exec; exact execUnpark_same (fun x => Bool.noConfusion (hM x)) (fun x => Bool.noConfusion (hD x)) (fun x => Bool.noConfusion (hL x)) (fun x => Bool.noConfusion (hT x)) h
  | remove => unfold exec; exact execRemove_same (fun x => Bool.noConfusion (hM x)) (fun x => Bool.noConfusion (hD x)) (fun x => Bool.noConfusion (hL x)) (fun x => Bool.noConfusion (hT x)) h
  | memAlloc => unfold exec; exact execMemAlloc_same (fun x => Bool.noConfusion (hM x)) (fun x => Bool.noConfusion (hD x)) (fun x => Bool.noConfusion (hL x)) (fun x => Bool.noConfusion (hT x)) h
  | memFree => unfold exec; exact execMemFree_same (fun x => Bool.noConfusion (hM x)) (fun x => Bool.noConfusion (hD x)) (fun x => Bool.noConfusion (hL x)) (fun x => Bool.noConfusion (hT x)) h
  | attest => unfold exec; exact execAttest_same (fun x => Bool.noConfusion (hM x)) (fun x => Bool.noConfusion (hD x)) (fun x => Bool.noConfusion (hL x)) (fun x => Bool.noConfusion (hT x)) h
  | caskRead => unfold exec; exact execCaskRead_same (fun x => Bool.noConfusion (hM x)) (fun x => Bool.noConfusion (hD x)) (fun x => Bool.noConfusion (hL x)) (fun x => Bool.noConfusion (hT x)) h
  | kilnHandover => unfold exec; exact execKilnHandover_same (fun x => Bool.noConfusion (hM x)) (fun x => Bool.noConfusion (hD x)) (fun x => Bool.noConfusion (hL x)) (fun x => Bool.noConfusion (hT x)) h
  | partnerQuery => unfold exec; exact execPartnerQuery_same (fun x => Bool.noConfusion (hM x)) (fun x => Bool.noConfusion (hD x)) (fun x => Bool.noConfusion (hL x)) (fun x => Bool.noConfusion (hT x)) h
  | mbxLongComplete => unfold exec; exact execMbxLongComplete_same (fun x => Bool.noConfusion (hM x)) (fun x => Bool.noConfusion (hD x)) (fun x => Bool.noConfusion (hL x)) h
  | mbxCommandTimeout => unfold exec; exact execMbxCommandTimeout_same h
  | hostWatchdogExpiry => unfold exec; exact execHostWatchdogExpiry_same h
  | hostHeartbeat => unfold exec; exact execHostHeartbeat_same h
  | evqConsWrite _ => unfold exec; exact execEvqConsWrite_same h
  | heldEventWrite => unfold exec; exact execHeldEventWrite_same h
  | irqHoldoffExpiry _ => unfold exec; exact execIrqHoldoffExpiry_same h
  | actOwnClaim _ _ => unfold exec; exact execActOwnClaim_same (fun x => Bool.noConfusion (hM x)) (fun x => Bool.noConfusion (hO x)) h
  | actOwnRelease _ => unfold exec; exact execActOwnRelease_same (fun x => Bool.noConfusion (hO x)) h
  | strobeTimeout => unfold exec; exact execStrobeTimeout_same (fun x => Bool.noConfusion (hO x)) h
  | holderReset => unfold exec; exact execHolderReset_same (fun x => Bool.noConfusion (hO x)) h
  | standbyClaim _ => unfold exec; exact execStandbyClaim_same (fun x => Bool.noConfusion (hM x)) (fun x => Bool.noConfusion (hO x)) h
  | staleClaim _ => unfold exec; exact execStaleClaim_same (fun x => Bool.noConfusion (hM x)) (fun x => Bool.noConfusion (hO x)) h
  | stateFrame _ _ => unfold exec; exact execStateFrame_same h
  | healthWord _ => unfold exec; exact execHealthWord_same h
  | kilnWatchdog _ => unfold exec; exact execKilnWatchdog_same (fun x => Bool.noConfusion (hO x)) h
  | klnHandoverWrite _ => unfold exec; exact execKlnHandoverWrite_same h
  | handoverClaimTimeout => unfold exec; exact execHandoverClaimTimeout_same (fun x => Bool.noConfusion (hO x)) h
  | klnRestartWrite _ => unfold exec; exact execKlnRestartWrite_same h
  | kilnRestart _ => unfold exec; exact execKilnRestart_same h
  | standbyLostTimer => unfold exec; exact execStandbyLostTimer_same h
  | divergence _ => unfold exec; exact execDivergence_same h
  | protectConfirmTimeout => unfold exec; exact execProtectConfirmTimeout_same h
  | noOwnerTimeout => unfold exec; exact execNoOwnerTimeout_same (fun x => Bool.noConfusion (hM x)) h
  | dieHbStall _ _ => unfold exec; exact execDieHbStall_same (fun x => Bool.noConfusion (hM x)) (fun x => Bool.noConfusion (hD x)) (fun x => Bool.noConfusion (hL x)) h
  | dieHbFail _ _ => unfold exec; exact execDieHbFail_same (fun x => Bool.noConfusion (hM x)) (fun x => Bool.noConfusion (hD x)) (fun x => Bool.noConfusion (hL x)) h
  | dieFatal _ _ => unfold exec; exact execDieFatal_same (fun x => Bool.noConfusion (hM x)) (fun x => Bool.noConfusion (hD x)) (fun x => Bool.noConfusion (hL x)) h
  | dieCe _ => unfold exec; exact execDieCe_same h
  | klnInvDataRead => unfold exec; exact execKlnInvDataRead_same h
  | sensorSubstitute _ _ _ _ => unfold exec; exact execSensorSubstitute_same h
  | sensorRestore _ => unfold exec; exact execSensorRestore_same h
  | sensorDisagree _ _ => unfold exec; exact execSensorDisagree_same h
  | disagreeClear _ => unfold exec; exact execDisagreeClear_same h
  | modelSuspectEnd _ => unfold exec; exact execModelSuspectEnd_same h
  | leakSuspected _ _ => unfold exec; exact execLeakSuspected_same h
  | leakSuspectEnd _ => unfold exec; exact execLeakSuspectEnd_same h
  | leak _ _ => unfold exec; exact execLeak_same (fun x => Bool.noConfusion (hM x)) h
  | leakClearWrite _ => unfold exec; exact execLeakClearWrite_same h
  | condensation => unfold exec; exact execCondensation_same h
  | condensationClear => unfold exec; exact execCondensationClear_same h
  | flowLoss _ => unfold exec; exact execFlowLoss_same h
  | flowLossQuiesce => unfold exec; exact execFlowLossQuiesce_same (fun x => Bool.noConfusion (hM x)) h
  | flowLossPowerDown => unfold exec; exact execFlowLossPowerDown_same (fun x => Bool.noConfusion (hM x)) (fun x => Bool.noConfusion (hD x)) (fun x => Bool.noConfusion (hL x)) h
  | flowReturned _ => unfold exec; exact execFlowReturned_same (fun x => Bool.noConfusion (hM x)) (fun x => Bool.noConfusion (hD x)) (fun x => Bool.noConfusion (hL x)) h
  | quiesceLifted => unfold exec; exact execQuiesceLifted_same h
  | coolantWarn _ => unfold exec; exact execCoolantWarn_same h
  | coolantWarnClear _ => unfold exec; exact execCoolantWarnClear_same h
  | coolantWarnRepeat => unfold exec; exact execCoolantWarnRepeat_same h
  | overpressure _ => unfold exec; exact execOverpressure_same h
  | hotN _ _ => unfold exec; exact execHotN_same (fun x => Bool.noConfusion (hM x)) h
  | hotNClear => unfold exec; exact execHotNClear_same h
  | sensQuery _ => unfold exec; exact execSensQuery_same h
  | copperFastPeriod _ _ _ => unfold exec; exact execCopperFastPeriod_same h
  | loopProgramRun _ => unfold exec; exact execLoopProgramRun_same h
  | copperOutputPhase _ => unfold exec; exact execCopperOutputPhase_same h
  | loopTableExit _ => unfold exec; exact execLoopTableExit_same h
  | stepMarker _ => unfold exec; exact execStepMarker_same h
  | rcMarkerTimeout _ => unfold exec; exact execRcMarkerTimeout_same h
  | cleCommit => unfold exec; exact execCleCommit_same h
  | cleCommitApply => unfold exec; exact execCleCommitApply_same (fun x => Bool.noConfusion (hL x)) h
  | driveCommandFrame _ _ => unfold exec; exact execDriveCommandFrame_same h
  | driveEcho _ => unfold exec; exact execDriveEcho_same h
  | driveSafeTable _ => unfold exec; exact execDriveSafeTable_same h
  | driveHoldTimer _ => unfold exec; exact execDriveHoldTimer_same h
  | pullinStart _ _ => unfold exec; exact execPullinStart_same h
  | pullinEnd _ => unfold exec; exact execPullinEnd_same h
  | dutyCap _ _ => unfold exec; exact execDutyCap_same h
  | dutyCapLift _ _ => unfold exec; exact execDutyCapLift_same h
  | valveFault _ _ _ _ => unfold exec; exact execValveFault_same h
  | valveRetry _ => unfold exec; exact execValveRetry_same h
  | switchTrip _ => unfold exec; exact execSwitchTrip_same h
  | switchRestart _ => unfold exec; exact execSwitchRestart_same h
  | pumpKickSuccess _ => unfold exec; exact execPumpKickSuccess_same h
  | pumpKickTimeout _ => unfold exec; exact execPumpKickTimeout_same h
  | pumpRetryWaitEnd _ => unfold exec; exact execPumpRetryWaitEnd_same h
  | pumpStall _ => unfold exec; exact execPumpStall_same h
  | hallFault _ => unfold exec; exact execHallFault_same h
  | hallRestore _ => unfold exec; exact execHallRestore_same h
  | pumpEnableWrite _ _ => unfold exec; exact execPumpEnableWrite_same h
  | pumpRetryWrite _ => unfold exec; exact execPumpRetryWrite_same h
  | rateSweepTimeout _ _ => unfold exec; exact execRateSweepTimeout_same h
  | brsWaitTimeout _ => unfold exec; exact execBrsWaitTimeout_same h
  | rowFrameOther _ _ => unfold exec; exact execRowFrameOther_same h
  | statusReq _ _ => unfold exec; exact execStatusReq_same h
  | rowCommit => unfold exec; exact execRowCommit_same (fun x => Bool.noConfusion (hL x)) h
  | frameTxDone _ _ => unfold exec; exact execFrameTxDone_same h
  | frameTxError _ _ _ => unfold exec; exact execFrameTxError_same h
  | busOffRecovery _ => unfold exec; exact execBusOffRecovery_same h
  | urgentWaitTimeout _ => unfold exec; exact execUrgentWaitTimeout_same h
  | rowStatusPeriodic => unfold exec; exact execRowStatusPeriodic_same h
  | coolantAlarmRepeat => unfold exec; exact execCoolantAlarmRepeat_same h
  | clashClr _ => unfold exec; exact execClashClr_same h
  | txbCancel _ _ _ => unfold exec; exact execTxbCancel_same h
  | imageConfirmTimer _ => unfold exec; exact execImageConfirmTimer_same h
  | cskMark _ => unfold exec; exact execCskMark_same h
  | cskRdSeq _ => unfold exec; exact execCskRdSeq_same h
  | recordSeal _ => unfold exec; exact execRecordSeal_same h
  | caskFlush => unfold exec; exact execCaskFlush_same h
  | norWriteFail _ _ _ => unfold exec; exact execNorWriteFail_same h
  | norTimeout => unfold exec; exact execNorTimeout_same h
  | cskCommit => unfold exec; exact execCskCommit_same (fun x => Bool.noConfusion (hL x)) h
  | caskRingErase => unfold exec; exact execCaskRingErase_same h
  | pwrLoss => unfold exec; exact execPwrLoss_same (fun x => Bool.noConfusion (hM x)) (fun x => Bool.noConfusion (hD x)) (fun x => Bool.noConfusion (hL x)) h
  | powerReturn => unfold exec; exact execPowerReturn_same h
  | inputLow _ => unfold exec; exact execInputLow_same h
  | inputHigh _ => unfold exec; exact execInputHigh_same h
  | inputTrip => unfold exec; exact execInputTrip_same (fun x => Bool.noConfusion (hM x)) (fun x => Bool.noConfusion (hD x)) (fun x => Bool.noConfusion (hL x)) h
  | inputRestored => unfold exec; exact execInputRestored_same h
  | removeReqPin => unfold exec; exact execRemoveReqPin_same h
  | modRemoveWrite => unfold exec; exact execModRemoveWrite_same h
  | removalSyncEnd => unfold exec; exact execRemovalSyncEnd_same (fun x => Bool.noConfusion (hM x)) (fun x => Bool.noConfusion (hD x)) (fun x => Bool.noConfusion (hL x)) h
  | removeReady => unfold exec; exact execRemoveReady_same h
  | surpriseRemoval => unfold exec; exact execSurpriseRemoval_same h
  | seatedReturn => unfold exec; exact execSeatedReturn_same h
  | sliceStart _ _ => unfold exec; exact execSliceStart_same h
  | sliceEnd _ _ _ _ => unfold exec; exact execSliceEnd_same h
  | schedAging _ => unfold exec; exact execSchedAging_same h
  | clusterAbsent _ => unfold exec; exact execClusterAbsent_same h
  | clusterRemap _ => unfold exec; exact execClusterRemap_same h
  | busIntegration _ => unfold exec; exact execBusIntegration_same h
  | auxPowerLoss _ => unfold exec; exact execAuxPowerLoss_same (fun x => Bool.noConfusion (hM x)) (fun x => Bool.noConfusion (hD x)) (fun x => Bool.noConfusion (hL x)) (fun x => Bool.noConfusion (hO x)) h
  | kilnEligible _ => unfold exec; exact execKilnEligible_same (fun x => Bool.noConfusion (hM x)) (fun x => Bool.noConfusion (hO x)) h

end Sys2Proof.Machine
end

