-- ==== Sys2Proof/Tests/Slice0.lean ====
section
/-!
SUPPORT. Tests: values that the manual works out, the refusals of well-formedness, and for every claim a state and operands that meet
its hypotheses, clause by clause.
-/

open Sys2Proof Sys2Proof.Machine

set_option linter.unusedVariables false
-- Proofs are elaborated one after another (see Word.lean).
set_option Elab.async false

namespace Sys2Proof.Tests

/-! ### Small states and bytes -/

/-- A pair of which one half is named. -/
theorem pairIs {α β : Type} {p : α × β} {b : β} (h : p.2 = b) : p = (p.1, b) := by cases p; cases h; rfl

theorem pairOf {α β : Type} {p : α × β} {a : α} (h : p.1 = a) : p = (a, p.2) := by cases p; cases h; rfl

theorem pairs2 {α β : Type} {p : α × β} : p = (p.1, p.2) := rfl

theorem tripleIs {α β γ : Type} {p : α × β × γ} {b : β} (h : p.2.1 = b) : p = (p.1, b, p.2.2) := by
  obtain ⟨x, y, z⟩ := p; cases h; rfl

theorem tripleEnd {α β γ : Type} {p : α × β × γ} {c : γ} (h : p.2.2 = c) : p = (p.1, p.2.1, c) := by
  obtain ⟨x, y, z⟩ := p; cases h; rfl

theorem pairs3 {α β γ : Type} {p : α × β × γ} : p = (p.1, p.2.1, p.2.2) := rfl

/-- Every domain. -/
def allOn : List Domain := [.aux, .iod] ++ (List.range 4).map .core ++ (List.range 4).map .mem ++ (List.range 12).map .opt

/-- A module with every domain on and KA in control, and these register fields set. -/
def rig (f : List (Fld × Nat × Nat)) : State :=
  f.foldl (fun s x => s.setF x.1 x.2.1 x.2.2) { State.reset with
    power := { State.reset.power with on := allOn }
    kln := { State.reset.kln with owner := some .ka, lastOwner := some .ka,
                                  ka := { State.reset.kln.ka with up := true }, kb := { State.reset.kln.kb with up := true } } }

/-- The same with these committed values in force as well. -/
def rigL (f l : List (Fld × Nat × Nat)) : State := l.foldl (fun s x => s.setLive x.1 x.2.1 x.2.2) (rig f)

/-- Only these domains on, nobody in control. -/
def bare (d : List Domain) (f : List (Fld × Nat × Nat)) : State :=
  f.foldl (fun s x => s.setF x.1 x.2.1 x.2.2) { State.reset with power := { State.reset.power with on := d } }

/-- Cluster 0 runs and holds reserve, with this instruction at its program counter. -/
def runs (w : Nat) (s : State) : State :=
  (((s.setF (.clu .statusRunning) 0 1).setF (.clu .statusGated) 0 0).putStore 0 0 (leBytes 8 w)).modCl 0
    fun k => { k with reserve := 1 }

/-- An instruction word from its fields (R45). -/
def iw (op dst a b imm : Nat) : Nat := op * 2 ^ 56 + dst * 2 ^ 51 + a * 2 ^ 46 + b * 2 ^ 41 + imm

/-- The start-up sequence stands at this step. -/
def booting (b : BootStep) (s : State) : State := { s with power := { s.power with boot := b } }

/-- A tensor block in E4M3 of one tile step (R49). -/
def tbBytes : List Byte :=
  leBytes 64 (1 + 2 * 2 ^ 8 + 1 * 2 ^ 32 + 4096 * 2 ^ 64 + 8192 * 2 ^ 128 + 64 * 2 ^ 192 + 64 * 2 ^ 224)

/-- The same block with no step at all, and CLEAR and SPILL set (R47). -/
def tbZero : List Byte :=
  leBytes 64 (1 + 2 * 2 ^ 8 + 3 * 2 ^ 49 + 4096 * 2 ^ 64 + 8192 * 2 ^ 128 + 64 * 2 ^ 192 + 64 * 2 ^ 224 + 1024 * 2 ^ 288)

/-- A DMA descriptor of one 64-byte row within the store. -/
def dmaBytes (op : Nat) : List Byte := leBytes 64 (1 + op * 2 ^ 8 + 4096 * 2 ^ 64 + 8192 * 2 ^ 128 + 64 * 2 ^ 192 + 1 * 2 ^ 224)

/-- That descriptor accepted from address 64. -/
def aDma : Dma :=
  { addr := 64, desc := readDma (dmaBytes 1), status := 0, started := false, issued := false, row := 0, off := 0, pieces := [],
    hold := [], waits := 0, mill := [], millOld := false, postSeq := 0 }

/-- A piece that waits for a channel. -/
def aPiece : Piece :=
  { row := 0, off := 0, len := 64, phase := 0, data := [], scales := [], retried := false, channels := [0], tags := [] }

/-- A token of ring 0. -/
def aToken : Token := ⟨0, 0, 9, false, none, 1000⟩

/-- Bytes of a place written, at addresses rising from a. -/
def cellsAt (a : Nat) (b : List Byte) : List Host.Cell := b.mapIdx fun i x => ⟨a + i, x⟩

/-- All twenty stacks in use and active, the die map at its first mode. -/
def stacked (f l : List (Fld × Nat × Nat)) : State :=
  let s := rigL ((List.range 20).map (fun k => (.mem .statusState, k, 2)) ++ f) l
  s.setLive (.mem .stackMaskMask) 0 (2 ^ 20 - 1)

/-- A work descriptor with tag 9 and 64 bytes. -/
def descBytes : List Byte := leBytes 64 (1 + 100 * 2 ^ 16 + 64 * 2 ^ 32 + 9 * 2 ^ 64)

/-- Ring 0 of 16 slots holds that descriptor, posted and not claimed. -/
def ringed : State :=
  let s := stacked [(.wiq .ringCtrlEnable, 0, 1), (.wiq .ringProdProd, 0, 1)] [(.wiq .ringCfgSizeLog2, 0, 4)]
  { s with mem := { s.mem with cells := cellsAt 0 descBytes } }

/-- Counting gate 0 and barrier gate 1 of die 0, enabled. -/
def gated : State :=
  rigL [] [(.stg .gateCfgEnable, 0, 1), (.stg .gateCfgEnable, 1, 1), (.stg .gateCfgKind, 1, 1), (.stg .gateCfgRemoteOk, 0, 1)]

/-- Port 0 and the partner link are up; window 0 and receive window 0 open the first bytes of memory. -/
def linked : State :=
  stacked [(.ixf .portStatusState, 0, 2), (.ptn .statusState, 0, 2)]
    [(.ixf .winCfgEnable, 0, 1), (.ixf .winCfgRd, 0, 1), (.ixf .winCfgWr, 0, 1), (.ixf .winCfgSrcMax, 0, 0x3FFF),
     (.ixf .winSizeSize64k, 0, 1), (.ixf .ctrlClusterRx, 0, 1), (.ptn .rxWinEnable, 0, 1), (.ptn .rxWinSizeGib, 0, 1)]

/-- A packet of a type for this module from module 5, sealed with its CRC (R198, R200). -/
def pk (t len vc aux : Nat) : Pkt :=
  { ver := 1, typ := t, dst := 0, src := 5, len := len, vc := vc, spray := false, rsv6 := 0, status := 0, tag := 7, gate := 0,
    inc := 1, rsv15 := 0, addr := 0, aux := aux, pcrc := 0, payload := List.replicate (64 * len) 0 : Pkt }.seal

/-- The same packet with another STATUS, GATE and INC, sealed again. -/
def pkSt (p : Pkt) (status gate inc : Nat) : Pkt := { p with status := status, gate := gate, inc := inc : Pkt }.seal

/-- A request of the host at an address (R236). -/
def hostPk (t len addr aux : Nat) : Pkt := { pk t len 0 aux with src := 0, addr := addr : Pkt }.seal

/-- The answer of the host to a memory write of the module (R236). -/
def hmemAckPk (status : Nat) : Pkt := { pk 0x37 0 1 0 with src := 0, status := status : Pkt }.seal

/-- An idle flit that follows the first, sealed with its CRC (R191). -/
def aFlit : Flit := { fver := 1, fseq := 1, ackseq := 0, nak := false, idle := true, crVc := 3, crCount := 0, rsv := 0,
                      data := List.replicate 224 0, crc := 0 : Flit }.seal

/-- The module awaits the answer to a request of this kind with TAG 7 (R199). -/
def asked (kind aux : Nat) (s : State) : State := { s with ixf := { s.ixf with reqs := [⟨7, 0, 5, kind, false, 0, aux, 64⟩] } }

/-- A port that trains well with a far end of this word. -/
def trains (far : Nat) : Train := ⟨true, false, 0xFF, far, false, 5, false, 0⟩

/-- A collective of modules 0 and 5 on channel 0. -/
def aColl (op : Nat) : Coll :=
  { op := op, dtype := 1, gate := false, group := 0, root := 0, doneGate := 0, src := 0, dst := 4096, count := 64, addr := 8192,
    members := [0, 5], rank := 0, seq := 0, ready := [], sent0 := [], sent1 := [], readyTags := [],
    tags := [7], kept := [], got := [], got1 := [] }

/-- The identifier of a manager frame of a type for a slot of rack 4 (R366). -/
def rowId (t dest : Nat) : Nat := t * 2 ^ 20 + 4 * 2 ^ 14 + 63 * 2 ^ 8 + dest

/-- Measurements of an idle module. -/
def aMeas : Meas :=
  { readings := [], shadow := [], sourceMw := [], zoneMw := [], dieMw := [], inputMw := 0, nonDieUw := 0, coil := [], coilRes := [], coilMj := [],
    switchCur := [], pumpRpm := [], pumpMa := [], volt := 4800, moved := 31,
    copied := [] }

/-- A mirrored region of 1 GiB with block 5 dirty, on a module with a partner. -/
def mirroring : State :=
  let s := linked.setF (.ptn .farLoFarLo) 0 (2 ^ 21)
  let s := (s.setF (.mem .mirCfgUnsynced) 0 1).setLive (.mem .mirCfgEnable) 0 1
  let s := s.setLive (.mem .mirCfgSizeGib) 0 1
  { s with sec := { s.sec with orderP := true }, ptn := { s.ptn with dirty := [5] } }

/-- The host link is up and the event ring takes records, with one held. -/
def hosting : State :=
  let s := (rig [(.thl .statusState, 0, 2)]).setLive (.thl .evqCfgEnable) 0 1
  { s with thl := { s.thl with heldEvents := [⟨1, 2, 0, 0⟩] } }

/-- A mailbox that holds a command of this opcode and these parameter words (R241). -/
def boxed (op : Nat) (f : List (Nat × Nat)) : State :=
  f.foldl (fun s x => s.setF (.thl .mbxCmdBytes) x.1 x.2) (rig [(.thl .mbxCmdBytes, 0, 1 + 256 * op)])

/-- No Kiln in control, both eligible. -/
def unowned : State :=
  let s := rig [(.kln .roleEligible, 0, 1), (.kln .roleEligible, 1, 1)]
  { s with kln := { s.kln with owner := none } }

/-- The state frame that KA sends, of cycle 9 (R258). -/
def aFrame : Frame := { (rig []).frameOf .ka false none with cycle := 9 }

/-- KB receives the state frames of KA, of which this is the last (R258). -/
def framed (f : List (Fld × Nat × Nat)) : State :=
  let s := rig ((.kln .roleRole, 1, 1) :: f)
  { s with kln := { s.kln with sent := some aFrame } }

/-- A sealed drive frame at rest. -/
def aDrive : DriveFrame := { ver := 1, pumpEn := 3, retry := 0, seq := 6, valves := List.replicate 8 0, rpm := 3000, rsv := 0,
                             crc := 0 : DriveFrame }.seal

/-- Row-bus port 1 finds its rates; its nominal rate is locked or not. -/
def sweeping (locked : Bool) : State :=
  let s := (rig [(.row .portStatusState, 1, 1)]).setLive (.row .portCfgAuto) 1 1
  { s with row := { s.row with det := [(1, ⟨2, 2, locked, 0, 0⟩)] } }

/-- A queued row-bus message. -/
def aMsg : RowMsg := ⟨1, 1, 0, 0, 6, [], true, false⟩

/-- A sealed record. -/
def aRecord : CaskRec :=
  { seq := 4, permanent := false, standby := false, powerFail := false, writer := .ka, sealed := true, source := 1, code := 2,
    severity := 0, profile := 1, rep := 0, opHours := 0, powerCycles := 1, cycleFirst := 0, cycleLast := 0, data := 0,
    snapshot := [] }

/-- The next state of an outcome. -/
def after : Host.Outcome State Fault Refusal → State
  | .next t => t
  | _ => State.reset

/-! ### Values of the manual -/

/-- FP4 values of element codes. -/
def fp4s (l : List Nat) : List FVal := l.map e2m1.decode

/-- The worked dot product of chapter 2: 100.25 becomes 101.75 after K-step 0 (R44). -/
theorem test_fp4_kstep_zero :
    kstep 0x42C88000 (fmul (e4m3.decode 0x34) (e4m3.decode 0x40))
      (fp4s [2, 4, 0xA, 1, 5, 0, 0xC, 3, 6, 9, 2, 7, 0, 0xD, 4, 2]) (fp4s [4, 0xA, 2, 6, 1, 5, 2, 0xC, 2, 4, 0xA, 1, 7, 2, 0, 3]) =
      0x42CB8000 := by decide +kernel

/-- And 117.75 after K-step 1. -/
theorem test_fp4_kstep_one :
    kstep 0x42CB8000 (fmul (e4m3.decode 0x30) (e4m3.decode 0x38)) (fp4s (List.replicate 16 2)) (fp4s (List.replicate 16 4)) =
      0x42EB8000 := by decide +kernel

/-- 117.75 spills to BF16 in RNE as 118.0 (R51). -/
theorem test_bf16_tie_goes_to_even : (bf16.convert .rne false (fp32.decode 0x42EB8000)).1 = 0x42EC := by decide +kernel

/-- The worked CB3 group of chapter 2: the codebook and the first 16 indices. -/
def cb3Group : List Byte :=
  [0xC0, 0xB8, 0xB0, 0xA0, 0x20, 0x30, 0x38, 0x44, 0x07, 0xEB, 0x29, 0x64, 0x8D, 0x2F] ++ List.replicate 18 0

/-- Expanded to FP8 (R40). -/
theorem test_cb3_to_fp8 :
    (cb3Fp8 cb3Group).take 16 =
      [0x44, 0xC0, 0x20, 0x30, 0x38, 0xA0, 0xB0, 0xB8, 0x20, 0x20, 0x30, 0x38, 0xC0, 0x44, 0xA0, 0xB8] := by decide +kernel

/-- Expanded to FP4-block: scale 0x30 and the element bytes of the manual (R41, R52). -/
theorem test_cb3_to_fp4 :
    let g := millGroup ⟨0, 0, true, true, false, 0⟩ cb3Group
    g.1.take 8 = [0xE7, 0x20, 0x84, 0xCA, 0x00, 0x42, 0x7E, 0xC8] ∧ g.2.1.head? = some 0x30 := by decide +kernel

/-- The worked address of chapter 4 in the three modes, twenty stacks and HASH = 1 (R105). -/
theorem test_address_stack_mode :
    (stacked [] [(.mem .ilCfgHash, 0, 1), (.mem .ilCfgMode, 0, 0)]).memPlace 0x2A123456C0 = some ⟨3, 45, 6216, 5, 1⟩ := by decide +kernel

theorem test_address_die_mode :
    (stacked [] [(.mem .ilCfgHash, 0, 1), (.mem .ilCfgMode, 0, 1)]).memPlace 0x2A123456C0 = some ⟨2, 111, 8616, 10, 9⟩ := by
  decide +kernel

theorem test_address_module_mode :
    (stacked [] [(.mem .ilCfgHash, 0, 1), (.mem .ilCfgMode, 0, 2)]).memPlace 0x2A123456C0 = some ⟨17, 59, 2154, 10, 10⟩ := by
  decide +kernel

/-- The worked hash of chapter 7: the write takes plane 6 of twelve (R206). -/
theorem test_plane_hash : (hashKey true 0x2A123456C0 ^^^ 0x0C03) % 12 = 6 := by decide

/-- The window of C537 starts at 0x0286_4000 (chapter 1). -/
theorem test_cluster_window : (regAt 0x02864000).map (·.2) = some 537 := by decide +kernel

/-- STG_GATE_STATE of gate 0x4005 lies at 0x0025_0058 (chapter 5). -/
theorem test_gate_state_address :
    (regAt 0x00250058).map (fun r => (r.2, r.1.flds.map (·.fld) |>.contains (.stg .gateStateCount))) = some (0x4005, true) := by
  decide +kernel

/-- A die with an applied cap of 520 W mints 5.2 grains (chapter 6). -/
theorem test_mint_of_520_watts :
    ({ dieGrnInit with capUw := 520000000 } : DieGrn).mintOf = 52 * 2 ^ 16 / 10 := by decide

/-- The worked gains of chapter 11: KP = 11,200 and KI = 1,007 (R322). -/
theorem test_copper_interpolation :
    interp 19988 9830 14746 19661 24576 = (2, 4360) ∧ interp 5600 2048 4096 6144 8192 = (1, 48128) := by decide

/-- The three products of the worked program of chapter 11 and round16 of their sum (R316). -/
theorem test_copper_round16 : (round16 (17039 * 65536 + 11200 * 333 * 8 - 11200 * 301 * 8 + 1007 * 333 * 8)).1 = 17124 := by decide

/-- Grain caps: a coolant that binds CD2 while the rack binds the module shows 0x0000_0402 (chapter 6). -/
theorem test_cap_status_word :
    (rig [(.grb .capStatusBinding, 0, 2), (.grb .capStatusDieThermal, 0, 4)]).peek 0x10001C = 0x402 := by decide +kernel

/-- A doorbell while a command runs only sets REFUSED; THL_MBX_STATE reads 0x0104_0402 (R242, chapter 8). -/
theorem test_doorbell_while_busy :
    (fun t : State => t.peek 0xA00060 = 0x01040402) (after (exec .getStatus (((boxed 2 []).setF (.thl .mbxStateState) 0 2).setF (.thl .mbxStateOpcode) 0 4 |>.setF (.thl .mbxStateProgress) 0 4))) := by decide +kernel

/-- The identifiers of chapter 13: RACK_CAP and its fields (R366). -/
theorem test_rack_cap_identifier :
    identType 0x060ABF11 = 0x20 ∧ identRack 0x060ABF11 = 0x2A ∧ identSlot 0x060ABF11 = 63 ∧ identDest 0x060ABF11 = 17 := by decide

/-- The generator starts from the constant of R54 when the seed is 0. -/
theorem test_zero_seed_is_replaced :
    (fun t : State => (t.cl 0).gen = 0x9E3779B97F4A7C15) (after (exec (.cluSrSeedWrite 0 0) (rig []))) := by decide +kernel

/-- Addition wraps at 64 bits (R57). -/
theorem test_scalar_add_wraps : scalarResult 1 .add (2 ^ 64 - 1) 2 = 1 := by decide

/-- The signed and the unsigned less-than branch differ (R57). -/
theorem test_branch_lt_is_signed : branchTaken 0x23 .lt (2 ^ 64 - 1) 0 = true ∧ branchTaken 0x25 .ltu (2 ^ 64 - 1) 0 = false := by decide

/-- A shift right that keeps the sign (R57). -/
theorem test_scalar_sar : scalarResult 10 .sar (2 ^ 63) 63 = 2 ^ 64 - 1 := by decide

/-- A signal that would pass 255 leaves 255 and sets OVF (R139). -/
theorem test_signal_saturates :
    (fun t : State => t.gateCount 0 = 255 ∧ t.getF (.stg .gateStateOvf) 0 = 1) (after (exec (.stgSignal (255 * 2 ^ 16)) (gated.setF (.stg .gateStateCount) 0 1))) := by decide +kernel

/-- V3 waits for V2 and pulls in at 2.00 − 0.70 = 1.30 A (chapter 12, R347). -/
theorem test_second_valve_pulls_in_reduced :
    (fun t : State => t.getF (.drv .valveStatusCurrent) 3 = 130 ∧ t.getF (.drv .valveStatusReduced) 3 = 1 ∧
        t.getF (.drv .pullinWaitsLastWaitUs) 0 = 6000) (after (exec (.pullinStart 3 6000) (({ (rig [(.drv .valveStatusState, 2, 3), (.drv .valveStatusState, 3, 1),
        (.drv .valveStatusCode, 2, 0)]) with drive := { driveInit with counted := [3] } }).setSwitchQueue 1 [3]))) := by decide +kernel

/-! ### Ill-formed commands are refused -/

theorem test_illformed_patrol_pair : (Instr.patrolScrub 20 0 0 .clean false).wf = false ∧ (Instr.patrolScrub 0 128 0 .clean false).wf = false := by decide
theorem test_illformed_cluster : (Instr.done 832).wf = false ∧ (Instr.clusterAbsent 832).wf = false := by decide
theorem test_illformed_ring : (Instr.ringCancel 512).wf = false := by decide
theorem test_illformed_stack : (Instr.sparingStart 20).wf = false := by decide
theorem test_illformed_channel : (Instr.selfRefreshEntry 20 0).wf = false ∧ (Instr.selfRefreshEntry 0 128).wf = false := by decide
theorem test_illformed_gate : (Instr.gateCommit 65536).wf = false := by decide
theorem test_illformed_die : (Instr.grainGrant 4).wf = false ∧ (Instr.hotN 4 false).wf = false ∧ (Instr.leakSuspectEnd 4).wf = false := by
  decide
theorem test_illformed_row_port : (Instr.pumpStall 2).wf = false ∧ (Instr.clashClr 2).wf = false := by decide
theorem test_illformed_port : (Instr.portRetrain 14).wf = false ∧ (Instr.laneLoss 14 0).wf = false ∧ (Instr.portEnableWrite 12 1).wf = false := by decide
theorem test_illformed_retry_timer : (Instr.trainRetryTimer 14).wf = false := by decide
theorem test_illformed_packet_port (f : Flit) (p : Pkt) : (Instr.flitReceive 14 f false).wf = false ∧ (Instr.sig 13 p).wf = false := ⟨rfl, rfl⟩
theorem test_illformed_notice (p : Pkt) : (Instr.noticeDown 13 p).wf = false ∧ (Instr.noticeParked 13 p).wf = false := ⟨rfl, rfl⟩
theorem test_illformed_module : (Instr.fenceClr 16384).wf = false := by decide
theorem test_illformed_collective : (Instr.collTimeout 16).wf = false := by decide
theorem test_illformed_vector : (Instr.irqHoldoffExpiry 4).wf = false := by decide
theorem test_illformed_heartbeat : (Instr.dieCe 5).wf = false := by decide
theorem test_illformed_sensor : (Instr.sensQuery 65536).wf = false := by decide
theorem test_illformed_zone : (Instr.rcMarkerTimeout 8).wf = false := by decide
theorem test_illformed_warning : (Instr.coolantWarn 8).wf = false := by decide
theorem test_illformed_loop : (Instr.loopTableExit 32).wf = false := by decide
theorem test_illformed_valve : (Instr.valveRetry 8).wf = false := by decide
theorem test_illformed_switch : (Instr.switchRestart 4).wf = false := by decide
theorem test_illformed_buffer : (Instr.frameTxDone 2 0).wf = false ∧ (Instr.frameTxDone 0 3).wf = false := by decide
theorem test_illformed_record : (Instr.recordSeal (2 ^ 32)).wf = false := by decide
theorem test_illformed_sector : (Instr.norWriteFail 128 true []).wf = false := by decide
theorem test_illformed_logical : (Instr.clusterRemap 800).wf = false := by decide
theorem test_wellformed_bounds : (Instr.done 831).wf = true ∧ (Instr.clusterRemap 799).wf = true ∧ (Instr.hotN 3 true).wf = true := by decide

/-! ### The hypotheses of the machine-wide claims can be met -/

theorem reset_fits : State.reset.fits := fun f i v h => by
  rcases h with h | h <;> exact absurd h (List.not_mem_nil)

theorem reset_supplied : State.reset.supplyOk := fun d h => by simp [State.isOn, State.reset, powerInit] at h

theorem witness_stepRunsTheFrontCommand : ∃ (s : State) (c : Instr) (rest : List Instr), s.pending = c :: rest :=
  ⟨{ State.reset with pending := [.memFree] }, .memFree, [], rfl⟩

theorem witness_emptyQueueIdles : ∃ s : State, s.pending = [] := ⟨State.reset, rfl⟩

theorem witness_stepTakesOneCommand :
    (∃ s t : State, s.pending ≠ [] ∧ step s = .next t) ∧ ∃ (c : Instr) (s t : State), exec c s = .next t :=
  ⟨⟨{ rig [] with pending := [.capHostWrite 700] }, _, by decide +kernel, rfl⟩, .capHostWrite 700, rig [], _, rfl⟩

theorem witness_everyStepKeepsTheInvariant :
    ∃ s t : State, s.wf = true ∧ s.fits ∧ s.supplyOk ∧ s.cask.perm.length ≤ 1024 ∧ s.pending ≠ [] ∧ step s = .next t :=
  ⟨{ State.reset with pending := [.stgSignal 5] }, _, by decide, reset_fits, reset_supplied, by decide, by decide, rfl⟩

/-- A module whose generation-9 record has been written. -/
def oneGeneration : State := { State.reset with sec := { State.reset.sec with otp := List.replicate 9 [] ++ [[1]] }, pending := [.gtest 0] }

theorem witness_writtenGenerationsStay :
    (∃ (s t : State) (g : Nat), step s = .next t ∧ s.otpWritten g = true) ∧
      ∃ (c : Instr) (s t : State), reachesOtp c = false ∧ exec c s = .next t :=
  ⟨⟨oneGeneration, _, 9, rfl, by decide +kernel⟩, .gtest 0, State.reset, _, by decide, rfl⟩

theorem witness_permanentRecordsOnlyGrow : ∃ s t : State, step s = .next t ∧ s.cask.perm.length ≤ 1024 :=
  ⟨{ rig [] with pending := [.recordSeal 1] }, _, rfl, by decide +kernel⟩

theorem witness_identityStaysAndCountsGrow : ∃ s t : State, s.pending = [.operatingHourTick] ∧ step s = .next t :=
  ⟨{ rig [] with pending := [.operatingHourTick] }, _, rfl, rfl⟩

theorem witness_memoryIsLeftAlone :
    ∃ (c : Instr) (s t : State), reachesMemory c = false ∧ reachesLive c = false ∧ exec c s = .next t :=
  ⟨.stgSignal 1, gated, _, by decide, by decide, rfl⟩

theorem witness_domainsAreLeftAlone : ∃ (c : Instr) (s t : State), reachesDomains c = false ∧ exec c s = .next t :=
  ⟨.stgSignal 1, gated, _, by decide, rfl⟩

theorem witness_valuesInForceAreLeftAlone : ∃ (c : Instr) (s t : State), reachesLive c = false ∧ exec c s = .next t :=
  ⟨.stgSignal 1, gated, _, by decide, rfl⟩

theorem witness_holderIsLeftAlone : ∃ (c : Instr) (s t : State), reachesOwner c = false ∧ exec c s = .next t :=
  ⟨.stgSignal 1, gated, _, by decide, rfl⟩

theorem witness_sequencerStaysInItsCluster :
    ∃ (c : Nat) (fn : ScalarFn) (im : Bool) (cond : BranchCond) (s : State), s.issues c = true ∧ (∃ d, d ≠ c) ∧
      ∀ i ∈ [Instr.scalarOp c fn im, .branch c cond, .tbwait c, .dmawait c, .fence c], ∃ t, exec i s = .next t :=
  ⟨0, .add, true, .eq, runs (iw 0x01 0 0 0 0) (rig []), by decide +kernel, ⟨1, by decide⟩, fun i h => by
    simp only [List.mem_cons, List.not_mem_nil, or_false] at h
    rcases h with rfl | rfl | rfl | rfl | rfl <;> exact ⟨_, rfl⟩⟩

theorem witness_noReserveSteeps : ∃ (c : Nat) (s : State), s.fetching c = true ∧ s.reserveOk c = false :=
  ⟨0, (runs 0 (rig [])).modCl 0 fun k => { k with reserve := 0 }, by decide +kernel, by decide +kernel⟩

theorem witness_hostCapIsClamped :
    (∃ (s : State) (v : Word) (w : Nat), s.isOn .aux = true ∧ 700 ≤ s.ceilingW ∧ w = v.toNat % 2 ^ 16 ∧ w < 700) ∧
    (∃ (s : State) (v : Word) (w : Nat), s.isOn .aux = true ∧ 700 ≤ s.ceilingW ∧ w = v.toNat % 2 ^ 16 ∧ s.ceilingW < w) ∧
    (∃ (s : State) (v : Word) (w : Nat), s.isOn .aux = true ∧ 700 ≤ s.ceilingW ∧ w = v.toNat % 2 ^ 16 ∧ 700 ≤ w ∧ w ≤ s.ceilingW) ∧
    ∃ s : State, s.getF (.grb .capHostCapW) = 0xFFFF ∧ s.ceilingW ≤ 0xFFFF :=
  ⟨⟨rig [(.grb .capCeilingCapW, 0, 3600)], 699, 699, by decide +kernel, by decide +kernel, by decide, by decide⟩,
   ⟨rig [(.grb .capCeilingCapW, 0, 3600)], 3601, 3601, by decide +kernel, by decide +kernel, by decide, by decide +kernel⟩,
   ⟨rig [(.grb .capCeilingCapW, 0, 700)], 700, 700, by decide +kernel, by decide +kernel, by decide, by decide, by decide +kernel⟩,
   rig [(.grb .capCeilingCapW, 0, 3600)], by decide +kernel, by decide +kernel⟩

theorem witness_doneRecordsItsStatus :
    (∃ (s : State) (c w : Nat) (k : Token) (l : List Token), s.issues c = true ∧ s.fetchWord c = w ∧ opc w = 0xA1 ∧
      (s.cl c).tokens = k :: l) ∧
    ∃ (s : State) (c : Nat), s.issues c = true ∧ opc (s.fetchWord c) = 0xA1 ∧ (s.cl c).tokens = [] :=
  ⟨⟨(runs (iw 0xA1 0 0 0 0) (rig [])).modCl 0 fun k => { k with tokens := [aToken] }, 0, iw 0xA1 0 0 0 0, aToken, [],
     by decide +kernel, by decide +kernel, by decide, rfl⟩,
   runs (iw 0xA1 0 0 0 0) (rig []), 0, by decide +kernel, by decide +kernel, by decide +kernel⟩

/-- A spill that draws from the generator of cluster 0, with this sequence or none yet. -/
def drawing (g : Option Nat) : State :=
  (runs 0 (rig [])).modCl 0 fun k => { k with spills := [⟨{ readTb tbZero with sRm := 2, sFmt := 1 }, g⟩], heldSeed := some 3 }

theorem witness_seedWriteWaitsForTheSpill :
    (∃ (s : State) (c : Nat), s.cluWrites c = true ∧ (s.cl c).spills.any Spill.drawing = false ∧
      ∀ x ∈ (s.cl c).spills, x.ready = true) ∧
    (∃ (s : State) (c : Nat), s.cluWrites c = true ∧ (s.cl c).spills.any Spill.drawing = true) ∧
    (∃ (s : State) (c n : Nat), (s.cl c).spills.any Spill.drawing = false ∧ (∀ x ∈ (s.cl c).spills, x.ready = true) ∧
      (s.cl c).heldSeed = some n) ∧
    ∃ (s : State) (c n : Nat) (x : Spill), (s.cl c).spills = [x] ∧ x.ready = false ∧ (s.cl c).heldSeed = some n :=
  ⟨⟨runs 0 (rig []), 0, by decide +kernel, by decide +kernel, by decide +kernel⟩,
   ⟨drawing (some 5), 0, by decide +kernel, by decide +kernel⟩,
   ⟨(rig []).modCl 0 fun k => { k with heldSeed := some 0 }, 0, 0, by decide +kernel, by decide +kernel, by decide +kernel⟩,
   drawing none, 0, 3, ⟨{ readTb tbZero with sRm := 2, sFmt := 1 }, none⟩, by decide +kernel, by decide +kernel, by decide +kernel⟩

theorem witness_signalsAddAndSaturate :
    (∃ (s : State) (v : Word) (g inc : Nat), s.isOn .iod = true ∧ g = bits v.toNat 15 0 ∧ inc = bits v.toNat 23 16 ∧ validGate g = true ∧
      s.gateOn g = true ∧ s.isBarrier g = false ∧ s.gateQueue g = [] ∧ s.gateCount g ≤ 255 ∧ 255 < s.gateCount g + inc) ∧
    (∃ (s : State) (v : Word) (g inc : Nat), s.isOn .iod = true ∧ g = bits v.toNat 15 0 ∧ inc = bits v.toNat 23 16 ∧ validGate g = true ∧
      s.gateOn g = true ∧ s.isBarrier g = false ∧ s.gateQueue g = [] ∧ s.gateCount g ≤ 255 ∧ s.gateCount g + inc ≤ 255) ∧
    (∃ (s : State) (v : Word) (g : Nat), s.isOn .iod = true ∧ g = bits v.toNat 15 0 ∧ validGate g = true ∧
      bits v.toNat 23 16 ≠ 0 ∧ s.gateOn g = false) ∧
    (∃ (s : State) (v : Word), s.isOn .iod = true ∧ bits v.toNat 23 16 = 0) ∧
    ∃ (s : State) (v : Word) (g : Nat), s.isOn .iod = true ∧ g = bits v.toNat 15 0 ∧ validGate g = true ∧
      bits v.toNat 23 16 ≠ 0 ∧ s.isBarrier g = true :=
  ⟨⟨gated.setF (.stg .gateStateCount) 0 255, 0x10000, 0, 1, by decide +kernel, by decide, by decide, by decide, by decide +kernel,
     by decide +kernel, by decide +kernel, by decide +kernel, by decide +kernel⟩,
   ⟨gated, 0xFF0000, 0, 255, by decide +kernel, by decide, by decide, by decide, by decide +kernel, by decide +kernel,
     by decide +kernel, by decide +kernel, by decide +kernel⟩,
   ⟨gated, 0x143FF, 0x43FF, by decide +kernel, by decide, by decide, by decide, by decide +kernel⟩,
   ⟨gated, 0xFFFF, by decide +kernel, by decide⟩,
   gated, 0x10001, 1, by decide +kernel, by decide, by decide, by decide, by decide +kernel⟩

theorem witness_mintAddsTheDieCap :
    (∃ (s : State) (n : Nat), n < 4 ∧ s.isOn (.core n) = true ∧ s.grn.setWaits = false ∧
      (s.die n).pool + (s.die n).capUw * 2 ^ 16 / 10 ^ 8 ≤ ((s.getLive (.grb .bankMaxGrains) * 2 ^ 16 : Nat) : Int)) ∧
    ∃ (s : State) (n : Nat), n < 4 ∧ s.isOn (.core n) = true ∧ s.grn.setWaits = false ∧
      ((s.getLive (.grb .bankMaxGrains) * 2 ^ 16 : Nat) : Int) < (s.die n).pool + (s.die n).capUw * 2 ^ 16 / 10 ^ 8 :=
  ⟨⟨rigL [] [(.grb .bankMaxGrains, 0, 100)], 3, by decide, by decide +kernel, by decide +kernel, by decide +kernel⟩,
   (rigL [] [(.grb .bankMaxGrains, 0, 0)]).modDie 0 fun d => { d with capUw := 520000000 }, 0, by decide, by decide +kernel,
   by decide +kernel, by decide +kernel⟩

theorem witness_highWordIsLatched :
    ∃ (_ : State) (a : Word), a.toNat % 4 = 0 ∧ isLoAddr a.toNat = true ∧ blockOf (a.toNat + 4) = blockOf a.toNat ∧
      (blockOf a.toNat).isSome = true :=
  ⟨State.reset, 0x900004, by decide +kernel, by decide +kernel, by decide +kernel, by decide +kernel⟩

theorem witness_heldCommitWaits :
    (∃ s : State, s.isOn .iod = true ∧ s.flag (.mil .commitStatusBusy) = true ∧ 7 ∉ s.heldCommits) ∧
    (∃ s : State, s.isOn .iod = true ∧ s.heldCommits = [7] ∧ s.flag (.mil .commitStatusBusy) = true) ∧
    (∃ s : State, s.heldCommits = [7] ∧ s.flag (.mil .commitStatusBusy) = false) ∧ ∃ s : State, s.thl.held = [] :=
  ⟨⟨rig [(.mil .commitStatusBusy, 0, 1)], by decide +kernel, by decide +kernel, by decide +kernel⟩,
   ⟨{ rig [(.mil .commitStatusBusy, 0, 1)] with heldCommits := [7] }, by decide +kernel, rfl, by decide +kernel⟩,
   ⟨{ rig [] with heldCommits := [7] }, rfl, by decide +kernel⟩, rig [], by decide +kernel⟩

theorem witness_interlockTable :
    (∃ s : State, s.canTake .ka = true ∧ s.canTake .kb = true) ∧ ∃ (s : State) (k : Kiln), s.active = some k :=
  ⟨⟨unowned, by decide +kernel, by decide +kernel⟩, rig [], .ka, rfl⟩

theorem witness_badAccessesAreAnswered :
    (∃ (s : State) (p : Pkt), s.linkLive 13 = true ∧ s.thl.held = [] ∧ p.addr % 2 ^ 32 % 4 ≠ 0 ∧ hostOk 0x30 p 0 = true) ∧
    (∃ (s : State) (p : Pkt), s.linkLive 13 = true ∧ s.thl.held = [] ∧ p.aux % 16 ≠ 0xF ∧ hostOk 0x31 p 1 = true) ∧
    (∃ (s : State) (p : Pkt), s.linkLive 13 = true ∧ s.thl.held = [] ∧ p.addr % 2 ^ 32 % 4 = 0 ∧ p.aux % 16 = 0xF ∧
      blockOf (p.addr % 2 ^ 32) = none ∧ hostOk 0x30 p 0 = true) ∧
    ∃ a : Word, a.toNat % 4 ≠ 0 :=
  ⟨⟨hosting, hostPk 0x30 0 0xFFFFFFFF 15, by decide +kernel, by decide +kernel, by decide, by decide +kernel⟩,
   ⟨hosting, hostPk 0x31 1 0 14, by decide +kernel, by decide +kernel, by decide, by decide +kernel⟩,
   ⟨hosting, hostPk 0x30 0 0x02D00000 15, by decide +kernel, by decide +kernel, by decide, by decide, by decide +kernel,
     by decide +kernel⟩, 1, by decide⟩

theorem witness_domainFaultTakesDependants :
    ∃ (s : State) (d e : Domain), s.supplyOk ∧ s.isOn d = true ∧ domainUnder e d = true ∧ s.isOn e = true :=
  ⟨bare [.aux, .iod, .core 0, .mem 0] [], .core 0, .mem 0, fun d h => by
    have m : d ∈ [Domain.aux, .iod, .core 0, .mem 0] := by simpa [State.isOn, bare] using h
    simp only [List.mem_cons, List.not_mem_nil, or_false] at m
    rcases m with rfl | rfl | rfl | rfl <;> decide +kernel, by decide +kernel, by decide, by decide +kernel⟩

/-! ### The hypotheses of the completion claims can be met -/

theorem witness_hostAccessesComplete :
    (∃ (s : State) (p : Pkt), (s.linkLive 13 = true) ∧ (hostOk 0x30 p 0 = true) ∧ (s.thl.held = []) ∧ (s.reqWaits p = false) ∧ (cfgRefusal (cfgAddr p) (cfgBe p) = 0)) ∧
    (∃ (s : State) (p : Pkt) (st : Nat), (s.linkLive 13 = true) ∧ (hostOk 0x30 p 0 = true) ∧ (s.thl.held = []) ∧ (s.reqWaits p = false) ∧ (st ≠ 0) ∧ (cfgRefusal (cfgAddr p) (cfgBe p) = st)) ∧
    (∃ (s : State) (p : Pkt), (s.linkLive 13 = true) ∧ (hostOk 0x30 p 0 = true) ∧ (s.thl.held = []) ∧ (s.reqWaits p = true)) ∧
    (∃ (s : State) (p : Pkt), (s.linkLive 13 = true) ∧ (hostOk 0x31 p 1 = true) ∧ (s.thl.held = []) ∧ (s.reqWaits p = false) ∧ (cfgRefusal (cfgAddr p) (cfgBe p) = 0) ∧ (s.configLocks (cfgAddr p) = false)) ∧
    (∃ (s : State) (p : Pkt) (st : Nat), (s.linkLive 13 = true) ∧ (hostOk 0x31 p 1 = true) ∧ (s.thl.held = []) ∧ (s.reqWaits p = false) ∧ (st ≠ 0) ∧ (cfgRefusal (cfgAddr p) (cfgBe p) = st)) ∧
    (∃ (s : State) (p : Pkt), (s.linkLive 13 = true) ∧ (hostOk 0x31 p 1 = true) ∧ (s.thl.held = []) ∧ (s.reqWaits p = false) ∧ (cfgRefusal (cfgAddr p) (cfgBe p) = 0) ∧ (s.configLocks (cfgAddr p) = true)) ∧
    (∃ (s : State) (p : Pkt), (s.linkLive 13 = true) ∧ (hostOk 0x31 p 1 = true) ∧ (s.thl.held = []) ∧ (s.reqWaits p = true)) ∧
    (∃ (s : State) (p : Pkt) (mecc : List MemEcc) (t : State) (r : MemRes) (b : List Byte), (s.linkLive 13 = true) ∧ (hostOk 0x33 p 0 = true) ∧ (s.thl.held = []) ∧ (s.reqWaits p = false) ∧ (memShape (memAddr p) (memCount p) = true) ∧ (s.memRead (memAddr p) (memCount p) mecc = (t, r, b))) ∧
    (∃ (s : State) (p : Pkt) (mecc : List MemEcc), (s.linkLive 13 = true) ∧ (hostOk 0x33 p 0 = true) ∧ (s.thl.held = []) ∧ (s.reqWaits p = false) ∧ (memShape (memAddr p) (memCount p) = false)) ∧
    (∃ (s : State) (p : Pkt) (mecc : List MemEcc) (t : State) (r : MemRes), (s.linkLive 13 = true) ∧ (hostOk 0x34 p (if memShape (memAddr p) (memCount p) then ((memCount p) + 63) / 64 else p.len) = true) ∧ (s.thl.held = []) ∧ (s.reqWaits p = false) ∧ (memShape (memAddr p) (memCount p) = true) ∧ (s.memWrite (memAddr p) (p.payload.take (memCount p)) mecc = (t, r, []))) ∧
    (∃ (s : State) (p : Pkt) (mecc : List MemEcc) (t : State) (r : MemRes) (x : Nat) (l : List Nat), (s.linkLive 13 = true) ∧ (hostOk 0x34 p (if memShape (memAddr p) (memCount p) then ((memCount p) + 63) / 64 else p.len) = true) ∧ (s.thl.held = []) ∧ (s.reqWaits p = false) ∧ (memShape (memAddr p) (memCount p) = true) ∧ (s.memWrite (memAddr p) (p.payload.take (memCount p)) mecc = (t, r, x :: l))) ∧
    (∃ (s : State) (p : Pkt) (mecc : List MemEcc), (s.linkLive 13 = true) ∧ (hostOk 0x34 p (if memShape (memAddr p) (memCount p) then ((memCount p) + 63) / 64 else p.len) = true) ∧ (s.thl.held = []) ∧ (s.reqWaits p = true)) ∧
    (∃ (s : State) (addr : Word) (data : Word), (addr.toNat % 4 = 0)) ∧
    (∃ (s : State) (addr : Word), (addr.toNat % 4 = 0)) :=
  ⟨⟨rig [(.thl .statusState, 0, 2)], hostPk 0x30 0 0 15, by decide +kernel, by decide +kernel, by decide +kernel, by decide +kernel, by decide +kernel⟩,
   ⟨rig [(.thl .statusState, 0, 2)], hostPk 0x30 0 5 15, 0x10, by decide +kernel, by decide +kernel, by decide +kernel, by decide +kernel, by decide +kernel, by decide +kernel⟩,
   ⟨bare [.aux, .iod] [(.thl .statusState, 0, 2)], hostPk 0x30 0 0xC00000 15, by decide +kernel, by decide +kernel, by decide +kernel, by decide +kernel⟩,
   ⟨rig [(.thl .statusState, 0, 2)], hostPk 0x31 1 0 15, by decide +kernel, by decide +kernel, by decide +kernel, by decide +kernel, by decide +kernel, by decide +kernel⟩,
   ⟨rig [(.thl .statusState, 0, 2)], hostPk 0x31 1 0 7, 0x10, by decide +kernel, by decide +kernel, by decide +kernel, by decide +kernel, by decide +kernel, by decide +kernel⟩,
   ⟨{ rig [(.thl .statusState, 0, 2), (.thl .mbxStateState, 0, 2), (.thl .mbxStateOpcode, 0, 3)] with thl := { State.reset.thl with mbxRun := true, locked := [6] } }, hostPk 0x31 1 0x540008 15, by decide +kernel, by decide +kernel, by decide +kernel, by decide +kernel, by decide +kernel, by decide +kernel⟩,
   ⟨bare [.aux, .iod] [(.thl .statusState, 0, 2)], hostPk 0x31 1 0xC00000 15, by decide +kernel, by decide +kernel, by decide +kernel, by decide +kernel⟩,
   ⟨rig [(.thl .statusState, 0, 2)], hostPk 0x33 0 0 8, [], _, _, _, by decide +kernel, by decide +kernel, by decide +kernel, by decide +kernel, by decide +kernel, pairs3⟩,
   ⟨rig [(.thl .statusState, 0, 2)], hostPk 0x33 0 0 9, [], by decide +kernel, by decide +kernel, by decide +kernel, by decide +kernel, by decide +kernel⟩,
   ⟨rig [(.thl .statusState, 0, 2)], hostPk 0x34 1 0 8, [], _, _, by decide +kernel, by decide +kernel, by decide +kernel, by decide +kernel, by decide +kernel, (tripleEnd (by decide +kernel))⟩,
   ⟨((mirroring.setF (.thl .statusState) 0 2).setLive (.mem .mirCfgSync) 0 1).setCredits 12 0 1, hostPk 0x34 1 0 8, [], _, _, 0, [], by decide +kernel, by decide +kernel, by decide +kernel, by decide +kernel, by decide +kernel, (tripleEnd (by decide +kernel))⟩,
   ⟨(mirroring.setF (.thl .statusState) 0 2), hostPk 0x34 1 0 8, [], by decide +kernel, by decide +kernel, by decide +kernel, by decide +kernel⟩,
   ⟨rig [], 0x100, 3, by decide +kernel⟩,
   ⟨rig [], 0x100, by decide +kernel⟩⟩

theorem witness_heldAccessesComplete :
    (∃ (s : State) (b a v : Nat) (rest : List (Nat × Nat × Nat)) (r : RegRow) (k : Nat), (s.heldWrites = (b, a, v) :: rest) ∧ (s.blockBusy b = false) ∧ (regAt a = some (r, k)) ∧ (({ s with heldWrites := rest } : State).rowOn r k = true)) ∧
    (∃ (s : State) (b : Nat) (rest : List Nat), (s.heldCommits = b :: rest) ∧ (s.blockBusy b = false)) ∧
    (∃ (s : State) (p : Pkt) (e : HmemPend), (s.linkLive 13 = true) ∧ (hostOk 0x37 p 0 = true) ∧ (p.status = 0) ∧ ((s.leaveBuffer 13 p).findHmem p.tag = some e) ∧ (e.kind = .report)) ∧
    (∃ (s : State) (p : Pkt) (e : HmemPend), (s.linkLive 13 = true) ∧ (hostOk 0x37 p 0 = true) ∧ (p.status = 0) ∧ ((s.leaveBuffer 13 p).findHmem p.tag = some e) ∧ (e.kind ≠ .report)) ∧
    (∃ (s : State) (p : Pkt) (e : HmemPend), (s.linkLive 13 = true) ∧ (hostOk 0x37 p 0 = true) ∧ (p.status = 3) ∧ ((s.leaveBuffer 13 p).findHmem p.tag = some e)) ∧
    (∃ (s : State) (tag : Nat) (e : HmemPend), (s.findHmem tag = some e)) ∧
    (∃ (s : State) (q : HostReq) (l : List HostReq), (s.thl.held = q :: l) ∧ (s.waitsKiln q.pkt = true)) :=
  ⟨⟨{ rig [] with heldWrites := [(5, 0x400000, 3)] }, _, _, _, _, _, _, rfl, by decide +kernel, rfl, by decide +kernel⟩,
   ⟨{ rig [] with heldCommits := [7] }, _, _, rfl, by decide +kernel⟩,
   ⟨{ rig [(.thl .statusState, 0, 2)] with thl := { State.reset.thl with hmem := [⟨7, .report, 64⟩] } }, hmemAckPk 0, _, by decide +kernel, by decide +kernel, by decide +kernel, rfl, by decide +kernel⟩,
   ⟨{ rig [(.thl .statusState, 0, 2)] with thl := { State.reset.thl with hmem := [⟨7, .oldReport, 64⟩] } }, hmemAckPk 0, _, by decide +kernel, by decide +kernel, by decide +kernel, rfl, by decide +kernel⟩,
   ⟨{ rig [(.thl .statusState, 0, 2)] with thl := { State.reset.thl with hmem := [⟨7, .report, 64⟩] } }, hmemAckPk 3, _, by decide +kernel, by decide +kernel, by decide +kernel, rfl⟩,
   ⟨{ rig [] with thl := { State.reset.thl with hmem := [⟨7, .report, 64⟩] } }, 7, _, rfl⟩,
   ⟨{ bare [.aux, .iod] [(.thl .statusState, 0, 2)] with thl := { State.reset.thl with held := [⟨hostPk 0x30 0 0xC00000 15, []⟩] } }, _, _, rfl, by decide +kernel⟩⟩

theorem witness_startupBeginsAndPressureTest :
    (∃ (s : State) (straps : Straps) (first : Kiln) (loops : List Nat) (p : State), (s.isOn .aux = false) ∧ (p = (({ s.turnOn .aux with power := { (s.turnOn .aux).power with powerCycles := (s.turnOn .aux).power.powerCycles + 1, modState := .starting } } : State).takeStraps straps).readOtp.showIdent.takeCeiling.caskDefaults)) ∧
    (∃ (s : State), (s.kilnActs = true) ∧ (s.power.boot = .pressureWait)) ∧
    (∃ (s : State), (s.kilnActs = true) ∧ (s.power.boot = .pressureWait)) ∧
    (∃ (s : State) (fall : Nat) (loops : List Nat) (zeroBad : List Nat) (carrier : Bool), (s.kilnActs = true) ∧ (s.power.boot = .pressureHold) ∧ (badLoop loops = none) ∧ (fall ≤ 5)) ∧
    (∃ (s : State) (fall : Nat) (loops : List Nat) (zeroBad : List Nat) (carrier : Bool), (s.kilnActs = true) ∧ (s.power.boot = .pressureHold) ∧ (badLoop loops = none) ∧ (5 < fall)) ∧
    (∃ (s : State) (fall : Nat) (loops : List Nat) (zeroBad : List Nat) (carrier : Bool) (n st : Nat), (s.kilnActs = true) ∧ (s.power.boot = .pressureHold) ∧ (badLoop loops = some (n, st))) ∧
    (∃ (s : State) (loops : List Nat), (s.kilnActs = true) ∧ (s.power.boot = .pressureRetry)) ∧
    (∃ (s : State), (s.kilnActs = true) ∧ (s.power.boot = .precharge)) ∧
    (∃ (s : State), (s.kilnActs = true) ∧ (s.power.boot = .precharge)) ∧
    (∃ (s : State), (s.kilnActs = true) ∧ (s.power.boot = .prechargeRetry)) :=
  ⟨⟨State.reset, ⟨some 3, some 4, some 0, some 0⟩, .ka, [], _, by decide +kernel, rfl⟩,
   ⟨booting .pressureWait (rig []), by decide +kernel, by decide +kernel⟩,
   ⟨booting .pressureWait (rig []), by decide +kernel, by decide +kernel⟩,
   ⟨booting .pressureHold (rig []), 5, [0, 0, 0, 0], [], true, by decide +kernel, by decide +kernel, by decide +kernel, by decide +kernel⟩,
   ⟨booting .pressureHold (rig []), 6, [0, 0, 0, 0], [], true, by decide +kernel, by decide +kernel, by decide +kernel, by decide +kernel⟩,
   ⟨booting .pressureHold (rig []), 0, [0, 1, 0, 0], [], true, _, _, by decide +kernel, by decide +kernel, rfl⟩,
   ⟨booting .pressureRetry (rig []), [0, 0, 0, 0], by decide +kernel, by decide +kernel⟩,
   ⟨booting .precharge (rig []), by decide +kernel, by decide +kernel⟩,
   ⟨booting .precharge (rig []), by decide +kernel, by decide +kernel⟩,
   ⟨booting .prechargeRetry (rig []), by decide +kernel, by decide +kernel⟩⟩

theorem witness_startupEndsAndSupplyLosses :
    (∃ (s : State) (tests : PowerTests), (s.kilnActs = true) ∧ (s.power.boot = .flowWait)) ∧
    (∃ (s : State), (s.kilnActs = true) ∧ (s.power.boot = .flowWait)) ∧
    (∃ (s : State), (s.kilnActs = true) ∧ (s.power.boot = .pressureWait ∨ s.power.boot = .pressureHold)) ∧
    (∃ (s : State), (s.kilnActs = true) ∧ (s.power.boot = .precharge)) ∧
    (∃ (s : State), (s.kilnActs = true) ∧ (s.power.boot = .flowWait)) ∧
    (∃ (s : State), (s.kilnActs = true) ∧ (s.power.boot = .clockWait)) ∧
    (∃ (s : State), (s.isOn .aux = true) ∧ (s.active.isSome = true)) ∧
    (∃ (s : State), (s.isOn .aux = true) ∧ (s.active = none)) ∧
    (∃ (s : State), (s.kilnActs = true) ∧ (s.power.boot = .clockWait)) ∧
    (∃ (s : State) (d : Domain), (d = .aux) ∧ (s.isOn .aux = true)) ∧
    (∃ (s : State) (d : Domain), (d ≠ .aux) ∧ (s.isOn d = true)) ∧
    (∃ (s : State) (torn : Bool), (s.isOn .aux = true) ∧ (torn = false)) ∧
    (∃ (s : State) (torn : Bool), (s.isOn .aux = true) ∧ (torn = true)) ∧
    (∃ (s : State), (s.kilnActs = true) ∧ (s.power.boot = .inputWait)) :=
  ⟨⟨booting .flowWait (rig []), ⟨[], [], []⟩, by decide +kernel, by decide +kernel⟩,
   ⟨booting .flowWait (rig []), by decide +kernel, by decide +kernel⟩,
   ⟨booting .pressureHold (rig []), by decide +kernel, by decide +kernel⟩,
   ⟨booting .precharge (rig []), by decide +kernel, by decide +kernel⟩,
   ⟨booting .flowWait (rig []), by decide +kernel, by decide +kernel⟩,
   ⟨booting .clockWait (rig []), by decide +kernel, by decide +kernel⟩,
   ⟨rig [], by decide +kernel, by decide +kernel⟩,
   ⟨bare [.aux] [], by decide +kernel, by decide +kernel⟩,
   ⟨booting .clockWait (rig []), by decide +kernel, by decide +kernel⟩,
   ⟨rig [], .aux, by decide +kernel, by decide +kernel⟩,
   ⟨rig [], .mem 3, by decide +kernel, by decide +kernel⟩,
   ⟨rig [], false, by decide +kernel, by decide +kernel⟩,
   ⟨rig [], true, by decide +kernel, by decide +kernel⟩,
   ⟨booting .inputWait (rig []), by decide +kernel, by decide +kernel⟩⟩

theorem witness_scalarInstructionsComplete :
    (∃ (s : State) (c : Nat) (fn : ScalarFn) (useImm : Bool) (w : Nat), (s.issues c = true) ∧ (s.fetchWord c = w) ∧ (0x01 ≤ opc w ∧ opc w ≤ 0x1F)) ∧
    (∃ (s : State) (c : Nat) (cond : BranchCond) (w : Nat), (s.issues c = true) ∧ (s.fetchWord c = w) ∧ (0x20 ≤ opc w ∧ opc w ≤ 0x27) ∧ (branchTaken (opc w) cond (s.sreg c (srcA w)) (s.sreg c (srcB w)) = true)) ∧
    (∃ (s : State) (c : Nat) (cond : BranchCond) (w : Nat), (s.issues c = true) ∧ (s.fetchWord c = w) ∧ (0x20 ≤ opc w ∧ opc w ≤ 0x27) ∧ (branchTaken (opc w) cond (s.sreg c (srcA w)) (s.sreg c (srcB w)) = false)) ∧
    (∃ (s : State) (c : Nat) (store : Bool) (ecc : StoreEcc) (w : Nat), (s.issues c = true) ∧ (s.fetchWord c = w) ∧ (opc w = 0x28) ∧ (store = true) ∧ (s.effAddr c w + 8 ≤ storeSize)) ∧
    (∃ (s : State) (c : Nat) (store : Bool) (ecc : StoreEcc) (w : Nat), (s.issues c = true) ∧ (s.fetchWord c = w) ∧ (opc w = 0x28) ∧ (store = false) ∧ (ecc = .clean) ∧ (s.effAddr c w + 8 ≤ storeSize)) ∧
    (∃ (s : State) (c : Nat) (store : Bool) (ecc : StoreEcc) (w : Nat), (s.issues c = true) ∧ (s.fetchWord c = w) ∧ (opc w = 0x28) ∧ (store = true) ∧ (storeSize < s.effAddr c w + 8)) ∧
    (∃ (s : State) (c : Nat) (reservedEnc : Bool) (w : Nat), (s.issues c = true) ∧ (s.fetchWord c = w) ∧ (s.opInvalid c w = true)) ∧
    (∃ (s : State) (c : Nat) (ecc : StoreEcc), (s.fetching c = true) ∧ (s.fetchIn c = false)) ∧
    (∃ (s : State) (c : Nat) (ecc : StoreEcc) (t : State), (s.fetching c = true) ∧ (s.fetchIn c = true) ∧ (s.storeEcc c ecc = (t, false))) ∧
    (∃ (s : State) (c : Nat) (ecc : StoreEcc) (t : State), (s.fetching c = true) ∧ (s.fetchIn c = true) ∧ (s.storeEcc c ecc = (t, true))) :=
  ⟨⟨(runs (iw 0x01 1 2 3 0) (rig [])).setSreg 0 2 5, 0, .add, false, _, by decide +kernel, rfl, by decide +kernel⟩,
   ⟨runs (iw 0x20 0 2 3 16) (rig []), 0, .always, _, by decide +kernel, rfl, by decide +kernel, by decide +kernel⟩,
   ⟨(runs (iw 0x27 0 2 3 16) (rig [])).setSreg 0 2 5, 0, .eq, _, by decide +kernel, rfl, by decide +kernel, by decide +kernel⟩,
   ⟨runs (iw 0x28 0 2 3 64) (rig []), 0, true, .clean, _, by decide +kernel, rfl, by decide +kernel, by decide +kernel, by decide +kernel⟩,
   ⟨runs (iw 0x28 1 2 3 0) (rig []), 0, false, .clean, _, by decide +kernel, rfl, by decide +kernel, by decide +kernel, by decide +kernel, by decide +kernel⟩,
   ⟨runs (iw 0x28 1 2 3 (2 ^ 22 - 7)) (rig []), 0, true, .clean, _, by decide +kernel, rfl, by decide +kernel, by decide +kernel, by decide +kernel⟩,
   ⟨runs (iw 0xFF 1 2 3 0) (rig []), 0, false, _, by decide +kernel, rfl, by decide +kernel⟩,
   ⟨(runs 0 (rig [])).setPc 0 (2 ^ 22 - 7), 0, .clean, by decide +kernel, by decide +kernel⟩,
   ⟨runs 0 (rig []), 0, .ue, _, by decide +kernel, by decide +kernel, (pairIs (by decide +kernel))⟩,
   ⟨runs 0 (rig []), 0, .corrected [0], _, by decide +kernel, by decide +kernel, (pairIs (by decide +kernel))⟩⟩

theorem witness_tensorAndVectorInstructionsComplete :
    (∃ (s : State) (c : Nat) (ecc : StoreEcc) (w : Nat) (t : State) (b : List Byte), (s.issues c = true) ∧ (s.fetchWord c = w) ∧ (opc w = 0x30) ∧ (s.effAddr c w % 64 = 0 ∧ s.effAddr c w + 64 ≤ storeSize) ∧ (s.storeRead c (s.effAddr c w) 64 ecc = (t, some b)) ∧ (tbOk b = true) ∧ ((readTb b).k ≠ 0)) ∧
    (∃ (s : State) (c : Nat) (ecc : StoreEcc) (w : Nat) (t : State) (b : List Byte), (s.issues c = true) ∧ (s.fetchWord c = w) ∧ (opc w = 0x30) ∧ (s.effAddr c w % 64 = 0 ∧ s.effAddr c w + 64 ≤ storeSize) ∧ (s.storeRead c (s.effAddr c w) 64 ecc = (t, some b)) ∧ (tbOk b = true) ∧ ((readTb b).k = 0)) ∧
    (∃ (s : State) (c : Nat) (ecc : StoreEcc) (w : Nat), (s.issues c = true) ∧ (s.fetchWord c = w) ∧ (opc w = 0x30) ∧ (s.effAddr c w % 64 ≠ 0 ∨ storeSize < s.effAddr c w + 64)) ∧
    (∃ (s : State) (c : Nat) (ecc : StoreEcc) (b : TBlk) (l : List TBlk) (t : State), ((s.cl c).tbq = b :: l) ∧ ((s.cl c).blockReady = true) ∧ (s.gated c = false) ∧ (s.power.hotN = false) ∧ (c < 832) ∧ (s.reserveCovers c b.desc = true) ∧ (s.storeEcc c ecc = (t, true))) ∧
    (∃ (s : State) (c : Nat) (ecc : StoreEcc) (b : TBlk) (l : List TBlk), ((s.cl c).tbq = b :: l) ∧ ((s.cl c).blockReady = true) ∧ (s.gated c = false) ∧ (s.power.hotN = false) ∧ (c < 832) ∧ (s.reserveCovers c b.desc = false)) ∧
    (∃ (s : State) (c : Nat) (units : Nat) (b : TBlk) (l : List TBlk), ((s.cl c).tbq = b :: l) ∧ (b.started = true) ∧ (b.desc.spill = true)) ∧
    (∃ (s : State) (c : Nat) (units : Nat) (b : TBlk) (l : List TBlk), ((s.cl c).tbq = b :: l) ∧ (b.started = true) ∧ (b.desc.spill = false)) ∧
    (∃ (s : State) (c : Nat) (n : Nat) (x : Spill) (t : State), (t = s.loadHeldSeed c) ∧ ((t.cl c).spills[n]? = some x) ∧ (x.ready = true)) ∧
    (∃ (s : State) (c : Nat) (w : Nat), (s.issues c = true) ∧ (s.fetchWord c = w) ∧ (opc w = 0x31) ∧ (((s.nextPc c).cl c).tensorBusy = true)) ∧
    (∃ (s : State) (c : Nat) (w : Nat), (s.issues c = true) ∧ (s.fetchWord c = w) ∧ (opc w = 0x31) ∧ (((s.nextPc c).cl c).tensorBusy = false)) ∧
    (∃ (s : State) (c : Nat) (op : VecOp) (ecc : StoreEcc) (w : Nat) (t : State), (s.issues c = true) ∧ (s.fetchWord c = w) ∧ (0x40 ≤ opc w ∧ opc w ≤ 0x7F) ∧ ((s.cl c).vopReady op = true) ∧ (vecInStore op = true) ∧ (s.storeEcc c ecc = (t, true)) ∧ (vecReads op ≠ [])) ∧
    (∃ (s : State) (c : Nat) (op : VecOp) (ecc : StoreEcc) (w : Nat), (s.issues c = true) ∧ (s.fetchWord c = w) ∧ (0x40 ≤ opc w ∧ opc w ≤ 0x7F) ∧ ((s.cl c).vopReady op = true) ∧ (vecInStore op = true) ∧ (vecReads op = [])) :=
  ⟨⟨(runs (iw 0x30 0 2 0 64) (rig [])).putStore 0 64 tbBytes, 0, .clean, _, _, tbBytes, by decide +kernel, rfl, by decide +kernel, by decide +kernel, (pairIs (by decide +kernel)), by decide +kernel, by decide +kernel⟩,
   ⟨(runs (iw 0x30 0 2 0 64) (rig [])).putStore 0 64 tbZero, 0, .clean, _, _, tbZero, by decide +kernel, rfl, by decide +kernel, by decide +kernel, (pairIs (by decide +kernel)), by decide +kernel, by decide +kernel⟩,
   ⟨runs (iw 0x30 0 2 0 65) (rig []), 0, .clean, _, by decide +kernel, rfl, by decide +kernel, by decide +kernel⟩,
   ⟨(runs 0 (rig [])).modCl 0 fun k => { k with tbq := [⟨readTb tbBytes, false⟩], reserve := 2 ^ 60 }, 0, .clean, _, _, _, rfl, by decide +kernel, by decide +kernel, by decide +kernel, by decide +kernel, by decide +kernel, (pairIs (by decide +kernel))⟩,
   ⟨(runs 0 (rig [])).modCl 0 fun k => { k with tbq := [⟨readTb tbBytes, false⟩], reserve := 0 }, 0, .clean, _, _, rfl, by decide +kernel, by decide +kernel, by decide +kernel, by decide +kernel, by decide +kernel⟩,
   ⟨(runs 0 (rig [])).modCl 0 fun k => { k with tbq := [⟨readTb tbZero, true⟩] }, 0, 5, _, _, rfl, by decide +kernel, by decide +kernel⟩,
   ⟨(runs 0 (rig [])).modCl 0 fun k => { k with tbq := [⟨readTb tbBytes, true⟩] }, 0, 5, _, _, rfl, by decide +kernel, by decide +kernel⟩,
   ⟨(runs 0 (rig [])).modCl 0 fun k => { k with spills := [⟨readTb tbBytes, none⟩] }, 0, 0, _, _, rfl, rfl, by decide +kernel⟩,
   ⟨(runs (iw 0x31 0 0 0 0) (rig [])).modCl 0 fun k => { k with tbq := [⟨readTb tbBytes, true⟩] }, 0, _, by decide +kernel, rfl, by decide +kernel, by decide +kernel⟩,
   ⟨runs (iw 0x31 0 0 0 0) (rig []), 0, _, by decide +kernel, rfl, by decide +kernel, by decide +kernel⟩,
   ⟨runs (iw 0x40 0 0 0 0) (rig []), 0, .load 1 (2 ^ 22 - 1024), .clean, _, _, by decide +kernel, rfl, by decide +kernel, by decide +kernel, by decide +kernel, (pairIs (by decide +kernel)), by decide +kernel⟩,
   ⟨runs (iw 0x7F 0 0 0 0) (rig []), 0, .max 1 2 3, .ue, _, by decide +kernel, rfl, by decide +kernel, by decide +kernel, by decide +kernel, by decide +kernel⟩⟩

theorem witness_dmaInstructionsComplete :
    (∃ (s : State) (c : Nat) (ecc : StoreEcc) (w : Nat), (s.issues c = true) ∧ (s.fetchWord c = w) ∧ (opc w = 0x80) ∧ (dmaAddrOk (s.effAddr c w) = true) ∧ ((readDma (s.storeBytes c (s.effAddr c w) 64)).op = 1) ∧ ((s.cl c).dmas.length < 16) ∧ (ecc = .clean)) ∧
    (∃ (s : State) (c : Nat) (ecc : StoreEcc) (w : Nat), (s.issues c = true) ∧ (s.fetchWord c = w) ∧ (opc w = 0x80) ∧ (dmaAddrOk (s.effAddr c w) = true) ∧ ((readDma (s.storeBytes c (s.effAddr c w) 64)).op = 2) ∧ ((s.cl c).dmas.length < 16) ∧ (ecc = .clean)) ∧
    (∃ (s : State) (c : Nat) (ecc : StoreEcc) (w : Nat), (s.issues c = true) ∧ (s.fetchWord c = w) ∧ (opc w = 0x80) ∧ (dmaAddrOk (s.effAddr c w) = true) ∧ ((readDma (s.storeBytes c (s.effAddr c w) 64)).op = 3) ∧ ((s.cl c).dmas.length < 16) ∧ (ecc = .clean)) ∧
    (∃ (s : State) (c : Nat) (ecc : StoreEcc) (w : Nat), (s.issues c = true) ∧ (s.fetchWord c = w) ∧ (opc w = 0x80) ∧ (dmaAddrOk (s.effAddr c w) = true) ∧ ((readDma (s.storeBytes c (s.effAddr c w) 64)).op = 4) ∧ ((s.cl c).dmas.length < 16) ∧ (ecc = .clean)) ∧
    (∃ (s : State) (c : Nat) (ecc : StoreEcc) (w : Nat), (s.issues c = true) ∧ (s.fetchWord c = w) ∧ (opc w = 0x80) ∧ (dmaAddrOk (s.effAddr c w) = true) ∧ ((readDma (s.storeBytes c (s.effAddr c w) 64)).op = 1) ∧ (16 ≤ (s.cl c).dmas.length)) ∧
    (∃ (s : State) (c : Nat) (ecc : StoreEcc) (a : Nat), ((s.cl c).wait = some (.dmaFull a)) ∧ ((s.cl c).dmas.length < 16)) ∧
    (∃ (s : State) (c : Nat) (w : Nat), (s.issues c = true) ∧ (s.fetchWord c = w) ∧ (opc w = 0x81) ∧ (((s.nextPc c).cl c).dmaRetired ≥ s.sreg c (srcB w))) ∧
    (∃ (s : State) (c : Nat) (w : Nat), (s.issues c = true) ∧ (s.fetchWord c = w) ∧ (opc w = 0x81) ∧ (((s.nextPc c).cl c).dmaRetired < s.sreg c (srcB w))) ∧
    (∃ (s : State) (c : Nat) (w : Nat), (s.issues c = true) ∧ (s.fetchWord c = w) ∧ (opc w = 0xF0) ∧ (((s.nextPc c).cl c).tensorBusy = false) ∧ (((s.nextPc c).cl c).dmas = [])) ∧
    (∃ (s : State) (c : Nat) (w : Nat), (s.issues c = true) ∧ (s.fetchWord c = w) ∧ (opc w = 0xF0) ∧ (((s.nextPc c).cl c).tensorBusy = true ∨ ((s.nextPc c).cl c).dmas ≠ [])) :=
  ⟨⟨(runs (iw 0x80 0 2 0 64) (rig [])).putStore 0 64 (dmaBytes 1), 0, .clean, _, by decide +kernel, rfl, by decide +kernel, by decide +kernel, by decide +kernel, by decide +kernel, by decide +kernel⟩,
   ⟨(runs (iw 0x80 0 2 0 64) (rig [])).putStore 0 64 (dmaBytes 2), 0, .clean, _, by decide +kernel, rfl, by decide +kernel, by decide +kernel, by decide +kernel, by decide +kernel, by decide +kernel⟩,
   ⟨(runs (iw 0x80 0 2 0 64) (rig [])).putStore 0 64 (dmaBytes 3), 0, .clean, _, by decide +kernel, rfl, by decide +kernel, by decide +kernel, by decide +kernel, by decide +kernel, by decide +kernel⟩,
   ⟨(runs (iw 0x80 0 2 0 64) (rig [])).putStore 0 64 (dmaBytes 4), 0, .clean, _, by decide +kernel, rfl, by decide +kernel, by decide +kernel, by decide +kernel, by decide +kernel, by decide +kernel⟩,
   ⟨((runs (iw 0x80 0 2 0 64) (rig [])).putStore 0 64 (dmaBytes 1)).modCl 0 fun k => { k with dmas := List.replicate 16 aDma }, 0, .clean, _, by decide +kernel, rfl, by decide +kernel, by decide +kernel, by decide +kernel, by decide +kernel⟩,
   ⟨(runs 0 (rig [])).modCl 0 fun k => { k with wait := some (.dmaFull 64) }, 0, .clean, _, rfl, by decide +kernel⟩,
   ⟨runs (iw 0x81 0 0 3 0) (rig []), 0, _, by decide +kernel, rfl, by decide +kernel, by decide +kernel⟩,
   ⟨(runs (iw 0x81 0 0 3 0) (rig [])).setSreg 0 3 1, 0, _, by decide +kernel, rfl, by decide +kernel, by decide +kernel⟩,
   ⟨runs (iw 0xF0 0 0 0 0) (rig []), 0, _, by decide +kernel, rfl, by decide +kernel, by decide +kernel, by decide +kernel⟩,
   ⟨(runs (iw 0xF0 0 0 0 0) (rig [])).modCl 0 fun k => { k with dmas := [aDma] }, 0, _, by decide +kernel, rfl, by decide +kernel, by decide +kernel⟩⟩

theorem witness_dmaEngineCompletes :
    (∃ (s : State) (c : Nat) (link : Bool) (key : Nat), (link = true) ∧ ((s.cl c).linkHeld.getD key 0 ≠ 0)) ∧
    (∃ (s : State) (c : Nat) (link : Bool) (key : Nat), (link = false) ∧ ((s.cl c).chanHeld.getD key 0 ≠ 0)) ∧
    (∃ (s : State) (c : Nat) (j : Nat) (i : Nat) (d : Dma) (p : Piece), ((s.cl c).dmas[j]? = some d) ∧ (d.pieces[i]? = some p) ∧ (p.channels ≠ []) ∧ (p.retried = false)) ∧
    (∃ (s : State) (c : Nat) (j : Nat) (i : Nat) (d : Dma) (p : Piece), ((s.cl c).dmas[j]? = some d) ∧ (d.pieces[i]? = some p) ∧ (p.channels ≠ []) ∧ (p.retried = true)) ∧
    (∃ (s : State) (c : Nat) (j : Nat) (d : Dma), ((s.cl c).dmas[j]? = some d) ∧ (d.waits = 3)) ∧
    (∃ (s : State) (tag : Nat) (r : RemReq), (s.findReq tag = some r)) :=
  ⟨⟨(rig []).modCl 0 fun k => { k with linkHeld := [(3, 1)] }, 0, true, 3, by decide +kernel, by decide +kernel⟩,
   ⟨(rig []).modCl 0 fun k => { k with chanHeld := [(3, 1)] }, 0, false, 3, by decide +kernel, by decide +kernel⟩,
   ⟨(rig []).modCl 0 fun k => { k with dmas := [{ aDma with pieces := [aPiece] }] }, 0, 0, 0, _, _, rfl, rfl, by decide +kernel, by decide +kernel⟩,
   ⟨(rig []).modCl 0 fun k => { k with dmas := [{ aDma with pieces := [{ aPiece with retried := true }] }] }, 0, 0, 0, _, _, rfl, rfl, by decide +kernel, by decide +kernel⟩,
   ⟨(rig []).modCl 0 fun k => { k with dmas := [{ aDma with waits := 3 }] }, 0, 0, _, rfl, by decide +kernel⟩,
   ⟨{ rig [] with ixf := { (rig []).ixf with reqs := [⟨7, 0, 5, 1, false, 0, 0, 64⟩] } }, 7, _, rfl⟩⟩

theorem witness_workClaimsComplete :
    (∃ (s : State) (c : Nat) (mecc : List MemEcc) (w r : Nat) (t : State) (h : Handed), (s.issues c = true) ∧ (s.fetchWord c = w) ∧ (opc w = 0xA0) ∧ (s.reservedOk c w = true) ∧ (s.sreg c (srcA w) % 2 ^ 9 = r) ∧ ((s.cl c).tokens.length < 2) ∧ (s.claimDenied c r = false) ∧ ((s.nextPc c).claimWaits r = false) ∧ ((s.nextPc c).nextDescriptor r mecc = (t, some h))) ∧
    (∃ (s : State) (c : Nat) (mecc : List MemEcc) (w r : Nat), (s.issues c = true) ∧ (s.fetchWord c = w) ∧ (opc w = 0xA0) ∧ (s.reservedOk c w = true) ∧ (s.sreg c (srcA w) % 2 ^ 9 = r) ∧ ((s.cl c).tokens.length < 2) ∧ (s.claimDenied c r = false) ∧ ((s.nextPc c).claimWaits r = true) ∧ ((immBits w).testBit 40 = true)) ∧
    (∃ (s : State) (c : Nat) (mecc : List MemEcc) (w r : Nat), (s.issues c = true) ∧ (s.fetchWord c = w) ∧ (opc w = 0xA0) ∧ (s.reservedOk c w = true) ∧ (s.sreg c (srcA w) % 2 ^ 9 = r) ∧ ((s.cl c).tokens.length < 2) ∧ (s.claimDenied c r = false) ∧ ((s.nextPc c).claimWaits r = true) ∧ ((immBits w).testBit 40 = false)) ∧
    (∃ (s : State) (c : Nat) (mecc : List MemEcc) (w : Nat), (s.issues c = true) ∧ (s.fetchWord c = w) ∧ (opc w = 0xA0) ∧ (s.reservedOk c w = true) ∧ (2 ≤ (s.cl c).tokens.length) ∧ (s.claimDenied c (s.sreg c (srcA w) % 2 ^ 9) = false)) ∧
    (∃ (s : State) (ring : Nat) (mecc : List MemEcc) (x : Claimer) (h : Handed) (t : State), (((s.ring (ring % 512)).waiters.find? fun x => !(s.cl x.cluster).inSlice) = some x) ∧ (s.claimDenied x.cluster (ring % 512) = false) ∧ (s.nextDescriptor (ring % 512) mecc = (t, some h))) ∧
    (∃ (s : State) (c : Nat) (w : Nat) (t : Token) (l : List Token), (s.issues c = true) ∧ (s.fetchWord c = w) ∧ (opc w = 0xA1) ∧ ((s.cl c).tokens = t :: l)) ∧
    (∃ (s : State) (c : Nat) (w : Nat), (s.issues c = true) ∧ (s.fetchWord c = w) ∧ (opc w = 0xA1) ∧ ((s.cl c).tokens = [])) ∧
    (∃ (s : State) (c : Nat) (spaced : Bool) (w : Nat), (s.issues c = true) ∧ (s.fetchWord c = w) ∧ (opc w = 0xB0) ∧ (bits w 1 0 = 1 ∨ bits w 1 0 = 2) ∧ (spaced = true)) ∧
    (∃ (s : State) (c : Nat) (spaced : Bool) (w : Nat), (s.issues c = true) ∧ (s.fetchWord c = w) ∧ (opc w = 0xB0) ∧ (bits w 1 0 = 1 ∨ bits w 1 0 = 2) ∧ (spaced = false)) ∧
    (∃ (s : State) (c : Nat) (spaced : Bool) (w : Nat), (s.issues c = true) ∧ (s.fetchWord c = w) ∧ (opc w = 0xB0) ∧ (bits w 1 0 ≠ 1 ∧ bits w 1 0 ≠ 2)) :=
  ⟨⟨((runs (iw 0xA0 1 2 0 0) ringed).setSreg 0 2 0), 0, [], _, _, _, ⟨0, descBytes⟩, by decide +kernel, rfl, by decide +kernel, by decide +kernel, rfl, by decide +kernel, by decide +kernel, by decide +kernel, (pairIs (by decide +kernel))⟩,
   ⟨((runs (iw 0xA0 1 2 0 (2 ^ 40)) (ringed.modRing 0 fun k => { k with waiters := [⟨1, 1, 64⟩] })).setSreg 0 2 0), 0, [], _, _, by decide +kernel, rfl, by decide +kernel, by decide +kernel, rfl, by decide +kernel, by decide +kernel, by decide +kernel, by decide +kernel⟩,
   ⟨((runs (iw 0xA0 1 2 0 0) (ringed.modRing 0 fun k => { k with waiters := [⟨1, 1, 64⟩] })).setSreg 0 2 0), 0, [], _, _, by decide +kernel, rfl, by decide +kernel, by decide +kernel, rfl, by decide +kernel, by decide +kernel, by decide +kernel, by decide +kernel⟩,
   ⟨((runs (iw 0xA0 1 2 0 0) ringed).modCl 0 fun k => { k with tokens := [aToken, aToken] }), 0, [], _, by decide +kernel, rfl, by decide +kernel, by decide +kernel, by decide +kernel, by decide +kernel⟩,
   ⟨ringed.modRing 0 fun k => { k with waiters := [⟨0, 1, 64⟩] }, 0, [], _, ⟨0, descBytes⟩, _, rfl, by decide +kernel, (pairIs (by decide +kernel))⟩,
   ⟨(runs (iw 0xA1 0 2 0 0) (rig [])).modCl 0 fun k => { k with tokens := [aToken] }, 0, _, _, _, by decide +kernel, rfl, by decide +kernel, rfl⟩,
   ⟨runs (iw 0xA1 0 2 0 0) (rig []), 0, _, by decide +kernel, rfl, by decide +kernel, by decide +kernel⟩,
   ⟨runs (iw 0xB0 0 0 0 0x301) (rig []), 0, true, _, by decide +kernel, rfl, by decide +kernel, by decide +kernel, by decide +kernel⟩,
   ⟨runs (iw 0xB0 0 0 0 0x302) (rig []), 0, false, _, by decide +kernel, rfl, by decide +kernel, by decide +kernel, by decide +kernel⟩,
   ⟨runs (iw 0xB0 0 0 0 0x303) (rig []), 0, true, _, by decide +kernel, rfl, by decide +kernel, by decide +kernel⟩⟩

theorem witness_clusterAndRingRegistersComplete :
    (∃ (s : State) (c : Nat) (value : Word), (s.cluWrites c = true)) ∧
    (∃ (s : State) (c : Nat) (n : Nat), ((s.cl c).heldSeed = some n) ∧ (((s.cl c).spills.any Spill.drawing) = false)) ∧
    (∃ (s : State) (c : Nat) (n : Nat), ((s.cl c).heldSeed = some n) ∧ (((s.cl c).spills.any Spill.drawing) = true)) ∧
    (∃ (s : State) (c : Nat) (value : Word), (s.cluWrites c = true) ∧ (value.toNat % 2 = 1)) ∧
    (∃ (s : State) (c : Nat) (value : Word), (s.cluWrites c = true) ∧ (value.toNat % 2 = 0) ∧ ((s.setF (.clu .ctrlHalt) c value.toNat).flag (.clu .statusFaulted) c = false)) ∧
    (∃ (s : State) (c : Nat), (s.flag (.clu .statusSteeping) c = true) ∧ (s.getF (.clu .statusSteepCause) c ∈ [1, 2, 3, 5, 6])) ∧
    (∃ (s : State) (ring : Nat) (value : Word) (mecc : List MemEcc), (s.isOn .iod = true)) ∧
    (∃ (s : State) (ring : Nat) (value : Word), (s.isOn .iod = true)) ∧
    (∃ (s : State) (ring : Nat) (value : Word), (s.isOn .iod = true)) ∧
    (∃ (s : State) (ring : Nat), (s.isOn .iod = true)) ∧
    (∃ (s : State) (ring : Nat) (n : Nat), ((s.ring (ring % 512)).cancels.find? (s.slotFree (ring % 512)) = some n)) ∧
    (∃ (s : State) (value : Word), (s.isOn .iod = true)) ∧
    (∃ (s : State) (ring : Nat), (s.isOn .iod = true)) :=
  ⟨⟨runs 0 (rig []), 0, 7, by decide +kernel⟩,
   ⟨(rig []).modCl 0 fun k => { k with heldSeed := some 9 }, 0, _, rfl, by decide +kernel⟩,
   ⟨(rig []).modCl 0 fun k => { k with heldSeed := some 9, spills := [⟨{ readTb tbZero with sRm := 2, sFmt := 1 }, some 3⟩] }, 0, _, rfl, by decide +kernel⟩,
   ⟨runs 0 (rig []), 0, 1, by decide +kernel, by decide +kernel⟩,
   ⟨runs 0 (rig []), 0, 0, by decide +kernel, by decide +kernel, by decide +kernel⟩,
   ⟨rig [(.clu .statusSteeping, 0, 1), (.clu .statusSteepCause, 0, 6)], 0, by decide +kernel, by decide +kernel⟩,
   ⟨ringed, 0, 2, [], by decide +kernel⟩,
   ⟨ringed, 0, 0, by decide +kernel⟩,
   ⟨ringed, 511, 1, by decide +kernel⟩,
   ⟨ringed, 0, by decide +kernel⟩,
   ⟨ringed.modRing 0 fun k => { k with cancels := [0] }, 0, _, rfl⟩,
   ⟨ringed, 1, by decide +kernel⟩,
   ⟨ringed, 0, by decide +kernel⟩⟩

theorem witness_workCompletionsAndLimits :
    (∃ (s : State) (ring : Nat) (p : PostNum) (l : List PostNum), ((s.ring (ring % 512)).posts = p :: l) ∧ (p.committed = true) ∧ (p.failed = false)) ∧
    (∃ (s : State) (ring : Nat) (p : PostNum) (l : List PostNum), ((s.ring (ring % 512)).posts = p :: l) ∧ (p.committed = true) ∧ (p.failed = true)) ∧
    (∃ (s : State) (c : Nat) (t : Token) (l : List Token), ((s.cl c).tokens = t :: l) ∧ ((s.cl c).abort = none)) ∧
    (∃ (s : State) (n : Nat) (e : Completion), (s.wiq.completions[n]? = some e) ∧ (s.recordReady e = true) ∧ (e.status ≠ 0x0E) ∧ (e.abort = false)) ∧
    (∃ (s : State) (ring : Nat), (s.flag (.wiq .ringCtrlEnable) (ring % 512) = true) ∧ (s.flag (.wiq .ringCtrlCancel) (ring % 512) = false) ∧ (s.posted (ring % 512) (s.nextClaim (ring % 512)) = true) ∧ (s.slotFree (ring % 512) (s.nextClaim (ring % 512)) = true) ∧ (((s.setF (.wiq .ringStatusStalled) (ring % 512) 1).ringEvent (ring % 512)).liveFlag (.wiq .ringCfgStallFlush) (ring % 512) = false)) ∧
    (∃ (s : State), (s.power.draining = true) ∧ (s.heldTokens = 0) ∧ (s.getF (.mod .removePhase) ≠ 1)) ∧
    (∃ (s : State), (s.power.draining = true)) ∧
    (∃ (s : State), (s.power.parkPlanned = true ∨ s.power.parkQuiesce = true) ∧ (s.power.draining = false) ∧ (s.heldTokens = 0) ∧ (s.isOn .iod = true)) :=
  ⟨⟨ringed.modRing 0 fun k => { k with posts := [⟨0, true, false⟩] }, 0, _, _, rfl, by decide +kernel, by decide +kernel⟩,
   ⟨ringed.modRing 0 fun k => { k with posts := [⟨0, true, true⟩] }, 0, _, _, rfl, by decide +kernel, by decide +kernel⟩,
   ⟨(rig []).modCl 0 fun k => { k with tokens := [aToken] }, 0, _, _, rfl, by decide +kernel⟩,
   ⟨{ ringed with wiq := { ringed.wiq with completions := [⟨0, 0, 1, 0, 9, false, none, none, 0, false⟩] } }, 0, _, rfl, by decide +kernel, by decide +kernel, by decide +kernel⟩,
   ⟨ringed, 0, by decide +kernel, by decide +kernel, by decide +kernel, by decide +kernel, by decide +kernel⟩,
   ⟨{ rig [] with power := { (rig []).power with draining := true } }, by decide +kernel, by decide +kernel, by decide +kernel⟩,
   ⟨{ rig [] with power := { (rig []).power with draining := true } }, by decide +kernel⟩,
   ⟨{ rig [] with power := { (rig []).power with parkPlanned := true } }, by decide +kernel, by decide +kernel, by decide +kernel, by decide +kernel⟩⟩

theorem witness_memoryCommandsComplete :
    (∃ (s : State) (k : Nat) (lch : Nat) (q : Nat) (mecc : MemEcc) (passEnd : Bool) (pa : Nat) (t : State), (s.stackServes k = true) ∧ (lch < 128) ∧ (q < channelPairs) ∧ (s.getF (.mem .scrubCfgPeriodH) k ≠ 0) ∧ (s.addrOf (s.pairPlace k lch q) = (pa, t)) ∧ (passEnd = false)) ∧
    (∃ (s : State) (k : Nat) (lch : Nat) (q : Nat) (mecc : MemEcc) (passEnd : Bool) (pa : Nat) (t : State), (s.stackServes k = true) ∧ (lch < 128) ∧ (q < channelPairs) ∧ (s.getF (.mem .scrubCfgPeriodH) k ≠ 0) ∧ (s.addrOf (s.pairPlace k lch q) = (pa, t)) ∧ (passEnd = true)) ∧
    (∃ (s : State) (k : Nat), (k < 20) ∧ (s.stackServes k = true) ∧ (s.getF (.mem .statusRefreshRate) k < refreshRate (s.stackTemp k))) ∧
    (∃ (s : State) (k : Nat), (k < 20) ∧ (s.stackServes k = true) ∧ (refreshRate (s.stackTemp k + 48) < s.getF (.mem .statusRefreshRate) k)) ∧
    (∃ (s : State) (k : Nat) (lch : Nat), (s.power.parked = true) ∧ (s.stackPowered k = true) ∧ (lch < 128) ∧ (s.getF (.mem .statusState) k = 2 ∨ s.getF (.mem .statusState) k = 3) ∧ (s.mem.copies.get? k = none) ∧ (s.channelIdle (k * 128 + lch) = true) ∧ (k * 128 + lch ∉ s.mem.selfRefresh)) ∧
    (∃ (s : State) (k : Nat) (lch : Nat), (lch < 128)) ∧
    (∃ (s : State) (k : Nat) (lch : Nat) (ok : Bool), (ok = false) ∧ (s.stackServes k = true) ∧ (lch < 128)) ∧
    (∃ (s : State) (k : Nat) (lch : Nat) (ok : Bool), (ok = true)) :=
  ⟨⟨stacked [(.mem .scrubCfgPeriodH, 0, 24)] [], 0, 127, 0, .corrected, false, _, _, by decide +kernel, by decide +kernel, by decide +kernel, by decide +kernel, pairs2, by decide +kernel⟩,
   ⟨stacked [(.mem .scrubCfgPeriodH, 0, 24)] [], 0, 127, channelPairs - 1, .clean, true, _, _, by decide +kernel, by decide +kernel, by decide +kernel, by decide +kernel, pairs2, by decide +kernel⟩,
   ⟨{ stacked [] [] with cool := { (rig []).cool with sens := [(0x5000, ⟨0, false, false, false, 0, 0, false⟩)], raw := [(0x5000, 1441), (0x5001, 1441)] } }, 0, by decide +kernel, by decide +kernel, by decide +kernel⟩,
   ⟨{ stacked [(.mem .statusRefreshRate, 3, 2)] [] with cool := { (rig []).cool with raw := [(0x5006, 1000), (0x5007, 1000)] } }, 3, by decide +kernel, by decide +kernel, by decide +kernel⟩,
   ⟨{ stacked [] [] with power := { (stacked [] []).power with parked := true } }, 19, 127, by decide +kernel, by decide +kernel, by decide +kernel, by decide +kernel, by decide +kernel, by decide +kernel, by decide +kernel⟩,
   ⟨stacked [] [], 0, 127, by decide +kernel⟩,
   ⟨stacked [] [], 4, 9, false, by decide +kernel, by decide +kernel, by decide +kernel⟩,
   ⟨stacked [] [], 4, 9, true, by decide +kernel⟩⟩

theorem witness_sparingAndMemoryCommits :
    (∃ (s : State) (k : Nat) (lch : Nat), (k < 20) ∧ (s.isOn (.core (k / 5)) = true)) ∧
    (∃ (s : State) (k : Nat), (s.stackServes k = true) ∧ (s.mem.copies.get? k = none)) ∧
    (∃ (s : State) (k : Nat) (bad : List Nat) (c : SpareCopy), (s.mem.copies.get? k = some c) ∧ (bad = [])) ∧
    (∃ (s : State) (k : Nat) (lch : Nat) (copied : Nat) (c : SpareCopy), (s.stackServes k = true) ∧ (lch < 128) ∧ (s.mem.copies.get? k = some c) ∧ (c.lch = lch)) ∧
    (∃ (s : State) (k : Nat) (lch : Nat) (copied : Nat) (c : SpareCopy) (t : State), (s.stackServes k = true) ∧ (lch < 128) ∧ (s.mem.copies.get? k = some c) ∧ (c.lch ≠ lch) ∧ (t = s.setF (.mem .chCeHardFail) (132 * k + s.getF (.mem .chMapPch) (128 * k + lch)) 1) ∧ (t.freeSpares k = [])) ∧
    (∃ (s : State) (k : Nat) (lch : Nat) (copied : Nat) (t : State), (s.stackServes k = true) ∧ (lch < 128) ∧ (s.mem.copies.get? k = none) ∧ (t = s.setF (.mem .chCeHardFail) (132 * k + s.getF (.mem .chMapPch) (128 * k + lch)) 1) ∧ (t.freeSpares k = [])) ∧
    (∃ (s : State) (k : Nat) (lch : Nat) (copied : Nat) (t : State), (s.stackServes k = true) ∧ (lch < 128) ∧ (s.mem.copies.get? k = none) ∧ (t = s.setF (.mem .chCeHardFail) (132 * k + s.getF (.mem .chMapPch) (128 * k + lch)) 1) ∧ (t.freeSpares k ≠ [])) ∧
    (∃ (s : State), (s.isOn .iod = true)) ∧
    (∃ (s : State), (s.isOn .iod = true) ∧ (s.flag (.mil .commitStatusBusy) = false)) ∧
    (∃ (s : State), (s.oldSetUsed = false)) :=
  ⟨⟨stacked [] [], 4, 130, by decide +kernel, by decide +kernel⟩,
   ⟨stacked [] [], 4, by decide +kernel, by decide +kernel⟩,
   ⟨{ stacked [] [] with mem := { (stacked [] []).mem with copies := [(4, ⟨9, 128, 3, false, 7⟩)] } }, 4, [], _, rfl, by decide +kernel⟩,
   ⟨{ stacked [] [] with mem := { (stacked [] []).mem with copies := [(4, ⟨9, 128, 3, false, 7⟩)] } }, 4, 9, 7, _, by decide +kernel, by decide +kernel, rfl, by decide +kernel⟩,
   ⟨{ stacked ((List.range 132).map fun p => (.mem .chCeSparedOut, 132 * 4 + p, 1)) [] with mem := { (stacked [] []).mem with copies := [(4, ⟨9, 128, 3, false, 7⟩)] } }, 4, 8, 7, _, _, by decide +kernel, by decide +kernel, rfl, by decide +kernel, rfl, by decide +kernel⟩,
   ⟨stacked ((List.range 132).map fun p => (.mem .chCeSparedOut, 132 * 4 + p, 1)) [], 4, 9, 7, _, by decide +kernel, by decide +kernel, by decide +kernel, rfl, by decide +kernel⟩,
   ⟨stacked [] [], 4, 9, 7, _, by decide +kernel, by decide +kernel, by decide +kernel, rfl, by decide +kernel⟩,
   ⟨rig [], by decide +kernel⟩,
   ⟨rig [], by decide +kernel, by decide +kernel⟩,
   ⟨rig [], by decide +kernel⟩⟩

theorem witness_gateInstructionsComplete :
    (∃ (s : State) (c : Nat) (w g : Nat), (s.issues c = true) ∧ (s.fetchWord c = w) ∧ (opc w = 0x90) ∧ (s.reservedOk c w = true) ∧ (s.sreg c (srcA w) = g) ∧ ((s.nextPc c).waitStatus c g false = .ok) ∧ (0 < immBits w) ∧ ((s.nextPc c).gateQueue g = []) ∧ (immBits w ≤ (s.nextPc c).gateCount g)) ∧
    (∃ (s : State) (c : Nat) (w g : Nat), (s.issues c = true) ∧ (s.fetchWord c = w) ∧ (opc w = 0x90) ∧ (s.reservedOk c w = true) ∧ (s.sreg c (srcA w) = g) ∧ ((s.nextPc c).waitStatus c g false = .ok) ∧ ((s.nextPc c).gateCount g < immBits w)) ∧
    (∃ (s : State) (c : Nat) (w g : Nat), (s.issues c = true) ∧ (s.fetchWord c = w) ∧ (opc w = 0x90) ∧ (s.reservedOk c w = true) ∧ (s.sreg c (srcA w) = g) ∧ ((s.nextPc c).waitStatus c g false ≠ .ok)) ∧
    (∃ (s : State) (c : Nat) (w : Nat) (t : State) (v : Nat), (s.issues c = true) ∧ (s.fetchWord c = w) ∧ (opc w = 0x91) ∧ (s.reservedOk c w = true) ∧ ((s.cl c).spillsLeft = false) ∧ (w.testBit 40 = false) ∧ ((s.nextPc c).gateSignal (s.sreg c (srcA w)) (bits w 7 0) = (t, v))) ∧
    (∃ (s : State) (c : Nat) (w : Nat), (s.issues c = true) ∧ (s.fetchWord c = w) ∧ (opc w = 0x91) ∧ (s.reservedOk c w = true) ∧ ((s.cl c).spillsLeft = true)) ∧
    (∃ (s : State) (c : Nat) (w : Nat) (t : State), (s.issues c = true) ∧ (s.fetchWord c = w) ∧ (opc w = 0x91) ∧ (s.reservedOk c w = true) ∧ ((s.cl c).spillsLeft = false) ∧ (w.testBit 40 = true) ∧ (validGate (s.sreg c (srcA w)) = true) ∧ (s.sreg c (srcB w) ≠ (s.nextPc c).moduleId) ∧ (t = ((s.nextPc c).fresh 11).2.setSreg c (dstReg w) ((s.nextPc c).fresh 11).1.toNat)) ∧
    (∃ (s : State) (c : Nat) (w : Nat), (s.issues c = true) ∧ (s.fetchWord c = w) ∧ (opc w = 0x91) ∧ (s.reservedOk c w = true) ∧ ((s.cl c).spillsLeft = false) ∧ (w.testBit 40 = true) ∧ (validGate (s.sreg c (srcA w)) = false) ∧ (s.sreg c (srcB w) ≠ (s.nextPc c).moduleId)) ∧
    (∃ (s : State) (c : Nat) (w : Nat), (s.issues c = true) ∧ (s.fetchWord c = w) ∧ (opc w = 0x92) ∧ (s.reservedOk c w = true) ∧ (w.testBit 1 = false) ∧ ((s.cl c).spillsLeft = false) ∧ ((s.nextPc c).waitStatus c (s.sreg c (srcA w)) true = .ok)) ∧
    (∃ (s : State) (c : Nat) (w g : Nat) (x : PortSlot), (s.issues c = true) ∧ (s.fetchWord c = w) ∧ (opc w = 0x92) ∧ (s.reservedOk c w = true) ∧ (w.testBit 1 = true) ∧ ((s.cl c).spillsLeft = false) ∧ (s.sreg c (srcA w) = g) ∧ ((s.nextPc c).waitStatus c g true = .ok) ∧ ((s.nextPc c).slotOf c g = some x)) ∧
    (∃ (s : State) (c : Nat) (w g : Nat), (s.issues c = true) ∧ (s.fetchWord c = w) ∧ (opc w = 0x92) ∧ (s.reservedOk c w = true) ∧ (w.testBit 1 = true) ∧ ((s.cl c).spillsLeft = false) ∧ (s.sreg c (srcA w) = g) ∧ ((s.nextPc c).waitStatus c g true = .ok) ∧ ((s.nextPc c).slotOf c g = none)) ∧
    (∃ (s : State) (c : Nat) (w g : Nat) (t : State), (s.issues c = true) ∧ (s.fetchWord c = w) ∧ (opc w = 0x93) ∧ (s.reservedOk c w = true) ∧ (s.sreg c (srcA w) = g) ∧ (t = s.nextPc c) ∧ (validGate g = true) ∧ (t.gateOn g = true) ∧ (w.testBit 8 = false)) ∧
    (∃ (s : State) (c : Nat) (w g : Nat) (t : State), (s.issues c = true) ∧ (s.fetchWord c = w) ∧ (opc w = 0x93) ∧ (s.reservedOk c w = true) ∧ (s.sreg c (srcA w) = g) ∧ (t = s.nextPc c) ∧ (validGate g = true) ∧ (t.gateOn g = true) ∧ (w.testBit 8 = true) ∧ (t.isBarrier g = false) ∧ (t.gateQueue g = []) ∧ (bits w 7 0 ≤ t.gateCount g)) :=
  ⟨⟨(runs (iw 0x90 1 2 0 1) gated).setF (.stg .gateStateCount) 0 1, 0, _, _, by decide +kernel, rfl, by decide +kernel, by decide +kernel, rfl, by decide +kernel, by decide +kernel, by decide +kernel, by decide +kernel⟩,
   ⟨runs (iw 0x90 1 2 0 1) gated, 0, _, _, by decide +kernel, rfl, by decide +kernel, by decide +kernel, rfl, by decide +kernel, by decide +kernel⟩,
   ⟨(runs (iw 0x90 1 2 0 1) gated).setSreg 0 2 5, 0, _, _, by decide +kernel, rfl, by decide +kernel, by decide +kernel, rfl, by decide +kernel⟩,
   ⟨runs (iw 0x91 1 2 0 3) gated, 0, _, _, _, by decide +kernel, rfl, by decide +kernel, by decide +kernel, by decide +kernel, by decide +kernel, pairs2⟩,
   ⟨(runs (iw 0x91 1 2 0 3) gated).modCl 0 fun k => { k with spills := [⟨readTb tbZero, none⟩] }, 0, _, by decide +kernel, rfl, by decide +kernel, by decide +kernel, by decide +kernel⟩,
   ⟨(runs (iw 0x91 1 2 3 (2 ^ 40 + 3)) gated).setSreg 0 3 9, 0, _, _, by decide +kernel, rfl, by decide +kernel, by decide +kernel, by decide +kernel, by decide +kernel, by decide +kernel, by decide +kernel, rfl⟩,
   ⟨((runs (iw 0x91 1 2 3 (2 ^ 40 + 3)) gated).setSreg 0 3 9).setSreg 0 2 0x4400, 0, _, by decide +kernel, rfl, by decide +kernel, by decide +kernel, by decide +kernel, by decide +kernel, by decide +kernel, by decide +kernel⟩,
   ⟨(runs (iw 0x92 1 2 0 0) gated).setSreg 0 2 1, 0, _, by decide +kernel, rfl, by decide +kernel, by decide +kernel, by decide +kernel, by decide +kernel, by decide +kernel⟩,
   ⟨((runs (iw 0x92 1 2 0 2) gated).setSreg 0 2 1).modCl 0 fun k => { k with slots := [⟨1, 1, false⟩] }, 0, _, _, _, by decide +kernel, rfl, by decide +kernel, by decide +kernel, by decide +kernel, by decide +kernel, rfl, by decide +kernel, rfl⟩,
   ⟨(runs (iw 0x92 1 2 0 2) gated).setSreg 0 2 1, 0, _, _, by decide +kernel, rfl, by decide +kernel, by decide +kernel, by decide +kernel, by decide +kernel, rfl, by decide +kernel, by decide +kernel⟩,
   ⟨runs (iw 0x93 1 2 0 0) gated, 0, _, _, _, by decide +kernel, rfl, by decide +kernel, by decide +kernel, rfl, rfl, by decide +kernel, by decide +kernel, by decide +kernel⟩,
   ⟨(runs (iw 0x93 1 2 0 (2 ^ 8 + 2)) gated).setF (.stg .gateStateCount) 0 2, 0, _, _, _, by decide +kernel, rfl, by decide +kernel, by decide +kernel, rfl, rfl, by decide +kernel, by decide +kernel, by decide +kernel, by decide +kernel, by decide +kernel, by decide +kernel⟩⟩

theorem witness_gateCommandsComplete :
    (∃ (s : State) (value : Word), (s.isOn .iod = true) ∧ (bits value.toNat 23 16 ≠ 0)) ∧
    (∃ (s : State) (value : Word), (s.isOn .iod = true) ∧ (bits value.toNat 23 16 = 0)) ∧
    (∃ (s : State) (g : Nat), (validGate g = true) ∧ (s.gatePowered g = true)) ∧
    (∃ (s : State) (g : Nat), (validGate g = true) ∧ (s.gatePowered g = true)) ∧
    (∃ (s : State) (g : Nat), (g ∈ s.gates.cascade)) ∧
    (∃ (s : State) (n : Nat) (h : HeldSig) (t : State), (s.ixf.sigHeld[n]? = some h) ∧ (s.trySignal h = (t, true))) ∧
    (∃ (s : State) (n : Nat) (h : HeldSig) (t : State), (s.ixf.sigHeld[n]? = some h) ∧ (s.trySignal h = (t, false))) :=
  ⟨⟨gated, 0x30000, by decide +kernel, by decide +kernel⟩,
   ⟨gated, 0xFFFF, by decide +kernel, by decide +kernel⟩,
   ⟨gated, 0x43FF, by decide +kernel, by decide +kernel⟩,
   ⟨gated, 1, by decide +kernel, by decide +kernel⟩,
   ⟨{ gated with gates := { gated.gates with cascade := [1] } }, 1, by decide +kernel⟩,
   ⟨{ gated with ixf := { gated.ixf with sigHeld := [⟨0, 9, 0, 1, 0⟩] } }, 0, _, _, rfl, (pairIs (by decide +kernel))⟩,
   ⟨{ gated with ixf := { gated.ixf with sigHeld := [⟨0, 9, 0, 1, 1⟩] }, clu := [(0, { clusterInit with dmaAccepted := 1, dmas := [{ aDma with desc := { aDma.desc with dstSpace := 3, dstModule := 9 }, pieces := [{ aPiece with phase := 2, tags := [4] }] }] })] }, 0, _, _, rfl, (pairIs (by decide +kernel))⟩⟩

theorem witness_grainCommandsComplete :
    (∃ (s : State) (n : Nat) (meters : List (Nat × Nat)) (rail : Nat) (t : State), (n < 4) ∧ (s.isOn (.core n) = true) ∧ (t = (s.takeGrbSet.chargeMeters n meters).updateDebt n rail ((s.takeGrbSet.chargeMeters n meters).die n).minted)) ∧
    (∃ (s : State) (n : Nat) (l c : Nat) (a : Int), (n < 4) ∧ (s.isOn (.core n) = true) ∧ ((s.die n).hold = false) ∧ (0 < (s.die n).pool) ∧ (s.nextServed n = some (l, c)) ∧ (a = max (min (s.ceilOf c - (s.cl c).reserve) (s.die n).pool) 0)) ∧
    (∃ (s : State) (n : Nat) (meters : List (Nat × Nat)) (t : State), (n < 4) ∧ (s.isOn (.core n) = true) ∧ (t = s.chargeMeters n meters) ∧ ((t.die n).hold = false) ∧ ((t.die n).limit ≤ (t.die n).spent + (t.die n).base)) ∧
    (∃ (s : State) (n : Nat) (readings : List (Nat × Int)) (sourceMw : List (Nat × Nat)), (n < 4) ∧ (s.isOn (.core n) = true)) ∧
    (∃ (s : State) (n : Nat) (t : State) (v : BitVec 32), (n < 4) ∧ (s.isOn (.core n) = true) ∧ (s.dieTooHot n = true) ∧ (s.fresh 32 = (v, t))) :=
  ⟨⟨rig [], 0, [(0, 5)], 7, _, by decide +kernel, by decide +kernel, rfl⟩,
   ⟨(rig [(.clu .statusGated, 1, 0)]).modDie 0 fun d => { d with pool := 9 }, 0, 1, 1, _, by decide +kernel, by decide +kernel, by decide +kernel, by decide +kernel, by decide +kernel, rfl⟩,
   ⟨rig [], 3, [], _, by decide +kernel, by decide +kernel, rfl, by decide +kernel, by decide +kernel⟩,
   ⟨rig [], 2, [], [], by decide +kernel, by decide +kernel⟩,
   ⟨(rig [(.clu .statusGated, 1, 0)]).modCl 1 fun k => { k with hot := true, hotTicks := 20 }, 0, _, _, by decide +kernel, by decide +kernel, by decide +kernel, pairs2⟩⟩

theorem witness_capCommandsComplete :
    (∃ (s : State) (m : Meas) (checks : Checks) (k : Kiln), (s.isOn .aux = true) ∧ (s.active = some k)) ∧
    (∃ (s : State) (m : Meas) (checks : Checks), (s.isOn .aux = true) ∧ (s.active = none)) ∧
    (∃ (s : State) (k : Nat) (c : StackCut), (s.grn.stackCuts.get? k = some c) ∧ (s.kilnActs = true) ∧ (c.esc = false)) ∧
    (∃ (s : State) (value : Word) (t : State), (s.isOn .aux = true) ∧ (t = s.setF (.grb .capHostCapW) 0 value.toNat)) ∧
    (∃ (s : State) (p : Nat) (frame : RowFrame) (t u : State), (s.rowHear p frame = (t, true)) ∧ (t.forUs frame 0x20 = true) ∧ (t.rowAccept p frame (((frame.data.take 8).drop 4).all (· == 0)) = (u, true))) ∧
    (∃ (s : State) (p : Nat) (frame : RowFrame) (t u : State), (s.rowHear p frame = (t, true)) ∧ (t.forUs frame 0x20 = true) ∧ (t.rowAccept p frame (((frame.data.take 8).drop 4).all (· == 0)) = (u, false))) ∧
    (∃ (s : State) (p : Nat) (frame : RowFrame) (t : State), (s.rowHear p frame = (t, false))) ∧
    (∃ (s : State) (value : Word), (s.isOn .aux = true)) ∧
    (∃ (s : State), (s.getF (.grb .rackCfgLeaseS) ≠ 0) ∧ (s.flag (.grb .capRackLeaseExpired) = false)) ∧
    (∃ (s : State) (k : Kiln) (capW : Nat) (dieW : List Nat), (s.isOn .aux = true) ∧ ((s.kln.kiln k).up = true) ∧ (s.active = some k)) ∧
    (∃ (s : State) (k : Kiln) (capW : Nat) (dieW : List Nat) (a : Kiln), (s.isOn .aux = true) ∧ ((s.kln.kiln k).up = true) ∧ (s.active = some a) ∧ (a ≠ k)) ∧
    (∃ (s : State) (n : Nat), (s.active = none) ∧ (s.isOn (.core n) = true)) ∧
    (∃ (s : State), (s.active.isSome = true)) ∧
    (∃ (s : State), (s.isOn .aux = true) ∧ (s.flag (.grb .commitStatusBusy) = false)) ∧
    (∃ (s : State), (s.isOn .aux = true) ∧ (s.flag (.grb .commitStatusBusy) = true) ∧ (2 ∉ s.heldCommits)) :=
  ⟨⟨rig [], aMeas, ⟨false, false, false, false⟩, _, by decide +kernel, rfl⟩,
   ⟨bare [.aux] [], aMeas, ⟨false, false, false, false⟩, by decide +kernel, by decide +kernel⟩,
   ⟨{ rig [] with grn := { (rig []).grn with stackCuts := [(2, ⟨0, 0, false⟩)] } }, 2, _, rfl, by decide +kernel, by decide +kernel⟩,
   ⟨rig [], 699, _, by decide +kernel, rfl⟩,
   ⟨rig [(.row .idRack, 0, 4), (.row .idSlot, 0, 3), (.row .portStatusState, 0, 2)], 0, ⟨rowId 0x20 3, true, false, [1, 6, 0xB0, 4, 0, 0, 0, 0], 0, false, true⟩, _, _, (pairIs (by decide +kernel)), by decide +kernel, (pairIs (by decide +kernel))⟩,
   ⟨rig [(.row .idRack, 0, 4), (.row .idSlot, 0, 3), (.row .portStatusState, 0, 2)], 0, ⟨rowId 0x20 3, true, false, [1, 6, 0xB0, 4, 0, 0, 0, 9], 0, false, true⟩, _, _, (pairIs (by decide +kernel)), by decide +kernel, (pairIs (by decide +kernel))⟩,
   ⟨rig [(.row .idRack, 0, 4), (.row .idSlot, 0, 3), (.row .portStatusState, 0, 2)], 0, ⟨rowId 0x20 3, true, false, [1, 6, 0xB0, 4, 0, 0, 0, 0], 0, true, false⟩, _, (pairIs (by decide +kernel))⟩,
   ⟨rig [], 5, by decide +kernel⟩,
   ⟨rig [(.grb .rackCfgLeaseS, 0, 5)], by decide +kernel, by decide +kernel⟩,
   ⟨rig [], .ka, 500, [10], by decide +kernel, by decide +kernel, by decide +kernel⟩,
   ⟨rig [], .kb, 500, [10], _, by decide +kernel, by decide +kernel, rfl, by decide +kernel⟩,
   ⟨bare [.aux, .iod, .core 1] [], 1, by decide +kernel, by decide +kernel⟩,
   ⟨rig [], by decide +kernel⟩,
   ⟨rig [], by decide +kernel, by decide +kernel⟩,
   ⟨rig [(.grb .commitStatusBusy, 0, 1)], by decide +kernel, by decide +kernel, by decide +kernel⟩⟩

theorem witness_portCommandsComplete :
    (∃ (s : State) (k : Nat) (t : Train), (k < 12) ∧ (s.isOn .iod = true) ∧ (s.isOn (.opt k) = true) ∧ (s.flag (.ixf .portCtrlEnable) k = true) ∧ (s.getF (.ixf .portStatusState) k = 1) ∧ (s.liveFlag (.ixf .moduleIdValid) = false)) ∧
    (∃ (s : State) (k : Nat) (t : Train) (lanes : Nat), (k < 12) ∧ (s.isOn .iod = true) ∧ (s.isOn (.opt k) = true) ∧ (s.flag (.ixf .portCtrlEnable) k = true) ∧ (s.getF (.ixf .portStatusState) k = 1) ∧ (s.liveFlag (.ixf .moduleIdValid) = true) ∧ (lanes = s.lockedLanes k 8 t.lanes) ∧ (trainErr t lanes 1 (some k) t.clash = 0)) ∧
    (∃ (s : State) (k : Nat) (t : Train) (lanes err : Nat), (k < 12) ∧ (s.isOn .iod = true) ∧ (s.isOn (.opt k) = true) ∧ (s.flag (.ixf .portCtrlEnable) k = true) ∧ (s.getF (.ixf .portStatusState) k = 1) ∧ (s.liveFlag (.ixf .moduleIdValid) = true) ∧ (lanes = s.lockedLanes k 8 t.lanes) ∧ (trainErr t lanes 1 (some k) t.clash = err) ∧ (err ≠ 0)) ∧
    (∃ (s : State) (k : Nat), (k < 12) ∧ (s.isOn .iod = true) ∧ (s.isOn (.opt k) = true) ∧ (s.flag (.ixf .portCtrlEnable) k = true) ∧ (s.getF (.ixf .portStatusState) k = 0) ∧ (s.ixf.backoff.getD k 0 ≠ 0)) ∧
    (∃ (s : State) (k : Nat), (k = 12) ∧ (s.isOn .iod = true) ∧ (s.flag (.ptn .ctrlEnable) = true) ∧ (s.getF (.ptn .statusState) = 0) ∧ (s.ptn.backoff ≠ 0)) ∧
    (∃ (s : State) (k : Nat), (k = 13) ∧ (s.isOn .iod = true) ∧ (s.getF (.thl .statusState) = 0) ∧ (s.thl.trainBackoff ≠ 0)) ∧
    (∃ (s : State) (k : Nat) (f : Flit) (corrected : Bool), (s.linkLive k = true) ∧ (k < 12) ∧ (corrected = true)) ∧
    (∃ (s : State) (k : Nat) (f : Flit) (corrected : Bool), (s.linkLive k = true) ∧ (corrected = false)) ∧
    (∃ (s : State) (k : Nat), (k < 12) ∧ (s.linkLive k = true)) ∧
    (∃ (s : State) (k : Nat), (12 ≤ k) ∧ (s.linkLive k = true)) ∧
    (∃ (s : State) (k : Nat) (lane : Nat), (k ≠ 13) ∧ (lane < 8) ∧ (s.linkLive k = true) ∧ ((s.lnk.group.getD k 0).testBit lane = true)) ∧
    (∃ (s : State) (k : Nat) (lane : Nat), (k ≠ 13) ∧ (lane < 8) ∧ (s.linkLive k = true) ∧ ((s.lnk.group.getD k 0).testBit lane = false)) ∧
    (∃ (s : State) (k : Nat) (lane : Nat), (k = 13) ∧ (lane < 4) ∧ (s.linkLive k = true) ∧ ((s.lnk.group.getD k 0).testBit lane = true)) ∧
    (∃ (s : State) (k : Nat), (k < 12) ∧ (s.isOn .iod = true)) ∧
    (∃ (s : State) (k : Nat) (value : Word), (k < 12) ∧ (s.isOn .iod = true)) ∧
    (∃ (s : State) (k : Nat) (value : Word), (k < 12) ∧ (s.isOn .iod = true)) :=
  ⟨⟨rig [(.ixf .portCtrlEnable, 11, 1), (.ixf .portStatusState, 11, 1)], 11, trains 0, by decide +kernel, by decide +kernel, by decide +kernel, by decide +kernel, by decide +kernel, by decide +kernel⟩,
   ⟨rigL [(.ixf .portCtrlEnable, 0, 1), (.ixf .portStatusState, 0, 1)] [(.ixf .moduleIdValid, 0, 1)], 0, trains 0x14F200, _, by decide +kernel, by decide +kernel, by decide +kernel, by decide +kernel, by decide +kernel, by decide +kernel, rfl, by decide +kernel⟩,
   ⟨rigL [(.ixf .portCtrlEnable, 0, 1), (.ixf .portStatusState, 0, 1)] [(.ixf .moduleIdValid, 0, 1)], 0, trains 0x14F000, _, _, by decide +kernel, by decide +kernel, by decide +kernel, by decide +kernel, by decide +kernel, by decide +kernel, rfl, rfl, by decide +kernel⟩,
   ⟨{ rig [(.ixf .portCtrlEnable, 2, 1)] with ixf := { (rig []).ixf with backoff := [(2, 1)] } }, 2, by decide +kernel, by decide +kernel, by decide +kernel, by decide +kernel, by decide +kernel, by decide +kernel⟩,
   ⟨{ rig [(.ptn .ctrlEnable, 0, 1)] with ptn := { (rig []).ptn with backoff := 1 } }, 12, by decide +kernel, by decide +kernel, by decide +kernel, by decide +kernel, by decide +kernel⟩,
   ⟨{ rig [] with thl := { (rig []).thl with trainBackoff := 1 } }, 13, by decide +kernel, by decide +kernel, by decide +kernel, by decide +kernel⟩,
   ⟨linked, 0, aFlit, true, by decide +kernel, by decide +kernel, by decide +kernel⟩,
   ⟨linked, 0, { aFlit with crc := 0 }, false, by decide +kernel, by decide +kernel⟩,
   ⟨linked, 0, by decide +kernel, by decide +kernel⟩,
   ⟨linked, 12, by decide +kernel, by decide +kernel⟩,
   ⟨{ linked with lnk := { linked.lnk with group := [(0, 0xF)] } }, 0, 0, by decide +kernel, by decide +kernel, by decide +kernel, by decide +kernel⟩,
   ⟨{ linked with lnk := { linked.lnk with group := [(0, 0xF)] } }, 0, 7, by decide +kernel, by decide +kernel, by decide +kernel, by decide +kernel⟩,
   ⟨{ rig [(.thl .statusState, 0, 2)] with lnk := { (rig []).lnk with group := [(13, 0xF)] } }, 13, 3, by decide +kernel, by decide +kernel, by decide +kernel, by decide +kernel⟩,
   ⟨linked, 0, by decide +kernel, by decide +kernel⟩,
   ⟨linked, 0, 0, by decide +kernel, by decide +kernel⟩,
   ⟨linked, 11, 1, by decide +kernel, by decide +kernel⟩⟩

theorem witness_packetCommandsComplete :
    (∃ (s : State) (k : Nat) (p : Pkt) (mecc : List MemEcc) (t : State) (r : MemRes) (tags : List Nat), (s.takesPkt k 1 p = true) ∧ (s.lnk.rx = []) ∧ (s.windowGrants true p.src p.addr (pktWriteLen p) = true) ∧ (k = 12 ∨ s.mirrorFull p.addr (pktWriteLen p) = false) ∧ (s.chansGrant k 0 p.addr (pktWriteLen p) = true) ∧ (s.memWrite p.addr (pktData p) mecc (k != 12) = (t, r, tags))) ∧
    (∃ (s : State) (k : Nat) (p : Pkt) (mecc : List MemEcc), (s.takesPkt k 1 p = true) ∧ (s.lnk.rx = []) ∧ (s.windowGrants true p.src p.addr (pktWriteLen p) = false)) ∧
    (∃ (s : State) (k : Nat) (p : Pkt) (mecc : List MemEcc), (s.takesPkt k 1 p = true) ∧ (s.lnk.rx = []) ∧ (s.windowGrants true p.src p.addr (pktWriteLen p) = true) ∧ (k ≠ 12) ∧ (s.mirrorFull p.addr (pktWriteLen p) = true)) ∧
    (∃ (s : State) (k : Nat) (p : Pkt) (mecc : List MemEcc), (s.takesPkt k 1 p = true) ∧ (s.lnk.rx = []) ∧ (s.windowGrants true p.src p.addr (pktWriteLen p) = true) ∧ (k = 12 ∨ s.mirrorFull p.addr (pktWriteLen p) = false) ∧ (s.chansGrant k 0 p.addr (pktWriteLen p) = false)) ∧
    (∃ (s : State) (k : Nat) (p : Pkt) (c : Nat), (s.takesPkt k 2 p = true) ∧ (s.lnk.rx = []) ∧ (s.liveFlag (.ixf .ctrlClusterRx) = true) ∧ (s.storeTarget p.addr (pktWriteLen p) = (0, c))) ∧
    (∃ (s : State) (k : Nat) (p : Pkt), (s.takesPkt k 2 p = true) ∧ (s.lnk.rx = []) ∧ (s.liveFlag (.ixf .ctrlClusterRx) = false)) ∧
    (∃ (s : State) (k : Nat) (p : Pkt) (ecc : StoreEcc) (c : Nat) (t : State) (ok : Bool), (s.takesPkt k 3 p = true) ∧ (s.lnk.rx = []) ∧ (s.liveFlag (.ixf .ctrlClusterRx) = true) ∧ (s.storeTarget p.addr (pktWriteLen p) = (0, c)) ∧ (s.storeDeliver true c (offOf p.addr) (pktData p) ecc = (t, ok))) ∧
    (∃ (s : State) (k : Nat) (p : Pkt) (mecc : List MemEcc) (t : State) (r : MemRes) (b : List Byte), (s.takesPkt k 4 p = true) ∧ (s.lnk.rx = []) ∧ (s.windowGrants false p.src p.addr (pktReadLen p) = true) ∧ (s.chansGrant k 0 p.addr (pktReadLen p) = true) ∧ (s.memRead p.addr (pktReadLen p) mecc = (t, r, b))) ∧
    (∃ (s : State) (k : Nat) (p : Pkt) (mecc : List MemEcc), (s.takesPkt k 4 p = true) ∧ (s.lnk.rx = []) ∧ (s.windowGrants false p.src p.addr (pktReadLen p) = false)) ∧
    (∃ (s : State) (k : Nat) (p : Pkt) (mecc : List MemEcc), (s.takesPkt k 4 p = true) ∧ (s.lnk.rx = []) ∧ (s.windowGrants false p.src p.addr (pktReadLen p) = true) ∧ (s.chansGrant k 0 p.addr (pktReadLen p) = false)) ∧
    (∃ (s : State) (k : Nat) (p : Pkt) (ecc : StoreEcc) (c : Nat) (t : State) (b : List Byte), (s.takesPkt k 5 p = true) ∧ (s.lnk.rx = []) ∧ (s.liveFlag (.ixf .ctrlClusterRx) = true) ∧ (s.storeTarget p.addr (pktReadLen p) = (0, c)) ∧ (s.storeRead c (offOf p.addr) (pktReadLen p) ecc = (t, some b))) ∧
    (∃ (s : State) (k : Nat) (p : Pkt) (ecc : StoreEcc) (r : RemReq) (j i : Nat) (d : Dma) (q : Piece), (s.takesPkt k 6 p = true) ∧ (s.findReq p.tag = some r) ∧ (r.kind = 0) ∧ (r.dst = p.src) ∧ (p.status = 0) ∧ (((s.dropReq p.tag).cl r.cluster).findTag p.tag = some (j, i)) ∧ (((s.dropReq p.tag).cl r.cluster).dmas[j]? = some d) ∧ (d.pieces[i]? = some q)) ∧
    (∃ (s : State) (k : Nat) (p : Pkt) (ecc : StoreEcc) (r : RemReq), (s.takesPkt k 6 p = true) ∧ (s.findReq p.tag = some r) ∧ (r.kind = 0) ∧ (r.dst = p.src) ∧ (p.status ≠ 0)) ∧
    (∃ (s : State) (k : Nat) (p : Pkt) (r : RemReq), (s.takesPkt k 7 p = true) ∧ (s.findReq p.tag = some r) ∧ (r.kind = 1) ∧ (r.dst = p.src)) ∧
    (∃ (s : State) (k : Nat) (p : Pkt) (t : State) (word : Nat), (s.takesPkt k 8 p = true) ∧ (s.lnk.rx = []) ∧ (validGate p.gate = true) ∧ (s.liveFlag (.stg .gateCfgRemoteOk) p.gate = true) ∧ (s.gateSignal p.gate (p.inc % 256) = (t, word)) ∧ (word / 2 ^ 12 = 0)) ∧
    (∃ (s : State) (k : Nat) (p : Pkt), (s.takesPkt k 8 p = true) ∧ (s.lnk.rx = []) ∧ (validGate p.gate = false)) ∧
    (∃ (s : State) (k : Nat) (p : Pkt) (r : RemReq), (s.takesPkt k 9 p = true) ∧ (s.findReq p.tag = some r) ∧ (r.kind = 2) ∧ (r.dst = p.src) ∧ (p.status = 0)) ∧
    (∃ (s : State) (k : Nat) (p : Pkt) (r : RemReq), (s.takesPkt k 9 p = true) ∧ (s.findReq p.tag = some r) ∧ (r.kind = 2) ∧ (r.dst = p.src) ∧ (p.status = 3)) ∧
    (∃ (s : State) (k : Nat) (p : Pkt) (r : RemReq), (s.takesPkt k 9 p = true) ∧ (s.findReq p.tag = some r) ∧ (r.kind = 2) ∧ (r.dst = p.src) ∧ (p.status ≠ 0) ∧ (p.status ≠ 3)) :=
  ⟨⟨linked, 0, pk 1 1 0 0, [], _, _, _, by decide +kernel, by decide +kernel, by decide +kernel, by decide +kernel, by decide +kernel, pairs3⟩,
   ⟨linked, 0, { pk 1 1 0 0 with addr := 0x10000 : Pkt }.seal, [], by decide +kernel, by decide +kernel, by decide +kernel⟩,
   ⟨(mirroring.setF (.ixf .portStatusState) 0 2), 0, pk 1 1 0 0, [], by decide +kernel, by decide +kernel, by decide +kernel, by decide +kernel, by decide +kernel⟩,
   ⟨{ linked with mem := { linked.mem with chanFree := (linked.burstChans 0 256).map fun x => (x, 0) } }, 0, pk 1 1 0 0, [], by decide +kernel, by decide +kernel, by decide +kernel, by decide +kernel, by decide +kernel⟩,
   ⟨linked, 0, pk 2 1 0 8, _, by decide +kernel, by decide +kernel, by decide +kernel, (pairOf (by decide +kernel))⟩,
   ⟨(linked.setLive (.ixf .ctrlClusterRx) 0 0), 0, pk 2 1 0 8, by decide +kernel, by decide +kernel, by decide +kernel⟩,
   ⟨linked.putStore 0 0 (List.replicate 64 0), 0, pk 3 1 0 0, .clean, _, _, _, by decide +kernel, by decide +kernel, by decide +kernel, (pairOf (by decide +kernel)), pairs2⟩,
   ⟨linked, 0, pk 4 0 0 4, [], _, _, _, by decide +kernel, by decide +kernel, by decide +kernel, by decide +kernel, pairs3⟩,
   ⟨linked, 0, { pk 4 0 0 1 with addr := 0xFFFF : Pkt }.seal, [], by decide +kernel, by decide +kernel, by decide +kernel⟩,
   ⟨{ linked with mem := { linked.mem with chanFree := (linked.burstChans 0 256).map fun x => (x, 0) } }, 0, pk 4 0 0 4, [], by decide +kernel, by decide +kernel, by decide +kernel, by decide +kernel⟩,
   ⟨linked.putStore 0 0 (List.replicate 64 0), 0, pk 5 0 0 1, .clean, _, _, List.replicate 64 0, by decide +kernel, by decide +kernel, by decide +kernel, (pairOf (by decide +kernel)), (pairIs (by decide +kernel))⟩,
   ⟨(asked 0 0 linked).modCl 0 fun k => { k with dmas := [{ aDma with pieces := [{ aPiece with tags := [7] }] }] }, 0, pk 6 1 1 0, .clean, _, _, _, _, _, by decide +kernel, rfl, by decide +kernel, by decide +kernel, by decide +kernel, rfl, rfl, rfl⟩,
   ⟨asked 0 0 linked, 0, pkSt (pk 6 0 1 0) 4 0 0, .clean, _, by decide +kernel, rfl, by decide +kernel, by decide +kernel, by decide +kernel⟩,
   ⟨asked 1 0 linked, 0, pk 7 0 1 0, _, by decide +kernel, rfl, by decide +kernel, by decide +kernel⟩,
   ⟨(linked.setLive (.stg .gateCfgEnable) 0 1).setLive (.stg .gateCfgRemoteOk) 0 1, 0, pk 8 0 0 0, _, _, by decide +kernel, by decide +kernel, by decide +kernel, by decide +kernel, pairs2, by decide +kernel⟩,
   ⟨linked, 0, pkSt (pk 8 0 0 0) 0 0x4400 1, by decide +kernel, by decide +kernel, by decide +kernel⟩,
   ⟨asked 2 0 linked, 0, pk 9 0 1 0, _, by decide +kernel, rfl, by decide +kernel, by decide +kernel, by decide +kernel⟩,
   ⟨asked 2 0 linked, 0, pkSt (pk 9 0 1 0) 3 0 0, _, by decide +kernel, rfl, by decide +kernel, by decide +kernel, by decide +kernel⟩,
   ⟨asked 2 0 linked, 0, pkSt (pk 9 0 1 0) 4 0 0, _, by decide +kernel, rfl, by decide +kernel, by decide +kernel, by decide +kernel, by decide +kernel⟩⟩

theorem witness_collectiveAndNoticeCommandsComplete :
    (∃ (s : State) (k : Nat) (p : Pkt) (mecc : List MemEcc) (ch : Nat), (s.takesPkt k 0x10 p = true) ∧ (s.lnk.rx = []) ∧ (s.collOf (bits p.aux 21 16) (bits p.aux 15 0) = some ch)) ∧
    (∃ (s : State) (k : Nat) (p : Pkt) (mecc : List MemEcc), (s.takesPkt k 0x10 p = true) ∧ (s.lnk.rx = []) ∧ (s.collOf (bits p.aux 21 16) (bits p.aux 15 0) = none) ∧ ((bits p.aux 15 0 + 2 ^ 16 - s.getF (.ixf .grpSeqSeq) (bits p.aux 21 16)) % 2 ^ 16 ≤ 1)) ∧
    (∃ (s : State) (k : Nat) (p : Pkt) (mecc : List MemEcc) (ch j a : Nat) (q : Coll) (add : Bool) (t : State) (b : List Byte) (tags : List Nat), (s.takesPkt k 0x11 p = true) ∧ (s.lnk.rx = []) ∧ (s.collOf (bits p.aux 21 16) (bits p.aux 15 0) = some ch) ∧ (s.coll ch = some q) ∧ (q.members.findIdx? (· == p.src) = some j) ∧ (q.landing (p.status % 2) j (p.addr % 2 ^ 40) = some (a, add)) ∧ (p.status % 2 = 0) ∧ (b = p.payload.take (min (64 * p.len) (q.count * q.es - p.addr % 2 ^ 40))) ∧ (s.mirrorFull a b.length = false) ∧ (s.chansGrant k 2 a b.length = true) ∧ (s.collApply a add b mecc = (t, true, tags))) ∧
    (∃ (s : State) (k : Nat) (p : Pkt) (mecc : List MemEcc) (ch j : Nat) (q : Coll), (s.takesPkt k 0x11 p = true) ∧ (s.lnk.rx = []) ∧ (s.collOf (bits p.aux 21 16) (bits p.aux 15 0) = some ch) ∧ (s.coll ch = some q) ∧ (q.members.findIdx? (· == p.src) = some j) ∧ (q.landing (p.status % 2) j (p.addr % 2 ^ 40) = none)) ∧
    (∃ (s : State) (k : Nat) (p : Pkt) (r : RemReq) (q : Coll), (s.takesPkt k 0x12 p = true) ∧ (s.findReq p.tag = some r) ∧ (r.kind = 3) ∧ (r.dst = p.src) ∧ (p.status = 0) ∧ ((s.dropReq p.tag).coll r.aux = some q)) ∧
    (∃ (s : State) (k : Nat) (p : Pkt) (r : RemReq), (s.takesPkt k 0x12 p = true) ∧ (s.findReq p.tag = some r) ∧ (r.kind = 3) ∧ (r.dst = p.src) ∧ (p.status ≠ 0)) ∧
    (∃ (s : State) (ch : Nat) (mecc : List MemEcc) (g addr : Nat) (t u : State) (b : List Byte), (ch < 16) ∧ (s.isOn .iod = true) ∧ (s.liveFlag (.ixf .collCfgEnable) ch = true) ∧ (s.coll ch = none) ∧ (g = s.getLive (.ixf .collCfgStartGate) ch) ∧ (validGate g = true) ∧ (s.gateOn g = true) ∧ (s.isBarrier g = false) ∧ (s.gateQueue g = []) ∧ (1 ≤ s.gateCount g) ∧ (t = (s.setCount g (s.gateCount g - 1)).addWrap (.ixf .collNextIndex) ch 1) ∧ (addr = t.getLive (.ixf .collQLoQLo) ch * 2 ^ 12 + t.getLive (.ixf .collQHiQHi) ch * 2 ^ 32 + 64 * ((s.setCount g (s.gateCount g - 1)).getF (.ixf .collNextIndex) ch % 2 ^ t.getLive (.ixf .collCfgQsizeLog2) ch)) ∧ (t.memRead addr 64 mecc = (u, .ok, b))) ∧
    (∃ (s : State) (ch : Nat) (k : Coll), (s.coll ch = some k) ∧ (k.complete = true)) ∧
    (∃ (s : State) (k : Nat) (p : Pkt), (s.takesPkt k 0x18 p = true) ∧ (p.status = 1)) ∧
    (∃ (s : State) (k : Nat) (p : Pkt), (s.takesPkt k 0x18 p = true) ∧ (p.status = 2)) ∧
    (∃ (s : State) (k : Nat) (p : Pkt), (s.takesPkt k 0x18 p = true) ∧ (p.status = 3)) ∧
    (∃ (s : State) (k : Nat) (p : Pkt), (s.takesPkt k 0x18 p = true) ∧ (p.status = 4)) ∧
    (∃ (s : State) (x : Nat), (x ∉ s.hashedDsts)) ∧
    (∃ (s : State) (x : Nat), (s.isOn .iod = true)) ∧
    (∃ (s : State) (x : Nat), (s.isOn .iod = true)) ∧
    (∃ (s : State), (s.isOn .iod = true)) :=
  ⟨⟨{ linked with ixf := { linked.ixf with colls := [(15, aColl 1)] } }, 0, pk 0x10 0 2 0, [], _, by decide +kernel, by decide +kernel, rfl⟩,
   ⟨linked, 0, pk 0x10 0 2 1, [], by decide +kernel, by decide +kernel, by decide +kernel, by decide +kernel⟩,
   ⟨{ linked with ixf := { linked.ixf with colls := [(15, { aColl 4 with root := 1 })] } }, 0, pk 0x11 1 2 0, [], _, _, _, _, _, _, _, _, by decide +kernel, by decide +kernel, rfl, rfl, rfl, rfl, by decide +kernel, rfl, by decide +kernel, by decide +kernel, (tripleIs (by decide +kernel))⟩,
   ⟨{ linked with ixf := { linked.ixf with colls := [(15, { aColl 4 with root := 0 })] } }, 0, pk 0x11 1 2 0, [], _, _, _, by decide +kernel, by decide +kernel, rfl, rfl, rfl, by decide +kernel⟩,
   ⟨{ asked 3 15 linked with ixf := { (asked 3 15 linked).ixf with colls := [(15, aColl 1)] } }, 0, pk 0x12 0 1 0, _, _, by decide +kernel, rfl, by decide +kernel, by decide +kernel, by decide +kernel, rfl⟩,
   ⟨asked 3 15 linked, 0, pkSt (pk 0x12 0 1 0) 2 0 0, _, by decide +kernel, rfl, by decide +kernel, by decide +kernel, by decide +kernel⟩,
   ⟨stacked [(.stg .gateStateCount, 0, 1)] [(.stg .gateCfgEnable, 0, 1), (.ixf .collCfgEnable, 15, 1)], 15, [], _, _, _, _, _, by decide +kernel, by decide +kernel, by decide +kernel, by decide +kernel, rfl, by decide +kernel, by decide +kernel, by decide +kernel, by decide +kernel, by decide +kernel, rfl, rfl, (tripleIs (by decide +kernel))⟩,
   ⟨{ linked with ixf := { linked.ixf with colls := [(15, { aColl 2 with tags := [], count := 0, sent0 := [1], sent1 := [1] })] } }, 15, _, rfl, by decide +kernel⟩,
   ⟨linked, 0, pkSt (pk 0x18 0 1 0) 1 0 0, by decide +kernel, by decide +kernel⟩,
   ⟨linked, 0, pkSt (pk 0x18 0 1 0) 2 0 0, by decide +kernel, by decide +kernel⟩,
   ⟨asked 1 0 linked, 0, pkSt (pk 0x18 0 1 0) 3 0 0, by decide +kernel, by decide +kernel⟩,
   ⟨linked, 0, pkSt (pk 0x18 0 1 0) 4 0 0, by decide +kernel, by decide +kernel⟩,
   ⟨linked, 5, by decide +kernel⟩,
   ⟨linked, 5, by decide +kernel⟩,
   ⟨linked, 5, by decide +kernel⟩,
   ⟨linked, by decide +kernel⟩⟩

theorem witness_partnerCommandsComplete :
    (∃ (s : State) (p : Pkt) (mecc : List MemEcc) (t : State) (r : MemRes) (tags : List Nat), (s.takesPkt 12 0x20 p = true) ∧ (s.lnk.rx = []) ∧ (s.rxWindow p.addr (pktWriteLen p) = true) ∧ (s.chansGrant 12 0 p.addr (pktWriteLen p) = true) ∧ (s.memWrite p.addr (pktData p) mecc false = (t, r, tags))) ∧
    (∃ (s : State) (p : Pkt) (mecc : List MemEcc), (s.takesPkt 12 0x20 p = true) ∧ (s.lnk.rx = []) ∧ (s.rxWindow p.addr (pktWriteLen p) = false)) ∧
    (∃ (s : State) (p : Pkt) (r : RemReq), (s.takesPkt 12 0x21 p = true) ∧ (s.findReq p.tag = some r) ∧ (r.kind = 4 ∨ r.kind = 5) ∧ (p.status = 0)) ∧
    (∃ (s : State) (p : Pkt) (r : RemReq), (s.takesPkt 12 0x21 p = true) ∧ (s.findReq p.tag = some r) ∧ (r.kind = 4 ∨ r.kind = 5) ∧ (p.status ≠ 0)) ∧
    (∃ (s : State) (p : Pkt), (s.takesPkt 12 0x22 p = true) ∧ (s.lnk.rx = [])) ∧
    (∃ (s : State), (s.portUp 12 = true)) ∧
    (∃ (s : State) (t : Train), (s.isOn .iod = true) ∧ (s.sec.orderP = false)) ∧
    (∃ (s : State) (t : Train), (s.isOn .iod = true) ∧ (s.sec.orderP = true) ∧ (s.flag (.ptn .ctrlEnable) = true) ∧ (s.getF (.ptn .statusState) = 1) ∧ (s.liveFlag (.ixf .moduleIdValid) = false)) ∧
    (∃ (s : State) (t : Train) (lanes : Nat), (s.isOn .iod = true) ∧ (s.sec.orderP = true) ∧ (s.flag (.ptn .ctrlEnable) = true) ∧ (s.getF (.ptn .statusState) = 1) ∧ (s.liveFlag (.ixf .moduleIdValid) = true) ∧ (lanes = s.lockedLanes 12 8 t.lanes) ∧ (trainErr t lanes 2 none (t.farId == s.moduleId) = 0)) ∧
    (∃ (s : State) (t : Train) (lanes err : Nat), (s.isOn .iod = true) ∧ (s.sec.orderP = true) ∧ (s.flag (.ptn .ctrlEnable) = true) ∧ (s.getF (.ptn .statusState) = 1) ∧ (s.liveFlag (.ixf .moduleIdValid) = true) ∧ (lanes = s.lockedLanes 12 8 t.lanes) ∧ (trainErr t lanes 2 none (t.farId == s.moduleId) = err) ∧ (err ≠ 0)) ∧
    (∃ (s : State) (retrain : Bool), (s.portUp 12 = true) ∧ (retrain = true)) ∧
    (∃ (s : State) (retrain : Bool), (s.portUp 12 = true) ∧ (retrain = false)) ∧
    (∃ (s : State), (s.isOn .iod = true)) ∧
    (∃ (s : State), (s.isOn .iod = true)) ∧
    (∃ (s : State), (s.isOn .iod = true)) ∧
    (∃ (s : State) (b : Nat) (t : State), (s.mirrorLink = true) ∧ (s.sec.orderP = true) ∧ (s.ptn.copy = none) ∧ (s.nextDirty = some b) ∧ (t = (({ s with ptn := { s.ptn with copy := some (b, false) } } : State).setF (.ptn .resyncRegion) 0 (b / 2 ^ 15)).setF (.ptn .resyncActive) 0 1)) ∧
    (∃ (s : State) (b : Nat) (t : State), (s.ptn.copy = some (b, false)) ∧ ((s.ixf.reqs.any fun r => r.kind == 5) = false) ∧ (t = ({ s with ptn := { s.ptn with copy := none, dirty := s.ptn.dirty.filter fun x => x ≠ b } } : State).syncCheck (b / 2 ^ 15))) :=
  ⟨⟨linked, pk 0x20 1 0 0, [], _, _, _, by decide +kernel, by decide +kernel, by decide +kernel, by decide +kernel, pairs3⟩,
   ⟨linked, { pk 0x20 1 0 0 with addr := 2 ^ 30 : Pkt }.seal, [], by decide +kernel, by decide +kernel, by decide +kernel⟩,
   ⟨asked 4 0 linked, pk 0x21 0 1 0, _, by decide +kernel, rfl, by decide +kernel, by decide +kernel⟩,
   ⟨asked 5 0 linked, pkSt (pk 0x21 0 1 0) 2 0 0, _, by decide +kernel, rfl, by decide +kernel, by decide +kernel⟩,
   ⟨linked, pk 0x22 1 0 0, by decide +kernel, by decide +kernel⟩,
   ⟨linked, by decide +kernel⟩,
   ⟨rig [], trains 0, by decide +kernel, by decide +kernel⟩,
   ⟨{ rig [(.ptn .ctrlEnable, 0, 1), (.ptn .statusState, 0, 1)] with sec := { (rig []).sec with orderP := true } }, trains 0, by decide +kernel, by decide +kernel, by decide +kernel, by decide +kernel, by decide +kernel⟩,
   ⟨{ rigL [(.ptn .ctrlEnable, 0, 1), (.ptn .statusState, 0, 1)] [(.ixf .moduleIdValid, 0, 1)] with sec := { (rig []).sec with orderP := true } }, trains 0x8F200, _, by decide +kernel, by decide +kernel, by decide +kernel, by decide +kernel, by decide +kernel, rfl, by decide +kernel⟩,
   ⟨{ rigL [(.ptn .ctrlEnable, 0, 1), (.ptn .statusState, 0, 1)] [(.ixf .moduleIdValid, 0, 1)] with sec := { (rig []).sec with orderP := true } }, trains 0x8F000, _, _, by decide +kernel, by decide +kernel, by decide +kernel, by decide +kernel, by decide +kernel, rfl, rfl, by decide +kernel⟩,
   ⟨linked, true, by decide +kernel, by decide +kernel⟩,
   ⟨linked, false, by decide +kernel, by decide +kernel⟩,
   ⟨rig [], by decide +kernel⟩,
   ⟨rig [], by decide +kernel⟩,
   ⟨rig [], by decide +kernel⟩,
   ⟨mirroring, 5, _, by decide +kernel, by decide +kernel, by decide +kernel, by decide +kernel, rfl⟩,
   ⟨{ linked with ptn := { linked.ptn with copy := some (5, false), dirty := [5, 6] } }, _, _, rfl, by decide +kernel, rfl⟩⟩

theorem witness_hostLinkCommandsComplete :
    (∃ (s : State) (t : Train) (lanes : Nat), (s.isOn .iod = true) ∧ (s.getF (.thl .statusState) = 1) ∧ (lanes = s.lockedLanes 13 4 t.lanes) ∧ (thlErr t lanes = 0)) ∧
    (∃ (s : State) (t : Train) (lanes : Nat), (s.isOn .iod = true) ∧ (s.getF (.thl .statusState) = 3) ∧ (lanes = s.lockedLanes 13 4 t.lanes) ∧ (thlErr t lanes = 0)) ∧
    (∃ (s : State) (t : Train) (lanes err : Nat), (s.isOn .iod = true) ∧ (s.getF (.thl .statusState) = 1 ∨ s.getF (.thl .statusState) = 3) ∧ (lanes = s.lockedLanes 13 4 t.lanes) ∧ (thlErr t lanes = err) ∧ (err ≠ 0)) ∧
    (∃ (s : State), (s.isOn .iod = true)) ∧
    (∃ (s : State), (s.isOn .iod = true) ∧ (s.getF (.thl .statusState) = 0)) ∧
    (∃ (s : State) (u : State), (s.isOn .iod = true) ∧ (s.getF (.thl .statusState) = 3) ∧ (u = (s.setF (.thl .statusState) 0 1).dropHost)) ∧
    (∃ (s : State), (s.isOn .iod = true)) ∧
    (∃ (s : State) (t : State), (s.isOn .iod = true) ∧ (s.getF (.thl .hostWdTimeoutS) ≠ 0) ∧ (s.flag (.thl .statusHostSilent) = false) ∧ (t = (s.setF (.thl .statusHostSilent) 0 1).postMod 7 (s.getF (.thl .hostWdTimeoutS)))) ∧
    (∃ (s : State), (s.isOn .iod = true)) ∧
    (∃ (s : State) (value : Word), (s.isOn .iod = true)) ∧
    (∃ (s : State), (s.evqSlotFree = true) ∧ (s.thl.droppedSince = 0) ∧ (s.writeHeld.thl.droppedSince = 0)) ∧
    (∃ (s : State), (s.evqSlotFree = true) ∧ (s.thl.droppedSince ≠ 0) ∧ (s.thl.heldEvents.length < 64)) ∧
    (∃ (s : State) (v : Nat), (v ∈ s.thl.holdoff) ∧ (v ∉ s.thl.irqWaiting)) ∧
    (∃ (s : State) (v : Nat) (t : State), (v ∈ s.thl.holdoff) ∧ (v ∈ s.thl.irqWaiting) ∧ (t = ({ s with thl := { s.thl with holdoff := s.thl.holdoff.filter fun x => x ≠ v, irqWaiting := s.thl.irqWaiting.filter fun x => x ≠ v } } : State)) ∧ ((t.getF (.thl .irqStatusPending)).testBit v = true) ∧ ((t.getF (.thl .irqEnEn)).testBit v = true)) :=
  ⟨⟨rig [(.thl .statusState, 0, 1)], trains 0x4F200, _, by decide +kernel, by decide +kernel, rfl, by decide +kernel⟩,
   ⟨rig [(.thl .statusState, 0, 3)], trains 0x4F200, _, by decide +kernel, by decide +kernel, rfl, by decide +kernel⟩,
   ⟨rig [(.thl .statusState, 0, 1)], trains 0x4F000, _, _, by decide +kernel, by decide +kernel, rfl, rfl, by decide +kernel⟩,
   ⟨rig [], by decide +kernel⟩,
   ⟨rig [], by decide +kernel, by decide +kernel⟩,
   ⟨rig [(.thl .statusState, 0, 3)], _, by decide +kernel, by decide +kernel, rfl⟩,
   ⟨rig [], by decide +kernel⟩,
   ⟨rig [(.thl .hostWdTimeoutS, 0, 5)], _, by decide +kernel, by decide +kernel, by decide +kernel, rfl⟩,
   ⟨rig [], by decide +kernel⟩,
   ⟨rig [], 3, by decide +kernel⟩,
   ⟨hosting, by decide +kernel, by decide +kernel, by decide +kernel⟩,
   ⟨{ hosting with thl := { hosting.thl with droppedSince := 2 } }, by decide +kernel, by decide +kernel, by decide +kernel⟩,
   ⟨{ rig [] with thl := { (rig []).thl with holdoff := [3] } }, 3, by decide +kernel, by decide +kernel⟩,
   ⟨{ rig [(.thl .irqStatusPending, 0, 8), (.thl .irqEnEn, 0, 8)] with thl := { (rig []).thl with holdoff := [3], irqWaiting := [3] } }, 3, _, by decide +kernel, by decide +kernel, rfl, by decide +kernel, by decide +kernel⟩⟩

theorem witness_mailboxCommandsComplete :
    (∃ (s : State), (s.mbxTakes 0x01 = true)) ∧
    (∃ (s : State), (s.mbxTakes 0x02 = true)) ∧
    (∃ (s : State) (readOk : Bool) (mecc : List MemEcc), (s.mbxTakes 0x03 = true)) ∧
    (∃ (s : State) (readOk : Bool) (writeOk : Bool) (mecc : List MemEcc), (s.mbxTakes 0x04 = true)) ∧
    (∃ (s : State) (found : List PairBad), (s.mbxTakes 0x05 = true)) ∧
    (∃ (s : State), (s.mbxTakes 0x06 = true)) ∧
    (∃ (s : State), (s.mbxTakes 0x07 = true) ∧ (s.mbxBegun.resumeBarred = false)) ∧
    (∃ (s : State), (s.mbxTakes 0x07 = true) ∧ (s.mbxBegun.resumeBarred = true)) ∧
    (∃ (s : State), (s.mbxTakes 0x08 = true)) ∧
    (∃ (s : State), (s.mbxTakes 0x09 = true) ∧ (s.mbxBegun.resumeBarred = false) ∧ (s.mbxBegun.power.parked = true)) ∧
    (∃ (s : State), (s.mbxTakes 0x0A = true) ∧ (s.mbxBegun.flag (.mod .removeRequest) = false)) ∧
    (∃ (s : State), (s.mbxTakes 0x0B = true)) ∧
    (∃ (s : State), (s.mbxTakes 0x0C = true) ∧ ((s.mbxBegun.thl.extents.any fun e => e.handle == s.mbxBegun.mbxParam 8 4) = true)) ∧
    (∃ (s : State), (s.mbxTakes 0x0C = true) ∧ ((s.mbxBegun.thl.extents.any fun e => e.handle == s.mbxBegun.mbxParam 8 4) = false)) ∧
    (∃ (s : State), (s.mbxTakes 0x0D = true)) ∧
    (∃ (s : State), (s.mbxTakes 0x0E = true)) ∧
    (∃ (s : State), (s.mbxTakes 0x0F = true) ∧ (s.mbxBegun.standbyHealthy = true)) ∧
    (∃ (s : State), (s.mbxTakes 0x0F = true) ∧ (s.mbxBegun.standbyHealthy = false)) ∧
    (∃ (s : State), (s.mbxTakes 0x10 = true) ∧ (s.mbxBegun.sec.orderP = true)) ∧
    (∃ (s : State), (s.mbxTakes 0x10 = true) ∧ (s.mbxBegun.sec.orderP = false)) ∧
    (∃ (s : State) (st : Nat) (data : List Byte), (s.kilnActs = true) ∧ (s.thl.mbxRun = true) ∧ (s.getF (.thl .mbxStateState) = 2) ∧ (s.reportPending = false) ∧ (s.configCommit.thl.mbxResult = some (st, data))) ∧
    (∃ (s : State), (s.kilnActs = true) ∧ (s.thl.mbxRun = true)) :=
  ⟨⟨boxed 0x01 [], by decide +kernel⟩,
   ⟨boxed 0x02 [], by decide +kernel⟩,
   ⟨boxed 0x03 [], true, [], by decide +kernel⟩,
   ⟨boxed 0x04 [], true, true, [], by decide +kernel⟩,
   ⟨boxed 0x05 [], [], by decide +kernel⟩,
   ⟨boxed 0x06 [(2, 5)], by decide +kernel⟩,
   ⟨boxed 0x07 [], by decide +kernel, by decide +kernel⟩,
   ⟨{ boxed 0x07 [] with power := { (boxed 0x07 []).power with quiesce := [1] } }, by decide +kernel, by decide +kernel⟩,
   ⟨boxed 0x08 [], by decide +kernel⟩,
   ⟨{ boxed 0x09 [] with power := { (boxed 0x09 []).power with parked := true } }, by decide +kernel, by decide +kernel, by decide +kernel⟩,
   ⟨boxed 0x0A [], by decide +kernel, by decide +kernel⟩,
   ⟨boxed 0x0B [(2, 0x200000)], by decide +kernel⟩,
   ⟨{ boxed 0x0C [] with thl := { (boxed 0x0C []).thl with extents := [⟨0, 0, 2 ^ 21⟩] } }, by decide +kernel, by decide +kernel⟩,
   ⟨boxed 0x0C [], by decide +kernel, by decide +kernel⟩,
   ⟨boxed 0x0D [], by decide +kernel⟩,
   ⟨boxed 0x0E [(3, 1)], by decide +kernel⟩,
   ⟨(boxed 0x0F []).setF (.kln .roleHealthy) 1 1, by decide +kernel, by decide +kernel⟩,
   ⟨boxed 0x0F [], by decide +kernel, by decide +kernel⟩,
   ⟨{ boxed 0x10 [] with sec := { (boxed 0x10 []).sec with orderP := true } }, by decide +kernel, by decide +kernel⟩,
   ⟨boxed 0x10 [], by decide +kernel, by decide +kernel⟩,
   ⟨{ rig [(.thl .mbxStateState, 0, 2)] with thl := { (rig []).thl with mbxRun := true, mbxResult := some (0, []) } }, _, _, by decide +kernel, by decide +kernel, by decide +kernel, by decide +kernel, rfl⟩,
   ⟨{ rig [(.thl .mbxStateState, 0, 1)] with thl := { (rig []).thl with mbxRun := true } }, by decide +kernel, by decide +kernel⟩⟩

theorem witness_interlockCommandsComplete :
    (∃ (s : State) (ka : Bool) (kb : Bool), (ka = true) ∧ (kb = true) ∧ (s.canTake .ka = true) ∧ (s.canTake .kb = true)) ∧
    (∃ (s : State) (ka : Bool) (kb : Bool), (ka = true) ∧ (s.canTake .ka = true) ∧ ((kb && s.canTake .kb) = false)) ∧
    (∃ (s : State) (ka : Bool) (kb : Bool), (kb = true) ∧ (s.canTake .kb = true) ∧ ((ka && s.canTake .ka) = false)) ∧
    (∃ (s : State) (k : Kiln), (s.kln.owner = some k)) ∧
    (∃ (s : State) (k : Kiln), (s.active = some k)) ∧
    (∃ (s : State) (k : Kiln), (s.active = some k)) ∧
    (∃ (s : State) (k : Kiln), (s.canTake k = true) ∧ (s.healthy k = true)) ∧
    (∃ (s : State) (k : Kiln), (s.canTake k = true) ∧ (s.staleFor k = true)) ∧
    (∃ (s : State) (k : Kiln), (s.kln.lastOwner = some k) ∧ (s.canTake k = true) ∧ (s.kln.noneCause = 1 ∨ s.kln.noneCause = 2)) ∧
    (∃ (s : State) (k : Kiln), (s.isOn .aux = true) ∧ ((s.kln.kiln k).barred = true) ∧ ((s.kln.kiln k).up = true) ∧ ((s.kln.kiln k).been = true)) ∧
    (∃ (s : State), (s.isOn .aux = true) ∧ (s.active = none) ∧ (s.flag (.kln .ownerQuiesce) = false)) :=
  ⟨⟨unowned, true, true, by decide +kernel, by decide +kernel, by decide +kernel, by decide +kernel⟩,
   ⟨unowned, true, false, by decide +kernel, by decide +kernel, by decide +kernel⟩,
   ⟨unowned, false, true, by decide +kernel, by decide +kernel, by decide +kernel⟩,
   ⟨rig [], .ka, by decide +kernel⟩,
   ⟨rig [], _, rfl⟩,
   ⟨rig [], _, rfl⟩,
   ⟨(unowned.setF (.kln .roleRole) 1 1).modKiln .kb (fun n => { n with health := 0, age := 2, goodFrames := 8, shadowOk := 100 }), .kb, by decide +kernel, by decide +kernel⟩,
   ⟨unowned, .kb, by decide +kernel, by decide +kernel⟩,
   ⟨{ unowned with kln := { unowned.kln with noneCause := 1 } }, .ka, by decide +kernel, by decide +kernel, by decide +kernel⟩,
   ⟨(rig []).modKiln .ka fun n => { n with barred := true, been := true }, .ka, by decide +kernel, by decide +kernel, by decide +kernel, by decide +kernel⟩,
   ⟨unowned, by decide +kernel, by decide +kernel, by decide +kernel⟩⟩

theorem witness_kilnCommandsComplete :
    (∃ (s : State) (verOk : Bool) (crcOk : Bool) (k : Kiln) (f : Frame), (s.receiver = some k) ∧ (s.kln.sent = some f) ∧ (s.isOn .aux = true) ∧ ((s.kln.kiln k).up = true) ∧ (s.getF (.kln .roleRole) (kilnIdx k) = 1) ∧ (s.frameGood k f (verOk && crcOk) = false)) ∧
    (∃ (s : State) (verOk : Bool) (crcOk : Bool) (k : Kiln) (f : Frame), (s.receiver = some k) ∧ (s.kln.sent = some f) ∧ (s.isOn .aux = true) ∧ ((s.kln.kiln k).up = true) ∧ (s.getF (.kln .roleRole) (kilnIdx k) = 1) ∧ (s.frameGood k f (verOk && crcOk) = true)) ∧
    (∃ (s : State) (bits : Nat) (k : Kiln), (s.standby = some k) ∧ (s.isOn .aux = true) ∧ ((s.kln.kiln k).up = true)) ∧
    (∃ (s : State) (k : Kiln), (s.isOn .aux = true) ∧ ((s.kln.kiln k).up = true) ∧ (s.active = some k)) ∧
    (∃ (s : State) (k : Kiln), (s.isOn .aux = true) ∧ ((s.kln.kiln k).up = true) ∧ (s.active ≠ some k)) ∧
    (∃ (s : State) (k : Kiln), (s.kilnActs = true)) ∧
    (∃ (s : State) (k : Kiln), (s.kilnActs = true)) ∧
    (∃ (s : State) (k : Kiln), (s.isOn .aux = true) ∧ (s.getF (.kln .roleRole) (kilnIdx k) = 0)) ∧
    (∃ (s : State) (k : Kiln), (s.standby = some k) ∧ (s.isOn .aux = true) ∧ (s.shownHealthy k = false) ∧ (s.kln.standbyLost = false)) ∧
    (∃ (s : State) (loop : Nat) (k : Kiln), (s.standby = some k) ∧ (s.isOn .aux = true) ∧ ((s.kln.kiln k).up = true)) ∧
    (∃ (s : State) (k a : Kiln), (s.active = some a) ∧ (s.kln.unconfirmed = some k)) ∧
    (∃ (s : State) (d : Nat) (mesh : Bool) (t : State), (s.kilnActs = true) ∧ (s.dieOn d = true) ∧ (s.dieFailed d = false) ∧ (t = ((s.addSat (.kln .dieErrHbRestarts) d 1).clearBit (.kln .dieHbAlive) 0 d).klnEvent 8 1 d) ∧ (t.getF (.kln .dieErrHbRestarts) d < 3)) ∧
    (∃ (s : State) (d : Nat) (mesh : Bool) (t : State), (s.kilnActs = true) ∧ (s.dieOn d = true) ∧ (s.dieFailed d = false) ∧ (t = ((s.addSat (.kln .dieErrHbRestarts) d 1).clearBit (.kln .dieHbAlive) 0 d).klnEvent 8 1 d) ∧ (3 ≤ t.getF (.kln .dieErrHbRestarts) d)) ∧
    (∃ (s : State) (d : Nat) (mesh : Bool), (s.kilnActs = true) ∧ (s.dieOn d = true) ∧ (s.dieFailed d = false)) ∧
    (∃ (s : State) (d : Nat) (mesh : Bool), (s.kilnActs = true) ∧ (s.dieOn d = true) ∧ (d < 4)) ∧
    (∃ (s : State) (d : Nat) (mesh : Bool), (s.kilnActs = true) ∧ (s.dieOn d = true) ∧ (d = 4)) ∧
    (∃ (s : State) (d : Nat), (s.kilnActs = true) ∧ (d < 5)) ∧
    (∃ (s : State), (s.kilnActs = true)) :=
  ⟨⟨framed [], true, false, _, _, rfl, rfl, by decide +kernel, by decide +kernel, by decide +kernel, by decide +kernel⟩,
   ⟨framed [], true, true, _, _, rfl, rfl, by decide +kernel, by decide +kernel, by decide +kernel, by decide +kernel⟩,
   ⟨rig [(.kln .copyAge, 1, 3)], 0x6F, _, rfl, by decide +kernel, by decide +kernel⟩,
   ⟨rig [], .ka, by decide +kernel, by decide +kernel, by decide +kernel⟩,
   ⟨rig [], .kb, by decide +kernel, by decide +kernel, by decide +kernel⟩,
   ⟨rig [], .kb, by decide +kernel⟩,
   ⟨rig [], .kb, by decide +kernel⟩,
   ⟨rig [(.kln .roleRole, 1, 0)], .kb, by decide +kernel, by decide +kernel⟩,
   ⟨rig [], _, rfl, by decide +kernel, by decide +kernel, by decide +kernel⟩,
   ⟨rig [], 255, _, rfl, by decide +kernel, by decide +kernel⟩,
   ⟨{ rig [] with kln := { (rig []).kln with unconfirmed := some .kb } }, _, _, rfl, rfl⟩,
   ⟨rig [(.kln .dieErrHbRestarts, 4, 1)], 4, true, _, by decide +kernel, by decide +kernel, by decide +kernel, rfl, by decide +kernel⟩,
   ⟨rig [(.kln .dieErrHbRestarts, 4, 2)], 4, true, _, by decide +kernel, by decide +kernel, by decide +kernel, rfl, by decide +kernel⟩,
   ⟨rig [], 3, true, by decide +kernel, by decide +kernel, by decide +kernel⟩,
   ⟨rig [], 3, true, by decide +kernel, by decide +kernel, by decide +kernel⟩,
   ⟨rig [], 4, true, by decide +kernel, by decide +kernel, by decide +kernel⟩,
   ⟨rig [], 4, by decide +kernel, by decide +kernel⟩,
   ⟨rig [], by decide +kernel⟩⟩

theorem witness_sensorAndLeakCommandsComplete :
    (∃ (s : State) (ids : List Nat) (why : Nat) (change : Nat) (silent : Bool) (id : Nat) (l : List Nat), (s.kilnActs = true) ∧ (why = 1 ∨ why = 2) ∧ ((ids.filter fun id => s.substitutable id why change silent) = id :: l) ∧ (((id :: l).any fun id => sensClass id == 8) = false)) ∧
    (∃ (s : State) (ids : List Nat) (why : Nat) (change : Nat) (silent : Bool) (id : Nat) (l : List Nat), (s.kilnActs = true) ∧ (why = 3) ∧ (silent = true) ∧ ((ids.filter fun id => s.substitutable id why change silent) = id :: l) ∧ (((id :: l).any fun id => sensClass id == 8) = false)) ∧
    (∃ (s : State) (ids : List Nat) (why : Nat) (change : Nat) (silent : Bool) (id : Nat) (l : List Nat), (s.kilnActs = true) ∧ (why = 3) ∧ (silent = false) ∧ ((ids.filter fun id => s.substitutable id why change silent) = id :: l) ∧ (((id :: l).any fun id => sensClass id == 8) = false)) ∧
    (∃ (s : State) (id : Nat), (s.kilnActs = true) ∧ ((s.sensRec id).state ≠ 0) ∧ (id ∉ s.bst.ptBad) ∧ (s.implausible id = false) ∧ (s.atRangeEnd id = false) ∧ ((s.sensRec id).kept = false)) ∧
    (∃ (s : State) (id : Nat), (s.kilnActs = true) ∧ ((s.sensRec id).state ≠ 0) ∧ (id ∉ s.bst.ptBad) ∧ (s.implausible id = false) ∧ (s.atRangeEnd id = false) ∧ ((s.sensRec id).kept = true)) ∧
    (∃ (s : State) (id : Nat) (diff : Nat), (s.kilnActs = true) ∧ (comparedPair id = true) ∧ ((s.sensRec id).disagree = false) ∧ (s.subst id = false) ∧ (s.subst (id + 1) = false) ∧ ((if sensClass id = 3 then 50 else 64) < diff)) ∧
    (∃ (s : State) (id : Nat), (s.kilnActs = true) ∧ (comparedPair id = true) ∧ ((s.sensRec id).disagree = true) ∧ ((s.rawOf id - s.rawOf (id + 1)).natAbs < (if sensClass id = 3 then 51 else 48))) ∧
    (∃ (s : State) (z : Nat), (s.kilnActs = true) ∧ (z ∈ s.cool.suspect) ∧ (s.departing z true + s.departing z false < 4)) ∧
    (∃ (s : State) (n : Nat) (st : Nat), (s.kilnActs = true) ∧ (n < 4) ∧ (2 ≤ st ∧ st ≤ 4) ∧ ((s.getF (.cle .leakSuspect)).testBit n = false)) ∧
    (∃ (s : State) (n : Nat) (t : State), (s.kilnActs = true) ∧ (n < 4) ∧ ((s.getF (.cle .leakSuspect)).testBit n = true) ∧ (t = (s.clearBit (.cle .leakSuspect) 0 n).setF (.cle .leakState) n 0) ∧ (t.getF (.cle .leakSuspect) = 0)) ∧
    (∃ (s : State) (n : Nat) (rpm : Nat), (s.kilnActs = true) ∧ (n < 4) ∧ ((s.getF (.cle .leakWet)).testBit n = false) ∧ (s.flag (.cle .coolStatusLeak) = false)) ∧
    (∃ (s : State) (dry : Bool), (s.kilnActs = true)) ∧
    (∃ (s : State) (id : Nat), (s.kilnActs = true) ∧ (sensKnown id = true)) ∧
    (∃ (s : State) (id : Nat), (s.kilnActs = true) ∧ (sensKnown id = false)) :=
  ⟨⟨rig [], [0x1003, 0x1004], 2, 0, false, _, _, by decide +kernel, by decide +kernel, rfl, by decide +kernel⟩,
   ⟨rig [], [0x1003, 0x1004], 3, 0, true, _, _, by decide +kernel, by decide +kernel, by decide +kernel, rfl, by decide +kernel⟩,
   ⟨{ rig [] with cool := { (rig []).cool with raw := [(0x1003, -2000)] } }, [0x1003], 3, 0, false, _, _, by decide +kernel, by decide +kernel, by decide +kernel, rfl, by decide +kernel⟩,
   ⟨({ rig [] with cool := { (rig []).cool with raw := [(0x2000, 800)] } } : State).setSens 0x2000 ⟨1, true, false, false, 1, 0, false⟩, 0x2000, by decide +kernel, by decide +kernel, by decide +kernel, by decide +kernel, by decide +kernel, by decide +kernel⟩,
   ⟨({ rig [] with cool := { (rig []).cool with raw := [(0x2000, 800)] } } : State).setSens 0x2000 ⟨1, true, false, false, 4, 0, true⟩, 0x2000, by decide +kernel, by decide +kernel, by decide +kernel, by decide +kernel, by decide +kernel, by decide +kernel⟩,
   ⟨rig [], 0x3000, 51, by decide +kernel, by decide +kernel, by decide +kernel, by decide +kernel, by decide +kernel, by decide +kernel⟩,
   ⟨({ rig [] with cool := { (rig []).cool with raw := [(0x3000, 50)] } } : State).setSens 0x3000 ⟨0, false, true, false, 0, 0, false⟩, 0x3000, by decide +kernel, by decide +kernel, by decide +kernel, by decide +kernel⟩,
   ⟨{ rig [] with cool := { (rig []).cool with suspect := [7] } }, 7, by decide +kernel, by decide +kernel, by decide +kernel⟩,
   ⟨rig [], 3, 4, by decide +kernel, by decide +kernel, by decide +kernel, by decide +kernel⟩,
   ⟨rig [(.cle .leakSuspect, 0, 8)], 3, _, by decide +kernel, by decide +kernel, by decide +kernel, rfl, by decide +kernel⟩,
   ⟨rig [], 3, 1200, by decide +kernel, by decide +kernel, by decide +kernel, by decide +kernel⟩,
   ⟨rig [], true, by decide +kernel⟩,
   ⟨rig [], 0x1007, by decide +kernel, by decide +kernel⟩,
   ⟨rig [], 0x1008, by decide +kernel, by decide +kernel⟩⟩

theorem witness_coolantProtectionCommandsComplete :
    (∃ (s : State), (s.kilnActs = true) ∧ (s.warnHolds 6 = true)) ∧
    (∃ (s : State), (s.kilnActs = true) ∧ (s.warnGone 6 = true)) ∧
    (∃ (s : State) (readings : List (Nat × Int)) (t u : State), (s.kilnActs = true) ∧ (t = (s.takeReadings readings).refresh) ∧ (t.flag (.cle .coolStatusProtectFlow) = false) ∧ (2 ≤ t.flowVotes (fun q => decide (q < t.flowLimit false))) ∧ (u = (({ t with cool := { t.cool with returned := false } } : State).floorFall 1).setF (.cle .coolStatusProtectFlow) 0 1)) ∧
    (∃ (s : State), (s.kilnActs = true) ∧ (s.getF (.cle .coolStatusState) = 1) ∧ (s.flag (.cle .coolStatusProtectFlow) = true)) ∧
    (∃ (s : State), (s.kilnActs = true) ∧ (s.getF (.cle .coolStatusState) = 2) ∧ (s.flag (.cle .coolStatusProtectFlow) = true)) ∧
    (∃ (s : State) (tests : PowerTests) (t : State), (s.kilnActs = true) ∧ (s.flag (.cle .coolStatusProtectFlow) = true) ∧ (2 ≤ s.flowVotes (fun q => decide (q > s.flowLimit true))) ∧ (t = (s.setF (.cle .coolStatusProtectFlow) 0 0).dropProtect 1) ∧ (((t.coolEvent 0x0A 1 (t.getF (.cle .flowProt))).alarmNow 4 0).getF (.cle .coolStatusState) = 1)) ∧
    (∃ (s : State), (s.kilnActs = true) ∧ (2 ≤ s.getF (.cle .coolStatusState)) ∧ (s.cool.returned = true) ∧ (s.flag (.cle .coolStatusProtectFlow) = false)) ∧
    (∃ (s : State) (bit : Nat), (s.kilnActs = true) ∧ (s.warnHolds bit = true)) ∧
    (∃ (s : State) (bit : Nat), (s.kilnActs = true) ∧ (s.warnGone bit = true)) ∧
    (∃ (s : State), (s.kilnActs = true) ∧ (s.getF (.cle .coolStatusWarn) ≠ 0)) ∧
    (∃ (s : State) (kpa : Nat), (s.kilnActs = true) ∧ (600 < kpa) ∧ (s.cool.overpressure = false) ∧ (s.flag (.cle .coolStatusLeak) = false)) ∧
    (∃ (s : State) (d : Nat) (stack : Bool) (t : State), (d < 4) ∧ (s.isOn (.core d) = true) ∧ (t = ((s.setF (.cle .hotnDie) 0 d).setFlag (.cle .hotnStack) 0 stack).setF (.cle .coolStatusHotN) 0 1)) ∧
    (∃ (s : State) (t : State), (s.kilnActs = true) ∧ (s.flag (.cle .coolStatusHotN) = true) ∧ (t = (s.setF (.cle .coolStatusHotN) 0 0).setF (.drv .statusHotN) 0 0)) :=
  ⟨⟨{ rig [(.cle .humRh, 0, 100)] with cool := { (rig []).cool with raw := [(0, 431), (1, 500), (0x8001, 400)] } }, by decide +kernel, by decide +kernel⟩,
   ⟨{ rig [(.cle .humRh, 0, 100)] with cool := { (rig []).cool with raw := [(0, 449), (1, 500), (0x8001, 400)] } }, by decide +kernel, by decide +kernel⟩,
   ⟨{ rig [] with cool := { (rig []).cool with model := { (rig []).cool.model with kv0 := 1000 } } }, [(0x3000, 10), (0x3001, 10), (0x8000, 40), (0x8001, 320)], _, _, by decide +kernel, rfl, by decide +kernel, by decide +kernel, rfl⟩,
   ⟨rig [(.cle .coolStatusState, 0, 1), (.cle .coolStatusProtectFlow, 0, 1)], by decide +kernel, by decide +kernel, by decide +kernel⟩,
   ⟨rig [(.cle .coolStatusState, 0, 2), (.cle .coolStatusProtectFlow, 0, 1)], by decide +kernel, by decide +kernel, by decide +kernel⟩,
   ⟨{ rig [(.cle .coolStatusState, 0, 1), (.cle .coolStatusProtectFlow, 0, 1)] with cool := { (rig []).cool with raw := [(0x3000, 30000), (0x3001, 30000)] } }, ⟨[], [], []⟩, _, by decide +kernel, by decide +kernel, by decide +kernel, rfl, by decide +kernel⟩,
   ⟨{ rig [(.cle .coolStatusState, 0, 2)] with cool := { (rig []).cool with returned := true } }, by decide +kernel, by decide +kernel, by decide +kernel, by decide +kernel⟩,
   ⟨rig [(.cle .tInProt, 0, 641)], 2, by decide +kernel, by decide +kernel⟩,
   ⟨rig [(.cle .tInProt, 0, 640)], 2, by decide +kernel, by decide +kernel⟩,
   ⟨rig [(.cle .coolStatusWarn, 0, 4)], by decide +kernel, by decide +kernel⟩,
   ⟨rig [], 601, by decide +kernel, by decide +kernel, by decide +kernel, by decide +kernel⟩,
   ⟨rig [], 3, true, _, by decide +kernel, by decide +kernel, rfl⟩,
   ⟨rig [(.cle .coolStatusHotN, 0, 1)], _, by decide +kernel, by decide +kernel, rfl⟩⟩

theorem witness_copperCommandsComplete :
    (∃ (s : State) (readings : List (Nat × Int)) (zoneMw : List Nat) (shadow : List (Nat × Int)) (t u : State), (s.isOn .aux = true) ∧ (s.active.isSome = true) ∧ (t = (({ s with cop := { s.cop with clock := s.cop.clock + 100 } } : State).takeReadings readings).refresh) ∧ (u = (List.range 8).foldl (fun s z => s.rcSample z (zoneMw.getD z 0)) ({ t with cool := { t.cool with zoneMw := zoneMw } } : State))) ∧
    (∃ (s : State) (readings : List (Nat × Int)) (zoneMw : List Nat) (shadow : List (Nat × Int)) (t : State), (s.isOn .aux = true) ∧ (s.active = none) ∧ (t = ({ s with cop := { s.cop with clock := s.cop.clock + 100 } } : State))) ∧
    (∃ (s : State) (l : Nat), (s.isOn .aux = true) ∧ (s.loopOn l = true) ∧ ((s.loop l).due = true) ∧ (s.active.isSome = true) ∧ ((s.loop l).staged = none) ∧ ((s.runLoop l).shadowRuns = false)) ∧
    (∃ (s : State) (l : Nat) (t : State), (s.isOn .aux = true) ∧ (s.loopOn l = true) ∧ ((s.loop l).due = true) ∧ (s.active.isSome = true) ∧ ((s.loop l).staged = none) ∧ (t = s.runLoop l) ∧ (t.shadowRuns = true) ∧ ((t.loop l).shadowStaged = none)) ∧
    (∃ (s : State) (l : Nat), (s.isOn .aux = true) ∧ (s.loopOn l = true) ∧ ((s.loop l).due = true) ∧ (s.active = none) ∧ (s.shadowRuns = true) ∧ ((s.loop l).shadowStaged = none)) ∧
    (∃ (s : State) (fast : Bool), (s.isOn .aux = true) ∧ (s.active.isSome = true) ∧ (s.driveHeld = false)) ∧
    (∃ (s : State) (fast : Bool) (f : DriveFrame), (s.isOn .aux = true) ∧ (s.active.isSome = true) ∧ (s.driveHeld = true) ∧ (s.cop.sent = some f)) ∧
    (∃ (s : State) (l : Nat), (s.loopOn l = true) ∧ ((s.loop l).inTable = true) ∧ ((s.loop l).stuck = false) ∧ (1000 ≤ (s.loop l).good)) ∧
    (∃ (s : State) (next : Nat) (m : Marker) (l : List Marker), (s.cop.markers = m :: l) ∧ (s.isOn .aux = true) ∧ (s.active.isSome = true)) ∧
    (∃ (s : State) (z : Nat), (z < 8) ∧ (s.rcLocked z = true) ∧ (2 * (s.rc z).p ≤ (s.rc z).since)) ∧
    (∃ (s : State), (s.isOn .aux = true) ∧ (s.active.isSome = true)) ∧
    (∃ (s : State), (s.isOn .aux = true) ∧ (s.active.isSome = true) ∧ (s.flag (.cle .commitStatusBusy) = true)) :=
  ⟨⟨rig [], [], [], [], _, _, by decide +kernel, by decide +kernel, rfl, rfl⟩,
   ⟨bare [.aux] [], [], [], [], _, by decide +kernel, by decide +kernel, rfl⟩,
   ⟨{ (rigL [] [(.cle .loopCfgEnable, 31, 1)]).modLoop 31 (fun x => { x with due := true }) with kln := { (rig []).kln with kb := { (rig []).kln.kb with up := false } } }, 31, by decide +kernel, by decide +kernel, by decide +kernel, by decide +kernel, by decide +kernel, by decide +kernel⟩,
   ⟨((rigL [(.kln .roleRole, 1, 1)] [(.cle .loopCfgEnable, 31, 1), (.cle .loopCfgGsEn, 31, 1)]).modLoop 31 fun x => { x with due := true }), 31, _, by decide +kernel, by decide +kernel, by decide +kernel, by decide +kernel, by decide +kernel, rfl, by decide +kernel, by decide +kernel⟩,
   ⟨{ (rigL [(.kln .roleRole, 1, 1)] [(.cle .loopCfgEnable, 31, 1)]).modLoop 31 (fun x => { x with due := true }) with kln := { (rig []).kln with owner := none } }, 31, by decide +kernel, by decide +kernel, by decide +kernel, by decide +kernel, by decide +kernel, by decide +kernel⟩,
   ⟨rig [], true, by decide +kernel, by decide +kernel, by decide +kernel⟩,
   ⟨{ rig [(.row .alertCause, 0, 8)] with cop := { (rig []).cop with sent := some aDrive } }, false, _, by decide +kernel, by decide +kernel, by decide +kernel, rfl⟩,
   ⟨(rigL [] [(.cle .loopCfgEnable, 31, 1)]).modLoop 31 fun x => { x with inTable := true, stuck := false, good := 1000 }, 31, by decide +kernel, by decide +kernel, by decide +kernel, by decide +kernel⟩,
   ⟨{ rig [] with cop := { (rig []).cop with markers := [⟨3, 9, false⟩] } }, 40, _, _, rfl, by decide +kernel, by decide +kernel⟩,
   ⟨{ rig [(.cle .rcStatusLocked, 7, 1)] with cop := { (rig []).cop with rcs := [(7, ⟨[], [], true, 100, 50, 0, 0⟩)] } }, 7, by decide +kernel, by decide +kernel, by decide +kernel⟩,
   ⟨rig [], by decide +kernel, by decide +kernel⟩,
   ⟨rig [(.cle .commitStatusBusy, 0, 1)], by decide +kernel, by decide +kernel, by decide +kernel⟩⟩

theorem witness_driveFrameCommandsComplete :
    (∃ (s : State) (k : Kiln) (f : DriveFrame), (s.isOn .aux = true) ∧ (s.kln.owner = some k) ∧ (f.sound = true)) ∧
    (∃ (s : State) (k : Kiln) (f : DriveFrame), (s.isOn .aux = true) ∧ (s.kln.owner ≠ some k)) ∧
    (∃ (s : State) (k : Kiln) (f : DriveFrame), (s.isOn .aux = true) ∧ (s.kln.owner = some k) ∧ (f.sound = false)) ∧
    (∃ (s : State) (f : DriveFrame) (c : DriveFrame) (a : Kiln), (s.active = some a) ∧ (s.cop.sent = some c) ∧ (c.seq = f.seq) ∧ (((frameDiff c f).filter fun ch => !(s.getF (.drv .chFaultFault)).testBit ch) = [])) ∧
    (∃ (s : State) (ms : Nat), (s.isOn .aux = true) ∧ (10000 ≤ ms) ∧ (s.driveSafe = false)) ∧
    (∃ (s : State) (ms : Nat), (s.isOn .aux = true) ∧ (10 ≤ ms) ∧ (s.driveSafe = false) ∧ (s.getF (.drv .statusMode) = 1)) ∧
    (∃ (s : State) (ms : Nat), (s.isOn .aux = true) ∧ (10 ≤ ms) ∧ (s.driveSafe = false) ∧ (s.getF (.drv .statusMode) = 0) ∧ (s.active.isSome = true)) ∧
    (∃ (s : State) (v : Nat) (mj : Nat), (s.isOn .aux = true) ∧ (v < 8) ∧ (44000 ≤ mj) ∧ (v ∉ s.drive.capped)) ∧
    (∃ (s : State) (v : Nat) (mj : Nat), (v ∈ s.drive.capped) ∧ (mj < 42000)) :=
  ⟨⟨rig [], .ka, aDrive, by decide +kernel, by decide +kernel, by decide +kernel⟩,
   ⟨rig [], .kb, aDrive, by decide +kernel, by decide +kernel⟩,
   ⟨rig [], .ka, { aDrive with crc := 0 }, by decide +kernel, by decide +kernel, by decide +kernel⟩,
   ⟨{ rig [] with cop := { (rig []).cop with sent := some aDrive } }, aDrive, _, _, rfl, rfl, by decide +kernel, by decide +kernel⟩,
   ⟨rig [(.drv .statusMode, 0, 1)], 10000, by decide +kernel, by decide +kernel, by decide +kernel⟩,
   ⟨rig [(.drv .statusMode, 0, 1)], 10, by decide +kernel, by decide +kernel, by decide +kernel, by decide +kernel⟩,
   ⟨rig [(.drv .statusMode, 0, 0)], 10, by decide +kernel, by decide +kernel, by decide +kernel, by decide +kernel, by decide +kernel⟩,
   ⟨rig [], 7, 44000, by decide +kernel, by decide +kernel, by decide +kernel, by decide +kernel⟩,
   ⟨{ rig [] with drive := { (rig []).drive with capped := [7] } }, 7, 41999, by decide +kernel, by decide +kernel⟩⟩

theorem witness_valveAndPumpCommandsComplete :
    (∃ (s : State) (v : Nat) (waitUs : Nat), (s.getF (.drv .valveStatusState) v = 1) ∧ ((s.switchQueue (v / 2)).head? = some v) ∧ (s.getF (.drv .valveStatusState) (partnerValve v) = 0) ∧ (s.flag (.drv .valveStatusOfftime) v = false) ∧ (s.getF (.drv .valveDutyEnergyMj) v + 250 ≤ 45000) ∧ (v ∉ s.drive.counted)) ∧
    (∃ (s : State) (v : Nat), (s.getF (.drv .valveStatusState) v = 2)) ∧
    (∃ (s : State) (v : Nat) (code : Nat) (res : Nat) (ma : Nat) (t : State), (v < 8) ∧ (s.coilFaulty v code res ma = true) ∧ (s.getF (.drv .valveStatusState) v = 2 ∨ s.getF (.drv .valveStatusState) v = 3) ∧ (t = s.setF (.drv .valveResRes) v (min res 65535)) ∧ (v ∉ t.drive.retried)) ∧
    (∃ (s : State) (v : Nat) (code : Nat) (res : Nat) (ma : Nat) (t : State), (v < 8) ∧ (s.coilFaulty v code res ma = true) ∧ (s.getF (.drv .valveStatusState) v = 2 ∨ s.getF (.drv .valveStatusState) v = 3) ∧ (t = s.setF (.drv .valveResRes) v (min res 65535)) ∧ (v ∈ t.drive.retried)) ∧
    (∃ (s : State) (v : Nat), (v ∈ s.drive.faulted)) ∧
    (∃ (s : State) (k : Nat) (t : State), (s.isOn .aux = true) ∧ (k < 4) ∧ ((s.getF (.drv .swStatusTrip)).testBit k = false) ∧ (s.longSince (s.drive.tripMs.get? k) 60000 = true) ∧ (t = ({ s with drive := { s.drive with tripMs := s.drive.tripMs.set k s.kln.upMs } } : State))) ∧
    (∃ (s : State) (k : Nat), (k < 4) ∧ ((s.getF (.drv .swStatusTrip)).testBit k = true) ∧ (k ∉ s.drive.switchFailed)) ∧
    (∃ (s : State) (p : Nat), (p < 2) ∧ (s.getF (.drv .pumpStatusState) p = 1)) ∧
    (∃ (s : State) (p : Nat), (p < 2) ∧ (s.getF (.drv .pumpStatusState) p = 1)) ∧
    (∃ (s : State) (p : Nat), (p < 2) ∧ (s.getF (.drv .pumpStatusState) p = 3)) ∧
    (∃ (s : State) (p : Nat), (p < 2) ∧ (s.getF (.drv .pumpStatusState) p = 2)) ∧
    (∃ (s : State) (p : Nat), (p < 2) ∧ (s.flag (.drv .pumpStatusBemf) p = false) ∧ (s.getF (.drv .pumpStatusState) p = 1 ∨ s.getF (.drv .pumpStatusState) p = 2)) ∧
    (∃ (s : State) (p : Nat), (p < 2) ∧ (s.flag (.drv .pumpStatusBemf) p = true)) ∧
    (∃ (s : State) (p : Nat) (value : Word), (p < 2) ∧ (s.active.isSome = true)) ∧
    (∃ (s : State) (p : Nat), (p < 2) ∧ (s.active.isSome = true)) :=
  ⟨⟨{ rig [(.drv .valveStatusState, 7, 1), (.drv .valveDutyEnergyMj, 7, 44750)] with drive := { (rig []).drive with queues := [(3, [7, 6])] } }, 7, 100, by decide +kernel, by decide +kernel, by decide +kernel, by decide +kernel, by decide +kernel, by decide +kernel⟩,
   ⟨rig [(.drv .valveStatusState, 7, 2)], 7, by decide +kernel⟩,
   ⟨rig [(.drv .valveStatusState, 7, 2)], 7, 1, 2001, 150, _, by decide +kernel, by decide +kernel, by decide +kernel, rfl, by decide +kernel⟩,
   ⟨{ rig [(.drv .valveStatusState, 7, 3)] with drive := { (rig []).drive with retried := [7] } }, 7, 2, 299, 150, _, by decide +kernel, by decide +kernel, by decide +kernel, rfl, by decide +kernel⟩,
   ⟨{ rig [] with drive := { (rig []).drive with faulted := [7] } }, 7, by decide +kernel⟩,
   ⟨rig [], 3, _, by decide +kernel, by decide +kernel, by decide +kernel, by decide +kernel, rfl⟩,
   ⟨rig [(.drv .swStatusTrip, 0, 8)], 3, by decide +kernel, by decide +kernel, by decide +kernel⟩,
   ⟨rig [(.drv .pumpStatusState, 1, 1)], 1, by decide +kernel, by decide +kernel⟩,
   ⟨rig [(.drv .pumpStatusState, 1, 1)], 1, by decide +kernel, by decide +kernel⟩,
   ⟨rig [(.drv .pumpStatusState, 1, 3)], 1, by decide +kernel, by decide +kernel⟩,
   ⟨rig [(.drv .pumpStatusState, 1, 2)], 1, by decide +kernel, by decide +kernel⟩,
   ⟨rig [(.drv .pumpStatusState, 1, 2)], 1, by decide +kernel, by decide +kernel, by decide +kernel⟩,
   ⟨rig [(.drv .pumpStatusBemf, 1, 1)], 1, by decide +kernel, by decide +kernel⟩,
   ⟨rig [], 1, 3, by decide +kernel, by decide +kernel⟩,
   ⟨rig [], 1, by decide +kernel, by decide +kernel⟩⟩

theorem witness_rowBusCommandsComplete :
    (∃ (s : State) (p : Nat) (edges : Bool), (edges = false)) ∧
    (∃ (s : State) (p : Nat) (edges : Bool), (edges = true)) ∧
    (∃ (s : State) (p : Nat) (frame : RowFrame) (t : State), (s.rowHear p frame = (t, true)) ∧ (t.clashes frame = true)) ∧
    (∃ (s : State) (p : Nat) (frame : RowFrame) (t : State), (s.rowHear p frame = (t, true)) ∧ (t.clashes frame = false)) ∧
    (∃ (s : State) (p : Nat) (frame : RowFrame) (t : State), (s.rowHear p frame = (t, false))) ∧
    (∃ (s : State) (p : Nat) (frame : RowFrame) (t u : State), (s.rowHear p frame = (t, true)) ∧ (t.forUs frame 0x21 = true) ∧ ((frame.data.getD 2 0).toNat = 1) ∧ (t.rowAccept p frame (((frame.data.take 8).drop 3).all (· == 0)) = (u, true))) ∧
    (∃ (s : State) (p : Nat) (frame : RowFrame) (t u : State), (s.rowHear p frame = (t, true)) ∧ (t.forUs frame 0x21 = true) ∧ ((frame.data.getD 2 0).toNat = 2) ∧ (t.rowAccept p frame (((frame.data.take 8).drop 3).all (· == 0)) = (u, true))) ∧
    (∃ (s : State) (p : Nat) (frame : RowFrame) (t u : State), (s.rowHear p frame = (t, true)) ∧ (t.forUs frame 0x21 = true) ∧ ((frame.data.getD 2 0).toNat = 4) ∧ (t.rowAccept p frame (((frame.data.take 8).drop 3).all (· == 0)) = (u, true))) ∧
    (∃ (s : State), (s.isOn .aux = true)) ∧
    (∃ (s : State) (p : Nat) (b : Nat) (m : RowMsg) (q : List RowMsg) (t : State), (s.rowQueue p b = m :: q) ∧ (s.portSends p = true) ∧ (t = (s.setRowQueue p b q).addSat (.row .portTxSent) p 1)) ∧
    (∃ (s : State) (p : Nat) (b : Nat) (why : TxFail), (s.rowQueue p b ≠ []) ∧ (s.portSends p = true) ∧ (why = .arbitration)) ∧
    (∃ (s : State) (p : Nat) (b : Nat) (why : TxFail) (t : State), (s.rowQueue p b ≠ []) ∧ (s.portSends p = true) ∧ (why = .error false) ∧ (t = s.setRowQueue p b (listModify (s.rowQueue p b) 0 fun m => { m with begun := false })) ∧ (t.getF (.row .portStatusTec) p + 8 ≤ 255)) ∧
    (∃ (s : State) (p : Nat) (t : State), (s.getF (.row .portStatusState) p = 4) ∧ (t = (s.setF (.row .portStatusTec) p 0).setF (.row .portStatusRec) p 0)) ∧
    (∃ (s : State) (p : Nat), (s.urgentOn p = true)) ∧
    (∃ (s : State), (s.active.isSome = true)) ∧
    (∃ (s : State), (s.alarmInForce = true)) ∧
    (∃ (s : State) (p : Nat), (s.isOn .aux = true) ∧ (p < 2)) ∧
    (∃ (s : State) (p : Nat) (b : Nat) (onBus : Bool), (s.isOn .aux = true)) :=
  ⟨⟨sweeping false, 1, false, by decide +kernel⟩,
   ⟨sweeping false, 1, true, by decide +kernel⟩,
   ⟨rig [(.row .idRack, 0, 4), (.row .idSlot, 0, 63), (.row .portStatusState, 1, 2)], 1, ⟨rowId 0x1F 3, true, false, [], 0, false, true⟩, _, (pairIs (by decide +kernel)), by decide +kernel⟩,
   ⟨rig [(.row .idRack, 0, 4), (.row .idSlot, 0, 3), (.row .portStatusState, 1, 2)], 1, ⟨rowId 0x20 3, true, false, [], 0, false, true⟩, _, (pairIs (by decide +kernel)), by decide +kernel⟩,
   ⟨rig [(.row .idRack, 0, 4), (.row .idSlot, 0, 3), (.row .portStatusState, 1, 2)], 1, ⟨rowId 0x20 3, true, false, [], 0, true, false⟩, _, (pairIs (by decide +kernel))⟩,
   ⟨rig [(.row .idRack, 0, 4), (.row .idSlot, 0, 3), (.row .portStatusState, 1, 2)], 1, ⟨rowId 0x21 63, true, false, [1, 6, 1, 0, 0, 0, 0, 0], 0, false, true⟩, _, _, (pairIs (by decide +kernel)), by decide +kernel, by decide +kernel, (pairIs (by decide +kernel))⟩,
   ⟨rig [(.row .idRack, 0, 4), (.row .idSlot, 0, 3), (.row .portStatusState, 1, 2)], 1, ⟨rowId 0x21 3, true, false, [1, 6, 2, 0, 0, 0, 0, 0], 0, false, true⟩, _, _, (pairIs (by decide +kernel)), by decide +kernel, by decide +kernel, (pairIs (by decide +kernel))⟩,
   ⟨rig [(.row .idRack, 0, 4), (.row .idSlot, 0, 3), (.row .portStatusState, 1, 2)], 1, ⟨rowId 0x21 3, true, false, [1, 6, 4, 0, 0, 0, 0, 0], 0, false, true⟩, _, _, (pairIs (by decide +kernel)), by decide +kernel, by decide +kernel, (pairIs (by decide +kernel))⟩,
   ⟨rig [], by decide +kernel⟩,
   ⟨{ rig [(.row .portStatusState, 1, 2)] with row := { (rig []).row with queues := [(4, [aMsg])] } }, 1, 1, _, _, _, rfl, by decide +kernel, rfl⟩,
   ⟨{ rig [(.row .portStatusState, 1, 2)] with row := { (rig []).row with queues := [(4, [aMsg])] } }, 1, 1, .arbitration, by decide +kernel, by decide +kernel, by decide +kernel⟩,
   ⟨{ rig [(.row .portStatusState, 1, 2), (.row .portStatusTec, 1, 247)] with row := { (rig []).row with queues := [(4, [aMsg])] } }, 1, 1, .error false, _, by decide +kernel, by decide +kernel, by decide +kernel, rfl, by decide +kernel⟩,
   ⟨rig [(.row .portStatusState, 1, 4)], 1, _, by decide +kernel, rfl⟩,
   ⟨{ rig [] with row := { (rig []).row with queues := [(3, [aMsg])] } }, 1, by decide +kernel⟩,
   ⟨rig [], by decide +kernel⟩,
   ⟨rig [(.cle .coolStatusLeak, 0, 1)], by decide +kernel⟩,
   ⟨rig [], 1, by decide +kernel, by decide +kernel⟩,
   ⟨rig [], 1, 2, true, by decide +kernel⟩⟩

theorem witness_caskCommandsComplete :
    (∃ (s : State) (value : Word), (s.isOn .aux = true)) ∧
    (∃ (s : State) (seq : Word), (s.isOn .aux = true)) ∧
    (∃ (s : State) (seq : Nat) (k : Kiln), (s.active = some k)) ∧
    (∃ (s : State) (k : Kiln) (r : CaskRec), (s.active = some k) ∧ (s.flag (.csk .commitStatusBusy) = false) ∧ (s.flag (.csk .statusNorFailed) = false) ∧ (lowestRec (((s.cask.buf k).filter fun e => e.record.sealed && e.framed && !e.inNor && s.norTakes e.record).map (·.record)) = some r)) ∧
    (∃ (s : State) (sector : Nat) (retryOk : Bool) (bad : List Nat) (t : State) (sp : Nat), (s.isOn .aux = true) ∧ (retryOk = false) ∧ (s.flag (.csk .statusNorFailed) = false) ∧ (s.cask.failRow = []) ∧ (t = ({ s with cask := { s.cask with failRow := [sector] } } : State)) ∧ (t.cask.freeSpare = some sp)) ∧
    (∃ (s : State), (s.isOn .aux = true)) ∧
    (∃ (s : State), (s.isOn .aux = true) ∧ (s.flag (.csk .commitStatusBusy) = false)) ∧
    (∃ (s : State), (s.isOn .aux = true) ∧ (s.flag (.csk .commitStatusBusy) = true) ∧ (0xF ∉ s.heldCommits)) ∧
    (∃ (s : State), (s.flag (.csk .commitStatusBusy) = true)) ∧
    (∃ (s : State) (k : Kiln), (s.kilnActs = true) ∧ (s.active = some k) ∧ (s.imageOf k < 2) ∧ (s.imgState (s.imageOf k) = 1)) ∧
    (∃ (s : State) (k : Kiln), (s.kilnActs = true) ∧ (s.shownHealthy k = true) ∧ (s.imageOf k < 2) ∧ (s.imgState (s.imageOf k) = 1)) :=
  ⟨⟨rig [], 3, by decide +kernel⟩,
   ⟨rig [], 3, by decide +kernel⟩,
   ⟨rig [], 1, _, rfl⟩,
   ⟨{ rig [] with cask := { (rig []).cask with bufA := [⟨aRecord, true, false⟩] } }, _, aRecord, rfl, by decide +kernel, by decide +kernel, by decide +kernel⟩,
   ⟨rig [], 5, false, [], _, 68, by decide +kernel, by decide +kernel, by decide +kernel, by decide +kernel, rfl, by decide +kernel⟩,
   ⟨rig [], by decide +kernel⟩,
   ⟨rig [], by decide +kernel, by decide +kernel⟩,
   ⟨rig [(.csk .commitStatusBusy, 0, 1)], by decide +kernel, by decide +kernel, by decide +kernel⟩,
   ⟨rig [(.csk .commitStatusBusy, 0, 1)], by decide +kernel⟩,
   ⟨{ rig [(imageField .ka, 0, 0)] with sec := { (rig []).sec with imgState := [1, 0] } }, .ka, by decide +kernel, by decide +kernel, by decide +kernel, by decide +kernel⟩,
   ⟨{ rig [(imageField .kb, 0, 0), (.kln .roleHealthy, 1, 1)] with sec := { (rig []).sec with imgState := [1, 0] } }, .kb, by decide +kernel, by decide +kernel, by decide +kernel, by decide +kernel⟩⟩

theorem witness_inputAndRemovalCommandsComplete :
    (∃ (s : State), (s.isOn .aux = true)) ∧
    (∃ (s : State), (s.isOn .aux = true) ∧ (s.cask.stopped = true)) ∧
    (∃ (s : State) (volt : Nat), (s.isOn .aux = true) ∧ (3800 ≤ volt ∧ volt < 4000) ∧ (s.flag (.mod .pwrStatusInputLow) = false)) ∧
    (∃ (s : State) (volt : Nat), (s.isOn .aux = true) ∧ (6000 < volt) ∧ (s.flag (.mod .pwrStatusInputHigh) = false)) ∧
    (∃ (s : State), (s.isOn .aux = true)) ∧
    (∃ (s : State), (s.kilnActs = true) ∧ (s.getF (.mod .removePhase) = 2)) ∧
    (∃ (s : State) (t : State), (s.kilnActs = true) ∧ (s.getF (.mod .removePhase) = 4) ∧ (s.flag (.drv .statusHotN) = false) ∧ (t = (s.commandDrive (allValves openCode) 0 3).removeAt 5)) ∧
    (∃ (s : State), (s.isOn .aux = true) ∧ (s.flag (.mod .pwrStatusSeated) = true)) ∧
    (∃ (s : State), (s.isOn .aux = true) ∧ (s.flag (.mod .pwrStatusSeated) = false)) :=
  ⟨⟨rig [], by decide +kernel⟩,
   ⟨{ rig [] with cask := { (rig []).cask with stopped := true } }, by decide +kernel, by decide +kernel⟩,
   ⟨rig [], 3999, by decide +kernel, by decide +kernel, by decide +kernel⟩,
   ⟨rig [], 6001, by decide +kernel, by decide +kernel, by decide +kernel⟩,
   ⟨rig [], by decide +kernel⟩,
   ⟨rig [(.mod .removePhase, 0, 2)], by decide +kernel, by decide +kernel⟩,
   ⟨rig [(.mod .removePhase, 0, 4)], _, by decide +kernel, by decide +kernel, by decide +kernel, rfl⟩,
   ⟨rig [(.mod .pwrStatusSeated, 0, 1)], by decide +kernel, by decide +kernel⟩,
   ⟨rig [(.mod .pwrStatusSeated, 0, 0)], by decide +kernel, by decide +kernel⟩⟩

theorem witness_selfTestCommandsComplete :
    (∃ (s : State) (kind : Nat) (unit : Nat), (s.kilnActs = true) ∧ (s.sliceOk kind unit = true)) ∧
    (∃ (s : State) (kind : Nat) (unit : Nat) (pass : Bool) (bad : List Nat) (x : Slice), ((s.bst.running.find? fun x => x.kind == kind && x.unit == unit) = some x) ∧ (pass = true)) ∧
    (∃ (s : State) (a : Nat), (s.kilnActs = true) ∧ (a < 5) ∧ (s.getF (.bst .ageLevel) a < 6)) ∧
    (∃ (s : State) (c : Nat) (l : Nat), (s.logicalOf c = some l) ∧ (s.kilnActs = true) ∧ (s.isOn (.core (c / 208)) = true) ∧ ((s.cl c).failed = true) ∧ ((s.cl c).tokens = []) ∧ ((s.wiq.completions.all (·.phys != some c)) = true)) ∧
    (∃ (s : State) (l : Nat), (s.kilnActs = true) ∧ (s.isOn (.core (l / 200)) = true) ∧ (l ∈ s.pendingRemaps (l / 200)) ∧ (s.flag (.wiq .ctrlClaimStop) = true) ∧ (s.heldTokens = 0)) :=
  ⟨⟨rig [], 7, 0, by decide +kernel, by decide +kernel⟩,
   ⟨{ rig [] with bst := { (rig []).bst with running := [⟨7, 0, false⟩] } }, 7, 0, true, [], _, rfl, by decide +kernel⟩,
   ⟨rig [(.bst .ageLevel, 4, 5)], 4, by decide +kernel, by decide +kernel, by decide +kernel⟩,
   ⟨(rig []).modCl 0 fun k => { k with failed := true }, 0, _, rfl, by decide +kernel, by decide +kernel, by decide +kernel, by decide +kernel, by decide +kernel⟩,
   ⟨{ rig [(.wiq .ctrlClaimStop, 0, 1)] with spareMap := [(799, none)] }, 799, by decide +kernel, by decide +kernel, by decide +kernel, by decide +kernel, by decide +kernel⟩⟩

end Sys2Proof.Tests
end

section
/-!
PROOFS. What every command does for the whole machine: it answers a next state, it keeps the invariant and the identity, and it
leaves the values in force alone where it may not reach them.
-/

namespace Sys2Proof.Machine

/-- An outcome by which the block goes on. -/
def Proceeds (o : Host.Outcome State Fault Refusal) : Prop := ∃ t, o = .next t

theorem Proceeds.next (t : State) : Proceeds (.next t) := ⟨t, rfl⟩

theorem Proceeds.ite {a b : Host.Outcome State Fault Refusal} {c : Prop} [Decidable c] (ha : Proceeds a) (hb : Proceeds b) :
    Proceeds (if c then a else b) := by
  split <;> assumption

/-! ### The meanings that choose between outcomes -/

theorem execCaskFlush_proceeds (s : State) : Proceeds (execCaskFlush s) := by
  unfold execCaskFlush
  split
  · exact .next _
  · refine .ite (.next _) ?_
    split <;> exact .next _

theorem execRecordSeal_proceeds (seq : Nat) (s : State) : Proceeds (execRecordSeal seq s) := by
  unfold execRecordSeal
  split <;> exact .next _

theorem execFrameTxError_proceeds (p b : Nat) (why : TxFail) (s : State) : Proceeds (execFrameTxError p b why s) := by
  refine .ite (.next _) ?_
  cases why with
  | arbitration => exact .next _
  | error own => exact .next _

theorem execMint_proceeds (n : Nat) (meters : List (Nat × Nat)) (rail : Nat) (s : State) :
    Proceeds (execMint n meters rail s) := .ite (.next _) (.next _)

theorem execGrainGrant_proceeds (n : Nat) (s : State) : Proceeds (execGrainGrant n s) := by
  refine .ite (.next _) ?_
  split <;> exact .next _

theorem execBrakeHold_proceeds (n : Nat) (meters : List (Nat × Nat)) (s : State) : Proceeds (execBrakeHold n meters s) :=
  .ite (.next _) (.ite (.next _) (.next _))

theorem execDieHotTimeout_proceeds (n : Nat) (s : State) : Proceeds (execDieHotTimeout n s) := .ite (.next _) (.next _)

theorem execRackLeaseExpiry_proceeds (s : State) : Proceeds (execRackLeaseExpiry s) := .ite (.next _) (.next _)

theorem execProtectionFall_proceeds (k : Kiln) (capW : Nat) (dieW : List Nat) (s : State) :
    Proceeds (execProtectionFall k capW dieW s) := .ite (.next _) (.ite (.next _) (.next _))

theorem execHeldRwcWrite_proceeds (s : State) : Proceeds (execHeldRwcWrite s) := by
  unfold execHeldRwcWrite
  split <;> exact .next _

theorem execHeldCommit_proceeds (s : State) : Proceeds (execHeldCommit s) := by
  unfold execHeldCommit
  split <;> exact .next _

/-! ### Every command and every step -/

/-- Every command answers a next state. A command whose condition does not hold changes nothing (log entry 2); all but those above
answer with `.next` whatever the state is. -/
theorem exec_proceeds (c : Instr) (s : State) : Proceeds (exec c s) := by
  cases c with
  | caskFlush => exact execCaskFlush_proceeds s
  | recordSeal seq => exact execRecordSeal_proceeds seq s
  | frameTxError p b why => exact execFrameTxError_proceeds p b why s
  | mint n meters rail => exact execMint_proceeds n meters rail s
  | grainGrant n => exact execGrainGrant_proceeds n s
  | brakeHold n meters => exact execBrakeHold_proceeds n meters s
  | dieHotTimeout n => exact execDieHotTimeout_proceeds n s
  | rackLeaseExpiry => exact execRackLeaseExpiry_proceeds s
  | protectionFall k capW dieW => exact execProtectionFall_proceeds k capW dieW s
  | heldRwcWrite => exact execHeldRwcWrite_proceeds s
  | heldCommit => exact execHeldCommit_proceeds s
  | _ => exact ⟨_, rfl⟩

/-- What a step can do: idle on an empty queue, or run the command at the front with the rest of the queue (log entry 1). -/
theorem step_cases (s : State) :
    (s.pending = [] ∧ step s = .next s) ∨
      ∃ c rest, s.pending = c :: rest ∧ step s = exec c { s with pending := rest } := by
  cases h : s.pending with
  | nil => exact .inl ⟨rfl, by simp only [step, h]⟩
  | cons c rest => exact .inr ⟨c, rest, rfl, by simp only [step, h]⟩

theorem step_proceeds (s : State) : Proceeds (step s) := by
  obtain ⟨-, h⟩ | ⟨c, rest, -, h⟩ := step_cases s
  · exact h ▸ .next s
  · exact h ▸ exec_proceeds c _

/-- A step keeps what Laws/Keep.lean names, from the state with the queue as the step leaves it. -/
theorem step_keep {s t : State} (h : step s = .next t) : ∃ q, Keep { s with pending := q } t := by
  obtain ⟨-, e⟩ | ⟨c, rest, -, e⟩ := step_cases s
  · cases e.symm.trans h
    exact ⟨s.pending, Keep.refl s⟩
  · exact ⟨rest, Keep.eqX (e.symm.trans h) (exec_keep c (Keep.refl _))⟩

/-! ### The statements -/

/-- Settles O4: each command answers a next state, so each step does. -/
theorem noCommandStopsTheBlock : Obligations.NoCommandStopsTheBlock := ⟨step_proceeds, exec_proceeds⟩

/-- Settles O5: before power no register, byte or domain is listed, and the Cask holds no record (log entries 1 and 5). -/
theorem resetMeetsTheInvariant : Obligations.ResetMeetsTheInvariant := by
  refine ⟨?_, ?_, ?_, Nat.zero_le _, rfl, rfl⟩
  · have regs : SMap.wf State.reset.regs = true := SMap.wf_nil
    have live : SMap.wf State.reset.live = true := SMap.wf_nil
    have cells : Memory.wf State.reset.mem.cells = true := SMap.wf_nil
    simp only [State.wf, regs, live, cells, Bool.and_self]
  · intro f i v h
    exact absurd h (not_or.2 ⟨List.not_mem_nil, List.not_mem_nil⟩)
  · intro d h
    have off : State.reset.isOn d = false := List.contains_nil (a := d)
    exact absurd (off.symm.trans h) Bool.false_ne_true

/-- Settles O6: every operation of every command keeps the four parts of the invariant (Laws/Keep.lean), and taking a command off the
queue touches none of them. -/
theorem everyStepKeepsTheInvariant : Obligations.EveryStepKeepsTheInvariant := by
  intro s t wf fits supply perm h
  obtain ⟨_, k⟩ := step_keep h
  exact ⟨k.wf wf, k.fits fits, k.supply supply, k.permLen perm⟩

/-- Settles O9: no operation of any command moves the identity, or a count downwards. -/
theorem identityStaysAndCountsGrow : Obligations.IdentityStaysAndCountsGrow := by
  intro s t h
  obtain ⟨_, k⟩ := step_keep h
  exact ⟨k.serial, k.seed, k.orderP, k.hours, k.cycles⟩

/-- Settles O12: a command outside the list leaves the whole map of the values in force. -/
theorem valuesInForceAreLeftAlone : Obligations.ValuesInForceAreLeftAlone := by
  intro c s t hc h f i
  have same : Same (· = .live) s t :=
    Same.eqX h (exec_same c (fun e => nomatch e) (fun e => nomatch e) (fun _ => hc) (fun e => nomatch e) (fun e => nomatch e)
      (Same.refl _ s))
  simp only [State.getLive, same.live rfl]

end Sys2Proof.Machine
end

section
/-!
PROOFS. Accesses to registers and memory by the host, and the latch of a high word (R3, R4, R9, R236 to R239).
-/

namespace Sys2Proof.Machine

/-! ### Changes of the links alone -/

/-- t differs from s at most in the state of the links. -/
def LinksOnly (s t : State) : Prop := t = { s with lnk := t.lnk }

theorem LinksOnly.refl (s : State) : LinksOnly s s := rfl

theorem LinksOnly.trans {a b c : State} (h : LinksOnly a b) (k : LinksOnly b c) : LinksOnly a c := by
  unfold LinksOnly at *
  rw [h] at k
  exact k

theorem LinksOnly.sendFlit (s : State) (k : Nat) (nak idle : Bool) (data : List Byte) :
    LinksOnly s (s.sendFlit k nak idle data) := rfl

theorem LinksOnly.sendFlits (n : Nat) (s : State) (k : Nat) (data : List Byte) :
    LinksOnly s (State.sendFlits n s k data) := by
  induction n generalizing s data with
  | zero => exact .refl s
  | succ n ih =>
    unfold State.sendFlits
    split
    · exact .refl s
    · exact (LinksOnly.sendFlit ..).trans (ih ..)

theorem LinksOnly.transmit (s : State) (k : Nat) (p : Pkt) : LinksOnly s (s.transmit k p) :=
  LinksOnly.trans (b := { s with lnk := { s.lnk with out := s.lnk.out ++ [(k, p)] } }) rfl (LinksOnly.sendFlits ..)

theorem LinksOnly.sendPkt (s : State) (k : Nat) (p : Pkt) : LinksOnly s (s.sendPkt k p) := by
  unfold State.sendPkt
  dsimp only
  split
  · exact LinksOnly.trans (b := s.setCredits ..) rfl (LinksOnly.transmit ..)
  · rfl

theorem LinksOnly.sendHost (s : State) (p : Pkt) : LinksOnly s (s.sendHost p) := by
  unfold State.sendHost
  split
  · exact LinksOnly.sendPkt ..
  · exact .refl s

theorem LinksOnly.owe (s : State) (k vc : Nat) : LinksOnly s (s.owe k vc) := by
  unfold State.owe
  split <;> rfl

theorem LinksOnly.payCredits (s : State) (k : Nat) : LinksOnly s (s.payCredits k) := by
  unfold State.payCredits
  split
  · exact .refl s
  · exact LinksOnly.sendFlit ..

theorem LinksOnly.leaveBuffer (s : State) (k : Nat) (p : Pkt) : LinksOnly s (s.leaveBuffer k p) := by
  unfold State.leaveBuffer
  split
  · exact (LinksOnly.owe ..).trans (LinksOnly.payCredits ..)
  · exact .refl s

/-! ### Serving a register access (R3, R4, R237) -/

theorem State.serveReq_cfg (s : State) {p : Pkt} (mecc : List MemEcc) (h : p.typ = 0x30 ∨ p.typ = 0x31) :
    s.serveReq ⟨p, mecc⟩ = (s.serveCfg p).leaveBuffer 13 p := by
  simp only [State.serveReq, if_pos h]

theorem State.serveCfg_refused (s : State) {p : Pkt} (h : cfgRefusal (cfgAddr p) (cfgBe p) ≠ 0) :
    s.serveCfg p = s.sendHost (cfgRsp p.tag (cfgRefusal (cfgAddr p) (cfgBe p)) 0) := by
  unfold State.serveCfg
  split
  · exact absurd ‹_› h
  · rfl

theorem State.serveCfg_read (s : State) {p : Pkt} (h : cfgRefusal (cfgAddr p) (cfgBe p) = 0) (ht : p.typ = 0x30) :
    s.serveCfg p = (s.readReg (cfgAddr p)).2.sendHost (cfgRsp p.tag 0 (s.readReg (cfgAddr p)).1) := by
  simp only [State.serveCfg, h, if_pos ht]

theorem State.serveCfg_locked (s : State) {p : Pkt} (h : cfgRefusal (cfgAddr p) (cfgBe p) = 0) (ht : p.typ = 0x31)
    (hl : s.configLocks (cfgAddr p) = true) : s.serveCfg p = s.sendHost (cfgRsp p.tag 0x12 0) := by
  simp [State.serveCfg, h, ht, hl]

theorem State.serveCfg_write (s : State) {p : Pkt} (h : cfgRefusal (cfgAddr p) (cfgBe p) = 0) (ht : p.typ = 0x31)
    (hl : s.configLocks (cfgAddr p) = false) :
    s.serveCfg p = (s.writeReg (cfgAddr p) (cfgData p)).sendHost (cfgRsp p.tag 0 0) := by
  simp [State.serveCfg, h, ht, hl]

/-- A register access that alignment or the map refuses waits for nothing (R237). -/
theorem State.reqWaits_of_refused (s : State) {p : Pkt} (ht : p.typ = 0x30 ∨ p.typ = 0x31)
    (h : cfgRefusal (cfgAddr p) (cfgBe p) ≠ 0) : s.reqWaits p = false := by
  have good : cfgGood p = false := by simp [cfgGood, h]
  have mem : p.typ ≠ 0x34 := by omega
  simp [State.reqWaits, State.waitsKiln, State.waitsCommit, State.waitsMirror, good, mem]

theorem cfgRefusal_misaligned {a be : Nat} (h : a % 4 ≠ 0 ∨ be ≠ 0xF) : cfgRefusal a be = 0x10 := if_pos h

theorem cfgRefusal_unmapped {a be : Nat} (ha : a % 4 = 0) (hb : be = 0xF) (h : blockOf a = none) : cfgRefusal a be = 0x11 := by
  simp [cfgRefusal, ha, hb, h]

section
variable {s : State} {p : Pkt} {mecc : List MemEcc} {t len : Nat}

/-- A register access that comes while none is held, and need not wait, is served and leaves its buffer. -/
theorem State.hostReq_cfg (hl : s.linkLive 13 = true) (ok : hostOk t p len = true) (ht : t = 0x30 ∨ t = 0x31)
    (he : s.thl.held = []) (hw : s.reqWaits p = false) : s.hostReq t len p mecc = (s.serveCfg p).leaveBuffer 13 p := by
  rw [State.hostReq_served hl ok he hw, State.serveReq_cfg]
  exact hostOk_typ ok ▸ ht

/-- A register access that alignment or the map refuses is answered with the refusal's status and data 0. -/
theorem State.hostReq_refused {st : Nat} (hl : s.linkLive 13 = true) (ok : hostOk t p len = true) (ht : t = 0x30 ∨ t = 0x31)
    (he : s.thl.held = []) (hst : st ≠ 0) (hr : cfgRefusal (cfgAddr p) (cfgBe p) = st) :
    s.hostReq t len p mecc = (s.sendHost (cfgRsp p.tag st 0)).leaveBuffer 13 p := by
  subst hr
  have waits : s.reqWaits p = false := s.reqWaits_of_refused (hostOk_typ ok ▸ ht) hst
  rw [State.hostReq_cfg hl ok ht he waits, s.serveCfg_refused hst]

/-- A memory access that comes while none is held, and need not wait, is served and leaves its buffer. -/
theorem State.hostReq_mem (hl : s.linkLive 13 = true) (ok : hostOk t p len = true) (ht : t = 0x33 ∨ t = 0x34)
    (he : s.thl.held = []) (hw : s.reqWaits p = false) :
    s.hostReq t len p mecc = (s.serveMem p mecc).leaveBuffer 13 p := by
  have typ : ¬(p.typ = 0x30 ∨ p.typ = 0x31) := by
    have := hostOk_typ ok
    omega
  rw [State.hostReq_served hl ok he hw]
  simp only [State.serveReq, if_neg typ]

end

/-! ### Serving a memory access (R123, R238) -/

theorem State.serveMem_badShape (s : State) {p : Pkt} (mecc : List MemEcc) (h : memShape (memAddr p) (memCount p) = false) :
    s.serveMem p mecc = s.sendHost (memRsp p.tag 1 []) := by
  simp [State.serveMem, h]

theorem State.serveMem_read {s t : State} {p : Pkt} {mecc : List MemEcc} {r : MemRes} {b : List Byte}
    (h : memShape (memAddr p) (memCount p) = true) (ht : p.typ = 0x33)
    (hr : s.memRead (memAddr p) (memCount p) mecc = (t, r, b)) :
    s.serveMem p mecc = t.sendHost (memRsp p.tag r.rsp b) := by
  simp [State.serveMem, h, ht, hr]

theorem State.serveMem_write {s t : State} {p : Pkt} {mecc : List MemEcc} {r : MemRes} {tags : List Nat}
    (h : memShape (memAddr p) (memCount p) = true) (ht : p.typ = 0x34)
    (hw : s.memWrite (memAddr p) (p.payload.take (memCount p)) mecc = (t, r, tags)) :
    s.serveMem p mecc =
      if tags = [] then t.sendHost (memRsp p.tag r.rsp [])
      else { t with ixf := { t.ixf with lateAcks := t.ixf.lateAcks ++ [⟨tags, 13, memRsp p.tag r.rsp []⟩] } } := by
  simp [State.serveMem, h, ht, hw]

/-! ### The latch (R9) -/

/-- A read of a low word puts its high word, as it reads then, in the latch of the block. -/
theorem State.latchHigh_of_lo (s : State) {a b : Nat} (hb : blockOf a = some b) (h : isLoAddr a = true) :
    s.latchHigh a = { s with latch := s.latch.set b (a + 4, s.peek (a + 4)) } := by
  simp only [State.latchHigh, hb, if_pos h]

/-- A read at the latched address gives the latched value. -/
theorem State.readReg_latched {s : State} {a b v : Nat} (hb : blockOf a = some b) (h : s.latch.get? b = some (a, v)) :
    (s.readReg a).1 = v := by
  simp [State.readReg, hb, h, Option.filter]

/-! ### The commands -/

theorem exec_cfgRd (s : State) (p : Pkt) : exec (.cfgRd p) s = .next (s.hostReq 0x30 0 p []) := rfl

theorem exec_cfgWr (s : State) (p : Pkt) : exec (.cfgWr p) s = .next (s.hostReq 0x31 1 p []) := rfl

theorem exec_memRd (s : State) (p : Pkt) (mecc : List MemEcc) : exec (.memRd p mecc) s = .next (s.hostReq 0x33 0 p mecc) := rfl

theorem exec_memWr (s : State) (p : Pkt) (mecc : List MemEcc) :
    exec (.memWr p mecc) s =
      .next (s.hostReq 0x34 (if memShape (memAddr p) (memCount p) then (memCount p + 63) / 64 else p.len) p mecc) := rfl

theorem exec_registerWrite_aligned (s : State) {a : Word} (d : Word) (h : a.toNat % 4 = 0) :
    exec (.registerWrite a d) s = .next (s.writeReg a.toNat d.toNat) := congrArg _ (if_pos h)

theorem exec_registerWrite_misaligned (s : State) {a : Word} (d : Word) (h : a.toNat % 4 ≠ 0) :
    exec (.registerWrite a d) s = .next s := congrArg _ (if_neg h)

theorem exec_loWordRead_aligned (s : State) {a : Word} (h : a.toNat % 4 = 0) :
    exec (.loWordRead a) s = .next (s.latchHigh a.toNat) := congrArg _ (if_pos h)

/-! ### The statements -/

/-- Settles O21: the latch of the block holds the high word, and no write to a field touches it. -/
theorem highWordIsLatched : Obligations.HighWordIsLatched := by
  intro s a ha hlo hblk hsome
  obtain ⟨b, hb⟩ := Option.isSome_iff_exists.1 hsome
  have latched : (s.latchHigh a.toNat).latch.get? b = some (a.toNat + 4, s.peek (a.toNat + 4)) := by
    rw [s.latchHigh_of_lo hb hlo]
    exact SMap.get?_set_same ..
  refine ⟨s.latchHigh a.toNat, exec_loWordRead_aligned s ha, ?_, ?_, ?_⟩
  · rw [s.latchHigh_of_lo hb hlo]
  · exact State.readReg_latched (hblk.trans hb) latched
  · exact fun f i v => State.readReg_latched (hblk.trans hb) latched

/-- Settles O24: the access is refused before anything of the register is looked at, and answering moves the links alone. -/
theorem badAccessesAreAnswered : Obligations.BadAccessesAreAnswered := by
  constructor
  · intro s p st hl he bad
    have refusal : cfgRefusal (cfgAddr p) (cfgBe p) = st := by
      rcases bad with ⟨h, rfl⟩ | ⟨ha, hb, h, rfl⟩
      · exact cfgRefusal_misaligned h
      · exact cfgRefusal_unmapped ha hb h
    have hst : st ≠ 0 := by omega
    refine ⟨_, rfl, (LinksOnly.sendHost ..).trans (LinksOnly.leaveBuffer ..), fun ok => ?_, fun ok => ?_⟩
    · rw [exec_cfgRd, State.hostReq_refused hl ok (.inl rfl) he hst refusal]
    · rw [exec_cfgWr, State.hostReq_refused hl ok (.inr rfl) he hst refusal]
  · exact fun s a d h => exec_registerWrite_misaligned s d h

/-- Settles O26: a well-formed request of the host on a live link is served at once, refused or held (R237 to R239); a register command
at an aligned address acts. -/
theorem hostAccessesComplete : Obligations.HostAccessesComplete := by
  refine ⟨?cfgRead, ?cfgReadRefused, ?cfgReadHeld, ?cfgWrite, ?cfgWriteRefused, ?cfgWriteLocked, ?cfgWriteHeld, ?memRead,
    ?memReadRefused, ?memWrite, ?memWriteMirrored, ?memWriteHeld, ?registerWrite, ?loWordRead⟩
  case cfgRead =>
    intro s p hl ok he hw hr
    rw [exec_cfgRd, State.hostReq_cfg hl ok (.inl rfl) he hw, s.serveCfg_read hr (hostOk_typ ok)]
  case cfgReadRefused =>
    intro s p st hl ok he _ hst hr
    rw [exec_cfgRd, State.hostReq_refused hl ok (.inl rfl) he hst hr]
  case cfgReadHeld =>
    intro s p hl ok he hw
    rw [exec_cfgRd, State.hostReq_held hl ok he hw]
  case cfgWrite =>
    intro s p hl ok he hw hr hc
    rw [exec_cfgWr, State.hostReq_cfg hl ok (.inr rfl) he hw, s.serveCfg_write hr (hostOk_typ ok) hc]
  case cfgWriteRefused =>
    intro s p st hl ok he _ hst hr
    rw [exec_cfgWr, State.hostReq_refused hl ok (.inr rfl) he hst hr]
  case cfgWriteLocked =>
    intro s p hl ok he hw hr hc
    rw [exec_cfgWr, State.hostReq_cfg hl ok (.inr rfl) he hw, s.serveCfg_locked hr (hostOk_typ ok) hc]
  case cfgWriteHeld =>
    intro s p hl ok he hw
    rw [exec_cfgWr, State.hostReq_held hl ok he hw]
  case memRead =>
    intro s p mecc t r b hl ok he hw shape hr
    rw [exec_memRd, State.hostReq_mem hl ok (.inl rfl) he hw, State.serveMem_read shape (hostOk_typ ok) hr]
  case memReadRefused =>
    intro s p mecc hl ok he hw shape
    rw [exec_memRd, State.hostReq_mem hl ok (.inl rfl) he hw, s.serveMem_badShape mecc shape]
  case memWrite =>
    intro s p mecc t r hl ok he hw shape hm
    rw [exec_memWr, State.hostReq_mem hl ok (.inr rfl) he hw, State.serveMem_write shape (hostOk_typ ok) hm, if_pos rfl]
  case memWriteMirrored =>
    intro s p mecc t r x l hl ok he hw shape hm
    rw [exec_memWr, State.hostReq_mem hl ok (.inr rfl) he hw,
      State.serveMem_write shape (hostOk_typ ok) hm, if_neg (List.cons_ne_nil x l)]
  case memWriteHeld =>
    intro s p mecc hl ok he hw
    rw [exec_memWr, State.hostReq_held hl ok he hw]
  case registerWrite =>
    exact fun s addr data h => exec_registerWrite_aligned s data h
  case loWordRead =>
    exact fun s addr h => exec_loWordRead_aligned s h

end Sys2Proof.Machine
end

section
/-!
PROOFS. The power domains: which commands leave them alone, and what a fault of one takes down (R20).
-/

namespace Sys2Proof.Machine

/-! ### Turning a domain off -/

/-- Of the parts that Laws/Same.lean speaks of, the domains alone. -/
def onlyDomains (a : Aspect) : Prop := a = .dom

theorem not_onlyDomains_mem : ¬onlyDomains .mem := nofun

theorem not_onlyDomains_live : ¬onlyDomains .live := nofun

theorem Same.of_on {s t : State} (h : t.power.on = s.power.on) : Same onlyDomains s t :=
  ⟨nofun, fun _ => h, nofun, nofun, nofun⟩

theorem Same.isOn {s t : State} (h : Same onlyDomains s t) (e : Domain) : t.isOn e = s.isOn e := by
  simp only [State.isOn, h.dom rfl]

/-- A domain stays on only where it is neither the one turned off nor one that depends on it (R20). -/
@[simp] theorem State.isOn_turnOff (s : State) (d e : Domain) :
    (s.turnOff d).isOn e = (s.isOn e && !decide (e = d) && !domainUnder e d) := by
  simp only [State.isOn, State.turnOff, List.contains_eq_mem, List.mem_filter, ne_eq, decide_not, Bool.and_eq_true, Bool.decide_and,
    Bool.decide_eq_true, Bool.and_assoc]

theorem domainUnder_trans {a b c : Domain} (h : domainUnder a b = true) (k : domainUnder b c = true) : domainUnder a c = true := by
  cases b <;> cases a <;> cases c <;> simp_all [domainUnder]

/-- No domain other than those that depend on d is turned on or off. -/
def SameOutside (d : Domain) (s t : State) : Prop := ∀ e, domainUnder e d = false → t.isOn e = s.isOn e

/-- The domains that are on are those that stay on when d is turned off. -/
def TurnsOff (d : Domain) (s t : State) : Prop := ∀ e, t.isOn e = (s.turnOff d).isOn e

theorem SameOutside.refl (d : Domain) (s : State) : SameOutside d s s := fun _ _ => rfl

theorem SameOutside.trans {d : Domain} {a b c : State} (h : SameOutside d a b) (k : SameOutside d b c) : SameOutside d a c :=
  fun e he => (k e he).trans (h e he)

theorem SameOutside.foldl {α : Type} {d : Domain} {s0 s : State} {f : State → α → State} {l : List α} (h : SameOutside d s0 s)
    (k : ∀ s x, SameOutside d s (f s x)) : SameOutside d s0 (l.foldl f s) := by
  induction l generalizing s with
  | nil => exact h
  | cons x l ih => exact ih (h.trans (k s x))

/-- When a domain that depends on d goes off, so do its own dependants, which depend on d too. -/
theorem TurnsOff.sameOutside {x d : Domain} {s t : State} (h : TurnsOff x s t) (hx : domainUnder x d = true) : SameOutside d s t := by
  intro e he
  have hne : e ≠ x := by
    rintro rfl
    exact Bool.false_ne_true (he.symm.trans hx)
  have hu : domainUnder e x = false := by
    by_contra c
    exact Bool.false_ne_true (he.symm.trans (domainUnder_trans (Bool.not_eq_false _ ▸ c) hx))
  rw [h e, State.isOn_turnOff, hu]
  simp [hne]

/-- How a domain goes off: first some of its dependants, then the domain itself, then what leaves the domains alone. In the end those
are on that stay on when it is turned off at once. -/
theorem TurnsOff.of_sameOutside {d : Domain} {s u t : State} (h : SameOutside d s u) (k : Same onlyDomains (u.turnOff d) t) :
    TurnsOff d s t := by
  intro e
  rw [k.isOn, State.isOn_turnOff, State.isOn_turnOff]
  cases he : domainUnder e d with
  | true => simp
  | false => rw [h e he]

theorem Same.sameOutside {d : Domain} {s t : State} (h : Same onlyDomains s t) : SameOutside d s t := fun e _ => h.isOn e

theorem TurnsOff.trans_same {d : Domain} {s t u : State} (h : TurnsOff d s t) (k : Same onlyDomains t u) : TurnsOff d s u :=
  fun e => (k.isOn e).trans (h e)

/-! ### What each domain takes with it -/

theorem State.optOff_turnsOff {s : State} {k : Nat} (h : s.isOn (.opt k) = true) : TurnsOff (.opt k) s (s.optOff k) := by
  unfold State.optOff
  rw [if_pos h]
  refine .of_sameOutside (Same.sameOutside ?_) (Same.refl _ _)
  exact Same.ite (Same.refl _ s) (State.portLeave_same not_onlyDomains_mem (Same.refl _ s))

theorem State.optOff_sameOutside_iod (s : State) (k : Nat) : SameOutside .iod s (s.optOff k) := by
  by_cases h : s.isOn (.opt k) = true
  · exact (s.optOff_turnsOff h).sameOutside rfl
  · unfold State.optOff
    rw [if_neg h]
    exact .refl _ _

theorem State.memOff_turnsOff {s : State} {n : Nat} (h : s.isOn (.mem n) = true) : TurnsOff (.mem n) s (s.memOff n) := by
  unfold State.memOff
  rw [if_pos h]
  refine .of_sameOutside (u := s.loseStacks fun k => k / 5 == n) (.refl _ s) ?_
  refine Same.foldl (Same.foldl (Same.foldl ?cut fun _ _ h => State.loseBursts_same h) fun _ _ h => State.loseTokens_same h) ?shown
  case cut => exact Same.of_on rfl
  case shown =>
    intro t i h
    exact Same.ite (State.showStart_same h) (State.setF_same (State.setF_same (State.showStart_same h)))

theorem State.memOff_sameOutside (s : State) {n : Nat} {d : Domain} (hd : domainUnder (.mem n) d = true) :
    SameOutside d s (s.memOff n) := by
  by_cases h : s.isOn (.mem n) = true
  · exact (s.memOff_turnsOff h).sameOutside hd
  · unfold State.memOff
    rw [if_neg h]
    exact .refl _ _

theorem domainUnder_mem_core (n : Nat) : domainUnder (.mem n) (.core n) = true := beq_self_eq_true n

/-- MEM goes off first, so CORE is still on when its own turn comes. -/
theorem State.isOn_core_memOff (s : State) (n : Nat) : (s.memOff n).isOn (.core n) = s.isOn (.core n) :=
  s.memOff_sameOutside (domainUnder_mem_core n) (.core n) rfl

theorem State.coreOff_turnsOff {s : State} {n : Nat} (h : s.isOn (.core n) = true) : TurnsOff (.core n) s (s.coreOff n) := by
  have on : (s.memOff n).isOn (.core n) = true := (s.isOn_core_memOff n).trans h
  unfold State.coreOff
  dsimp only
  rw [if_pos on]
  refine .of_sameOutside (s.memOff_sameOutside (domainUnder_mem_core n)) ?_
  refine State.clearBit_same (State.clearRegs_same not_onlyDomains_live ?_)
  exact Same.record (Same.foldl (Same.foldl (State.stopSlices_same (Same.refl ..)) fun _ _ h => State.forgetCluster_same h)
    fun _ _ h => State.modCl_same h) nofun (fun _ => rfl) nofun nofun nofun

theorem State.coreOff_sameOutside_iod (s : State) (n : Nat) : SameOutside .iod s (s.coreOff n) := by
  by_cases h : s.isOn (.core n) = true
  · exact (s.coreOff_turnsOff h).sameOutside rfl
  · have off : ¬(s.memOff n).isOn (.core n) = true := (s.isOn_core_memOff n).symm ▸ h
    unfold State.coreOff
    dsimp only
    rw [if_neg off]
    exact s.memOff_sameOutside rfl

theorem State.computeOff_sameOutside_iod (s : State) : SameOutside .iod s s.computeOff := by
  unfold State.computeOff
  dsimp only
  refine .foldl (.foldl (.foldl (.refl _ s) fun s k => ?port) fun s n => ?memory) fun s n => ?core
  case port => exact s.optOff_sameOutside_iod (11 - k)
  case memory => exact s.memOff_sameOutside rfl
  case core => exact s.coreOff_sameOutside_iod n

theorem State.iodOff_turnsOff {s : State} (h : s.isOn .iod = true) : TurnsOff .iod s s.iodOff := by
  have inner : SameOutside .iod s s.computeOff := s.computeOff_sameOutside_iod
  have on : s.computeOff.isOn .iod = true := (inner .iod rfl).trans h
  unfold State.iodOff
  generalize s.computeOff = u at inner on ⊢
  dsimp only
  rw [if_pos on]
  refine .of_sameOutside (inner.trans (Same.of_on rfl).sameOutside) ?_
  exact Same.record (State.clearBit_same (f := .kln .dieHbAlive) (i := 0) (b := 4)
    (State.clearRegs_same (d := .iod) not_onlyDomains_live (Same.refl ..))) nofun (fun _ => rfl) nofun nofun nofun

/-- Before AUX power no domain is on. -/
theorem State.isOn_auxOff (s : State) (e : Domain) : s.auxOff.isOn e = false := rfl

theorem State.auxOff_turnsOff (s : State) : TurnsOff .aux s s.auxOff := by
  intro e
  rw [State.isOn_auxOff, State.isOn_turnOff]
  cases e <;> simp [domainUnder]

/-- A domain other than AUX that is on goes off with those that depend on it, and no other (R20). -/
theorem State.domainOff_turnsOff {s : State} {d : Domain} (h : s.isOn d = true) (ne : d ≠ .aux) : TurnsOff d s (s.domainOff d) := by
  cases d with
  | aux => exact absurd rfl ne
  | iod => exact s.iodOff_turnsOff h
  | core n => exact s.coreOff_turnsOff h
  | mem n => exact s.memOff_turnsOff h
  | opt k => exact s.optOff_turnsOff h

/-- A fault in a domain that is on leaves on what turning it off leaves on: failing the stacks and recording the loss turn no domain on
or off. -/
theorem exec_domainFault_turnsOff {s : State} {d : Domain} (h : s.isOn d = true) :
    ∃ t, exec (.domainFault d) s = .next t ∧ TurnsOff d s t := by
  refine ⟨_, congrArg Host.Outcome.next (if_pos h), ?_⟩
  split
  · exact s.auxOff_turnsOff
  · rename_i ne
    exact (State.domainOff_turnsOff h ne).trans_same
      (State.unnamedRecord_same (Same.foldl (Same.refl ..) fun _ _ h => Same.foldl h fun _ _ h => State.stackFail_same h))

/-! ### The statements -/

/-- Settles O11: a command outside the list leaves the list of the domains that are on as it was. -/
theorem domainsAreLeftAlone : Obligations.DomainsAreLeftAlone := by
  intro c s t hc h d
  have same : Same onlyDomains s t :=
    Same.eqX h (exec_same c nofun (fun _ => hc) nofun nofun nofun (Same.refl _ s))
  exact same.isOn d

/-- Settles O25: after the fault the domains that are on are those that stay on when the domain is turned off. -/
theorem domainFaultTakesDependants : Obligations.DomainFaultTakesDependants := by
  intro s d _ on
  obtain ⟨t, step, off⟩ := exec_domainFault_turnsOff on
  refine ⟨t, step, ?_, fun e under => ?_, fun e still => ?_⟩
  · simp [off d]
  · simp [off e, under]
  · rw [off e, State.isOn_turnOff, Bool.and_eq_true, Bool.and_eq_true] at still
    exact still.1.1

end Sys2Proof.Machine
end

section
/-!
PROOFS. The instructions of a sequencer that work inside their cluster (R57).
-/

namespace Sys2Proof.Machine

/-! ### Changes inside one cluster -/

/-- From s to t nothing changed but cluster c, whose store stayed, and its own registers. -/
structure InsideCluster (c : Nat) (s t : State) : Prop where
  rest : t = { s with clu := t.clu, regs := t.regs }
  others : ∀ d, d ≠ c → t.cl d = s.cl d
  store : (t.cl c).store = (s.cl c).store
  regs : ∀ f j, (∀ x, f = .clu x → j ≠ c) → t.getF f j = s.getF f j

namespace InsideCluster

theorem refl (c : Nat) (s : State) : InsideCluster c s s := ⟨rfl, fun _ _ => rfl, rfl, fun _ _ _ => rfl⟩

section
variable {c : Nat} {s t u : State}

theorem trans (h : InsideCluster c s t) (k : InsideCluster c t u) : InsideCluster c s u where
  rest := by
    have e := k.rest
    rw [h.rest] at e
    exact e
  others d hd := (k.others d hd).trans (h.others d hd)
  store := k.store.trans h.store
  regs f j hf := (k.regs f j hf).trans (h.regs f j hf)

theorem ite {p : Prop} [Decidable p] (h : InsideCluster c s t) (k : InsideCluster c s u) :
    InsideCluster c s (if p then t else u) := by
  split <;> assumption

theorem of_next (h : InsideCluster c s u) (e : (.next u : Host.Outcome State Fault Refusal) = .next t) : InsideCluster c s t :=
  Host.Outcome.next.inj e ▸ h

end

variable (s : State) (c : Nat)

/-! ### The operations of a sequencer -/

theorem modCl {f : Cluster → Cluster} (h : (f (s.cl c)).store = (s.cl c).store) : InsideCluster c s (s.modCl c f) where
  rest := rfl
  others d hd := by rw [State.cl_modCl, if_neg hd]
  store := by rw [State.cl_modCl, if_pos rfl, h]
  regs _ _ _ := State.getF_modCl ..

theorem setF (x : CluFld) (v : Nat) : InsideCluster c s (s.setF (.clu x) c v) where
  rest := rfl
  others d _ := State.cl_setF ..
  store := congrArg _ (State.cl_setF ..)
  regs f j hf := by
    rw [State.getF_setF, if_neg]
    rintro ⟨hx, hj⟩
    exact hf x hx hj

theorem setPc (a : Nat) : InsideCluster c s (s.setPc c a) := modCl s c rfl

theorem nextPc : InsideCluster c s (s.nextPc c) := setPc ..

theorem setSreg (r v : Nat) : InsideCluster c s (s.setSreg c r v) := modCl s c rfl

theorem steep (cause : Nat) (w : Wait) : InsideCluster c s (s.steep c cause w) :=
  (modCl s c rfl).trans ((setF _ c _ _).trans (setF _ c _ _))

theorem showTbCause : InsideCluster c s (s.showTbCause c) := ite (setF ..) (refl ..)

theorem showDmaCause : InsideCluster c s (s.showDmaCause c) := by
  unfold State.showDmaCause
  dsimp only
  split
  · exact setF ..
  · exact setF ..
  · exact refl ..

/-- Issuing adds at most a wait for reserve to what the instruction does (R163). -/
theorem issue {f : State → Nat → State} (h : ∀ w, InsideCluster c s (f s w)) : InsideCluster c s (s.issue c f) :=
  ite (ite (ite (h _) (refl ..)) (steep ..)) (refl ..)

/-! ### The instructions -/

variable {s c} {t : State}

theorem exec_scalarOp {fn : ScalarFn} {im : Bool} (h : exec (.scalarOp c fn im) s = .next t) : InsideCluster c s t :=
  of_next (issue s c fun _ => ite (refl ..) ((setSreg ..).trans (nextPc ..))) h

theorem exec_branch {cond : BranchCond} (h : exec (.branch c cond) s = .next t) : InsideCluster c s t :=
  of_next (issue s c fun _ => ite (refl ..) (ite (setPc ..) (nextPc ..))) h

theorem exec_tbwait (h : exec (.tbwait c) s = .next t) : InsideCluster c s t :=
  of_next (issue s c fun _ => ite (refl ..) (ite ((nextPc ..).trans ((steep ..).trans (showTbCause ..))) (nextPc ..))) h

theorem exec_dmawait (h : exec (.dmawait c) s = .next t) : InsideCluster c s t :=
  of_next (issue s c fun _ => ite (refl ..) (ite (nextPc ..) ((nextPc ..).trans ((steep ..).trans (showDmaCause ..))))) h

theorem exec_fence (h : exec (.fence c) s = .next t) : InsideCluster c s t :=
  of_next (issue s c fun _ => ite (refl ..) (ite ((nextPc ..).trans ((steep ..).trans (showDmaCause ..))) (nextPc ..))) h

end InsideCluster

/-! ### The statement -/

/-- Settles O14: each of the five instructions writes its own cluster's scalar registers, program counter and wait, and its own status
registers, and nothing else. -/
theorem sequencerStaysInItsCluster : Obligations.SequencerStaysInItsCluster := by
  intro c fn im cond i hi s t h
  have inside : InsideCluster c s t := by
    simp only [List.mem_cons, List.not_mem_nil, or_false] at hi
    rcases hi with rfl | rfl | rfl | rfl | rfl
    · exact .exec_scalarOp h
    · exact .exec_branch h
    · exact .exec_tbwait h
    · exact .exec_dmawait h
    · exact .exec_fence h
  obtain ⟨rest, others, store, regs⟩ := inside
  refine ⟨others, regs, fun f j => ?_, ?_, ?_, ?_, ?_, ?_, ?_, ?_, ?_, fun a => by rw [store]⟩
  case refine_1 => rw [rest]; rfl
  all_goals rw [rest]

end Sys2Proof.Machine
end

section
/-!
PROOFS. The seed of the stochastic-rounding generator (R54, R63).
-/

namespace Sys2Proof.Machine

/-! ### Loading a held seed -/

/-- Spills that have all they need take nothing from a new sequence. -/
theorem startDraws_of_ready {l : List Spill} (g : Nat) (h : ∀ x ∈ l, x.ready = true) : startDraws l g = (l, g) := by
  induction l with
  | nil => rfl
  | cons x l ih =>
    obtain ⟨hx, hl⟩ := List.forall_mem_cons.1 h
    simp only [startDraws, hx, if_true, ih hl]

/-- While an SR spill is in progress a held seed stays held (R63). -/
theorem State.loadHeldSeed_of_drawing {s : State} {c : Nat} (h : (s.cl c).spills.any Spill.drawing = true) :
    s.loadHeldSeed c = s := by
  unfold State.loadHeldSeed
  dsimp only
  split
  · exact if_pos h
  · rfl

/-- With no such spill it is loaded, and the spills that wait for a sequence draw from it (R54, R63; log entry 160). -/
theorem State.loadHeldSeed_of_held {s : State} {c n : Nat} (hd : (s.cl c).spills.any Spill.drawing = false)
    (hn : (s.cl c).heldSeed = some n) :
    s.loadHeldSeed c = s.modCl c fun k =>
      { k with
        gen := (startDraws (s.cl c).spills (srSeed n)).2, heldSeed := none,
        spills := (startDraws (s.cl c).spills (srSeed n)).1 } := by
  simp only [State.loadHeldSeed, hn, hd, Bool.false_eq_true, if_false]

/-- Where no spill waits for it, the sequence is the generator's next. -/
theorem State.cl_loadHeldSeed_of_ready {s : State} {c n : Nat} (hd : (s.cl c).spills.any Spill.drawing = false)
    (hr : ∀ x ∈ (s.cl c).spills, x.ready = true) (hn : (s.cl c).heldSeed = some n) :
    (s.loadHeldSeed c).cl c = { s.cl c with gen := srSeed n, heldSeed := none } := by
  rw [State.loadHeldSeed_of_held hd hn, State.cl_modCl, if_pos rfl, startDraws_of_ready _ hr]

/-- A spill that is not ready draws, but has no sequence yet. -/
theorem Spill.drawing_of_not_ready {x : Spill} (h : x.ready = false) : x.drawing = false := by
  rw [Spill.ready, Bool.or_eq_false_iff] at h
  rw [Spill.drawing, h.2, Bool.and_false]

/-! ### Writing the seed -/

/-- The write holds the seed that the two registers then spell, and loads it at once where it may (R54, R63; log entry 160). -/
theorem State.seedWrite_eq (s : State) (c : Nat) (v : Word) :
    s.seedWrite c v.toNat =
      ((s.setF (.clu .srSeedHiSeedHi) c v.toNat).modCl c fun k =>
        { k with heldSeed := some (v.toNat * 2 ^ 32 + s.getF (.clu .srSeedLoSeedLo) c) }).loadHeldSeed c := by
  have fits : v.toNat % 2 ^ (Fld.clu .srSeedHiSeedHi).width = v.toNat := Nat.mod_eq_of_lt v.isLt
  simp [State.seedWrite, State.get64, fits, Nat.add_comm, Nat.mul_comm]

theorem exec_cluSrSeedWrite {s : State} {c : Nat} (v : Word) (h : s.cluWrites c = true) :
    exec (.cluSrSeedWrite c v) s = .next (s.seedWrite c v.toNat) := congrArg Host.Outcome.next (if_pos h)

theorem exec_heldSeedLoad (s : State) (c : Nat) : exec (.heldSeedLoad c) s = .next (s.loadHeldSeed c) := rfl

/-! ### The statement -/

/-- Settles O18: a written seed is held, and loading a held seed waits for the SR spills in progress (R54, R63). That SEED_LO is taken as
it stands at the write, and that a spill begun meanwhile draws from the new sequence, is the model's choice (log entry 160). -/
theorem seedWriteWaitsForTheSpill : Obligations.SeedWriteWaitsForTheSpill := by
  refine ⟨?written, ?stillDrawing, ?loaded, ?awaited⟩
  case written =>
    intro s c v h
    refine ⟨_, exec_cluSrSeedWrite v h, fun idle ready => ?_, fun drawing => ?_⟩
    · rw [State.seedWrite_eq, State.cl_loadHeldSeed_of_ready (by simpa using idle) (by simpa using ready)
        (by rw [State.cl_modCl, if_pos rfl])]
      simp [srSeed]
    · rw [State.seedWrite_eq, State.loadHeldSeed_of_drawing (by simpa using drawing)]
      simp
  case stillDrawing =>
    intro s c drawing
    rw [exec_heldSeedLoad, State.loadHeldSeed_of_drawing drawing]
  case loaded =>
    intro s c n idle ready held
    refine ⟨_, exec_heldSeedLoad s c, ?_⟩
    rw [State.cl_loadHeldSeed_of_ready idle ready held]
    exact ⟨rfl, rfl, rfl⟩
  case awaited =>
    intro s c n x one waits held
    have idle : (s.cl c).spills.any Spill.drawing = false := by simp [one, Spill.drawing_of_not_ready waits]
    refine ⟨_, exec_heldSeedLoad s c, ?_⟩
    rw [State.loadHeldSeed_of_held idle held]
    simp [one, startDraws, waits, srSeed]

end Sys2Proof.Machine
end

section
/-!
PROOFS. The instructions of the sequencer, the tensor unit and the vector unit, once a cluster issues them (R34, R35, R46 to R57).
-/

namespace Sys2Proof.Machine

/-! ### Issuing -/

/-- A command that issues an instruction gives that instruction's effect on the word it fetches. -/
theorem exec_of_issues {i : Instr} {s : State} {c w : Nat} {f : State → Nat → State} (meaning : exec i s = .next (s.issue c f))
    (h : s.issues c = true) (hw : s.fetchWord c = w) : exec i s = .next (f s w) := by
  rw [meaning, State.issue_of_issues h, hw]

section
variable {s : State} {c w : Nat} (h : s.issues c = true) (hw : s.fetchWord c = w)
include h hw

/-! ### The sequencer -/

theorem exec_scalarOp_of_issues (fn : ScalarFn) (useImm : Bool) (op : 0x01 ≤ opc w ∧ opc w ≤ 0x1F) :
    exec (.scalarOp c fn useImm) s = .next ((s.setSreg c (dstReg w) (scalarResult (opc w) fn (s.sreg c (srcA w))
      (if useImm then unsigned 64 (immVal w) else s.sreg c (srcB w)))).nextPc c) := by
  rw [exec_of_issues rfl h hw]
  simp [op]

theorem exec_branch_of_issues (cond : BranchCond) (op : 0x20 ≤ opc w ∧ opc w ≤ 0x27) :
    exec (.branch c cond) s = .next (if branchTaken (opc w) cond (s.sreg c (srcA w)) (s.sreg c (srcB w)) then
      s.setPc c (branchTarget (s.cl c).pc w) else s.nextPc c) := by
  rw [exec_of_issues rfl h hw]
  simp [op]

/-- A store writes what lies within the cluster store; one that does not is dropped (log entry 10). -/
theorem exec_sts_of_issues (ecc : StoreEcc) (op : opc w = 0x28) :
    exec (.ldsSts c true ecc) s = .next ((if s.effAddr c w + 8 > storeSize then s else
      s.putStore c (s.effAddr c w) (leBytes 8 (s.sreg c (srcB w)))).nextPc c) := by
  rw [exec_of_issues rfl h hw]
  simp only [op, ne_eq, not_true_eq_false, if_false, if_true]
  split <;> rfl

theorem exec_lds_of_issues (op : opc w = 0x28) (inside : s.effAddr c w + 8 ≤ storeSize) :
    exec (.ldsSts c false .clean) s =
      .next ((s.setSreg c (dstReg w) (leNat (s.storeBytes c (s.effAddr c w) 8))).nextPc c) := by
  rw [exec_of_issues rfl h hw]
  simp [op, Nat.not_lt.2 inside, State.storeRead, State.storeEcc]

theorem exec_illegalInstruction_of_issues (reservedEnc : Bool) (bad : s.opInvalid c w = true) :
    exec (.illegalInstruction c reservedEnc) s = .next (s.faultStop c .opInvalid) := by
  rw [exec_of_issues rfl h hw]
  simp [bad]

/-! ### Tensor blocks -/

/-- A descriptor that is read and valid is queued, or counted where it has nothing to do (R47; log entry 161). -/
theorem exec_tb_of_valid {ecc : StoreEcc} {t : State} {b : List Byte} (op : opc w = 0x30)
    (place : s.effAddr c w % 64 = 0 ∧ s.effAddr c w + 64 ≤ storeSize)
    (read : s.storeRead c (s.effAddr c w) 64 ecc = (t, some b)) (valid : tbOk b = true) :
    exec (.tb c ecc) s = .next ((if (readTb b).k = 0 then t.countBlock c else
      t.modCl c fun k => { k with tbq := k.tbq ++ [⟨readTb b, false⟩] }).nextPc c) := by
  rw [exec_of_issues rfl h hw]
  simp only [op, place.1, Nat.not_lt.2 place.2, read, valid, ne_eq, not_true_eq_false, or_self, Bool.not_true,
    Bool.false_eq_true, if_false]
  split <;> rfl

theorem exec_tb_of_badPlace (ecc : StoreEcc) (op : opc w = 0x30)
    (place : s.effAddr c w % 64 ≠ 0 ∨ storeSize < s.effAddr c w + 64) :
    exec (.tb c ecc) s = .next (s.faultStop c .tbInvalid) := by
  rw [exec_of_issues rfl h hw]
  simp only [op, ne_eq, not_true_eq_false, if_false]
  exact congrArg _ (if_pos place)

theorem exec_tbwait_of_issues (op : opc w = 0x31) :
    exec (.tbwait c) s = .next (if ((s.nextPc c).cl c).tensorBusy then ((s.nextPc c).steep c 7 .tensor).showTbCause c
      else s.nextPc c) := by
  rw [exec_of_issues rfl h hw]
  exact congrArg _ (if_neg (not_not.2 op))

/-! ### Vector operations -/

theorem exec_vop_of_noRead {op : VecOp} (ecc : StoreEcc) (code : 0x40 ≤ opc w ∧ opc w ≤ 0x7F)
    (ready : (s.cl c).vopReady op = true) (inside : vecInStore op = true) (reads : vecReads op = []) :
    exec (.vop c op ecc) s = .next ((s.vectorOp c (dstReg w) op).nextPc c) := by
  rw [exec_of_issues rfl h hw]
  simp [code, ready, inside, reads]

theorem exec_vop_of_read {op : VecOp} {ecc : StoreEcc} {t : State} (code : 0x40 ≤ opc w ∧ opc w ≤ 0x7F)
    (ready : (s.cl c).vopReady op = true) (inside : vecInStore op = true) (reads : vecReads op ≠ [])
    (read : s.storeEcc c ecc = (t, true)) : exec (.vop c op ecc) s = .next ((t.vectorOp c (dstReg w) op).nextPc c) := by
  rw [exec_of_issues rfl h hw]
  simp [code, ready, inside, reads, read]

end

/-! ### Fetching -/

theorem exec_fetchFault (s : State) (c : Nat) (ecc : StoreEcc) : exec (.fetchFault c ecc) s = execFetchFault c ecc s := rfl

/-- A fetch outside the store stops the program (R57). -/
theorem exec_fetchFault_of_out {s : State} {c : Nat} (ecc : StoreEcc) (h : s.fetching c = true) (out : s.fetchIn c = false) :
    exec (.fetchFault c ecc) s = .next (s.faultStop c .fetchRange) := by
  simp [exec_fetchFault, execFetchFault, h, out]

/-- Inside it, an uncorrectable error does (R34). -/
theorem exec_fetchFault_of_in {s t : State} {c : Nat} {ecc : StoreEcc} {ok : Bool} (h : s.fetching c = true)
    (inside : s.fetchIn c = true) (read : s.storeEcc c ecc = (t, ok)) :
    exec (.fetchFault c ecc) s = .next (if ok then t else t.faultStop c .storeUe) := by
  cases ok <;> simp [exec_fetchFault, execFetchFault, h, inside, read]

/-! ### Blocks and spills at the tensor unit -/

theorem exec_tensorBlockStart (s : State) (c : Nat) (ecc : StoreEcc) : exec (.tensorBlockStart c ecc) s = execTensorBlockStart c ecc s :=
  rfl

theorem exec_tensorBlockEnd (s : State) (c units : Nat) : exec (.tensorBlockEnd c units) s = execTensorBlockEnd c units s := rfl

theorem exec_spillDone (s : State) (c n : Nat) : exec (.spillDone c n) s = execSpillDone c n s := rfl

section
variable {s : State} {c : Nat} {b : TBlk} {l : List TBlk} (queue : (s.cl c).tbq = b :: l)
include queue

/-- A block that may start does so when the reserve covers it and its operands are read, else its cluster shows what it waits for
(R48, R84, R163). -/
theorem exec_tensorBlockStart_of_covered {ecc : StoreEcc} {t : State} (ready : (s.cl c).blockReady = true) (powered : s.gated c = false)
    (cool : s.power.hotN = false) (hc : c < 832) (covered : s.reserveCovers c b.desc = true) (read : s.storeEcc c ecc = (t, true)) :
    exec (.tensorBlockStart c ecc) s =
      .next ((t.modCl c fun k => { k with tbq := { b with started := true } :: l }).showTbCause c) := by
  simp [exec_tensorBlockStart, execTensorBlockStart, queue, ready, powered, cool, hc, covered, read]

theorem exec_tensorBlockStart_of_uncovered (ecc : StoreEcc) (ready : (s.cl c).blockReady = true) (powered : s.gated c = false)
    (cool : s.power.hotN = false) (hc : c < 832) (uncovered : s.reserveCovers c b.desc = false) :
    exec (.tensorBlockStart c ecc) s = .next (s.showTbCause c) := by
  simp [exec_tensorBlockStart, execTensorBlockStart, queue, ready, powered, cool, hc, uncovered]

/-- A running block ends with its result in its bank, and its spill begins where it has one (R44, R46; log entry 162). -/
theorem exec_tensorBlockEnd_of_started (units : Nat) (started : b.started = true) :
    exec (.tensorBlockEnd c units) s = .next (
      let t := (s.loadHeldSeed c).modCl c fun k =>
        let k := { (k.setBank b.desc.acc (s.blockBank c b.desc)) with tbq := l }
        if b.desc.spill then k.beginSpill b.desc else k
      (((t.charge c units).countBlock c).unitWake c).showTbCause c) := by
  simp only [exec_tensorBlockEnd, execTensorBlockEnd, queue, started, Bool.not_true, Bool.false_eq_true, if_false]

end

/-- A spill that is ready is written and leaves the spills in progress (R35, R51, R63). -/
theorem exec_spillDone_of_ready {s : State} {c n : Nat} {x : Spill} (at_n : ((s.loadHeldSeed c).cl c).spills[n]? = some x)
    (ready : x.ready = true) :
    exec (.spillDone c n) s = .next (((((s.loadHeldSeed c).writeSpill c x).modCl c fun k =>
      { k with spills := k.spills.eraseIdx n }).unitWake c).showTbCause c) := by
  simp [exec_spillDone, execSpillDone, at_n, ready]

/-! ### The statements -/

/-- Settles O30: each clause is what its command does once the cluster issues, or fetches. The operation that a command carries beside the
opcode, and a store outside the cluster store that writes nothing, are the model's choice (log entry 10). -/
theorem scalarInstructionsComplete : Obligations.ScalarInstructionsComplete := by
  refine ⟨?scalarOp, ?branchTaken, ?branchNotTaken, ?sts, ?lds, ?stsOutside, ?illegal, ?fetchOutside, ?fetchError, ?fetchCorrected⟩
  case scalarOp => exact fun s c fn useImm w h hw op => exec_scalarOp_of_issues h hw fn useImm op
  case branchTaken =>
    intro s c cond w h hw op taken
    rw [exec_branch_of_issues h hw cond op, if_pos taken]
  case branchNotTaken =>
    intro s c cond w h hw op taken
    rw [exec_branch_of_issues h hw cond op, if_neg (Bool.not_eq_true _ ▸ taken)]
  case sts =>
    rintro s c _ ecc w h hw op rfl inside
    rw [exec_sts_of_issues h hw ecc op, if_neg (Nat.not_lt.2 inside)]
  case lds =>
    rintro s c _ _ w h hw op rfl rfl inside
    exact exec_lds_of_issues h hw op inside
  case stsOutside =>
    rintro s c _ ecc w h hw op rfl outside
    rw [exec_sts_of_issues h hw ecc op, if_pos outside]
  case illegal => exact fun s c reservedEnc w h hw bad => exec_illegalInstruction_of_issues h hw reservedEnc bad
  case fetchOutside => exact fun s c ecc h out => exec_fetchFault_of_out ecc h out
  case fetchError => exact fun s c ecc t h inside read => exec_fetchFault_of_in h inside read
  case fetchCorrected => exact fun s c ecc t h inside read => exec_fetchFault_of_in h inside read

/-- Settles O31: each clause is what its command does once the cluster issues, the block at the head of the queue may start or runs, or the
spill is ready. That a block with K = 0 is counted, and that the operands' bytes are those at the block's end, is the model's choice (log
entries 161 and 162). -/
theorem tensorAndVectorInstructionsComplete : Obligations.TensorAndVectorInstructionsComplete := by
  refine ⟨?queued, ?nothingToDo, ?badPlace, ?starts, ?waits, ?endsWithSpill, ?ends, ?spillDone, ?steeps, ?movesOn, ?vopRead, ?vopNoRead⟩
  case queued =>
    intro s c ecc w t b h hw op place read valid k
    rw [exec_tb_of_valid h hw op place read valid, if_neg k]
  case nothingToDo =>
    intro s c ecc w t b h hw op place read valid k
    rw [exec_tb_of_valid h hw op place read valid, if_pos k]
  case badPlace => exact fun s c ecc w h hw op place => exec_tb_of_badPlace h hw ecc op place
  case starts =>
    exact fun s c ecc b l t queue ready powered cool hc covered read =>
      exec_tensorBlockStart_of_covered queue ready powered cool hc covered read
  case waits =>
    exact fun s c ecc b l queue ready powered cool hc uncovered =>
      exec_tensorBlockStart_of_uncovered queue ecc ready powered cool hc uncovered
  case endsWithSpill =>
    intro s c units b l queue started spill
    rw [exec_tensorBlockEnd_of_started queue units started]
    simp only [spill, if_true]
  case ends =>
    intro s c units b l queue started spill
    rw [exec_tensorBlockEnd_of_started queue units started]
    simp only [spill, Bool.false_eq_true, if_false]
  case spillDone =>
    rintro s c n x _ rfl at_n ready
    exact exec_spillDone_of_ready at_n ready
  case steeps =>
    intro s c w h hw op busy
    rw [exec_tbwait_of_issues h hw op, if_pos busy]
  case movesOn =>
    intro s c w h hw op idle
    rw [exec_tbwait_of_issues h hw op, if_neg (Bool.not_eq_true _ ▸ idle)]
  case vopRead =>
    exact fun s c op ecc w t h hw code ready inside read reads => exec_vop_of_read h hw code ready inside reads read
  case vopNoRead => exact fun s c op ecc w h hw code ready inside reads => exec_vop_of_noRead h hw ecc code ready inside reads

end Sys2Proof.Machine
end

section
/-!
PROOFS. DONE, and what it records of a token's end (R74, R75, R78).
-/

namespace Sys2Proof.Machine

/-! ### The recorded status -/

/-- The four forms of status that R75 lists are recorded as given. -/
theorem doneStatus_of_listed {v : Nat} (h : v = 0x00 ∨ v = 0x04 ∨ v = 0x05 ∨ 0x80 ≤ v) : doneStatus v = v := if_pos h

/-- Any other status is recorded as BAD_STATUS (R75). -/
theorem doneStatus_of_other {v : Nat} (h : ¬(v = 0x00 ∨ v = 0x04 ∨ v = 0x05 ∨ 0x80 ≤ v)) : doneStatus v = 0x0A := if_neg h

/-! ### The cluster after it -/

@[simp] theorem State.cl_complete (s : State) (c : Nat) (t : Token) (status : Nat) (abort : Bool) (d : Nat) :
    (s.complete c t status abort).cl d = s.cl d := rfl

theorem State.cl_nextPc (s : State) (c d : Nat) :
    (s.nextPc c).cl d = if d = c then { s.cl c with pc := ((s.cl c).pc + 8) % 2 ^ 64 } else s.cl d := State.cl_modCl ..

/-- The address after an instruction that issues does not wrap, as its cluster fetches inside its store (R57). -/
theorem State.nextAddr_of_issues {s : State} {c : Nat} (h : s.issues c = true) : ((s.cl c).pc + 8) % 2 ^ 64 = (s.cl c).pc + 8 := by
  have inside : (s.cl c).pc + 8 ≤ storeSize := of_decide_eq_true (Bool.and_eq_true_iff.1 h).2
  exact Nat.mod_eq_of_lt (Nat.lt_of_le_of_lt inside (by decide))

/-! ### The instruction -/

section
variable {s : State} {c w : Nat} (h : s.issues c = true) (hw : s.fetchWord c = w) (op : opc w = 0xA1)
include h hw op

/-- With a token its completion is posted, and the tokens after it move up (R74, R75, R78). -/
theorem exec_done_of_token {k : Token} {l : List Token} (held : (s.cl c).tokens = k :: l) :
    exec (.done c) s = .next (((s.complete c k (doneStatus (s.sreg c (srcA w) % 2 ^ 8)) false).modCl c fun x =>
      { x with tokens := l }).nextPc c) := by
  rw [exec_of_issues rfl h hw]
  simp only [op, held, ne_eq, not_true_eq_false, if_false]

theorem exec_done_of_noToken (none : (s.cl c).tokens = []) : exec (.done c) s = .next (s.nextPc c) := by
  rw [exec_of_issues rfl h hw]
  simp only [op, none, ne_eq, not_true_eq_false, if_false]

end

/-! ### The statement -/

/-- Settles O17: DONE posts the completion with the status that R75 gives it and drops the token; the address of the next instruction does
not wrap, as the cluster fetches inside its store. -/
theorem doneRecordsItsStatus : Obligations.DoneRecordsItsStatus := by
  refine ⟨?recorded, fun s c h op none => exec_done_of_noToken h rfl op none⟩
  case recorded =>
    intro s c w k l h hw op held
    refine ⟨_, _, exec_done_of_token h hw op held, rfl, rfl, rfl, rfl, ?tokens, ?pc, doneStatus_of_listed, ?other⟩
    case tokens => simp [State.cl_nextPc]
    case pc =>
      rw [State.cl_nextPc, if_pos rfl, State.cl_modCl, if_pos rfl]
      exact State.nextAddr_of_issues h
    case other =>
      intro v0 v4 v5 low
      exact doneStatus_of_other (by simp only [v0, v4, v5, Nat.not_le.2 low, or_self, not_false_eq_true])

end Sys2Proof.Machine
end

section
/-!
PROOFS. The DMA instructions, DMAWAIT and FENCE, and the commands of the DMA engine (R82 to R91, R203).
-/

namespace Sys2Proof.Machine

/-! ### Posting a descriptor -/

section
variable {s : State} {c w : Nat} {isOp : Nat → Bool} (h : s.issues c = true) (hw : s.fetchWord c = w) (op : opc w = 0x80)
  (addr : dmaAddrOk (s.effAddr c w) = true) (kind : isOp (readDma (s.storeBytes c (s.effAddr c w) 64)).op = true)
include h hw op addr kind

/-- Where the engine holds fewer than 16 descriptors, one that reads clean is accepted (R85, R87). -/
theorem State.dmaInstr_of_room {ecc : StoreEcc} (room : (s.cl c).dmas.length < 16) (clean : ecc = .clean) :
    s.dmaInstr c ecc isOp = (s.nextPc c).acceptDma c (s.effAddr c w) .clean := by
  subst clean
  rw [State.dmaInstr, State.issue_of_issues h, hw]
  simp [op, addr, kind, Nat.not_le.2 room]

/-- While it holds 16, the cluster steeps with cause 6 (R84, R87). -/
theorem State.dmaInstr_of_full (ecc : StoreEcc) (full : 16 ≤ (s.cl c).dmas.length) :
    s.dmaInstr c ecc isOp = (s.nextPc c).steep c 6 (.dmaFull (s.effAddr c w)) := by
  rw [State.dmaInstr, State.issue_of_issues h, hw]
  simp [op, addr, kind, full]

end

/-- A descriptor posted while 16 were held is accepted once there is room (R84). -/
theorem exec_dmaDeferredAccept_of_room {s : State} {c a : Nat} (ecc : StoreEcc) (waits : (s.cl c).wait = some (.dmaFull a))
    (room : (s.cl c).dmas.length < 16) : exec (.dmaDeferredAccept c ecc) s = .next ((s.wake c).acceptDma c a ecc) := by
  show execDmaDeferredAccept c ecc s = _
  simp only [execDmaDeferredAccept, waits, room, if_true]

/-! ### DMAWAIT and FENCE -/

theorem exec_dmawait_of_issues {s : State} {c w : Nat} (h : s.issues c = true) (hw : s.fetchWord c = w) (op : opc w = 0x81) :
    exec (.dmawait c) s = .next (if ((s.nextPc c).cl c).dmaRetired ≥ s.sreg c (srcB w) then s.nextPc c
      else ((s.nextPc c).steep c 6 (.dma (s.sreg c (srcB w)))).showDmaCause c) := by
  rw [exec_of_issues rfl h hw]
  exact congrArg _ (if_neg (not_not.2 op))

theorem exec_fence_of_issues {s : State} {c w : Nat} (h : s.issues c = true) (hw : s.fetchWord c = w) (op : opc w = 0xF0) :
    exec (.fence c) s = .next (if ((s.nextPc c).cl c).tensorBusy || !((s.nextPc c).cl c).dmas.isEmpty then
      ((s.nextPc c).steep c 6 .fence).showDmaCause c else s.nextPc c) := by
  rw [exec_of_issues rfl h hw]
  exact congrArg _ (if_neg (not_not.2 op))

/-! ### Credits -/

/-- A link credit held unused goes back to its port (R82, R203). -/
theorem exec_creditIdleReturn_of_link {s : State} {c key : Nat} (held : (s.cl c).linkHeld.getD key 0 ≠ 0) :
    exec (.creditIdleReturn c true key) s = .next ((s.modCl c fun k =>
      { k with linkHeld := k.linkHeld.put key ((s.cl c).linkHeld.getD key 0 - 1) 0 }).returnLinks key 1) :=
  congrArg Host.Outcome.next (if_neg held)

/-- A channel credit held unused goes back, and the packets that wait for one are served (R82, R83). -/
theorem exec_creditIdleReturn_of_channel {s : State} {c key : Nat} (held : (s.cl c).chanHeld.getD key 0 ≠ 0) :
    exec (.creditIdleReturn c false key) s = .next (((s.modCl c fun k =>
      { k with chanHeld := k.chanHeld.put key ((s.cl c).chanHeld.getD key 0 - 1) 0 }).returnChan key).serveRx) :=
  congrArg Host.Outcome.next (if_neg held)

/-! ### Limits -/

/-- A burst in flight is retried once when its time is over; then its descriptor ends with MEM_ERROR (R91). -/
theorem exec_memBurstTimeout_of_inFlight {s : State} {c j i : Nat} {d : Dma} {p : Piece} (at_j : (s.cl c).dmas[j]? = some d)
    (at_i : d.pieces[i]? = some p) (inFlight : p.channels ≠ []) :
    exec (.memBurstTimeout c j i) s = .next (if p.retried then ((s.endPiece c j i p).failDma c j 5).serveRx
      else s.setPiece c j i { p with retried := true }) := by
  show execMemBurstTimeout c j i s = _
  simp only [execMemBurstTimeout, at_j, at_i, List.isEmpty_eq_false_iff.2 inFlight, Bool.false_eq_true, if_false]
  cases p.retried <;> rfl

/-- A descriptor that waits for a link credit beyond its limit leaves the queues and ends with LINK_FAIL (R91). -/
theorem exec_linkCreditTimeout_of_waits {s : State} {c j : Nat} {d : Dma} (at_j : (s.cl c).dmas[j]? = some d) (waits : d.waits = 3) :
    exec (.linkCreditTimeout c j) s = .next (
      let t : State := { s with ixf := { s.ixf with linkQ := s.ixf.linkQ.mapVals [] fun q => q.filter fun x => x ≠ c } }
      (t.dmaWaits c j 0).failDma c j 4) := by
  show execLinkCreditTimeout c j s = _
  simp only [execLinkCreditTimeout, at_j, waits, if_true]

/-- A request that has no answer within its limit fails (R91). -/
theorem exec_remoteAckTimeout_of_found {s : State} {tag : Nat} {r : RemReq} (found : s.findReq tag = some r) :
    exec (.remoteAckTimeout tag) s = .next (s.reqFail r) := by
  show execRemoteAckTimeout tag s = _
  simp only [execRemoteAckTimeout, found]

/-! ### The statements -/

/-- Settles O32: the four commands that post a descriptor differ in the OP they stand for alone; the waits ask for what is outstanding once
the program counter has moved on. -/
theorem dmaInstructionsComplete : Obligations.DmaInstructionsComplete := by
  refine ⟨?copy, ?fill, ?addF32, ?post, ?full, ?deferred, ?retired, ?outstanding, ?idle, ?busy⟩
  case copy =>
    exact fun s c ecc w h hw op addr kind room clean =>
      congrArg Host.Outcome.next (State.dmaInstr_of_room h hw op addr (by rw [kind]; rfl) room clean)
  case fill =>
    exact fun s c ecc w h hw op addr kind room clean =>
      congrArg Host.Outcome.next (State.dmaInstr_of_room h hw op addr (by rw [kind]; rfl) room clean)
  case addF32 =>
    exact fun s c ecc w h hw op addr kind room clean =>
      congrArg Host.Outcome.next (State.dmaInstr_of_room h hw op addr (by rw [kind]; rfl) room clean)
  case post =>
    exact fun s c ecc w h hw op addr kind room clean =>
      congrArg Host.Outcome.next (State.dmaInstr_of_room h hw op addr (by rw [kind]; rfl) room clean)
  case full =>
    exact fun s c ecc w h hw op addr kind full =>
      congrArg Host.Outcome.next (State.dmaInstr_of_full h hw op addr (by rw [kind]; rfl) ecc full)
  case deferred => exact fun s c ecc a waits room => exec_dmaDeferredAccept_of_room ecc waits room
  case retired =>
    intro s c w h hw op retired
    rw [exec_dmawait_of_issues h hw op, if_pos retired]
  case outstanding =>
    intro s c w h hw op outstanding
    rw [exec_dmawait_of_issues h hw op, if_neg (Nat.not_le.2 outstanding)]
  case idle =>
    intro s c w h hw op tensor dmas
    rw [exec_fence_of_issues h hw op, if_neg (by simp [tensor, dmas])]
  case busy =>
    intro s c w h hw op busy
    rw [exec_fence_of_issues h hw op, if_pos (by simpa using busy)]

/-- Settles O33: issue, completion and retirement are the engine's own operations; each limit or credit asks for the piece, descriptor,
request or credit that it is about (R82, R91, R203). -/
theorem dmaEngineCompletes : Obligations.DmaEngineCompletes := by
  refine ⟨fun _ _ _ _ _ => rfl, fun _ _ _ _ _ => rfl, fun _ _ => rfl, ?link, ?channel, ?retried, ?failed, ?linkLimit, ?ackLimit⟩
  case link =>
    rintro s c _ key rfl held
    exact exec_creditIdleReturn_of_link held
  case channel =>
    rintro s c _ key rfl held
    exact exec_creditIdleReturn_of_channel held
  case retried =>
    intro s c j i d p at_j at_i inFlight first
    rw [exec_memBurstTimeout_of_inFlight at_j at_i inFlight, if_neg (Bool.not_eq_true _ ▸ first)]
  case failed =>
    intro s c j i d p at_j at_i inFlight again
    rw [exec_memBurstTimeout_of_inFlight at_j at_i inFlight, if_pos again]
  case linkLimit => exact fun s c j d at_j waits => exec_linkCreditTimeout_of_waits at_j waits
  case ackLimit => exact fun s tag r found => exec_remoteAckTimeout_of_found found

end Sys2Proof.Machine
end

section
/-!
PROOFS. Claims, their service, and step markers (R58, R66, R71 to R74, R428).
-/

namespace Sys2Proof.Machine

/-! ### CLAIM -/

section
variable {s : State} {c w r : Nat} (mecc : List MemEcc) (h : s.issues c = true) (hw : s.fetchWord c = w) (op : opc w = 0xA0)
  (clean : s.reservedOk c w = true) (ring : s.sreg c (srcA w) % 2 ^ 9 = r) (allowed : s.claimDenied c r = false)
include h hw op clean ring allowed

/-- With both token places taken a claim returns EMPTY with LIMIT (R72, R74). -/
theorem exec_claim_of_limit (taken : 2 ≤ (s.cl c).tokens.length) :
    exec (.claim c mecc) s =
      .next ((s.nextPc c).claimEmpty c r (dstReg w) (bits w 21 6 * 64) true false) := by
  rw [exec_of_issues rfl h hw, ring]
  simp [op, clean, allowed, taken]

variable (room : (s.cl c).tokens.length < 2)
include room

/-- A claim that overtakes no other receives the descriptor that the ring hands out (R66, R71). -/
theorem exec_claim_of_handed {mecc : List MemEcc} {t : State} {d : Handed}
    (first : (s.nextPc c).claimWaits r = false)
    (handed : (s.nextPc c).nextDescriptor r mecc = (t, some d)) :
    exec (.claim c mecc) s = .next (t.deliver c r (dstReg w) (bits w 21 6 * 64) d) := by
  rw [exec_of_issues rfl h hw, ring]
  simp [op, clean, allowed, Nat.not_le.2 room, first, handed]

/-- Behind claims that wait, one that does not block returns EMPTY, and any other joins their end (R73; log entry 19). -/
theorem exec_claim_of_behind (behind : (s.nextPc c).claimWaits r = true) :
    exec (.claim c mecc) s = .next (
      if (immBits w).testBit 40 then (s.nextPc c).claimEmpty c r (dstReg w) (bits w 21 6 * 64) false false
      else ((s.nextPc c).steep c 1 (.token r (dstReg w) (bits w 21 6 * 64))).modRing r fun x =>
        { x with waiters := x.waiters ++ [⟨c, dstReg w, bits w 21 6 * 64⟩] }) := by
  rw [exec_of_issues rfl h hw, ring]
  simp [op, clean, allowed, Nat.not_le.2 room, behind]

end

/-- The claim that has waited longest, of a cluster that runs no slice, receives the descriptor that the ring hands out (R66, R428). -/
theorem exec_claimServed_of_handed {s t : State} {ring : Nat} {mecc : List MemEcc} {x : Claimer} {d : Handed}
    (oldest : ((s.ring (ring % 512)).waiters.find? fun x => !(s.cl x.cluster).inSlice) = some x)
    (allowed : s.claimDenied x.cluster (ring % 512) = false) (handed : s.nextDescriptor (ring % 512) mecc = (t, some d)) :
    exec (.claimServed ring mecc) s = .next ((t.modRing (ring % 512) fun k =>
      { k with waiters := k.waiters.filter fun y => y.cluster ≠ x.cluster }).deliver x.cluster (ring % 512) x.dst x.landing d) := by
  show execClaimServed ring mecc s = _
  simp only [execClaimServed, oldest, allowed, handed, Bool.false_eq_true, if_false]

/-! ### STEP -/

section
variable {s : State} {c w : Nat} (spaced : Bool) (h : s.issues c = true) (hw : s.fetchWord c = w) (op : opc w = 0xB0)
include h hw op

/-- A marker is forwarded to Copper, or dropped where the last one is too near (R58). -/
theorem exec_step_of_marker (marker : bits w 1 0 = 1 ∨ bits w 1 0 = 2) :
    exec (.step c spaced) s = .next (
      if spaced then
        let t := s.addWrap (.clu .stepCountForwarded) c 1
        { t.nextPc c with cop := { t.cop with markers := t.cop.markers ++ [⟨c / 208, bits w 15 8, bits w 1 0 == 2⟩] } }
      else (s.addSat (.clu .stepCountDropped) c 1).nextPc c) := by
  rw [exec_of_issues rfl h hw]
  simp only [op, marker, ne_eq, not_true_eq_false, if_false, if_true]

/-- Any other type is no marker (R58). -/
theorem exec_step_of_noMarker (other : ¬(bits w 1 0 = 1 ∨ bits w 1 0 = 2)) : exec (.step c spaced) s = .next (s.nextPc c) := by
  rw [exec_of_issues rfl h hw]
  simp only [op, other, ne_eq, not_true_eq_false, if_false]

end

/-! ### The statement -/

/-- Settles O34: each clause is what its command does once the cluster issues it. That a claim does not overtake those that wait on its ring
and can be served is the model's choice (log entry 19). -/
theorem workClaimsComplete : Obligations.WorkClaimsComplete := by
  refine ⟨?handed, ?empty, ?steeps, ?limit, ?served, ?done, ?noToken, ?forwarded, ?dropped, ?reserved⟩
  case handed =>
    intro s c mecc w r t d h hw op clean ring room allowed first handed
    exact exec_claim_of_handed h hw op clean ring allowed room first handed
  case empty =>
    intro s c mecc w r h hw op clean ring room allowed behind nonBlocking
    rw [exec_claim_of_behind mecc h hw op clean ring allowed room behind]
    simp only [nonBlocking, if_true]
  case steeps =>
    intro s c mecc w r h hw op clean ring room allowed behind blocking
    rw [exec_claim_of_behind mecc h hw op clean ring allowed room behind]
    simp only [blocking, Bool.false_eq_true, if_false]
  case limit => exact fun s c mecc w h hw op clean taken allowed => exec_claim_of_limit mecc h hw op clean rfl allowed taken
  case served => exact fun s ring mecc x d t oldest allowed handed => exec_claimServed_of_handed oldest allowed handed
  case done => exact fun s c w k l h hw op held => exec_done_of_token h hw op held
  case noToken => exact fun s c w h hw op none => exec_done_of_noToken h hw op none
  case forwarded =>
    rintro s c _ w h hw op marker rfl
    rw [exec_step_of_marker true h hw op marker, if_pos rfl]
  case dropped =>
    rintro s c _ w h hw op marker rfl
    rw [exec_step_of_marker false h hw op marker, if_neg Bool.false_ne_true]
  case reserved => exact fun s c spaced w h hw op other => exec_step_of_noMarker spaced h hw op (not_or.2 other)

end Sys2Proof.Machine
end

section
/-!
PROOFS. The registers of a cluster and of a work ring (R54, R62, R63, R73, R79, R80, R95, R98 to R100, R151, R166).
-/

namespace Sys2Proof.Machine

/-! ### HALT and lending -/

/-- HALT stops the fetching; cleared, it lets a program that has not faulted fetch at once (R62; log entry 18). -/
theorem exec_cluHaltWrite_of_writes {s : State} {c : Nat} (value : Word) (h : s.cluWrites c = true) :
    exec (.cluHaltWrite c value) s = .next (s.haltWrite c value.toNat) := congrArg Host.Outcome.next (if_pos h)

/-- A cluster that has steeped for its time on a token, a credit, a gate or a DMA completion lends its reserve (R151, R166). -/
theorem exec_steepLendTimer_of_steeps {s : State} {c : Nat} (steeps : s.flag (.clu .statusSteeping) c = true)
    (cause : s.getF (.clu .statusSteepCause) c ∈ [1, 2, 3, 5, 6]) :
    exec (.steepLendTimer c) s = .next ((s.returnReserve c).modCl c fun k => { k with lent := true }) :=
  congrArg Host.Outcome.next (if_pos (by rw [steeps, List.contains_iff_mem.2 cause]; rfl))

/-! ### Cancelled descriptors -/

/-- The first cancelled descriptor with a free slot has its ABORTED_HOST record (R95). -/
theorem exec_cancelRecord_of_free {s : State} {ring n : Nat}
    (free : (s.ring (ring % 512)).cancels.find? (s.slotFree (ring % 512)) = some n) :
    exec (.cancelRecord ring) s = .next (
      ((s.modRing (ring % 512) fun k => { k with cancels := k.cancels.filter (· ≠ n) }).writeUnheld (ring % 512) n 7).cancelCheck
        (ring % 512)) := by
  show execCancelRecord ring s = _
  simp only [execCancelRecord, free]

/-! ### The statement -/

/-- Settles O35: a register of a cluster takes a write while its window does, one of a ring while IOD is on; the held seed is loaded once no
SR spill is in progress. That clearing HALT sets RUNNING at once, and that the spills that wait draw from the loaded seed, is the model's
choice (log entries 18 and 160). -/
theorem clusterAndRingRegistersComplete : Obligations.ClusterAndRingRegistersComplete := by
  refine ⟨fun s c value h => exec_cluSrSeedWrite value h, ?loaded, ?stillHeld, ?halted, ?released, ?lends, ?prod, ?cons, ?enable,
    ?cancel, ?cancelRecord, ?claimStop, ?commit⟩
  case loaded =>
    intro s c n held idle
    rw [exec_heldSeedLoad, State.loadHeldSeed_of_held idle held]
  case stillHeld =>
    intro s c n held drawing
    rw [exec_heldSeedLoad, State.loadHeldSeed_of_drawing drawing]
  case halted =>
    intro s c value h halt
    rw [exec_cluHaltWrite_of_writes value h, State.haltWrite, if_pos halt]
  case released =>
    intro s c value h clear sound
    simp [exec_cluHaltWrite_of_writes value h, State.haltWrite, clear, sound]
  case lends => exact fun s c steeps cause => exec_steepLendTimer_of_steeps steeps cause
  case prod => exact fun s ring value mecc on => congrArg Host.Outcome.next (if_pos on)
  case cons => exact fun s ring value on => congrArg Host.Outcome.next (if_pos on)
  case enable => exact fun s ring value on => congrArg Host.Outcome.next (if_pos on)
  case cancel => exact fun s ring on => congrArg Host.Outcome.next (if_pos on)
  case cancelRecord => exact fun s ring n free => exec_cancelRecord_of_free free
  case claimStop => exact fun s value on => congrArg Host.Outcome.next (if_pos on)
  case commit => exact fun s ring on => congrArg Host.Outcome.next (if_pos on)

end Sys2Proof.Machine
end

section
/-!
PROOFS. Posted numbers, completion records, and the limits of descriptors, rings and drains (R22, R78, R81, R90 to R95, R251, R252, R467).
-/

namespace Sys2Proof.Machine

/-! ### Posted numbers and records -/

/-- The earliest reserved number, once committed, is published; one whose slot write failed is settled as well (R81, R90). -/
theorem exec_postNumberClaimable_of_committed {s : State} {ring : Nat} {p : PostNum} {l : List PostNum}
    (front : (s.ring (ring % 512)).posts = p :: l) (committed : p.committed = true) :
    exec (.postNumberClaimable ring) s = .next (
      let t := (s.modRing (ring % 512) fun k => { k with posts := l }).setF (.wiq .ringProdProd) (ring % 512) ((p.seq + 1) % 2 ^ 32)
      if p.failed then (t.modRing (ring % 512) fun k => { k with failed := k.failed ++ [p.seq] }).settleFailed (ring % 512) else t) := by
  show execPostNumberClaimable ring s = _
  simp only [execPostNumberClaimable, front, committed, Bool.not_true, Bool.false_eq_true, if_false]

/-- A completion of no abort that is ready has its record and leaves the queue (R78). -/
theorem exec_completionRecord_of_ready {s : State} {n : Nat} {e : Completion} (at_n : s.wiq.completions[n]? = some e)
    (ready : s.recordReady e = true) (kept : e.status ≠ 0x0E) (noAbort : e.abort = false) :
    exec (.completionRecord n) s = .next (
      ({ s with wiq := { s.wiq with completions := s.wiq.completions.eraseIdx n } } : State).writeRecord e.ring e.seq e.status e.cluster
        e.tag e.irq e.gate) := by
  show execCompletionRecord n s = _
  simp only [execCompletionRecord, at_n, ready, kept, noAbort, Bool.not_true, Bool.false_eq_true, if_false]
  cases e.phys <;> rfl

/-! ### Limits of descriptors and rings -/

/-- A token that has run out of time is counted, for the module and for its ring, and aborted (R91, R92). -/
theorem exec_descriptorTimeout_of_current {s : State} {c : Nat} {t : Token} {l : List Token} (current : (s.cl c).tokens = t :: l)
    (running : (s.cl c).abort = none) :
    exec (.descriptorTimeout c) s = .next (
      ((s.addSat (.wiq .timeoutCountCount) 0 1).addSat (.wiq .ringTimeoutsCount) t.ring 1).abortCluster c 3) := by
  show execDescriptorTimeout c s = _
  simp only [execDescriptorTimeout, current, running]

/-- A ring whose oldest claimable descriptor stays unclaimed shows STALLED; without STALL_FLUSH nothing more happens (R94). -/
theorem exec_ringStall_of_noFlush {s : State} {ring : Nat} (enabled : s.flag (.wiq .ringCtrlEnable) (ring % 512) = true)
    (live : s.flag (.wiq .ringCtrlCancel) (ring % 512) = false) (posted : s.posted (ring % 512) (s.nextClaim (ring % 512)) = true)
    (free : s.slotFree (ring % 512) (s.nextClaim (ring % 512)) = true)
    (noFlush : ((s.setF (.wiq .ringStatusStalled) (ring % 512) 1).ringEvent (ring % 512)).liveFlag (.wiq .ringCfgStallFlush)
      (ring % 512) = false) :
    exec (.ringStall ring) s = .next ((s.setF (.wiq .ringStatusStalled) (ring % 512) 1).ringEvent (ring % 512)) := by
  show execRingStall ring s = _
  simp only [execRingStall, enabled, live, posted, free, noFlush, Bool.not_false, Bool.and_self, Bool.false_eq_true, if_true, if_false]

/-! ### The end of a drain or park -/

/-- A drain ends once no token is held: DRAINED is posted, and a removal that waits for it goes on (R95, R467). -/
theorem exec_drainComplete_of_drained {s : State} (draining : s.power.draining = true) (drained : s.heldTokens = 0) :
    exec .drainComplete s = .next (
      let t := ({ s with power := { s.power with draining := false } } : State).postMod 0x01 0
      (if t.getF (.mod .removePhase) = 1 then t.setF (.mod .removePhase) 0 2 else t).settle) := by
  show execDrainComplete s = _
  simp only [execDrainComplete, draining, drained, Bool.true_or, beq_self_eq_true, Bool.and_self, if_true]

theorem exec_parkComplete_of_drained {s : State} (parks : s.power.parkPlanned = true ∨ s.power.parkQuiesce = true)
    (ended : s.power.draining = false) (drained : s.heldTokens = 0) (on : s.isOn .iod = true) :
    exec .parkComplete s = .next s.enterPark := by
  show execParkComplete s = _
  simp only [execParkComplete, Bool.or_eq_true_iff.2 parks, ended, drained, on, Bool.not_false, beq_self_eq_true, Bool.and_self, if_true]

/-! ### The statement -/

/-- Settles O36: each clause is what its command does in the state it asks for; the end of a drain does so at any phase of a removal. -/
theorem workCompletionsAndLimits : Obligations.WorkCompletionsAndLimits := by
  refine ⟨?posted, ?postFailed, ?timedOut, ?record, ?stall, ?drained, ?drainLimit, ?park⟩
  case posted =>
    intro s ring p l front committed sound
    rw [exec_postNumberClaimable_of_committed front committed]
    simp only [sound, Bool.false_eq_true, if_false]
  case postFailed =>
    intro s ring p l front committed failed
    rw [exec_postNumberClaimable_of_committed front committed]
    simp only [failed, if_true]
  case timedOut => exact fun s c t l current running => exec_descriptorTimeout_of_current current running
  case record => exact fun s n e at_n ready kept noAbort => exec_completionRecord_of_ready at_n ready kept noAbort
  case stall => exact fun s ring enabled live posted free noFlush => exec_ringStall_of_noFlush enabled live posted free noFlush
  case drained => exact fun s draining drained _ => exec_drainComplete_of_drained draining drained
  case drainLimit => exact fun s draining => congrArg Host.Outcome.next (if_pos draining)
  case park => exact fun s parks ended drained on => exec_parkComplete_of_drained parks ended drained on

end Sys2Proof.Machine
end

section
/-!
PROOFS. Module memory: what a byte of it reads as, which commands leave every byte alone, and what the commands of scrub, refresh,
sparing and the commits of memory and the Mills do (R7, R101 to R134).
-/

namespace Sys2Proof.Machine

/-! ### The decoder asks for the values in force alone -/

section
variable {s t : State} (live : t.live = s.live)
include live

theorem State.getLive_of_live (f : Fld) (i : Nat) : t.getLive f i = s.getLive f i := by
  simp only [State.getLive, live]

theorem State.liveFlag_of_live (f : Fld) (i : Nat) : t.liveFlag f i = s.liveFlag f i := by
  simp only [State.liveFlag, State.getLive_of_live live]

theorem State.activeStacks_of_live : t.activeStacks = s.activeStacks := by
  simp only [State.activeStacks, State.getLive_of_live live]

theorem State.memTop_of_live : t.memTop = s.memTop := by
  simp only [State.memTop, State.activeStacks_of_live live]

theorem State.dieStacks_of_live (n : Nat) : t.dieStacks n = s.dieStacks n := by
  simp only [State.dieStacks, State.activeStacks_of_live live]

theorem State.sliceOf_of_live (dies : List Nat) (pa : Nat) : t.sliceOf dies pa = s.sliceOf dies pa := by
  induction dies generalizing pa with
  | nil => rfl
  | cons n rest ih => simp only [State.sliceOf, State.dieStacks_of_live live, ih]

/-- Where an address lies follows from MODE, HASH and MASK in force (R105). -/
theorem State.memPlace_of_live (pa : Nat) : t.memPlace pa = s.memPlace pa := by
  simp only [State.memPlace, State.memTop_of_live live, State.activeStacks_of_live live, State.dieStacks_of_live live,
    State.sliceOf_of_live live, State.getLive_of_live live, State.liveFlag_of_live live]

/-- A byte reads as what was written, or as the free value of the loss count of the stack it lies in (log entry 8). -/
theorem State.memByte_of_cells_epochs_live (cells : t.mem.cells = s.mem.cells) (epochs : t.mem.epochs = s.mem.epochs) (pa : Nat) :
    t.memByte pa = s.memByte pa := by
  simp only [State.memByte, cells, epochs, State.memPlace_of_live live]

end

/-! ### Scrub, refresh and self-refresh -/

/-- A scrub is a read of its pair, named by its address or by a free value; at the end of a pass it is counted (R113, log entry 163). -/
theorem exec_patrolScrub_of_serves {s t : State} {k lch q pa : Nat} (ecc : MemEcc) (passEnd : Bool) (serves : s.stackServes k = true)
    (data : lch < 128) (inside : q < channelPairs) (scrubs : s.getF (.mem .scrubCfgPeriodH) k ≠ 0)
    (addr : s.addrOf (s.pairPlace k lch q) = (pa, t)) :
    exec (.patrolScrub k lch q ecc passEnd) s = .next (
      let u := (t.readPlace (s.pairPlace k lch q) pa ecc).1.served 2
      if passEnd then u.addSat (.mem .scrubStatusPasses) k 1 else u) := by
  show execPatrolScrub k lch q ecc passEnd s = _
  simp only [execPatrolScrub, serves, data, inside, bne_iff_ne.2 scrubs, addr, decide_true, Bool.and_self, if_true]

/-- An idle channel of a parked stack with no copy running goes to self-refresh (R115). -/
theorem exec_selfRefreshEntry_of_idle {s : State} {k lch : Nat} (parked : s.power.parked = true) (powered : s.stackPowered k = true)
    (data : lch < 128) (refreshed : s.getF (.mem .statusState) k = 2 ∨ s.getF (.mem .statusState) k = 3)
    (noCopy : s.mem.copies.get? k = none) (idle : s.channelIdle (k * 128 + lch) = true) (awake : k * 128 + lch ∉ s.mem.selfRefresh) :
    exec (.selfRefreshEntry k lch) s = .next (
      ({ s with mem := { s.mem with selfRefresh := s.mem.selfRefresh ++ [k * 128 + lch] } } : State).srState k) :=
  congrArg Host.Outcome.next (if_pos (by simp [parked, powered, data, refreshed, noCopy, idle, awake]))

/-- A channel that fails its tracking asks for a spare as one that stopped answering does (R103, R116). -/
theorem exec_dqsTrack_of_failed {s : State} {k lch : Nat} (serves : s.stackServes k = true) (data : lch < 128) :
    exec (.dqsTrack k lch false) s = .next (s.spareTrigger k lch 3 false) :=
  congrArg Host.Outcome.next (if_pos (by simp [serves, data]))

/-! ### Sparing -/

theorem exec_sparingStart_of_noCopy {s : State} {k : Nat} (serves : s.stackServes k = true) (noCopy : s.mem.copies.get? k = none) :
    exec (.sparingStart k) s = .next (s.sparingStart k) :=
  congrArg Host.Outcome.next (if_pos (by simp [serves, noCopy]))

/-- A copy that read every pair poisons none, and the spare takes over (R117). -/
theorem exec_sparingCopyDone_of_allRead {s : State} {k : Nat} {c : SpareCopy} (copy : s.mem.copies.get? k = some c) :
    exec (.sparingCopyDone k []) s = .next (s.copyDone k c) := by
  show execSparingCopyDone k [] s = _
  simp only [execSparingCopyDone, copy, List.foldl_nil]

/-- HARD_FAIL of the physical channel that serves logical channel lch of stack k (R118). -/
def State.hardFail (s : State) (k lch : Nat) : State :=
  s.setF (.mem .chCeHardFail) (132 * k + s.getF (.mem .chMapPch) (128 * k + lch)) 1

section
variable {s : State} {k lch : Nat} (copied : Nat) (serves : s.stackServes k = true) (data : lch < 128)
include serves data

/-- The pairs that the channel's own copy has not reached are lost; the first of them is the environment's to name (R118, log entry 53). -/
theorem exec_channelUnresponsive_of_copied {c : SpareCopy} (copy : s.mem.copies.get? k = some c) (own : c.lch = lch) :
    exec (.channelUnresponsive k lch copied) s = .next ((s.hardFail k lch).poisonFrom k lch (max copied c.ptr)) := by
  show execChannelUnresponsive k lch copied s = _
  simp only [execChannelUnresponsive, State.hardFail, serves, data, copy, own, decide_true, Bool.and_self, if_true, State.setF_mem]

/-- With no copy of the channel a spare is asked for, and without one the stack fails (R119, log entry 53). -/
theorem exec_channelUnresponsive_of_notCopied (other : ∀ c, s.mem.copies.get? k = some c → c.lch ≠ lch) :
    exec (.channelUnresponsive k lch copied) s = .next (
      if ((s.hardFail k lch).freeSpares k).isEmpty then (s.hardFail k lch).stackFail k 2
      else (s.hardFail k lch).spareTrigger k lch 3 false) := by
  show execChannelUnresponsive k lch copied s = _
  simp only [execChannelUnresponsive, State.hardFail, serves, data, decide_true, Bool.and_self, if_true, State.setF_mem]
  cases copy : s.mem.copies.get? k with
  | none => rfl
  | some c => exact congrArg Host.Outcome.next (if_neg (other c copy))

theorem exec_channelUnresponsive_of_noSpare (other : ∀ c, s.mem.copies.get? k = some c → c.lch ≠ lch)
    (none_free : (s.hardFail k lch).freeSpares k = []) :
    exec (.channelUnresponsive k lch copied) s = .next ((s.hardFail k lch).stackFail k 2) := by
  rw [exec_channelUnresponsive_of_notCopied copied serves data other, if_pos (List.isEmpty_iff.2 none_free)]

theorem exec_channelUnresponsive_of_spare (other : ∀ c, s.mem.copies.get? k = some c → c.lch ≠ lch)
    (some_free : (s.hardFail k lch).freeSpares k ≠ []) :
    exec (.channelUnresponsive k lch copied) s = .next ((s.hardFail k lch).spareTrigger k lch 3 false) := by
  rw [exec_channelUnresponsive_of_notCopied copied serves data other, if_neg (mt List.isEmpty_iff.1 some_free)]

end

/-! ### The commits -/

/-- A Mill commit is made at once while no descriptor finishes under an older set (R129). -/
theorem exec_milCommit_of_free {s : State} (on : s.isOn .iod = true) (free : s.flag (.mil .commitStatusBusy) = false) :
    exec .milCommit s = .next s.commitMil := by
  show execMilCommit s = _
  simp only [execMilCommit, on, free, Bool.not_true, Bool.false_eq_true, if_false]

theorem exec_milOldSetRetired_of_unused {s : State} (unused : s.oldSetUsed = false) :
    exec .milOldSetRetired s = .next (s.setF (.mil .commitStatusBusy) 0 0) :=
  congrArg Host.Outcome.next (if_neg (ne_true_of_eq_false unused))

/-! ### The statements -/

/-- Settles O10: a command outside the list leaves the bytes and the loss counts of the stacks; while the values in force stay too, each
address lies where it lay. -/
theorem memoryIsLeftAlone : Obligations.MemoryIsLeftAlone := by
  intro c s t hc h
  have bytes : Same (· = .mem) s t := Same.eqX h (exec_same c (fun _ => hc) nofun nofun nofun nofun (Same.refl _ s))
  obtain ⟨cells, epochs⟩ := bytes.mem rfl
  refine ⟨cells, epochs, fun hl a => ?reads⟩
  have inForce : Same (· = .live) s t := Same.eqX h (exec_same c nofun nofun (fun _ => hl) nofun nofun (Same.refl _ s))
  exact State.memByte_of_cells_epochs_live (inForce.live rfl) cells epochs a

/-- Settles O37: each clause is what its command does on a stack that is in service, or powered. That a pair without an address is recorded
with a free value is the model's choice (log entry 163). -/
theorem memoryCommandsComplete : Obligations.MemoryCommandsComplete := by
  refine ⟨?scrub, ?passEnd, fun s => rfl, ?rise, ?fall, ?enter, ?leave, ?failed, ?tracked⟩
  case scrub =>
    rintro s k lch q ecc _ pa t serves data inside scrubs addr rfl
    exact exec_patrolScrub_of_serves ecc false serves data inside scrubs addr
  case passEnd =>
    rintro s k lch q ecc _ pa t serves data inside scrubs addr rfl
    exact exec_patrolScrub_of_serves ecc true serves data inside scrubs addr
  case rise => exact fun s k stack serves above => congrArg Host.Outcome.next (if_pos ⟨stack, serves, above⟩)
  case fall => exact fun s k stack serves below => congrArg Host.Outcome.next (if_pos ⟨stack, serves, below⟩)
  case enter =>
    exact fun s k lch parked powered data refreshed noCopy idle awake =>
      exec_selfRefreshEntry_of_idle parked powered data refreshed noCopy idle awake
  case leave => exact fun s k lch data => congrArg Host.Outcome.next (if_pos data)
  case failed =>
    rintro s k lch _ rfl serves data
    exact exec_dqsTrack_of_failed serves data
  case tracked =>
    rintro s k lch _ rfl
    rfl

/-- Settles O38: each clause is what its command does; a channel that no copy concerns does the same with no copy on its stack as with one
of another channel. From which pair the rest is lost, and that a channel without a copy is spared or takes its stack down, is the model's
choice (log entry 53); so is NO_SPARE where no spare is left for a softer trigger (log entry 20). -/
theorem sparingAndMemoryCommits : Obligations.SparingAndMemoryCommits := by
  refine ⟨?requested, ?started, ?copied, ?unreached, ?otherCopy, ?noSpare, ?spared, ?memory, ?mill, ?retired⟩
  case requested => exact fun s k lch stack on => congrArg Host.Outcome.next (if_pos ⟨stack, on⟩)
  case started => exact fun s k serves noCopy => exec_sparingStart_of_noCopy serves noCopy
  case copied =>
    rintro s k _ c copy rfl
    exact exec_sparingCopyDone_of_allRead copy
  case unreached => exact fun s k lch copied c serves data copy own => exec_channelUnresponsive_of_copied copied serves data copy own
  case otherCopy =>
    rintro s k lch copied c _ serves data copy other rfl none_free
    refine exec_channelUnresponsive_of_noSpare copied serves data (fun d hd => ?_) none_free
    rwa [← Option.some.inj (copy.symm.trans hd)]
  case noSpare =>
    rintro s k lch copied _ serves data noCopy rfl none_free
    exact exec_channelUnresponsive_of_noSpare copied serves data (by simp [noCopy]) none_free
  case spared =>
    rintro s k lch copied _ serves data noCopy rfl some_free
    exact exec_channelUnresponsive_of_spare copied serves data (by simp [noCopy]) some_free
  case memory => exact fun s on => congrArg Host.Outcome.next (if_pos on)
  case mill => exact fun s on free => exec_milCommit_of_free on free
  case retired => exact fun s unused => exec_milOldSetRetired_of_unused unused

end Sys2Proof.Machine
end

section
/-!
PROOFS. The steep gates: GWAIT, GSIGNAL, GBAR and GTEST once a cluster issues them, and the commands of the gates and of remote signals
(R135 to R160, R197).
-/

namespace Sys2Proof.Machine

/-! ### GWAIT -/

section
variable {s : State} {c w g : Nat} (h : s.issues c = true) (hw : s.fetchWord c = w) (op : opc w = 0x90)
  (clean : s.reservedOk c w = true) (gate : s.sreg c (srcA w) = g)
include h hw op clean gate

/-- A gate that a wait may not name answers the status, and nothing is consumed (R136, R138). -/
theorem exec_gwait_of_refused (refused : (s.nextPc c).waitStatus c g false ≠ .ok) :
    exec (.gwait c) s = .next ((s.nextPc c).setSreg c (dstReg w) ((s.nextPc c).refuseWord g ((s.nextPc c).waitStatus c g false))) := by
  rw [exec_of_issues rfl h hw]
  -- The second arm of the match on the status is taken because of refused.
  simp [op, clean, gate]

variable (ok : (s.nextPc c).waitStatus c g false = .ok)
include ok

/-- With no wait ahead of it a wait for at most the count consumes it at once (R140). -/
theorem exec_gwait_of_count (waits : 0 < immBits w) (first : (s.nextPc c).gateQueue g = [])
    (enough : immBits w ≤ (s.nextPc c).gateCount g) :
    exec (.gwait c) s = .next (
      let t := (s.nextPc c).setCount g ((s.nextPc c).gateCount g - immBits w)
      t.setSreg c (dstReg w) (t.gateWord g false .ok)) := by
  rw [exec_of_issues rfl h hw]
  simp [op, clean, gate, ok, waits.ne', first, enough]

/-- A wait for more than the count joins the queue, and its cluster steeps with cause 5 (R140, R150). -/
theorem exec_gwait_of_short (short : (s.nextPc c).gateCount g < immBits w) :
    exec (.gwait c) s =
      .next (((s.nextPc c).setQueue g ((s.nextPc c).gateQueue g ++ [c])).steep c 5 (.gate g (immBits w) (dstReg w))) := by
  have waits : immBits w ≠ 0 := Nat.ne_zero_of_lt short
  rw [exec_of_issues rfl h hw]
  simp [op, clean, gate, ok, waits, Nat.not_le.2 short]

end

/-! ### GSIGNAL -/

section
variable {s : State} {c w : Nat} (h : s.issues c = true) (hw : s.fetchWord c = w) (op : opc w = 0x91)
  (clean : s.reservedOk c w = true)
include h hw op clean

/-- Behind a spill of its cluster a signal waits with cause 7 and is tried again (R146). -/
theorem exec_gsignal_of_spills (spills : (s.cl c).spillsLeft = true) : exec (.gsignal c) s = .next (s.steep c 7 .spills) := by
  rw [exec_of_issues rfl h hw]
  simp [op, clean, spills]

variable (noSpill : (s.cl c).spillsLeft = false)
include noSpill

/-- A signal to a gate of this module is added at once, or refused there (R138, R139). -/
theorem exec_gsignal_of_local {t : State} {v : Nat} (here : w.testBit 40 = false)
    (signal : (s.nextPc c).gateSignal (s.sreg c (srcA w)) (bits w 7 0) = (t, v)) :
    exec (.gsignal c) s = .next (t.setSreg c (dstReg w) v) := by
  rw [exec_of_issues rfl h hw]
  simp [op, clean, noSpill, here, signal]

variable (remote : w.testBit 40 = true) (other : s.sreg c (srcB w) ≠ (s.nextPc c).moduleId)
include remote other

/-- One to another module is sent once the earlier remote writes are acknowledged; the count at the far gate is not known here (R146, R152,
R197; log entry 21). -/
theorem exec_gsignal_of_remote (named : validGate (s.sreg c (srcA w)) = true) :
    exec (.gsignal c) s = .next (
      (((s.nextPc c).fresh 11).2.setSreg c (dstReg w) ((s.nextPc c).fresh 11).1.toNat).sendSignal
        ⟨c, s.sreg c (srcB w), s.sreg c (srcA w), bits w 7 0, (((s.nextPc c).fresh 11).2.cl c).dmaAccepted⟩) := by
  rw [exec_of_issues rfl h hw]
  simp [op, clean, noSpill, remote, other, named]

/-- A reserved identifier is not sent (R138). -/
theorem exec_gsignal_of_badId (reserved : validGate (s.sreg c (srcA w)) = false) :
    exec (.gsignal c) s = .next ((s.nextPc c).setSreg c (dstReg w) (errWord .badId)) := by
  rw [exec_of_issues rfl h hw]
  simp [op, clean, noSpill, remote, other, reserved]

end

/-! ### GBAR -/

section
variable {s : State} {c w g : Nat} (h : s.issues c = true) (hw : s.fetchWord c = w) (op : opc w = 0x92)
  (clean : s.reservedOk c w = true) (noSpill : (s.cl c).spillsLeft = false) (gate : s.sreg c (srcA w) = g)
  (ok : (s.nextPc c).waitStatus c g true = .ok)
include h hw op clean noSpill gate ok

/-- An arrival, with WAIT also the wait for its round (R143, R145). -/
theorem exec_gbar_of_arrival (arrives : w.testBit 1 = false) :
    exec (.gbar c) s = .next ((s.nextPc c).barrier (.arrive c g (dstReg w) (w.testBit 0))) := by
  rw [exec_of_issues rfl h hw]
  simp [op, clean, noSpill, gate, ok, arrives]

variable (waitOnly : w.testBit 1 = true)
include waitOnly

/-- WAIT_ONLY waits for the flip of the open round where its port has an arrival outstanding (R145). -/
theorem exec_gbarWaitOnly_of_slot {x : PortSlot} (slot : (s.nextPc c).slotOf c g = some x) :
    exec (.gbarWaitOnly c) s = .next ((s.nextPc c).steep c 5 (.round g (dstReg w) 1 ((s.nextPc c).epoch g))) := by
  rw [exec_of_issues rfl h hw]
  simp [op, clean, noSpill, gate, ok, waitOnly, slot]

/-- With none it answers at once, with the parity of the round completed last (R145; log entry 22). -/
theorem exec_gbarWaitOnly_of_noSlot (none : (s.nextPc c).slotOf c g = none) :
    exec (.gbarWaitOnly c) s =
      .next ((s.nextPc c).setSreg c (dstReg w) ((s.nextPc c).gateWord g (!(s.nextPc c).epoch g) .ok)) := by
  rw [exec_of_issues rfl h hw]
  simp [op, clean, noSpill, gate, ok, waitOnly, none]

end

/-! ### GTEST -/

section
variable {s : State} {c w g : Nat} (h : s.issues c = true) (hw : s.fetchWord c = w) (op : opc w = 0x93)
  (clean : s.reservedOk c w = true) (gate : s.sreg c (srcA w) = g) (named : validGate g = true)
  (enabled : (s.nextPc c).gateOn g = true)
include h hw op clean gate named enabled

/-- Without TRY an enabled gate of either kind is read; only a barrier has an EPOCH (R137, R138). -/
theorem exec_gtest_of_read (reads : w.testBit 8 = false) :
    exec (.gtest c) s = .next ((s.nextPc c).setSreg c (dstReg w)
      ((s.nextPc c).gateWord g ((s.nextPc c).isBarrier g && (s.nextPc c).epoch g) .ok)) := by
  rw [exec_of_issues rfl h hw]
  simp [op, clean, gate, named, enabled, reads]

/-- With TRY a counting gate gives up n where no wait is ahead and the count allows it (R140). -/
theorem exec_gtest_of_count (tries : w.testBit 8 = true) (counts : (s.nextPc c).isBarrier g = false)
    (first : (s.nextPc c).gateQueue g = []) (enough : bits w 7 0 ≤ (s.nextPc c).gateCount g) :
    exec (.gtest c) s = .next (
      let u := (s.nextPc c).setCount g ((s.nextPc c).gateCount g - bits w 7 0)
      u.setSreg c (dstReg w) (u.gateWord g false .ok)) := by
  rw [exec_of_issues rfl h hw]
  simp [op, clean, gate, named, enabled, tries, counts, first, enough]

end

/-! ### Gate registers and cascades -/

/-- A write of STG_SIGNAL while IOD is on signals the gate it names; with an increment of 0 it does nothing (R139, R158). -/
theorem exec_stgSignal_of_on {s : State} (value : Word) (on : s.isOn .iod = true) :
    exec (.stgSignal value) s = .next (if bits value.toNat 23 16 = 0 then s else
      (s.gateSignal (bits value.toNat 15 0) (bits value.toNat 23 16)).1) := congrArg Host.Outcome.next (if_pos on)

section
variable {s : State} {g : Nat} (named : validGate g = true) (powered : s.gatePowered g = true)
include named powered

/-- A gate is committed while its domain is on (R142, R157, R160). -/
theorem exec_gateCommit_of_powered : exec (.gateCommit g) s = .next (s.commitGate g) :=
  congrArg Host.Outcome.next (if_pos (Bool.and_eq_true_iff.2 ⟨named, powered⟩))

/-- A gate is reset while its domain is on (R156, R157). -/
theorem exec_gateReset_of_powered : exec (.gateReset g) s = .next (s.resetGate g .reset) :=
  congrArg Host.Outcome.next (if_pos (Bool.and_eq_true_iff.2 ⟨named, powered⟩))

end

/-- A round that carried arrivals have filled flips on the next cycle (R144). -/
theorem exec_barrierFlipCascade_of_mem {s : State} {g : Nat} (filled : g ∈ s.gates.cascade) :
    exec (.barrierFlipCascade g) s = .next (
      ({ s with gates := { s.gates with cascade := s.gates.cascade.filter fun x => x ≠ g } } : State).barrier (.flip g)) :=
  congrArg Host.Outcome.next (if_pos (List.contains_iff_mem.2 filled))

/-! ### Remote signals -/

/-- A held signal leaves the port once it is done with, and stays in it until then (R146). -/
theorem exec_remoteSignalSend_of_held {s t : State} {n : Nat} {x : HeldSig} {done : Bool} (held : s.ixf.sigHeld[n]? = some x)
    (tried : s.trySignal x = (t, done)) :
    exec (.remoteSignalSend n) s = .next (
      if done then { t with ixf := { t.ixf with sigHeld := t.ixf.sigHeld.eraseIdx n } } else t) := by
  show execRemoteSignalSend n s = _
  simp only [execRemoteSignalSend, held, tried]
  cases done <;> rfl

/-! ### The statements -/

/-- Settles O39: each clause is what its command does once the cluster issues it. That the count at a far gate is a free value, and the parity
that WAIT_ONLY answers with no arrival outstanding, is the model's choice (log entries 21 and 22). -/
theorem gateInstructionsComplete : Obligations.GateInstructionsComplete := by
  refine ⟨?served, ?steeps, ?refused, ?signals, ?behindSpills, ?remote, ?badId, ?arrives, ?waitsForRound, ?noRound, ?reads, ?consumes⟩
  case served =>
    exact fun s c w g h hw op clean gate ok waits first enough => exec_gwait_of_count h hw op clean gate ok waits first enough
  case steeps => exact fun s c w g h hw op clean gate ok short => exec_gwait_of_short h hw op clean gate ok short
  case refused => exact fun s c w g h hw op clean gate refused => exec_gwait_of_refused h hw op clean gate refused
  case signals =>
    exact fun s c w t v h hw op clean noSpill here signal => exec_gsignal_of_local h hw op clean noSpill here signal
  case behindSpills => exact fun s c w h hw op clean spills => exec_gsignal_of_spills h hw op clean spills
  case remote =>
    rintro s c w _ h hw op clean noSpill remote named other rfl
    exact exec_gsignal_of_remote h hw op clean noSpill remote other named
  case badId =>
    exact fun s c w h hw op clean noSpill remote reserved other => exec_gsignal_of_badId h hw op clean noSpill remote other reserved
  case arrives => exact fun s c w h hw op clean arrives noSpill ok => exec_gbar_of_arrival h hw op clean noSpill rfl ok arrives
  case waitsForRound =>
    exact fun s c w g x h hw op clean waitOnly noSpill gate ok slot =>
      exec_gbarWaitOnly_of_slot h hw op clean noSpill gate ok waitOnly slot
  case noRound =>
    exact fun s c w g h hw op clean waitOnly noSpill gate ok none =>
      exec_gbarWaitOnly_of_noSlot h hw op clean noSpill gate ok waitOnly none
  case reads =>
    rintro s c w g _ h hw op clean gate rfl named enabled reads
    exact exec_gtest_of_read h hw op clean gate named enabled reads
  case consumes =>
    rintro s c w g _ h hw op clean gate rfl named enabled tries counts first enough
    exact exec_gtest_of_count h hw op clean gate named enabled tries counts first enough

/-- Settles O40: each clause is what its command does in the state it asks for; a held signal that may not leave yet changes nothing but what
trying it does. -/
theorem gateCommandsComplete : Obligations.GateCommandsComplete := by
  refine ⟨?signals, ?noIncrement, ?commit, ?reset, ?flip, ?sent, ?stillHeld⟩
  case signals =>
    intro s value on increment
    rw [exec_stgSignal_of_on value on, if_neg increment]
  case noIncrement =>
    intro s value on increment
    rw [exec_stgSignal_of_on value on, if_pos increment]
  case commit => exact fun s g named powered => exec_gateCommit_of_powered named powered
  case reset => exact fun s g named powered => exec_gateReset_of_powered named powered
  case flip => exact fun s g filled => exec_barrierFlipCascade_of_mem filled
  case sent => exact fun s n x t held tried => exec_remoteSignalSend_of_held held tried
  case stillHeld => exact fun s n x t held tried => exec_remoteSignalSend_of_held held tried

end Sys2Proof.Machine
end

section
/-!
PROOFS. The grain budget: a cluster without reserve, mints and grants, the brake, the hot-spot limiter, and the caps of host and rack
(R161 to R188).
-/

namespace Sys2Proof.Machine

/-! ### Without reserve -/

/-- Every instruction of a sequencer begins at the gate that asks for reserve (R163). -/
theorem exec_instruction_issues {c : Nat} {fn : ScalarFn} {b : Bool} {cond : BranchCond} {e : StoreEcc} {m : List MemEcc} {op : VecOp}
    {i : Instr} (hi : i ∈ [Instr.scalarOp c fn b, .branch c cond, .ldsSts c b e, .illegalInstruction c b, .tb c e, .tbwait c, .vop c op e,
      .copy c e, .fill c e, .addF32 c e, .post c e, .dmawait c, .fence c, .claim c m, .done c, .step c b, .gwait c, .gsignal c, .gbar c,
      .gbarWaitOnly c, .gtest c]) (s : State) : ∃ f, exec i s = .next (s.issue c f) := by
  fin_cases hi <;> exact ⟨_, rfl⟩

theorem State.cl_steep (s : State) (c cause : Nat) (w : Wait) (d : Nat) :
    (s.steep c cause w).cl d = if d = c then { s.cl c with wait := some w } else s.cl d := by
  simp [State.steep]

theorem State.getF_steep_steeping (s : State) (c cause : Nat) (w : Wait) : (s.steep c cause w).getF (.clu .statusSteeping) c = 1 := by
  simp [State.steep, Fld.width, CluFld.width]

/-- The cause that STATUS shows has four bits (R150). -/
theorem State.getF_steep_steepCause (s : State) (c : Nat) {cause : Nat} (w : Wait) (fits : cause < 16) :
    (s.steep c cause w).getF (.clu .statusSteepCause) c = cause := by
  have cut : cause % 2 ^ (Fld.clu .statusSteepCause).width = cause := Nat.mod_eq_of_lt fits
  simp [State.steep, cut]

/-! ### What an event of the grain block writes -/

theorem State.grn_grbEvent (s : State) (bit : Nat) : (s.grbEvent bit).grn = s.grn := (State.post_told ..).grn

/-- HOST_CLAMPED is posted with its bit in GRB_EVT; no other field of a block beside the reporting ones moves (R185). -/
theorem State.getF_grbEvent_hostClamped (s : State) {f : Fld} (i : Nat) (quiet : f.tells = false) :
    (s.grbEvent 6).getF f i = if f = .grb .evtHostClamped ∧ i = 0 then 1 else s.getF f i :=
  ((State.post_told ..).reg f i quiet).trans (State.getF_setF ..)

/-! ### The host cap (R171) -/

theorem exec_capHostWrite_of_on {s : State} (v : Word) (on : s.isOn .aux = true) :
    exec (.capHostWrite v) s = .next (s.capHost v.toNat) := congrArg Host.Outcome.next (if_pos on)

/-- Is a value written to the host cap register, cut to its width, outside 700 W to the ceiling (R171)? -/
def State.outOfCap (s : State) (v : Nat) : Bool := decide (v % 2 ^ 16 < 700 ∨ s.ceilingW < v % 2 ^ 16)

theorem State.hostClamped_setF (s : State) (v : Nat) : (s.setF (.grb .capHostCapW) 0 v).hostClamped = s.outOfCap v :=
  decide_eq_decide.2 (by simp [State.ceilingW, Fld.width, GrbFld.width])

/-- The write keeps the value, HOST_CLAMPED says whether it is taken as another one, and where it is, an event tells so. -/
theorem State.capHost_eq (s : State) (v : Nat) :
    s.capHost v =
      let u := (s.setF (.grb .capHostCapW) 0 v).setFlag (.grb .capStatusHostClamped) 0 (s.outOfCap v)
      if s.outOfCap v then u.grbEvent 6 else u := by
  have same (b : Bool) : ((s.setF (.grb .capHostCapW) 0 v).setFlag (.grb .capStatusHostClamped) 0 b).hostClamped = s.outOfCap v := by
    rw [← s.hostClamped_setF]
    simp [State.hostClamped, State.setFlag, State.ceilingW]
  simp only [State.capHost, s.hostClamped_setF, same]

/-- The event moves no field of the grain block but its own bit. -/
theorem State.getF_capHost (s : State) (v : Nat) {x : GrbFld} (other : x ≠ .evtHostClamped) :
    (s.capHost v).getF (.grb x) =
      ((s.setF (.grb .capHostCapW) 0 v).setFlag (.grb .capStatusHostClamped) 0 (s.outOfCap v)).getF (.grb x) := by
  rw [s.capHost_eq]
  dsimp only
  split
  · rw [State.getF_grbEvent_hostClamped _ 0 rfl, if_neg (by simp [other])]
  · rfl

theorem State.ceilingW_capHost (s : State) (v : Nat) : (s.capHost v).ceilingW = s.ceilingW := by
  rw [State.ceilingW, s.getF_capHost v (by decide)]
  simp [State.setFlag, State.ceilingW]

theorem State.getF_capHost_capHostCapW (s : State) (v : Nat) : (s.capHost v).getF (.grb .capHostCapW) = v % 2 ^ 16 := by
  rw [s.getF_capHost v (by decide)]
  simp [State.setFlag, Fld.width, GrbFld.width]

/-- The cap in force after a write: the value, no lower than 700 W and no higher than the ceiling. -/
theorem State.hostCapW_capHost (s : State) (v : Nat) : (s.capHost v).hostCapW = min (max (v % 2 ^ 16) 700) s.ceilingW := by
  rw [State.hostCapW, s.getF_capHost_capHostCapW, ← s.ceilingW_capHost v]
  rfl

theorem State.flag_capHost_hostClamped (s : State) (v : Nat) :
    (s.capHost v).flag (.grb .capStatusHostClamped) = s.outOfCap v := by
  rw [State.flag, s.getF_capHost v (by decide)]
  cases s.outOfCap v <;> simp [State.setFlag, Fld.width, GrbFld.width]

theorem State.flag_capHost_evtHostClamped {s : State} {v : Nat} (out : s.outOfCap v = true) :
    (s.capHost v).flag (.grb .evtHostClamped) = true := by
  have raised (u : State) : (u.grbEvent 6).getF (.grb .evtHostClamped) = 1 := u.getF_grbEvent_hostClamped 0 rfl
  simp [State.flag, s.capHost_eq, out, raised]

/-! ### Mints -/

theorem State.die_of_grn {s t : State} (h : t.grn = s.grn) (d : Nat) : t.die d = s.die d := by rw [State.die, h, State.die]

/-- A fold over operations that leave the grain state leaves it. -/
theorem State.grn_foldl {α : Type} {f : State → α → State} (h : ∀ s x, (f s x).grn = s.grn) (s : State) (l : List α) :
    (l.foldl f s).grn = s.grn := by
  induction l generalizing s with
  | nil => rfl
  | cons x l ih => rw [List.foldl_cons, ih, h]

theorem State.grn_wakeReserve (s : State) (c : Nat) : (s.wakeReserve c).grn = s.grn := by
  unfold State.wakeReserve
  split
  · split <;> rfl
  · rfl

/-- Charged meters add to what their die has spent, and change nothing else of any die (R162). -/
theorem State.die_chargeMeters (s : State) (n : Nat) (meters : List (Nat × Nat)) (d : Nat) :
    (s.chargeMeters n meters).die d =
      if d = n then
        { s.die n with spent := (s.die n).spent + ((meters.filter fun m => m.1 / 208 == n).map fun m => (m.2 : Int)).sum }
      else s.die d := by
  unfold State.chargeMeters
  induction meters.filter fun m => m.1 / 208 == n generalizing s with
  | nil => by_cases h : d = n <;> simp [h]
  | cons m l ih =>
    rw [List.foldl_cons, ih]
    by_cases h : d = n <;> simp [h, Int.add_assoc]

theorem State.live_chargeMeters (s : State) (n : Nat) (meters : List (Nat × Nat)) : (s.chargeMeters n meters).live = s.live :=
  (State.chargeMeters_same (Same.refl (· = .live) s)).live rfl

/-- The debt of a die, updated at its mint, is all that changes of any die (R168). -/
theorem State.die_updateDebt (s : State) (n spend minted d : Nat) :
    (s.updateDebt n spend minted).die d =
      if d = n then { s.die n with debt := (s.die n).debt + spend - minted } else s.die d := by
  refine (State.die_of_grn ?_ d).trans (State.die_modDie s n d fun x => { x with debt := (s.die n).debt + spend - minted })
  unfold State.updateDebt
  dsimp only
  split
  · rfl
  · split
    · exact State.grn_grbEvent ..
    · rfl

theorem State.live_updateDebt (s : State) (n spend minted : Nat) : (s.updateDebt n spend minted).live = s.live :=
  (State.updateDebt_same (Same.refl (· = .live) s)).live rfl

/-- The clusters of a die that steep for reserve are counted at its mint (R186). -/
def State.countSteeping (s : State) (n : Nat) : State :=
  s.add64 (.grb .dieSteepLoCountLo) (.grb .dieSteepHiCountHi) n
    ((s.dieClusters n).filter fun c => s.getF (.clu .statusSteepCause) c == 4).length

theorem State.die_countSteeping (s : State) (n d : Nat) : (s.countSteeping n).die d = s.die d := rfl

/-- A die mints: its pool gains M_n after the base charge, HOLD ends and the brake's limit is set anew (R161, R165, R167). -/
def State.mintInto (s : State) (n : Nat) (base : Int) : State :=
  let m := (s.die n).mintOf
  let p := mintPool ((s.die n).pool - base) m (s.getLive (.grb .bankMaxGrains) * grain)
  s.modDie n fun d =>
    { d with pool := p.1, lapsed := d.lapsed + p.2, minted := m, spent := 0, base := base, hold := false, limit := s.brakeLimit n m }

/-- The clusters of a die may be granted grains anew, and those that have reserve go on (R163, R164). -/
def State.openGrants (s : State) (n : Nat) : State :=
  let x := (s.dieClusters n).foldl (fun s c => s.modCl c fun k => { k with granted := false }) s
  (x.dieClusters n).foldl (fun s c => s.wakeReserve c) x

theorem State.grn_openGrants (s : State) (n : Nat) : (s.openGrants n).grn = s.grn :=
  (State.grn_foldl State.grn_wakeReserve _ _).trans (State.grn_foldl (by intros; rfl) _ _)

theorem State.die_mintInto (s : State) (n : Nat) (base : Int) (d : Nat) :
    (s.mintInto n base).die d =
      let m := (s.die n).mintOf
      let p := mintPool ((s.die n).pool - base) m (s.getLive (.grb .bankMaxGrains) * grain)
      if d = n then
        { s.die n with
          pool := p.1, lapsed := (s.die n).lapsed + p.2, minted := m, spent := 0, base := base, hold := false, limit := s.brakeLimit n m }
      else s.die d := State.die_modDie ..

/-- A mint within BANK_MAX adds all that it mints; above it the rest lapses, and a pool that holds more keeps it (R165). -/
theorem mintPool_of_le {p : Int} {m bank : Nat} (room : p + m ≤ bank) : mintPool p m bank = (p + m, 0) := if_pos room

theorem mintPool_of_lt {p : Int} {m bank : Nat} (full : (bank : Int) < p + m) :
    mintPool p m bank = (max p bank, (p + m - max p bank).toNat) := if_neg (Int.not_le.2 full)

theorem State.takeGrbSet_of_none {s : State} (none : s.grn.setWaits = false) : s.takeGrbSet = s := if_neg (ne_true_of_eq_false none)

/-- A mint of a die once a waiting set is in force: the period that ends is charged, the debt is updated, the die mints and grants anew. -/
def State.mintDie (s : State) (n : Nat) (meters : List (Nat × Nat)) (rail : Nat) : State :=
  let u := s.chargeMeters n meters
  (u.updateDebt n rail (u.die n).minted).countSteeping n |>.mintInto n (rail - (u.die n).spent) |>.openGrants n

section
variable (s : State) (n : Nat) (meters : List (Nat × Nat)) (rail : Nat)

theorem State.getLive_countSteeping_updateDebt_chargeMeters (minted : Nat) (f : Fld) (i : Nat) :
    (((s.chargeMeters n meters).updateDebt n rail minted).countSteeping n).getLive f i = s.getLive f i :=
  State.getLive_of_live ((State.live_updateDebt ..).trans (s.live_chargeMeters n meters)) f i

/-- What the die of a mint holds after it (R161, R165). -/
theorem State.die_mintDie_same :
    let m := (s.die n).capUw * 2 ^ 16 / 10 ^ 8
    let p := mintPool ((s.die n).pool - (rail - ((s.chargeMeters n meters).die n).spent)) m (s.getLive (.grb .bankMaxGrains) * 2 ^ 16)
    let d := (s.mintDie n meters rail).die n
    d.pool = p.1 ∧ d.lapsed = (s.die n).lapsed + p.2 ∧ d.minted = m ∧ d.spent = 0 ∧ d.hold = false := by
  simp only [State.mintDie, State.die_of_grn (State.grn_openGrants ..), State.die_mintInto,
    State.getLive_countSteeping_updateDebt_chargeMeters, State.die_countSteeping, State.die_updateDebt, State.die_chargeMeters,
    DieGrn.mintOf, grain, if_true, and_self]

theorem State.die_mintDie_other {d : Nat} (other : d ≠ n) : (s.mintDie n meters rail).die d = s.die d := by
  simp only [State.mintDie, State.die_of_grn (State.grn_openGrants ..), State.die_mintInto, State.die_countSteeping, State.die_updateDebt,
    State.die_chargeMeters, other, if_false]

end

theorem exec_mint_of_powered {s : State} {n : Nat} (meters : List (Nat × Nat)) (rail : Nat) (die : n < 4) (on : s.isOn (.core n) = true) :
    exec (.mint n meters rail) s = .next (s.takeGrbSet.mintDie n meters rail) := if_neg (by simp [die, on])

/-! ### Grants, the brake and the hot-spot limiter -/

/-- The pool of a die that is not in HOLD serves the next request (R164). -/
theorem exec_grainGrant_of_served {s : State} {n l c : Nat} (die : n < 4) (on : s.isOn (.core n) = true) (granting : (s.die n).hold = false)
    (pool : 0 < (s.die n).pool) (served : s.nextServed n = some (l, c)) :
    exec (.grainGrant n) s = .next (
      let a := max (min (s.ceilOf c - (s.cl c).reserve) (s.die n).pool) 0
      ((s.modCl c fun k => { k with reserve := k.reserve + a, granted := true }).modDie n fun d =>
        { d with pool := d.pool - a, lastServed := l }).wakeReserve c) := by
  show execGrainGrant n s = _
  simp [execGrainGrant, die, on, granting, Int.not_le.2 pool, served]

/-- At its limit the pool stops granting, and every cluster of the die that fetches steeps for reserve (R167). -/
theorem exec_brakeHold_of_limit {s : State} {n : Nat} (meters : List (Nat × Nat)) (die : n < 4) (on : s.isOn (.core n) = true)
    (granting : ((s.chargeMeters n meters).die n).hold = false)
    (limit : ((s.chargeMeters n meters).die n).limit ≤ ((s.chargeMeters n meters).die n).spent + ((s.chargeMeters n meters).die n).base) :
    exec (.brakeHold n meters) s = .next (
      let u := ((s.chargeMeters n meters).modDie n fun d => { d with hold := true }).addSat (.grb .dieHoldsCount) n 1
      (u.dieClusters n).foldl (fun s c => if s.fetching c then s.steep c 4 .reserve else s) u) := by
  show execBrakeHold n meters s = _
  simp [execBrakeHold, die, on, granting, Int.not_lt.2 limit]

/-- The cap of a die that is too hot falls to a free value of no less than 25 W (R181). -/
theorem exec_dieHotTimeout_of_tooHot {s t : State} {n : Nat} {v : BitVec 32} (die : n < 4) (on : s.isOn (.core n) = true)
    (hot : s.dieTooHot n = true) (free : s.fresh 32 = (v, t)) :
    exec (.dieHotTimeout n) s = .next (
      let low := 25 * watt + v.toNat % ((t.die n).thermUw - 25 * watt)
      t.modDie n fun d => { d with hotUw := some low, thermUw := min d.thermUw low }) := by
  show execDieHotTimeout n s = _
  simp [execDieHotTimeout, die, on, hot, free]

/-! ### Caps from outside -/

/-- The active Kiln's cycle (R175, R257, R258, R262, R311). -/
theorem exec_controlCycle_of_active {s : State} {k : Kiln} (m : Meas) (checks : Checks) (on : s.isOn .aux = true)
    (acts : s.active = some k) : exec (.controlCycle m checks) s = .next (
      let t := ((s.latchMeas m).offTimes.heartbeats m.moved).configCommit.showProgress
      let u := (t.copyMoves m.copied).beginPeriod false (t.takeReadings m.shadow).refresh
      ((List.range 8).foldl (fun s z => s.suspectZone z) u).thermalCycle.capCycle.ageCycle.sendSummary.rejectImages.endCycle k checks) := by
  show execControlCycle m checks s = _
  simp only [execControlCycle, on, acts, Bool.not_true, Bool.false_eq_true, if_false]

/-- In NONE the standbys count the cycle and their shadow runs go on (R266; log entries 110, 112, 182). -/
theorem exec_controlCycle_of_none {s : State} (m : Meas) (checks : Checks) (on : s.isOn .aux = true) (none : s.active = none) :
    exec (.controlCycle m checks) s = .next (
      ((s.ageCycle.ageCopy .ka).ageCopy .kb).beginPeriod false (s.takeReadings m.shadow).refresh) := by
  show execControlCycle m checks s = _
  simp only [execControlCycle, on, none, Bool.not_true, Bool.false_eq_true, if_false]

theorem exec_stackHotEscalate_of_cut {s : State} {k : Nat} {c : StackCut} (cut : s.grn.stackCuts.get? k = some c) (acts : s.kilnActs = true)
    (first : c.esc = false) :
    exec (.stackHotEscalate k) s = .next ({ s with grn := { s.grn with stackCuts := s.grn.stackCuts.set k { c with esc := true } } }) := by
  show execStackHotEscalate k s = _
  simp [execStackHotEscalate, cut, acts, first]

section
variable {s t u : State} {p : Nat} {frame : RowFrame}

/-- A rack message that is heard, is for this module and is no repeat sets the rack cap (R172, R368 to R370). -/
theorem exec_rackCap_of_heard {fresh : Bool} (heard : s.rowHear p frame = (t, true)) (ours : t.forUs frame 0x20 = true)
    (taken : t.rowAccept p frame (((frame.data.take 8).drop 4).all (· == 0)) = (u, fresh)) :
    exec (.rackCap p frame) s = .next (
      if fresh then u.rackMessage p (leNat ((frame.data.drop 2).take 2)) (frame.data.getD 1 0).toNat else u) := by
  show execRackCap p frame s = _
  cases fresh <;> simp only [execRackCap, heard, ours, taken, Bool.false_eq_true, if_true, if_false]

theorem exec_rackCap_of_spoilt (spoilt : s.rowHear p frame = (t, false)) : exec (.rackCap p frame) s = .next t := by
  show execRackCap p frame s = _
  simp only [execRackCap, spoilt]

end

theorem exec_rackLeaseExpiry_of_lease {s : State} (lease : s.getF (.grb .rackCfgLeaseS) ≠ 0)
    (runs : s.flag (.grb .capRackLeaseExpired) = false) :
    exec .rackLeaseExpiry s = .next (
      let t := s.setF (.grb .capRackLeaseExpired) 0 1
      (t.setF (.grb .capRackCapW) 0 t.rackCapW).grbEvent 4) := if_neg (by simp [lease, runs])

section
variable {s : State} {k : Kiln} (capW : Nat) (dieW : List Nat) (on : s.isOn .aux = true) (up : (s.kln.kiln k).up = true)
include on up

/-- The holder of ACT_OWN lowers the caps through its own port (R178, R256). -/
theorem exec_protectionFall_of_active (acts : s.active = some k) :
    exec (.protectionFall k capW dieW) s = .next (s.protFall 5 (max 700 capW * watt) (dieW.map fun w => max 25 w * watt)) := by
  show execProtectionFall k capW dieW s = _
  simp [execProtectionFall, on, up, acts]

/-- The other Kiln lowers them through the port that then waits for confirmation (R256). -/
theorem exec_protectionFall_of_standby {a : Kiln} (acts : s.active = some a) (other : a ≠ k) :
    exec (.protectionFall k capW dieW) s = .next (
      ({ s with kln := { s.kln with unconfirmed := some k } } : State).protFall 4 (max 700 capW * watt)
        (dieW.map fun w => max 25 w * watt)) := by
  show execProtectionFall k capW dieW s = _
  simp [execProtectionFall, on, up, acts, other]

end

theorem exec_grbCommit_of_free {s : State} (on : s.isOn .aux = true) (free : s.flag (.grb .commitStatusBusy) = false) :
    exec .grbCommit s = .next s.commitGrb := by
  show execGrbCommit s = _
  simp [execGrbCommit, on, free]

/-- A commit while one of the block runs is held, once (R188, R475). -/
theorem exec_grbCommit_of_busy {s : State} (on : s.isOn .aux = true) (busy : s.flag (.grb .commitStatusBusy) = true)
    (first : 2 ∉ s.heldCommits) : exec .grbCommit s = .next ({ s with heldCommits := s.heldCommits ++ [2] }) := by
  show execGrbCommit s = _
  simp [execGrbCommit, on, busy, first]

/-! ### The statements -/

/-- Settles O15: each of the instructions begins at the gate of the reserve, and there the cluster steeps. -/
theorem noReserveSteeps : Obligations.NoReserveSteeps := by
  intro c fn b cond e m op i hi s fetches none
  obtain ⟨f, meaning⟩ := exec_instruction_issues hi s
  rw [State.issue_of_no_reserve fetches none] at meaning
  refine ⟨_, meaning, s.getF_steep_steeping .., s.getF_steep_steepCause c _ (by decide), ?_, fun d other => ?_, rfl, rfl⟩
  · rw [State.cl_steep, if_pos rfl]
  · rw [State.cl_steep, if_neg other]

/-- Settles O16: the cap in force is the value between 700 W and the ceiling, and HOST_CLAMPED says whether that is another value. -/
theorem hostCapIsClamped : Obligations.HostCapIsClamped := by
  refine ⟨?written, rfl, fun s unset fits => ?unset⟩
  case unset =>
    rw [State.hostCapW, unset]
    exact min_eq_right (fits.trans (le_max_left ..))
  case written =>
    rintro s v _ on floor rfl
    refine ⟨_, exec_capHostWrite_of_on v on, s.getF_capHost_capHostCapW _, s.ceilingW_capHost _, fun low => ?_, fun high => ?_,
      fun ge le => ?_⟩
    · have out : s.outOfCap v.toNat = true := decide_eq_true (.inl low)
      rw [s.hostCapW_capHost, s.flag_capHost_hostClamped, out]
      exact ⟨by omega, rfl, State.flag_capHost_evtHostClamped out⟩
    · have out : s.outOfCap v.toNat = true := decide_eq_true (.inr high)
      rw [s.hostCapW_capHost, s.flag_capHost_hostClamped, out]
      exact ⟨by omega, rfl, State.flag_capHost_evtHostClamped out⟩
    · rw [s.hostCapW_capHost, s.flag_capHost_hostClamped]
      exact ⟨by omega, decide_eq_false (by omega)⟩

/-- Settles O20: the charge of the meters and the update of the debt leave every pool and cap, and granting anew leaves every die. -/
theorem mintAddsTheDieCap : Obligations.MintAddsTheDieCap := by
  intro s n meters rail die on
  refine ⟨_, exec_mint_of_powered meters rail die on, State.takeGrbSet_of_none, ?_⟩
  obtain ⟨pool, lapsed, minted, spent, hold⟩ := s.takeGrbSet.die_mintDie_same n meters rail
  refine ⟨minted, spent, hold, fun room => ?room, fun full => ?full, fun d other => State.die_mintDie_other _ n meters rail other⟩
  case room =>
    rw [pool, lapsed, mintPool_of_le room]
    exact ⟨rfl, rfl⟩
  case full =>
    rw [pool, lapsed, mintPool_of_lt full]
    refine ⟨rfl, ?_⟩
    push_cast
    omega

/-- Settles O41: each clause is what its command does on a die that is powered; the limiter of HOT_SPOT_LIMITER lowers ceilings of clusters
(R180). By how much hot clusters lower the cap of their die is the model's choice (log entry 27). -/
theorem grainCommandsComplete : Obligations.GrainCommandsComplete := by
  refine ⟨?mint, ?grant, ?brake, ?limiter, ?hot⟩
  case mint =>
    rintro s n meters rail _ die on rfl
    exact exec_mint_of_powered meters rail die on
  case grant =>
    rintro s n l c _ die on granting pool served rfl
    exact exec_grainGrant_of_served die on granting pool served
  case brake =>
    rintro s n meters _ die on rfl granting limit
    exact exec_brakeHold_of_limit meters die on granting limit
  case limiter => exact fun s n readings sourceMw die on => congrArg Host.Outcome.next (if_pos ⟨die, on⟩)
  case hot => exact fun s n t v die on hot free => exec_dieHotTimeout_of_tooHot die on hot free

/-- Settles O42: each clause is what its command does in the state it asks for. That in NONE the ages, the time of the cycles and the shadow
runs go on is the model's choice (log entries 110, 112 and 182). -/
theorem capCommandsComplete : Obligations.CapCommandsComplete := by
  refine ⟨?cycle, ?cycleInNone, ?escalate, ?host, ?rack, ?repeated, ?spoilt, ?rackCfg, ?lease, ?own, ?lowerOnly, ?stale, ?capStatus,
    ?commit, ?heldCommit⟩
  case cycle => exact fun s m checks k on acts => exec_controlCycle_of_active m checks on acts
  case cycleInNone => exact fun s m checks on none => exec_controlCycle_of_none m checks on none
  case escalate => exact fun s k c cut acts first => exec_stackHotEscalate_of_cut cut acts first
  case host =>
    rintro s v _ on rfl
    exact exec_capHostWrite_of_on v on
  case rack => exact fun s p frame t u heard ours taken => exec_rackCap_of_heard heard ours taken
  case repeated => exact fun s p frame t u heard ours taken => exec_rackCap_of_heard heard ours taken
  case spoilt => exact fun s p frame t spoilt => exec_rackCap_of_spoilt spoilt
  case rackCfg => exact fun s v on => congrArg Host.Outcome.next (if_pos on)
  case lease => exact fun s lease runs => exec_rackLeaseExpiry_of_lease lease runs
  case own => exact fun s k capW dieW on up acts => exec_protectionFall_of_active capW dieW on up acts
  case lowerOnly => exact fun s k capW dieW a on up acts other => exec_protectionFall_of_standby capW dieW on up acts other
  case stale => exact fun s n none on => congrArg Host.Outcome.next (if_pos (by simp [none, on]))
  case capStatus => exact fun s acts => congrArg Host.Outcome.next (if_pos acts)
  case commit => exact fun s on free => exec_grbCommit_of_free on free
  case heldCommit => exact fun s on busy first => exec_grbCommit_of_busy on busy first

end Sys2Proof.Machine
end

section
/-!
PROOFS. The Isxel ports: training and its retries, flits taken, retraining, lost lanes, and the writes of RETRAIN, ENABLE and PARK
(R189 to R197, R203, R228, R233).
-/

namespace Sys2Proof.Machine

/-! ### Training -/

section
variable {s : State} {k : Nat} (t : Train) (port : k < 12) (on : s.isOn .iod = true) (lit : s.isOn (.opt k) = true)
  (enabled : s.flag (.ixf .portCtrlEnable) k = true) (trains : s.getF (.ixf .portStatusState) k = 1)
include port on lit enabled trains

/-- While the module has no ID a port waits for one (R197). -/
theorem exec_portTrain_of_noId (noId : s.liveFlag (.ixf .moduleIdValid) = false) :
    exec (.portTrain k t) s = .next (s.setF (.ixf .portStatusState) k 5) := by
  show execPortTrain k t s = _
  simp [execPortTrain, port, on, lit, enabled, trains, noId]

/-- With an ID the port comes UP, or is refused with the first error that the training finds (R193 to R195). -/
theorem exec_portTrain_of_id {lanes err : Nat} (id : s.liveFlag (.ixf .moduleIdValid) = true) (locked : lanes = s.lockedLanes k 8 t.lanes)
    (found : trainErr t lanes 1 (some k) t.clash = err) :
    exec (.portTrain k t) s = .next (
      if err = 0 then (s.portTrained k lanes err t).portComesUp k lanes t else (s.portTrained k lanes err t).portRefused k err) := by
  subst locked found
  show execPortTrain k t s = _
  simp [execPortTrain, port, on, lit, enabled, trains, id]

end

section
variable {s : State} {k : Nat} (on : s.isOn .iod = true)
include on

/-- After its back-off a refused port trains again (R195). -/
theorem exec_trainRetryTimer_of_port (port : k < 12) (lit : s.isOn (.opt k) = true) (enabled : s.flag (.ixf .portCtrlEnable) k = true)
    (refused : s.getF (.ixf .portStatusState) k = 0) (backoff : s.ixf.backoff.getD k 0 ≠ 0) :
    exec (.trainRetryTimer k) s = .next (s.setF (.ixf .portStatusState) k s.trainState) := by
  show execTrainRetryTimer k s = _
  simp [execTrainRetryTimer, on, port, lit, enabled, refused, backoff]

/-- So does the partner link (R195; log entry 43). -/
theorem exec_trainRetryTimer_of_partner (enabled : s.flag (.ptn .ctrlEnable) = true) (refused : s.getF (.ptn .statusState) = 0)
    (backoff : s.ptn.backoff ≠ 0) :
    exec (.trainRetryTimer 12) s = .next (s.setF (.ptn .statusState) 0 s.trainState) := by
  show execTrainRetryTimer 12 s = _
  simp [execTrainRetryTimer, on, enabled, refused, backoff]

/-- The host link has no ID to wait for (R235). -/
theorem exec_trainRetryTimer_of_host (refused : s.getF (.thl .statusState) = 0) (backoff : s.thl.trainBackoff ≠ 0) :
    exec (.trainRetryTimer 13) s = .next (s.setF (.thl .statusState) 0 1) := by
  show execTrainRetryTimer 13 s = _
  simp [execTrainRetryTimer, on, refused, backoff]

end

/-! ### A link that is UP -/

section
variable {s : State} {k : Nat} (live : s.linkLive k = true)
include live

/-- A flit is taken, and the packets and requests that waited for what it brings are served; a port counts a correction (R191 to R193,
R203). -/
theorem exec_flitReceive_of_live (f : Flit) (corrected : Bool) :
    exec (.flitReceive k f corrected) s = .next (
      let t := if corrected && decide (k < 12) then s.addSat (.ixf .portFecCorrected) k 1 else s
      (t.takeFlit k f).serveRx.serveHeld) := by
  show execFlitReceive k f corrected s = _
  simp only [execFlitReceive, live, Bool.not_true, Bool.false_eq_true, if_false]

theorem exec_portRetrain_of_live :
    exec (.portRetrain k) s = .next ((if k < 12 then s.addSat (.ixf .portReplayRetrains) k 1 else s).retrainLink k) :=
  congrArg Host.Outcome.next (if_pos live)

/-- A lost lane is excluded; the link retrains where it was UP on that lane (R196, R233; log entry 173). -/
theorem exec_laneLoss_of_live {lane : Nat} (has : lane < if k = 13 then 4 else 8) :
    exec (.laneLoss k lane) s = .next (
      let t := s.setLost k (s.lnk.lost.getD k 0 ||| 2 ^ lane)
      if (s.lnk.group.getD k 0).testBit lane then t.retrainLink k else t) := congrArg Host.Outcome.next (if_pos ⟨has, live⟩)

end

/-! ### The statement -/

/-- Settles O43: each clause is what its command does on a port that is powered, or a link that is UP. That the partner link and the host
link are tried again after their back-off, and that a lane outside the group in use is excluded without a retraining, is the model's choice
(log entries 43 and 173). -/
theorem portCommandsComplete : Obligations.PortCommandsComplete := by
  refine ⟨?waitsForId, ?comesUp, ?refused, ?retry, ?retryPartner, ?retryHost, ?corrected, ?flit, ?retrainPort, ?retrainLink, ?laneInUse,
    ?laneUnused, ?laneOfHost, ?retrainWrite, ?enableWrite, ?parkWrite⟩
  case waitsForId => exact fun s k t port on lit enabled trains noId => exec_portTrain_of_noId t port on lit enabled trains noId
  case comesUp =>
    exact fun s k t lanes port on lit enabled trains id locked found =>
      exec_portTrain_of_id t port on lit enabled trains id locked found
  case refused =>
    intro s k t lanes err port on lit enabled trains id locked found refused
    rw [exec_portTrain_of_id t port on lit enabled trains id locked found, if_neg refused]
  case retry =>
    exact fun s k port on lit enabled refused backoff => exec_trainRetryTimer_of_port on port lit enabled refused backoff
  case retryPartner =>
    rintro s _ rfl on enabled refused backoff
    exact exec_trainRetryTimer_of_partner on enabled refused backoff
  case retryHost =>
    rintro s _ rfl on refused backoff
    exact exec_trainRetryTimer_of_host on refused backoff
  case corrected =>
    rintro s k f _ live port rfl
    rw [exec_flitReceive_of_live live, Bool.true_and, decide_eq_true port]
    rfl
  case flit =>
    rintro s k f _ live rfl
    exact exec_flitReceive_of_live live f false
  case retrainPort =>
    intro s k port live
    rw [exec_portRetrain_of_live live, if_pos port]
  case retrainLink =>
    intro s k other live
    rw [exec_portRetrain_of_live live, if_neg (Nat.not_lt.2 other)]
  case laneInUse =>
    intro s k lane notHost has live used
    rw [exec_laneLoss_of_live live (by rwa [if_neg notHost]), if_pos used]
  case laneUnused =>
    intro s k lane notHost has live unused
    rw [exec_laneLoss_of_live live (by rwa [if_neg notHost]), unused]
    rfl
  case laneOfHost =>
    rintro s _ lane rfl has live used
    rw [exec_laneLoss_of_live live has, if_pos used]
  case retrainWrite => exact fun s k port on => congrArg Host.Outcome.next (if_pos ⟨port, on⟩)
  case enableWrite => exact fun s k v port on => congrArg Host.Outcome.next (if_pos ⟨port, on⟩)
  case parkWrite => exact fun s k v port on => congrArg Host.Outcome.next (if_pos ⟨port, on⟩)

end Sys2Proof.Machine
end

section
/-!
PROOFS. Packets received: requests to memory, to a cluster store and to a gate, and the answers to the module's own requests (R198 to R204).
-/

namespace Sys2Proof.Machine

/-! ### The act of each type of packet -/

/-- A packet that is taken as one of type t is of type t (R199, R201). -/
theorem State.typ_of_takes {s : State} {k t : Nat} {p : Pkt} (h : s.takesPkt k t p = true) : p.typ = t := by
  simp only [State.takesPkt, State.pktOk, Bool.and_eq_true, beq_iff_eq] at h
  obtain ⟨⟨-, ⟨⟨⟨⟨⟨⟨⟨⟨⟨-, typ⟩, -⟩, -⟩, -⟩, -⟩, -⟩, -⟩, -⟩, -⟩⟩, -⟩ := h
  exact typ

section
variable {s : State} {k : Nat} {p : Pkt} {mecc : List MemEcc} {ecc : StoreEcc}

theorem State.tryPkt_wrMem (h : s.takesPkt k 1 p = true) : s.tryPkt ⟨k, p, mecc, ecc⟩ = s.doWrMem k p mecc := by
  simp only [State.tryPkt, State.typ_of_takes h]

theorem State.tryPkt_wrClu (h : s.takesPkt k 2 p = true) : s.tryPkt ⟨k, p, mecc, ecc⟩ = (s.doWrClu k p, true) := by
  simp only [State.tryPkt, State.typ_of_takes h]

theorem State.tryPkt_addClu (h : s.takesPkt k 3 p = true) : s.tryPkt ⟨k, p, mecc, ecc⟩ = (s.doAddClu k p ecc, true) := by
  simp only [State.tryPkt, State.typ_of_takes h]

theorem State.tryPkt_rdMem (h : s.takesPkt k 4 p = true) : s.tryPkt ⟨k, p, mecc, ecc⟩ = s.doRdMem k p mecc := by
  simp only [State.tryPkt, State.typ_of_takes h]

theorem State.tryPkt_rdClu (h : s.takesPkt k 5 p = true) : s.tryPkt ⟨k, p, mecc, ecc⟩ = (s.doRdClu k p ecc, true) := by
  simp only [State.tryPkt, State.typ_of_takes h]

theorem State.tryPkt_sig (h : s.takesPkt k 8 p = true) : s.tryPkt ⟨k, p, mecc, ecc⟩ = (s.doSig k p, true) := by
  simp only [State.tryPkt, State.typ_of_takes h]

theorem State.tryPkt_collReady (h : s.takesPkt k 0x10 p = true) : s.tryPkt ⟨k, p, mecc, ecc⟩ = (s.doCollReady p mecc, true) := by
  simp only [State.tryPkt, State.typ_of_takes h]

theorem State.tryPkt_collData (h : s.takesPkt k 0x11 p = true) : s.tryPkt ⟨k, p, mecc, ecc⟩ = s.doCollData k p mecc := by
  simp only [State.tryPkt, State.typ_of_takes h]

theorem State.tryPkt_mirWr (h : s.takesPkt k 0x20 p = true) : s.tryPkt ⟨k, p, mecc, ecc⟩ = s.doMirWr p mecc := by
  simp only [State.tryPkt, State.typ_of_takes h]

theorem State.tryPkt_summary (h : s.takesPkt k 0x22 p = true) : s.tryPkt ⟨k, p, mecc, ecc⟩ = (s.doSummary p, true) := by
  simp only [State.tryPkt, State.typ_of_takes h]

end

/-! ### A request that is taken while none waits (R204) -/

section
variable {i : Instr} {s u v : State} {k t : Nat} {p : Pkt} {mecc : List MemEcc} {ecc : StoreEcc} {x : State × Bool}
  (meaning : exec i s = .next (s.takeRx k t p mecc ecc)) (taken : s.takesPkt k t p = true) (first : s.lnk.rx = [])
include meaning taken first

/-- An act that does all there is to do lets the packet leave its buffer. -/
theorem exec_of_served (act : s.tryPkt ⟨k, p, mecc, ecc⟩ = x) (done : x = (u, true)) :
    exec i s = .next ((u.leaveChans k p.vc).leaveBuffer k p) := by
  rw [meaning, State.takeRx_of_takes taken first (act.trans done)]

/-- So does one that never waits. -/
theorem exec_of_acted (act : s.tryPkt ⟨k, p, mecc, ecc⟩ = (v, true)) (effect : v = u) :
    exec i s = .next ((u.leaveChans k p.vc).leaveBuffer k p) :=
  exec_of_served meaning taken first act (congrArg (·, true) effect)

/-- An act that cannot be done yet leaves it there. -/
theorem exec_of_waiting (act : s.tryPkt ⟨k, p, mecc, ecc⟩ = x) (waits : x = (u, false)) :
    exec i s = .next (u.bufferPkt ⟨k, p, mecc, ecc⟩) := by
  rw [meaning, State.takeRx_of_waits taken first (act.trans waits)]

end

/-! ### Channel credits (R83; log entry 41) -/

section
variable {s : State} {port vc a n : Nat} (act : State → State)

theorem State.withChans_of_grant (credits : s.chansGrant port vc a n = true) : s.withChans port vc a n act = (act s, true) := if_pos credits

theorem State.withChans_of_short (short : s.chansGrant port vc a n = false) :
    s.withChans port vc a n act = ((s.burstChans a n).foldl (fun s x => s.joinChan port vc x) s, false) :=
  if_neg (Bool.not_eq_true _ ▸ short)

end

/-! ### Module memory (R202) -/

section
variable {s : State} {k : Nat} {p : Pkt} {mecc : List MemEcc}

theorem State.doWrMem_of_outside (outside : s.windowGrants true p.src p.addr (pktWriteLen p) = false) :
    s.doWrMem k p mecc = (s.refusePkt k p 7, true) := by
  simp [State.doWrMem, outside]

/-- What comes from the partner is not mirrored, so its link holds up no such write (R108, R221). -/
theorem State.mirrorFree_of_or (h : k = 12 ∨ s.mirrorFull p.addr (pktWriteLen p) = false) :
    (k != 12 && s.mirrorFull p.addr (pktWriteLen p)) = false := by
  rcases h with rfl | free
  · rfl
  · rw [free, Bool.and_false]

section
variable (granted : s.windowGrants true p.src p.addr (pktWriteLen p) = true)
include granted

/-- A write that is to be mirrored waits where the partner link can take no more (R123). -/
theorem State.doWrMem_of_mirrorFull (fabric : k ≠ 12) (full : s.mirrorFull p.addr (pktWriteLen p) = true) :
    s.doWrMem k p mecc = (s, false) := by
  simp [State.doWrMem, granted, fabric, full]

variable (mirrorFree : (k != 12 && s.mirrorFull p.addr (pktWriteLen p)) = false)
include mirrorFree

/-- With its credits it is written and answered, after the mirror where it is mirrored (R108, R123, R200). -/
theorem State.doWrMem_of_credits {t : State} {r : MemRes} {tags : List Nat}
    (credits : s.chansGrant k 0 p.addr (pktWriteLen p) = true) (write : s.memWrite p.addr (pktData p) mecc (k != 12) = (t, r, tags)) :
    s.doWrMem k p mecc = (t.answer k p 7 r.rsp [] tags, true) := by
  simp [State.doWrMem, granted, mirrorFree, State.withChans_of_grant _ credits, write]

theorem State.doWrMem_of_short (short : s.chansGrant k 0 p.addr (pktWriteLen p) = false) :
    s.doWrMem k p mecc = ((s.burstChans p.addr (pktWriteLen p)).foldl (fun s x => s.joinChan k 0 x) s, false) := by
  simp [State.doWrMem, granted, mirrorFree, State.withChans_of_short _ short]

end

theorem State.doRdMem_of_outside (outside : s.windowGrants false p.src p.addr (pktReadLen p) = false) :
    s.doRdMem k p mecc = (s.refusePkt k p 6, true) := by
  simp [State.doRdMem, outside]

section
variable (granted : s.windowGrants false p.src p.addr (pktReadLen p) = true)
include granted

theorem State.doRdMem_of_credits {t : State} {r : MemRes} {b : List Byte}
    (credits : s.chansGrant k 0 p.addr (pktReadLen p) = true) (read : s.memRead p.addr (pktReadLen p) mecc = (t, r, b)) :
    s.doRdMem k p mecc = (t.answer k p 6 r.rsp b, true) := by
  simp [State.doRdMem, granted, State.withChans_of_grant _ credits, read]

theorem State.doRdMem_of_short (short : s.chansGrant k 0 p.addr (pktReadLen p) = false) :
    s.doRdMem k p mecc = ((s.burstChans p.addr (pktReadLen p)).foldl (fun s x => s.joinChan k 0 x) s, false) := by
  simp [State.doRdMem, granted, State.withChans_of_short _ short]

end

end

/-! ### Cluster stores (R34, R202, R439) -/

section
variable {s : State} {k c : Nat} {p : Pkt}

theorem State.doWrClu_of_off (off : s.liveFlag (.ixf .ctrlClusterRx) = false) : s.doWrClu k p = s.refusePkt k p 7 := by
  simp [State.doWrClu, off]

variable (on : s.liveFlag (.ixf .ctrlClusterRx) = true)
include on

theorem State.doWrClu_of_target (target : s.storeTarget p.addr (pktWriteLen p) = (0, c)) :
    s.doWrClu k p = (s.putStore c (offOf p.addr) (pktData p)).answer k p 7 0 [] := by
  simp [State.doWrClu, on, target]

/-- Words are added, or the store answers MEM_ERROR (R34, R89). -/
theorem State.doAddClu_of_target {ecc : StoreEcc} {t : State} {ok : Bool} (target : s.storeTarget p.addr (pktWriteLen p) = (0, c))
    (added : s.storeDeliver true c (offOf p.addr) (pktData p) ecc = (t, ok)) :
    s.doAddClu k p ecc = t.answer k p 7 (if ok then 0 else 2) [] := by
  simp [State.doAddClu, on, target, added]

theorem State.doRdClu_of_target {ecc : StoreEcc} {t : State} {b : List Byte} (target : s.storeTarget p.addr (pktReadLen p) = (0, c))
    (read : s.storeRead c (offOf p.addr) (pktReadLen p) ecc = (t, some b)) : s.doRdClu k p ecc = t.answer k p 6 0 b := by
  simp [State.doRdClu, on, target, read]

end

/-! ### Signals (R139, R152, R153) -/

theorem State.doSig_of_accepted {s t : State} {k word : Nat} {p : Pkt} (named : validGate p.gate = true)
    (remoteOk : s.liveFlag (.stg .gateCfgRemoteOk) p.gate = true) (signal : s.gateSignal p.gate (p.inc % 256) = (t, word))
    (clean : word / 2 ^ 12 = 0) : s.doSig k p = t.answer k p 9 0 [] := by
  simp only [State.doSig, named, remoteOk, signal, clean, Bool.not_true, Bool.false_eq_true, if_false, if_true]

theorem State.doSig_of_badId {s : State} {k : Nat} {p : Pkt} (reserved : validGate p.gate = false) :
    s.doSig k p = (s.gateErr (.stg .errRemoteRej) p.gate p.src).answer k p 9 3 [] := by
  simp [State.doSig, reserved]

/-! ### Answers (R199, R200, R204) -/

section
variable {s : State} {k : Nat} {p : Pkt} {r : RemReq} (found : s.findReq p.tag = some r) (src : r.dst = p.src)
include found src

/-- The data of a read goes to the piece of the transfer that asked for it. -/
theorem exec_rdRsp_of_ok (ecc : StoreEcc) {j i : Nat} {d : Dma} {q : Piece} (taken : s.takesPkt k 6 p = true) (kind : r.kind = 0)
    (ok : p.status = 0) (tag : ((s.dropReq p.tag).cl r.cluster).findTag p.tag = some (j, i))
    (desc : ((s.dropReq p.tag).cl r.cluster).dmas[j]? = some d) (piece : d.pieces[i]? = some q) :
    exec (.rdRsp k p ecc) s =
      .next (((s.dropReq p.tag).pieceData r.cluster j i q (p.payload.take q.len) ecc).leaveBuffer k p) := by
  refine congrArg Host.Outcome.next ((State.receive_of_takes taken).trans ?_)
  simp [found, src, kind, ok, tag, desc, piece]

/-- A read that fails ends its transfer with the status of the answer. -/
theorem exec_rdRsp_of_error (ecc : StoreEcc) (taken : s.takesPkt k 6 p = true) (kind : r.kind = 0) (error : p.status ≠ 0) :
    exec (.rdRsp k p ecc) s = .next (((s.dropReq p.tag).answerTag r.cluster p.tag (rspStatus p.status)).leaveBuffer k p) := by
  refine congrArg Host.Outcome.next ((State.receive_of_takes taken).trans ?_)
  simp [found, src, kind, error]

theorem exec_wrAck_of_takes (taken : s.takesPkt k 7 p = true) (kind : r.kind = 1) :
    exec (.wrAck k p) s = .next (((s.dropReq p.tag).answerTag r.cluster p.tag (rspStatus p.status)).leaveBuffer k p) := by
  refine congrArg Host.Outcome.next ((State.receive_of_takes taken).trans ?_)
  simp [found, src, kind]

/-- A signal that was not accepted is recorded: one that the far gate refused with the gate, another as lost (R153, R154). -/
theorem exec_sigAck_of_takes (taken : s.takesPkt k 9 p = true) (kind : r.kind = 2) :
    exec (.sigAck k p) s = .next (
      (if p.status = 0 then s.dropReq p.tag
        else if p.status = 3 then (s.dropReq p.tag).gateErr (.stg .errRemoteRej) r.aux r.dst
        else (s.dropReq p.tag).signalLost r.aux r.dst).leaveBuffer k p) := by
  refine congrArg Host.Outcome.next ((State.receive_of_takes taken).trans ?_)
  simp [found, src, kind]

end

/-! ### The statement -/

/-- Settles O44: a request that is taken while none waits is acted on as its type says and leaves its buffer, or waits in it; an answer ends
the request whose TAG it carries. That a request which waits for credits joins the queues of its channels is the model's choice (log entry
41). -/
theorem packetCommandsComplete : Obligations.PacketCommandsComplete := by
  refine ⟨?wrMem, ?wrMemRefused, ?wrMemMirror, ?wrMemCredits, ?wrClu, ?wrCluRefused, ?addClu, ?rdMem, ?rdMemRefused, ?rdMemCredits,
    ?rdClu, ?rdRsp, ?rdRspError, ?wrAck, ?sig, ?sigBadId, ?sigAck, ?sigAckRefused, ?sigAckLost⟩
  case wrMem =>
    exact fun s k p mecc t r tags taken first granted mirror credits write =>
      exec_of_served rfl taken first (State.tryPkt_wrMem taken)
        (State.doWrMem_of_credits granted (State.mirrorFree_of_or mirror) credits write)
  case wrMemRefused =>
    exact fun s k p mecc taken first outside =>
      exec_of_served rfl taken first (State.tryPkt_wrMem taken) (State.doWrMem_of_outside outside)
  case wrMemMirror =>
    exact fun s k p mecc taken first granted fabric full =>
      exec_of_waiting rfl taken first (State.tryPkt_wrMem taken) (State.doWrMem_of_mirrorFull granted fabric full)
  case wrMemCredits =>
    exact fun s k p mecc taken first granted mirror short =>
      exec_of_waiting rfl taken first (State.tryPkt_wrMem taken)
        (State.doWrMem_of_short granted (State.mirrorFree_of_or mirror) short)
  case wrClu =>
    exact fun s k p c taken first on target =>
      exec_of_acted rfl taken first (State.tryPkt_wrClu taken) (State.doWrClu_of_target on target)
  case wrCluRefused =>
    exact fun s k p taken first off =>
      exec_of_acted rfl taken first (State.tryPkt_wrClu taken) (State.doWrClu_of_off off)
  case addClu =>
    exact fun s k p ecc c t ok taken first on target added =>
      exec_of_acted rfl taken first (State.tryPkt_addClu taken) (State.doAddClu_of_target on target added)
  case rdMem =>
    exact fun s k p mecc t r b taken first granted credits read =>
      exec_of_served rfl taken first (State.tryPkt_rdMem taken) (State.doRdMem_of_credits granted credits read)
  case rdMemRefused =>
    exact fun s k p mecc taken first outside =>
      exec_of_served rfl taken first (State.tryPkt_rdMem taken) (State.doRdMem_of_outside outside)
  case rdMemCredits =>
    exact fun s k p mecc taken first granted short =>
      exec_of_waiting rfl taken first (State.tryPkt_rdMem taken) (State.doRdMem_of_short granted short)
  case rdClu =>
    exact fun s k p ecc c t b taken first on target read =>
      exec_of_acted rfl taken first (State.tryPkt_rdClu taken) (State.doRdClu_of_target on target read)
  case rdRsp =>
    exact fun s k p ecc r j i d q taken found kind src ok tag desc piece =>
      exec_rdRsp_of_ok found src ecc taken kind ok tag desc piece
  case rdRspError =>
    exact fun s k p ecc r taken found kind src error => exec_rdRsp_of_error found src ecc taken kind error
  case wrAck => exact fun s k p r taken found kind src => exec_wrAck_of_takes found src taken kind
  case sig =>
    exact fun s k p t word taken first named remoteOk signal clean =>
      exec_of_acted rfl taken first (State.tryPkt_sig taken) (State.doSig_of_accepted named remoteOk signal clean)
  case sigBadId =>
    exact fun s k p taken first reserved =>
      exec_of_acted rfl taken first (State.tryPkt_sig taken) (State.doSig_of_badId reserved)
  case sigAck =>
    intro s k p r taken found kind src ok
    rw [exec_sigAck_of_takes found src taken kind, if_pos ok]
  case sigAckRefused =>
    intro s k p r taken found kind src refused
    rw [exec_sigAck_of_takes found src taken kind, if_neg (by omega), if_pos refused]
  case sigAckLost =>
    intro s k p r taken found kind src error notRefused
    rw [exec_sigAck_of_takes found src taken kind, if_neg error, if_neg notRefused]

end Sys2Proof.Machine
end

section
/-!
PROOFS. Collectives, notices about other modules, and the commit of the Isxel block (R140, R207 to R209, R213 to R218, R226, R230).
-/

namespace Sys2Proof.Machine

/-! ### READY (R216) -/

section
variable {s : State} {p : Pkt} {mecc : List MemEcc}

theorem State.doCollReady_of_running {ch : Nat} (running : s.collOf (bits p.aux 21 16) (bits p.aux 15 0) = some ch) :
    s.doCollReady p mecc = s.takeReady ch ⟨bits p.aux 21 16, bits p.aux 15 0, p.src, bits p.addr 34 32, bits p.addr 36 35,
      bits p.addr 31 0, bits p.addr 44 37⟩ mecc := by
  simp only [State.doCollReady, running]

/-- A READY for the current or the next number is kept in the place of an earlier one of its sender. -/
theorem State.doCollReady_of_early (idle : s.collOf (bits p.aux 21 16) (bits p.aux 15 0) = none)
    (near : (bits p.aux 15 0 + 2 ^ 16 - s.getF (.ixf .grpSeqSeq) (bits p.aux 21 16)) % 2 ^ 16 ≤ 1) :
    s.doCollReady p mecc = { s with ixf := { s.ixf with readies :=
      (s.ixf.readies.filter fun x => !(x.group == bits p.aux 21 16 && x.seq == bits p.aux 15 0 && x.src == p.src)) ++
        [⟨bits p.aux 21 16, bits p.aux 15 0, p.src, bits p.addr 34 32, bits p.addr 36 35, bits p.addr 31 0,
          bits p.addr 44 37⟩] } } := by
  simp only [State.doCollReady, idle, if_pos near]

end

/-! ### Data (R217, R218) -/

section
variable {s : State} {k ch j : Nat} {p : Pkt} {mecc : List MemEcc} {q : Coll}
  (running : s.collOf (bits p.aux 21 16) (bits p.aux 15 0) = some ch) (coll : s.coll ch = some q)
  (member : q.members.findIdx? (· == p.src) = some j)
include running coll member

/-- Data of phase 1 that falls in the own share is applied, noted and answered, and may let the channel send that share. -/
theorem State.doCollData_of_landing {a : Nat} {add : Bool} {t : State} {b : List Byte} {tags : List Nat}
    (lands : q.landing (p.status % 2) j (p.addr % 2 ^ 40) = some (a, add)) (phase : p.status % 2 = 0)
    (data : b = p.payload.take (min (64 * p.len) (q.count * q.es - p.addr % 2 ^ 40))) (mirror : s.mirrorFull a b.length = false)
    (credits : s.chansGrant k 2 a b.length = true) (applied : s.collApply a add b mecc = (t, true, tags)) :
    s.doCollData k p mecc = (((t.setColl ch
      { q with got := q.got ++ (List.range p.len).map fun i => (p.addr % 2 ^ 40 / 64 + i, j) }).answer k p 0x12 0 [] tags).collPush ch [],
      true) := by
  rw [phase] at lands
  simp only [State.doCollData, running, coll, member, phase, lands, ← data, mirror, State.withChans_of_grant _ credits, applied,
    Bool.false_eq_true, if_false, if_true]

/-- Data outside the share that its phase brings is answered RANGE (log entry 24). -/
theorem State.doCollData_of_outside (outside : q.landing (p.status % 2) j (p.addr % 2 ^ 40) = none) :
    s.doCollData k p mecc = (s.answer k p 0x12 1 [], true) := by
  simp only [State.doCollData, running, coll, member, outside]

end

/-! ### Acknowledgements (R217, R218) -/

section
variable {s : State} {k : Nat} {p : Pkt} {r : RemReq} (taken : s.takesPkt k 0x12 p = true) (found : s.findReq p.tag = some r)
  (kind : r.kind = 3) (src : r.dst = p.src)
include taken found kind src

theorem exec_collAck_of_ok {q : Coll} (ok : p.status = 0) (coll : (s.dropReq p.tag).coll r.aux = some q) :
    exec (.collAck k p) s =
      .next (((s.dropReq p.tag).setColl r.aux { q with tags := q.tags.filter (· ≠ p.tag) }).leaveBuffer k p) := by
  refine congrArg Host.Outcome.next ((State.receive_of_takes taken).trans ?_)
  simp [found, src, kind, ok, coll]

theorem exec_collAck_of_error (error : p.status ≠ 0) :
    exec (.collAck k p) s = .next (((s.dropReq p.tag).collFinish r.aux 4).leaveBuffer k p) := by
  refine congrArg Host.Outcome.next ((State.receive_of_takes taken).trans ?_)
  simp [found, src, kind, error]

end

/-! ### Start and end (R140, R213, R218) -/

/-- An idle channel whose start gate gives a count takes the descriptor that its index names, and begins it. -/
theorem exec_collStart_of_idle {s : State} {ch g : Nat} {mecc : List MemEcc} {t u : State} {b : List Byte} (channel : ch < 16)
    (on : s.isOn .iod = true) (enabled : s.liveFlag (.ixf .collCfgEnable) ch = true) (idle : s.coll ch = none)
    (gate : g = s.getLive (.ixf .collCfgStartGate) ch) (named : validGate g = true) (gateOn : s.gateOn g = true)
    (counts : s.isBarrier g = false) (noWait : s.gateQueue g = []) (count : 1 ≤ s.gateCount g)
    (taken : t = (s.setCount g (s.gateCount g - 1)).addWrap (.ixf .collNextIndex) ch 1)
    (read : t.memRead (t.getLive (.ixf .collQLoQLo) ch * 2 ^ 12 + t.getLive (.ixf .collQHiQHi) ch * 2 ^ 32 +
      64 * ((s.setCount g (s.gateCount g - 1)).getF (.ixf .collNextIndex) ch % 2 ^ t.getLive (.ixf .collCfgQsizeLog2) ch)) 64 mecc =
        (u, .ok, b)) :
    exec (.collStart ch mecc) s = .next (u.collBegin ch
      (t.getLive (.ixf .collQLoQLo) ch * 2 ^ 12 + t.getLive (.ixf .collQHiQHi) ch * 2 ^ 32 +
        64 * ((s.setCount g (s.gateCount g - 1)).getF (.ixf .collNextIndex) ch % 2 ^ t.getLive (.ixf .collCfgQsizeLog2) ch)) b []) := by
  subst gate taken
  show execCollStart ch mecc s = _
  simp only [execCollStart, channel, on, enabled, idle, named, gateOn, counts, noWait, count, read, decide_true, Option.isNone_none,
    List.isEmpty_nil, Bool.not_false, Bool.and_self, if_true]

theorem exec_collComplete_of_complete {s : State} {ch : Nat} {k : Coll} (coll : s.coll ch = some k) (complete : k.complete = true) :
    exec (.collComplete ch) s = .next (s.collFinish ch 1) := by
  show execCollComplete ch s = _
  simp only [execCollComplete, coll, complete, if_true]

/-! ### The statement -/

/-- Settles O45: each clause is what its command does to a packet that is taken, on an idle channel, or while IOD is on. That COLL_DATA
outside the share is answered RANGE is the model's choice (log entry 24), as are when a cleared fence is looked at again (44) and what a
commit does with a group that runs and a channel that is disabled (54, 171). -/
theorem collectiveAndNoticeCommandsComplete : Obligations.CollectiveAndNoticeCommandsComplete := by
  refine ⟨?ready, ?earlyReady, ?data, ?dataOutside, ?ack, ?ackError, ?start, ?complete, ?timeout, ?down, ?up, ?unreach, ?parked, ?resume,
    ?fence, ?reach, ?commit⟩
  case ready =>
    exact fun s k p mecc ch taken first running =>
      exec_of_acted rfl taken first (State.tryPkt_collReady taken) (State.doCollReady_of_running running)
  case earlyReady =>
    exact fun s k p mecc taken first idle near =>
      exec_of_acted rfl taken first (State.tryPkt_collReady taken) (State.doCollReady_of_early idle near)
  case data =>
    exact fun s k p mecc ch j a q add t b tags taken first running coll member lands phase data mirror credits applied =>
      exec_of_served rfl taken first (State.tryPkt_collData taken)
        (State.doCollData_of_landing running coll member lands phase data mirror credits applied)
  case dataOutside =>
    exact fun s k p mecc ch j q taken first running coll member outside =>
      exec_of_served rfl taken first (State.tryPkt_collData taken) (State.doCollData_of_outside running coll member outside)
  case ack => exact fun s k p r q taken found kind src ok coll => exec_collAck_of_ok taken found kind src ok coll
  case ackError => exact fun s k p r taken found kind src error => exec_collAck_of_error taken found kind src error
  case start =>
    rintro s ch mecc g _ t u b channel on enabled idle gate named gateOn counts noWait count taken rfl read
    exact exec_collStart_of_idle channel on enabled idle gate named gateOn counts noWait count taken read
  case complete => exact fun s ch k coll complete => exec_collComplete_of_complete coll complete
  case timeout => exact fun s ch => rfl
  case down => exact fun s k p taken sub => congrArg Host.Outcome.next (State.notice_of_takes taken sub)
  case up => exact fun s k p taken sub => congrArg Host.Outcome.next (State.notice_of_takes taken sub)
  case unreach => exact fun s k p taken sub => congrArg Host.Outcome.next (State.notice_of_takes taken sub)
  case parked => exact fun s k p taken sub => congrArg Host.Outcome.next (State.notice_of_takes taken sub)
  case resume => exact fun s x answered => congrArg Host.Outcome.next (if_neg (mt List.contains_iff_mem.1 answered))
  case fence => exact fun s x on => congrArg Host.Outcome.next (if_pos on)
  case reach => exact fun s x on => congrArg Host.Outcome.next (if_pos on)
  case commit => exact fun s on => congrArg Host.Outcome.next (if_pos on)

end Sys2Proof.Machine
end

section
/-!
PROOFS. The partner link: mirrored writes and their answers, summaries, training and loss, fences, its commit and resynchronisation
(R108, R123, R193 to R195, R219 to R225, R231).
-/

namespace Sys2Proof.Machine

/-! ### Mirrored writes (R108, R123, R221 to R223) -/

section
variable {s : State} {p : Pkt} {mecc : List MemEcc}

/-- Inside a receive window a mirrored write is applied, and not mirrored further. -/
theorem State.doMirWr_of_credits {t : State} {r : MemRes} {tags : List Nat} (window : s.rxWindow p.addr (pktWriteLen p) = true)
    (credits : s.chansGrant 12 0 p.addr (pktWriteLen p) = true) (write : s.memWrite p.addr (pktData p) mecc false = (t, r, tags)) :
    s.doMirWr p mecc = (t.answer 12 p 0x21 r.rsp [], true) := by
  simp only [State.doMirWr, window, State.withChans_of_grant _ credits, write, if_true]

theorem State.doMirWr_of_outside (outside : s.rxWindow p.addr (pktWriteLen p) = false) :
    s.doMirWr p mecc = (s.answer 12 p 0x21 3 [], true) := by
  simp only [State.doMirWr, outside, Bool.false_eq_true, if_false]

end

/-- An answer ends its mirrored write or copy packet; one that is not OK first marks what it concerns. -/
theorem exec_mirAck_of_takes {s : State} {p : Pkt} {r : RemReq} (taken : s.takesPkt 12 0x21 p = true) (found : s.findReq p.tag = some r)
    (kind : r.kind = 4 ∨ r.kind = 5) :
    exec (.mirAck p) s = .next (
      ((if p.status = 0 then s else s.mirrorBad r.aux r.len p.status).mirrorDone p.tag).leaveBuffer 12 p) := by
  have mirrored : ¬(r.kind ≠ 4 ∧ r.kind ≠ 5) := by omega
  refine congrArg Host.Outcome.next ((State.receive_of_takes taken).trans ?_)
  simp only [found, if_neg mirrored]

/-! ### Training and loss (R193 to R195, R219, R222, R224) -/

section
variable {s : State} (t : Train) (on : s.isOn .iod = true)
include on

/-- An LMF-1800-A has no partner link (R219). -/
theorem exec_ptnTrain_of_notFitted (notFitted : s.sec.orderP = false) :
    exec (.ptnTrain t) s = .next (s.setF (.ptn .statusState) 0 4) := by
  show execPtnTrain t s = _
  simp [execPtnTrain, on, notFitted]

variable (fitted : s.sec.orderP = true) (enabled : s.flag (.ptn .ctrlEnable) = true) (trains : s.getF (.ptn .statusState) = 1)
include fitted enabled trains

theorem exec_ptnTrain_of_noId (noId : s.liveFlag (.ixf .moduleIdValid) = false) :
    exec (.ptnTrain t) s = .next (s.setF (.ptn .statusState) 0 5) := by
  show execPtnTrain t s = _
  simp [execPtnTrain, on, fitted, enabled, trains, noId]

/-- With an ID the link comes UP, or is refused with the first error that the training finds. -/
theorem exec_ptnTrain_of_id {lanes err : Nat} (id : s.liveFlag (.ixf .moduleIdValid) = true) (locked : lanes = s.lockedLanes 12 8 t.lanes)
    (found : trainErr t lanes 2 none (t.farId == s.moduleId) = err) :
    exec (.ptnTrain t) s = .next (
      if err = 0 then (s.ptnTrained lanes err t).ptnComesUp lanes t 1 else (s.ptnTrained lanes err t).ptnRefused err) := by
  subst locked found
  show execPtnTrain t s = _
  simp [execPtnTrain, on, fitted, enabled, trains, id]

end

/-- The link leaves UP to retrain, or until its back-off has passed. -/
theorem exec_ptnLinkDown_of_up {s : State} (retrain : Bool) (up : s.portUp 12 = true) :
    exec (.ptnLinkDown retrain) s = .next (
      if retrain then s.ptnLeave 3
      else ({ s with ptn := { s.ptn with backoff := nextBackoff s.ptn.backoff } } : State).ptnLeave 0) :=
  congrArg Host.Outcome.next (if_pos up)

/-! ### Resynchronisation (R223) -/

/-- The next dirty block is shown as the one in progress, and all its copy packets go out (log entry 55). -/
theorem exec_partnerResync_of_dirty {s t : State} {b : Nat} (link : s.mirrorLink = true) (fitted : s.sec.orderP = true)
    (idle : s.ptn.copy = none) (next : s.nextDirty = some b)
    (shown : t = (({ s with ptn := { s.ptn with copy := some (b, false) } } : State).setF (.ptn .resyncRegion) 0 (b / 2 ^ 15)).setF
      (.ptn .resyncActive) 0 1) :
    exec .partnerResync s = .next (
      let u := t.setF (.ptn .resyncProgress) 0 (t.cleanPct (b / 2 ^ 15))
      State.copyPackets (2 ^ 21 / u.maxPayload 12) u (b / 2 ^ 15) (u.maxPayload 12)
        (u.getLive (.mem .mirCfgBaseGib) (b / 2 ^ 15) * 2 ^ 30 + b % 2 ^ 15 * 2 ^ 21)) := by
  subst shown
  show execPartnerResync s = _
  simp only [execPartnerResync, link, fitted, idle, next, Option.isNone_none, Bool.and_self, if_true]

/-- A block whose packets are all answered, none of them with a failure, is clean; with the last dirty block of a region the region is
synchronised. -/
theorem exec_resyncBlockDone_of_answered {s t : State} {b : Nat} (copied : s.ptn.copy = some (b, false))
    (answered : (s.ixf.reqs.any fun r => r.kind == 5) = false)
    (clean : t = ({ s with ptn := { s.ptn with copy := none, dirty := s.ptn.dirty.filter fun x => x ≠ b } } : State).syncCheck
      (b / 2 ^ 15)) :
    exec .resyncBlockDone s = .next (
      (t.setF (.ptn .resyncProgress) 0 (t.cleanPct (b / 2 ^ 15))).setFlag (.ptn .resyncActive) 0 t.nextDirty.isSome) := by
  subst clean
  show execResyncBlockDone s = _
  simp only [execResyncBlockDone, copied, answered, Bool.false_eq_true, if_false]

/-! ### The statement -/

/-- Settles O46: each clause is what its command does to a packet that is taken, on a link that is UP or trains, or while IOD is on. That
the packets of a block are all sent in one step, and the block ends by RESYNC_BLOCK_DONE, is the model's choice (log entry 55). -/
theorem partnerCommandsComplete : Obligations.PartnerCommandsComplete := by
  refine ⟨?mirWr, ?mirWrOutside, ?mirAck, ?mirAckError, ?summary, ?summaryTimeout, ?notFitted, ?waitsForId, ?comesUp, ?refused, ?retrains,
    ?falls, ?retrainWrite, ?fence, ?commit, ?copy, ?blockDone⟩
  case mirWr =>
    exact fun s p mecc t r tags taken first window credits write =>
      exec_of_served rfl taken first (State.tryPkt_mirWr taken) (State.doMirWr_of_credits window credits write)
  case mirWrOutside =>
    exact fun s p mecc taken first outside =>
      exec_of_served rfl taken first (State.tryPkt_mirWr taken) (State.doMirWr_of_outside outside)
  case mirAck =>
    intro s p r taken found kind ok
    rw [exec_mirAck_of_takes taken found kind, if_pos ok]
  case mirAckError =>
    intro s p r taken found kind error
    rw [exec_mirAck_of_takes taken found kind, if_neg error]
  case summary => exact fun s p taken first => exec_of_acted rfl taken first (State.tryPkt_summary taken) rfl
  case summaryTimeout => exact fun s up => congrArg Host.Outcome.next (if_pos up)
  case notFitted => exact fun s t on notFitted => exec_ptnTrain_of_notFitted t on notFitted
  case waitsForId => exact fun s t on fitted enabled trains noId => exec_ptnTrain_of_noId t on fitted enabled trains noId
  case comesUp =>
    exact fun s t lanes on fitted enabled trains id locked found => exec_ptnTrain_of_id t on fitted enabled trains id locked found
  case refused =>
    intro s t lanes err on fitted enabled trains id locked found refused
    rw [exec_ptnTrain_of_id t on fitted enabled trains id locked found, if_neg refused]
  case retrains =>
    rintro s _ up rfl
    exact exec_ptnLinkDown_of_up true up
  case falls =>
    rintro s _ up rfl
    exact exec_ptnLinkDown_of_up false up
  case retrainWrite => exact fun s on => congrArg Host.Outcome.next (if_pos on)
  case fence => exact fun s on => congrArg Host.Outcome.next (if_pos on)
  case commit => exact fun s on => congrArg Host.Outcome.next (if_pos on)
  case copy => exact fun s b t link fitted idle next shown => exec_partnerResync_of_dirty link fitted idle next shown
  case blockDone => exact fun s b t copied answered clean => exec_resyncBlockDone_of_answered copied answered clean

end Sys2Proof.Machine
end

section
/-!
PROOFS. What waited at the host link: held writes and commits, the module's writes into host memory, and held accesses (R7, R236, R237,
R240, R475).
-/

namespace Sys2Proof.Machine

/-! ### Held writes and commits (R7, R475) -/

/-- The first that meets the test is taken; at the front, nothing is passed over. -/
theorem takeFirst_cons_of_pos {α : Type} {p : α → Bool} {x : α} (l : List α) (h : p x = true) : takeFirst p (x :: l) = some (x, l) :=
  if_pos h

theorem exec_heldRwcWrite_of_free {s : State} {b a v k : Nat} {rest : List (Nat × Nat × Nat)} {r : RegRow}
    (first : s.heldWrites = (b, a, v) :: rest) (free : s.blockBusy b = false) (row : regAt a = some (r, k))
    (on : ({ s with heldWrites := rest } : State).rowOn r k = true) :
    exec .heldRwcWrite s = .next (({ s with heldWrites := rest } : State).plainWrite r k v).serveHeld := by
  have taken : takeFirst (fun w => !s.blockBusy w.1) s.heldWrites = some ((b, a, v), rest) := by
    rw [first, takeFirst_cons_of_pos rest (by rw [free]; rfl)]
  show execHeldRwcWrite s = _
  simp only [execHeldRwcWrite, taken, row, on, if_true]

theorem exec_heldCommit_of_free {s : State} {b : Nat} {rest : List Nat} (first : s.heldCommits = b :: rest)
    (free : s.blockBusy b = false) :
    exec .heldCommit s = .next (({ s with heldCommits := rest } : State).commitBlock b).serveHeld := by
  have taken : takeFirst (fun b => !s.blockBusy b) s.heldCommits = some (b, rest) := by
    rw [first, takeFirst_cons_of_pos rest (by rw [free]; rfl)]
  show execHeldCommit s = _
  simp only [execHeldCommit, taken]

/-! ### Writes into host memory (R236, R240) -/

section
variable {s : State} {tag : Nat} {e : HmemPend} (found : s.findHmem tag = some e)
include found

/-- An acknowledged write leaves the list; the last packet of a report may answer the command that waits for it. -/
theorem State.hmemAnswer_of_acknowledged :
    s.hmemAnswer tag 0 = if e.kind = .report then (s.dropHmem tag).reportDone else s.dropHmem tag := by
  simp only [State.hmemAnswer, found]
  cases e.kind <;> rfl

/-- One that is refused, or overdue, is lost. -/
theorem State.hmemAnswer_of_failed {st : Nat} (failed : st ≠ 0) : s.hmemAnswer tag st = (s.dropHmem tag).hmemLost e := by
  simp only [State.hmemAnswer, found, if_pos failed]

theorem exec_hmemWrTimeout_of_pending : exec (.hmemWrTimeout tag) s = .next ((s.dropHmem tag).hmemLost e) :=
  congrArg Host.Outcome.next (State.hmemAnswer_of_failed found (by decide))

end

/-- A well-formed answer leaves its buffer and ends the write with its TAG. -/
theorem exec_hmemAck_of_live {s : State} {p : Pkt} {st : Nat} (live : s.linkLive 13 = true) (ok : hostOk 0x37 p 0 = true)
    (status : p.status = st) (valid : st = 0 ∨ st = 3) :
    exec (.hmemAck p) s = .next ((s.leaveBuffer 13 p).hmemAnswer p.tag st) := by
  subst status
  show execHmemAck p s = _
  simp [execHmemAck, live, ok, valid]

/-! ### Held accesses (R237) -/

/-- The first held access, at its limit, is answered NOT_READY, and those behind it are served. -/
theorem exec_kilnAccessTimeout_of_waits {s : State} {q : HostReq} {l : List HostReq} (first : s.thl.held = q :: l)
    (waits : s.waitsKiln q.pkt = true) :
    exec .kilnAccessTimeout s = .next (((s.sendHost (cfgRsp q.pkt.tag 0x12 0)).leaveBuffer 13 q.pkt).serveHosted l) := by
  show execKilnAccessTimeout s = _
  simp only [execKilnAccessTimeout, first, waits, if_true]

/-! ### The statement -/

/-- Settles O27: a held write or commit at the front acts once its block is free, and the accesses that wait are served after it; a write
into host memory ends by its answer or its limit; held accesses are served when they are released, and the first at its limit is answered. -/
theorem heldAccessesComplete : Obligations.HeldAccessesComplete := by
  refine ⟨?heldWrite, ?heldCommit, ?reportAcknowledged, ?otherAcknowledged, ?refused, ?overdue, ?release, ?timeout⟩
  case heldWrite => exact fun s b a v rest r k first free row on => exec_heldRwcWrite_of_free first free row on
  case heldCommit => exact fun s b rest first free => exec_heldCommit_of_free first free
  case reportAcknowledged =>
    intro s p e live ok status found report
    rw [exec_hmemAck_of_live live ok status (.inl rfl), State.hmemAnswer_of_acknowledged found, if_pos report]
  case otherAcknowledged =>
    intro s p e live ok status found other
    rw [exec_hmemAck_of_live live ok status (.inl rfl), State.hmemAnswer_of_acknowledged found, if_neg other]
  case refused =>
    intro s p e live ok status found
    rw [exec_hmemAck_of_live live ok status (.inr rfl), State.hmemAnswer_of_failed found (by decide)]
  case overdue => exact fun s tag e found => exec_hmemWrTimeout_of_pending found
  case release => exact fun s => rfl
  case timeout => exact fun s q l first waits => exec_kilnAccessTimeout_of_waits first waits

end Sys2Proof.Machine
end

section
/-!
PROOFS. The host link: training and loss, the host watchdog and heartbeat, the event ring and the interrupts (R233 to R235, R247 to R253).
-/

namespace Sys2Proof.Machine

/-! ### Training (R233 to R235) -/

section
variable {s : State} {t : Train} {lanes : Nat} (on : s.isOn .iod = true) (locked : lanes = s.lockedLanes 13 4 t.lanes)
include on locked

/-- A training that finds no error brings the link UP: a first one, or one of a link that was UP before. -/
theorem exec_thlTrain_of_ok {st : Nat} {again : Bool} (state : s.getF (.thl .statusState) = st) (trains : st = 1 ∨ st = 3)
    (retrains : (st == 3) = again) (ok : thlErr t lanes = 0) :
    exec (.thlTrain t) s = .next (
      let u := ((s.thlTrained lanes 0 t).setF (.thl .statusState) 0 2).setF (.thl .statusWidth) 0 ((commonWidth lanes t.far).getD 0)
      ({ u with thl := { u.thl with trainBackoff := 0 } } : State).linkTrained 13 lanes t again) := by
  subst locked state retrains
  show execThlTrain t s = _
  simp [execThlTrain, on, trains, ok]

/-- One that finds an error leaves the link down, with the error shown and a longer back-off. -/
theorem exec_thlTrain_of_err {err : Nat} (trains : s.getF (.thl .statusState) = 1 ∨ s.getF (.thl .statusState) = 3)
    (found : thlErr t lanes = err) (refused : err ≠ 0) :
    exec (.thlTrain t) s = .next (
      let u := ((s.thlTrained lanes err t).setF (.thl .statusState) 0 0).setF (.thl .statusTrainErr) 0 err
      { u with thl := { u.thl with trainBackoff := nextBackoff u.thl.trainBackoff } }) := by
  subst locked found
  show execThlTrain t s = _
  simp [execThlTrain, on, trains, refused]

end

/-! ### Loss of the link (R233, R251) -/

/-- A link that is lost shows TRAINING where it was retraining (log entry 138); what waits for the host is dropped, the host's rings are
disabled, and the tokens of host rings go (log entry 139). -/
theorem exec_hostLinkLoss_of_down {s u : State} (on : s.isOn .iod = true) (down : s.getF (.thl .statusState) ≠ 2)
    (dropped : u = (if s.getF (.thl .statusState) = 3 then s.setF (.thl .statusState) 0 1 else s).dropHost) :
    exec .hostLinkLoss s = .next (
      let t := ((List.range 512).filter fun r => u.cqHost r && u.flag (.wiq .ringCtrlEnable) r).foldl (fun s r => s.enableWrite r 0) u
      (t.clu.map (·.1)).foldl (fun s c => s.hostTokens c) t) := by
  subst dropped
  refine congrArg Host.Outcome.next (if_pos ?_)
  rw [on, Bool.true_and, bne_iff_ne]
  exact down

/-! ### The host watchdog (R250) -/

theorem exec_hostWatchdogExpiry_of_armed {s t : State} (on : s.isOn .iod = true) (armed : s.getF (.thl .hostWdTimeoutS) ≠ 0)
    (heard : s.flag (.thl .statusHostSilent) = false)
    (silent : t = (s.setF (.thl .statusHostSilent) 0 1).postMod 7 (s.getF (.thl .hostWdTimeoutS))) :
    exec .hostWatchdogExpiry s = .next (if t.flag (.thl .hostWdAction) then t.parkCommand else t) := by
  subst silent
  refine congrArg Host.Outcome.next (if_pos ?_)
  simp only [on, heard, bne_iff_ne.2 armed, Bool.not_false, Bool.and_self]

/-! ### Held event records (R248) -/

section
variable {s : State} (slot : s.evqSlotFree = true)
include slot

/-- The oldest held record takes the free slot while no event has been dropped. -/
theorem exec_heldEventWrite_of_held (complete : s.thl.droppedSince = 0) (still : s.writeHeld.thl.droppedSince = 0) :
    exec .heldEventWrite s = .next s.writeHeld := by
  show execHeldEventWrite s = _
  simp [execHeldEventWrite, slot, complete, still]

/-- OVERFLOW takes it once a record held before the drop has left (log entry 140). -/
theorem exec_heldEventWrite_of_overflow (dropped : s.thl.droppedSince ≠ 0) (left : s.thl.heldEvents.length < 64) :
    exec .heldEventWrite s = .next s.writeOverflow := by
  show execHeldEventWrite s = _
  simp [execHeldEventWrite, slot, dropped, left]

end

/-! ### Interrupt hold-off (R247) -/

/-- The interval of a vector ends; an INT that was raised in it, and is still pending and enabled, is sent and opens the next. -/
theorem exec_irqHoldoffExpiry_of_held {s t : State} {v : Nat} (held : v ∈ s.thl.holdoff)
    (ended : t = { s with thl := { s.thl with
      holdoff := s.thl.holdoff.filter fun x => x ≠ v, irqWaiting := s.thl.irqWaiting.filter fun x => x ≠ v } }) :
    exec (.irqHoldoffExpiry v) s = .next (
      if v ∈ s.thl.irqWaiting ∧ (t.getF (.thl .irqStatusPending)).testBit v = true ∧ (t.getF (.thl .irqEnEn)).testBit v = true then
        let u := t.sendHost (intPkt v)
        { u with thl := { u.thl with holdoff := u.thl.holdoff ++ [v] } }
      else t) := by
  subst ended
  show execIrqHoldoffExpiry v s = _
  simp [execIrqHoldoffExpiry, held, and_assoc]

/-! ### The statement -/

/-- Settles O47: each clause is what its command does while IOD is on, a slot of the event ring is free, or the interval of a vector ends.
That a lost link shows TRAINING, which tokens go with the host link, and the slot that OVERFLOW takes are the model's choices (log entries
138 to 140). -/
theorem hostLinkCommandsComplete : Obligations.HostLinkCommandsComplete := by
  refine ⟨?trains, ?retrains, ?refused, ?retrainWrite, ?lost, ?lostRetraining, ?commit, ?watchdog, ?heartbeat, ?consWrite, ?heldEvent,
    ?overflow, ?holdoffEnds, ?holdoffSends⟩
  case trains => exact fun s t lanes on state locked ok => exec_thlTrain_of_ok on locked state (.inl rfl) rfl ok
  case retrains => exact fun s t lanes on state locked ok => exec_thlTrain_of_ok on locked state (.inr rfl) rfl ok
  case refused => exact fun s t lanes err on trains locked found refused => exec_thlTrain_of_err on locked trains found refused
  case retrainWrite => exact fun s on => congrArg Host.Outcome.next (if_pos on)
  case lost =>
    intro s on state
    have still : ¬s.getF (.thl .statusState) = 3 := by rw [state]; decide
    exact exec_hostLinkLoss_of_down on (by rw [state]; decide) (by rw [if_neg still])
  case lostRetraining =>
    exact fun s u on state dropped => exec_hostLinkLoss_of_down on (by rw [state]; decide) (by rw [if_pos state, dropped])
  case commit => exact fun s on => congrArg Host.Outcome.next (if_pos on)
  case watchdog => exact fun s t on armed heard silent => exec_hostWatchdogExpiry_of_armed on armed heard silent
  case heartbeat => exact fun s on => congrArg Host.Outcome.next (if_pos on)
  case consWrite => exact fun s value on => congrArg Host.Outcome.next (if_pos on)
  case heldEvent => exact fun s slot complete still => exec_heldEventWrite_of_held slot complete still
  case overflow => exact fun s slot dropped left => exec_heldEventWrite_of_overflow slot dropped left
  case holdoffEnds =>
    intro s v held quiet
    rw [exec_irqHoldoffExpiry_of_held held rfl, if_neg fun raised => quiet raised.1]
  case holdoffSends =>
    intro s v t held waits ended pending enabled
    rw [exec_irqHoldoffExpiry_of_held held ended, if_pos ⟨waits, pending, enabled⟩]

end Sys2Proof.Machine
end

section
/-!
PROOFS. The mailbox: what each command does at its doorbell, and how long commands end (R22, R95, R241 to R246, R260, R396, R434).
-/

namespace Sys2Proof.Machine

/-! ### Commands at the doorbell (R241, R244) -/

/-- A command whose doorbell the mailbox takes runs there (log entry 147). -/
theorem exec_of_doorbell {i : Instr} {s t : State} {op : Nat} {e : MbxEnv} (meaning : exec i s = .next (s.ringFor op e))
    (taken : s.mbxTakes op = true) (effect : s.mbxBegun.mbxExecute op e = t) : exec i s = .next t := by
  rw [meaning, State.ringFor_of_takes taken, effect]

section
variable {s : State} {e : MbxEnv}

/-- RESUME is refused with STATE while a quiesce, a leak or a removal bars it (log entry 146). -/
theorem State.mbxExecute_resume :
    s.mbxExecute 0x07 e = if s.resumeBarred then s.mbxRespond 2 [] else s.resume.mbxRespond 0 [] := by
  simp only [State.mbxExecute]

/-- So is UNPARK; one that is not barred leaves the park, if the module is parked. -/
theorem State.mbxExecute_unpark :
    s.mbxExecute 0x09 e =
      if s.resumeBarred then s.mbxRespond 2 [] else (if s.power.parked then s.leavePark else s).mbxRespond 0 [] := by
  simp only [State.mbxExecute]

theorem State.mbxExecute_remove :
    s.mbxExecute 0x0A e =
      if s.flag (.mod .removeRequest) then s.mbxRespond 2 [] else (s.startRemoval 1).mbxRespond 0 [] := by
  simp only [State.mbxExecute]

theorem State.mbxExecute_memFree :
    s.mbxExecute 0x0C e =
      if (s.thl.extents.any fun x => x.handle == s.mbxParam 8 4) = true then
        (s.journalAdd ⟨extentEntry, [0x0C, s.mbxParam 8 4]⟩).mbxRan 0 []
      else s.mbxRespond 0xA [] := by
  simp only [State.mbxExecute, State.memFree]

theorem State.mbxExecute_kilnHandover :
    s.mbxExecute 0x0F e =
      if s.standbyHealthy then (s.mbxRespond 0 (leBytes 1 (1 - s.activeIdx))).planHandover 1 else s.mbxRespond 2 [] := by
  simp only [State.mbxExecute, State.handoverCommand]

theorem State.mbxExecute_partnerQuery :
    s.mbxExecute 0x10 e = if s.sec.orderP then s.mbxRespond 0 s.partnerData else s.mbxRespond 3 [] := by
  simp only [State.mbxExecute]

end

/-! ### The end of a command (R242) -/

/-- A long command that has run, and whose report is acknowledged, is answered. -/
theorem exec_mbxLongComplete_of_ran {s : State} {st : Nat} {data : List Byte} (acts : s.kilnActs = true) (runs : s.thl.mbxRun = true)
    (busy : s.getF (.thl .mbxStateState) = 2) (reported : s.reportPending = false)
    (ran : s.configCommit.thl.mbxResult = some (st, data)) :
    exec .mbxLongComplete s = .next ((s.configCommit.setF (.thl .mbxStateProgress) 0 100).mbxRespond st data) := by
  show execMbxLongComplete s = _
  simp only [execMbxLongComplete, acts, runs, busy, reported, ran, beq_self_eq_true, Bool.not_false, Bool.and_self, if_true]

theorem exec_mbxCommandTimeout_of_runs {s : State} (acts : s.kilnActs = true) (runs : s.thl.mbxRun = true) :
    exec .mbxCommandTimeout s = .next s.mbxTimeout := by
  refine congrArg Host.Outcome.next (if_pos ?_)
  rw [acts, runs, Bool.and_self]

/-! ### The statement -/

/-- Settles O48: each command is its effect at a doorbell that the mailbox takes, refused where its rule says; a long one is answered when
it has run, and every one at its limit. That a command runs at its doorbell, and what bars RESUME and UNPARK, are the model's choices
(log entries 146 and 147). -/
theorem mailboxCommandsComplete : Obligations.MailboxCommandsComplete := by
  refine ⟨?getInfo, ?getStatus, ?configure, ?imageUpdate, ?memTest, ?drain, ?resume, ?resumeRefused, ?park, ?unpark, ?remove, ?memAlloc,
    ?memFree, ?memFreeRefused, ?attest, ?caskRead, ?handover, ?handoverRefused, ?partnerQuery, ?partnerQueryRefused, ?longComplete,
    ?timeout⟩
  case getInfo | getStatus | configure | imageUpdate | memTest | drain | park | memAlloc | attest | caskRead =>
    intros
    exact exec_of_doorbell rfl ‹_› (by simp only [State.mbxExecute])
  case resume =>
    exact fun s taken free => exec_of_doorbell rfl taken (State.mbxExecute_resume.trans (if_neg (Bool.eq_false_iff.1 free)))
  case resumeRefused =>
    exact fun s taken barred => exec_of_doorbell rfl taken (State.mbxExecute_resume.trans (if_pos barred))
  case unpark =>
    intro s taken free parked
    refine exec_of_doorbell rfl taken (State.mbxExecute_unpark.trans ?_)
    rw [if_neg (Bool.eq_false_iff.1 free), if_pos parked]
  case remove =>
    exact fun s taken first => exec_of_doorbell rfl taken (State.mbxExecute_remove.trans (if_neg (Bool.eq_false_iff.1 first)))
  case memFree =>
    exact fun s taken held => exec_of_doorbell rfl taken (State.mbxExecute_memFree.trans (if_pos held))
  case memFreeRefused =>
    exact fun s taken unknown =>
      exec_of_doorbell rfl taken (State.mbxExecute_memFree.trans (if_neg (Bool.eq_false_iff.1 unknown)))
  case handover =>
    exact fun s taken healthy => exec_of_doorbell rfl taken (State.mbxExecute_kilnHandover.trans (if_pos healthy))
  case handoverRefused =>
    exact fun s taken unhealthy =>
      exec_of_doorbell rfl taken (State.mbxExecute_kilnHandover.trans (if_neg (Bool.eq_false_iff.1 unhealthy)))
  case partnerQuery =>
    exact fun s taken fitted => exec_of_doorbell rfl taken (State.mbxExecute_partnerQuery.trans (if_pos fitted))
  case partnerQueryRefused =>
    exact fun s taken absent =>
      exec_of_doorbell rfl taken (State.mbxExecute_partnerQuery.trans (if_neg (Bool.eq_false_iff.1 absent)))
  case longComplete =>
    exact fun s st data acts runs busy reported ran => exec_mbxLongComplete_of_ran acts runs busy reported ran
  case timeout => exact fun s acts runs => exec_mbxCommandTimeout_of_runs acts runs

end Sys2Proof.Machine
end

section
/-!
PROOFS. The interlock: which commands leave the holder of ACT_OWN alone, who holds it after a claim, a release, a missed strobe and a
reset, and how takeovers complete (R254, R257, R262 to R266, R272).
-/

namespace Sys2Proof.Machine

/-! ### The holder of ACT_OWN -/

/-- Of the parts that Laws/Same.lean speaks of, the holder of ACT_OWN alone. -/
def onlyHolder (a : Aspect) : Prop := a = .own

theorem not_onlyHolder_mem : ¬onlyHolder .mem := nofun

theorem Same.active {s t : State} (h : Same onlyHolder s t) : t.active = s.active := h.own rfl

/-- The interlock goes to NONE from every state (R254). -/
theorem State.active_toNone (s : State) (cause : Nat) : (s.toNone cause).active = none := by
  unfold State.toNone
  split
  · assumption
  · rfl

/-- A Kiln that resets gives the interlock to nobody. -/
theorem State.active_startRestart (s : State) (k : Kiln) (cause : Nat) : (s.startRestart k cause).active = s.active :=
  (State.startRestart_same (Same.refl onlyHolder s)).active

theorem State.active_grantOwn (s : State) (k : Kiln) : (s.grantOwn k).active = some k := by
  unfold State.grantOwn
  refine (State.alertClear_same (State.setF_same (State.setF_same (State.setF_same (State.setF_same (State.setF_same
    (State.showHealth_same (State.setAge_same (Same.refl ..)))))))) : Same onlyHolder _ _).active.trans ?_
  rfl

/-- After the grant a takeover leaves the holder alone: it continues what the other Kiln did, and tells of it. -/
theorem State.takeOver_same_grantOwn (s : State) (k : Kiln) : Same onlyHolder ((s.cleHandover k).grantOwn k) (s.takeOver k) := by
  have continued {u : State} (moved : Bool) :
      Same onlyHolder u ((if moved then u.swapEngines.fromFrame k else u).caskTakeover k).postOwed :=
    State.postOwed_same (State.caskTakeover_same
      (Same.ite (State.fromFrame_same (State.swapEngines_same (Same.refl _ u))) (Same.refl _ u)))
  have counted {u t : State} (cause : Nat) (stale : Bool) (h : Same onlyHolder u t) :
      Same onlyHolder u (let c := (t.addSat (.kln .handoversCount) (kilnIdx k) 1).setF (.kln .handoversLastCause) (kilnIdx k) cause
        if stale then c.goStale k else c) :=
    Same.ite (State.goStale_same (State.setF_same (State.addSat_same h))) (State.setF_same (State.addSat_same h))
  unfold State.takeOver
  refine Same.ite (continued _) (Same.ite (State.startRestart_same ?told) ?told)
  exact State.hotNPending_same not_onlyHolder_mem (State.refactor_same (State.mbxHandover_same (State.noOwnerEnd_same
    (State.klnEvent_same (counted _ _ (continued _))))))

/-- A Kiln that takes over holds ACT_OWN (R254). -/
theorem State.active_takeOver (s : State) (k : Kiln) : (s.takeOver k).active = some k :=
  (s.takeOver_same_grantOwn k).active.trans (State.active_grantOwn ..)

/-- The holder's release leads to NONE, under R262 as after a planned handover (R264). -/
theorem State.active_release {s : State} {k : Kiln} (holds : s.kln.owner = some k) (cause : Nat) : (s.release k cause).active = none := by
  unfold State.release
  rw [if_pos holds]
  split
  · exact (State.active_startRestart ..).trans (State.active_toNone ..)
  · exact (State.becomeStandby_same (Same.refl onlyHolder _)).active.trans (State.active_toNone ..)

/-- While a Kiln holds ACT_OWN no Kiln may take it. -/
theorem State.canTake_of_held {s : State} (held : s.active.isSome = true) (k : Kiln) : s.canTake k = false := by
  rw [State.canTake, Option.isNone_eq_false_iff.2 held, Bool.and_false, Bool.false_and]

/-- Of two claims that of the Kiln that did not hold ACT_OWN last wins, and the first goes to KA (R254). -/
theorem State.claimWinner_eq (s : State) : s.claimWinner = if s.kln.lastOwner = some .ka then .kb else .ka := by
  unfold State.claimWinner
  match s.kln.lastOwner with
  | none => rfl
  | some .ka => rfl
  | some .kb => rfl

/-! ### Claims (R254, R264 to R266) -/

section
variable {s : State} {ka kb : Bool}

theorem exec_actOwnClaim_of_both (takesA : s.canTake .ka = true) (takesB : s.canTake .kb = true) :
    exec (.actOwnClaim true true) s = .next (s.takeOver s.claimWinner) := by
  show execActOwnClaim true true s = _
  simp only [execActOwnClaim, takesA, takesB, Bool.and_self]

theorem exec_actOwnClaim_of_ka (takesA : s.canTake .ka = true) (alone : (kb && s.canTake .kb) = false) :
    exec (.actOwnClaim true kb) s = .next (s.takeOver .ka) := by
  show execActOwnClaim true kb s = _
  simp only [execActOwnClaim, takesA, alone, Bool.and_self]

theorem exec_actOwnClaim_of_kb (takesB : s.canTake .kb = true) (alone : (ka && s.canTake .ka) = false) :
    exec (.actOwnClaim ka true) s = .next (s.takeOver .kb) := by
  show execActOwnClaim ka true s = _
  simp only [execActOwnClaim, takesB, alone, Bool.and_self]

theorem exec_actOwnClaim_of_held (held : s.active.isSome = true) : exec (.actOwnClaim ka kb) s = .next s := by
  show execActOwnClaim ka kb s = _
  simp only [execActOwnClaim, State.canTake_of_held held, Bool.and_false]

end

section
variable {s : State} {k : Kiln}

theorem exec_standbyClaim_of_healthy (takes : s.canTake k = true) (healthy : s.healthy k = true) :
    exec (.standbyClaim k) s = .next (s.takeOver k) :=
  congrArg Host.Outcome.next (if_pos (by rw [takes, healthy, Bool.and_self]))

theorem exec_staleClaim_of_stale (takes : s.canTake k = true) (stale : s.staleFor k = true) :
    exec (.staleClaim k) s = .next (s.takeOver k) :=
  congrArg Host.Outcome.next (if_pos (by rw [takes, stale, Bool.and_self]))

/-- A planned handover that nobody has claimed goes back to the old holder: it counts no takeover and clears RESTART (R264, log
entry 126). -/
theorem exec_handoverClaimTimeout_of_planned (last : s.kln.lastOwner = some k) (takes : s.canTake k = true)
    (planned : s.kln.noneCause = 1 ∨ s.kln.noneCause = 2) :
    exec .handoverClaimTimeout s = .next (
      (((((s.grantOwn k).caskTakeover k).postOwed).mbxHandover).setF (.kln .ctrlRestart) (kilnIdx k) 0).klnEvent 2 1 (kilnIdx k)) := by
  show execHandoverClaimTimeout s = _
  simp [execHandoverClaimTimeout, last, takes, planned]

/-- A Kiln that has met R269 since its restart is eligible again, and claims in NONE while its state is fresh (R263, R266, log
entry 131). -/
theorem exec_kilnEligible_of_been (on : s.isOn .aux = true) (barred : (s.kln.kiln k).barred = true) (up : (s.kln.kiln k).up = true)
    (been : (s.kln.kiln k).been = true) :
    exec (.kilnEligible k) s = .next (
      let t := (s.modKiln k fun n => { n with barred := false }).setF (.kln .roleEligible) (kilnIdx k) 1
      if t.active.isNone && !t.staleFor k then t.takeOver k else t) :=
  congrArg Host.Outcome.next (if_pos (by simp only [on, barred, up, been, Bool.and_self]))

/-! ### The way to NONE, and 10 s in it (R254, R257, R262, R272) -/

/-- A holder that misses its strobe restarts, with cause 2 in KLN_RESTARTS (log entry 108). -/
theorem exec_strobeTimeout_of_held (holds : s.active = some k) : exec .strobeTimeout s = .next ((s.toNone 4).startRestart k 2) := by
  show execStrobeTimeout s = _
  simp only [execStrobeTimeout, holds]

theorem exec_holderReset_of_held (holds : s.active = some k) : exec .holderReset s = .next ((s.toNone 5).startRestart k 2) := by
  show execHolderReset s = _
  simp only [execHolderReset, holds]

end

/-- After 10 s in NONE the valves, the caps and the quiesce go to their safe side, once (R272). -/
theorem exec_noOwnerTimeout_of_none {s : State} (on : s.isOn .aux = true) (nobody : s.active = none)
    (first : s.flag (.kln .ownerQuiesce) = false) :
    exec .noOwnerTimeout s = .next (
      let t := [0, 1, 2, 3].foldl (fun s n => if s.isOn (.core n) then s.modDie n fun d => { d with capUw := min d.capUw (175 * watt) } else s)
        ((s.setF (.drv .statusMode) 0 2).applyDrive)
      ((t.setF (.kln .ownerQuiesce) 0 1).quiesceNow 2).setF (.row .alertAsserted) 0 1) :=
  congrArg Host.Outcome.next (if_pos (by simp only [on, nobody, first, Option.isNone_none, Bool.not_false, Bool.and_self]))

/-! ### The statements -/

/-- Settles O13: a command outside the list leaves the owner that the interlock keeps as it was. -/
theorem holderIsLeftAlone : Obligations.HolderIsLeftAlone := by
  intro c s t hc h
  have same : Same onlyHolder s t :=
    Same.eqX h (exec_same c nofun nofun nofun (fun _ => hc) nofun (Same.refl _ s))
  exact same.active

/-- Settles O23: a claim that is granted is a takeover, and a takeover ends with its Kiln as the holder; a release and a missed strobe go
through NONE. -/
theorem interlockTable : Obligations.InterlockTable := by
  refine ⟨?ka, ?kb, ?both, ?release, ?strobe, ?held⟩
  case ka => exact fun s takes => ⟨_, exec_actOwnClaim_of_ka takes (Bool.false_and _), s.active_takeOver .ka⟩
  case kb => exact fun s takes => ⟨_, exec_actOwnClaim_of_kb takes (Bool.false_and _), s.active_takeOver .kb⟩
  case both =>
    intro s takesA takesB
    refine ⟨_, exec_actOwnClaim_of_both takesA takesB, ?_⟩
    rw [State.active_takeOver, s.claimWinner_eq, apply_ite some]
  case release => exact fun s k holds => ⟨_, rfl, State.active_release holds _⟩
  case strobe =>
    intro s held
    obtain ⟨k, holds⟩ := Option.isSome_iff_exists.1 held
    exact ⟨_, exec_strobeTimeout_of_held holds, (State.active_startRestart ..).trans (s.active_toNone 4)⟩
  case held => exact fun s a b held => exec_actOwnClaim_of_held held

/-- Settles O49: each clause is what its command does when its condition holds. The cause of a restart after a missed strobe or a reset,
what a reclaim counts and clears, and what eligibility asks for are the model's choices (log entries 108, 126 and 131). -/
theorem interlockCommandsComplete : Obligations.InterlockCommandsComplete := by
  refine ⟨?both, ?ka, ?kb, fun s k holds => rfl, ?strobe, ?reset, ?standby, ?stale, ?reclaim, ?eligible, ?noOwner⟩
  case both =>
    rintro s _ _ rfl rfl takesA takesB
    exact exec_actOwnClaim_of_both takesA takesB
  case ka =>
    rintro s _ kb rfl takesA alone
    exact exec_actOwnClaim_of_ka takesA alone
  case kb =>
    rintro s ka _ rfl takesB alone
    exact exec_actOwnClaim_of_kb takesB alone
  case strobe => exact fun s k holds => exec_strobeTimeout_of_held holds
  case reset => exact fun s k holds => exec_holderReset_of_held holds
  case standby => exact fun s k takes healthy => exec_standbyClaim_of_healthy takes healthy
  case stale => exact fun s k takes stale => exec_staleClaim_of_stale takes stale
  case reclaim => exact fun s k last takes planned => exec_handoverClaimTimeout_of_planned last takes planned
  case eligible => exact fun s k on barred up been => exec_kilnEligible_of_been on barred up been
  case noOwner => exact fun s on nobody first => exec_noOwnerTimeout_of_none on nobody first

end Sys2Proof.Machine
end

section
/-!
PROOFS. The Kilns and the dies they watch: state frames, health words, restarts, divergence, heartbeats and errors of a die (R256, R259,
R261, R262, R268 to R271, R273, R274, R280).
-/

namespace Sys2Proof.Machine

/-! ### Frames, health words and divergence (R256, R259, R261, R268 to R270) -/

section
variable {s : State} {k : Kiln}

/-- A frame that reaches a standby whose image runs is taken if it is good, and discarded otherwise. -/
theorem exec_stateFrame_of_standby {f : Frame} (verOk crcOk : Bool) (receiver : s.receiver = some k) (sent : s.kln.sent = some f)
    (on : s.isOn .aux = true) (up : (s.kln.kiln k).up = true) (standby : s.getF (.kln .roleRole) (kilnIdx k) = 1) :
    exec (.stateFrame verOk crcOk) s = .next (if s.frameGood k f (verOk && crcOk) then s.acceptFrame k f else s.discardFrame k) := by
  show execStateFrame verOk crcOk s = _
  simp [execStateFrame, receiver, sent, on, up, standby]

section
variable (standby : s.standby = some k) (on : s.isOn .aux = true)
include standby on

theorem exec_healthWord_of_standby (bits : Nat) (up : (s.kln.kiln k).up = true) :
    exec (.healthWord bits) s = .next (
      ((s.modKiln k fun n => { n with health := (bits &&& reportedBits) ||| (n.health &&& 0xD0) }).evalHealth k).showStandby k) := by
  show execHealthWord bits s = _
  simp only [execHealthWord, standby, on, up, Bool.and_self, if_true]

theorem exec_divergence_of_standby (loop : Nat) (up : (s.kln.kiln k).up = true) :
    exec (.divergence loop) s = .next (
      (s.modKiln k fun n => { n with divLoop := loop % 256, divCount := min (n.divCount + 1) 65535 }).diverge k loop) := by
  show execDivergence loop s = _
  simp only [execDivergence, standby, on, up, Bool.and_self, if_true]

/-- The loss of the standby is told once (R269). -/
theorem exec_standbyLostTimer_of_unhealthy (unhealthy : s.shownHealthy k = false) (first : s.kln.standbyLost = false) :
    exec .standbyLostTimer s = .next (({ s with kln := { s.kln with standbyLost := true } } : State).klnEvent 3 1 (s.healthOf k) 9) := by
  show execStandbyLostTimer s = _
  simp only [execStandbyLostTimer, standby, on, unhealthy, first, Bool.not_false, Bool.and_self, if_true]

end

/-- An unconfirmed fall of the standby is dropped, and the standby counts as diverged; the KLN_DIVERGE registers stay (R256, log
entry 128). -/
theorem exec_protectConfirmTimeout_of_unconfirmed {a : Kiln} (acts : s.active = some a) (fall : s.kln.unconfirmed = some k) :
    exec .protectConfirmTimeout s = .next (
      (((({ s with kln := { s.kln with unconfirmed := none } } : State).dropProtect 4).diverge k 0xFF).setF (.kln .healthDiverge) (kilnIdx k) 1).setF
        (.kln .roleHealthy) (kilnIdx k) 0) := by
  show execProtectConfirmTimeout s = _
  simp only [execProtectConfirmTimeout, acts, fall]

/-! ### Restarts (R262, R264, R271) -/

/-- A Kiln that does not kick its watchdog is reset; if it is the holder, it loses ACT_OWN first. -/
theorem exec_kilnWatchdog_of_up (on : s.isOn .aux = true) (up : (s.kln.kiln k).up = true) :
    exec (.kilnWatchdog k) s = .next ((if s.active = some k then s.toNone 5 else s).startRestart k 1) :=
  congrArg Host.Outcome.next (if_pos (by rw [on, up, Bool.and_self]))

theorem exec_kilnRestart_of_reset (on : s.isOn .aux = true) (reset : s.getF (.kln .roleRole) (kilnIdx k) = 0) :
    exec (.kilnRestart k) s = .next (s.bootKiln k) :=
  congrArg Host.Outcome.next (if_pos (by simp only [on, reset, beq_self_eq_true, Bool.and_self]))

end

/-! ### The dies (R273, R274) -/

section
variable {s : State} {d : Nat} (mesh : Bool) (acts : s.kilnActs = true) (on : s.dieOn d = true)
include acts on

/-- A stall clears ALIVE, and the third restart within an operating hour fails the die (log entry 129). -/
theorem exec_dieHbStall_of_works {t : State} (works : s.dieFailed d = false)
    (told : t = ((s.addSat (.kln .dieErrHbRestarts) d 1).clearBit (.kln .dieHbAlive) 0 d).klnEvent 8 1 d) :
    exec (.dieHbStall d mesh) s = .next (if 3 ≤ t.getF (.kln .dieErrHbRestarts) d then t.dieFails d 1 mesh else t) := by
  subst told
  exact congrArg Host.Outcome.next (if_pos (by rw [acts, on, works, Bool.not_false, Bool.and_self, Bool.and_self]))

theorem exec_dieHbFail_of_works (works : s.dieFailed d = false) : exec (.dieHbFail d mesh) s = .next (s.dieFails d 1 mesh) :=
  congrArg Host.Outcome.next (if_pos (by rw [acts, on, works, Bool.not_false, Bool.and_self, Bool.and_self]))

/-- A fatal error fails a compute die; the I/O die restarts as it does after a clock fault (log entry 124). -/
theorem exec_dieFatal_of_on :
    exec (.dieFatal d mesh) s = .next (
      if d = 4 then (s.setBit (.kln .dieHbFatal) 0 d).clockFault 2 else (s.setBit (.kln .dieHbFatal) 0 d).dieFails d 2 mesh) :=
  congrArg Host.Outcome.next (if_pos (by rw [acts, on, Bool.and_self]))

end

theorem exec_dieCe_of_acts {s : State} {d : Nat} (acts : s.kilnActs = true) (die : d < 5) :
    exec (.dieCe d) s = .next (s.addSat (.kln .dieErrCeCount) d 1) :=
  congrArg Host.Outcome.next (if_pos (by rw [acts, decide_eq_true die, Bool.and_self]))

/-! ### The statement -/

/-- Settles O50: each clause is what its command does when its condition holds. What a fatal I/O die runs, what an unconfirmed fall leaves
in the registers, and when ALIVE ends are the model's choices (log entries 124, 128 and 129). -/
theorem kilnCommandsComplete : Obligations.KilnCommandsComplete := by
  refine ⟨?discard, ?accept, ?health, ?watchdogHolder, ?watchdogOther, ?handoverWrite, ?restartWrite, ?restart, ?standbyLost,
    ?divergence, ?unconfirmed, ?stall, ?thirdStall, ?silent, ?fatal, ?fatalIod, ?corrected, ?inventory⟩
  case discard =>
    intro s verOk crcOk k f receiver sent on up standby bad
    rw [exec_stateFrame_of_standby verOk crcOk receiver sent on up standby, if_neg (Bool.eq_false_iff.1 bad)]
  case accept =>
    intro s verOk crcOk k f receiver sent on up standby good
    rw [exec_stateFrame_of_standby verOk crcOk receiver sent on up standby, if_pos good]
  case health => exact fun s bits k standby on up => exec_healthWord_of_standby standby on bits up
  case watchdogHolder =>
    intro s k on up holds
    rw [exec_kilnWatchdog_of_up on up, if_pos holds]
  case watchdogOther =>
    intro s k on up other
    rw [exec_kilnWatchdog_of_up on up, if_neg other]
  case handoverWrite => exact fun s k acts => congrArg Host.Outcome.next (if_pos acts)
  case restartWrite => exact fun s k acts => congrArg Host.Outcome.next (if_pos acts)
  case restart => exact fun s k on reset => exec_kilnRestart_of_reset on reset
  case standbyLost => exact fun s k standby on unhealthy first => exec_standbyLostTimer_of_unhealthy standby on unhealthy first
  case divergence => exact fun s loop k standby on up => exec_divergence_of_standby standby on loop up
  case unconfirmed => exact fun s k a acts fall => exec_protectConfirmTimeout_of_unconfirmed acts fall
  case stall =>
    intro s d mesh t acts on works told few
    rw [exec_dieHbStall_of_works mesh acts on works told, if_neg (Nat.not_le.2 few)]
  case thirdStall =>
    intro s d mesh t acts on works told third
    rw [exec_dieHbStall_of_works mesh acts on works told, if_pos third]
  case silent => exact fun s d mesh acts on works => exec_dieHbFail_of_works mesh acts on works
  case fatal =>
    intro s d mesh acts on compute
    rw [exec_dieFatal_of_on mesh acts on, if_neg (Nat.ne_of_lt compute)]
  case fatalIod =>
    rintro s _ mesh acts on rfl
    rw [exec_dieFatal_of_on mesh acts on, if_pos rfl]
  case corrected => exact fun s d acts die => exec_dieCe_of_acts acts die
  case inventory => exact fun s acts => congrArg Host.Outcome.next (if_pos acts)

end Sys2Proof.Machine
end

section
/-!
PROOFS. The sensors and the leak loops: substitution and restoring, pairs that disagree, a suspect zone model, leaks suspected and
confirmed, and the query (R282, R288 to R293, R297, R298, R310, R429).
-/

namespace Sys2Proof.Machine

section
variable {s : State} {id : Nat} (acts : s.kilnActs = true)
include acts

/-! ### Standing of a sensor (R288 to R291, R429) -/

/-- Of the named sensors, those that meet the condition are substituted; humidity aside, no warning comes with it. A silent converter or
die has one event for all its sensors, otherwise each sensor has its own. -/
theorem exec_sensorSubstitute_of_found {ids l : List Nat} {why change : Nat} {silent : Bool} {t : State}
    (found : (ids.filter fun id => s.substitutable id why change silent) = id :: l)
    (noHumidity : ((id :: l).any fun id => sensClass id == 8) = false) (stood : t = (id :: l).foldl (fun s id => s.substitute id why) s) :
    exec (.sensorSubstitute ids why change silent) s = .next (
      (if why = 3 ∧ silent = true then t.coolEvent 3 1 (l.foldl min id + 2 ^ 16 * (id :: l).length)
        else (id :: l).foldl (fun s id => s.sensEvent id why) t).refresh.refactor) := by
  subst stood
  show execSensorSubstitute ids why change silent s = _
  unfold execSensorSubstitute
  rw [if_pos acts, found]
  exact congrArg Host.Outcome.next (if_neg (Bool.eq_false_iff.1 noHumidity))

/-- A good sensor returns to use, unless it has been substituted three times in an operating hour: then only the event tells of it
(log entry 113). -/
theorem exec_sensorRestore_of_good (out : (s.sensRec id).state ≠ 0) (reference : id ∉ s.bst.ptBad) (plausible : s.implausible id = false)
    (inRange : s.atRangeEnd id = false) :
    exec (.sensorRestore id) s = .next (
      if (s.sensRec id).kept = true then s.coolEvent 5 0 (id + 2 ^ 16)
      else ((s.setSens id { s.sensRec id with state := 0, subst := false, masked := false }).coolEvent 5 0 id).refresh.refactor) := by
  refine congrArg Host.Outcome.next (if_pos ?_)
  simp only [acts, bne_iff_ne.2 out, List.contains_eq_mem, reference, plausible, inRange, decide_false, Bool.not_false, Bool.and_self]

/-! ### Pairs and the model of a zone (R292, R293) -/

theorem exec_sensorDisagree_of_differs {diff : Nat} (compared : comparedPair id = true) (unflagged : (s.sensRec id).disagree = false)
    (inUse : s.subst id = false) (nextInUse : s.subst (id + 1) = false) (differs : (if sensClass id = 3 then 50 else 64) < diff) :
    exec (.sensorDisagree id diff) s = .next (
      ((s.setDisagree id true).addSat (.cle .sensCountDisagree) 0 1).coolEvent 4 1 (id + 2 ^ 16 * (diff % 2 ^ 16))) := by
  refine congrArg Host.Outcome.next (if_pos ?_)
  simp only [acts, compared, unflagged, inUse, nextInUse, gt_iff_lt, differs, decide_true, Bool.not_false, Bool.and_self]

/-- Meters clear at a difference of no more than 0.5 L/min, the limit above which they are flagged (log entry 177). -/
theorem exec_disagreeClear_of_agrees (compared : comparedPair id = true) (flagged : (s.sensRec id).disagree = true)
    (agrees : (s.rawOf id - s.rawOf (id + 1)).natAbs < if sensClass id = 3 then 51 else 48) :
    exec (.disagreeClear id) s = .next (s.setDisagree id false) := by
  refine congrArg Host.Outcome.next (if_pos ?_)
  simp only [acts, compared, flagged, agrees, decide_true, Bool.and_self]

theorem exec_modelSuspectEnd_of_few {z : Nat} (suspect : z ∈ s.cool.suspect) (few : s.departing z true + s.departing z false < 4) :
    exec (.modelSuspectEnd z) s = .next (
      ({ s with cool := { s.cool with suspect := s.cool.suspect.filter fun x => x ≠ z } } : State).refresh.refactor) := by
  refine congrArg Host.Outcome.next (if_pos ?_)
  simp only [acts, List.contains_eq_mem, suspect, few, decide_true, Bool.and_self]

/-! ### Leaks (R297, R298) -/

section
variable {n : Nat} (loop : n < 4)
include loop

theorem exec_leakSuspected_of_first {st : Nat} (fault : 2 ≤ st ∧ st ≤ 4) (first : (s.getF (.cle .leakSuspect)).testBit n = false) :
    exec (.leakSuspected n st) s = .next (
      ((((((s.setBit (.cle .leakSuspect) 0 n).setF (.cle .leakState) n st).setF (.cle .coolStatusLeakSuspected) 0 1).alertSet 0).refactor).coolEvent
        7 2 (n + 16 * st)).alarmNow 1 n) := by
  have named : n < 4 ∧ 2 ≤ st ∧ st ≤ 4 := ⟨loop, fault⟩
  refine congrArg Host.Outcome.next (if_pos ?_)
  simp only [acts, named, first, decide_true, and_self, Bool.not_false, Bool.and_self]

/-- LEAK_SUSPECTED and its alert end with the last suspect loop. -/
theorem exec_leakSuspectEnd_of_suspect {t : State} (suspect : (s.getF (.cle .leakSuspect)).testBit n = true)
    (ended : t = (s.clearBit (.cle .leakSuspect) 0 n).setF (.cle .leakState) n 0) :
    exec (.leakSuspectEnd n) s = .next (
      (if t.getF (.cle .leakSuspect) = 0 then (t.setF (.cle .coolStatusLeakSuspected) 0 0).alertClear 0 else t).refactor.allClear) := by
  subst ended
  refine congrArg Host.Outcome.next (if_pos ?_)
  simp only [acts, loop, suspect, decide_true, Bool.and_self]

/-- A loop that reads WET brings the floor, the quiesce and the park. The first one takes down the valves' openings, at which they stay;
with a further one the same is done again, at the openings then taken (log entry 117). -/
theorem exec_leak_of_wet {codes : List Nat} (rpm : Nat) (first : (s.getF (.cle .leakWet)).testBit n = false)
    (held : codes = if s.flag (.cle .coolStatusLeak) then s.cool.leakValves else (List.range 8).map (s.getF (.drv .valveStatusCode))) :
    exec (.leak n rpm) s = .next (
      let t : State := { s with cool := { s.cool with leakRpm := rpm, leakValves := codes } }
      let u := ((t.setBit (.cle .leakWet) 0 n).setF (.cle .leakState) n 1).setF (.cle .coolStatusLeak) 0 1
      ((((((u.floorFall 2).commandDrive codes rpm 3).quiesceNow 4).alertSet 1).coolEvent 8 2 n).alarmNow 2 n)) := by
  have taken : (if (!s.flag (.cle .coolStatusLeak)) = true then (List.range 8).map (s.getF (.drv .valveStatusCode)) else s.cool.leakValves) =
      codes := by
    rw [held]
    cases s.flag (.cle .coolStatusLeak) <;> rfl
  show execLeak n rpm s = _
  simp only [execLeak, acts, loop, first, taken, decide_true, Bool.not_false, Bool.and_self, if_true]

end

/-! ### The query (R282, R310) -/

/-- A reserved ID is taken, and leaves READY clear (log entry 115). -/
theorem exec_sensQuery_of_acts :
    exec (.sensQuery id) s = .next (
      if sensKnown id = true then s.sensQuery id else (s.setF (.cle .sensQueryId) 0 id).setF (.cle .sensResultReady) 0 0) :=
  congrArg Host.Outcome.next (if_pos acts)

end

/-! ### The statement -/

/-- Settles O51: each clause is what its command does while a Kiln acts. The limit at which a pair of meters clears, the sensor that stays
substituted, and READY = 0 for an ID that is reserved are the model's choices (log entries 177, 113 and 115). -/
theorem sensorAndLeakCommandsComplete : Obligations.SensorAndLeakCommandsComplete := by
  refine ⟨?implausibleOrFrozen, ?lostTogether, ?lostAlone, ?restore, ?kept, ?disagree, ?agree, ?modelTrusted, ?leakSuspected,
    ?leakSuspectEnd, ?leak, ?leakClear, ?query, ?queryReserved⟩
  case implausibleOrFrozen =>
    intro s ids why change silent id l acts reason found noHumidity
    have notLost : ¬(why = 3 ∧ silent = true) := by omega
    rw [exec_sensorSubstitute_of_found acts found noHumidity rfl, if_neg notLost]
  case lostTogether =>
    intro s ids why change silent id l acts lost quiet found noHumidity
    rw [exec_sensorSubstitute_of_found acts found noHumidity rfl, if_pos ⟨lost, quiet⟩, lost]
  case lostAlone =>
    intro s ids why change silent id l acts lost answers found noHumidity
    rw [exec_sensorSubstitute_of_found acts found noHumidity rfl, if_neg fun together => Bool.eq_false_iff.1 answers together.2]
  case restore =>
    intro s id acts out reference plausible inRange free
    rw [exec_sensorRestore_of_good acts out reference plausible inRange, if_neg (Bool.eq_false_iff.1 free)]
  case kept =>
    intro s id acts out reference plausible inRange kept
    rw [exec_sensorRestore_of_good acts out reference plausible inRange, if_pos kept]
  case disagree =>
    exact fun s id diff acts compared unflagged inUse nextInUse differs =>
      exec_sensorDisagree_of_differs acts compared unflagged inUse nextInUse differs
  case agree => exact fun s id acts compared flagged agrees => exec_disagreeClear_of_agrees acts compared flagged agrees
  case modelTrusted => exact fun s z acts suspect few => exec_modelSuspectEnd_of_few acts suspect few
  case leakSuspected => exact fun s n st acts loop fault first => exec_leakSuspected_of_first acts loop fault first
  case leakSuspectEnd =>
    intro s n t acts loop suspect ended last
    rw [exec_leakSuspectEnd_of_suspect acts loop suspect ended, if_pos last]
  case leak =>
    intro s n rpm acts loop first noLeak
    exact exec_leak_of_wet acts loop rpm first (if_neg (Bool.eq_false_iff.1 noLeak)).symm
  case leakClear => exact fun s dry acts => congrArg Host.Outcome.next (if_pos acts)
  case query =>
    intro s id acts known
    rw [exec_sensQuery_of_acts acts, if_pos known]
  case queryReserved =>
    intro s id acts reserved
    rw [exec_sensQuery_of_acts acts, if_neg (Bool.eq_false_iff.1 reserved)]

end Sys2Proof.Machine
end

section
/-!
PROOFS. The protection of the coolant: warnings, loss and return of flow, overpressure and HOT_N (R298 to R303, R307, R308).
-/

namespace Sys2Proof.Machine

section
variable {s : State}

section
variable (acts : s.kilnActs = true)
include acts

/-! ### Warnings (R299, R303) -/

theorem exec_coolantWarn_of_holds {bit : Nat} (holds : s.warnHolds bit = true) : exec (.coolantWarn bit) s = .next (s.warnSet bit) :=
  congrArg Host.Outcome.next (if_pos (by rw [acts, holds, Bool.and_self]))

theorem exec_coolantWarnClear_of_gone {bit : Nat} (gone : s.warnGone bit = true) :
    exec (.coolantWarnClear bit) s = .next (s.warnClear bit) :=
  congrArg Host.Outcome.next (if_pos (by rw [acts, gone, Bool.and_self]))

theorem exec_coolantWarnRepeat_of_warned (warned : s.getF (.cle .coolStatusWarn) ≠ 0) :
    exec .coolantWarnRepeat s = .next (s.sendWarn.served 3) :=
  congrArg Host.Outcome.next (if_pos (by rw [acts, bne_iff_ne.2 warned, Bool.and_self]))

/-- Overpressure stops the pumps, but under LEAK its own command to them stands; the alarm goes out with it (R298; log entry 68). -/
theorem exec_overpressure_of_high {kpa : Nat} {t : State} (high : 600 < kpa) (first : s.cool.overpressure = false)
    (noted : t = { s with cool := { s.cool with overpressure := true } }) :
    exec (.overpressure kpa) s = .next (
      ((if s.flag (.cle .coolStatusLeak) = true then t else t.commandDrive t.lastCodes 0 3).coolEvent 0x0F 2 (min kpa 4095)).alarmNow 7 0) := by
  subst noted
  refine congrArg Host.Outcome.next (if_pos ?_)
  simp only [acts, gt_iff_lt, high, first, decide_true, Bool.not_false, Bool.and_self]

/-! ### Flow (R300 to R302) -/

/-- The second readings in a row with two values below FLOW_LOSS: the floor, the valves and pumps, the state, the event and the alarm. -/
theorem exec_flowLoss_of_low {readings : List (Nat × Int)} {t u : State} (read : t = (s.takeReadings readings).refresh)
    (first : t.flag (.cle .coolStatusProtectFlow) = false) (low : 2 ≤ t.flowVotes fun q => decide (q < t.flowLimit false))
    (falls : u = (({ t with cool := { t.cool with returned := false } } : State).floorFall 1).setF (.cle .coolStatusProtectFlow) 0 1) :
    exec (.flowLoss readings) s = .next (
      let v := if u.flag (.cle .coolStatusLeak) then u else u.commandDrive (List.replicate 8 openCode) 9000 3
      let x := ((if v.getF (.cle .coolStatusState) = 0 then v.setF (.cle .coolStatusState) 0 1 else v).addSat (.cle .flowLossesCount) 0 1).alertSet 2
      (x.coolEvent 9 2 x.flowData).alarmNow 3 0) := by
  subst read falls
  refine congrArg Host.Outcome.next ((if_pos acts).trans (if_neg ?_))
  simp only [first, Nat.not_lt.2 low, decide_false, Bool.or_self, Bool.false_eq_true, not_false_eq_true]

section
variable (protecting : s.flag (.cle .coolStatusProtectFlow) = true)
include protecting

theorem exec_flowLossQuiesce_of_lost (lost : s.getF (.cle .coolStatusState) = 1) :
    exec .flowLossQuiesce s = .next (((s.setF (.cle .coolStatusState) 0 2).addSat (.cle .flowLossesQuiesces) 0 1).quiesceNow 1) :=
  congrArg Host.Outcome.next (if_pos (by simp only [acts, lost, protecting, beq_self_eq_true, Bool.and_self]))

theorem exec_flowLossPowerDown_of_quiesced (quiesced : s.getF (.cle .coolStatusState) = 2) :
    exec .flowLossPowerDown s = .next ((s.setF (.cle .coolStatusState) 0 3).computeOff) :=
  congrArg Host.Outcome.next (if_pos (by simp only [acts, quiesced, protecting, beq_self_eq_true, Bool.and_self]))

/-- Flow that returns before the quiesce ends the loss at once. -/
theorem exec_flowReturned_of_lost {tests : PowerTests} {t u : State} (high : 2 ≤ s.flowVotes fun q => decide (q > s.flowLimit true))
    (withdrawn : t = (s.setF (.cle .coolStatusProtectFlow) 0 0).dropProtect 1)
    (told : u = (t.coolEvent 0x0A 1 (t.getF (.cle .flowProt))).alarmNow 4 0) (lost : u.getF (.cle .coolStatusState) = 1) :
    exec (.flowReturned tests) s = .next (((u.setF (.cle .coolStatusState) 0 0).alertClear 2).allClear) := by
  subst withdrawn told
  show execFlowReturned tests s = _
  simp only [execFlowReturned, acts, protecting, ge_iff_le, high, decide_true, Bool.and_self, if_true, lost]

end

theorem exec_quiesceLifted_of_returned (quiesced : 2 ≤ s.getF (.cle .coolStatusState)) (returned : s.cool.returned = true)
    (withdrawn : s.flag (.cle .coolStatusProtectFlow) = false) :
    exec .quiesceLifted s = .next (((s.setF (.cle .coolStatusState) 0 0).coolantLifted.alertClear 2).allClear) := by
  refine congrArg Host.Outcome.next (if_pos ?_)
  simp only [acts, quiesced, returned, withdrawn, decide_true, Bool.not_false, Bool.and_self]

/-! ### HOT_N (R307, R308) -/

/-- The latch is released; the quiesce ends with it where flow has not been lost (log entry 116). -/
theorem exec_hotNClear_of_latched {t : State} (latched : s.flag (.cle .coolStatusHotN) = true)
    (released : t = (s.setF (.cle .coolStatusHotN) 0 0).setF (.drv .statusHotN) 0 0) :
    exec .hotNClear s = .next (
      let u := (((({ t with power := { t.power with hotN := false } } : State).dropProtect 3).applyDrive).coolEvent 0x0E 1 0).alarmNow 6 0
      (if u.getF (.cle .coolStatusState) = 0 then u.coolantLifted else u).allClear) := by
  subst released
  exact congrArg Host.Outcome.next (if_pos (by rw [acts, latched, Bool.and_self]))

end

/-- The latch, the stop of issue and the drive stage need no Kiln; the first trip is the active Kiln's to act on. -/
theorem exec_hotN_of_on {d : Nat} {stack : Bool} {t : State} (die : d < 4) (on : s.isOn (.core d) = true)
    (latched : t = ((s.setF (.cle .hotnDie) 0 d).setFlag (.cle .hotnStack) 0 stack).setF (.cle .coolStatusHotN) 0 1) :
    exec (.hotN d stack) s = .next (
      let u := ((({ t with power := { t.power with hotN := true } } : State).setF (.drv .statusHotN) 0 1).stopSlices fun _ => true).applyDrive
      if s.flag (.cle .coolStatusHotN) || u.active.isNone then u else u.hotNKiln d stack) := by
  subst latched
  exact congrArg Host.Outcome.next (if_pos ⟨die, on⟩)

end

/-! ### The statement -/

/-- Settles O52: each clause is what its command does when its condition holds. That the alarm goes out with OVERPRESSURE, and that the
quiesce is lifted with HOT_N's end where no flow loss stands, are the model's choices (log entries 68 and 116). -/
theorem coolantProtectionCommandsComplete : Obligations.CoolantProtectionCommandsComplete := by
  refine ⟨?condensation, ?condensationClear, ?flowLoss, ?flowLossQuiesce, ?flowLossPowerDown, ?flowReturned, ?quiesceLifted, ?warn,
    ?warnClear, ?warnRepeat, ?overpressure, ?hotN, ?hotNClear⟩
  -- CONDENSATION and its end are the warning of bit 6
  case condensation => exact fun s acts holds => exec_coolantWarn_of_holds acts holds
  case condensationClear => exact fun s acts gone => exec_coolantWarnClear_of_gone acts gone
  case flowLoss => exact fun s readings t u acts read first low falls => exec_flowLoss_of_low acts read first low falls
  case flowLossQuiesce => exact fun s acts lost protecting => exec_flowLossQuiesce_of_lost acts protecting lost
  case flowLossPowerDown => exact fun s acts quiesced protecting => exec_flowLossPowerDown_of_quiesced acts protecting quiesced
  case flowReturned =>
    exact fun s tests t acts protecting high withdrawn lost => exec_flowReturned_of_lost acts protecting high withdrawn rfl lost
  case quiesceLifted => exact fun s acts quiesced returned withdrawn => exec_quiesceLifted_of_returned acts quiesced returned withdrawn
  case warn => exact fun s bit acts holds => exec_coolantWarn_of_holds acts holds
  case warnClear => exact fun s bit acts gone => exec_coolantWarnClear_of_gone acts gone
  case warnRepeat => exact fun s acts warned => exec_coolantWarnRepeat_of_warned acts warned
  case overpressure =>
    intro s kpa acts high first noLeak
    rw [exec_overpressure_of_high acts high first rfl, if_neg (Bool.eq_false_iff.1 noLeak)]
  case hotN => exact fun s d stack t die on latched => exec_hotN_of_on die on latched
  case hotNClear => exact fun s t acts latched released => exec_hotNClear_of_latched acts latched released

end Sys2Proof.Machine
end

section
/-!
PROOFS. The queue of commands, and what no command undoes: written generations of the one-time-programmable memory and the permanent
area of the Cask (R391, R399, R411, R414).
-/

namespace Sys2Proof.Machine

/-! ### The queue -/

theorem step_of_front {s : State} {c : Instr} {rest : List Instr} (front : s.pending = c :: rest) :
    step s = exec c { s with pending := rest } := by
  simp only [step, front]

theorem step_of_empty {s : State} (empty : s.pending = []) : step s = .next s := by
  simp only [step, empty]

/-- The next state of a command keeps what Laws/Keep.lean names. -/
theorem keep_of_exec {c : Instr} {s t : State} (h : exec c s = .next t) : Keep s t := Keep.eqX h (exec_keep c (Keep.refl s))

/-! ### Generations -/

/-- Whether a generation is written is read off its bytes. -/
theorem State.otpWritten_eq_of_otpGen {s t : State} {g : Nat} (same : t.otpGen g = s.otpGen g) : t.otpWritten g = s.otpWritten g := by
  unfold State.otpWritten
  rw [same]

/-! ### The statements -/

/-- Settles O1: by the definition of a step. -/
theorem stepRunsTheFrontCommand : Obligations.StepRunsTheFrontCommand := fun _ _ _ front => step_of_front front

/-- Settles O2: by the definition of a step. -/
theorem emptyQueueIdles : Obligations.EmptyQueueIdles := fun _ empty => step_of_empty empty

/-- Settles O3: a step takes the front off, and every command keeps the queue that it is run with (Laws/Keep.lean). -/
theorem stepTakesOneCommand : Obligations.StepTakesOneCommand := by
  refine ⟨?step, fun c s t h => (keep_of_exec h).pending⟩
  case step =>
    intro s t h
    obtain ⟨empty, idles⟩ | ⟨c, rest, front, runs⟩ := step_cases s
    · cases idles.symm.trans h
      rw [empty, List.tail_nil]
    · rw [front, List.tail_cons]
      exact (keep_of_exec (runs.symm.trans h)).pending

/-- Settles O7: whatever runs keeps the bytes of a written generation, and so that it is written (Laws/Keep.lean); a command outside the
list leaves the whole memory (Laws/Same.lean). -/
theorem writtenGenerationsStay : Obligations.WrittenGenerationsStay := by
  refine ⟨?written, ?frame⟩
  case written =>
    intro s t g h written
    obtain ⟨_, k⟩ := step_keep h
    have same : t.otpGen g = s.otpGen g := k.otp g written
    exact ⟨same, (State.otpWritten_eq_of_otpGen same).trans written⟩
  case frame =>
    intro c s t outside h
    have same : Same (· = .otp) s t :=
      Same.eqX h (exec_same c nofun nofun nofun nofun (fun _ => outside) (Same.refl _ s))
    exact same.otp rfl

/-- Settles O8: no operation takes a permanent record back or adds one beyond the limit (Laws/Keep.lean). -/
theorem permanentRecordsOnlyGrow : Obligations.PermanentRecordsOnlyGrow := by
  intro s t h
  obtain ⟨_, k⟩ := step_keep h
  exact ⟨k.perm, k.permLen⟩

end Sys2Proof.Machine
end

section
/-!
PROOFS. A commit of the Mill set while its block is BUSY (R129, R475).
-/

namespace Sys2Proof.Machine

section
variable {s : State} (on : s.isOn .iod = true) (busy : s.flag (.mil .commitStatusBusy) = true)
include on busy

/-- A commit of the Mill set that finds its block BUSY is held, once. -/
theorem exec_milCommit_of_busy (first : 7 ∉ s.heldCommits) :
    exec .milCommit s = .next { s with heldCommits := s.heldCommits ++ [7] } := by
  show execMilCommit s = _
  simp [execMilCommit, on, busy, first]

theorem exec_milCommit_of_held (held : 7 ∈ s.heldCommits) : exec .milCommit s = .next s := by
  show execMilCommit s = _
  simp [execMilCommit, on, busy, held]

end

theorem takeFirst_eq_none {α : Type} {p : α → Bool} {l : List α} (h : ∀ x ∈ l, p x = false) : takeFirst p l = none := by
  induction l with
  | nil => rfl
  | cons x l ih =>
    rw [takeFirst, h x List.mem_cons_self, ih fun y hy => h y (List.mem_cons_of_mem x hy)]
    rfl

/-- While every block that a held commit is for is BUSY, all of them go on waiting (R475). -/
theorem exec_heldCommit_of_busy {s : State} (busy : ∀ b ∈ s.heldCommits, s.blockBusy b = true) :
    exec .heldCommit s = .next s.serveHeld := by
  have waits : takeFirst (fun b => !s.blockBusy b) s.heldCommits = none := takeFirst_eq_none fun b hb => congrArg not (busy b hb)
  show execHeldCommit s = _
  simp only [execHeldCommit, waits]

theorem State.commitBlock_mil {s : State} (free : s.flag (.mil .commitStatusBusy) = false) : s.commitBlock 7 = s.commitMil :=
  if_neg (Bool.eq_false_iff.1 free)

/-- With no request of the host held, serving what is held changes nothing. -/
theorem State.serveHeld_of_none {s : State} (none : s.thl.held = []) : s.serveHeld = s := by
  have same : { s.thl with held := [] } = s.thl := by rw [← none]
  rw [State.serveHeld, none, State.serveHosted, same]
  rfl

/-- Settles O22: the commit is held once; the held commit is looked at whenever one may run, and then commits what the shadow set holds. -/
theorem heldCommitWaits : Obligations.HeldCommitWaits := by
  refine ⟨fun s on busy => ⟨exec_milCommit_of_held on busy, exec_milCommit_of_busy on busy⟩, ?waits, ?commits,
    fun s none => State.serveHeld_of_none none⟩
  case waits =>
    intro s held busy
    refine exec_heldCommit_of_busy fun b hb => ?_
    obtain rfl : b = 7 := List.mem_singleton.1 (held ▸ hb)
    exact busy
  case commits =>
    intro s held free
    have set : ({ s with heldCommits := [] } : State).commitBlock 7 = ({ s with heldCommits := [] } : State).commitMil :=
      State.commitBlock_mil free
    rw [exec_heldCommit_of_free held free, set]

end Sys2Proof.Machine
end

section
/-!
PROOFS. The start-up of the module, and losses of its clock and its supplies (R20, R27, R28, R121, R157, R304, R385, R386, R390, R415,
R418, R427, R451, R454, R464, R465).
-/

namespace Sys2Proof.Machine

/-- The first claim decides how AUX power-up ends: with neither Kiln up in ROM, else with a takeover and that Kiln's start-up (R385, R386). -/
theorem exec_auxPowerUp_of_off {s p : State} (straps : Straps) (first : Kiln) (loops : List Nat) (off : s.isOn .aux = false)
    (powered : p = (({ s.turnOn .aux with power := { (s.turnOn .aux).power with
      powerCycles := (s.turnOn .aux).power.powerCycles + 1, modState := .starting } } : State).takeStraps
        straps).readOtp.showIdent.takeCeiling.caskDefaults) :
    exec (.auxPowerUp straps first loops) s = .next (
      let b := (p.bootKiln .ka).bootKiln .kb
      (b.firstClaim first).elim (b.bootAt .rom) fun k => (b.takeOver k).kilnBoot loops) := by
  subst powered
  refine congrArg Host.Outcome.next ((if_neg (Bool.eq_false_iff.1 off)).trans ?_)
  dsimp only
  split
  case h_1 unclaimed => rw [unclaimed, Option.elim_none]
  case h_2 k claimed => rw [claimed, Option.elim_some]

section
variable {s : State}

/-- The condition of most commands of the start-up: a Kiln acts, at this step. -/
theorem State.acts_at {b : BootStep} (acts : s.kilnActs = true) (step : s.power.boot = b) :
    (s.kilnActs && s.power.boot == b) = true := by
  rw [acts, step, beq_self_eq_true, Bool.and_self]

section
variable (acts : s.kilnActs = true)
include acts

/-! ### The end of the pressure test (R27, R304, R427) -/

section
variable {fall : Nat} {loops : List Nat} (zeroBad : List Nat) (carrier : Bool) (hold : s.power.boot = .pressureHold)
include hold

/-- With every leak loop good the fall of the pressure judges the test: up to 5 kPa the zero check, the choice of the clock and the
pre-charge follow. -/
theorem exec_pressureHoldEnd_of_dry (dry : badLoop loops = none) :
    exec (.pressureHoldEnd fall loops zeroBad carrier) s = .next (
      if fall > 5 then s.pressureFail
      else
        let z := ((zeroBad.filter sensKnown).foldl (fun s id => s.zeroFail id) s).refresh.refactor
        let d := (z.selectClock carrier).commandDrive (allValves openCode) 0 3
        ((d.setRetried false).setF (.mod .pwrStatusMain) 0 1).bootAt .precharge) := by
  refine congrArg Host.Outcome.next ((if_pos (State.acts_at acts hold)).trans ?_)
  simp only [dry]

theorem exec_pressureHoldEnd_of_badLoop {n st : Nat} (bad : badLoop loops = some (n, st)) :
    exec (.pressureHoldEnd fall loops zeroBad carrier) s = .next ((s.holdEvent n st).step5Fail) := by
  refine congrArg Host.Outcome.next ((if_pos (State.acts_at acts hold)).trans ?_)
  simp only [bad]

end

/-! ### Flow-ready and the limits of the steps (R28, R385, R390, R465; log entry 123) -/

theorem exec_bootFlowReady_of_flowWait (tests : PowerTests) (step : s.power.boot = .flowWait) :
    exec (.bootFlowReady tests) s = .next (
      if (s.computeOn tests).2 then (s.computeOn tests).1.bootDone else (s.computeOn tests).1) := by
  refine congrArg Host.Outcome.next ((if_pos (State.acts_at acts step)).trans ?_)
  match s.computeOn tests with
  | (t, true) => rfl
  | (t, false) => rfl

theorem exec_bootStepTimeout_of_pressure (step : s.power.boot = .pressureWait ∨ s.power.boot = .pressureHold) :
    exec .bootStepTimeout s = .next s.pressureFail := by
  refine congrArg Host.Outcome.next ((if_pos acts).trans ?_)
  rcases step with step | step <;> simp only [step]

theorem exec_bootStepTimeout_of_precharge (step : s.power.boot = .precharge) : exec .bootStepTimeout s = .next s.prechargeFail := by
  refine congrArg Host.Outcome.next ((if_pos acts).trans ?_)
  simp only [step]

theorem exec_bootStepTimeout_of_flowWait (step : s.power.boot = .flowWait) : exec .bootStepTimeout s = .next s.flowFail := by
  refine congrArg Host.Outcome.next ((if_pos acts).trans ?_)
  simp only [step]

theorem exec_bootStepTimeout_of_clockWait (step : s.power.boot = .clockWait) : exec .bootStepTimeout s = .next s.clockFail := by
  refine congrArg Host.Outcome.next ((if_pos acts).trans ?_)
  simp only [step]

/-- The clock tree that returns while the start-up waits for it ends the fault, and IOD starts. -/
theorem exec_clockTreeRestored_of_clockWait (step : s.power.boot = .clockWait) :
    exec .clockTreeRestored s = .next (
      let z := ((s.setHealthBit .ka 8 false).setHealthBit .kb 8 false).clearBit (.kln .dieHbFatal) 0 4
      let t := (z.setF (.sec .bootRefclkCarrier) 0 0).alertClear 3
      if t.power.boot = .clockWait then t.bootIod else t) :=
  congrArg Host.Outcome.next (if_pos (by rw [acts, step, beq_self_eq_true, Bool.or_true, Bool.and_self]))

end

/-! ### The reference clock (R28) -/

/-- Both Kilns see the loss; only a Kiln that holds ACT_OWN takes the steps of a clock fault (log entry 124). -/
theorem exec_refclkLoss_of_on (on : s.isOn .aux = true) :
    exec .refclkLoss s = .next (
      let t := (s.setHealthBit .ka 8 true).setHealthBit .kb 8 true
      let u : State := { t with row := { t.row with measured := [] } }
      if s.active.isSome then (u.alertSet 3).clockFault 0 else u) := by
  have holder : ((s.setHealthBit .ka 8 true).setHealthBit .kb 8 true).active = s.active := by
    rw [State.active_setHealthBit, State.active_setHealthBit]
  rw [← holder]
  exact congrArg Host.Outcome.next (if_pos on)

/-! ### Supplies (R20, R121, R415) -/

/-- A domain other than AUX goes down with its dependants, and the stacks of the memory dies that were on fail (log entry 175). -/
theorem exec_domainFault_of_supplied {d : Domain} (other : d ≠ .aux) (on : s.isOn d = true) :
    exec (.domainFault d) s = .next (
      let lost := (memDies d).filter fun n => s.isOn (.mem n)
      (lost.foldl (fun s n => (List.range 5).foldl (fun s i => s.stackFail (5 * n + i) 3) s) (s.domainOff d)).unnamedRecord) := by
  cases d with
  | aux => exact absurd rfl other
  | iod => exact congrArg Host.Outcome.next (if_pos on)
  | core n => exact congrArg Host.Outcome.next (if_pos on)
  | mem n => exact congrArg Host.Outcome.next (if_pos on)
  | opt k => exact congrArg Host.Outcome.next (if_pos on)

/-- A record under way is torn when AUX power goes (log entry 192). -/
theorem exec_auxPowerLoss_of_on (torn : Bool) (on : s.isOn .aux = true) :
    exec (.auxPowerLoss torn) s = .next (if torn then s.tearSlot else s).auxOff := congrArg Host.Outcome.next (if_pos on)

end

/-! ### The statements -/

/-- Settles O28: each clause is what its command does with AUX off, or while a Kiln acts at its step of the start-up. -/
theorem startupBeginsAndPressureTest : Obligations.StartupBeginsAndPressureTest := by
  refine ⟨?powerUp, ?reached, ?waitTimeout, ?passed, ?fell, ?leaked, ?testRetry, ?charged, ?chargeTimeout, ?chargeRetry⟩
  case powerUp => exact fun s straps first loops p off powered => exec_auxPowerUp_of_off straps first loops off powered
  case reached => exact fun s acts step => congrArg Host.Outcome.next (if_pos (State.acts_at acts step))
  case waitTimeout => exact fun s acts step => congrArg Host.Outcome.next (if_pos (State.acts_at acts step))
  case passed =>
    intro s fall loops zeroBad carrier acts hold dry held
    rw [exec_pressureHoldEnd_of_dry acts zeroBad carrier hold dry, if_neg (Nat.not_lt.2 held)]
  case fell =>
    intro s fall loops zeroBad carrier acts hold dry fell
    rw [exec_pressureHoldEnd_of_dry acts zeroBad carrier hold dry, if_pos fell]
  case leaked =>
    exact fun s fall loops zeroBad carrier n st acts hold bad => exec_pressureHoldEnd_of_badLoop acts zeroBad carrier hold bad
  case testRetry => exact fun s loops acts step => congrArg Host.Outcome.next (if_pos (State.acts_at acts step))
  case charged => exact fun s acts step => congrArg Host.Outcome.next (if_pos (State.acts_at acts step))
  case chargeTimeout => exact fun s acts step => congrArg Host.Outcome.next (if_pos (State.acts_at acts step))
  case chargeRetry => exact fun s acts step => congrArg Host.Outcome.next (if_pos (State.acts_at acts step))

/-- Settles O29: each clause is what its command does at its step of the start-up, or while the domain is on. That the limit of a step in
the pressure hold is a pressure failure, what a loss of the clock does with no Kiln in control, that stacks fail with a CORE or IOD domain too,
and that the operand says whether a record is torn, are the model's choices (log entries 123, 124, 175 and 192). -/
theorem startupEndsAndSupplyLosses : Obligations.StartupEndsAndSupplyLosses := by
  refine ⟨?flowReady, ?flowTimeout, ?pressureLimit, ?chargeLimit, ?flowLimit, ?clockLimit, ?clockLost, ?clockLostInNone, ?clockReturns,
    ?auxFault, ?otherFault, ?auxLost, ?auxLostTorn, ?inputReturns⟩
  case flowReady => exact fun s tests acts step => exec_bootFlowReady_of_flowWait acts tests step
  case flowTimeout => exact fun s acts step => congrArg Host.Outcome.next (if_pos (State.acts_at acts step))
  case pressureLimit => exact fun s acts step => exec_bootStepTimeout_of_pressure acts step
  case chargeLimit => exact fun s acts step => exec_bootStepTimeout_of_precharge acts step
  case flowLimit => exact fun s acts step => exec_bootStepTimeout_of_flowWait acts step
  case clockLimit => exact fun s acts step => exec_bootStepTimeout_of_clockWait acts step
  case clockLost =>
    intro s on held
    rw [exec_refclkLoss_of_on on, if_pos held]
  case clockLostInNone =>
    intro s on nobody
    rw [exec_refclkLoss_of_on on, if_neg (by rw [nobody]; exact Bool.false_ne_true)]
  case clockReturns => exact fun s acts step => exec_clockTreeRestored_of_clockWait acts step
  case auxFault =>
    rintro s _ rfl on
    exact congrArg Host.Outcome.next (if_pos on)
  case otherFault => exact fun s d other on => exec_domainFault_of_supplied other on
  case auxLost =>
    rintro s _ on rfl
    exact exec_auxPowerLoss_of_on false on
  case auxLostTorn =>
    rintro s _ on rfl
    exact exec_auxPowerLoss_of_on true on
  case inputReturns => exact fun s acts step => congrArg Host.Outcome.next (if_pos (State.acts_at acts step))

end Sys2Proof.Machine
end

section
/-!
PROOFS. Copper: the fast period, the loop programs of the engine and of the standby, their outputs, step markers and the commit of the
loop configuration (R311, R312, R324 to R326, R328 to R331, R333).
-/

namespace Sys2Proof.Machine

section
variable {s : State}

/-! ### The standby's program (R311; log entry 181) -/

/-- What the standby does at the command that runs a loop's program: it runs its own, unless the result of its last run still waits. -/
def State.standbyRun (s : State) (l : Nat) : State :=
  if s.shadowRuns && (s.loop l).shadowStaged.isNone then s.runShadow l else s

theorem State.standbyRun_of_runs {l : Nat} (runs : s.shadowRuns = true) (unstaged : (s.loop l).shadowStaged = none) :
    s.standbyRun l = s.runShadow l :=
  if_pos (by rw [runs, unstaged]; rfl)

theorem State.standbyRun_of_absent {l : Nat} (absent : s.shadowRuns = false) : s.standbyRun l = s :=
  if_neg (by rw [absent, Bool.false_and]; exact Bool.false_ne_true)

section
variable (on : s.isOn .aux = true)
include on

/-! ### The fast period (R311, R326) -/

section
variable (readings : List (Nat × Int)) (zoneMw : List Nat) (shadow : List (Nat × Int))

/-- The engine takes its readings and the zones' powers; the standby takes its own readings at the same time. -/
theorem exec_copperFastPeriod_of_held {t u : State} (held : s.active.isSome = true)
    (read : t = (({ s with cop := { s.cop with clock := s.cop.clock + 100 } } : State).takeReadings readings).refresh)
    (sampled : u = (List.range 8).foldl (fun s z => s.rcSample z (zoneMw.getD z 0))
      ({ t with cool := { t.cool with zoneMw := zoneMw } } : State)) :
    exec (.copperFastPeriod readings zoneMw shadow) s = .next (u.beginPeriod true (u.takeReadings shadow).refresh) := by
  subst read sampled
  have ticked : ({ s with cop := { s.cop with clock := s.cop.clock + 100 } } : State).active.isSome = true := held
  show execCopperFastPeriod readings zoneMw shadow s = _
  simp only [execCopperFastPeriod, on, ticked, if_true]

/-- In NONE the clock of the periods and the standby go on alone (log entry 182). -/
theorem exec_copperFastPeriod_of_nobody {t : State} (nobody : s.active = none)
    (ticked : t = ({ s with cop := { s.cop with clock := s.cop.clock + 100 } } : State)) :
    exec (.copperFastPeriod readings zoneMw shadow) s = .next (t.beginPeriod true (t.takeReadings shadow).refresh) := by
  have unheld : t.active.isSome = false := by
    subst ticked
    exact congrArg Option.isSome nobody
  subst ticked
  show execCopperFastPeriod readings zoneMw shadow s = _
  simp only [execCopperFastPeriod, on, unheld, if_true, Bool.false_eq_true, if_false]

end

/-! ### The program of a loop (R312, R329; log entry 86) -/

section
variable {l : Nat} (enabled : s.loopOn l = true) (due : (s.loop l).due = true)
include enabled due

theorem exec_loopProgramRun_of_held (held : s.active.isSome = true) (unstaged : (s.loop l).staged = none) :
    exec (.loopProgramRun l) s = .next ((s.runLoop l).standbyRun l) := by
  show execLoopProgramRun l s = _
  simp only [execLoopProgramRun, on, enabled, due, held, unstaged, Option.isNone_none, Bool.and_self, if_true, State.standbyRun]

theorem exec_loopProgramRun_of_nobody (nobody : s.active = none) :
    exec (.loopProgramRun l) s = .next (s.standbyRun l) := by
  show execLoopProgramRun l s = _
  simp only [execLoopProgramRun, on, enabled, due, nobody, Option.isSome_none, Bool.false_and, Bool.and_self, Bool.false_eq_true, if_true,
    if_false, State.standbyRun]

end

/-! ### Outputs, markers and the commit (R324, R328, R331) -/

section
variable (held : s.active.isSome = true)
include held

/-- While the drive is held (R28, R467) the last frame goes out anew, if there is one; else the outputs of the loops do. -/
theorem exec_copperOutputPhase_of_held (fast : Bool) :
    exec (.copperOutputPhase fast) s = .next (
      if s.driveHeld then s.cop.sent.elim s fun f => s.sendFrame (s.makeFrame f.valves f.rpm f.pumpEn) else s.outputPhase fast) := by
  refine congrArg Host.Outcome.next ((if_pos (by rw [on, held, Bool.and_self])).trans ?_)
  cases s.cop.sent <;> rfl

/-- The oldest marker reaches each table that accepts its kind. -/
theorem exec_stepMarker_of_waiting {m : Marker} {l : List Marker} (next : Nat) (waiting : s.cop.markers = m :: l) :
    exec (.stepMarker next) s = .next (
      (List.range 8).foldl (fun s z => if s.rcWants z m then s.rcMarker z next else s)
        ({ s with cop := { s.cop with markers := l } } : State)) := by
  have acts : (({ s with cop := { s.cop with markers := l } } : State).isOn .aux &&
      ({ s with cop := { s.cop with markers := l } } : State).active.isSome) = true :=
    Bool.and_eq_true_iff.2 ⟨on, held⟩
  show execStepMarker next s = _
  simp only [execStepMarker, waiting, acts, if_true]

theorem exec_cleCommit_of_held : exec .cleCommit s = .next s.startCleCommit :=
  congrArg Host.Outcome.next (if_pos (by rw [on, held, Bool.and_self]))

theorem exec_cleCommitApply_of_busy (busy : s.flag (.cle .commitStatusBusy) = true) :
    exec .cleCommitApply s = .next (s.applyCle.setF (.cle .commitStatusBusy) 0 0) :=
  congrArg Host.Outcome.next (if_pos (by rw [on, held, busy, Bool.and_self, Bool.and_self]))

end

end

/-- A loop leaves its table after 1,000 good periods, unless it must stay there (R330). -/
theorem exec_loopTableExit_of_good {l : Nat} (enabled : s.loopOn l = true) (inTable : (s.loop l).inTable = true)
    (free : (s.loop l).stuck = false) (good : 1000 ≤ (s.loop l).good) :
    exec (.loopTableExit l) s = .next (
      let t := s.modLoop l fun x => { x with inTable := false, good := 0 }
      t.setLoopState l (t.loopState l)) :=
  congrArg Host.Outcome.next (if_pos (by simp only [enabled, inTable, free, ge_iff_le, good, decide_true, Bool.not_false, Bool.and_self]))

end

/-! ### The statement -/

/-- Settles O53: each clause is what its command does when its condition holds. That a program runs as one command, that the standby runs
its own at the same command, and that it goes on in NONE are the model's choices (log entries 86, 181 and 182). -/
theorem copperCommandsComplete : Obligations.CopperCommandsComplete := by
  refine ⟨?period, ?periodInNone, ?engine, ?engineAndStandby, ?standby, ?outputs, ?outputsHeld, ?tableExit, ?marker, ?markerTimeout, ?commit,
    ?apply⟩
  case period =>
    exact fun s readings zoneMw shadow t u on held read sampled => exec_copperFastPeriod_of_held on readings zoneMw shadow held read sampled
  case periodInNone =>
    exact fun s readings zoneMw shadow t on nobody ticked => exec_copperFastPeriod_of_nobody on readings zoneMw shadow nobody ticked
  case engine =>
    intro s l on enabled due held unstaged absent
    rw [exec_loopProgramRun_of_held on enabled due held unstaged, State.standbyRun_of_absent absent]
  case engineAndStandby =>
    rintro s l _ on enabled due held unstaged rfl runs waitsNot
    rw [exec_loopProgramRun_of_held on enabled due held unstaged, State.standbyRun_of_runs runs waitsNot]
  case standby =>
    intro s l on enabled due nobody runs waitsNot
    rw [exec_loopProgramRun_of_nobody on enabled due nobody, State.standbyRun_of_runs runs waitsNot]
  case outputs =>
    intro s fast on held free
    rw [exec_copperOutputPhase_of_held on held, if_neg (Bool.eq_false_iff.1 free)]
  case outputsHeld =>
    intro s fast f on held driveHeld sent
    rw [exec_copperOutputPhase_of_held on held, if_pos driveHeld, sent, Option.elim_some]
  case tableExit => exact fun s l enabled inTable free good => exec_loopTableExit_of_good enabled inTable free good
  case marker => exact fun s next m l waiting on held => exec_stepMarker_of_waiting on held next waiting
  case markerTimeout => exact fun s z zone locked late => congrArg Host.Outcome.next (if_pos ⟨zone, locked, late⟩)
  case commit => exact fun s on held => exec_cleCommit_of_held on held
  case apply => exact fun s on held busy => exec_cleCommitApply_of_busy on held busy

end Sys2Proof.Machine
end

section
/-!
PROOFS. The drive: command frames and echoes, its hold and its safe table, and the duty caps (R255, R262, R263, R342 to R344, R349, R358).
-/

namespace Sys2Proof.Machine

section
variable {s : State}

section
variable (on : s.isOn .aux = true)
include on

/-! ### Frames (R255, R262, R342) -/

/-- Only the holder's frame is looked at; it is latched whole or counted as bad. -/
theorem exec_driveCommandFrame_of_on (k : Kiln) (f : DriveFrame) :
    exec (.driveCommandFrame k f) s = .next (
      if s.kln.owner ≠ some k then s.rejectCommand else if f.sound then s.latchFrame f else s.addSat (.drv .statusBadFrames) 0 1) :=
  congrArg Host.Outcome.next (if_neg (by rw [on]; exact Bool.false_ne_true))

/-! ### Hold and safe table (R344, R358; log entry 72) -/

section
variable {ms : Nat} (free : s.driveSafe = false)
include free

theorem exec_driveSafeTable_of_late (late : 10000 ≤ ms) :
    exec (.driveSafeTable ms) s = .next (
      (((s.setF (.drv .statusMode) 0 2).setF (.drv .statusCmdAgeMs) 0 (min ms 65535)).drvEvent 8 2 0).applyDrive) :=
  congrArg Host.Outcome.next (if_pos ⟨on, late, congrArg not free⟩)

/-- The event of the hold is posted once, at its begin, while a Kiln is in control. -/
theorem exec_driveHoldTimer_of_late (late : 10 ≤ ms) :
    exec (.driveHoldTimer ms) s = .next (
      let t := (s.setF (.drv .statusMode) 0 1).setF (.drv .statusCmdAgeMs) 0 (min ms 65535)
      if s.getF (.drv .statusMode) == 0 && s.active.isSome then t.drvEvent 7 1 (min ms 65535) else t) :=
  congrArg Host.Outcome.next (if_pos ⟨on, late, congrArg not free⟩)

end

/-! ### Duty caps (R349) -/

theorem exec_dutyCap_of_high {v mj : Nat} (valve : v < 8) (high : 44000 ≤ mj) (first : v ∉ s.drive.capped) :
    exec (.dutyCap v mj) s = .next (
      let t := s.setF (.drv .valveDutyEnergyMj) v (min mj 65535)
      ({ t with drive := { t.drive with capped := t.drive.capped ++ [v] } } : State).recap v) :=
  congrArg Host.Outcome.next (if_pos ⟨on, valve, high, by simpa using first⟩)

end

/-- An echo of the last frame with every channel as commanded forgets the mismatches seen before (R263, R343). -/
theorem exec_driveEcho_of_agrees {f c : DriveFrame} {a : Kiln} (acts : s.active = some a) (sent : s.cop.sent = some c) (same : c.seq = f.seq)
    (agrees : ((frameDiff c f).filter fun ch => !(s.getF (.drv .chFaultFault)).testBit ch) = []) :
    exec (.driveEcho f) s = .next (({ s with kln := { s.kln with rbSeen := [] } } : State).refactor) := by
  show execDriveEcho f s = _
  simp only [execDriveEcho, acts, sent, same, agrees, if_true, List.filter_nil, List.foldl_nil]

theorem exec_dutyCapLift_of_low {v mj : Nat} (capped : v ∈ s.drive.capped) (low : mj < 42000) :
    exec (.dutyCapLift v mj) s = .next (
      let t := s.setF (.drv .valveDutyEnergyMj) v mj
      ({ t with drive := { t.drive with capped := t.drive.capped.filter fun x => x ≠ v } } : State).recap v) :=
  congrArg Host.Outcome.next (if_pos ⟨List.contains_iff_mem.2 capped, low⟩)

end

/-! ### The statement -/

/-- Settles O54: each clause is what its command does when its condition holds. That the hold begins at 10 ms, and that CMD_AGE moves at the
timers, are the model's choices (log entry 72). -/
theorem driveFrameCommandsComplete : Obligations.DriveFrameCommandsComplete := by
  refine ⟨?latched, ?rejected, ?bad, ?echo, ?safeTable, ?holdGoesOn, ?holdBegins, ?cap, ?capLift⟩
  case latched =>
    intro s k f on holds sound
    rw [exec_driveCommandFrame_of_on on, if_neg (not_not.2 holds), if_pos sound]
  case rejected =>
    intro s k f on other
    rw [exec_driveCommandFrame_of_on on, if_pos other]
  case bad =>
    intro s k f on holds unsound
    rw [exec_driveCommandFrame_of_on on, if_neg (not_not.2 holds), if_neg (Bool.eq_false_iff.1 unsound)]
  case echo => exact fun s f c a acts sent same agrees => exec_driveEcho_of_agrees acts sent same agrees
  case safeTable => exact fun s ms on late free => exec_driveSafeTable_of_late on free late
  case holdGoesOn =>
    intro s ms on late free mode
    rw [exec_driveHoldTimer_of_late on free late, mode]
    rfl
  case holdBegins =>
    intro s ms on late free mode held
    rw [exec_driveHoldTimer_of_late on free late, mode, held]
    rfl
  case cap => exact fun s v mj on valve high first => exec_dutyCap_of_high on valve high first
  case capLift => exact fun s v mj capped low => exec_dutyCapLift_of_low capped low

end Sys2Proof.Machine
end

section
/-!
PROOFS. The valves, their switches and the pumps: pull-in, faults, retries, trips and restarts (R346 to R351, R354 to R357, R361).
-/

namespace Sys2Proof.Machine

section
variable {s : State}

/-! ### Valves (R346, R347, R349 to R351) -/

/-- The valve at the head of its switch's queue pulls in at the full 1.50 A where its partner's coil is off and the duty window has room. -/
theorem exec_pullinStart_of_first {v : Nat} (waitUs : Nat) (waits : s.getF (.drv .valveStatusState) v = 1)
    (first : (s.switchQueue (v / 2)).head? = some v) (partnerOff : s.getF (.drv .valveStatusState) (partnerValve v) = 0)
    (onTime : s.flag (.drv .valveStatusOfftime) v = false) (duty : s.getF (.drv .valveDutyEnergyMj) v + 250 ≤ 45000)
    (undelayed : v ∉ s.drive.counted) :
    exec (.pullinStart v waitUs) s = .next (
      let u := ((s.setSwitchQueue (v / 2) ((s.switchQueue (v / 2)).drop 1)).uncount v).dutyLimited v
      let x := (u.setF (.drv .valveStatusState) v 2).addSat (.drv .valveCountPullins) v 1
      (x.setFlag (.drv .valveStatusReduced) v false).setF (.drv .valveStatusCurrent) v 150) := by
  show execPullinStart v waitUs s = _
  simp [execPullinStart, waits, first, partnerOff, onTime, Nat.not_lt.2 duty, undelayed]

/-- A coil that reads faulty is switched off for one retry; at the second fault the valve fails. -/
theorem exec_valveFault_of_faulty {v code res ma : Nat} {t : State} (valve : v < 8) (faulty : s.coilFaulty v code res ma = true)
    (driven : s.getF (.drv .valveStatusState) v = 2 ∨ s.getF (.drv .valveStatusState) v = 3)
    (shown : t = s.setF (.drv .valveResRes) v (min res 65535)) :
    exec (.valveFault v code res ma) s = .next (
      if v ∈ t.drive.retried then ((t.failValve v code).drvEvent 4 1 (v + 16 * code + 256)).kilnRefactor
      else ((({ t with drive := { t.drive with faulted := t.drive.faulted ++ [v] } } : State).setF (.drv .valveResFault) v
        code).applyValve v).drvEvent 4 1 (v + 16 * code)) := by
  subst shown
  refine congrArg Host.Outcome.next ((if_pos ⟨valve, faulty, driven⟩).trans ?_)
  simp only [List.contains_iff_mem]

/-! ### Switches (R348, R350, R351) -/

/-- With no trip in the last 60 s both valves of the switch open, and the switch has not failed. -/
theorem exec_switchTrip_of_first {k : Nat} {t : State} (on : s.isOn .aux = true) (switch : k < 4)
    (closed : (s.getF (.drv .swStatusTrip)).testBit k = false) (long : s.longSince (s.drive.tripMs.get? k) 60000 = true)
    (noted : t = ({ s with drive := { s.drive with tripMs := s.drive.tripMs.set k s.kln.upMs } } : State)) :
    exec (.switchTrip k) s = .next (
      ((((t.setBit (.drv .swStatusTrip) 0 k).applyValve (2 * k)).applyValve (2 * k + 1)).drvEvent 5 1 (k + 256 * 0)).kilnRefactor) := by
  subst noted
  refine congrArg Host.Outcome.next ((if_pos ⟨on, switch, congrArg not closed⟩).trans ?_)
  simp only [long, Bool.not_true, Bool.false_eq_true, if_false, Bool.toNat_false]

theorem exec_switchRestart_of_tripped {k : Nat} (switch : k < 4) (tripped : (s.getF (.drv .swStatusTrip)).testBit k = true)
    (works : k ∉ s.drive.switchFailed) :
    exec (.switchRestart k) s = .next (
      (((s.clearBit (.drv .swStatusTrip) 0 k).applyValve (2 * k)).applyValve (2 * k + 1)).kilnRefactor) :=
  congrArg Host.Outcome.next (if_pos ⟨switch, tripped, by simpa using works⟩)

/-! ### Pumps (R354 to R357) -/

/-- After a forced start with a Hall fault the pump goes on by back-EMF (log entry 189). -/
theorem exec_pumpKickSuccess_of_kicking {p : Nat} (pump : p < 2) (kicking : s.getF (.drv .pumpStatusState) p = 1) :
    exec (.pumpKickSuccess p) s = .next (
      let t := (s.setF (.drv .pumpStatusState) p 2).setF (.drv .pumpStatusKicksFailed) p 0
      let u := if t.flag (.drv .pumpStatusHallFault) p then t.setF (.drv .pumpStatusBemf) p 1 else t
      (u.setF (.drv .pumpStatusSpeed) p (u.getF (.drv .pumpCmdRpm) p)).addSat (.drv .pumpCountStarts) p 1) :=
  congrArg Host.Outcome.next (if_pos ⟨pump, kicking⟩)

theorem exec_hallFault_of_running {p : Nat} (pump : p < 2) (byHall : s.flag (.drv .pumpStatusBemf) p = false)
    (running : s.getF (.drv .pumpStatusState) p = 1 ∨ s.getF (.drv .pumpStatusState) p = 2) :
    exec (.hallFault p) s = .next (((s.setF (.drv .pumpStatusHallFault) p 1).setF (.drv .pumpStatusBemf) p 1).drvEvent 3 1 p) :=
  congrArg Host.Outcome.next (if_pos ⟨pump, congrArg not byHall, running⟩)

end

/-! ### The statement -/

/-- Settles O55: each clause is what its command does when its condition holds. Back-EMF after a forced start with a
Hall fault and the 60 s counted in control cycles are the model's choices (log entries 189 and 190), as is what stands behind the queue of a
switch and behind RETRY (log entries 61 and 66). -/
theorem valveAndPumpCommandsComplete : Obligations.ValveAndPumpCommandsComplete := by
  refine ⟨?pullin, ?pullinEnd, ?firstFault, ?secondFault, ?retry, ?trip, ?restart, ?kicked, ?kickTimeout, ?retryWaitEnd, ?stall, ?hallFault,
    ?hallRestore, ?enable, ?retryWrite⟩
  case pullin =>
    exact fun s v waitUs waits first partnerOff onTime duty undelayed =>
      exec_pullinStart_of_first waitUs waits first partnerOff onTime duty undelayed
  case pullinEnd => exact fun s v pulling => congrArg Host.Outcome.next (if_pos pulling)
  case firstFault =>
    intro s v code res ma t valve faulty driven shown untried
    rw [exec_valveFault_of_faulty valve faulty driven shown, if_neg untried]
  case secondFault =>
    intro s v code res ma t valve faulty driven shown retried
    rw [exec_valveFault_of_faulty valve faulty driven shown, if_pos retried]
  case retry => exact fun s v faulted => congrArg Host.Outcome.next (if_pos (List.contains_iff_mem.2 faulted))
  case trip => exact fun s k t on switch closed long noted => exec_switchTrip_of_first on switch closed long noted
  case restart => exact fun s k switch tripped works => exec_switchRestart_of_tripped switch tripped works
  case kicked => exact fun s p pump kicking => exec_pumpKickSuccess_of_kicking pump kicking
  case kickTimeout => exact fun s p pump kicking => congrArg Host.Outcome.next (if_pos ⟨pump, kicking⟩)
  case retryWaitEnd => exact fun s p pump waits => congrArg Host.Outcome.next (if_pos ⟨pump, waits⟩)
  case stall => exact fun s p pump runs => congrArg Host.Outcome.next (if_pos ⟨pump, runs⟩)
  case hallFault => exact fun s p pump byHall running => exec_hallFault_of_running pump byHall running
  case hallRestore => exact fun s p pump byBemf => congrArg Host.Outcome.next (if_pos ⟨pump, byBemf⟩)
  case enable => exact fun s p value pump held => congrArg Host.Outcome.next (if_pos ⟨pump, held⟩)
  case retryWrite => exact fun s p pump held => congrArg Host.Outcome.next (if_pos ⟨pump, held⟩)

end Sys2Proof.Machine
end

section
/-!
PROOFS. The row bus: rate search, frames heard and answered, frames sent, errors and bus-off, periodic status and alarms (R362, R364, R366,
R367, R369 to R371, R373 to R376).
-/

namespace Sys2Proof.Machine

section
variable {s t : State} {p : Nat}

/-! ### Frames heard (R369, R370, R373) -/

section
variable {frame : RowFrame}

/-- A frame received without error tells of a clash where it bears this module's own identity. -/
theorem exec_rowFrameOther_of_heard (heard : s.rowHear p frame = (t, true)) :
    exec (.rowFrameOther p frame) s = .next (if t.clashes frame then t.clash p else t) := by
  show execRowFrameOther p frame s = _
  simp only [execRowFrameOther, heard]

theorem exec_rowFrameOther_of_unheard (unheard : s.rowHear p frame = (t, false)) : exec (.rowFrameOther p frame) s = .next t := by
  show execRowFrameOther p frame s = _
  simp only [execRowFrameOther, unheard]

/-- A status request for this module that is accepted is answered with the message that WANT names. -/
theorem exec_statusReq_of_accepted {u : State} {want : Nat} (heard : s.rowHear p frame = (t, true)) (ours : t.forUs frame 0x21 = true)
    (wants : (frame.data.getD 2 0).toNat = want) (known : want = 1 ∨ want = 2 ∨ want = 4)
    (accepted : t.rowAccept p frame (((frame.data.take 8).drop 3).all (· == 0)) = (u, true)) :
    exec (.statusReq p frame) s = .next (
      if want = 1 then u.rowAnswer p 1 5 2 (u.statusBody p)
      else if want = 2 then u.rowAnswer p 2 2 1 (u.capStatusBody false)
      else u.rowAnswer p 4 4 1 u.warnBody) := by
  show execStatusReq p frame s = _
  simp only [execStatusReq, heard, ours, wants, known, decide_true, Bool.true_and, accepted, if_true]

end

/-! ### Frames sent (R374, R375) -/

/-- A sent frame leaves its buffer and is counted, and the transmit counter falls by 1 (log entry 187). -/
theorem exec_frameTxDone_of_sends {b : Nat} {m : RowMsg} {q : List RowMsg} (queued : s.rowQueue p b = m :: q) (sends : s.portSends p = true)
    (sent : t = (s.setRowQueue p b q).addSat (.row .portTxSent) p 1) :
    exec (.frameTxDone p b) s = .next (
      let u : State := { t with row := { t.row with sent := t.row.sent ++ [(p, t.rowWire p m)] } }
      ((u.setF (.row .portStatusTec) p (u.getF (.row .portStatusTec) p - 1)).errorState p).urgentCheck) := by
  subst sent
  show execFrameTxDone p b s = _
  simp only [execFrameTxDone, queued, sends, if_true]

section
variable {b : Nat} (queued : s.rowQueue p b ≠ []) (sends : s.portSends p = true)
include queued sends

/-- A frame that loses arbitration stays in its buffer, to be offered again. -/
theorem exec_frameTxError_of_arbitration :
    exec (.frameTxError p b .arbitration) s = .next (s.setRowQueue p b (listModify (s.rowQueue p b) 0 fun m => { m with begun := false })) := by
  show execFrameTxError p b .arbitration s = _
  simp only [execFrameTxError, List.isEmpty_eq_false_iff.2 queued, sends, Bool.not_true, Bool.or_self, Bool.false_eq_true, if_false]

/-- So does one with an error outside the fields that tell of a clash; the transmit counter rises by 8 (log entry 187). -/
theorem exec_frameTxError_of_error (failed : t = s.setRowQueue p b (listModify (s.rowQueue p b) 0 fun m => { m with begun := false }))
    (below : t.getF (.row .portStatusTec) p + 8 ≤ 255) :
    exec (.frameTxError p b (.error false)) s = .next ((t.setF (.row .portStatusTec) p (t.getF (.row .portStatusTec) p + 8)).errorState p) := by
  subst failed
  show execFrameTxError p b (.error false) s = _
  simp only [execFrameTxError, List.isEmpty_eq_false_iff.2 queued, sends, Bool.not_true, Bool.or_self, Bool.false_eq_true, if_false, gt_iff_lt,
    Nat.not_lt.2 below]

end

/-- A port that comes back from bus-off keeps the rates that it had found, with its error counters clear. -/
theorem exec_busOffRecovery_of_off (off : s.getF (.row .portStatusState) p = 4)
    (cleared : t = (s.setF (.row .portStatusTec) p 0).setF (.row .portStatusRec) p 0) :
    exec (.busOffRecovery p) s = .next (
      t.portActive p (t.getF (.row .portStatusNomDet) p) (t.getF (.row .portStatusDataDet) p) (t.getF (.row .portStatusBrs) p)) := by
  subst cleared
  exact congrArg Host.Outcome.next (if_pos off)

end

/-! ### The statement -/

/-- Settles O56: each clause is what its command does when its condition holds. That a silent sweep locks BRS to 1, that the last alarm is the
one repeated, and the steps of the error counters are the model's choices (log entries 33, 34 and 187). -/
theorem rowBusCommandsComplete : Obligations.RowBusCommandsComplete := by
  refine ⟨?silentSweep, ?failedSweep, fun s p => rfl, ?clash, ?noClash, ?unheard, ?status, ?caps, ?warnings, fun s p => rfl, ?commit, ?sent,
    ?lostArbitration, ?error, ?recovery, ?urgent, ?periodic, ?alarm, ?clashClr, ?cancel⟩
  case silentSweep =>
    rintro s p _ rfl
    rfl
  case failedSweep =>
    rintro s p _ rfl
    rfl
  case clash =>
    intro s p frame t heard clashes
    rw [exec_rowFrameOther_of_heard heard, if_pos clashes]
  case noClash =>
    intro s p frame t heard differs
    rw [exec_rowFrameOther_of_heard heard, if_neg (Bool.eq_false_iff.1 differs)]
  case unheard => exact fun s p frame t unheard => exec_rowFrameOther_of_unheard unheard
  case status =>
    exact fun s p frame t u heard ours wants accepted => exec_statusReq_of_accepted heard ours wants (.inl rfl) accepted
  case caps =>
    exact fun s p frame t u heard ours wants accepted => exec_statusReq_of_accepted heard ours wants (.inr (.inl rfl)) accepted
  case warnings =>
    exact fun s p frame t u heard ours wants accepted => exec_statusReq_of_accepted heard ours wants (.inr (.inr rfl)) accepted
  case commit => exact fun s on => congrArg Host.Outcome.next (if_pos on)
  case sent => exact fun s p b m q t queued sends sent => exec_frameTxDone_of_sends queued sends sent
  case lostArbitration =>
    rintro s p b _ queued sends rfl
    exact exec_frameTxError_of_arbitration queued sends
  case error =>
    rintro s p b _ t queued sends rfl failed below
    exact exec_frameTxError_of_error queued sends failed below
  case recovery => exact fun s p t off cleared => exec_busOffRecovery_of_off off cleared
  case urgent => exact fun s p waits => congrArg Host.Outcome.next (if_pos waits)
  case periodic => exact fun s held => congrArg Host.Outcome.next (if_pos held)
  case alarm => exact fun s inForce => congrArg Host.Outcome.next (if_pos inForce)
  case clashClr => exact fun s p on port => congrArg Host.Outcome.next (if_pos ⟨on, port⟩)
  case cancel => exact fun s p b onBus on => congrArg Host.Outcome.next (if_pos on)

end Sys2Proof.Machine
end

section
/-!
PROOFS. The Cask and its NOR: records sealed and flushed, failures of a sector, commits, erasure of the ring, and the confirmation of an
image (R387, R408, R410, R411, R417, R419, R420, R475).
-/

namespace Sys2Proof.Machine

section
variable {s : State}

/-! ### Records (R408, R410, R411) -/

theorem exec_recordSeal_of_held {k : Kiln} (seq : Nat) (holds : s.active = some k) :
    exec (.recordSeal seq) s = .next (
      { s with cask := s.cask.setBuf k ((s.cask.buf k).map fun e =>
        if e.record.seq = seq then { e with record := { e.record with sealed := true } } else e) }) := by
  show execRecordSeal seq s = _
  simp only [execRecordSeal, holds]

/-- The lowest record of the holder's buffer that may be written goes to the NOR, while that works and the ring is not being erased. -/
theorem exec_caskFlush_of_ready {k : Kiln} {r : CaskRec} (holds : s.active = some k) (idle : s.flag (.csk .commitStatusBusy) = false)
    (works : s.flag (.csk .statusNorFailed) = false)
    (lowest : lowestRec (((s.cask.buf k).filter fun e =>
      e.record.sealed && e.framed && !e.inNor && s.norTakes e.record).map (·.record)) = some r) :
    exec .caskFlush s = .next (
      ((s.norWrite r).markInNor k r.seq).lossEnd.served (if decide (r.severity < 2) && decide (s.unwritten < 384) then 0 else 4)) := by
  show execCaskFlush s = _
  simp only [execCaskFlush, holds, idle, works, lowest, Bool.or_self, Bool.false_eq_true, if_false]

/-! ### The NOR (R419) -/

/-- A sector whose retry has failed too is retired to the free spare; as the first of its row it does not fail the NOR. -/
theorem exec_norWriteFail_of_spare {sector sp : Nat} {t : State} (bad : List Nat) (on : s.isOn .aux = true)
    (works : s.flag (.csk .statusNorFailed) = false) (first : s.cask.failRow = [])
    (noted : t = ({ s with cask := { s.cask with failRow := [sector] } } : State)) (spare : t.cask.freeSpare = some sp) :
    exec (.norWriteFail sector false bad) s = .next (
      (({ t with cask := { t.cask with retired := t.cask.retired.set sector sp }.storeHdr } : State).dropBad sector
        bad).post 0x08 0x02 1 (sector + 256 * sp)) := by
  subst noted
  have fewer : ¬([sector].length ≥ 3) := by simp
  show execNorWriteFail sector false bad s = _
  simp only [execNorWriteFail, on, works, first, spare, fewer, List.contains_nil, List.nil_append, Bool.not_true, Bool.or_self,
    Bool.false_eq_true, if_false]

/-! ### Commits (R475) -/

section
variable (on : s.isOn .aux = true)
include on

theorem exec_cskCommit_of_free (free : s.flag (.csk .commitStatusBusy) = false) : exec .cskCommit s = .next s.commitCsk := by
  show execCskCommit s = _
  simp [execCskCommit, on, free]

/-- A commit while the ring is being erased is held, once. -/
theorem exec_cskCommit_of_busy (busy : s.flag (.csk .commitStatusBusy) = true) (first : 0xF ∉ s.heldCommits) :
    exec .cskCommit s = .next ({ s with heldCommits := s.heldCommits ++ [0xF] }) := by
  show execCskCommit s = _
  simp [execCskCommit, on, busy, first]

end

/-! ### The confirmation of an image (R387) -/

/-- Which image a Kiln runs is no part of the images' states. -/
@[simp] theorem State.imageOf_setImgState (s : State) (x v : Nat) (k : Kiln) : (s.setImgState x v).imageOf k = s.imageOf k := rfl

/-- The image on trial of a Kiln that is active or shown healthy is confirmed. -/
theorem exec_imageConfirmTimer_of_trial {k : Kiln} (acts : s.kilnActs = true) (runs : s.active = some k ∨ s.shownHealthy k = true)
    (stored : s.imageOf k < 2) (trial : s.imgState (s.imageOf k) = 1) :
    exec (.imageConfirmTimer k) s = .next ((s.setImgState (s.imageOf k) 2).post 0x0B 3 0 ((s.setImgState (s.imageOf k) 2).imageOf k)) := by
  have serves : (s.active == some k || s.shownHealthy k) = true := by simpa using runs
  exact congrArg Host.Outcome.next (if_pos (by rw [acts, serves, trial, decide_eq_true stored]; rfl))

end

/-! ### The statement -/

/-- Settles O57: each clause is what its command does when its condition holds. -/
theorem caskCommandsComplete : Obligations.CaskCommandsComplete := by
  refine ⟨?mark, ?readSeq, ?sealed, ?flush, ?writeFail, ?timeout, ?commit, ?commitHeld, ?erased, ?confirmHolder, ?confirmStandby⟩
  case mark => exact fun s value on => congrArg Host.Outcome.next (if_pos on)
  case readSeq => exact fun s seq on => congrArg Host.Outcome.next (if_pos on)
  case sealed => exact fun s seq k holds => exec_recordSeal_of_held seq holds
  case flush => exact fun s k r holds idle works lowest => exec_caskFlush_of_ready holds idle works lowest
  case writeFail =>
    rintro s sector _ bad t sp on rfl works first noted spare
    exact exec_norWriteFail_of_spare bad on works first noted spare
  case timeout => exact fun s on => congrArg Host.Outcome.next (if_pos on)
  case commit => exact fun s on free => exec_cskCommit_of_free on free
  case commitHeld => exact fun s on busy first => exec_cskCommit_of_busy on busy first
  case erased => exact fun s busy => congrArg Host.Outcome.next (if_pos busy)
  case confirmHolder => exact fun s k acts holds stored trial => exec_imageConfirmTimer_of_trial acts (.inl holds) stored trial
  case confirmStandby => exact fun s k acts healthy stored trial => exec_imageConfirmTimer_of_trial acts (.inr healthy) stored trial

end Sys2Proof.Machine
end

section
/-!
PROOFS. The input supply and the removal of the module (R418, R454, R466 to R468, R471).
-/

namespace Sys2Proof.Machine

section
variable {s : State}

section
variable (on : s.isOn .aux = true)
include on

/-! ### The input (R418, R454) -/

/-- The return of power ends the stop of recording (log entry 122). -/
theorem exec_powerReturn_of_stopped (stopped : s.cask.stopped = true) :
    exec .powerReturn s = .next (({ s with cask := { s.cask with stopped := false } } : State).setF (.mod .pwrStatusPwrLoss) 0 1) :=
  congrArg Host.Outcome.next (if_pos (by rw [on, stopped, Bool.and_self]))

theorem exec_inputLow_of_low {volt : Nat} (low : 3800 ≤ volt ∧ volt < 4000) (first : s.flag (.mod .pwrStatusInputLow) = false) :
    exec (.inputLow volt) s = .next ((s.setF (.mod .pwrStatusInputLow) 0 1).powerEvent 1 1 volt) :=
  congrArg Host.Outcome.next (if_pos (by rw [on, decide_eq_true low, first]; rfl))

theorem exec_inputHigh_of_high {volt : Nat} (high : 6000 < volt) (first : s.flag (.mod .pwrStatusInputHigh) = false) :
    exec (.inputHigh volt) s = .next ((s.setF (.mod .pwrStatusInputHigh) 0 1).powerEvent 2 1 (volt % 2 ^ 16)) :=
  congrArg Host.Outcome.next (if_pos (by rw [on, decide_eq_true high, first]; rfl))

/-! ### A module that leaves its seat, and returns (R468) -/

theorem exec_surpriseRemoval_of_seated (seated : s.flag (.mod .pwrStatusSeated) = true) :
    exec .surpriseRemoval s = .next (((s.setF (.mod .pwrStatusSeated) 0 0).powerEvent 6 2 0).abandonImage.powerFlush) :=
  congrArg Host.Outcome.next (if_pos (by rw [on, seated, Bool.and_self]))

/-- Recording stays stopped where MAIN is TRIPPED (log entry 121). -/
theorem exec_seatedReturn_of_unseated (unseated : s.flag (.mod .pwrStatusSeated) = false) :
    exec .seatedReturn s = .next (
      ({ s with cask := { s.cask with stopped := s.cask.stopped && s.getF (.mod .pwrStatusMain) == 3 } } : State).setF
        (.mod .pwrStatusSeated) 0 1) :=
  congrArg Host.Outcome.next (if_pos (by rw [on, unseated]; rfl))

end

/-! ### A planned removal (R467) -/

section
variable (acts : s.kilnActs = true)
include acts

theorem exec_removalSyncEnd_of_syncing (syncing : s.getF (.mod .removePhase) = 2) :
    exec .removalSyncEnd s = .next (
      ((List.range 12).foldl (fun s k => if s.isOn (.opt k) then s.portPark k 1 else s)
        ((((s.removeAt 3).setModState .removing).sendSummary).sendStatus)).iodOff.mainRelease) :=
  congrArg Host.Outcome.next (if_pos (by rw [acts, syncing]; rfl))

theorem exec_removeReady_of_cooled {t : State} (cooling : s.getF (.mod .removePhase) = 4) (cooled : s.flag (.drv .statusHotN) = false)
    (ready : t = (s.commandDrive (allValves openCode) 0 3).removeAt 5) :
    exec .removeReady s = .next (((t.powerEvent 5 0 (t.getF (.mod .removeSource))).sendStatus).indicate .steadyBlue) := by
  subst ready
  exact congrArg Host.Outcome.next (if_pos (by rw [acts, cooling, cooled]; rfl))

end

end

/-! ### The statement -/

/-- Settles O58: each clause is what its command does when its condition holds. What the return of power undoes, and that a return to the
seat resumes only where MAIN is not TRIPPED, are the model's choices (log entries 122 and 121). -/
theorem inputAndRemovalCommandsComplete : Obligations.InputAndRemovalCommandsComplete := by
  refine ⟨?loss, ?returns, ?low, ?high, ?trip, fun s => rfl, fun s => rfl, ?synced, ?ready, ?surprise, ?seated⟩
  case loss => exact fun s on => congrArg Host.Outcome.next (if_pos on)
  case returns => exact fun s on stopped => exec_powerReturn_of_stopped on stopped
  case low => exact fun s volt on low first => exec_inputLow_of_low on low first
  case high => exact fun s volt on high first => exec_inputHigh_of_high on high first
  case trip => exact fun s on => congrArg Host.Outcome.next (if_pos on)
  case synced => exact fun s acts syncing => exec_removalSyncEnd_of_syncing acts syncing
  case ready => exact fun s t acts cooling cooled ready => exec_removeReady_of_cooled acts cooling cooled ready
  case surprise => exact fun s on seated => exec_surpriseRemoval_of_seated on seated
  case seated => exact fun s on unseated => exec_seatedReturn_of_unseated on unseated

end Sys2Proof.Machine
end

section
/-!
PROOFS. The self-test: slices, their schedule, and clusters mapped out (R428 to R430, R436, R439 to R441, R478).
-/

namespace Sys2Proof.Machine

section
variable {s : State}

/-! ### Slices and their schedule (R428 to R430, R436) -/

/-- A slice that passes is no longer among those that run, and counts. -/
theorem exec_sliceEnd_of_passed {kind unit : Nat} {x : Slice} (bad : List Nat)
    (runs : (s.bst.running.find? fun x => x.kind == kind && x.unit == unit) = some x) :
    exec (.sliceEnd kind unit true bad) s = .next (
      ((({ s with bst := { s.bst with running := s.bst.running.filter fun x => !(x.kind == kind && x.unit == unit) } } : State).addWrap
        (.bst .slicesDone) 0 1).slicePass kind unit bad).sliceLeft kind unit) := by
  show execSliceEnd kind unit true bad s = _
  simp only [execSliceEnd, runs, if_true]

section
variable (acts : s.kilnActs = true)
include acts

theorem exec_sliceStart_of_ok {kind unit : Nat} (ok : s.sliceOk kind unit = true) :
    exec (.sliceStart kind unit) s = .next (
      let t := ((if clusterSlice kind then s.enterSlice unit else s).served 1).markSlice (sliceDie kind unit)
      { t with bst := { t.bst with running := t.bst.running ++ [⟨kind, unit, false⟩] } }) :=
  congrArg Host.Outcome.next (if_pos (by rw [acts, ok, Bool.and_self]))

/-- Below level 6 an activity rises by one level, and does not yet starve at the ceiling (R430). -/
theorem exec_schedAging_of_low {a : Nat} (activity : a < 5) (low : s.getF (.bst .ageLevel) a < 6) :
    exec (.schedAging a) s = .next (s.setF (.bst .ageLevel) a (s.getF (.bst .ageLevel) a + 1)) := by
  have below : s.getF (.bst .ageLevel) a < 7 := by omega
  have notLast : ¬(s.getF (.bst .ageLevel) a + 1 = 7) := by omega
  show execSchedAging a s = _
  simp only [execSchedAging, acts, activity, below, notLast, decide_true, Bool.and_self, false_and, if_true, if_false]

/-! ### Clusters mapped out (R439 to R441, R478) -/

/-- A failed cluster that holds no token and owes no completion record is gated, and its logical number is absent. -/
theorem exec_clusterAbsent_of_failed {c l : Nat} (place : s.logicalOf c = some l) (on : s.isOn (.core (c / 208)) = true)
    (failed : (s.cl c).failed = true) (noToken : (s.cl c).tokens = []) (noRecord : (s.wiq.completions.all (·.phys != some c)) = true) :
    exec (.clusterAbsent c) s = .next ((s.gateCluster c false).makeAbsent l c) := by
  show execClusterAbsent c s = _
  simp only [execClusterAbsent, place, acts, on, failed, noToken, noRecord, List.isEmpty_nil, Bool.and_self, if_true]

/-- At a job boundary, with claims stopped and no token held, a logical cluster is remapped. -/
theorem exec_clusterRemap_of_drained {l : Nat} (on : s.isOn (.core (l / 200)) = true) (pending : l ∈ s.pendingRemaps (l / 200))
    (stopped : s.flag (.wiq .ctrlClaimStop) = true) (drained : s.heldTokens = 0) :
    exec (.clusterRemap l) s = .next (s.remap l) :=
  congrArg Host.Outcome.next (if_pos (by rw [acts, on, List.contains_iff_mem.2 pending, stopped, drained]; rfl))

end

end

/-! ### The statement -/

/-- Settles O59: each clause is what its command does when its condition holds. -/
theorem selfTestCommandsComplete : Obligations.SelfTestCommandsComplete := by
  refine ⟨?start, ?passed, ?aging, ?absent, ?remap⟩
  case start => exact fun s kind unit acts ok => exec_sliceStart_of_ok acts ok
  case passed =>
    rintro s kind unit _ bad x runs rfl
    exact exec_sliceEnd_of_passed bad runs
  case aging => exact fun s a acts activity low => exec_schedAging_of_low acts activity low
  case absent =>
    exact fun s c l place acts on failed noToken noRecord => exec_clusterAbsent_of_failed acts place on failed noToken noRecord
  case remap => exact fun s l acts on pending stopped drained => exec_clusterRemap_of_drained acts on pending stopped drained

end Sys2Proof.Machine
end
